-- ==== Sys2Proof/Word.lean ====
section
/-! DEFINITION. The word and byte types of the OA2400's internal address space (00 R-conventions: 32-bit IAS words,
8-bit bytes, little-endian fields). -/

namespace Sys2Proof

/-- One byte. -/
abbrev Byte := BitVec 8

/-- One 32-bit word of the internal address space (R25). -/
abbrev Word := BitVec 32

end Sys2Proof
end

