-- ==== Sys2Proof/Syntax.lean ====
section
/-! DEFINITION. The commands of the block: one constructor per row of the table of operations and events
(spec/opcode_table.json), with the operands the spec gives it. An event row carries what the outside world or the part's
own timers present with it: the time `t` on the time counter (units of 2⁻⁸ ns, R81), pin levels, packet bytes, observed
errors. A row of the KMI catalogue carries the mailbox whose posted command firmware starts. -/

namespace Sys2Proof

/-- A KMI command as posted in a mailbox (Table 12-4), with its data in (inline or read from the host buffer). -/
structure KmiCmd where
  opcode : Nat
  tag : Nat
  flags : Nat
  rsvd : Nat
  argLen : Nat
  resMax : Nat
  hostAddr : Nat
  hostLen : Nat
  a0 : Nat
  a1 : Nat
  a2 : Nat
  a3 : Nat
  dataIn : List Nat
  deriving DecidableEq, Repr

/-- The routed inputs of a Slice at one clock edge (04, The Slice): bit `j` of each nibble belongs to LUT `j`. -/
structure SliceIn where
  a : Nat
  b : Nat
  c : Nat
  d : Nat
  x : Nat
  mx0 : Bool
  mx1 : Bool
  we : Bool
  ce0 : Bool
  rst0 : Bool
  set0 : Bool
  ce1 : Bool
  rst1 : Bool
  set1 : Bool
  cx : Bool
  cin : Bool
  deriving DecidableEq, Repr

/-- What one port of a Cellar or Larder block sees at its edge (R161, R162): enable, byte write enables, address, data in,
output reset, the error a read of the array meets (0 none, 1 single-bit, 2 double-bit; `flips` is the pattern of a
double error over the data word), and whether the edge came before slot 2 of the last boundary (R172, R173). -/
structure PortReq where
  en : Bool
  we : Nat
  addr : Nat
  data : Nat
  orst : Bool
  err : Nat
  flips : Nat
  pre : Bool
  deriving DecidableEq, Repr

/-- The inputs of one PAB in one cycle of its tree (R180, R182, R189). -/
structure PabIn where
  pab : Nat
  a : Nat
  b : Nat
  d : Nat
  opc : Nat
  cidx : Nat
  cwe : Bool
  ce : Bool
  rbase : Nat
  clrStat : Bool
  deriving DecidableEq, Repr

/-- How a time reference is lost (R83, R93): TIMEREF_IN edges, PPS_IN edges, the Sync Chain, the twin link. -/
inductive RefLoss where
  | timeref | pps | chain | twin
  deriving DecidableEq, Repr

/-- How a member declares its link lost (R93). -/
inductive LinkLoss where
  | silence | crc | symbol
  deriving DecidableEq, Repr

/-- The BIST element results a run reports: element, outcome code of Table 19-2, and failing instances
(instance, failing cells, data words, whether repaired). -/
structure BistFail where
  element : Nat
  inst : Nat
  failBits : Nat
  data0 : Nat
  data1 : Nat
  /-- Failing rows and columns as (row, column) pairs, in address order. -/
  cells : List (Nat × Nat)
  deriving DecidableEq, Repr

/-- What a DRAM training finds (R281, R306, R307): geometry, lane words (DMC_LANE*n*), DFE taps, the first failing lane, a
failed verification, and the duration in 0.1 ms. -/
structure TrainRes where
  badLane : Option Nat
  verifyFail : Bool
  density : Nat
  width : Nat
  /-- The identity read of each unit (2 × channel + rank) × 2 + subchannel; empty where no device answers. -/
  ids : List (List Nat)
  lanes : List Nat
  dfe : List Nat
  time : Nat
  deriving DecidableEq, Repr

/-- What a Watchman frame operation finds in the stored frame (R361, R367): a corrected single-bit error, an uncorrectable
word or failed CRC outside RAM words, RAM words that are uncorrectable, the frame data as read, and whether the source
plane's frame fails its own check. -/
structure FrameFind where
  corrected : Bool
  bad : Bool
  ramBad : Nat
  asRead : Nat
  planeBad : Bool
  deriving DecidableEq, Repr

/-- What the programming of a group of 8 frames finds: a frame of the group that failed twice (R334), and the frames, one bit each, whose write
counter is uncorrectable (R374). -/
structure GroupProg where
  bad : Option Nat
  cntUe : Nat
  deriving DecidableEq, Repr

/-- The margin read of one frame (R371, R372): class (0 PASS, 1 WARN, 2 PLANE_UE), whether the bank's frame checks CLEAN or
CORRECTED before a refresh, and whether the frame passes after it. -/
structure MarginFind where
  cls : Nat
  bankOk : Bool
  cured : Bool
  /-- The frame's write counter is found uncorrectable (R374). -/
  cntUe : Bool
  deriving DecidableEq, Repr

/-- What a start observes (16): PUDC_N twice, PERST_N, the banks whose VIO is good, and whether each firmware copy
verifies. -/
structure StartObs where
  pudc0 : Bool
  pudc1 : Bool
  perst : Bool
  vioOk : Nat
  fw0 : Bool
  fw1 : Bool
  deriving DecidableEq, Repr

/-- What the host's enumeration has written when the link reaches L0 (R225, R231): Bus Master Enable and MSI-X Enable by function (bit 0 PF0, 1 PF1,
1 + v VF v), the masked MSI-X vectors as (function, vector), and the values of the seven BARs of Table 07-3. -/
structure HostEnum where
  bme : Nat
  msixEn : Nat
  msixMasked : List (Nat × Nat)
  bars : List Nat
  deriving DecidableEq, Repr

/-- An outstanding window read and the time at which it is looked at (R233). -/
structure WinTmo where
  rid : Nat
  t : Nat
  deriving DecidableEq, Repr

/-- Words that a lane's receiver takes, in their order (Table 06-1: 32, 40, 40 or 66 bits by PCS mode; bit 0 is the first on the line). -/
structure LaneRx where
  lane : Nat
  words : List Nat
  deriving DecidableEq, Repr

/-- A word on a bonded lane with its arrival, counted in words (R198). -/
structure MarkRx where
  index : Nat
  word : Nat
  deriving DecidableEq, Repr

/-- A level on an interrupt line's pin and how many CD89 cycles it has held (R467). -/
structure IrqLevel where
  level : Bool
  cycles : Nat
  deriving DecidableEq, Repr

/-- The commands: the rows of spec/opcode_table.json in its order. -/
inductive Instr where
  /-- CURFEW (R39): The Curfew offset passes, ending the work window and opening the rest window. -/
  | curfew (t : Nat)
  /-- RDONE (R42): A pulse on a Room's RDONE counts as completion of the open tick if it is the first in the tick. -/
  | rdone (room t : Nat)
  /-- TICK_STOPPED (R65): After 1.0 s without an accepted event the tick engine enters STOPPED. -/
  | tickStopped (t : Nat)
  /-- TIMER_EVENT (R606): Under TIMER a tick event is delivered PERIOD_NS after the previous one. -/
  | timerEvent (t skew : Nat)
  /-- HOST_TICK (R35): A write of 1 to TCK_HOST_TICK.GO delivers one event while the source is HOST. -/
  | hostTick (t skew : Nat)
  /-- SOURCE_SWITCH (R36): A write of 1 to TCK_SRC.SWITCH requests a change of tick source. -/
  | sourceSwitch (t : Nat)
  /-- TICK_ENGINE_ENABLE (R60): Writing TCK_CTRL.EN to 1 lets the next event start the first boundary. -/
  | tickEngineEnable (t : Nat)
  /-- TICK_ENGINE_DISABLE (R54): Writing TCK_CTRL.EN to 0 stops events and applies pending Boundary settings and switches at once. -/
  | tickEngineDisable (t : Nat)
  /-- REGISTER_WRITE (R54): An IAS write to a register field that has no row of its own takes effect at once or at the next boundary. -/
  | registerWrite (addr value mask : Nat)
  /-- ENCODER_EDGE (R70): A filtered transition on an encoder input is counted, timestamped and the divider schedule rerun. -/
  | encoderEdge (ch : Nat) (a b : Bool) (stamp t : Nat)
  /-- INDEX_EDGE (R72): A qualifying Z edge latches, checks or zeroes the position as ZMODE selects. -/
  | indexEdge (ch t : Nat)
  /-- ENCODER_STOPPED (R73): A channel with no counted edge for STOP times 8 ms becomes STOPPED. -/
  | encoderStopped (ch t : Nat)
  /-- ENCODER_EVENT_DUE (R79): The scheduled time of the next divider threshold crossing arrives and an ENCODER tick event is delivered. -/
  | encoderEventDue (skew : Nat)
  /-- DIV_LOAD (R78): A write of 1 to MSU_DIV_CTRL.LOAD sets the threshold to the current forward position plus PHASE. -/
  | divLoad (t : Nat)
  /-- TB_LOCK (R82): The time base meets its lock criterion and LOCKED is set. -/
  | tbLock (t value : Nat)
  /-- TB_REF_LOST (R83): The selected time reference is lost and the time base enters holdover. -/
  | tbRefLost (cause : RefLoss) (t : Nat)
  /-- TB_SET (R84): A write of 1 to MSU_TB_CTRL.SET steps the time counter at once or at the next PPS edge. -/
  | tbSet (t : Nat)
  /-- PPS_EDGE (R84): A rising PPS_IN edge loads a pending step value or disciplines REF10_PPS. -/
  | ppsEdge (t : Nat) (inWindow : Bool)
  /-- TRIG_PULSE (R85): A trigger pulse's programmed rise time arrives and the TRIG output pulses. -/
  | trigPulse (n : Nat)
  /-- SYNC_ENUM (R90): A write of 1 to SYC_CTRL.ENUM at the master sends an ENUM message. -/
  | syncEnum
  /-- ENUM_MESSAGE (R90): A member takes its hop number from an ENUM message and forwards it. -/
  | enumMessage (msg : List Nat)
  /-- ENUM_REPLY (R90): An ENUM_REPLY is counted upstream and the master sets SEEN and its error flags. -/
  | enumReply (msg : List Nat)
  /-- SYNC_TICK_MESSAGE (R92): A member accepts a TICK message and delivers its tick event at the master time plus SYC_DELAY. -/
  | syncTickMessage (twin : Bool) (msg : List Nat) (t skew : Nat)
  /-- SYNC_MERGE_MESSAGE (R92): A member accepts a MERGE message and counts a merged event. -/
  | syncMergeMessage (twin : Bool) (msg : List Nat) (t : Nat)
  /-- CAL_MESSAGE (R98): A receiver uses a CAL message to measure and steer away its offset, and returns CAL_ECHO. -/
  | calMessage (twin : Bool) (msg : List Nat) (arrival echoAt : Nat)
  /-- CAL_ECHO (R97): The sender computes a round trip from a CAL_ECHO and updates the hop delay. -/
  | calEcho (twin : Bool) (msg : List Nat) (launch arrival : Nat)
  /-- CAL_SEND (R93): When no tick or merge message is due, a CAL message is sent at most 16 µs after the last. -/
  | calSend (twin : Bool) (t : Nat)
  /-- SYNC_STOP_MESSAGE (R94): A STOP message reporting the master's entry into STOPPED is received and forwarded. -/
  | syncStopMessage (twin : Bool) (msg : List Nat) (t : Nat)
  /-- STATUS_MESSAGE (R96): A member aggregates a downstream STATUS with its own state and sends it upstream. -/
  | statusMessage (twin : Bool) (msg : List Nat) (t : Nat)
  /-- SYNC_LINK_LOST (R93): A member declares its link lost after 64 µs without a valid message, three CRC failures or 1 µs without symbol lock. -/
  | syncLinkLost (twin : Bool) (cause : LinkLoss) (t : Nat)
  /-- FPLL_LOCK_LOSS (R153): A fabric PLL loses lock and its trees stop low. -/
  | fpllLockLoss (pll : Nat)
  /-- FPLL_RELOCK (R153): A fabric PLL relocks and its stopped trees restart, committing tick-bound state. -/
  | fpllRelock (pll us : Nat)
  /-- DISTRIBUTED_RAM_WRITE (R126): A RAM-mode Slice writes at the active edge with WE, and its check bits are recomputed. -/
  | distributedRamWrite (room tile slice : Nat) (inp : SliceIn)
  /-- BLOCK_PORT_ACCESS (R161): A Cellar or Larder port reads or writes on its edge under width, RDW and collision rules. -/
  | blockPortAccess (room : Nat) (larder : Bool) (idx : Nat) (pa pb : Option PortReq) (window aFirst : Bool)
  /-- PAB_CYCLE (R182): Each PAB lane performs its pre-add, multiply and accumulate for one cycle with CE 1. -/
  | pabCycle (room : Nat) (inp : List PabIn)
  /-- PAB_CLEAR_STAT (R183): A pulse on CLR_STAT clears PRE_OVF and ACC_OVF. -/
  | pabClearStat (room pab : Nat)
  /-- LANE_ENABLE (R191): A write of RX_EN or TX_EN to 1 starts the lane PLL at MUL or is refused with RATE_ERR. -/
  | laneEnable (lane : Nat) (rx tx : Bool)
  /-- CDR_LOCK (R195): A lane recovers the clock and adapts equalisation. -/
  | cdrLock (lane : Nat)
  /-- WORD_LOCK (R194): A lane acquires word lock under its PCS mode. -/
  | wordLock (rx : LaneRx)
  /-- ING_LANE_DOWN (R195): WORD_LOCK falls on a lane of an enabled Line Assembler, setting LOST and closing the open line. -/
  | ingLaneDown (rx : LaneRx) (refPresent : Bool)
  /-- LAS_ENABLE (R196): A write of LAS_CTRL.EN to 1 enables a Line Assembler or is refused with CFG_ERR. -/
  | lasEnable (la t : Nat)
  /-- DESKEW_MARKER (R198): A marker on a bonded lane aligns the bond or forces realignment. -/
  | deskewMarker (la lane : Nat) (mark : MarkRx)
  /-- INGEST_PACKET (R199): A whole packet is delimited, CRC-checked and classed as line or side packet. -/
  | ingestPacket (la : Nat) (lanes : List (List Nat)) (t tEnd : Nat)
  /-- LINE_FILL (R214): A buffered line is written into its block or DRAM target once its fill window opens. -/
  | lineFill (la rowsInTime : Nat)
  /-- RECORD_BLOCK_POLL (R219): Every 32 CD88 cycles the Line Assembler reads the fabric-owned pointer words. -/
  | recordBlockPoll (la : Nat)
  /-- TRANSMIT_PACKET (R221): A transmit packet placed by the fabric or KMI is sent on the transmit lane. -/
  | transmitPacket (la : Nat)
  /-- PERST_N_RELEASE (R228): PERST_N rising starts the endpoint readiness timeline. -/
  | perstNRelease (t : Nat)
  /-- CFG_READY (R228): The endpoint settings load completes and the LTSSM leaves Detect.Quiet with configuration space ready. -/
  | cfgReady (t us : Nat) (readBad : Bool)
  /-- LINK_TRAINED (R225): The link reaches L0 at a negotiated rate and width, with CXL protocols where at 8 GT/s or above. -/
  | linkTrained (rate width : Nat) (flit : Bool) (enum : HostEnum) (vfEnable pmeEn : Bool)
  /-- HLK_RETRAIN (R227): A write of 1 to HLK_CTRL.RETRAIN retrains the link with the current caps. -/
  | hlkRetrain
  /-- FUNDAMENTAL_RESET (R242): PERST_N low resets all of PD26, stops DMA, ends the load session and aborts mailboxes. -/
  | fundamentalReset
  /-- HOT_RESET (R242): A hot reset or link-down resets PD26 except PHY calibration. -/
  | hotReset
  /-- CXL_RESET (R242): A CXL Reset clears CXL.cache and CXL.mem state, the HDM decoder and the bias table. -/
  | cxlReset
  /-- FLR_PF0 (R242): An FLR of PF0 resets PF0 and its mailbox state and ends the load session. -/
  | flrPf0
  /-- FLR_PF1 (R277): An FLR of PF1 clears VF Enable and resets rings bound to PF1 or any VF with GEN advanced. -/
  | flrPf1
  /-- FLR_VF (R277): An FLR of a VF resets that VF and its rings. -/
  | flrVf (v : Nat)
  /-- BUS_MASTER_DISABLE (R243): Clearing Bus Master Enable stops the function's DMA and moves its rings to ERROR. -/
  | busMasterDisable (fn : Nat)
  /-- D_STATE_CHANGE (R244): A function changes D-state, which may start a device wake. -/
  | dStateChange (fn : Nat) (d3hot : Bool)
  /-- PME_TURN_OFF (R245): The PME_Turn_Off and PME_TO_Ack handshake completes, allowing OFF. -/
  | pmeTurnOff
  /-- WINDOW_REQUEST (R233): A host access to BAR4 is split and delivered to the Room window port, or completes at once when unavailable. -/
  | windowRequest (offset len : Nat) (read : Bool) (data : List Nat) (tag : Nat)
  /-- WINDOW_ANSWER (R233): A Room answers a window read on outbound slot 255 and the read completes. -/
  | windowAnswer (room rid : Nat) (data : List Nat)
  /-- HLK_WIN_TMO (R233): A window read unanswered for TMO_US completes with all-ones data. -/
  | hlkWinTmo (tmo : WinTmo)
  /-- HDM_COMMIT (R236): The host commits the HDM decoder, which succeeds or sets Error Not Committed. -/
  | hdmCommit (base size ways skip : Nat)
  /-- CXL_MEM_REQUEST (R240): A host CXL.mem read or write is served, flipping a DEVICE-bias page to HOST. -/
  | cxlMemRequest (hpa : Nat) (write : Option (List Nat)) (poison : Bool) (readErr : Nat) (tag : Nat)
  /-- H2D_SNOOP (R238): An H2D snoop is answered with RspIHitI. -/
  | h2dSnoop (kind addr : Nat)
  /-- BIAS_FLIP_START (R241): A write of HLK_BIAS_OP.GO starts flipping a page to DEVICE bias. -/
  | biasFlipStart (page : Nat)
  /-- BIAS_FLIP_DONE (R241): The 1,024 RdOwnNoData of a flip complete and the page becomes DEVICE, unless cancelled. -/
  | biasFlipDone
  /-- RING_START (R250): START moves a DISABLED or STOPPED ring to ENABLED or is refused. -/
  | ringStart (r : Nat)
  /-- RING_STOP (R254): STOP flushes open transfers, posts held completions and enters STOPPED. -/
  | ringStop (r : Nat)
  /-- RING_ABORT (R255): ABORT advances GEN, zeroes the queue indices and enters STOPPED. -/
  | ringAbort (r : Nat)
  /-- RING_ABORT_DONE (R255): ABORT completes once every write issued for the ring has left the Host Link. -/
  | ringAbortDone (r : Nat)
  /-- RING_DISABLE (R253): DISABLE returns a STOPPED or ERROR ring to DISABLED. -/
  | ringDisable (r : Nat)
  /-- DOORBELL (R267): A doorbell write updates the SQ producer and CQ consumer indices and may re-arm the interrupt. -/
  | doorbell (fn idx : Nat) (sqPi cqWord : Option Nat) (t : Nat)
  /-- DESCRIPTOR_FETCH (R257): A descriptor fetch completes and the descriptor is checked and consumed. -/
  | descriptorFetch (r err : Nat) (bytes : List Nat)
  /-- F2H_TRANSFER (R262): An outbound ring-data transfer is written into host buffers or dropped or stalled. -/
  | f2hTransfer (room port slot : Nat) (words : List (Nat × Nat)) (last writesDone : Bool)
  /-- DRAM_COPY_TRANSFER (R264): A DRAM_COPY word makes the engine copy a DRAM region to the host buffer. -/
  | dramCopyTransfer (room port slot word : Nat) (readErr writesDone : Bool)
  /-- H2F_TRANSFER (R265): Host buffer data is read and delivered to the Room as inbound words. -/
  | h2fTransfer (r : Nat)
  /-- HOST_READ_COMPLETION (R265): A ring DMA read completes, possibly poisoned, timed out or with UR or CA. -/
  | hostReadCompletion (r kind : Nat) (data : List Nat)
  /-- DELAYED_POST (R270): A held completion whose data writes finish after slot 4 is posted with DELAYED. -/
  | delayedPost (r : Nat)
  /-- RING_IRQ_AGE (R276): The oldest pending entry reaches TIME_US and the armed ring interrupts. -/
  | ringIrqAge (r t : Nat)
  /-- ROOM_GONE (R274): Open transfers end with ROOM_GONE when a non-overrun clamp begins on the Room's ports. -/
  | roomGone (room : Nat)
  /-- DRAM_WRITE_TRANSFER (R290): A Room DRAM write transfer is checked against its stream and queued or discarded. -/
  | dramWriteTransfer (room port stream header : Nat) (words : List (Nat × Nat)) (t : Nat)
  /-- DRAM_READ_REQUEST (R291): A Room DRAM read request returns data words or one error word. -/
  | dramReadRequest (room port stream word t : Nat)
  /-- DRAM_ACK (R292): An acknowledgement word is sent after the last line of a write with ACK is written or fails. -/
  | dramAck (room port : Nat)
  /-- DMC_COMMAND_SELECT (R295): A subchannel chooses and issues its next DRAM command. -/
  | dmcCommandSelect (sc t : Nat) (colOk : Bool) (ceBeats : Nat) (ue : Bool)
  /-- PAGE_TIMEOUT (R296): A row idle for PAGE_TMO cycles is closed. -/
  | pageTimeout (sc bank t : Nat)
  /-- REFRESH_INTERVAL (R298): Each TREFI_NS the refresh debt increases, and under FIXED a refresh starts. -/
  | refreshInterval (t : Nat)
  /-- REFRESH_START (R299): An admitted or forced REFab starts on all ranks of all subchannels. -/
  | refreshStart (t : Nat)
  /-- REFRESH_END (R298): A REFab completes and the debt decreases. -/
  | refreshEnd (t : Nat)
  /-- MR4_POLL (R300): Every 16 ms MR4 is read and doubled refresh entered or left. -/
  | mr4Poll (doubled : Bool)
  /-- ZQ_CALIBRATION (R301): Every 128 ms ZQCal Start is issued, with ZQCal Latch later. -/
  | zqCalibration
  /-- RANK_POWER_DOWN (R304): A rank idle for DMC_PD.IDLE cycles precharges and enters power-down. -/
  | rankPowerDown (sc rank t : Nat)
  /-- DRAM_TRAIN_GO (R305): A write of 1 to DMC_TRAIN_CTRL.GO starts training, resetting the devices. -/
  | dramTrainGo (mode : Nat)
  /-- DRAM_TRAIN_DONE (R306): Training ends, passing or setting FAIL or VERIFY_FAIL. -/
  | dramTrainDone (res : TrainRes)
  /-- DMC_ENABLE (R286): A write of DMC_CFG.EN to 1 checks the masks and starts serving requests, or sets MAP_ERR. -/
  | dmcEnable
  /-- DRAM_INIT_PASS (R309): After training, zero data is written upward from DPA 0 in the background. -/
  | dramInitPass (lines : Nat)
  /-- WRITE_CRC_ALERT (R314): ALERT_n reports a write CRC error; writes are replayed or entered in the bad-line table. -/
  | writeCrcAlert (sc : Nat) (lines : List Nat) (replayed : Bool)
  /-- LOAD_OPEN (R331): LOAD_OPEN opens a load session and declares the image length. -/
  | loadOpen (m : Nat)
  /-- LOAD_DATA (R331): LOAD_DATA passes the next piece of the image, which is checked, decrypted and programmed. -/
  | loadData (m : Nat)
  /-- FRAME_GROUP_PROGRAMMED (R331): A Room finishes programming a group of 8 frames and frees a group buffer. -/
  | frameGroupProgrammed (room : Nat) (prog : GroupProg)
  /-- LOAD_CLOSE (R335): LOAD_CLOSE ends the data, verifies the signature, reads back, makes planes VALID and optionally stages. -/
  | loadClose (m : Nat)
  /-- READBACK_DONE (R335): Read-back of all frames ends and the session's planes become VALID or the session fails. -/
  | readbackDone (bad : Option (Nat × Nat))
  /-- LOAD_ABORT (R334): LOAD_ABORT ends the session and its planes become INVALID. -/
  | loadAbort (m : Nat)
  /-- LOAD_TIMEOUT (R334): No LOAD_DATA for TMO_MS ends the session with DEADLINE. -/
  | loadTimeout
  /-- STAGE (R337): STAGE checks the named Rooms and starts filling their staged banks. -/
  | stage (m : Nat)
  /-- STAGING_GROUP (R337): An admitted staging group moves 8 frames from the inactive plane into the staged bank. -/
  | stagingGroup (room t : Nat) (bad : Option Nat)
  /-- CHANGEOVER (R339): CHANGEOVER schedules a flip of a Room mask at tick T in a changeover slot. -/
  | changeover (m : Nat)
  /-- ROLLBACK (R348): ROLLBACK schedules a flip back to the previous version. -/
  | rollback (m : Nat)
  /-- CANCEL_CO (R344): CANCEL_CO cancels a PENDING changeover. -/
  | cancelCo (m : Nat)
  /-- CO_SLOT_ARM (R356): A write of 1 to CFG_COj_STAT.ARM schedules the slot under R339. -/
  | coSlotArm (j : Nat)
  /-- CO_SLOT_FREE (R345): A write of 1 to CFG_COj_STAT.FREE returns a DONE or CANCELLED slot to FREE. -/
  | coSlotFree (j : Nat)
  /-- HANDOVER_BLOCK_WORK_DONE (R351): CELLAR_INIT, LARDER_CLEAR or PAB_CLEAR work ends and the block ports are enabled. -/
  | handoverBlockWorkDone (room work : Nat)
  /-- SELECT_WORD_PROGRAM (R347): The select words of flipped Rooms are programmed in the first rest window admitting 2 µs. -/
  | selectWordProgram (t : Nat)
  /-- ROOM_POWER_OFF (R355): A Room domain turns off, its banks become EMPTY and its Doors clamp. -/
  | roomPowerOff (room : Nat)
  /-- ROOM_POWER_ON (R355): A Room domain turns on, its active bank fills and the inactive plane restages. -/
  | roomPowerOn (room : Nat)
  /-- WATCHMAN_FRAME_OP (R361): An admitted frame operation checks a bank frame and corrects, reloads or leaves it. -/
  | watchmanFrameOp (room t : Nat) (f : FrameFind)
  /-- RELOAD_PLANE_READ (R362): The plane read of a reload completes after 312.5 ns. -/
  | reloadPlaneRead (room : Nat)
  /-- RELOAD_WRITE (R362): The 64 ns write of a reloaded frame or RAM word is admitted in a rest window. -/
  | reloadWrite (room t : Nat)
  /-- PACING_CREDIT (R368): A Room's pacing credit grows by one frame per interval up to 256. -/
  | pacingCredit (room t : Nat)
  /-- WCH_STARVED (R369): A Room's credit stays at the cap for STARVE_MS and STARVED is set. -/
  | wchStarved (room t : Nat)
  /-- MARGIN_PASS_PERIODIC (R370): A periodic margin pass starts after HOURS of MGMT time. -/
  | marginPassPeriodic (t : Nat)
  /-- MARGIN_PASS_GO (R370): A write of 1 to WCH_MARGIN.GO starts a margin pass. -/
  | marginPassGo
  /-- WATCHMAN_TMR_SCRUB (R375): Every 1 ms the three copies of each WCH_ register are rewritten and HEARTBEAT increments. -/
  | watchmanTmrScrub (fixes : Nat)
  /-- RAM_MAP_REBUILD (R375): An uncorrectable RAM map is rebuilt from the source plane. -/
  | ramMapRebuild (room bank : Nat) (ended : Bool)
  /-- HEARTBEAT_CHECK (R376): Every 1 ms firmware reads HEARTBEAT and after 5 ms unchanged writes SOFT_RST. -/
  | heartbeatCheck (t : Nat)
  /-- WATCHMAN_SOFT_RST (R376): A write of SOFT_RST restarts every Room's pass from frame 0. -/
  | watchmanSoftRst
  /-- WATCHMAN_SAMPLE (R377): A write of WCH_SAMPLE.GO checks one frame with the second checker. -/
  | watchmanSample (pass : Bool)
  /-- WATCHMAN_FORCE (R377): A write of WCH_SAMPLE.FORCE makes the Watchman operate on the frame next. -/
  | watchmanForce
  /-- MBX_POST (R390): A POST doorbell moves an IDLE or DONE mailbox to POSTED. -/
  | mbxPost (m : Nat) (cmd : KmiCmd)
  /-- MBX_ACK (R390): An ACK doorbell moves a DONE mailbox to IDLE. -/
  | mbxAck (m : Nat)
  /-- MBX_ABORT (R396): An ABORT doorbell advances GEN and abandons the posted or running command. -/
  | mbxAbort (m : Nat)
  /-- MBX_EVT_ACK (R401): The host writes the number of event records consumed. -/
  | mbxEvtAck (n : Nat)
  /-- WATCHDOG_EXPIRY (R385): The watchdog count expires and the Innkeeper core alone restarts. -/
  | watchdogExpiry
  /-- WATCHDOG_KICK (R385): A write of KMI_WDOG.KICK restarts the watchdog count. -/
  | watchdogKick
  /-- FAB_MGMT_READ (R407): Returns a Room's management status word. -/
  | fabMgmtRead (m : Nat)
  /-- FAB_MGMT_WRITE (R407): Writes a Room's management control word. -/
  | fabMgmtWrite (m : Nat)
  /-- FPLL_READ (R407): Returns a fabric PLL's settings and lock state. -/
  | fpllRead (m : Nat)
  /-- FPLL_WRITE (R151): Changes a fabric PLL setting unless a VALID Room tree uses it. -/
  | fpllWrite (m : Nat)
  /-- BRAM_SBE (R408): Returns and optionally clears a Room's SBE count. -/
  | bramSbe (m : Nat)
  /-- TICK_REG_READ (R403): Reads a TCK_ register. -/
  | tickRegRead (m : Nat)
  /-- TICK_REG_WRITE (R403): Writes a TCK_ register under mask. -/
  | tickRegWrite (m : Nat)
  /-- TICK_NOW (R409): Returns TICKNO, TCK_STAMP and the time counter sampled together. -/
  | tickNow (m : Nat)
  /-- MSU_REG_READ (R403): Reads an MSU_ register. -/
  | msuRegRead (m : Nat)
  /-- MSU_REG_WRITE (R403): Writes an MSU_ register under mask. -/
  | msuRegWrite (m : Nat)
  /-- SYC_REG_READ (R403): Reads a SYC_ register. -/
  | sycRegRead (m : Nat)
  /-- SYC_REG_WRITE (R111): Writes a SYC_ register, refused while a proposal is open. -/
  | sycRegWrite (m : Nat)
  /-- SYNC_ARM (R101): Arms the unit with a mode identifier, Room mask and optional pitch switch. -/
  | syncArm (m : Nat)
  /-- SYNC_DISARM (R409): Disarms the unit and releases its changeover slot. -/
  | syncDisarm (m : Nat)
  /-- SYNC_PROPOSE (R102): The master proposes a chain mode change for tick T and waits for the outcome. -/
  | syncPropose (m : Nat)
  /-- SYNC_LOCAL (R108): An UNRESOLVED unit locally rolls back or re-applies and releases its clamps. -/
  | syncLocal (m : Nat)
  /-- ING_REG_READ (R403): Reads an ING_ register. -/
  | ingRegRead (m : Nat)
  /-- ING_REG_WRITE (R223): Writes an ING_ register. -/
  | ingRegWrite (m : Nat)
  /-- LAS_REG_READ (R403): Reads a LAS_ register. -/
  | lasRegRead (m : Nat)
  /-- LAS_REG_WRITE (R224): Writes a LAS_ register, ignored while EN is 1. -/
  | lasRegWrite (m : Nat)
  /-- SIDE_RECV (R222): Returns side packets held in the KMI side buffer. -/
  | sideRecv (m : Nat)
  /-- SIDE_SEND (R222): Queues one transmit packet to a camera through KMI. -/
  | sideSend (m : Nat)
  /-- HLK_REG_READ (R403): Reads an HLK_ register. -/
  | hlkRegRead (m : Nat)
  /-- HLK_REG_WRITE (R403): Writes an HLK_ register. -/
  | hlkRegWrite (m : Nat)
  /-- HDM_SET (R235): Sets the HDM DPA base and limit while the decoder is uncommitted. -/
  | hdmSet (m : Nat)
  /-- BIAS_FLIP (R241): Flips an HDM page to DEVICE bias and waits for the result. -/
  | biasFlip (m : Nat)
  /-- HOST_SETTINGS (R229): Writes the host settings record used from the next readiness timeline. -/
  | hostSettings (m : Nat)
  /-- RING_CMD (R411): Issues a START, STOP, ABORT or DISABLE to a ring. -/
  | ringCmd (m : Nat)
  /-- DRG_REG_READ (R403): Reads a DRG_ register. -/
  | drgRegRead (m : Nat)
  /-- DRG_REG_WRITE (R279): Writes a DRG_ register, context fields only while DISABLED. -/
  | drgRegWrite (m : Nat)
  /-- DMC_REG_READ (R403): Reads a DMC_ register or stream entry. -/
  | dmcRegRead (m : Nat)
  /-- DMC_REG_WRITE (R317): Writes a DMC_ register or stream entry. -/
  | dmcRegWrite (m : Nat)
  /-- MEM_SETTINGS (R287): Writes the memory settings record of mapping masks. -/
  | memSettings (m : Nat)
  /-- DRAM_READ (R412): Reads device DRAM on behalf of the host. -/
  | dramRead (m : Nat)
  /-- DRAM_WRITE (R412): Writes device DRAM on behalf of the host. -/
  | dramWrite (m : Nat)
  /-- DRAM_TRAIN (R305): Runs a DRAM training in FULL or STORED mode. -/
  | dramTrain (m : Nat)
  /-- CONFIG_STATUS (R413): Returns configuration state of a Room or the device. -/
  | configStatus (m : Nat)
  /-- WCH_REG_READ (R403): Reads a WCH_ register. -/
  | wchRegRead (m : Nat)
  /-- WCH_REG_WRITE (R403): Writes a WCH_ register. -/
  | wchRegWrite (m : Nat)
  /-- KMI_INFO (R414): Returns KMI version, firmware, stepping, serial number and life-cycle state. -/
  | kmiInfo (m : Nat)
  /-- KMI_ECHO (R414): Returns its four argument words. -/
  | kmiEcho (m : Nat)
  /-- RAW_READ (R404): Reads IAS words at debug level D2. -/
  | rawRead (m : Nat)
  /-- RAW_WRITE (R404): Writes IAS words at debug level D2 with a Ledger entry. -/
  | rawWrite (m : Nat)
  /-- PANTRY_READ (R414): Reads Pantry data permitted by the matrix. -/
  | pantryRead (m : Nat) (retryAt : List Nat) (ueAt : Option Nat)
  /-- PANTRY_PROGRAM (R428): Programs whole Pantry pages. -/
  | pantryProgram (m : Nat)
  /-- PANTRY_ERASE (R428): Erases Pantry sectors. -/
  | pantryErase (m : Nat)
  /-- FW_UPDATE (R414): Writes a signed firmware image to the copy not running. -/
  | fwUpdate (m : Nat)
  /-- OTP_READ (R443): Returns an OTP row with key material withheld. -/
  | otpRead (m : Nat)
  /-- OTP_PROGRAM (R441): Programs the 1 bits of an OTP row. -/
  | otpProgram (m : Nat)
  /-- LEDGER_READ (R584): Returns Ledger records from a sequence number onward. -/
  | ledgerRead (m : Nat)
  /-- LEDGER_ARCHIVE (R583): Archives every waiting Ledger record without the MIN_MS wait. -/
  | ledgerArchive (m : Nat)
  /-- BIST_RUN (R568): Runs BIST at once or arms a run for the next entry into OFF. -/
  | bistRun (m : Nat)
  /-- BIST_RESULT (R571): Returns the result records of the last BIST run. -/
  | bistResult (m : Nat)
  /-- PWR_REG_READ (R403): Reads a PWR_ register. -/
  | pwrRegRead (m : Nat)
  /-- PWR_REG_WRITE (R403): Writes a PWR_ register. -/
  | pwrRegWrite (m : Nat)
  /-- PWR_LIMIT (R415): Sets the deepest power state allowed. -/
  | pwrLimit (m : Nat)
  /-- PWR_ROOMS (R495): Switches Room domains off or on at the host's request. -/
  | pwrRooms (m : Nat)
  /-- PWR_WAKE_REPORT (R490): Returns the details of the last wake. -/
  | pwrWakeReport (m : Nat)
  /-- LC_STATUS (R416): Returns the life-cycle state and debug level. -/
  | lcStatus (m : Nat)
  /-- LC_ADVANCE (R546): Verifies a token and moves the life-cycle state along its path. -/
  | lcAdvance (m : Nat)
  /-- DEBUG_CHALLENGE (R552): Returns a fresh single-use debug challenge. -/
  | debugChallenge (m : Nat)
  /-- DEBUG_UNLOCK (R556): Verifies a response and opens the requested debug level. -/
  | debugUnlock (m : Nat)
  /-- DEBUG_LOCK (R556): Returns the debug level to D0. -/
  | debugLock (m : Nat)
  /-- KEY_PROVISION (R553): Programs key material into an OTP key slot. -/
  | keyProvision (m : Nat)
  /-- SCRAP (R561): Moves the part to SCRAPPED and wipes every secret. -/
  | scrap (m : Nat)
  /-- FF_CAPTURE (R559): Samples user flip-flops of authorised Tiles at slot 0 of the next boundary. -/
  | ffCapture (m : Nat)
  /-- TWN_REG_READ (R403): Reads a TWN_ register. -/
  | twnRegRead (m : Nat)
  /-- TWN_REG_WRITE (R539): Writes a TWN_ register. -/
  | twnRegWrite (m : Nat)
  /-- TWIN_PAIR (R536): Pairs two units into MIRROR or STANDBY at tick T; whether the partner authenticates (step 3) and its side of step 4 agrees. -/
  | twinPair (m : Nat) (authOk peerOk : Bool)
  /-- TWIN_DETACH (R535): Detaches the twin at tick T. -/
  | twinDetach (m : Nat)
  /-- TWIN_ROLE (R537): Swaps the Lead and Companion roles at tick T. -/
  | twinRole (m : Nat)
  /-- TWIN_ARM (R535): Arms Rooms for a twin changeover and holds a changeover slot. -/
  | twinArm (m : Nat)
  /-- GPIO_REG_READ (R403): Reads a GPIO_ register. -/
  | gpioRegRead (m : Nat)
  /-- GPIO_REG_WRITE (R472): Writes a GPIO_ register. -/
  | gpioRegWrite (m : Nat)
  /-- IOB_REG_READ (R403): Reads an IOB_ register. -/
  | iobRegRead (m : Nat)
  /-- IOB_REG_WRITE (R453): Writes an IOB_ register, taking effect at once. -/
  | iobRegWrite (m : Nat)
  /-- PIN_ASSIGN (R459): Assigns a management function to a pin now or at the next boundary. -/
  | pinAssign (m : Nat)
  /-- PERIPH_XFER (R470): Sends and receives bytes through a UART, SPI or I2C controller. -/
  | periphXfer (m : Nat)
  /-- PERIPH_XFER_DONE (R470): A controller transfer ends on completion, timeout or NACK. -/
  | periphXferDone (c : Nat) (rx : List Nat) (nack : Option Nat)
  /-- PNT_PROGRAM (R428): The PROGRAM operation writes a page buffer to a bank, or is refused. -/
  | pntProgram (b : Nat) (nvwp vaux : Bool)
  /-- PNT_ERASE (R428): The ERASE operation starts erasing sectors of a bank, or is refused. -/
  | pntErase (b : Nat) (nvwp vaux : Bool)
  /-- PNT_SUSPEND (R432): The SUSPEND operation suspends a running erase. -/
  | pntSuspend (b : Nat)
  /-- PNT_RESUME (R432): The RESUME operation continues a suspended erase. -/
  | pntResume (b : Nat) (nvwp : Bool)
  /-- PNT_PROGRAM_DONE (R429): A page program and its verify end, successfully or with VERIFY. -/
  | pntProgramDone (b : Nat) (verified : Bool)
  /-- PNT_SECTOR_ERASED (R429): One sector of an erase completes and verifies, and the erase continues or ends. -/
  | pntSectorErased (b : Nat) (verified : Bool)
  /-- FETCH_LOCK_WRITE (R435): A write to PNT_FLOCK.LOCK sets it, or holds a clear until both banks are IDLE. -/
  | fetchLockWrite (lock : Bool)
  /-- OTP_CMD_READ (R447): The READ operation reads an OTP row into OTP_BUF. -/
  | otpCmdRead (row : Nat)
  /-- OTP_CMD_PROGRAM (R441): The PROGRAM operation starts programming OTP_BUF into a row. -/
  | otpCmdProgram (row : Nat) (vaux : Bool)
  /-- OTP_PROGRAM_DONE (R441): An OTP program ends, verified or with an error. -/
  | otpProgramDone (verified : Bool)
  /-- OTP_SHADOW_LOAD (R445): At MGMT release rows 0 to 4 and 32 to 55 are read into shadow registers. -/
  | otpShadowLoad
  /-- VIO_FAULT (R449): A bank's VIO leaves its range and its outputs go high-impedance. -/
  | vioFault (bank : Nat)
  /-- GPIO_IRQ (R467): A filtered level or edge on an interrupt line sets PEND. -/
  | gpioIrq (q : Nat) (x : IrqLevel)
  /-- TIMER_PULSE (R468): A timer in PERIODIC or TICK_ONESHOT mode drives its output pulse. -/
  | timerPulse (tim t : Nat)
  /-- TIMER_CAPTURE (R468): A selected edge on a capture input copies the time counter into CAPT. -/
  | timerCapture (tim t : Nat) (rising : Bool)
  /-- IOB_SAVE (R453): A write of 1 to IOB_CTRL.SAVE stores pin settings in the Itinerary record. -/
  | iobSave
  /-- POWER_DECISION (R477): The power controller chooses the device power state. -/
  | powerDecision (t : Nat) (portsIdle : Bool)
  /-- SCHEDULED_WAKE (R480): The scheduled wake time of a chosen state arrives. -/
  | scheduledWake (t : Nat)
  /-- VOTE_STOP (R481): STOP is sent to each participant in turn, which stops or late-refuses. -/
  | voteStop (t : Nat) (busy : Bool)
  /-- VOTE_BACKOFF_END (R484): The vote back-off expires and cap 10 is released. -/
  | voteBackoffEnd (t : Nat)
  /-- ENTRY_COMMIT (R483): The last STOPPED answer commits the entry; the Luggage list is saved and domains switched. -/
  | entryCommit (t : Nat)
  /-- WAKE (R488): An enabled wake event starts the wake sequence. -/
  | wake (cause t badBanks : Nat)
  /-- NIGHT_PORTER_SAMPLE (R492): Every PERIOD_MS the Night Porter compares movement against THRESH and may set MOVED. -/
  | nightPorterSample (t : Nat) (pos : List Int)
  /-- POWER_ON (R497): VAON rises into range and every domain starts. -/
  | powerOn (o : StartObs)
  /-- SUPPLY_RESET (R593): A supply leaves its limits for 2 µs and every domain except PD24 restarts. -/
  | supplyReset (t : Nat)
  /-- OFF_WAKE (R490): A wake from OFF starts every domain except PD24 afresh. -/
  | offWake (o : StartObs) (railsUp : Bool)
  /-- ITINERARY_CHECK (R504): Kilax checks select words against the Itinerary record and corrects them. -/
  | itineraryCheck (t locks : Nat)
  /-- OPENING (R508): When every mandatory start step has passed, pins, Doors and trees are released. -/
  | opening (t : Nat)
  /-- START_FAIL (R509): A start ends without Opening and CFG_ERR_N is driven low. -/
  | startFail (t : Nat)
  /-- LANES_UP (R515): All four Twin Link lanes are word-locked and aligned. -/
  | lanesUp (t : Nat)
  /-- TICK_RECORD (R524): A tick record from the partner is received and checked. -/
  | tickRecord (bytes : List Nat) (t : Nat)
  /-- STATUS_FRAME_SEND (R524): Every 16 µs a unit sends an 8-byte status frame. -/
  | statusFrameSend (t : Nat)
  /-- STATUS_FRAME (R538): A status frame from the partner updates TWN_PART_PWR and may wake the unit. -/
  | statusFrame (bytes : List Nat) (t : Nat)
  /-- TWN_SUBST (R522): A tick's deadline passes without a message and a substituted event is delivered. -/
  | twnSubst (t skew : Nat)
  /-- CHECKPOINT_DONE (R527): A checkpoint copy to the Companion completes and the header page is written. -/
  | checkpointDone (tick : Nat) (data : List Nat) (ue failed : List Nat) (t : Nat)
  /-- CATCHUP_DONE (R530): Catch-up copying of the checkpoint region completes. -/
  | catchupDone (data : List Nat) (t : Nat)
  /-- TWN_PARTNER_LOST (R531): A unit declares its partner lost. -/
  | twnPartnerLost (t : Nat)
  /-- TWIN_MC_GO (R535): A write of TWN_MC_CTRL.GO on the Lead proposes a twin changeover. -/
  | twinMcGo
  /-- LEDGER_EVENT (R577): An event reaches the Ledger and is recorded, suppressed or dropped. -/
  | ledgerEvent (code detail t : Nat)
  /-- LEDGER_FW_CODE (R577): A write of LDG_FW_CODE submits a firmware event. -/
  | ledgerFwCode (code : Nat)
  /-- TOKEN_REFILL (R580): A code's token bucket gains one token per PERIOD_MS. -/
  | tokenRefill (code : Nat)
  /-- ARCHIVE_PAGE (R583): Kilax programs an archive page when 7 records wait or the oldest reaches AGE_MS. -/
  | archivePage (progOk : Bool)
  /-- BIST_GO (R570): A write of BST_CTRL.GO starts a BIST run on command. -/
  | bistGo (vcoreOk clkOk : Bool)
  /-- BIST_ABORT (R566): A write of BST_CTRL.ABORT or a failed condition aborts the run. -/
  | bistAbort
  /-- BIST_RUN_DONE (R572): A BIST run ends and its repair and result pages are written. -/
  | bistRunDone (fails : List BistFail) (wakeHeld : Bool) (t10us : Nat)
  /-- REPAIR_COMPACT (R575): Kilax compacts a repair table copy with fewer than 8 erased pages. -/
  | repairCompact (copy : Nat)
  /-- CHALLENGE_EXPIRY (R552): An outstanding debug challenge expires after TMO_S. -/
  | challengeExpiry
  /-- EXTEST (R560): The EXTEST instruction lets the boundary register drive covered pins at D2. -/
  | extest
  /-- IDCODE (R560): The IDCODE instruction selects the 32-bit IDCODE register. -/
  | idcode
  /-- SAMPLE_PRELOAD (R560): The SAMPLE/PRELOAD instruction samples or preloads the boundary register. -/
  | samplePreload (pins : Nat)
  /-- JTAG_CLAMP (R560): The CLAMP instruction holds pins from the boundary register at D2. -/
  | jtagClamp
  /-- HIGHZ (R560): The HIGHZ instruction floats covered pins at D2. -/
  | highz
  /-- TGT_STATUS (R560): The TGT_STATUS instruction shifts out TGT_LC. -/
  | tgtStatus
  /-- TGT_CHALLENGE (R560): The TGT_CHALLENGE instruction issues a debug challenge over JTAG. -/
  | tgtChallenge (level : Nat)
  /-- TGT_RESPONSE (R560): The TGT_RESPONSE instruction verifies a response over JTAG. -/
  | tgtResponse (level : Nat) (resp : List Nat)
  /-- DBG_IAS (R560): The DBG_IAS instruction reads or writes an IAS word at D2. -/
  | dbgIas (addr data : Nat) (write : Bool)
  /-- DBG_HALT (R560): The DBG_HALT instruction halts or resumes the Innkeeper at D2. -/
  | dbgHalt (halt : Bool)
  /-- FF_READ (R559): The FF_READ instruction reads user flip-flops at D1. -/
  | ffRead (room tile : Nat)
  /-- FACTORY_TEST (R560): A factory test instruction runs at D3. -/
  | factoryTest (code : Nat)
  /-- BYPASS (R560): The BYPASS instruction selects the 1-bit bypass register. -/
  | bypass (code : Nat)
  /-- TRST_N (R497): TRST_N low resets the JTAG TAP only. -/
  | trstN
  /-- POWER_LOSS (R593): VAON falls below 0.70 V and all activity ends, leaving running loads, programs and Ledger buffer contents interrupted. -/
  | powerLoss
  /-- SUPPLY_GOOD (R592): After a SUPPLY reset or a rail removal in OFF, the last rail is good again and time 0 of the start releases the domains. -/
  | supplyGood (o : StartObs) (t : Nat)
  /-- VIO_OK (R449): A bank's measured VIO returns within ±5 % of VIO_SEL, VIO_OK rises and its outputs and inputs resume. -/
  | vioOk (bank : Nat)
  /-- LINK_POWER_STATE (R244): The host link enters or leaves ASPM L1, L1.1 or L1.2, changing HLK_STAT.LPM and the caps of the power decision. -/
  | linkPowerState (lpm : Nat)
  /-- EXCLUSIVE_START_TIMEOUT (R399): An exclusive command that cannot start within 100 ms of its POST completes with BUSY. -/
  | exclusiveStartTimeout (m : Nat)
  /-- HOST_LINK_STEP_FAIL (R513): No L0 at MAX_RATE within 1 s of CFG_READY, or 64 entries to Recovery in that second, fails start step 6 and Kilax lowers MAX_RATE in the host settings record. -/
  | hostLinkStepFail
  /-- MARGIN_READ_GROUP (R370): A group of 8 frames finishes its shifted-reference reads, its frames are classed and refreshed, and the margin pass advances or ends, clearing BUSY. -/
  | marginReadGroup (room : Nat) (finds : List MarginFind)
  /-- ACTIVE_BANK_FILL_DONE (R355): The fill of a Room's active bank from its active plane completes and the bank becomes ACTIVE, or FAULT on a failed frame. -/
  | activeBankFillDone (room : Nat) (bad : Option Nat)
  /-- WAKE_COMPLETE (R489): The wake sequence finishes, participants have restarted and PWR_STATE.CUR reads RUN, with PWR_WAKE_LAT recorded. -/
  | wakeComplete (t : Nat)
  /-- ENTRY_COMPLETE (R483): The last domain of a committed entry is switched or gated, and any wake held since the commit is acted on. -/
  | entryComplete (t : Nat)
  deriving DecidableEq, Repr

end Sys2Proof
end

