-- ==== Sys2Proof/Config.lean ====
section
/-! DEFINITION. What one part fixes and the spec does not say: free values (constants with no body, so that no proof can
see a value of them) and the standard cryptographic functions, which the spec names and does not define. -/

namespace Sys2Proof.Config

/-- A fresh undefined or unstated value, one for each value of the counter `State.freeCount` (DESIGN CHOICE, log entry 3). -/
opaque free : Nat → Nat

/-- The eight check bits of the (72,64) SEC-DED code over a 64-bit word; the spec names the code and gives no matrix
(R168, R323; DESIGN CHOICE, log entry 4). -/
opaque ecc72 : Nat → Nat

/-- The verdict of an ECDSA P-384 signature over the SHA-384 digest of a message: key bytes, message bytes, signature
bytes (R550; DESIGN CHOICE, log entry 5). -/
opaque ecdsaOk : List Nat → List Nat → List Nat → Bool

/-- AES-256-GCM decryption of a byte string: key row of the OTP, initialisation vector, associated data, ciphertext, tag;
`none` where the tag does not verify (R329, R330; DESIGN CHOICE, log entry 5). -/
opaque gcmOpen : List Nat → List Nat → List Nat → List Nat → List Nat → Option (List Nat)

/-- The plaintext an AES-256-GCM key stream gives for ciphertext bytes at a stream offset, before the tag is known
(R333; DESIGN CHOICE, log entry 5). -/
opaque gcmStream : List Nat → List Nat → Nat → List Nat → List Nat

/-- The verdict on a signed firmware image, whose format the spec does not give (R414; DESIGN CHOICE, log entry 5). -/
opaque fwOk : List Nat → Bool

/-- What the host supplies at use `n` of a free value for a line of a HOST-bias page, where it holds the line: the 512 bits (Table 07-5; DESIGN
CHOICE, log entry 41). -/
opaque hostLine : (n line : Nat) → Option Nat

/-- A source of a routing multiplexer of a Tile or block-column row (R132, R133, R135): constant 0, a wire that ends there (its index, and how
many positions back it starts), an output of a Slice (0 to 3 O, 4 to 11 Q, 12 M5A, 13 M5B, 14 M6), a tick tap of a tree (0 LTICK,
1 MERGED, 2 IN_REST, 3 OVR_PREV, 4 CLAMPED), a bit of TICK_LOW or TICK_CLOSED, an output of the row's block, an inbound Door. -/
inductive Src where
  | zero
  | wire (w back : Nat)
  | out (slice n : Nat)
  | tap (n tree : Nat)
  | tick (closed : Bool) (i : Nat)
  | block (i : Nat)
  | door (d : Nat)
  deriving DecidableEq, Repr, Inhabited

/-- The source that a select code names, by position (column, row), multiplexer (kind 0 the driver of wire `i`, 1 Slice input `i`) and code. The
order of codes is that of the device routing table, which the spec does not give (R325; DESIGN CHOICE, log entry 38). For a grouped
nibble the source is that of its bit 0. -/
opaque muxSrc : (col row kind i code : Nat) → Src

/-- The position and source from which an outbound Door register captures; the spec does not say which (DESIGN CHOICE, log entry 38). -/
opaque doorSrc : (d : Nat) → Nat × Nat × Src

/-- The bit at which a combinational loop settles at use `n` of a free value, by Room, column, row and output of the place where its evaluation
stops (R129 gives no value; DESIGN CHOICE, log entry 38). -/
opaque loopBit : (n room col row out : Nat) → Bool

/-- The level at which an output signal of a management controller rests between transfers where the spec gives none: RTS_N and MOSI, by
function code (R470; DESIGN CHOICE, log entry 43). -/
opaque idleLevel : (f : Nat) → Bool

end Sys2Proof.Config
end

