-- ==== Sys2Proof/Machine/Operands.lean ====
section
/-! DEFINITION. Operand helpers: bit fields of a value, signed readings, byte order (little-endian, 00 conventions),
saturating counts, Room masks (R9) and the modulo-2⁴⁸ comparison of tick numbers (R33). -/

namespace Sys2Proof.Machine

/-- Bits `[hi:lo]` of `v`. -/
def bits (v hi lo : Nat) : Nat := v / 2 ^ lo % 2 ^ (hi + 1 - lo)

/-- Bit `i` of `v`. -/
def bitB (v i : Nat) : Bool := v / 2 ^ i % 2 == 1

/-- A truth value as a one-bit field. -/
def b2n (b : Bool) : Nat := if b then 1 else 0

/-- `v` with bit `i` set. -/
def setBit (v i : Nat) : Nat := v ||| 2 ^ i

/-- `v` with bit `i` cleared. -/
def clrBit (v i : Nat) : Nat := if bitB v i then v - 2 ^ i else v

/-- `v` with the bits of `m` cleared (a `w`-bit register). -/
def clrMask (v m : Nat) : Nat := v - (v &&& m)

/-- The indices below `n` of the bits set in `v`. -/
def bitList (v n : Nat) : List Nat := (List.range n).filter (fun i => bitB v i)

/-- The number of bits set among the lowest `n`. -/
def popcount (v n : Nat) : Nat := (bitList v n).length

/-- The mask of a list of bit indices. -/
def maskOf (l : List Nat) : Nat := l.foldl setBit 0

/-- The signed reading of the low `w` bits of `v`. -/
def signed (w v : Nat) : Int :=
  let u := v % 2 ^ w
  if 2 * u < 2 ^ w then (u : Int) else (u : Int) - (2 ^ w : Nat)

/-- The `w`-bit encoding of an integer, modulo 2ʷ. -/
def encodeInt (w : Nat) (i : Int) : Nat := (i % ((2 ^ w : Nat) : Int)).toNat

/-- Add 1, saturating at `top`. -/
def satInc (top v : Nat) : Nat := if v < top then v + 1 else v

/-- Add `n`, saturating at `top`. -/
def satAdd (top v n : Nat) : Nat := min top (v + n)

/-- The little-endian value of a list of bytes. -/
def leNat : List Nat → Nat
  | [] => 0
  | b :: t => b % 256 + 256 * leNat t

/-- The `n` little-endian bytes of `v`. -/
def leBytes : Nat → Nat → List Nat
  | 0, _ => []
  | n + 1, v => v % 256 :: leBytes n (v / 256)

/-- `n` bytes of a byte list from offset `o`, zeros beyond its end. -/
def sliceBytes (l : List Nat) (o n : Nat) : List Nat :=
  (List.range n).map (fun i => l.getD (o + i) 0)

/-- The little-endian field of `n` bytes at offset `o`. -/
def leField (l : List Nat) (o n : Nat) : Nat := leNat (sliceBytes l o n)

/-- The big-endian value of a list of bytes. -/
def beNat (l : List Nat) : Nat := leNat l.reverse

/-- The modulus of tick numbers (R31). -/
def tickMod : Nat := 2 ^ 48

/-- Tick number `a` is at or above tick number `b`: `(a − b) mod 2⁴⁸`, read as a signed 48-bit value, is not negative
(R33). -/
def tickGe (a b : Nat) : Bool := decide ((a + (tickMod - b % tickMod)) % tickMod < 2 ^ 47)

/-- A tick number plus `n`, modulo 2⁴⁸ (R31). -/
def tickAdd (a n : Nat) : Nat := (a + n) % tickMod

/-- Nanoseconds in units of the time counter, 3.90625 ps: 256 units a nanosecond (R81). -/
def nsUnits (ns : Nat) : Nat := 256 * ns

/-- Replace element `i` of a list. -/
def setAt {α : Type} (l : List α) (i : Nat) (v : α) : List α := l.set i v

/-- Ceiling division. -/
def ceilDiv (a b : Nat) : Nat := (a + b - 1) / b

end Sys2Proof.Machine
end

