-- ==== Sys2Proof/Machine/Flags.lean ====
section
/-! DEFINITION. Check computations the spec names: CRC-16 of the Sync Chain (R94), CRC-32 of IEEE 802.3, parity. Each is
a bitwise shift register over the bytes in order. -/

namespace Sys2Proof.Machine

/-- One shift of an MSB-first CRC register of `w` bits with polynomial `poly`. -/
def crcShift (w poly reg : Nat) (inBit : Bool) : Nat :=
  let top := reg / 2 ^ (w - 1) % 2 == 1
  let sh := reg * 2 % 2 ^ w
  if top != inBit then sh ^^^ poly else sh

/-- The bits of a byte, most significant first. -/
def byteBits (b : Nat) : List Bool := (List.range 8).map (fun i => bitB b (7 - i))

/-- An MSB-first CRC over a list of bytes. -/
def crcMsb (w poly init : Nat) (l : List Nat) : Nat :=
  (l.flatMap byteBits).foldl (fun r b => crcShift w poly r b) init

/-- The CRC-16 of Sync Chain messages: polynomial 0x1021, initial value 0xFFFF (R94). -/
def crc16 (l : List Nat) : Nat := crcMsb 16 0x1021 0xFFFF l

/-- One reflected CRC-32 step. -/
def crc32Shift (reg : Nat) : Nat := if reg % 2 == 1 then reg / 2 ^^^ 0xEDB88320 else reg / 2

/-- Eight reflected shifts. -/
def crc32Byte (reg b : Nat) : Nat :=
  (List.range 8).foldl (fun r _ => crc32Shift r) (reg ^^^ (b % 256))

/-- The CRC-32 of IEEE 802.3 over a list of bytes. -/
def crc32 (l : List Nat) : Nat := (l.foldl crc32Byte 0xFFFFFFFF) ^^^ 0xFFFFFFFF

/-- The same CRC-32, continued from a register value (R525: one running CRC per Room). -/
def crc32Run (reg : Nat) (l : List Nat) : Nat := l.foldl crc32Byte reg

/-- Odd parity of the low `n` bits. -/
def parity (v n : Nat) : Bool := popcount v n % 2 == 1

end Sys2Proof.Machine
end

