-- ==== Sys2Proof/Machine/Assoc.lean ====
section
/-! DEFINITION. Sparse data by key: a list of (key, value) pairs with strictly rising keys, and the memory form of it in
which no entry equals what an unlisted key reads as. Register fields, block contents, ring contexts, DRAM, Pantry and
OTP contents are all held this way. -/

namespace Sys2Proof.Machine

/-- A list of (key, value) pairs; kept with strictly rising keys by `put` and `del`. -/
abbrev Assoc (α : Type) := List (Nat × α)

/-- The value listed for key `k`, if any. -/
def Assoc.find? {α : Type} (k : Nat) : Assoc α → Option α
  | [] => none
  | (k', v) :: t => if k' = k then some v else Assoc.find? k t

/-- The value listed for `k`, or `d`. -/
def Assoc.get {α : Type} (d : α) (k : Nat) (m : Assoc α) : α := (Assoc.find? k m).getD d

/-- List `v` for key `k`, keeping the keys rising. -/
def Assoc.put {α : Type} (k : Nat) (v : α) : Assoc α → Assoc α
  | [] => [(k, v)]
  | (k', v') :: t => if k' = k then (k, v) :: t else if k < k' then (k, v) :: (k', v') :: t else (k', v') :: Assoc.put k v t

/-- Remove every entry of key `k`. -/
def Assoc.del {α : Type} (k : Nat) : Assoc α → Assoc α
  | [] => []
  | (k', v') :: t => if k' = k then Assoc.del k t else (k', v') :: Assoc.del k t

/-- Strictly rising keys. -/
def Assoc.sorted {α : Type} : Assoc α → Bool
  | [] => true
  | [_] => true
  | (k, _) :: (k', v') :: t => decide (k < k') && Assoc.sorted ((k', v') :: t)

/-- Write `v` at `k` in a memory whose unlisted cells read `d`: writing `d` removes the entry. -/
def Assoc.write {α : Type} [DecidableEq α] (d : α) (k : Nat) (v : α) (m : Assoc α) : Assoc α :=
  if v = d then Assoc.del k m else Assoc.put k v m

/-- The canonical form of a memory whose unlisted cells read `d`. -/
def Assoc.wf {α : Type} [DecidableEq α] (d : α) (m : Assoc α) : Bool :=
  Assoc.sorted m && m.all (fun e => decide (e.2 ≠ d))

/-- Write a run of values from key `k` upward. -/
def Assoc.writeRun {α : Type} [DecidableEq α] (d : α) (k : Nat) : List α → Assoc α → Assoc α
  | [], m => m
  | v :: vs, m => Assoc.writeRun d (k + 1) vs (Assoc.write d k v m)

/-- Read `n` values from key `k` upward. -/
def Assoc.readRun {α : Type} (d : α) (k n : Nat) (m : Assoc α) : List α :=
  (List.range n).map (fun i => Assoc.get d (k + i) m)

/-- Remove every entry whose key lies in `[lo, lo + n)`. -/
def Assoc.clearRun {α : Type} (lo n : Nat) (m : Assoc α) : Assoc α :=
  m.filter (fun e => !(decide (lo ≤ e.1) && decide (e.1 < lo + n)))

end Sys2Proof.Machine
end

