-- ==== Sys2Proof/Machine/Regs.lean ====
section
/-! DEFINITION. Every register field of the register maps of chapters 02 to 19 (R25 and the rules named at each block):
its IAS address, bits, access code, reset value and whether it is a Boundary field (R54), and the list of registers of
each block. A field whose reset value the table does not give as a number (Metadata, From record, Decoded, From OTP,
Home bit, Pin) carries 0 here; State.reset and the start steps give its value. -/

namespace Sys2Proof.Machine

/-- Access codes of a register field (00 conventions): RW, RO, WO, W1C (write one to clear), RC (read to clear). -/
inductive Acc where
  | rw | ro | wo | w1c | rc
  deriving DecidableEq, Repr

/-- One field of a register: the register's IAS address, the field's lowest bit and width, its access, its reset value,
whether it is a Boundary field (R54), and the strides and counts of the register's one or two indices. -/
structure Fld where
  addr : Nat
  lo : Nat
  width : Nat
  acc : Acc
  reset : Nat
  boundary : Bool
  s1 : Nat
  n1 : Nat
  s2 : Nat
  n2 : Nat
  deriving DecidableEq, Repr

/-- A register: its fields, lowest first; all carry the register's address and indices. -/
structure RegRow where
  flds : List Fld
  deriving DecidableEq, Repr

/-- The key of a field of the register with indices `i`, `j`: IAS byte address times 32, plus its lowest bit. -/
def Fld.key (f : Fld) (i j : Nat) : Nat := (f.addr + f.s1 * i + f.s2 * j) * 32 + f.lo

/-- The IAS address of a register. -/
def Fld.at (f : Fld) (i j : Nat) : Nat := f.addr + f.s1 * i + f.s2 * j

/-- The largest value of a field. -/
def Fld.top (f : Fld) : Nat := 2 ^ f.width - 1

namespace Reg

/-! ### TCK_ registers (02 R67) -/

/-- TCK_CTRL [0] RW: 1: tick engine accepts events. 0: no events; the open tick stays open. -/
def TCK_CTRL_EN : Fld := Fld.mk 0x110000 0 1 .rw 0 false 0 1 0 1
/-- TCK_CTRL [1] RW: Boundary. 0: MERGE, 1: DROP -/
def TCK_CTRL_EARLY_POL : Fld := Fld.mk 0x110000 1 1 .rw 0 true 0 1 0 1
/-- TCK_CTRL [3:2] RW: Boundary. Merged events per tick, 1–3; 0 acts as 1 -/
def TCK_CTRL_MERGE_MAX : Fld := Fld.mk 0x110000 2 2 .rw 1 true 0 1 0 1
/-- TCK_CTRL [4] RW: Boundary. Refresh waits for RDONE of taking-part Rooms -/
def TCK_CTRL_REF_WAIT : Fld := Fld.mk 0x110000 4 1 .rw 1 true 0 1 0 1
/-- TCK_CTRL [5] RW: Boundary. 1: Curfew in force -/
def TCK_CTRL_CURFEW_EN : Fld := Fld.mk 0x110000 5 1 .rw 0 true 0 1 0 1
/-- TCK_CTRL [6] RW: Boundary. 0: absolute, 1: proportional -/
def TCK_CTRL_CURFEW_MODE : Fld := Fld.mk 0x110000 6 1 .rw 0 true 0 1 0 1
/-- TCK_CTRL [7] RW: 1: the next boundary opens tick TCK_TICKNO_SET; cleared at that boundary -/
def TCK_CTRL_TICKNO_LOAD : Fld := Fld.mk 0x110000 7 1 .rw 0 false 0 1 0 1
/-- TCK_SRC [2:0] RO: Active source, Table 02-1 -/
def TCK_SRC_ACTIVE : Fld := Fld.mk 0x110004 0 3 .ro 0 false 0 1 0 1
/-- TCK_SRC [6:4] RW: Source to take at the switch -/
def TCK_SRC_NEXT : Fld := Fld.mk 0x110004 4 3 .rw 0 false 0 1 0 1
/-- TCK_SRC [8] RW: Write 1 to request a switch; reads 1 until it takes effect -/
def TCK_SRC_SWITCH : Fld := Fld.mk 0x110004 8 1 .rw 0 false 0 1 0 1
/-- TCK_TIMER_PER [29:0] RW: TIMER period, 2,500 to 1,000,000,000 ns; values outside are clamped -/
def TCK_TIMER_PER_PERIOD_NS : Fld := Fld.mk 0x110008 0 30 .rw 2500 false 0 1 0 1
/-- TCK_HOST_TICK [0] WO: Write 1: one event when ACTIVE = HOST; ignored otherwise -/
def TCK_HOST_TICK_GO : Fld := Fld.mk 0x11000C 0 1 .wo 0 false 0 1 0 1
/-- TCK_TICK_MIN [29:0] RW: Boundary. TICK_MIN in ns; values below 2,500 read and act as 2,500 -/
def TCK_TICK_MIN_MIN_NS : Fld := Fld.mk 0x110010 0 30 .rw 2500 true 0 1 0 1
/-- TCK_CURFEW [29:0] RW: Boundary. Absolute Curfew offset; bits [1:0] read 0 -/
def TCK_CURFEW_ABS_NS : Fld := Fld.mk 0x110014 0 30 .rw 0 true 0 1 0 1
/-- TCK_CURFEW_PROP [15:0] RW: Boundary. Curfew as FRAC ÷ 65,536 of the predicted period -/
def TCK_CURFEW_PROP_FRAC : Fld := Fld.mk 0x110018 0 16 .rw 53248 true 0 1 0 1
/-- TCK_CURFEW_MIN [29:0] RW: Boundary. Lower clamp in proportional mode -/
def TCK_CURFEW_MIN_MIN_NS : Fld := Fld.mk 0x11001C 0 30 .rw 0 true 0 1 0 1
/-- TCK_CURFEW_MAX [29:0] RW: Boundary. Upper clamp, and Curfew with no prediction -/
def TCK_CURFEW_MAX_MAX_NS : Fld := Fld.mk 0x110020 0 30 .rw 1000000000 true 0 1 0 1
/-- TCK_GUARD [15:0] RW: Boundary. Admission guard of R46 -/
def TCK_GUARD_GUARD_NS : Fld := Fld.mk 0x110024 0 16 .rw 64 true 0 1 0 1
/-- TCK_ROOM_MASK [23:0] RW: Boundary. Rooms in the Curfew check, Room mask of R9 -/
def TCK_ROOM_MASK_ROOMS : Fld := Fld.mk 0x110028 0 24 .rw 0 true 0 1 0 1
/-- TCK_OVR_CLAMP [23:0] RW: Boundary. Per Room: 0 PASS, 1 CLAMP -/
def TCK_OVR_CLAMP : Fld := Fld.mk 0x11002C 0 24 .rw 0 true 0 1 0 1
/-- TCK_TICKNO_LO [31:0] RO: TICKNO[31:0] -/
def TCK_TICKNO_LO : Fld := Fld.mk 0x110030 0 32 .ro 0 false 0 1 0 1
/-- TCK_TICKNO_HI [15:0] RO: TICKNO[47:32] -/
def TCK_TICKNO_HI : Fld := Fld.mk 0x110034 0 16 .ro 0 false 0 1 0 1
/-- TCK_TICKNO_SET_LO [31:0] RW: Bits [31:0] of the tick number opened under TICKNO_LOAD -/
def TCK_TICKNO_SET_LO : Fld := Fld.mk 0x110038 0 32 .rw 0 false 0 1 0 1
/-- TCK_TICKNO_SET_HI [15:0] RW: Bits [47:32] of that tick number -/
def TCK_TICKNO_SET_HI : Fld := Fld.mk 0x11003C 0 16 .rw 0 false 0 1 0 1
/-- TCK_STAMP_LO [31:0] RO: Time of record of the last boundary, bits [31:0], in 3.90625 ps units -/
def TCK_STAMP_LO : Fld := Fld.mk 0x110040 0 32 .ro 0 false 0 1 0 1
/-- TCK_STAMP_HI [31:0] RO: Bits [63:32] of that time -/
def TCK_STAMP_HI : Fld := Fld.mk 0x110044 0 32 .ro 0 false 0 1 0 1
/-- TCK_PRED [29:0] RO: Predicted period of the open tick; 0x3FFF_FFFF means none -/
def TCK_PRED_PERIOD_NS : Fld := Fld.mk 0x110048 0 30 .ro 1073741823 false 0 1 0 1
/-- TCK_CURFEW_CUR [29:0] RO: Curfew offset of the open tick; 0 while CURFEW_EN = 0 -/
def TCK_CURFEW_CUR_OFFSET_NS : Fld := Fld.mk 0x11004C 0 30 .ro 0 false 0 1 0 1
/-- TCK_STATUS [2:0] RO: 0 HALTED, 1 BOUNDARY, 2 WORK, 3 REST, 4 STOPPED; 5–7 not used -/
def TCK_STATUS_STATE : Fld := Fld.mk 0x110050 0 3 .ro 0 false 0 1 0 1
/-- TCK_STATUS [4:3] RO: Merged events in the open tick -/
def TCK_STATUS_MERGED : Fld := Fld.mk 0x110050 3 2 .ro 0 false 0 1 0 1
/-- TCK_STATUS [5] RO: CHAIN or TWIN source has lost its link -/
def TCK_STATUS_SRC_LOST : Fld := Fld.mk 0x110050 5 1 .ro 0 false 0 1 0 1
/-- TCK_STATUS [6] RO: A due refresh waits for RDONE -/
def TCK_STATUS_REF_HELD : Fld := Fld.mk 0x110050 6 1 .ro 0 false 0 1 0 1
/-- TCK_EVENTS [0] W1C: A Room overran -/
def TCK_EVENTS_OVERRUN : Fld := Fld.mk 0x110054 0 1 .w1c 0 false 0 1 0 1
/-- TCK_EVENTS [1] W1C: A Room completed late -/
def TCK_EVENTS_LATE : Fld := Fld.mk 0x110054 1 1 .w1c 0 false 0 1 0 1
/-- TCK_EVENTS [2] W1C: An event was merged -/
def TCK_EVENTS_MERGED : Fld := Fld.mk 0x110054 2 1 .w1c 0 false 0 1 0 1
/-- TCK_EVENTS [3] W1C: An event was dropped -/
def TCK_EVENTS_DROPPED : Fld := Fld.mk 0x110054 3 1 .w1c 0 false 0 1 0 1
/-- TCK_EVENTS [4] W1C: An event beyond MERGE_MAX was dropped -/
def TCK_EVENTS_BURST : Fld := Fld.mk 0x110054 4 1 .w1c 0 false 0 1 0 1
/-- TCK_EVENTS [5] W1C: A refresh ran in a work window -/
def TCK_EVENTS_REFRESH_IN_WORK : Fld := Fld.mk 0x110054 5 1 .w1c 0 false 0 1 0 1
/-- TCK_EVENTS [6] W1C: A refresh ran past a boundary -/
def TCK_EVENTS_REST_SPILL : Fld := Fld.mk 0x110054 6 1 .w1c 0 false 0 1 0 1
/-- TCK_EVENTS [7] W1C: The engine entered STOPPED -/
def TCK_EVENTS_STOPPED : Fld := Fld.mk 0x110054 7 1 .w1c 0 false 0 1 0 1
/-- TCK_EVENTS [8] W1C: A boundary ended a stopped tick -/
def TCK_EVENTS_RESTART : Fld := Fld.mk 0x110054 8 1 .w1c 0 false 0 1 0 1
/-- TCK_EVENTS [9] W1C: The source lost its link -/
def TCK_EVENTS_SRC_LOST : Fld := Fld.mk 0x110054 9 1 .w1c 0 false 0 1 0 1
/-- TCK_EVENTS [10] W1C: A source switch took effect -/
def TCK_EVENTS_SRC_SWITCHED : Fld := Fld.mk 0x110054 10 1 .w1c 0 false 0 1 0 1
/-- TCK_DONE [23:0] RO: RDONE counted in the open tick -/
def TCK_DONE_ROOMS : Fld := Fld.mk 0x110058 0 24 .ro 0 false 0 1 0 1
/-- TCK_LATE [23:0] W1C: Room was late since last cleared -/
def TCK_LATE_ROOMS : Fld := Fld.mk 0x11005C 0 24 .w1c 0 false 0 1 0 1
/-- TCK_OVR [23:0] W1C: Room overran since last cleared -/
def TCK_OVR_ROOMS : Fld := Fld.mk 0x110060 0 24 .w1c 0 false 0 1 0 1
/-- TCK_CLAMPED [23:0] RO: Outbound Doors now clamped by overrun policy -/
def TCK_CLAMPED_ROOMS : Fld := Fld.mk 0x110064 0 24 .ro 0 false 0 1 0 1
/-- TCK_EARLY_CNT [15:0] RC: Merged events, saturating at 0xFFFF -/
def TCK_EARLY_CNT_MERGED_CNT : Fld := Fld.mk 0x110068 0 16 .rc 0 false 0 1 0 1
/-- TCK_EARLY_CNT [31:16] RC: Dropped events including BURST, saturating -/
def TCK_EARLY_CNT_DROPPED_CNT : Fld := Fld.mk 0x110068 16 16 .rc 0 false 0 1 0 1
/-- TCK_REF_CNT [15:0] RC: Refreshes run in a work window, saturating -/
def TCK_REF_CNT_IN_WORK_CNT : Fld := Fld.mk 0x11006C 0 16 .rc 0 false 0 1 0 1
/-- TCK_REF_CNT [31:16] RC: Refreshes that ran past a boundary, saturating -/
def TCK_REF_CNT_SPILL_CNT : Fld := Fld.mk 0x11006C 16 16 .rc 0 false 0 1 0 1
/-- TCK_ROOM_CNT [15:0] RC: Overruns of Room n, saturating at 0xFFFF -/
def TCK_ROOM_CNT_OVR_CNT : Fld := Fld.mk 0x110100 0 16 .rc 0 false 4 24 0 1
/-- TCK_ROOM_CNT [31:16] RC: Late completions of Room n, saturating at 0xFFFF -/
def TCK_ROOM_CNT_LATE_CNT : Fld := Fld.mk 0x110100 16 16 .rc 0 false 4 24 0 1

/-- The registers of the TCK_ block, part 0. -/
def mapTCK0 : List RegRow := [
  RegRow.mk [TCK_CTRL_EN, TCK_CTRL_EARLY_POL, TCK_CTRL_MERGE_MAX, TCK_CTRL_REF_WAIT, TCK_CTRL_CURFEW_EN, TCK_CTRL_CURFEW_MODE, TCK_CTRL_TICKNO_LOAD],
  RegRow.mk [TCK_SRC_ACTIVE, TCK_SRC_NEXT, TCK_SRC_SWITCH],
  RegRow.mk [TCK_TIMER_PER_PERIOD_NS],
  RegRow.mk [TCK_HOST_TICK_GO],
  RegRow.mk [TCK_TICK_MIN_MIN_NS],
  RegRow.mk [TCK_CURFEW_ABS_NS],
  RegRow.mk [TCK_CURFEW_PROP_FRAC],
  RegRow.mk [TCK_CURFEW_MIN_MIN_NS],
  RegRow.mk [TCK_CURFEW_MAX_MAX_NS],
  RegRow.mk [TCK_GUARD_GUARD_NS],
  RegRow.mk [TCK_ROOM_MASK_ROOMS],
  RegRow.mk [TCK_OVR_CLAMP],
  RegRow.mk [TCK_TICKNO_LO],
  RegRow.mk [TCK_TICKNO_HI],
  RegRow.mk [TCK_TICKNO_SET_LO],
  RegRow.mk [TCK_TICKNO_SET_HI],
  RegRow.mk [TCK_STAMP_LO],
  RegRow.mk [TCK_STAMP_HI],
  RegRow.mk [TCK_PRED_PERIOD_NS],
  RegRow.mk [TCK_CURFEW_CUR_OFFSET_NS]]

/-- The registers of the TCK_ block, part 1. -/
def mapTCK1 : List RegRow := [
  RegRow.mk [TCK_STATUS_STATE, TCK_STATUS_MERGED, TCK_STATUS_SRC_LOST, TCK_STATUS_REF_HELD],
  RegRow.mk [TCK_EVENTS_OVERRUN, TCK_EVENTS_LATE, TCK_EVENTS_MERGED, TCK_EVENTS_DROPPED, TCK_EVENTS_BURST, TCK_EVENTS_REFRESH_IN_WORK, TCK_EVENTS_REST_SPILL, TCK_EVENTS_STOPPED, TCK_EVENTS_RESTART, TCK_EVENTS_SRC_LOST, TCK_EVENTS_SRC_SWITCHED],
  RegRow.mk [TCK_DONE_ROOMS],
  RegRow.mk [TCK_LATE_ROOMS],
  RegRow.mk [TCK_OVR_ROOMS],
  RegRow.mk [TCK_CLAMPED_ROOMS],
  RegRow.mk [TCK_EARLY_CNT_MERGED_CNT, TCK_EARLY_CNT_DROPPED_CNT],
  RegRow.mk [TCK_REF_CNT_IN_WORK_CNT, TCK_REF_CNT_SPILL_CNT],
  RegRow.mk [TCK_ROOM_CNT_OVR_CNT, TCK_ROOM_CNT_LATE_CNT]]

/-- All registers of the TCK_ block. -/
def mapTCK : List RegRow := mapTCK0 ++ mapTCK1

/-! ### MSU_ registers (03 R110) -/

/-- MSU_ENC_CTRL [0] RW: 1: channel counts -/
def MSU_ENC_CTRL_EN : Fld := Fld.mk 0x100000 0 1 .rw 0 false 32 8 0 1
/-- MSU_ENC_CTRL [3:1] RW: Table 03-1 -/
def MSU_ENC_CTRL_MODE : Fld := Fld.mk 0x100000 1 3 .rw 0 false 32 8 0 1
/-- MSU_ENC_CTRL [4] RW: Reverse direction -/
def MSU_ENC_CTRL_INV : Fld := Fld.mk 0x100000 4 1 .rw 0 false 32 8 0 1
/-- MSU_ENC_CTRL [5] RW: Exchange A and B -/
def MSU_ENC_CTRL_SWAP : Fld := Fld.mk 0x100000 5 1 .rw 0 false 32 8 0 1
/-- MSU_ENC_CTRL [7:6] RW: Table 03-2 -/
def MSU_ENC_CTRL_ZMODE : Fld := Fld.mk 0x100000 6 2 .rw 0 false 32 8 0 1
/-- MSU_ENC_CTRL [15:8] RW: Filter time in ns -/
def MSU_ENC_CTRL_FILT : Fld := Fld.mk 0x100000 8 8 .rw 20 false 32 8 0 1
/-- MSU_ENC_CTRL [18:16] RW: M = 2^AVG; values above 4 act as 4 -/
def MSU_ENC_CTRL_AVG : Fld := Fld.mk 0x100000 16 3 .rw 2 false 32 8 0 1
/-- MSU_ENC_CTRL [19] RW: 1: 100 Ω termination on A, B and Z -/
def MSU_ENC_CTRL_TERM : Fld := Fld.mk 0x100000 19 1 .rw 0 false 32 8 0 1
/-- MSU_ENC_CTRL [27:20] RW: STOPPED timeout in 8 ms units; 0 acts as 1 -/
def MSU_ENC_CTRL_STOP : Fld := Fld.mk 0x100000 20 8 .rw 32 false 32 8 0 1
/-- MSU_ENC_POS_LO [31:0] RO: Position bits [31:0] -/
def MSU_ENC_POS_LO : Fld := Fld.mk 0x100004 0 32 .ro 0 false 32 8 0 1
/-- MSU_ENC_POS_HI [25:0] RO: Position bits [57:32]; bits [31:26] reserved -/
def MSU_ENC_POS_HI : Fld := Fld.mk 0x100008 0 26 .ro 0 false 32 8 0 1
/-- MSU_ENC_ZPOS_LO [31:0] RO: Position at last Z, bits [31:0] -/
def MSU_ENC_ZPOS_LO : Fld := Fld.mk 0x10000C 0 32 .ro 0 false 32 8 0 1
/-- MSU_ENC_ZPOS_HI [25:0] RO: Bits [57:32]; bits [31:26] reserved -/
def MSU_ENC_ZPOS_HI : Fld := Fld.mk 0x100010 0 26 .ro 0 false 32 8 0 1
/-- MSU_ENC_PER [31:0] RO: τ in 3.90625 ps units; 0xFFFF_FFFF while STOPPED or at or above 16.777 ms -/
def MSU_ENC_PER_TAU : Fld := Fld.mk 0x100014 0 32 .ro 4294967295 false 32 8 0 1
/-- MSU_ENC_STAT [0] W1C: Quadrature error seen -/
def MSU_ENC_STAT_QERR : Fld := Fld.mk 0x100018 0 1 .w1c 0 false 32 8 0 1
/-- MSU_ENC_STAT [1] W1C: Index count mismatch -/
def MSU_ENC_STAT_ZERR : Fld := Fld.mk 0x100018 1 1 .w1c 0 false 32 8 0 1
/-- MSU_ENC_STAT [2] RO: R73 -/
def MSU_ENC_STAT_STOPPED : Fld := Fld.mk 0x100018 2 1 .ro 1 false 32 8 0 1
/-- MSU_ENC_STAT [3] RO: Last direction: 0 forward, 1 reverse -/
def MSU_ENC_STAT_DIR : Fld := Fld.mk 0x100018 3 1 .ro 0 false 32 8 0 1
/-- MSU_ENC_CPR [23:0] RW: Counts per index for CHECK; bits [31:24] reserved -/
def MSU_ENC_CPR : Fld := Fld.mk 0x10001C 0 24 .rw 0 false 32 8 0 1
/-- MSU_DIV_CTRL [0] RW: 1: divider delivers ENCODER events -/
def MSU_DIV_CTRL_EN : Fld := Fld.mk 0x100100 0 1 .rw 0 false 0 1 0 1
/-- MSU_DIV_CTRL [3:1] RW: Encoder channel -/
def MSU_DIV_CTRL_CH : Fld := Fld.mk 0x100100 1 3 .rw 0 false 0 1 0 1
/-- MSU_DIV_CTRL [4] RW: Forward sense: 0 increasing, 1 decreasing position -/
def MSU_DIV_CTRL_FWD : Fld := Fld.mk 0x100100 4 1 .rw 0 false 0 1 0 1
/-- MSU_DIV_CTRL [5] RW: Boundary. Pitch and offset set: 0 A, 1 B -/
def MSU_DIV_CTRL_SET : Fld := Fld.mk 0x100100 5 1 .rw 0 true 0 1 0 1
/-- MSU_DIV_CTRL [6] WO: Write 1: load θ under R78 -/
def MSU_DIV_CTRL_LOAD : Fld := Fld.mk 0x100100 6 1 .wo 0 false 0 1 0 1
/-- MSU_DIV_PITCH_A [31:0] RW: Boundary. N in [31:16], k in [15:0] -/
def MSU_DIV_PITCH_A_PITCH : Fld := Fld.mk 0x100104 0 32 .rw 65536 true 0 1 0 1
/-- MSU_DIV_PITCH_B [31:0] RW: As PITCH_A -/
def MSU_DIV_PITCH_B_PITCH : Fld := Fld.mk 0x100108 0 32 .rw 65536 true 0 1 0 1
/-- MSU_DIV_PHASE [31:0] RW: Signed 16.16 counts -/
def MSU_DIV_PHASE : Fld := Fld.mk 0x10010C 0 32 .rw 0 false 0 1 0 1
/-- MSU_DIV_NEXT_LO [31:0] RO: θ bits [31:0], 16 fractional bits -/
def MSU_DIV_NEXT_LO : Fld := Fld.mk 0x100110 0 32 .ro 0 false 0 1 0 1
/-- MSU_DIV_NEXT_HI [31:0] RO: θ bits [63:32] -/
def MSU_DIV_NEXT_HI : Fld := Fld.mk 0x100114 0 32 .ro 0 false 0 1 0 1
/-- MSU_TB_CTRL [2:0] RW: Table 03-3 -/
def MSU_TB_CTRL_SRC : Fld := Fld.mk 0x100200 0 3 .rw 0 false 0 1 0 1
/-- MSU_TB_CTRL [3] WO: Write 1: step to MSU_TIME_SET under R84 -/
def MSU_TB_CTRL_SET : Fld := Fld.mk 0x100200 3 1 .wo 0 false 0 1 0 1
/-- MSU_TB_CTRL [4] RW: 1: step at next PPS_IN edge -/
def MSU_TB_CTRL_SET_AT_PPS : Fld := Fld.mk 0x100200 4 1 .rw 0 false 0 1 0 1
/-- MSU_TB_STAT [0] RO: Lock criterion met -/
def MSU_TB_STAT_LOCKED : Fld := Fld.mk 0x100204 0 1 .ro 0 false 0 1 0 1
/-- MSU_TB_STAT [1] RO: Running in holdover -/
def MSU_TB_STAT_HOLDOVER : Fld := Fld.mk 0x100204 1 1 .ro 0 false 0 1 0 1
/-- MSU_TB_STAT [2] W1C: Reference was lost -/
def MSU_TB_STAT_REF_LOST : Fld := Fld.mk 0x100204 2 1 .w1c 0 false 0 1 0 1
/-- MSU_TB_STAT [3] W1C: No PPS_IN edge for 1.5 s -/
def MSU_TB_STAT_PPS_LOST : Fld := Fld.mk 0x100204 3 1 .w1c 0 false 0 1 0 1
/-- MSU_TIME_LO [31:0] RO: Time counter bits [31:0] -/
def MSU_TIME_LO : Fld := Fld.mk 0x100208 0 32 .ro 0 false 0 1 0 1
/-- MSU_TIME_HI [31:0] RO: Bits [63:32] -/
def MSU_TIME_HI : Fld := Fld.mk 0x10020C 0 32 .ro 0 false 0 1 0 1
/-- MSU_TIME_SET_LO [31:0] RW: Step value bits [31:0] -/
def MSU_TIME_SET_LO : Fld := Fld.mk 0x100210 0 32 .rw 0 false 0 1 0 1
/-- MSU_TIME_SET_HI [31:0] RW: Bits [63:32] -/
def MSU_TIME_SET_HI : Fld := Fld.mk 0x100214 0 32 .rw 0 false 0 1 0 1
/-- MSU_TB_FREQ [31:0] RO: Signed frequency correction, in units of 2⁻¹⁶ ppm -/
def MSU_TB_FREQ : Fld := Fld.mk 0x100218 0 32 .ro 0 false 0 1 0 1
/-- MSU_TRIG_CTRL [0] RW: Boundary. 1: trigger active -/
def MSU_TRIG_CTRL_EN : Fld := Fld.mk 0x100400 0 1 .rw 0 true 16 16 0 1
/-- MSU_TRIG_CTRL [1] RW: Boundary. 0 LOCAL, 1 CHAIN (R85) -/
def MSU_TRIG_CTRL_REF : Fld := Fld.mk 0x100400 1 1 .rw 0 true 16 16 0 1
/-- MSU_TRIG_CTRL [2] RW: 1: inverted output -/
def MSU_TRIG_CTRL_POL : Fld := Fld.mk 0x100400 2 1 .rw 0 false 16 16 0 1
/-- MSU_TRIG_CTRL [15:8] RW: Boundary. Fire on every (DIV + 1)th tick -/
def MSU_TRIG_CTRL_DIV : Fld := Fld.mk 0x100400 8 8 .rw 0 true 16 16 0 1
/-- MSU_TRIG_CTRL [23:16] RW: Boundary. Tick phase for DIV (R87) -/
def MSU_TRIG_CTRL_PHASE : Fld := Fld.mk 0x100400 16 8 .rw 0 true 16 16 0 1
/-- MSU_TRIG_OFS_A [31:0] RW: Boundary. Offset, 3.90625 ps units, pitch set A -/
def MSU_TRIG_OFS_A_OFS : Fld := Fld.mk 0x100404 0 32 .rw 0 true 16 16 0 1
/-- MSU_TRIG_OFS_B [31:0] RW: Boundary. As OFS_A, pitch set B -/
def MSU_TRIG_OFS_B_OFS : Fld := Fld.mk 0x100408 0 32 .rw 0 true 16 16 0 1
/-- MSU_TRIG_WIDTH [15:0] RW: Boundary. Pulse width in ns; 0 acts as 1 -/
def MSU_TRIG_WIDTH : Fld := Fld.mk 0x10040C 0 16 .rw 100 true 16 16 0 1
/-- MSU_TRIG_WIDTH [23:16] RW: Signed skew trim, 3.90625 ps units -/
def MSU_TRIG_WIDTH_TRIM : Fld := Fld.mk 0x10040C 16 8 .rw 0 false 16 16 0 1
/-- MSU_TRIG_STAT [15:0] W1C: Per trigger: pulse skipped as late -/
def MSU_TRIG_STAT_LATE : Fld := Fld.mk 0x100500 0 16 .w1c 0 false 0 1 0 1
/-- MSU_TRIG_STAT [31:16] W1C: Per trigger: pulse skipped for collision -/
def MSU_TRIG_STAT_COLLIDE : Fld := Fld.mk 0x100500 16 16 .w1c 0 false 0 1 0 1
/-- MSU_TRIG_STAT2 [15:0] W1C: Per trigger: fifth pending pulse skipped -/
def MSU_TRIG_STAT2_OVERFLOW : Fld := Fld.mk 0x100504 0 16 .w1c 0 false 0 1 0 1

/-- The registers of the MSU_ block, part 0. -/
def mapMSU0 : List RegRow := [
  RegRow.mk [MSU_ENC_CTRL_EN, MSU_ENC_CTRL_MODE, MSU_ENC_CTRL_INV, MSU_ENC_CTRL_SWAP, MSU_ENC_CTRL_ZMODE, MSU_ENC_CTRL_FILT, MSU_ENC_CTRL_AVG, MSU_ENC_CTRL_TERM, MSU_ENC_CTRL_STOP],
  RegRow.mk [MSU_ENC_POS_LO],
  RegRow.mk [MSU_ENC_POS_HI],
  RegRow.mk [MSU_ENC_ZPOS_LO],
  RegRow.mk [MSU_ENC_ZPOS_HI],
  RegRow.mk [MSU_ENC_PER_TAU],
  RegRow.mk [MSU_ENC_STAT_QERR, MSU_ENC_STAT_ZERR, MSU_ENC_STAT_STOPPED, MSU_ENC_STAT_DIR],
  RegRow.mk [MSU_ENC_CPR],
  RegRow.mk [MSU_DIV_CTRL_EN, MSU_DIV_CTRL_CH, MSU_DIV_CTRL_FWD, MSU_DIV_CTRL_SET, MSU_DIV_CTRL_LOAD],
  RegRow.mk [MSU_DIV_PITCH_A_PITCH],
  RegRow.mk [MSU_DIV_PITCH_B_PITCH],
  RegRow.mk [MSU_DIV_PHASE],
  RegRow.mk [MSU_DIV_NEXT_LO],
  RegRow.mk [MSU_DIV_NEXT_HI],
  RegRow.mk [MSU_TB_CTRL_SRC, MSU_TB_CTRL_SET, MSU_TB_CTRL_SET_AT_PPS],
  RegRow.mk [MSU_TB_STAT_LOCKED, MSU_TB_STAT_HOLDOVER, MSU_TB_STAT_REF_LOST, MSU_TB_STAT_PPS_LOST],
  RegRow.mk [MSU_TIME_LO],
  RegRow.mk [MSU_TIME_HI],
  RegRow.mk [MSU_TIME_SET_LO],
  RegRow.mk [MSU_TIME_SET_HI]]

/-- The registers of the MSU_ block, part 1. -/
def mapMSU1 : List RegRow := [
  RegRow.mk [MSU_TB_FREQ],
  RegRow.mk [MSU_TRIG_CTRL_EN, MSU_TRIG_CTRL_REF, MSU_TRIG_CTRL_POL, MSU_TRIG_CTRL_DIV, MSU_TRIG_CTRL_PHASE],
  RegRow.mk [MSU_TRIG_OFS_A_OFS],
  RegRow.mk [MSU_TRIG_OFS_B_OFS],
  RegRow.mk [MSU_TRIG_WIDTH, MSU_TRIG_WIDTH_TRIM],
  RegRow.mk [MSU_TRIG_STAT_LATE, MSU_TRIG_STAT_COLLIDE],
  RegRow.mk [MSU_TRIG_STAT2_OVERFLOW]]

/-- All registers of the MSU_ block. -/
def mapMSU : List RegRow := mapMSU0 ++ mapMSU1

/-! ### SYC_ registers (03 R111) -/

/-- SYC_CTRL [0] RW: 1: chain port active -/
def SYC_CTRL_EN : Fld := Fld.mk 0x120000 0 1 .rw 0 false 0 1 0 1
/-- SYC_CTRL [2:1] RW: 0 OFF, 1 MASTER, 2 MEMBER; 3 acts as 0 -/
def SYC_CTRL_ROLE : Fld := Fld.mk 0x120000 1 2 .rw 0 false 0 1 0 1
/-- SYC_CTRL [3] RW: 1: last unit -/
def SYC_CTRL_END : Fld := Fld.mk 0x120000 3 1 .rw 0 false 0 1 0 1
/-- SYC_CTRL [4] WO: Master only: write 1 to enumerate -/
def SYC_CTRL_ENUM : Fld := Fld.mk 0x120000 4 1 .wo 0 false 0 1 0 1
/-- SYC_STAT [0] RO: Member: link valid under R93 -/
def SYC_STAT_LINK_UP : Fld := Fld.mk 0x120004 0 1 .ro 0 false 0 1 0 1
/-- SYC_STAT [1] RO: Member: initial calibration done -/
def SYC_STAT_CAL_DONE : Fld := Fld.mk 0x120004 1 1 .ro 0 false 0 1 0 1
/-- SYC_STAT [2] W1C: R92 -/
def SYC_STAT_LATE_MSG : Fld := Fld.mk 0x120004 2 1 .w1c 0 false 0 1 0 1
/-- SYC_STAT [3] RO: Master: SEEN differs from EXPECT -/
def SYC_STAT_COUNT_ERR : Fld := Fld.mk 0x120004 3 1 .ro 0 false 0 1 0 1
/-- SYC_STAT [4] W1C: More than 63 members -/
def SYC_STAT_HOP_ERR : Fld := Fld.mk 0x120004 4 1 .w1c 0 false 0 1 0 1
/-- SYC_STAT [13:8] RO: Own hop number -/
def SYC_STAT_HOP : Fld := Fld.mk 0x120004 8 6 .ro 0 false 0 1 0 1
/-- SYC_UNITS [6:0] RW: Master: units in chain, 1–64 -/
def SYC_UNITS_EXPECT : Fld := Fld.mk 0x120008 0 7 .rw 1 false 0 1 0 1
/-- SYC_UNITS [14:8] RO: Master: units found by ENUM -/
def SYC_UNITS_SEEN : Fld := Fld.mk 0x120008 8 7 .ro 0 false 0 1 0 1
/-- SYC_DELAY [15:0] RW: Boundary. Chain delay of R92 -/
def SYC_DELAY_DELAY_NS : Fld := Fld.mk 0x12000C 0 16 .rw 1024 true 0 1 0 1
/-- SYC_HOPDLY [23:0] RO: One-way delay to the downstream unit, 3.90625 ps units -/
def SYC_HOPDLY_D : Fld := Fld.mk 0x120010 0 24 .ro 0 false 0 1 0 1
/-- SYC_ASYM [15:0] RW: Signed asymmetry correction in ps -/
def SYC_ASYM_ASYM_PS : Fld := Fld.mk 0x120014 0 16 .rw 0 false 0 1 0 1
/-- SYC_OFFSET [31:0] RO: Signed residual offset from upstream, 3.90625 ps units -/
def SYC_OFFSET_OFS : Fld := Fld.mk 0x120018 0 32 .ro 0 false 0 1 0 1
/-- SYC_CTREC_LO [31:0] RO: Master time of record of the last tick, bits [31:0] -/
def SYC_CTREC_LO : Fld := Fld.mk 0x120020 0 32 .ro 0 false 0 1 0 1
/-- SYC_CTREC_HI [31:0] RO: Bits [63:32] -/
def SYC_CTREC_HI : Fld := Fld.mk 0x120024 0 32 .ro 0 false 0 1 0 1
/-- SYC_MC_ARM [15:0] RW: Armed mode identifier -/
def SYC_MC_ARM_MODE : Fld := Fld.mk 0x120030 0 16 .rw 0 false 0 1 0 1
/-- SYC_MC_ARM [16] RW: 1: unit armed -/
def SYC_MC_ARM_VALID : Fld := Fld.mk 0x120030 16 1 .rw 0 false 0 1 0 1
/-- SYC_MC_CTRL [3:0] RW: Recovery distance; values below LAG + 2 act as LAG + 2 -/
def SYC_MC_CTRL_K : Fld := Fld.mk 0x120034 0 4 .rw 3 false 0 1 0 1
/-- SYC_MC_CTRL [7:4] RW: Status lag of R102 -/
def SYC_MC_CTRL_LAG : Fld := Fld.mk 0x120034 4 4 .rw 1 false 0 1 0 1
/-- SYC_MC_CTRL [8] RW: 0 RECOMMIT, 1 ROLLBACK -/
def SYC_MC_CTRL_RECOVER : Fld := Fld.mk 0x120034 8 1 .rw 0 false 0 1 0 1
/-- SYC_MC_TICK_LO [31:0] RW: Master: target tick bits [31:0] -/
def SYC_MC_TICK_LO_T_LO : Fld := Fld.mk 0x120038 0 32 .rw 0 false 0 1 0 1
/-- SYC_MC_TICK_HI [15:0] RW: Bits [47:32]; bits [31:16] reserved -/
def SYC_MC_TICK_HI_T_HI : Fld := Fld.mk 0x12003C 0 16 .rw 0 false 0 1 0 1
/-- SYC_MC_STAT [3:0] RO: Own state, Table 03-8 -/
def SYC_MC_STAT_STATE : Fld := Fld.mk 0x120040 0 4 .ro 0 false 0 1 0 1
/-- SYC_MC_STAT [7:4] RO: Current MC_SEQ -/
def SYC_MC_STAT_SEQ : Fld := Fld.mk 0x120040 4 4 .ro 0 false 0 1 0 1
/-- SYC_MC_STAT [11:8] RO: Master: aggregated state -/
def SYC_MC_STAT_CHAIN_STATE : Fld := Fld.mk 0x120040 8 4 .ro 0 false 0 1 0 1
/-- SYC_MC_STAT [17:12] RO: Master: FIRST_HOP of last STATUS -/
def SYC_MC_STAT_FIRST_HOP : Fld := Fld.mk 0x120040 12 6 .ro 0 false 0 1 0 1
/-- SYC_MC_STAT [21:19] RO: 0 NONE, 1 DONE, 2 ABORTED, 3 RECOMMITTED, 4 ROLLED_BACK, 5 SPLIT; 6–7 not used -/
def SYC_MC_STAT_OUTCOME : Fld := Fld.mk 0x120040 19 3 .ro 0 false 0 1 0 1
/-- SYC_ERR_CNT [15:0] RC: Messages failing CRC, saturating -/
def SYC_ERR_CNT_CRC_CNT : Fld := Fld.mk 0x120044 0 16 .rc 0 false 0 1 0 1
/-- SYC_ERR_CNT [31:16] RC: Link losses, saturating -/
def SYC_ERR_CNT_LOST_CNT : Fld := Fld.mk 0x120044 16 16 .rc 0 false 0 1 0 1

/-- The registers of the SYC_ block. -/
def mapSYC : List RegRow := [
  RegRow.mk [SYC_CTRL_EN, SYC_CTRL_ROLE, SYC_CTRL_END, SYC_CTRL_ENUM],
  RegRow.mk [SYC_STAT_LINK_UP, SYC_STAT_CAL_DONE, SYC_STAT_LATE_MSG, SYC_STAT_COUNT_ERR, SYC_STAT_HOP_ERR, SYC_STAT_HOP],
  RegRow.mk [SYC_UNITS_EXPECT, SYC_UNITS_SEEN],
  RegRow.mk [SYC_DELAY_DELAY_NS],
  RegRow.mk [SYC_HOPDLY_D],
  RegRow.mk [SYC_ASYM_ASYM_PS],
  RegRow.mk [SYC_OFFSET_OFS],
  RegRow.mk [SYC_CTREC_LO],
  RegRow.mk [SYC_CTREC_HI],
  RegRow.mk [SYC_MC_ARM_MODE, SYC_MC_ARM_VALID],
  RegRow.mk [SYC_MC_CTRL_K, SYC_MC_CTRL_LAG, SYC_MC_CTRL_RECOVER],
  RegRow.mk [SYC_MC_TICK_LO_T_LO],
  RegRow.mk [SYC_MC_TICK_HI_T_HI],
  RegRow.mk [SYC_MC_STAT_STATE, SYC_MC_STAT_SEQ, SYC_MC_STAT_CHAIN_STATE, SYC_MC_STAT_FIRST_HOP, SYC_MC_STAT_OUTCOME],
  RegRow.mk [SYC_ERR_CNT_CRC_CNT, SYC_ERR_CNT_LOST_CNT]]

/-! ### ING_ registers (06 R223) -/

/-- ING_LANE_CTRL [0] RW: Receiver on -/
def ING_LANE_CTRL_RX_EN : Fld := Fld.mk 0x200000 0 1 .rw 0 false 64 32 0 1
/-- ING_LANE_CTRL [1] RW: Transmitter on -/
def ING_LANE_CTRL_TX_EN : Fld := Fld.mk 0x200000 1 1 .rw 0 false 64 32 0 1
/-- ING_LANE_CTRL [4:2] RW: Table 06-1 -/
def ING_LANE_CTRL_PCS : Fld := Fld.mk 0x200000 2 3 .rw 0 false 64 32 0 1
/-- ING_LANE_CTRL [5] RW: Receive polarity inverted -/
def ING_LANE_CTRL_RX_INV : Fld := Fld.mk 0x200000 5 1 .rw 0 false 64 32 0 1
/-- ING_LANE_CTRL [6] RW: Transmit polarity inverted -/
def ING_LANE_CTRL_TX_INV : Fld := Fld.mk 0x200000 6 1 .rw 0 false 64 32 0 1
/-- ING_LANE_CTRL [7] RW: Near-end loopback -/
def ING_LANE_CTRL_LOOP : Fld := Fld.mk 0x200000 7 1 .rw 0 false 64 32 0 1
/-- ING_LANE_CTRL [15:8] RW: Rate multiplier, 8–180 (R191) -/
def ING_LANE_CTRL_MUL : Fld := Fld.mk 0x200000 8 8 .rw 66 false 64 32 0 1
/-- ING_LANE_CTRL [16] RW: 64B66B scrambling on -/
def ING_LANE_CTRL_DESCR : Fld := Fld.mk 0x200000 16 1 .rw 1 false 64 32 0 1
/-- ING_LANE_CTRL [18:17] RW: 0 K28.5, 1 K28.1, 2 K28.7; 3 acts as 0 -/
def ING_LANE_CTRL_COMMA : Fld := Fld.mk 0x200000 17 2 .rw 0 false 64 32 0 1
/-- ING_LANE_SYNC [31:0] RW: Raw sync word -/
def ING_LANE_SYNC : Fld := Fld.mk 0x200004 0 32 .rw 0 false 64 32 0 1
/-- ING_LANE_STAT [0] RO: Clock recovered -/
def ING_LANE_STAT_CDR_LOCK : Fld := Fld.mk 0x200008 0 1 .ro 0 false 64 32 0 1
/-- ING_LANE_STAT [1] RO: R194 -/
def ING_LANE_STAT_WORD_LOCK : Fld := Fld.mk 0x200008 1 1 .ro 0 false 64 32 0 1
/-- ING_LANE_STAT [2] RO: 64B66B BER monitor -/
def ING_LANE_STAT_HI_BER : Fld := Fld.mk 0x200008 2 1 .ro 0 false 64 32 0 1
/-- ING_LANE_STAT [3] W1C: WORD_LOCK fell since cleared -/
def ING_LANE_STAT_LOST : Fld := Fld.mk 0x200008 3 1 .w1c 0 false 64 32 0 1
/-- ING_LANE_STAT [4] W1C: Enable refused under R192 -/
def ING_LANE_STAT_RATE_ERR : Fld := Fld.mk 0x200008 4 1 .w1c 0 false 64 32 0 1
/-- ING_LANE_ERR [15:0] RC: Invalid symbols or blocks, saturating -/
def ING_LANE_ERR_CODE_ERR : Fld := Fld.mk 0x20000C 0 16 .rc 0 false 64 32 0 1
/-- ING_LANE_ERR [31:16] RC: Word-lock losses, saturating -/
def ING_LANE_ERR_LOCK_LOSS : Fld := Fld.mk 0x20000C 16 16 .rc 0 false 64 32 0 1
/-- ING_REF [0] RO: West reference present -/
def ING_REF_REF_W_OK : Fld := Fld.mk 0x200800 0 1 .ro 0 false 0 1 0 1
/-- ING_REF [1] RO: East reference present -/
def ING_REF_REF_E_OK : Fld := Fld.mk 0x200800 1 1 .ro 0 false 0 1 0 1

/-- The registers of the ING_ block. -/
def mapING : List RegRow := [
  RegRow.mk [ING_LANE_CTRL_RX_EN, ING_LANE_CTRL_TX_EN, ING_LANE_CTRL_PCS, ING_LANE_CTRL_RX_INV, ING_LANE_CTRL_TX_INV, ING_LANE_CTRL_LOOP, ING_LANE_CTRL_MUL, ING_LANE_CTRL_DESCR, ING_LANE_CTRL_COMMA],
  RegRow.mk [ING_LANE_SYNC],
  RegRow.mk [ING_LANE_STAT_CDR_LOCK, ING_LANE_STAT_WORD_LOCK, ING_LANE_STAT_HI_BER, ING_LANE_STAT_LOST, ING_LANE_STAT_RATE_ERR],
  RegRow.mk [ING_LANE_ERR_CODE_ERR, ING_LANE_ERR_LOCK_LOSS],
  RegRow.mk [ING_REF_REF_W_OK, ING_REF_REF_E_OK]]

/-! ### LAS_ registers (06 R224) -/

/-- LAS_CTRL [0] RW: Line Assembler enabled (R196) -/
def LAS_CTRL_EN : Fld := Fld.mk 0x210000 0 1 .rw 0 false 128 16 0 1
/-- LAS_CTRL [4:1] RW: First group lane -/
def LAS_CTRL_FIRST : Fld := Fld.mk 0x210000 1 4 .rw 0 false 128 16 0 1
/-- LAS_CTRL [6:5] RW: Lanes 1, 2, 4, 8 -/
def LAS_CTRL_NLANES : Fld := Fld.mk 0x210000 5 2 .rw 0 false 128 16 0 1
/-- LAS_CTRL [7] RW: Check and strip trailer (R200) -/
def LAS_CTRL_CRC : Fld := Fld.mk 0x210000 7 1 .rw 0 false 128 16 0 1
/-- LAS_CTRL [8] RW: Append trailer on transmit -/
def LAS_CTRL_TX_CRC : Fld := Fld.mk 0x210000 8 1 .rw 0 false 128 16 0 1
/-- LAS_CTRL [10:9] RW: Fill lag (R214) -/
def LAS_CTRL_LAG : Fld := Fld.mk 0x210000 9 2 .rw 1 false 128 16 0 1
/-- LAS_CTRL [11] RW: R212 -/
def LAS_CTRL_SPILL_EN : Fld := Fld.mk 0x210000 11 1 .rw 0 false 128 16 0 1
/-- LAS_CTRL [13:12] RW: 0 CELLAR, 1 LARDER, 2 DRAM; 3 refuses EN -/
def LAS_CTRL_TGT : Fld := Fld.mk 0x210000 12 2 .rw 0 false 128 16 0 1
/-- LAS_CTRL [18:14] RW: Target Room index; 24–31 refuse EN -/
def LAS_CTRL_ROOM : Fld := Fld.mk 0x210000 14 5 .rw 0 false 128 16 0 1
/-- LAS_CTRL [19] RW: DRAM target: also write records to the record block -/
def LAS_CTRL_REC_EN : Fld := Fld.mk 0x210000 19 1 .rw 0 false 128 16 0 1
/-- LAS_CTRL [23:20] RW: Transmit lane, offset from FIRST -/
def LAS_CTRL_TX_LANE : Fld := Fld.mk 0x210000 20 4 .rw 0 false 128 16 0 1
/-- LAS_MATCH_LO [31:0] RW: Header bytes 0–3, 4–7 (R201) -/
def LAS_MATCH_LO_MATCH : Fld := Fld.mk 0x210004 0 32 .rw 0 false 128 16 0 1
/-- LAS_MATCH_HI [31:0] RW: Header bytes 0–3, 4–7 (R201) -/
def LAS_MATCH_HI_MATCH : Fld := Fld.mk 0x210008 0 32 .rw 0 false 128 16 0 1
/-- LAS_MASK_LO [31:0] RW: Mask for MATCH -/
def LAS_MASK_LO_MASK : Fld := Fld.mk 0x21000C 0 32 .rw 0 false 128 16 0 1
/-- LAS_MASK_HI [31:0] RW: Mask for MATCH -/
def LAS_MASK_HI_MASK : Fld := Fld.mk 0x210010 0 32 .rw 0 false 128 16 0 1
/-- LAS_HDR [7:0] RW: Header bytes -/
def LAS_HDR_HDR_LEN : Fld := Fld.mk 0x210014 0 8 .rw 0 false 128 16 0 1
/-- LAS_HDR [13:8] RW: Camera ID offset -/
def LAS_HDR_ID_OFS : Fld := Fld.mk 0x210014 8 6 .rw 0 false 128 16 0 1
/-- LAS_HDR [16:14] RW: ID bytes 0–4; 5–7 act as 4 -/
def LAS_HDR_ID_W : Fld := Fld.mk 0x210014 14 3 .rw 0 false 128 16 0 1
/-- LAS_HDR [17] RW: ID big-endian -/
def LAS_HDR_ID_BE : Fld := Fld.mk 0x210014 17 1 .rw 0 false 128 16 0 1
/-- LAS_HDR [23:18] RW: Position offset -/
def LAS_HDR_POS_OFS : Fld := Fld.mk 0x210014 18 6 .rw 0 false 128 16 0 1
/-- LAS_HDR [24] RW: Position field present -/
def LAS_HDR_POS_EN : Fld := Fld.mk 0x210014 24 1 .rw 0 false 128 16 0 1
/-- LAS_HDR [25] RW: Position big-endian -/
def LAS_HDR_POS_BE : Fld := Fld.mk 0x210014 25 1 .rw 0 false 128 16 0 1
/-- LAS_PIX [5:0] RW: Pixel bits (R204) -/
def LAS_PIX_IN_W : Fld := Fld.mk 0x210018 0 6 .rw 12 false 128 16 0 1
/-- LAS_PIX [11:6] RW: Input container bits -/
def LAS_PIX_IN_C : Fld := Fld.mk 0x210018 6 6 .rw 12 false 128 16 0 1
/-- LAS_PIX [17:12] RW: Output container bits -/
def LAS_PIX_OUT_C : Fld := Fld.mk 0x210018 12 6 .rw 12 false 128 16 0 1
/-- LAS_LINE [17:0] RW: Pixels per line, 1–131,072 -/
def LAS_LINE_LINE_PIX : Fld := Fld.mk 0x21001C 0 18 .rw 16384 false 128 16 0 1
/-- LAS_TGT [7:0] RW: First target block -/
def LAS_TGT_BLK_FIRST : Fld := Fld.mk 0x210020 0 8 .rw 0 false 128 16 0 1
/-- LAS_TGT [12:8] RW: Blocks, 1–16 -/
def LAS_TGT_BLK_CNT : Fld := Fld.mk 0x210020 8 5 .rw 1 false 128 16 0 1
/-- LAS_TGT [15:13] RW: Port A data width (R209) -/
def LAS_TGT_WORD_W : Fld := Fld.mk 0x210020 13 3 .rw 3 false 128 16 0 1
/-- LAS_TGT [31:16] RW: First row address -/
def LAS_TGT_ADDR_BASE : Fld := Fld.mk 0x210020 16 16 .rw 0 false 128 16 0 1
/-- LAS_REC [7:0] RW: Record block index -/
def LAS_REC_REC_BLK : Fld := Fld.mk 0x210024 0 8 .rw 0 false 128 16 0 1
/-- LAS_DRAM_LO [31:0] RW: DRAM target base, bits [36:0]; bits [5:0] read 0 -/
def LAS_DRAM_LO_BASE : Fld := Fld.mk 0x210028 0 32 .rw 0 false 128 16 0 1
/-- LAS_DRAM_HI [4:0] RW: DRAM target base, bits [36:0]; bits [5:0] read 0 -/
def LAS_DRAM_HI_BASE : Fld := Fld.mk 0x21002C 0 5 .rw 0 false 128 16 0 1
/-- LAS_DRAM_SLOT [15:0] RW: DRAM target slots; 0 acts as 1 -/
def LAS_DRAM_SLOT_SLOTS : Fld := Fld.mk 0x210030 0 16 .rw 1 false 128 16 0 1
/-- LAS_STRIDE [31:0] RW: Slot stride in bytes; bits [5:0] read 0 -/
def LAS_STRIDE : Fld := Fld.mk 0x210034 0 32 .rw 0 false 128 16 0 1
/-- LAS_SPILL_LO [31:0] RW: Spill base, as LAS_DRAM -/
def LAS_SPILL_LO_BASE : Fld := Fld.mk 0x210038 0 32 .rw 0 false 128 16 0 1
/-- LAS_SPILL_HI [4:0] RW: Spill base, as LAS_DRAM -/
def LAS_SPILL_HI_BASE : Fld := Fld.mk 0x21003C 0 5 .rw 0 false 128 16 0 1
/-- LAS_SPILL_SLOT [15:0] RW: Spill slots; 0 acts as 1 -/
def LAS_SPILL_SLOT_SLOTS : Fld := Fld.mk 0x210040 0 16 .rw 1 false 128 16 0 1
/-- LAS_TRIG [3:0] RW: Trigger output feeding the queue -/
def LAS_TRIG : Fld := Fld.mk 0x210044 0 4 .rw 0 false 128 16 0 1
/-- LAS_TRIG [4] RW: R206; cleared at learning -/
def LAS_TRIG_LEARN : Fld := Fld.mk 0x210044 4 1 .rw 1 false 128 16 0 1
/-- LAS_TRIG [7:5] RW: Ticks an entry stays after MISSING -/
def LAS_TRIG_MISS_WAIT : Fld := Fld.mk 0x210044 5 3 .rw 1 false 128 16 0 1
/-- LAS_TLAT [29:0] RW: Minimum trigger-to-line delay when ID_W = 0 -/
def LAS_TLAT_LAT_MIN_NS : Fld := Fld.mk 0x210048 0 30 .rw 0 false 128 16 0 1
/-- LAS_IDADJ [31:0] RW: ID adjustment (R206) -/
def LAS_IDADJ_ID_ADJ : Fld := Fld.mk 0x21004C 0 32 .rw 0 false 128 16 0 1
/-- LAS_STAT [0] RO: Enabled -/
def LAS_STAT_ACTIVE : Fld := Fld.mk 0x210050 0 1 .ro 0 false 128 16 0 1
/-- LAS_STAT [1] RO: R198 -/
def LAS_STAT_ALIGNED : Fld := Fld.mk 0x210050 1 1 .ro 0 false 128 16 0 1
/-- LAS_STAT [2] RO: Last EN refused -/
def LAS_STAT_CFG_ERR : Fld := Fld.mk 0x210050 2 1 .ro 0 false 128 16 0 1
/-- LAS_STAT [3] RO: A line is open -/
def LAS_STAT_LINE_OPEN : Fld := Fld.mk 0x210050 3 1 .ro 0 false 128 16 0 1
/-- LAS_STAT [4] RO: R222 -/
def LAS_STAT_KMI_SIDE : Fld := Fld.mk 0x210050 4 1 .ro 0 false 128 16 0 1
/-- LAS_STAT [5] RO: R210 -/
def LAS_STAT_TGT_UNAVAIL : Fld := Fld.mk 0x210050 5 1 .ro 0 false 128 16 0 1
/-- LAS_CNT_LINE [15:0] RC: Lines completed on time -/
def LAS_CNT_LINE_LINES : Fld := Fld.mk 0x210054 0 16 .rc 0 false 128 16 0 1
/-- LAS_CNT_LINE [31:16] RC: LATE lines -/
def LAS_CNT_LINE_LATE : Fld := Fld.mk 0x210054 16 16 .rc 0 false 128 16 0 1
/-- LAS_CNT_ERR [7:0] RC: MISSING records -/
def LAS_CNT_ERR_MISSING : Fld := Fld.mk 0x210058 0 8 .rc 0 false 128 16 0 1
/-- LAS_CNT_ERR [15:8] RC: ORPHAN lines -/
def LAS_CNT_ERR_ORPHAN : Fld := Fld.mk 0x210058 8 8 .rc 0 false 128 16 0 1
/-- LAS_CNT_ERR [23:16] RC: DISPLACED lines -/
def LAS_CNT_ERR_DISPLACED : Fld := Fld.mk 0x210058 16 8 .rc 0 false 128 16 0 1
/-- LAS_CNT_ERR [31:24] RC: SHORT lines and discarded stray packets -/
def LAS_CNT_ERR_SHORT : Fld := Fld.mk 0x210058 24 8 .rc 0 false 128 16 0 1
/-- LAS_CNT_PKT [7:0] RC: Packets discarded under R200 -/
def LAS_CNT_PKT_CRC_ERR : Fld := Fld.mk 0x21005C 0 8 .rc 0 false 128 16 0 1
/-- LAS_CNT_PKT [15:8] RC: Side packets dropped -/
def LAS_CNT_PKT_SIDE_DROP : Fld := Fld.mk 0x21005C 8 8 .rc 0 false 128 16 0 1
/-- LAS_CNT_PKT [23:16] RC: Buffer overflows -/
def LAS_CNT_PKT_OVFL : Fld := Fld.mk 0x21005C 16 8 .rc 0 false 128 16 0 1
/-- LAS_CNT_PKT [31:24] RC: Trigger queue entries discarded -/
def LAS_CNT_PKT_TQ_OVF : Fld := Fld.mk 0x21005C 24 8 .rc 0 false 128 16 0 1
/-- LAS_SKEW [5:0] RO: Measured lane spread in words -/
def LAS_SKEW : Fld := Fld.mk 0x210060 0 6 .ro 0 false 128 16 0 1

/-- The registers of the LAS_ block, part 0. -/
def mapLAS0 : List RegRow := [
  RegRow.mk [LAS_CTRL_EN, LAS_CTRL_FIRST, LAS_CTRL_NLANES, LAS_CTRL_CRC, LAS_CTRL_TX_CRC, LAS_CTRL_LAG, LAS_CTRL_SPILL_EN, LAS_CTRL_TGT, LAS_CTRL_ROOM, LAS_CTRL_REC_EN, LAS_CTRL_TX_LANE],
  RegRow.mk [LAS_MATCH_LO_MATCH],
  RegRow.mk [LAS_MATCH_HI_MATCH],
  RegRow.mk [LAS_MASK_LO_MASK],
  RegRow.mk [LAS_MASK_HI_MASK],
  RegRow.mk [LAS_HDR_HDR_LEN, LAS_HDR_ID_OFS, LAS_HDR_ID_W, LAS_HDR_ID_BE, LAS_HDR_POS_OFS, LAS_HDR_POS_EN, LAS_HDR_POS_BE],
  RegRow.mk [LAS_PIX_IN_W, LAS_PIX_IN_C, LAS_PIX_OUT_C],
  RegRow.mk [LAS_LINE_LINE_PIX],
  RegRow.mk [LAS_TGT_BLK_FIRST, LAS_TGT_BLK_CNT, LAS_TGT_WORD_W, LAS_TGT_ADDR_BASE],
  RegRow.mk [LAS_REC_REC_BLK],
  RegRow.mk [LAS_DRAM_LO_BASE],
  RegRow.mk [LAS_DRAM_HI_BASE],
  RegRow.mk [LAS_DRAM_SLOT_SLOTS],
  RegRow.mk [LAS_STRIDE],
  RegRow.mk [LAS_SPILL_LO_BASE],
  RegRow.mk [LAS_SPILL_HI_BASE],
  RegRow.mk [LAS_SPILL_SLOT_SLOTS],
  RegRow.mk [LAS_TRIG, LAS_TRIG_LEARN, LAS_TRIG_MISS_WAIT],
  RegRow.mk [LAS_TLAT_LAT_MIN_NS],
  RegRow.mk [LAS_IDADJ_ID_ADJ]]

/-- The registers of the LAS_ block, part 1. -/
def mapLAS1 : List RegRow := [
  RegRow.mk [LAS_STAT_ACTIVE, LAS_STAT_ALIGNED, LAS_STAT_CFG_ERR, LAS_STAT_LINE_OPEN, LAS_STAT_KMI_SIDE, LAS_STAT_TGT_UNAVAIL],
  RegRow.mk [LAS_CNT_LINE_LINES, LAS_CNT_LINE_LATE],
  RegRow.mk [LAS_CNT_ERR_MISSING, LAS_CNT_ERR_ORPHAN, LAS_CNT_ERR_DISPLACED, LAS_CNT_ERR_SHORT],
  RegRow.mk [LAS_CNT_PKT_CRC_ERR, LAS_CNT_PKT_SIDE_DROP, LAS_CNT_PKT_OVFL, LAS_CNT_PKT_TQ_OVF],
  RegRow.mk [LAS_SKEW]]

/-- All registers of the LAS_ block. -/
def mapLAS : List RegRow := mapLAS0 ++ mapLAS1

/-! ### HLK_ registers (07 R248) -/

/-- HLK_CTRL [2:0] RW: 0 2.5, 1 5, 2 8, 3 16, 4 32, 5 64 GT/s; 6–7 act as 5 (R227) -/
def HLK_CTRL_MAX_RATE : Fld := Fld.mk 0x300000 0 3 .rw 5 false 0 1 0 1
/-- HLK_CTRL [5:3] RW: 0 x1, 1 x2, 2 x4, 3 x8, 4 x16; 5–7 act as 4 -/
def HLK_CTRL_MAX_WIDTH : Fld := Fld.mk 0x300000 3 3 .rw 4 false 0 1 0 1
/-- HLK_CTRL [6] RW: 0: CXL protocols not offered at the next training -/
def HLK_CTRL_CXL_EN : Fld := Fld.mk 0x300000 6 1 .rw 1 false 0 1 0 1
/-- HLK_CTRL [7] RW: Send DRS at readiness -/
def HLK_CTRL_DRS_EN : Fld := Fld.mk 0x300000 7 1 .rw 1 false 0 1 0 1
/-- HLK_CTRL [8] WO: Write 1: retrain the link -/
def HLK_CTRL_RETRAIN : Fld := Fld.mk 0x300000 8 1 .wo 0 false 0 1 0 1
/-- HLK_STAT [0] RO: Link in L0 or a low-power state -/
def HLK_STAT_LINK_UP : Fld := Fld.mk 0x300004 0 1 .ro 0 false 0 1 0 1
/-- HLK_STAT [3:1] RO: Current rate, as MAX_RATE -/
def HLK_STAT_RATE : Fld := Fld.mk 0x300004 1 3 .ro 0 false 0 1 0 1
/-- HLK_STAT [6:4] RO: Current width, as MAX_WIDTH -/
def HLK_STAT_WIDTH : Fld := Fld.mk 0x300004 4 3 .ro 0 false 0 1 0 1
/-- HLK_STAT [7] RO: Flit mode in use -/
def HLK_STAT_FLIT : Fld := Fld.mk 0x300004 7 1 .ro 0 false 0 1 0 1
/-- HLK_STAT [8] RO: CXL.cache negotiated (R226) -/
def HLK_STAT_CXL_CACHE : Fld := Fld.mk 0x300004 8 1 .ro 0 false 0 1 0 1
/-- HLK_STAT [9] RO: CXL.mem negotiated -/
def HLK_STAT_CXL_MEM : Fld := Fld.mk 0x300004 9 1 .ro 0 false 0 1 0 1
/-- HLK_STAT [10] RO: Configuration space ready (R228) -/
def HLK_STAT_CFG_READY : Fld := Fld.mk 0x300004 10 1 .ro 0 false 0 1 0 1
/-- HLK_STAT [11] RO: Memory_Active -/
def HLK_STAT_MEM_ACTIVE : Fld := Fld.mk 0x300004 11 1 .ro 0 false 0 1 0 1
/-- HLK_STAT [12] RO: Decoder committed -/
def HLK_STAT_HDM_COMMITTED : Fld := Fld.mk 0x300004 12 1 .ro 0 false 0 1 0 1
/-- HLK_STAT [15:13] RO: 0 L0, 1 L1, 2 L1.1, 3 L1.2, 4 L2, 5 L3 or down -/
def HLK_STAT_LPM : Fld := Fld.mk 0x300004 13 3 .ro 5 false 0 1 0 1
/-- HLK_STAT [16] RO: OTP defaults in use (R229) -/
def HLK_STAT_SETTINGS_DEF : Fld := Fld.mk 0x300004 16 1 .ro 0 false 0 1 0 1
/-- HLK_READY [15:0] RO: Time of CFG_READY in the last timeline, µs -/
def HLK_READY_CFG_READY_US : Fld := Fld.mk 0x300008 0 16 .ro 0 false 0 1 0 1
/-- HLK_HDM_DPA_BASE_LO [31:0] RW: DPA base bits [31:0]; bits [27:0] read 0 -/
def HLK_HDM_DPA_BASE_LO : Fld := Fld.mk 0x300010 0 32 .rw 0 false 0 1 0 1
/-- HLK_HDM_DPA_BASE_HI [4:0] RW: Bits [36:32]; bits [31:5] reserved -/
def HLK_HDM_DPA_BASE_HI : Fld := Fld.mk 0x300014 0 5 .rw 0 false 0 1 0 1
/-- HLK_HDM_LIMIT [9:0] RW: Range size in 256 MiB, 0–512; 0: no range; above 512 acts as 512 -/
def HLK_HDM_LIMIT : Fld := Fld.mk 0x300018 0 10 .rw 0 false 0 1 0 1
/-- HLK_BIAS_OP [20:0] RW: 64 KiB page index within the HDM range -/
def HLK_BIAS_OP_PAGE : Fld := Fld.mk 0x300020 0 21 .rw 0 false 0 1 0 1
/-- HLK_BIAS_OP [21] WO: Write 1: flip PAGE to DEVICE bias (R241) -/
def HLK_BIAS_OP_GO : Fld := Fld.mk 0x300020 21 1 .wo 0 false 0 1 0 1
/-- HLK_BIAS_STAT [0] RO: Flip in progress -/
def HLK_BIAS_STAT_BUSY : Fld := Fld.mk 0x300024 0 1 .ro 0 false 0 1 0 1
/-- HLK_BIAS_STAT [1] W1C: Last flip cancelled -/
def HLK_BIAS_STAT_CANCELLED : Fld := Fld.mk 0x300024 1 1 .w1c 0 false 0 1 0 1
/-- HLK_BIAS_STAT [2] RO: Bias of PAGE: 1 DEVICE -/
def HLK_BIAS_STAT_DEVICE : Fld := Fld.mk 0x300024 2 1 .ro 0 false 0 1 0 1
/-- HLK_BIAS_CNT [15:0] RC: Pages flipped to HOST by host access, saturating -/
def HLK_BIAS_CNT_AUTO_FLIP : Fld := Fld.mk 0x300028 0 16 .rc 0 false 0 1 0 1
/-- HLK_BIAS_CNT [31:16] RC: Completed flips to DEVICE, saturating -/
def HLK_BIAS_CNT_DEV_FLIP : Fld := Fld.mk 0x300028 16 16 .rc 0 false 0 1 0 1
/-- HLK_WIN_CTRL [15:0] RW: Window read timeout in µs; 0 acts as 1 -/
def HLK_WIN_CTRL_TMO_US : Fld := Fld.mk 0x300030 0 16 .rw 10 false 0 1 0 1
/-- HLK_WIN_CNT [15:0] RC: Accesses to unavailable windows, saturating -/
def HLK_WIN_CNT_UNAVAIL : Fld := Fld.mk 0x300034 0 16 .rc 0 false 0 1 0 1
/-- HLK_WIN_CNT [31:16] RC: Window reads timed out, saturating -/
def HLK_WIN_CNT_TIMEOUT : Fld := Fld.mk 0x300034 16 16 .rc 0 false 0 1 0 1
/-- HLK_ERR_CNT [15:0] RC: Corrected errors, saturating -/
def HLK_ERR_CNT_CORR : Fld := Fld.mk 0x300038 0 16 .rc 0 false 0 1 0 1
/-- HLK_ERR_CNT [31:16] RC: Uncorrected errors, saturating -/
def HLK_ERR_CNT_UNCORR : Fld := Fld.mk 0x300038 16 16 .rc 0 false 0 1 0 1
/-- HLK_POISON_CNT [15:0] RC: Poisoned data sent, saturating -/
def HLK_POISON_CNT_POISON_TX : Fld := Fld.mk 0x30003C 0 16 .rc 0 false 0 1 0 1
/-- HLK_POISON_CNT [31:16] RC: Poisoned data received, saturating -/
def HLK_POISON_CNT_POISON_RX : Fld := Fld.mk 0x30003C 16 16 .rc 0 false 0 1 0 1

/-- The registers of the HLK_ block. -/
def mapHLK : List RegRow := [
  RegRow.mk [HLK_CTRL_MAX_RATE, HLK_CTRL_MAX_WIDTH, HLK_CTRL_CXL_EN, HLK_CTRL_DRS_EN, HLK_CTRL_RETRAIN],
  RegRow.mk [HLK_STAT_LINK_UP, HLK_STAT_RATE, HLK_STAT_WIDTH, HLK_STAT_FLIT, HLK_STAT_CXL_CACHE, HLK_STAT_CXL_MEM, HLK_STAT_CFG_READY, HLK_STAT_MEM_ACTIVE, HLK_STAT_HDM_COMMITTED, HLK_STAT_LPM, HLK_STAT_SETTINGS_DEF],
  RegRow.mk [HLK_READY_CFG_READY_US],
  RegRow.mk [HLK_HDM_DPA_BASE_LO],
  RegRow.mk [HLK_HDM_DPA_BASE_HI],
  RegRow.mk [HLK_HDM_LIMIT],
  RegRow.mk [HLK_BIAS_OP_PAGE, HLK_BIAS_OP_GO],
  RegRow.mk [HLK_BIAS_STAT_BUSY, HLK_BIAS_STAT_CANCELLED, HLK_BIAS_STAT_DEVICE],
  RegRow.mk [HLK_BIAS_CNT_AUTO_FLIP, HLK_BIAS_CNT_DEV_FLIP],
  RegRow.mk [HLK_WIN_CTRL_TMO_US],
  RegRow.mk [HLK_WIN_CNT_UNAVAIL, HLK_WIN_CNT_TIMEOUT],
  RegRow.mk [HLK_ERR_CNT_CORR, HLK_ERR_CNT_UNCORR],
  RegRow.mk [HLK_POISON_CNT_POISON_TX, HLK_POISON_CNT_POISON_RX]]

/-! ### DRG_ registers (08 R278) -/

/-- DRG_CTRL [7:0] RW: R268; 0 acts as 1 -/
def DRG_CTRL_AGE_GRANTS : Fld := Fld.mk 0x4000000 0 8 .rw 16 false 0 1 0 1
/-- DRG_STAT [0] W1C: A START was refused (R250) -/
def DRG_STAT_CFG_ERR : Fld := Fld.mk 0x4000004 0 1 .w1c 0 false 0 1 0 1
/-- DRG_STAT [1] W1C: A doorbell write was discarded (R267) -/
def DRG_STAT_DB_ERR : Fld := Fld.mk 0x4000004 1 1 .w1c 0 false 0 1 0 1
/-- DRG_DISCARD_CNT [15:0] RC: Stale items, all rings, saturating -/
def DRG_DISCARD_CNT_STALE : Fld := Fld.mk 0x4000008 0 16 .rc 0 false 0 1 0 1
/-- DRG_DISCARD_CNT [31:16] RC: Transfers on unbound slots, saturating -/
def DRG_DISCARD_CNT_UNBOUND : Fld := Fld.mk 0x4000008 16 16 .rc 0 false 0 1 0 1
/-- DRG_ERR_RING [14:0] RO: Last ring to enter ERROR -/
def DRG_ERR_RING : Fld := Fld.mk 0x400000C 0 15 .ro 0 false 0 1 0 1
/-- DRG_ERR_RING [15] RO: RING is valid -/
def DRG_ERR_RING_VALID : Fld := Fld.mk 0x400000C 15 1 .ro 0 false 0 1 0 1
/-- DRG_CTX_CTRL [1:0] RO: Table 08-1 -/
def DRG_CTX_CTRL_STATE : Fld := Fld.mk 0x4200000 0 2 .ro 0 false 64 32768 0 1
/-- DRG_CTX_CTRL [6:4] WO: 1 START, 2 STOP, 3 ABORT, 4 DISABLE; others ignored -/
def DRG_CTX_CTRL_CMD : Fld := Fld.mk 0x4200000 4 3 .wo 0 false 64 32768 0 1
/-- DRG_CTX_CTRL [7] RW: 0 F2H, 1 H2F -/
def DRG_CTX_CTRL_DIR : Fld := Fld.mk 0x4200000 7 1 .rw 0 false 64 32768 0 1
/-- DRG_CTX_CTRL [8] RW: 0 STREAM, 1 DRAM_COPY -/
def DRG_CTX_CTRL_KIND : Fld := Fld.mk 0x4200000 8 1 .rw 0 false 64 32768 0 1
/-- DRG_CTX_CTRL [10:9] RW: R268 -/
def DRG_CTX_CTRL_PRIO : Fld := Fld.mk 0x4200000 9 2 .rw 0 false 64 32768 0 1
/-- DRG_CTX_CTRL [11] RW: R270 -/
def DRG_CTX_CTRL_FENCE_EN : Fld := Fld.mk 0x4200000 11 1 .rw 0 false 64 32768 0 1
/-- DRG_CTX_CTRL [12] RW: FENCE entries -/
def DRG_CTX_CTRL_FENCE_RPT : Fld := Fld.mk 0x4200000 12 1 .rw 0 false 64 32768 0 1
/-- DRG_CTX_CTRL [13] RW: R262, R265 -/
def DRG_CTX_CTRL_META_EN : Fld := Fld.mk 0x4200000 13 1 .rw 0 false 64 32768 0 1
/-- DRG_CTX_CTRL [14] RW: 0 DROP, 1 STALL -/
def DRG_CTX_CTRL_FULL_POL : Fld := Fld.mk 0x4200000 14 1 .rw 0 false 64 32768 0 1
/-- DRG_CTX_CTRL [15] RW: R266 -/
def DRG_CTX_CTRL_ROOM_ACK : Fld := Fld.mk 0x4200000 15 1 .rw 0 false 64 32768 0 1
/-- DRG_CTX_CTRL [17:16] RW: 0 KEEP, 1 STOP; 2–3 act as 0 -/
def DRG_CTX_CTRL_CO_POL : Fld := Fld.mk 0x4200000 16 2 .rw 0 false 64 32768 0 1
/-- DRG_CTX_CTRL [21:18] RO: Current generation -/
def DRG_CTX_CTRL_GEN : Fld := Fld.mk 0x4200000 18 4 .ro 0 false 64 32768 0 1
/-- DRG_CTX_CTRL [25:22] RO: Table 08-2 -/
def DRG_CTX_CTRL_ERR_CODE : Fld := Fld.mk 0x4200000 22 4 .ro 0 false 64 32768 0 1
/-- DRG_CTX_BIND [4:0] RW: Room index 0–23 -/
def DRG_CTX_BIND_ROOM : Fld := Fld.mk 0x4200004 0 5 .rw 0 false 64 32768 0 1
/-- DRG_CTX_BIND [7:5] RW: Port 0–7 -/
def DRG_CTX_BIND_PORT : Fld := Fld.mk 0x4200004 5 3 .rw 0 false 64 32768 0 1
/-- DRG_CTX_BIND [15:8] RW: Slot 0–255 -/
def DRG_CTX_BIND_SLOT : Fld := Fld.mk 0x4200004 8 8 .rw 0 false 64 32768 0 1
/-- DRG_CTX_BIND [21:16] RW: 0 PF1, 1–63 VF -/
def DRG_CTX_BIND_FUNC : Fld := Fld.mk 0x4200004 16 6 .rw 0 false 64 32768 0 1
/-- DRG_CTX_SIZE [4:0] RW: SQ entries 2^SQ_LOG2, 6–16 -/
def DRG_CTX_SIZE_SQ_LOG2 : Fld := Fld.mk 0x4200008 0 5 .rw 0 false 64 32768 0 1
/-- DRG_CTX_SIZE [9:5] RW: CQ entries 2^CQ_LOG2, 6–16 -/
def DRG_CTX_SIZE_CQ_LOG2 : Fld := Fld.mk 0x4200008 5 5 .rw 0 false 64 32768 0 1
/-- DRG_CTX_SIZE [20:10] RW: Doorbell index within a VF -/
def DRG_CTX_SIZE_LIDX : Fld := Fld.mk 0x4200008 10 11 .rw 0 false 64 32768 0 1
/-- DRG_CTX_IRQ [10:0] RW: MSI-X vector in the function -/
def DRG_CTX_IRQ_VEC : Fld := Fld.mk 0x420000C 0 11 .rw 0 false 64 32768 0 1
/-- DRG_CTX_IRQ [12:11] RW: Table 08-7 -/
def DRG_CTX_IRQ_MOD : Fld := Fld.mk 0x420000C 11 2 .rw 0 false 64 32768 0 1
/-- DRG_CTX_IRQ [20:13] RW: Count threshold -/
def DRG_CTX_IRQ_CNT : Fld := Fld.mk 0x420000C 13 8 .rw 1 false 64 32768 0 1
/-- DRG_CTX_IRQ [30:21] RW: Age threshold in µs -/
def DRG_CTX_IRQ_TIME_US : Fld := Fld.mk 0x420000C 21 10 .rw 0 false 64 32768 0 1
/-- DRG_CTX_IRQ [31] RO: R276 -/
def DRG_CTX_IRQ_ARMED : Fld := Fld.mk 0x420000C 31 1 .ro 1 false 64 32768 0 1
/-- DRG_CTX_SQ_BASE_LO [31:0] RW: SQ bus address; bits [11:0] read 0 -/
def DRG_CTX_SQ_BASE_LO_BASE : Fld := Fld.mk 0x4200010 0 32 .rw 0 false 64 32768 0 1
/-- DRG_CTX_SQ_BASE_HI [31:0] RW: SQ bus address; bits [11:0] read 0 -/
def DRG_CTX_SQ_BASE_HI_BASE : Fld := Fld.mk 0x4200014 0 32 .rw 0 false 64 32768 0 1
/-- DRG_CTX_CQ_BASE_LO [31:0] RW: CQ bus address; bits [11:0] read 0 -/
def DRG_CTX_CQ_BASE_LO_BASE : Fld := Fld.mk 0x4200018 0 32 .rw 0 false 64 32768 0 1
/-- DRG_CTX_CQ_BASE_HI [31:0] RW: CQ bus address; bits [11:0] read 0 -/
def DRG_CTX_CQ_BASE_HI_BASE : Fld := Fld.mk 0x420001C 0 32 .rw 0 false 64 32768 0 1
/-- DRG_CTX_SQ [15:0] RO: Host producer index -/
def DRG_CTX_SQ_PI : Fld := Fld.mk 0x4200020 0 16 .ro 0 false 64 32768 0 1
/-- DRG_CTX_SQ [31:16] RO: Device consumer index -/
def DRG_CTX_SQ_CI : Fld := Fld.mk 0x4200020 16 16 .ro 0 false 64 32768 0 1
/-- DRG_CTX_CQ [15:0] RO: Device producer index -/
def DRG_CTX_CQ_PI : Fld := Fld.mk 0x4200024 0 16 .ro 0 false 64 32768 0 1
/-- DRG_CTX_CQ [31:16] RO: Host consumer index -/
def DRG_CTX_CQ_CI : Fld := Fld.mk 0x4200024 16 16 .ro 0 false 64 32768 0 1
/-- DRG_CTX_CNT [15:0] RC: Transfers completed, saturating -/
def DRG_CTX_CNT_XFER : Fld := Fld.mk 0x4200028 0 16 .rc 0 false 64 32768 0 1
/-- DRG_CTX_CNT [31:16] RC: Transfers dropped (R263), saturating -/
def DRG_CTX_CNT_DROP : Fld := Fld.mk 0x4200028 16 16 .rc 0 false 64 32768 0 1
/-- DRG_CTX_CNT2 [7:0] RC: Stale items of this ring, saturating -/
def DRG_CTX_CNT2_STALE : Fld := Fld.mk 0x420002C 0 8 .rc 0 false 64 32768 0 1
/-- DRG_CTX_CNT2 [15:8] RC: TRUNCATED completions, saturating -/
def DRG_CTX_CNT2_TRUNC : Fld := Fld.mk 0x420002C 8 8 .rc 0 false 64 32768 0 1

/-- The registers of the DRG_ block. -/
def mapDRG : List RegRow := [
  RegRow.mk [DRG_CTRL_AGE_GRANTS],
  RegRow.mk [DRG_STAT_CFG_ERR, DRG_STAT_DB_ERR],
  RegRow.mk [DRG_DISCARD_CNT_STALE, DRG_DISCARD_CNT_UNBOUND],
  RegRow.mk [DRG_ERR_RING, DRG_ERR_RING_VALID],
  RegRow.mk [DRG_CTX_CTRL_STATE, DRG_CTX_CTRL_CMD, DRG_CTX_CTRL_DIR, DRG_CTX_CTRL_KIND, DRG_CTX_CTRL_PRIO, DRG_CTX_CTRL_FENCE_EN, DRG_CTX_CTRL_FENCE_RPT, DRG_CTX_CTRL_META_EN, DRG_CTX_CTRL_FULL_POL, DRG_CTX_CTRL_ROOM_ACK, DRG_CTX_CTRL_CO_POL, DRG_CTX_CTRL_GEN, DRG_CTX_CTRL_ERR_CODE],
  RegRow.mk [DRG_CTX_BIND_ROOM, DRG_CTX_BIND_PORT, DRG_CTX_BIND_SLOT, DRG_CTX_BIND_FUNC],
  RegRow.mk [DRG_CTX_SIZE_SQ_LOG2, DRG_CTX_SIZE_CQ_LOG2, DRG_CTX_SIZE_LIDX],
  RegRow.mk [DRG_CTX_IRQ_VEC, DRG_CTX_IRQ_MOD, DRG_CTX_IRQ_CNT, DRG_CTX_IRQ_TIME_US, DRG_CTX_IRQ_ARMED],
  RegRow.mk [DRG_CTX_SQ_BASE_LO_BASE],
  RegRow.mk [DRG_CTX_SQ_BASE_HI_BASE],
  RegRow.mk [DRG_CTX_CQ_BASE_LO_BASE],
  RegRow.mk [DRG_CTX_CQ_BASE_HI_BASE],
  RegRow.mk [DRG_CTX_SQ_PI, DRG_CTX_SQ_CI],
  RegRow.mk [DRG_CTX_CQ_PI, DRG_CTX_CQ_CI],
  RegRow.mk [DRG_CTX_CNT_XFER, DRG_CTX_CNT_DROP],
  RegRow.mk [DRG_CTX_CNT2_STALE, DRG_CTX_CNT2_TRUNC]]

/-! ### DMC_ registers (09 R317) -/

/-- DMC_CFG [0] RW: Controller serves requests (R286, R308) -/
def DMC_CFG_EN : Fld := Fld.mk 0x400000 0 1 .rw 0 false 0 1 0 1
/-- DMC_CFG [2:1] RW: 0 6,400, 1 5,600, 2 4,800 MT/s; 3 acts as 2; next training -/
def DMC_CFG_RATE : Fld := Fld.mk 0x400000 1 2 .rw 0 false 0 1 0 1
/-- DMC_CFG [4:3] RW: Bit 3 channel A, bit 4 channel B; 0b00 acts as 0b11; next training -/
def DMC_CFG_CH_EN : Fld := Fld.mk 0x400000 3 2 .rw 3 false 0 1 0 1
/-- DMC_CFG [5] RW: Write CRC (R314) -/
def DMC_CFG_WCRC : Fld := Fld.mk 0x400000 5 1 .rw 1 false 0 1 0 1
/-- DMC_CFG [6] RW: 1N command timing after training -/
def DMC_CFG_CMD_1N : Fld := Fld.mk 0x400000 6 1 .rw 0 false 0 1 0 1
/-- DMC_CFG [7] RW: R309 -/
def DMC_CFG_INIT : Fld := Fld.mk 0x400000 7 1 .rw 1 false 0 1 0 1
/-- DMC_STAT [0] RO: R308 -/
def DMC_STAT_TRAINED : Fld := Fld.mk 0x400004 0 1 .ro 0 false 0 1 0 1
/-- DMC_STAT [1] RO: R286 -/
def DMC_STAT_MAP_ERR : Fld := Fld.mk 0x400004 1 1 .ro 0 false 0 1 0 1
/-- DMC_STAT [2] RO: R300 -/
def DMC_STAT_REF2X : Fld := Fld.mk 0x400004 2 1 .ro 0 false 0 1 0 1
/-- DMC_STAT [3] RO: Initialisation pass complete -/
def DMC_STAT_INIT_DONE : Fld := Fld.mk 0x400004 3 1 .ro 0 false 0 1 0 1
/-- DMC_STAT [4] RO: In self-refresh -/
def DMC_STAT_SR : Fld := Fld.mk 0x400004 4 1 .ro 0 false 0 1 0 1
/-- DMC_STAT [9:6] RO: Per subchannel A0, A1, B0, B1 (R315) -/
def DMC_STAT_FAULT : Fld := Fld.mk 0x400004 6 4 .ro 0 false 0 1 0 1
/-- DMC_GEOM [1:0] RO: 0 16 Gb, 1 24 Gb, 2 32 Gb -/
def DMC_GEOM_DENSITY : Fld := Fld.mk 0x400008 0 2 .ro 0 false 0 1 0 1
/-- DMC_GEOM [2] RO: 0 ×8, 1 ×16 -/
def DMC_GEOM_WIDTH : Fld := Fld.mk 0x400008 2 1 .ro 0 false 0 1 0 1
/-- DMC_GEOM [3] RO: 0 one, 1 two -/
def DMC_GEOM_RANKS : Fld := Fld.mk 0x400008 3 1 .ro 0 false 0 1 0 1
/-- DMC_GEOM [11:4] RO: Installed capacity in GiB -/
def DMC_GEOM_CAP_GIB : Fld := Fld.mk 0x400008 4 8 .ro 0 false 0 1 0 1
/-- DMC_INIT_MARK [30:0] RO: DPA[36:6] of the high-water mark -/
def DMC_INIT_MARK : Fld := Fld.mk 0x40000C 0 31 .ro 0 false 0 1 0 1
/-- DMC_MAP_LO [31:0] RW: Mask bits [31:0]; b: 0 SC, 1 CH, 2 BA0, 3 BA1, 4 BG0, 5 BG1, 6 BG2, 7 RK -/
def DMC_MAP_LO_MASK : Fld := Fld.mk 0x400010 0 32 .rw 0 false 8 8 0 1
/-- DMC_MAP_HI [4:0] RW: Mask bits [36:32]; bits [31:5] reserved -/
def DMC_MAP_HI_MASK : Fld := Fld.mk 0x400014 0 5 .rw 0 false 8 8 0 1
/-- DMC_SCHED [11:0] RW: Age cap in CD88 cycles; 0 acts as 1 -/
def DMC_SCHED_AGE_CAP : Fld := Fld.mk 0x400050 0 12 .rw 1024 false 0 1 0 1
/-- DMC_SCHED [13:12] RW: 0 OPEN, 1 CLOSE, 2 PREDICT; 3 acts as 2 -/
def DMC_SCHED_PAGE : Fld := Fld.mk 0x400050 12 2 .rw 2 false 0 1 0 1
/-- DMC_SCHED [23:14] RW: Idle row timeout, CD88 cycles -/
def DMC_SCHED_PAGE_TMO : Fld := Fld.mk 0x400050 14 10 .rw 128 false 0 1 0 1
/-- DMC_WQ [5:0] RW: Leave write drain at or below -/
def DMC_WQ_WQ_LOW : Fld := Fld.mk 0x400054 0 6 .rw 16 false 0 1 0 1
/-- DMC_WQ [13:8] RW: Enter write drain at or above; WQ_HIGH ≤ WQ_LOW acts as both defaults -/
def DMC_WQ_WQ_HIGH : Fld := Fld.mk 0x400054 8 6 .rw 48 false 0 1 0 1
/-- DMC_REF_CTRL [0] RW: 0 FIXED, 1 TICK (R299) -/
def DMC_REF_CTRL_MODE : Fld := Fld.mk 0x400060 0 1 .rw 0 false 0 1 0 1
/-- DMC_REF_TIME [15:0] RW: tREFI, set by training (R300); 0 acts as 3,900 -/
def DMC_REF_TIME_TREFI_NS : Fld := Fld.mk 0x400064 0 16 .rw 3900 false 0 1 0 1
/-- DMC_REF_TIME [31:16] RW: Declared refresh duration -/
def DMC_REF_TIME_TRFC_NS : Fld := Fld.mk 0x400064 16 16 .rw 410 false 0 1 0 1
/-- DMC_REF_STAT [3:0] RO: Signed, −4 to +4 -/
def DMC_REF_STAT_DEBT : Fld := Fld.mk 0x400068 0 4 .ro 0 false 0 1 0 1
/-- DMC_REF_STAT [4] RO: Refresh awaiting admission -/
def DMC_REF_STAT_PENDING : Fld := Fld.mk 0x400068 4 1 .ro 0 false 0 1 0 1
/-- DMC_NR [15:0] RW: R303 -/
def DMC_NR_PROB : Fld := Fld.mk 0x400070 0 16 .rw 256 false 0 1 0 1
/-- DMC_NR [16] RW: 0 ±1, 1 ±1 and ±2 -/
def DMC_NR_DIST : Fld := Fld.mk 0x400070 16 1 .rw 0 false 0 1 0 1
/-- DMC_NR_CNT [15:0] RC: Neighbour refreshes issued -/
def DMC_NR_CNT_ISSUED : Fld := Fld.mk 0x400074 0 16 .rc 0 false 0 1 0 1
/-- DMC_NR_CNT [31:16] RC: Selections dropped -/
def DMC_NR_CNT_DROPPED : Fld := Fld.mk 0x400074 16 16 .rc 0 false 0 1 0 1
/-- DMC_PD [0] RW: R304 -/
def DMC_PD_EN : Fld := Fld.mk 0x400078 0 1 .rw 1 false 0 1 0 1
/-- DMC_PD [15:4] RW: Idle cycles before power-down -/
def DMC_PD_IDLE : Fld := Fld.mk 0x400078 4 12 .rw 256 false 0 1 0 1
/-- DMC_TRAIN_CTRL [0] WO: Write 1: train (R305); ignored while EN = 1 or BUSY = 1 -/
def DMC_TRAIN_CTRL_GO : Fld := Fld.mk 0x400080 0 1 .wo 0 false 0 1 0 1
/-- DMC_TRAIN_CTRL [1] RW: 0 FULL, 1 STORED -/
def DMC_TRAIN_CTRL_MODE : Fld := Fld.mk 0x400080 1 1 .rw 0 false 0 1 0 1
/-- DMC_TRAIN_STAT [0] RO: Training running -/
def DMC_TRAIN_STAT_BUSY : Fld := Fld.mk 0x400084 0 1 .ro 0 false 0 1 0 1
/-- DMC_TRAIN_STAT [1] RO: Last training passed -/
def DMC_TRAIN_STAT_PASS : Fld := Fld.mk 0x400084 1 1 .ro 0 false 0 1 0 1
/-- DMC_TRAIN_STAT [2] RO: A lane or identity failed (R281, R306) -/
def DMC_TRAIN_STAT_FAIL : Fld := Fld.mk 0x400084 2 1 .ro 0 false 0 1 0 1
/-- DMC_TRAIN_STAT [3] RO: R307 -/
def DMC_TRAIN_STAT_VERIFY_FAIL : Fld := Fld.mk 0x400084 3 1 .ro 0 false 0 1 0 1
/-- DMC_TRAIN_STAT [13:8] RO: Index n of the first failing lane, or the lane named under R281; written each time FAIL is set -/
def DMC_TRAIN_STAT_FAIL_LANE : Fld := Fld.mk 0x400084 8 6 .ro 0 false 0 1 0 1
/-- DMC_TRAIN_STAT [31:16] RO: Duration of last training, 0.1 ms units -/
def DMC_TRAIN_STAT_TIME : Fld := Fld.mk 0x400084 16 16 .ro 0 false 0 1 0 1
/-- DMC_LANE [6:0] RW: n = ((2 × ch + rank) × 2 + sc) × 5 + lane; 1/64 UI -/
def DMC_LANE_RD_DLY : Fld := Fld.mk 0x400100 0 7 .rw 0 false 4 40 0 1
/-- DMC_LANE [13:7] RW: 1/64 UI -/
def DMC_LANE_WR_DLY : Fld := Fld.mk 0x400100 7 7 .rw 0 false 4 40 0 1
/-- DMC_LANE [19:14] RW: 0.5 % VDDQ steps -/
def DMC_LANE_RD_VREF : Fld := Fld.mk 0x400100 14 6 .rw 0 false 4 40 0 1
/-- DMC_LANE [25:20] RW: 0.5 % VDDQ steps -/
def DMC_LANE_WR_VREF : Fld := Fld.mk 0x400100 20 6 .rw 0 false 4 40 0 1
/-- DMC_LANE [31:26] RO: Eye width in 1/64 UI, saturating at 63 -/
def DMC_LANE_EYE : Fld := Fld.mk 0x400100 26 6 .ro 0 false 4 40 0 1
/-- DMC_ERR_CTRL [15:0] RW: R310; 0 acts as 1 -/
def DMC_ERR_CTRL_CE_THR : Fld := Fld.mk 0x400200 0 16 .rw 256 false 0 1 0 1
/-- DMC_ERR_CTRL [16] RW: Write back corrected lines -/
def DMC_ERR_CTRL_SCRUB : Fld := Fld.mk 0x400200 16 1 .rw 1 false 0 1 0 1
/-- DMC_ERR_CNT [15:0] RC: Corrected beats -/
def DMC_ERR_CNT_CE : Fld := Fld.mk 0x400204 0 16 .rc 0 false 0 1 0 1
/-- DMC_ERR_CNT [31:16] RC: Uncorrectable lines -/
def DMC_ERR_CNT_UE : Fld := Fld.mk 0x400204 16 16 .rc 0 false 0 1 0 1
/-- DMC_ERR_ADDR_LO [31:0] RO: Last uncorrectable DPA, bits [31:0] -/
def DMC_ERR_ADDR_LO_DPA_LO : Fld := Fld.mk 0x400208 0 32 .ro 0 false 0 1 0 1
/-- DMC_ERR_ADDR_HI [4:0] RO: Bits [36:32] -/
def DMC_ERR_ADDR_HI_DPA_HI : Fld := Fld.mk 0x40020C 0 5 .ro 0 false 0 1 0 1
/-- DMC_ERR_ADDR_HI [31] RO: DPA is valid; bits [30:5] reserved -/
def DMC_ERR_ADDR_HI_VALID : Fld := Fld.mk 0x40020C 31 1 .ro 0 false 0 1 0 1
/-- DMC_BADLINE [4:0] RO: Largest table fill over the four subchannels, 0–16 -/
def DMC_BADLINE_USED : Fld := Fld.mk 0x400210 0 5 .ro 0 false 0 1 0 1
/-- DMC_BADLINE [31:16] RC: Writes failed under R314 -/
def DMC_BADLINE_CMD_ERR : Fld := Fld.mk 0x400210 16 16 .rc 0 false 0 1 0 1
/-- DMC_PERF [15:0] RC: Column commands to an open row -/
def DMC_PERF_HIT : Fld := Fld.mk 0x400300 0 16 .rc 0 false 0 1 0 1
/-- DMC_PERF [31:16] RC: Column commands that needed an ACT -/
def DMC_PERF_MISS : Fld := Fld.mk 0x400300 16 16 .rc 0 false 0 1 0 1
/-- DMC_STR_LO [5:0] RW: Window 2^SIZE_LOG2 bytes, 12–37; other values disable -/
def DMC_STR_LO_SIZE_LOG2 : Fld := Fld.mk 0x404000 0 6 .rw 0 false 2048 24 8 256
/-- DMC_STR_LO [31:6] RW: Base DPA bits [31:6] -/
def DMC_STR_LO_BASE_LO : Fld := Fld.mk 0x404000 6 26 .rw 0 false 2048 24 8 256
/-- DMC_STR_HI [4:0] RW: Base DPA bits [36:32] -/
def DMC_STR_HI_BASE_HI : Fld := Fld.mk 0x404004 0 5 .rw 0 false 2048 24 8 256
/-- DMC_STR_HI [5] RW: Writes allowed -/
def DMC_STR_HI_WR : Fld := Fld.mk 0x404004 5 1 .rw 0 false 2048 24 8 256
/-- DMC_STR_HI [6] RW: Reads allowed -/
def DMC_STR_HI_RD : Fld := Fld.mk 0x404004 6 1 .rw 0 false 2048 24 8 256

/-- The registers of the DMC_ block, part 0. -/
def mapDMC0 : List RegRow := [
  RegRow.mk [DMC_CFG_EN, DMC_CFG_RATE, DMC_CFG_CH_EN, DMC_CFG_WCRC, DMC_CFG_CMD_1N, DMC_CFG_INIT],
  RegRow.mk [DMC_STAT_TRAINED, DMC_STAT_MAP_ERR, DMC_STAT_REF2X, DMC_STAT_INIT_DONE, DMC_STAT_SR, DMC_STAT_FAULT],
  RegRow.mk [DMC_GEOM_DENSITY, DMC_GEOM_WIDTH, DMC_GEOM_RANKS, DMC_GEOM_CAP_GIB],
  RegRow.mk [DMC_INIT_MARK],
  RegRow.mk [DMC_MAP_LO_MASK],
  RegRow.mk [DMC_MAP_HI_MASK],
  RegRow.mk [DMC_SCHED_AGE_CAP, DMC_SCHED_PAGE, DMC_SCHED_PAGE_TMO],
  RegRow.mk [DMC_WQ_WQ_LOW, DMC_WQ_WQ_HIGH],
  RegRow.mk [DMC_REF_CTRL_MODE],
  RegRow.mk [DMC_REF_TIME_TREFI_NS, DMC_REF_TIME_TRFC_NS],
  RegRow.mk [DMC_REF_STAT_DEBT, DMC_REF_STAT_PENDING],
  RegRow.mk [DMC_NR_PROB, DMC_NR_DIST],
  RegRow.mk [DMC_NR_CNT_ISSUED, DMC_NR_CNT_DROPPED],
  RegRow.mk [DMC_PD_EN, DMC_PD_IDLE],
  RegRow.mk [DMC_TRAIN_CTRL_GO, DMC_TRAIN_CTRL_MODE],
  RegRow.mk [DMC_TRAIN_STAT_BUSY, DMC_TRAIN_STAT_PASS, DMC_TRAIN_STAT_FAIL, DMC_TRAIN_STAT_VERIFY_FAIL, DMC_TRAIN_STAT_FAIL_LANE, DMC_TRAIN_STAT_TIME],
  RegRow.mk [DMC_LANE_RD_DLY, DMC_LANE_WR_DLY, DMC_LANE_RD_VREF, DMC_LANE_WR_VREF, DMC_LANE_EYE],
  RegRow.mk [DMC_ERR_CTRL_CE_THR, DMC_ERR_CTRL_SCRUB],
  RegRow.mk [DMC_ERR_CNT_CE, DMC_ERR_CNT_UE],
  RegRow.mk [DMC_ERR_ADDR_LO_DPA_LO]]

/-- The registers of the DMC_ block, part 1. -/
def mapDMC1 : List RegRow := [
  RegRow.mk [DMC_ERR_ADDR_HI_DPA_HI, DMC_ERR_ADDR_HI_VALID],
  RegRow.mk [DMC_BADLINE_USED, DMC_BADLINE_CMD_ERR],
  RegRow.mk [DMC_PERF_HIT, DMC_PERF_MISS],
  RegRow.mk [DMC_STR_LO_SIZE_LOG2, DMC_STR_LO_BASE_LO],
  RegRow.mk [DMC_STR_HI_BASE_HI, DMC_STR_HI_WR, DMC_STR_HI_RD]]

/-- All registers of the DMC_ block. -/
def mapDMC : List RegRow := mapDMC0 ++ mapDMC1

/-! ### CFG_ registers (10 R356) -/

/-- CFG_LOAD_STAT [2:0] RO: 0 IDLE, 1 HEADER, 2 STREAM, 3 AUTH, 4 VERIFY, 5 DONE, 6 FAILED; 7 not used -/
def CFG_LOAD_STAT_STATE : Fld := Fld.mk 0x500000 0 3 .ro 0 false 0 1 0 1
/-- CFG_LOAD_STAT [12:8] RO: Room whose group record is being received -/
def CFG_LOAD_STAT_ROOM : Fld := Fld.mk 0x500000 8 5 .ro 0 false 0 1 0 1
/-- CFG_LOAD_STAT [23:16] RO: 0 none; 1–7 the order of Table 10-9; otherwise 16 + row of Table 10-10, counting rows from 1: 17 FRAME_CRC, 18 CLOCK_MISMATCH, 19 DOOR_OWNER, 20 BAD_RECORD, 21 AUTH_FAIL, 22 IMAGE_LENGTH, 23 DEADLINE, 24 HW_FAULT, 25 ended by LOAD_ABORT, FLR or reset; 26 not used, because a power loss leaves STATE IDLE -/
def CFG_LOAD_STAT_ERR : Fld := Fld.mk 0x500000 16 8 .ro 0 false 0 1 0 1
/-- CFG_LOAD_STAT [24] RO: Last session ended WORN -/
def CFG_LOAD_STAT_WORN : Fld := Fld.mk 0x500000 24 1 .ro 0 false 0 1 0 1
/-- CFG_LOAD_BYTES [31:0] RO: Image bytes accepted in the session -/
def CFG_LOAD_BYTES : Fld := Fld.mk 0x500004 0 32 .ro 0 false 0 1 0 1
/-- CFG_LOAD_TMO [15:0] RW: Data timeout in ms; 0 acts as 1 -/
def CFG_LOAD_TMO_TMO_MS : Fld := Fld.mk 0x500008 0 16 .rw 1000 false 0 1 0 1
/-- CFG_ITIN [31:0] RO: R353 -/
def CFG_ITIN_ITIN_ID : Fld := Fld.mk 0x50000C 0 32 .ro 0 false 0 1 0 1
/-- CFG_STAGE [23:0] WO: Start staging (R337) -/
def CFG_STAGE_ROOMS : Fld := Fld.mk 0x500010 0 24 .wo 0 false 0 1 0 1
/-- CFG_CO_CNT [15:0] RC: Changeovers and rollbacks done, saturating -/
def CFG_CO_CNT_DONE : Fld := Fld.mk 0x500014 0 16 .rc 0 false 0 1 0 1
/-- CFG_CO_CNT [31:16] RC: Cancelled, saturating -/
def CFG_CO_CNT_CANCELLED : Fld := Fld.mk 0x500014 16 16 .rc 0 false 0 1 0 1
/-- CFG_DOOR_TBL [0] RO: A staged Door table exists -/
def CFG_DOOR_TBL_STAGED : Fld := Fld.mk 0x500018 0 1 .ro 0 false 0 1 0 1
/-- CFG_CO_MASK [23:0] RW: Mask M -/
def CFG_CO_MASK_ROOMS : Fld := Fld.mk 0x500040 0 24 .rw 0 false 32 4 0 1
/-- CFG_CO_MASK [24] RW: 1: rollback (R348) -/
def CFG_CO_MASK_ROLLBACK : Fld := Fld.mk 0x500040 24 1 .rw 0 false 32 4 0 1
/-- CFG_CO_MASK [25] RO: Slot held by an armed Sync Chain or twin mode change -/
def CFG_CO_MASK_CHAIN : Fld := Fld.mk 0x500040 25 1 .ro 0 false 32 4 0 1
/-- CFG_CO_TICK_LO [31:0] RW: T bits [31:0] -/
def CFG_CO_TICK_LO_T_LO : Fld := Fld.mk 0x500044 0 32 .rw 0 false 32 4 0 1
/-- CFG_CO_TICK_HI [15:0] RW: T bits [47:32]; bits [31:16] reserved -/
def CFG_CO_TICK_HI_T_HI : Fld := Fld.mk 0x500048 0 16 .rw 0 false 32 4 0 1
/-- CFG_CO_ITIN [31:0] RW: R339 -/
def CFG_CO_ITIN_ITIN_ID : Fld := Fld.mk 0x50004C 0 32 .rw 0 false 32 4 0 1
/-- CFG_CO_STAT [2:0] RO: 0 FREE, 1 PENDING, 2 CHECKED, 3 DONE, 4 CANCELLED; 5–7 not used -/
def CFG_CO_STAT_STATE : Fld := Fld.mk 0x500050 0 3 .ro 0 false 32 4 0 1
/-- CFG_CO_STAT [11:8] RO: Table 10-12 -/
def CFG_CO_STAT_CAUSE : Fld := Fld.mk 0x500050 8 4 .ro 0 false 32 4 0 1
/-- CFG_CO_STAT [12] WO: Write 1: schedule under R339 -/
def CFG_CO_STAT_ARM : Fld := Fld.mk 0x500050 12 1 .wo 0 false 32 4 0 1
/-- CFG_CO_STAT [13] WO: Write 1 in DONE or CANCELLED: return to FREE -/
def CFG_CO_STAT_FREE : Fld := Fld.mk 0x500050 13 1 .wo 0 false 32 4 0 1
/-- CFG_ROOM_STAT [2:0] RO: Table 10-1 -/
def CFG_ROOM_STAT_PLANE_A : Fld := Fld.mk 0x500100 0 3 .ro 0 false 32 24 0 1
/-- CFG_ROOM_STAT [5:3] RO: Table 10-1 -/
def CFG_ROOM_STAT_PLANE_B : Fld := Fld.mk 0x500100 3 3 .ro 0 false 32 24 0 1
/-- CFG_ROOM_STAT [6] RO: 0 A, 1 B -/
def CFG_ROOM_STAT_ACT_PLANE : Fld := Fld.mk 0x500100 6 1 .ro 0 false 32 24 0 1
/-- CFG_ROOM_STAT [7] RO: Staged bank holds the previous version -/
def CFG_ROOM_STAT_PREV : Fld := Fld.mk 0x500100 7 1 .ro 0 false 32 24 0 1
/-- CFG_ROOM_STAT [10:8] RO: Table 10-2 -/
def CFG_ROOM_STAT_ACT_BANK : Fld := Fld.mk 0x500100 8 3 .ro 0 false 32 24 0 1
/-- CFG_ROOM_STAT [13:11] RO: Table 10-2 -/
def CFG_ROOM_STAT_STG_BANK : Fld := Fld.mk 0x500100 11 3 .ro 0 false 32 24 0 1
/-- CFG_ROOM_STAT [14] RO: R347 -/
def CFG_ROOM_STAT_SEL_PENDING : Fld := Fld.mk 0x500100 14 1 .ro 0 false 32 24 0 1
/-- CFG_ROOM_STAT [15] RO: A frame of either plane passed 100,000,000 cycles -/
def CFG_ROOM_STAT_WORN : Fld := Fld.mk 0x500100 15 1 .ro 0 false 32 24 0 1
/-- CFG_ROOM_STAT [16] RO: A slot names this Room -/
def CFG_ROOM_STAT_CO_PENDING : Fld := Fld.mk 0x500100 16 1 .ro 0 false 32 24 0 1
/-- CFG_ROOM_STAT [18:17] RO: That slot -/
def CFG_ROOM_STAT_CO_SLOT : Fld := Fld.mk 0x500100 17 2 .ro 0 false 32 24 0 1
/-- CFG_ROOM_VER_A [31:0] RO: Plane A version -/
def CFG_ROOM_VER_A_VERSION : Fld := Fld.mk 0x500104 0 32 .ro 0 false 32 24 0 1
/-- CFG_ROOM_VER_B [31:0] RO: Plane B version -/
def CFG_ROOM_VER_B_VERSION : Fld := Fld.mk 0x500108 0 32 .ro 0 false 32 24 0 1
/-- CFG_ROOM_ITIN_A [31:0] RO: Plane A ITIN_ID -/
def CFG_ROOM_ITIN_A_ITIN_ID : Fld := Fld.mk 0x50010C 0 32 .ro 0 false 32 24 0 1
/-- CFG_ROOM_ITIN_B [31:0] RO: Plane B ITIN_ID -/
def CFG_ROOM_ITIN_B_ITIN_ID : Fld := Fld.mk 0x500110 0 32 .ro 0 false 32 24 0 1
/-- CFG_ROOM_STG_CNT [12:0] RO: Frames in the staged bank, 0–7,680 -/
def CFG_ROOM_STG_CNT_FRAMES : Fld := Fld.mk 0x500114 0 13 .ro 0 false 32 24 0 1
/-- CFG_ROOM_HANDOVER [7:0] RO: HANDOVER byte of the active image -/
def CFG_ROOM_HANDOVER_POLICY : Fld := Fld.mk 0x500118 0 8 .ro 0 false 32 24 0 1

/-- The registers of the CFG_ block. -/
def mapCFG : List RegRow := [
  RegRow.mk [CFG_LOAD_STAT_STATE, CFG_LOAD_STAT_ROOM, CFG_LOAD_STAT_ERR, CFG_LOAD_STAT_WORN],
  RegRow.mk [CFG_LOAD_BYTES],
  RegRow.mk [CFG_LOAD_TMO_TMO_MS],
  RegRow.mk [CFG_ITIN_ITIN_ID],
  RegRow.mk [CFG_STAGE_ROOMS],
  RegRow.mk [CFG_CO_CNT_DONE, CFG_CO_CNT_CANCELLED],
  RegRow.mk [CFG_DOOR_TBL_STAGED],
  RegRow.mk [CFG_CO_MASK_ROOMS, CFG_CO_MASK_ROLLBACK, CFG_CO_MASK_CHAIN],
  RegRow.mk [CFG_CO_TICK_LO_T_LO],
  RegRow.mk [CFG_CO_TICK_HI_T_HI],
  RegRow.mk [CFG_CO_ITIN_ITIN_ID],
  RegRow.mk [CFG_CO_STAT_STATE, CFG_CO_STAT_CAUSE, CFG_CO_STAT_ARM, CFG_CO_STAT_FREE],
  RegRow.mk [CFG_ROOM_STAT_PLANE_A, CFG_ROOM_STAT_PLANE_B, CFG_ROOM_STAT_ACT_PLANE, CFG_ROOM_STAT_PREV, CFG_ROOM_STAT_ACT_BANK, CFG_ROOM_STAT_STG_BANK, CFG_ROOM_STAT_SEL_PENDING, CFG_ROOM_STAT_WORN, CFG_ROOM_STAT_CO_PENDING, CFG_ROOM_STAT_CO_SLOT],
  RegRow.mk [CFG_ROOM_VER_A_VERSION],
  RegRow.mk [CFG_ROOM_VER_B_VERSION],
  RegRow.mk [CFG_ROOM_ITIN_A_ITIN_ID],
  RegRow.mk [CFG_ROOM_ITIN_B_ITIN_ID],
  RegRow.mk [CFG_ROOM_STG_CNT_FRAMES],
  RegRow.mk [CFG_ROOM_HANDOVER_POLICY]]

/-! ### WCH_ registers (11 R379) -/

/-- WCH_CTRL [0] RW: Scrubbing on -/
def WCH_CTRL_EN : Fld := Fld.mk 0x510000 0 1 .rw 1 false 0 1 0 1
/-- WCH_CTRL [1] RW: R372 -/
def WCH_CTRL_REFRESH_EN : Fld := Fld.mk 0x510000 1 1 .rw 1 false 0 1 0 1
/-- WCH_CTRL [2] RW: 0 CLAMP, 1 RUN (R364) -/
def WCH_CTRL_ACT_POL : Fld := Fld.mk 0x510000 2 1 .rw 0 false 0 1 0 1
/-- WCH_CTRL [3] WO: Write 1: R376 -/
def WCH_CTRL_SOFT_RST : Fld := Fld.mk 0x510000 3 1 .wo 0 false 0 1 0 1
/-- WCH_PACE [15:0] RW: Pass target in ms; below 10 acts as 10 -/
def WCH_PACE_PASS_MS : Fld := Fld.mk 0x510004 0 16 .rw 40 false 0 1 0 1
/-- WCH_PACE [31:16] RW: R369 -/
def WCH_PACE_STARVE_MS : Fld := Fld.mk 0x510004 16 16 .rw 100 false 0 1 0 1
/-- WCH_MARGIN [7:0] RW: Margin interval; 0: periodic passes off -/
def WCH_MARGIN_HOURS : Fld := Fld.mk 0x510008 0 8 .rw 24 false 0 1 0 1
/-- WCH_MARGIN [8] WO: Write 1: margin pass now; ignored while BUSY = 1 (R370) -/
def WCH_MARGIN_GO : Fld := Fld.mk 0x510008 8 1 .wo 0 false 0 1 0 1
/-- WCH_MARGIN [9] RO: Margin pass running -/
def WCH_MARGIN_BUSY : Fld := Fld.mk 0x510008 9 1 .ro 0 false 0 1 0 1
/-- WCH_WEAR_WARN [31:0] RW: 90,000,000 cycles -/
def WCH_WEAR_WARN_LIMIT : Fld := Fld.mk 0x51000C 0 32 .rw 90000000 false 0 1 0 1
/-- WCH_STAT [0] RO: A bank is being scrubbed -/
def WCH_STAT_PASS_ACTIVE : Fld := Fld.mk 0x510010 0 1 .ro 0 false 0 1 0 1
/-- WCH_STAT [1] W1C: R369 -/
def WCH_STAT_STARVED : Fld := Fld.mk 0x510010 1 1 .w1c 0 false 0 1 0 1
/-- WCH_STAT [2] W1C: R369 -/
def WCH_STAT_PASS_LATE : Fld := Fld.mk 0x510010 2 1 .w1c 0 false 0 1 0 1
/-- WCH_STAT [3] RO: R375 -/
def WCH_STAT_MAP_REBUILD : Fld := Fld.mk 0x510010 3 1 .ro 0 false 0 1 0 1
/-- WCH_STAT [31:16] RO: R375 -/
def WCH_STAT_HEARTBEAT : Fld := Fld.mk 0x510010 16 16 .ro 0 false 0 1 0 1
/-- WCH_PASS [15:0] RO: Duration of the last complete pass -/
def WCH_PASS_LAST_MS : Fld := Fld.mk 0x510014 0 16 .ro 0 false 0 1 0 1
/-- WCH_PASS [31:16] RO: Passes completed, saturating -/
def WCH_PASS_COUNT : Fld := Fld.mk 0x510014 16 16 .ro 0 false 0 1 0 1
/-- WCH_CNT_FIX [15:0] RC: CORRECTED frames -/
def WCH_CNT_FIX_CORRECTED : Fld := Fld.mk 0x510018 0 16 .rc 0 false 0 1 0 1
/-- WCH_CNT_FIX [31:16] RC: RELOADED frames -/
def WCH_CNT_FIX_RELOADED : Fld := Fld.mk 0x510018 16 16 .rc 0 false 0 1 0 1
/-- WCH_CNT_ERR [7:0] RC: UNREPAIRED frames -/
def WCH_CNT_ERR_UNREPAIRED : Fld := Fld.mk 0x51001C 0 8 .rc 0 false 0 1 0 1
/-- WCH_CNT_ERR [15:8] RC: R367 -/
def WCH_CNT_ERR_RAM_UE : Fld := Fld.mk 0x51001C 8 8 .rc 0 false 0 1 0 1
/-- WCH_CNT_ERR [23:16] RC: R371 -/
def WCH_CNT_ERR_PLANE_UE : Fld := Fld.mk 0x51001C 16 8 .rc 0 false 0 1 0 1
/-- WCH_CNT_MARGIN [15:0] RC: WARN frames -/
def WCH_CNT_MARGIN_WARN : Fld := Fld.mk 0x510020 0 16 .rc 0 false 0 1 0 1
/-- WCH_CNT_MARGIN [31:16] RC: Refreshes done -/
def WCH_CNT_MARGIN_REFRESHED : Fld := Fld.mk 0x510020 16 16 .rc 0 false 0 1 0 1
/-- WCH_TMR [15:0] RC: R375 -/
def WCH_TMR_FIXES : Fld := Fld.mk 0x510024 0 16 .rc 0 false 0 1 0 1
/-- WCH_LAST [12:0] RO: Frame of the last reported event -/
def WCH_LAST_FRAME : Fld := Fld.mk 0x510028 0 13 .ro 0 false 0 1 0 1
/-- WCH_LAST [17:13] RO: Room index -/
def WCH_LAST_ROOM : Fld := Fld.mk 0x510028 13 5 .ro 0 false 0 1 0 1
/-- WCH_LAST [18] RO: 0 active, 1 staged -/
def WCH_LAST_BANK : Fld := Fld.mk 0x510028 18 1 .ro 0 false 0 1 0 1
/-- WCH_LAST [19] RO: 0 A, 1 B -/
def WCH_LAST_PLANE : Fld := Fld.mk 0x510028 19 1 .ro 0 false 0 1 0 1
/-- WCH_LAST [23:20] RO: 0 none, 1 CORRECTED, 2 RELOADED, 3 UNREPAIRED, 4 RAM_UE, 5 WARN, 6 PLANE_UE, 7 REFRESHED; 8–15 not used -/
def WCH_LAST_CODE : Fld := Fld.mk 0x510028 20 4 .ro 0 false 0 1 0 1
/-- WCH_SAMPLE [12:0] RW: Frame to sample -/
def WCH_SAMPLE_FRAME : Fld := Fld.mk 0x510030 0 13 .rw 0 false 0 1 0 1
/-- WCH_SAMPLE [17:13] RW: Room index -/
def WCH_SAMPLE_ROOM : Fld := Fld.mk 0x510030 13 5 .rw 0 false 0 1 0 1
/-- WCH_SAMPLE [18] RW: 0 active, 1 staged -/
def WCH_SAMPLE_BANK : Fld := Fld.mk 0x510030 18 1 .rw 0 false 0 1 0 1
/-- WCH_SAMPLE [19] WO: Write 1: sample (R377) -/
def WCH_SAMPLE_GO : Fld := Fld.mk 0x510030 19 1 .wo 0 false 0 1 0 1
/-- WCH_SAMPLE [20] WO: Write 1: Watchman operates on the frame next -/
def WCH_SAMPLE_FORCE : Fld := Fld.mk 0x510030 20 1 .wo 0 false 0 1 0 1
/-- WCH_SAMPLE [21] RO: Sample complete -/
def WCH_SAMPLE_DONE : Fld := Fld.mk 0x510030 21 1 .ro 0 false 0 1 0 1
/-- WCH_SAMPLE [22] RO: Sample passed -/
def WCH_SAMPLE_PASS : Fld := Fld.mk 0x510030 22 1 .ro 0 false 0 1 0 1
/-- WCH_ROOM_WEAR_A [31:0] RO: Highest write counter of plane A -/
def WCH_ROOM_WEAR_A_MAX : Fld := Fld.mk 0x510100 0 32 .ro 0 false 16 24 0 1
/-- WCH_ROOM_WEAR_B [31:0] RO: Highest write counter of plane B -/
def WCH_ROOM_WEAR_B_MAX : Fld := Fld.mk 0x510104 0 32 .ro 0 false 16 24 0 1
/-- WCH_ROOM_STAT [8:0] RO: Pacing credit, 0–256 -/
def WCH_ROOM_STAT_CREDIT : Fld := Fld.mk 0x510108 0 9 .ro 0 false 16 24 0 1
/-- WCH_ROOM_STAT [9] RO: Credit at the cap for STARVE_MS -/
def WCH_ROOM_STAT_STARVED : Fld := Fld.mk 0x510108 9 1 .ro 0 false 16 24 0 1
/-- WCH_ROOM_STAT [10] RO: R373; cleared when a load writes plane A -/
def WCH_ROOM_STAT_PLANE_BAD_A : Fld := Fld.mk 0x510108 10 1 .ro 0 false 16 24 0 1
/-- WCH_ROOM_STAT [11] RO: As PLANE_BAD_A, plane B -/
def WCH_ROOM_STAT_PLANE_BAD_B : Fld := Fld.mk 0x510108 11 1 .ro 0 false 16 24 0 1
/-- WCH_ROOM_STAT [12] RO: Active bank runs with an UNREPAIRED frame (R364) -/
def WCH_ROOM_STAT_UNREP_ACT : Fld := Fld.mk 0x510108 12 1 .ro 0 false 16 24 0 1

/-- The registers of the WCH_ block. -/
def mapWCH : List RegRow := [
  RegRow.mk [WCH_CTRL_EN, WCH_CTRL_REFRESH_EN, WCH_CTRL_ACT_POL, WCH_CTRL_SOFT_RST],
  RegRow.mk [WCH_PACE_PASS_MS, WCH_PACE_STARVE_MS],
  RegRow.mk [WCH_MARGIN_HOURS, WCH_MARGIN_GO, WCH_MARGIN_BUSY],
  RegRow.mk [WCH_WEAR_WARN_LIMIT],
  RegRow.mk [WCH_STAT_PASS_ACTIVE, WCH_STAT_STARVED, WCH_STAT_PASS_LATE, WCH_STAT_MAP_REBUILD, WCH_STAT_HEARTBEAT],
  RegRow.mk [WCH_PASS_LAST_MS, WCH_PASS_COUNT],
  RegRow.mk [WCH_CNT_FIX_CORRECTED, WCH_CNT_FIX_RELOADED],
  RegRow.mk [WCH_CNT_ERR_UNREPAIRED, WCH_CNT_ERR_RAM_UE, WCH_CNT_ERR_PLANE_UE],
  RegRow.mk [WCH_CNT_MARGIN_WARN, WCH_CNT_MARGIN_REFRESHED],
  RegRow.mk [WCH_TMR_FIXES],
  RegRow.mk [WCH_LAST_FRAME, WCH_LAST_ROOM, WCH_LAST_BANK, WCH_LAST_PLANE, WCH_LAST_CODE],
  RegRow.mk [WCH_SAMPLE_FRAME, WCH_SAMPLE_ROOM, WCH_SAMPLE_BANK, WCH_SAMPLE_GO, WCH_SAMPLE_FORCE, WCH_SAMPLE_DONE, WCH_SAMPLE_PASS],
  RegRow.mk [WCH_ROOM_WEAR_A_MAX],
  RegRow.mk [WCH_ROOM_WEAR_B_MAX],
  RegRow.mk [WCH_ROOM_STAT_CREDIT, WCH_ROOM_STAT_STARVED, WCH_ROOM_STAT_PLANE_BAD_A, WCH_ROOM_STAT_PLANE_BAD_B, WCH_ROOM_STAT_UNREP_ACT]]

/-! ### KMI_ registers (12 R419) -/

/-- KMI_MBX [2:0] RW: State shown in MBX_STATUS; hardware sets POSTED, IDLE and DONE on doorbells (R390) -/
def KMI_MBX_STATE : Fld := Fld.mk 0x600000 0 3 .rw 0 false 4 16 0 1
/-- KMI_MBX [7:4] RW: Generation shown in MBX_STATUS -/
def KMI_MBX_GEN : Fld := Fld.mk 0x600000 4 4 .rw 0 false 4 16 0 1
/-- KMI_POST_Q [3:0] RC: Mailbox of the oldest unread POST; a read removes it -/
def KMI_POST_Q_MBX : Fld := Fld.mk 0x600040 0 4 .rc 0 false 0 1 0 1
/-- KMI_POST_Q [4] RC: MBX is valid -/
def KMI_POST_Q_VALID : Fld := Fld.mk 0x600040 4 1 .rc 0 false 0 1 0 1
/-- KMI_CTRL [0] RW: 0: mailboxes present NOT_READY (R389) -/
def KMI_CTRL_FW_READY : Fld := Fld.mk 0x600044 0 1 .rw 0 false 0 1 0 1
/-- KMI_CTRL [1] RW: Instruction cache on -/
def KMI_CTRL_ICACHE_EN : Fld := Fld.mk 0x600044 1 1 .rw 1 false 0 1 0 1
/-- KMI_CTRL [2] WO: Write 1: invalidate the cache -/
def KMI_CTRL_ICACHE_INV : Fld := Fld.mk 0x600044 2 1 .wo 0 false 0 1 0 1
/-- KMI_WDOG [15:0] RW: Watchdog period, ms; 0 acts as 1 -/
def KMI_WDOG_TIMEOUT_MS : Fld := Fld.mk 0x600048 0 16 .rw 100 false 0 1 0 1
/-- KMI_WDOG [16] WO: Write 1: restart the count -/
def KMI_WDOG_KICK : Fld := Fld.mk 0x600048 16 1 .wo 0 false 0 1 0 1
/-- KMI_WDOG [17] RW: Watchdog on -/
def KMI_WDOG_EN : Fld := Fld.mk 0x600048 17 1 .rw 1 false 0 1 0 1
/-- KMI_STAT [0] W1C: The last Innkeeper reset came from the watchdog -/
def KMI_STAT_WDOG_RST : Fld := Fld.mk 0x60004C 0 1 .w1c 0 false 0 1 0 1
/-- KMI_CNT [15:0] RC: Stale completions dropped (R396) -/
def KMI_CNT_STALE : Fld := Fld.mk 0x600050 0 16 .rc 0 false 0 1 0 1
/-- KMI_CNT [31:16] RC: Host writes discarded (R390) -/
def KMI_CNT_WR_DISCARD : Fld := Fld.mk 0x600050 16 16 .rc 0 false 0 1 0 1

/-- The registers of the KMI_ block. -/
def mapKMI : List RegRow := [
  RegRow.mk [KMI_MBX_STATE, KMI_MBX_GEN],
  RegRow.mk [KMI_POST_Q_MBX, KMI_POST_Q_VALID],
  RegRow.mk [KMI_CTRL_FW_READY, KMI_CTRL_ICACHE_EN, KMI_CTRL_ICACHE_INV],
  RegRow.mk [KMI_WDOG_TIMEOUT_MS, KMI_WDOG_KICK, KMI_WDOG_EN],
  RegRow.mk [KMI_STAT_WDOG_RST],
  RegRow.mk [KMI_CNT_STALE, KMI_CNT_WR_DISCARD]]

/-! ### PNT_ registers (13 R446) -/

/-- PNT_CTRL [0] RW: R426 -/
def PNT_CTRL_RETRY_EN : Fld := Fld.mk 0x610000 0 1 .rw 1 false 0 1 0 1
/-- PNT_FLOCK [0] RW: Fetch-lock (R433, R435) -/
def PNT_FLOCK_LOCK : Fld := Fld.mk 0x610004 0 1 .rw 0 false 0 1 0 1
/-- PNT_FLOCK [1] RO: R435 -/
def PNT_FLOCK_CLR_PENDING : Fld := Fld.mk 0x610004 1 1 .ro 0 false 0 1 0 1
/-- PNT_XBANK [0] RO: Bank of the last instruction fetch -/
def PNT_XBANK_BANK : Fld := Fld.mk 0x610008 0 1 .ro 0 false 0 1 0 1
/-- PNT_XBANK [1] RO: BANK is valid -/
def PNT_XBANK_VALID : Fld := Fld.mk 0x610008 1 1 .ro 0 false 0 1 0 1
/-- PNT_PROT [23:0] RO: R436 -/
def PNT_PROT_MARKS : Fld := Fld.mk 0x61000C 0 24 .ro 0 false 0 1 0 1
/-- PNT_PROT [31] RO: Current level of NVWP_N -/
def PNT_PROT_NVWP_N : Fld := Fld.mk 0x61000C 31 1 .ro 0 false 0 1 0 1
/-- PNT_ERR_CNT [15:0] RC: Reads that needed read-retry -/
def PNT_ERR_CNT_RETRY : Fld := Fld.mk 0x610010 0 16 .rc 0 false 0 1 0 1
/-- PNT_ERR_CNT [31:16] RC: Uncorrectable words -/
def PNT_ERR_CNT_UE : Fld := Fld.mk 0x610010 16 16 .rc 0 false 0 1 0 1
/-- PNT_LAST_UE [24:0] RO: Pantry address of the last uncorrectable word -/
def PNT_LAST_UE_ADDR : Fld := Fld.mk 0x610014 0 25 .ro 0 false 0 1 0 1
/-- PNT_LAST_UE [31] RO: ADDR is valid -/
def PNT_LAST_UE_VALID : Fld := Fld.mk 0x610014 31 1 .ro 0 false 0 1 0 1
/-- PNT_B_CMD [2:0] WO: 1 PROGRAM, 2 ERASE, 3 SUSPEND, 4 RESUME; others ignored -/
def PNT_B_CMD_OP : Fld := Fld.mk 0x610100 0 3 .wo 0 false 64 2 0 1
/-- PNT_B_ADDR [23:0] RW: Offset in the bank; page-aligned for PROGRAM, sector-aligned for ERASE -/
def PNT_B_ADDR_OFFSET : Fld := Fld.mk 0x610104 0 24 .rw 0 false 64 2 0 1
/-- PNT_B_COUNT [12:0] RW: Sectors to erase, 1–4,096; 0 acts as 1 -/
def PNT_B_COUNT_SECTORS : Fld := Fld.mk 0x610108 0 13 .rw 1 false 64 2 0 1
/-- PNT_B_STAT [2:0] RO: 0 IDLE, 1 PROGRAM, 2 ERASE, 3 ERASE_SUSP, 4 PROGRAM_IN_SUSP; 5–7 not used -/
def PNT_B_STAT_STATE : Fld := Fld.mk 0x61010C 0 3 .ro 0 false 64 2 0 1
/-- PNT_B_STAT [3] W1C: An operation ended -/
def PNT_B_STAT_DONE : Fld := Fld.mk 0x61010C 3 1 .w1c 0 false 64 2 0 1
/-- PNT_B_STAT [7:4] RO: Table 13-5; cleared at the next accepted OP -/
def PNT_B_STAT_ERR : Fld := Fld.mk 0x61010C 4 4 .ro 0 false 64 2 0 1
/-- PNT_B_STAT [8] W1C: R427 -/
def PNT_B_STAT_SUSP_READ : Fld := Fld.mk 0x61010C 8 1 .w1c 0 false 64 2 0 1
/-- PNT_B_STAT [15:9] RO: Suspends of the current erase, 0–64 -/
def PNT_B_STAT_SUSP_CNT : Fld := Fld.mk 0x61010C 9 7 .ro 0 false 64 2 0 1
/-- PNT_B_STAT [28:16] RO: Sectors of the current erase completed -/
def PNT_B_STAT_ERASED : Fld := Fld.mk 0x61010C 16 13 .ro 0 false 64 2 0 1
/-- PNT_B_PAGE [31:0] RW: Page buffer word (R446) -/
def PNT_B_PAGE : Fld := Fld.mk 0x610400 0 32 .rw 0 false 256 2 4 64

/-- The registers of the PNT_ block. -/
def mapPNT : List RegRow := [
  RegRow.mk [PNT_CTRL_RETRY_EN],
  RegRow.mk [PNT_FLOCK_LOCK, PNT_FLOCK_CLR_PENDING],
  RegRow.mk [PNT_XBANK_BANK, PNT_XBANK_VALID],
  RegRow.mk [PNT_PROT_MARKS, PNT_PROT_NVWP_N],
  RegRow.mk [PNT_ERR_CNT_RETRY, PNT_ERR_CNT_UE],
  RegRow.mk [PNT_LAST_UE_ADDR, PNT_LAST_UE_VALID],
  RegRow.mk [PNT_B_CMD_OP],
  RegRow.mk [PNT_B_ADDR_OFFSET],
  RegRow.mk [PNT_B_COUNT_SECTORS],
  RegRow.mk [PNT_B_STAT_STATE, PNT_B_STAT_DONE, PNT_B_STAT_ERR, PNT_B_STAT_SUSP_READ, PNT_B_STAT_SUSP_CNT, PNT_B_STAT_ERASED],
  RegRow.mk [PNT_B_PAGE]]

/-! ### OTP_ registers (13 R447) -/

/-- OTP_CMD [5:0] RW: Row 0–63 -/
def OTP_CMD_ROW : Fld := Fld.mk 0x620000 0 6 .rw 0 false 0 1 0 1
/-- OTP_CMD [8] WO: Write 1: read ROW into OTP_BUF -/
def OTP_CMD_READ : Fld := Fld.mk 0x620000 8 1 .wo 0 false 0 1 0 1
/-- OTP_CMD [9] WO: Write 1: program OTP_BUF into ROW (R441) -/
def OTP_CMD_PROGRAM : Fld := Fld.mk 0x620000 9 1 .wo 0 false 0 1 0 1
/-- OTP_STAT [0] RO: Read or program running -/
def OTP_STAT_BUSY : Fld := Fld.mk 0x620004 0 1 .ro 0 false 0 1 0 1
/-- OTP_STAT [1] RO: Last row read is a valid single-write row -/
def OTP_STAT_ROW_VALID : Fld := Fld.mk 0x620004 1 1 .ro 0 false 0 1 0 1
/-- OTP_STAT [4:2] RO: 0 none, 1 bit would clear, 2 row already valid, 3 verify failed, 4 supply; 5–7 not used -/
def OTP_STAT_ERR : Fld := Fld.mk 0x620004 2 3 .ro 0 false 0 1 0 1
/-- OTP_LOAD [0] RO: Shadow load complete (R445) -/
def OTP_LOAD_DONE : Fld := Fld.mk 0x620008 0 1 .ro 0 false 0 1 0 1
/-- OTP_LOAD [29:1] RO: Bit 1 + n: row n of the load order is neither valid nor blank. The load order numbers rows 0–4 as n = 0–4 and rows 32–55 as n = 5–28, so row 32 is bit 6 and row 55 is bit 29. Bits for monotone rows always read 0. -/
def OTP_LOAD_BAD : Fld := Fld.mk 0x620008 1 29 .ro 0 false 0 1 0 1
/-- OTP_BUF [31:0] RW: Row buffer word (R447) -/
def OTP_BUF : Fld := Fld.mk 0x620100 0 32 .rw 0 false 4 32 0 1

/-- The registers of the OTP_ block. -/
def mapOTP : List RegRow := [
  RegRow.mk [OTP_CMD_ROW, OTP_CMD_READ, OTP_CMD_PROGRAM],
  RegRow.mk [OTP_STAT_BUSY, OTP_STAT_ROW_VALID, OTP_STAT_ERR],
  RegRow.mk [OTP_LOAD_DONE, OTP_LOAD_BAD],
  RegRow.mk [OTP_BUF]]

/-! ### IOB_ registers (14 R471) -/

/-- IOB_BANK [2:0] RW: 0 1.0, 1 1.2, 2 1.35, 3 1.5, 4 1.8, 5 2.5, 6 3.3 V; 7 reserved -/
def IOB_BANK_VIO_SEL : Fld := Fld.mk 0x710000 0 3 .rw 4 false 4 13 0 1
/-- IOB_BANK [8:3] RW: Vref = VIO × (40 + 0.5 × VREF) %; above 40 acts as 40 -/
def IOB_BANK_VREF : Fld := Fld.mk 0x710000 3 6 .rw 20 false 4 13 0 1
/-- IOB_CTRL [0] WO: Write 1: R453 -/
def IOB_CTRL_SAVE : Fld := Fld.mk 0x710040 0 1 .wo 0 false 0 1 0 1
/-- IOB_STAT [12:0] RO: Per bank (R449) -/
def IOB_STAT_VIO_OK : Fld := Fld.mk 0x710044 0 13 .ro 0 false 0 1 0 1
/-- IOB_STAT [28:16] W1C: Per bank (R451) -/
def IOB_STAT_STD_ERR : Fld := Fld.mk 0x710044 16 13 .w1c 0 false 0 1 0 1
/-- IOB_PIN [3:0] RW: Table 14-2 -/
def IOB_PIN_STD : Fld := Fld.mk 0x710100 0 4 .rw 0 false 4 624 0 1
/-- IOB_PIN [4] RW: Open-drain -/
def IOB_PIN_OD : Fld := Fld.mk 0x710100 4 1 .rw 0 false 4 624 0 1
/-- IOB_PIN [6:5] RW: 0 none, 1 up, 2 down, 3 keeper -/
def IOB_PIN_PULL : Fld := Fld.mk 0x710100 5 2 .rw 0 false 4 624 0 1
/-- IOB_PIN [9:7] RW: R452 -/
def IOB_PIN_DRIVE : Fld := Fld.mk 0x710100 7 3 .rw 1 false 4 624 0 1
/-- IOB_PIN [10] RW: 0 slow, 1 fast -/
def IOB_PIN_SLEW : Fld := Fld.mk 0x710100 10 1 .rw 0 false 4 624 0 1
/-- IOB_PIN [12:11] RW: 0 off, 1 100 Ω differential, 2 48 Ω, 3 60 Ω -/
def IOB_PIN_TERM : Fld := Fld.mk 0x710100 11 2 .rw 0 false 4 624 0 1
/-- IOB_CONFLICT [31:0] W1C: Bit b: pin 32w + b (R465); w = 0–19; bits [31:16] of word 19 reserved -/
def IOB_CONFLICT_PINS : Fld := Fld.mk 0x710C00 0 32 .w1c 0 false 4 20 0 1

/-- The registers of the IOB_ block. -/
def mapIOB : List RegRow := [
  RegRow.mk [IOB_BANK_VIO_SEL, IOB_BANK_VREF],
  RegRow.mk [IOB_CTRL_SAVE],
  RegRow.mk [IOB_STAT_VIO_OK, IOB_STAT_STD_ERR],
  RegRow.mk [IOB_PIN_STD, IOB_PIN_OD, IOB_PIN_PULL, IOB_PIN_DRIVE, IOB_PIN_SLEW, IOB_PIN_TERM],
  RegRow.mk [IOB_CONFLICT_PINS]]

/-! ### GPIO_ registers (14 R472) -/

/-- GPIO_PIN [7:0] RO: Current function (Table 14-3) -/
def GPIO_PIN_FUNC : Fld := Fld.mk 0x700000 0 8 .ro 0 false 4 624 0 1
/-- GPIO_PIN [15:8] RO: Function of a pending switch -/
def GPIO_PIN_PEND_FUNC : Fld := Fld.mk 0x700000 8 8 .ro 0 false 4 624 0 1
/-- GPIO_PIN [16] RO: R463 -/
def GPIO_PIN_PENDING : Fld := Fld.mk 0x700000 16 1 .ro 0 false 4 624 0 1
/-- GPIO_PIN [17] RO: 0 management, 1 fabric (R457) -/
def GPIO_PIN_OWNER : Fld := Fld.mk 0x700000 17 1 .ro 0 false 4 624 0 1
/-- GPIO_P_OUT_LO [31:0] RW: Values of pins 0–31, 32–47 -/
def GPIO_P_OUT_LO_OUT : Fld := Fld.mk 0x701000 0 32 .rw 0 false 32 13 0 1
/-- GPIO_P_OUT_HI [15:0] RW: Values of pins 0–31, 32–47 -/
def GPIO_P_OUT_HI_OUT : Fld := Fld.mk 0x701004 0 16 .rw 0 false 32 13 0 1
/-- GPIO_P_OE_LO [31:0] RW: Output enables -/
def GPIO_P_OE_LO_OE : Fld := Fld.mk 0x701008 0 32 .rw 0 false 32 13 0 1
/-- GPIO_P_OE_HI [15:0] RW: Output enables -/
def GPIO_P_OE_HI_OE : Fld := Fld.mk 0x70100C 0 16 .rw 0 false 32 13 0 1
/-- GPIO_P_IN_LO [31:0] RO: Sampled inputs (R466) -/
def GPIO_P_IN_LO_IN : Fld := Fld.mk 0x701010 0 32 .ro 0 false 32 13 0 1
/-- GPIO_P_IN_HI [15:0] RO: Sampled inputs (R466) -/
def GPIO_P_IN_HI_IN : Fld := Fld.mk 0x701014 0 16 .ro 0 false 32 13 0 1
/-- GPIO_IRQ [3:0] RW: Port 0–12; 13–15 disable the line -/
def GPIO_IRQ_PORT : Fld := Fld.mk 0x701200 0 4 .rw 0 false 4 16 0 1
/-- GPIO_IRQ [6:4] RW: 0 off, 1 rising, 2 falling, 3 both, 4 high, 5 low; 6–7 act as 0 -/
def GPIO_IRQ_SENSE : Fld := Fld.mk 0x701200 4 3 .rw 0 false 4 16 0 1
/-- GPIO_IRQ [14:7] RW: Filter, CD89 cycles -/
def GPIO_IRQ_FILT : Fld := Fld.mk 0x701200 7 8 .rw 4 false 4 16 0 1
/-- GPIO_IRQ [15] RW: Ledger entry per PEND -/
def GPIO_IRQ_LEDGER : Fld := Fld.mk 0x701200 15 1 .rw 0 false 4 16 0 1
/-- GPIO_IRQ_STAT [15:0] W1C: Per line (R467) -/
def GPIO_IRQ_STAT_PEND : Fld := Fld.mk 0x701240 0 16 .w1c 0 false 0 1 0 1
/-- GPIO_TIM_CTRL [1:0] RW: 0 OFF, 1 PERIODIC, 2 TICK_ONESHOT, 3 CAPTURE -/
def GPIO_TIM_CTRL_MODE : Fld := Fld.mk 0x701300 0 2 .rw 0 false 16 8 0 1
/-- GPIO_TIM_CTRL [2] RW: 1: inverted output -/
def GPIO_TIM_CTRL_POL : Fld := Fld.mk 0x701300 2 1 .rw 0 false 16 8 0 1
/-- GPIO_TIM_CTRL [3] RW: 0 rising, 1 falling -/
def GPIO_TIM_CTRL_CAP_EDGE : Fld := Fld.mk 0x701300 3 1 .rw 0 false 16 8 0 1
/-- GPIO_TIM_PERIOD [31:0] RW: Period or delay, ns -/
def GPIO_TIM_PERIOD : Fld := Fld.mk 0x701304 0 32 .rw 0 false 16 8 0 1
/-- GPIO_TIM_WIDTH [31:0] RW: High time, ns -/
def GPIO_TIM_WIDTH : Fld := Fld.mk 0x701308 0 32 .rw 0 false 16 8 0 1
/-- GPIO_TIM_CAPT [31:0] RO: Time counter bits [39:8] of the last capture -/
def GPIO_TIM_CAPT : Fld := Fld.mk 0x70130C 0 32 .ro 0 false 16 8 0 1
/-- GPIO_FAN [15:0] RW: R469 -/
def GPIO_FAN_DELAY_NS : Fld := Fld.mk 0x701400 0 16 .rw 0 false 4 16 0 1
/-- GPIO_FAN [16] RW: Inverted fan-out -/
def GPIO_FAN_INV : Fld := Fld.mk 0x701400 16 1 .rw 0 false 4 16 0 1
/-- GPIO_RES [23:0] RO: Timed-output buffers held -/
def GPIO_RES_BUF_USED : Fld := Fld.mk 0x701500 0 24 .ro 0 false 0 1 0 1
/-- GPIO_RES [31:24] RO: Timers held by a pin -/
def GPIO_RES_TIM_HELD : Fld := Fld.mk 0x701500 24 8 .ro 0 false 0 1 0 1
/-- GPIO_PER_CFG [0] RW: Controller c enabled (R470) -/
def GPIO_PER_CFG_EN : Fld := Fld.mk 0x701600 0 1 .rw 0 false 16 6 0 1
/-- GPIO_PER_CFG [2:1] RW: SPI: CPOL in bit 2, CPHA in bit 1 -/
def GPIO_PER_CFG_SPI_MODE : Fld := Fld.mk 0x701600 1 2 .rw 0 false 16 6 0 1
/-- GPIO_PER_CFG [4:3] RW: SPI chip select used -/
def GPIO_PER_CFG_CS : Fld := Fld.mk 0x701600 3 2 .rw 0 false 16 6 0 1
/-- GPIO_PER_CFG [23:8] RW: Bit clock divider; reset gives 115,207 bit/s -/
def GPIO_PER_CFG_DIV : Fld := Fld.mk 0x701600 8 16 .rw 3471 false 16 6 0 1
/-- GPIO_PER_CFG [31:24] RW: UART read timeout, ms -/
def GPIO_PER_CFG_TMO_MS : Fld := Fld.mk 0x701600 24 8 .rw 10 false 16 6 0 1

/-- The registers of the GPIO_ block. -/
def mapGPIO : List RegRow := [
  RegRow.mk [GPIO_PIN_FUNC, GPIO_PIN_PEND_FUNC, GPIO_PIN_PENDING, GPIO_PIN_OWNER],
  RegRow.mk [GPIO_P_OUT_LO_OUT],
  RegRow.mk [GPIO_P_OUT_HI_OUT],
  RegRow.mk [GPIO_P_OE_LO_OE],
  RegRow.mk [GPIO_P_OE_HI_OE],
  RegRow.mk [GPIO_P_IN_LO_IN],
  RegRow.mk [GPIO_P_IN_HI_IN],
  RegRow.mk [GPIO_IRQ_PORT, GPIO_IRQ_SENSE, GPIO_IRQ_FILT, GPIO_IRQ_LEDGER],
  RegRow.mk [GPIO_IRQ_STAT_PEND],
  RegRow.mk [GPIO_TIM_CTRL_MODE, GPIO_TIM_CTRL_POL, GPIO_TIM_CTRL_CAP_EDGE],
  RegRow.mk [GPIO_TIM_PERIOD],
  RegRow.mk [GPIO_TIM_WIDTH],
  RegRow.mk [GPIO_TIM_CAPT],
  RegRow.mk [GPIO_FAN_DELAY_NS, GPIO_FAN_INV],
  RegRow.mk [GPIO_RES_BUF_USED, GPIO_RES_TIM_HELD],
  RegRow.mk [GPIO_PER_CFG_EN, GPIO_PER_CFG_SPI_MODE, GPIO_PER_CFG_CS, GPIO_PER_CFG_DIV, GPIO_PER_CFG_TMO_MS]]

/-! ### PWR_ registers (15 R496) -/

/-- PWR_CTRL [0] RW: Automatic state choice (R477) -/
def PWR_CTRL_AUTO_EN : Fld := Fld.mk 0x800000 0 1 .rw 1 false 0 1 0 1
/-- PWR_CTRL [3:1] RW: Deepest state allowed, codes of Table 15-1; 5–7 act as 4 -/
def PWR_CTRL_LIMIT : Fld := Fld.mk 0x800000 1 3 .rw 2 false 0 1 0 1
/-- PWR_TMR [15:0] RW: IDLE quiet (R479) -/
def PWR_TMR_IDLE_NS : Fld := Fld.mk 0x800004 0 16 .rw 64 false 0 1 0 1
/-- PWR_TMR [31:16] RW: SLEEP quiet -/
def PWR_TMR_SLEEP_MS : Fld := Fld.mk 0x800004 16 16 .rw 100 false 0 1 0 1
/-- PWR_MARGIN [15:0] RW: Margin for IDLE -/
def PWR_MARGIN_MARGIN_NS : Fld := Fld.mk 0x800008 0 16 .rw 64 false 0 1 0 1
/-- PWR_MARGIN [31:16] RW: Margin for SLEEP and deeper -/
def PWR_MARGIN_MARGIN_US : Fld := Fld.mk 0x800008 16 16 .rw 100 false 0 1 0 1
/-- PWR_RETAIN [23:0] RW: Rooms kept on in SLEEP, Room mask of R9 -/
def PWR_RETAIN_ROOMS : Fld := Fld.mk 0x80000C 0 24 .rw 0 false 0 1 0 1
/-- PWR_ROOM_OFF [23:0] RO: Rooms off by PWR_ROOMS (R495) -/
def PWR_ROOM_OFF_ROOMS : Fld := Fld.mk 0x800010 0 24 .ro 0 false 0 1 0 1
/-- PWR_NP_CTRL [0] RW: Night Porter on -/
def PWR_NP_CTRL_EN : Fld := Fld.mk 0x800014 0 1 .rw 0 false 0 1 0 1
/-- PWR_NP_CTRL [3:1] RW: Encoder channel -/
def PWR_NP_CTRL_CH : Fld := Fld.mk 0x800014 1 3 .rw 0 false 0 1 0 1
/-- PWR_NP_CTRL [4] RW: 0 DEEP SLEEP, 1 OFF -/
def PWR_NP_CTRL_DEPTH : Fld := Fld.mk 0x800014 4 1 .rw 0 false 0 1 0 1
/-- PWR_NP_CTRL [23:8] RW: Sample interval; 0 acts as 1 -/
def PWR_NP_CTRL_PERIOD_MS : Fld := Fld.mk 0x800014 8 16 .rw 10 false 0 1 0 1
/-- PWR_NP_THRESH [23:0] RW: Movement threshold; 0 acts as 1 -/
def PWR_NP_THRESH_COUNTS : Fld := Fld.mk 0x800018 0 24 .rw 16 false 0 1 0 1
/-- PWR_NP_WAIT [15:0] RW: Time without an event before a watch (R479) -/
def PWR_NP_WAIT_WAIT_MS : Fld := Fld.mk 0x80001C 0 16 .rw 5000 false 0 1 0 1
/-- PWR_NP_STAT [0] RO: Night Porter watching -/
def PWR_NP_STAT_ACTIVE : Fld := Fld.mk 0x800020 0 1 .ro 0 false 0 1 0 1
/-- PWR_NP_STAT [1] W1C: Threshold reached -/
def PWR_NP_STAT_MOVED : Fld := Fld.mk 0x800020 1 1 .w1c 0 false 0 1 0 1
/-- PWR_NP_STAT [31:16] RO: Pitches skipped at the last resume (R493), saturating -/
def PWR_NP_STAT_SKIPPED : Fld := Fld.mk 0x800020 16 16 .ro 0 false 0 1 0 1
/-- PWR_SCHED_LO [31:0] RW: Scheduled event, time counter bits [31:0] -/
def PWR_SCHED_LO_AT_LO : Fld := Fld.mk 0x800024 0 32 .rw 0 false 0 1 0 1
/-- PWR_SCHED_HI [31:0] RW: Bits [63:32] -/
def PWR_SCHED_HI_AT_HI : Fld := Fld.mk 0x800028 0 32 .rw 0 false 0 1 0 1
/-- PWR_SCHED_CTRL [0] RW: Scheduled event present; cleared when it passes -/
def PWR_SCHED_CTRL_VALID : Fld := Fld.mk 0x80002C 0 1 .rw 0 false 0 1 0 1
/-- PWR_STATE [2:0] RO: Current state -/
def PWR_STATE_CUR : Fld := Fld.mk 0x800030 0 3 .ro 0 false 0 1 0 1
/-- PWR_STATE [5:3] RO: Deepest state now allowed -/
def PWR_STATE_CAP : Fld := Fld.mk 0x800030 3 3 .ro 2 false 0 1 0 1
/-- PWR_STATE [19:8] RO: Active caps, bit c of Table 15-3 at bit 8 + c -/
def PWR_STATE_CAP_SRC : Fld := Fld.mk 0x800030 8 12 .ro 0 false 0 1 0 1
/-- PWR_DOM [29:0] RO: Powered domains, power-domain mask of R22 -/
def PWR_DOM_ON : Fld := Fld.mk 0x800034 0 30 .ro 1073741823 false 0 1 0 1
/-- PWR_VOTE [15:0] RW: Base back-off (R484); 0 acts as 1 -/
def PWR_VOTE_BACKOFF_US : Fld := Fld.mk 0x800038 0 16 .rw 1000 false 0 1 0 1
/-- PWR_VOTE [18:16] RO: Consecutive undone votes, 0–6 -/
def PWR_VOTE_UNDO_CNT : Fld := Fld.mk 0x800038 16 3 .ro 0 false 0 1 0 1
/-- PWR_VOTE [23:20] RO: Participant of Table 15-4 -/
def PWR_VOTE_LAST_REFUSER : Fld := Fld.mk 0x800038 20 4 .ro 0 false 0 1 0 1
/-- PWR_VOTE_CNT [15:0] RC: Refusals at PREPARE -/
def PWR_VOTE_CNT_REFUSED : Fld := Fld.mk 0x80003C 0 16 .rc 0 false 0 1 0 1
/-- PWR_VOTE_CNT [31:16] RC: Refusals at STOP -/
def PWR_VOTE_CNT_UNDONE : Fld := Fld.mk 0x80003C 16 16 .rc 0 false 0 1 0 1
/-- PWR_LUG_STAT [7:0] RO: Banks holding a save -/
def PWR_LUG_STAT_SAVED : Fld := Fld.mk 0x800040 0 8 .ro 0 false 0 1 0 1
/-- PWR_LUG_STAT [15:8] W1C: Banks failed at the last wake (R487) -/
def PWR_LUG_STAT_FAILED : Fld := Fld.mk 0x800040 8 8 .w1c 0 false 0 1 0 1
/-- PWR_LUG_STAT [31:16] RO: Save sequence number (R486) -/
def PWR_LUG_STAT_SAVE_SEQ : Fld := Fld.mk 0x800040 16 16 .ro 0 false 0 1 0 1
/-- PWR_WAKE_SRC [4:0] RW: Bits 0–4 of Table 15-6 -/
def PWR_WAKE_SRC : Fld := Fld.mk 0x800044 0 5 .rw 31 false 0 1 0 1
/-- PWR_WAKE_SRC [31:16] RW: GPIO interrupt lines 0–15 -/
def PWR_WAKE_SRC_GPIO : Fld := Fld.mk 0x800044 16 16 .rw 0 false 0 1 0 1
/-- PWR_WAKE_CAUSE [31:0] W1C: Layout as PWR_WAKE_SRC; set by each wake -/
def PWR_WAKE_CAUSE : Fld := Fld.mk 0x800048 0 32 .w1c 0 false 0 1 0 1
/-- PWR_WAKE_LAT [31:0] RO: Latency of the last wake (R490) -/
def PWR_WAKE_LAT_LAT_US : Fld := Fld.mk 0x80004C 0 32 .ro 0 false 0 1 0 1

/-- The registers of the PWR_ block. -/
def mapPWR : List RegRow := [
  RegRow.mk [PWR_CTRL_AUTO_EN, PWR_CTRL_LIMIT],
  RegRow.mk [PWR_TMR_IDLE_NS, PWR_TMR_SLEEP_MS],
  RegRow.mk [PWR_MARGIN_MARGIN_NS, PWR_MARGIN_MARGIN_US],
  RegRow.mk [PWR_RETAIN_ROOMS],
  RegRow.mk [PWR_ROOM_OFF_ROOMS],
  RegRow.mk [PWR_NP_CTRL_EN, PWR_NP_CTRL_CH, PWR_NP_CTRL_DEPTH, PWR_NP_CTRL_PERIOD_MS],
  RegRow.mk [PWR_NP_THRESH_COUNTS],
  RegRow.mk [PWR_NP_WAIT_WAIT_MS],
  RegRow.mk [PWR_NP_STAT_ACTIVE, PWR_NP_STAT_MOVED, PWR_NP_STAT_SKIPPED],
  RegRow.mk [PWR_SCHED_LO_AT_LO],
  RegRow.mk [PWR_SCHED_HI_AT_HI],
  RegRow.mk [PWR_SCHED_CTRL_VALID],
  RegRow.mk [PWR_STATE_CUR, PWR_STATE_CAP, PWR_STATE_CAP_SRC],
  RegRow.mk [PWR_DOM_ON],
  RegRow.mk [PWR_VOTE_BACKOFF_US, PWR_VOTE_UNDO_CNT, PWR_VOTE_LAST_REFUSER],
  RegRow.mk [PWR_VOTE_CNT_REFUSED, PWR_VOTE_CNT_UNDONE],
  RegRow.mk [PWR_LUG_STAT_SAVED, PWR_LUG_STAT_FAILED, PWR_LUG_STAT_SAVE_SEQ],
  RegRow.mk [PWR_WAKE_SRC, PWR_WAKE_SRC_GPIO],
  RegRow.mk [PWR_WAKE_CAUSE],
  RegRow.mk [PWR_WAKE_LAT_LAT_US]]

/-! ### TWN_ registers (17 R539) -/

/-- TWN_CTRL [0] RW: Twin Link and TWIN_SYNC on -/
def TWN_CTRL_EN : Fld := Fld.mk 0x900000 0 1 .rw 0 false 0 1 0 1
/-- TWN_CTRL [1] RW: Role at pairing: 0 Lead, 1 Companion -/
def TWN_CTRL_ROLE_REQ : Fld := Fld.mk 0x900000 1 1 .rw 0 false 0 1 0 1
/-- TWN_CTRL [2] RW: R519 -/
def TWN_CTRL_TRIG_SHARE : Fld := Fld.mk 0x900000 2 1 .rw 1 false 0 1 0 1
/-- TWN_CTRL [3] RW: R532 -/
def TWN_CTRL_TAKEOVER : Fld := Fld.mk 0x900000 3 1 .rw 1 false 0 1 0 1
/-- TWN_STAT [1:0] RO: Table 17-1; 3 not used -/
def TWN_STAT_MODE : Fld := Fld.mk 0x900004 0 2 .ro 0 false 0 1 0 1
/-- TWN_STAT [2] RO: 0 Lead or ALONE, 1 Companion -/
def TWN_STAT_ROLE : Fld := Fld.mk 0x900004 2 1 .ro 0 false 0 1 0 1
/-- TWN_STAT [3] RO: R515 -/
def TWN_STAT_LANES_UP : Fld := Fld.mk 0x900004 3 1 .ro 0 false 0 1 0 1
/-- TWN_STAT [4] RO: TWIN_SYNC valid under R93 -/
def TWN_STAT_SYNC_UP : Fld := Fld.mk 0x900004 4 1 .ro 0 false 0 1 0 1
/-- TWN_STAT [5] RO: R516 -/
def TWN_STAT_CAL_DONE : Fld := Fld.mk 0x900004 5 1 .ro 0 false 0 1 0 1
/-- TWN_STAT [6] RO: R521 -/
def TWN_STAT_DIV_ALIGNED : Fld := Fld.mk 0x900004 6 1 .ro 0 false 0 1 0 1
/-- TWN_STAT [7] RO: R530 -/
def TWN_STAT_CATCHUP : Fld := Fld.mk 0x900004 7 1 .ro 0 false 0 1 0 1
/-- TWN_STAT [8] W1C: R531 -/
def TWN_STAT_PARTNER_LOST : Fld := Fld.mk 0x900004 8 1 .w1c 0 false 0 1 0 1
/-- TWN_STAT [9] W1C: R532 -/
def TWN_STAT_TOOK_OVER : Fld := Fld.mk 0x900004 9 1 .w1c 0 false 0 1 0 1
/-- TWN_STAT [10] W1C: R536 -/
def TWN_STAT_AUTH_FAIL : Fld := Fld.mk 0x900004 10 1 .w1c 0 false 0 1 0 1
/-- TWN_STAT [11] W1C: R520 -/
def TWN_STAT_LATE_MSG : Fld := Fld.mk 0x900004 11 1 .w1c 0 false 0 1 0 1
/-- TWN_DELAY [15:0] RW: Boundary. R520 -/
def TWN_DELAY_DELAY_NS : Fld := Fld.mk 0x900008 0 16 .rw 256 true 0 1 0 1
/-- TWN_ASYM [15:0] RW: Signed asymmetry correction in ps -/
def TWN_ASYM_ASYM_PS : Fld := Fld.mk 0x90000C 0 16 .rw 0 false 0 1 0 1
/-- TWN_AUTH [3:0] RW: Key slot for R536 -/
def TWN_AUTH_CA_SLOT : Fld := Fld.mk 0x900010 0 4 .rw 0 false 0 1 0 1
/-- TWN_CKPT_BASE_LO [31:0] RW: Region DPA bits [31:0]; bits [11:0] read 0 -/
def TWN_CKPT_BASE_LO : Fld := Fld.mk 0x900014 0 32 .rw 0 false 0 1 0 1
/-- TWN_CKPT_BASE_HI [4:0] RW: Bits [36:32]; bits [31:5] reserved -/
def TWN_CKPT_BASE_HI : Fld := Fld.mk 0x900018 0 5 .rw 0 false 0 1 0 1
/-- TWN_CKPT_GEOM [10:0] RW: 64-byte lines per slot, 0–1,024; 0: no checkpoints -/
def TWN_CKPT_GEOM_LINES : Fld := Fld.mk 0x90001C 0 11 .rw 0 false 0 1 0 1
/-- TWN_CKPT_GEOM [27:16] RW: Slots, 1–4,095; 0 acts as 1 -/
def TWN_CKPT_GEOM_SLOTS : Fld := Fld.mk 0x90001C 16 12 .rw 1 false 0 1 0 1
/-- TWN_HOLD [3:0] RW: R534; 0 acts as 1 -/
def TWN_HOLD_HOLD_TICKS : Fld := Fld.mk 0x900020 0 4 .rw 4 false 0 1 0 1
/-- TWN_MC_CTRL [3:0] RW: As SYC_MC_CTRL.K -/
def TWN_MC_CTRL_K : Fld := Fld.mk 0x900024 0 4 .rw 3 false 0 1 0 1
/-- TWN_MC_CTRL [7:4] RW: As SYC_MC_CTRL.LAG -/
def TWN_MC_CTRL_LAG : Fld := Fld.mk 0x900024 4 4 .rw 1 false 0 1 0 1
/-- TWN_MC_CTRL [8] RW: 0 RECOMMIT, 1 ROLLBACK -/
def TWN_MC_CTRL_RECOVER : Fld := Fld.mk 0x900024 8 1 .rw 0 false 0 1 0 1
/-- TWN_MC_CTRL [9] WO: Lead: propose a changeover at TWN_MC_TICK -/
def TWN_MC_CTRL_GO : Fld := Fld.mk 0x900024 9 1 .wo 0 false 0 1 0 1
/-- TWN_MC_TICK_LO [31:0] RW: Target tick bits [31:0] -/
def TWN_MC_TICK_LO_T_LO : Fld := Fld.mk 0x900028 0 32 .rw 0 false 0 1 0 1
/-- TWN_MC_TICK_HI [15:0] RW: Bits [47:32]; bits [31:16] reserved -/
def TWN_MC_TICK_HI_T_HI : Fld := Fld.mk 0x90002C 0 16 .rw 0 false 0 1 0 1
/-- TWN_MC_STAT [3:0] RO: Own state, Table 03-8 -/
def TWN_MC_STAT_STATE : Fld := Fld.mk 0x900030 0 4 .ro 0 false 0 1 0 1
/-- TWN_MC_STAT [7:4] RO: Partner's reported state -/
def TWN_MC_STAT_PARTNER : Fld := Fld.mk 0x900030 4 4 .ro 0 false 0 1 0 1
/-- TWN_MC_STAT [10:8] RO: Codes as SYC_MC_STAT.OUTCOME -/
def TWN_MC_STAT_OUTCOME : Fld := Fld.mk 0x900030 8 3 .ro 0 false 0 1 0 1
/-- TWN_DIG_MIS [23:0] W1C: R526 -/
def TWN_DIG_MIS_ROOMS : Fld := Fld.mk 0x900034 0 24 .w1c 0 false 0 1 0 1
/-- TWN_DIG_OVR [23:0] W1C: R526 -/
def TWN_DIG_OVR_ROOMS : Fld := Fld.mk 0x900038 0 24 .w1c 0 false 0 1 0 1
/-- TWN_DIG_TICK_LO [31:0] RO: TICKNO of the last compared record -/
def TWN_DIG_TICK_LO_TICK : Fld := Fld.mk 0x90003C 0 32 .ro 0 false 0 1 0 1
/-- TWN_DIG_TICK_HI [15:0] RO: TICKNO of the last compared record -/
def TWN_DIG_TICK_HI_TICK : Fld := Fld.mk 0x900040 0 16 .ro 0 false 0 1 0 1
/-- TWN_CKPT_TICK_LO [31:0] RO: Last complete checkpoint -/
def TWN_CKPT_TICK_LO_TICK : Fld := Fld.mk 0x900044 0 32 .ro 0 false 0 1 0 1
/-- TWN_CKPT_TICK_HI [15:0] RO: Last complete checkpoint -/
def TWN_CKPT_TICK_HI_TICK : Fld := Fld.mk 0x900048 0 16 .ro 0 false 0 1 0 1
/-- TWN_TAKE_TICK_LO [31:0] RO: Tick opened at the last takeover -/
def TWN_TAKE_TICK_LO_TICK : Fld := Fld.mk 0x90004C 0 32 .ro 0 false 0 1 0 1
/-- TWN_TAKE_TICK_HI [15:0] RO: Tick opened at the last takeover -/
def TWN_TAKE_TICK_HI_TICK : Fld := Fld.mk 0x900050 0 16 .ro 0 false 0 1 0 1
/-- TWN_PART_PWR [2:0] RO: Partner's PWR_STATE.CUR -/
def TWN_PART_PWR_STATE : Fld := Fld.mk 0x900054 0 3 .ro 0 false 0 1 0 1
/-- TWN_PART_PWR [3] RO: A status frame arrived in the last 64 µs -/
def TWN_PART_PWR_VALID : Fld := Fld.mk 0x900054 3 1 .ro 0 false 0 1 0 1
/-- TWN_CNT [15:0] RC: Record pairs with a mismatch -/
def TWN_CNT_MISMATCH : Fld := Fld.mk 0x900058 0 16 .rc 0 false 0 1 0 1
/-- TWN_CNT [31:16] RC: Substituted events -/
def TWN_CNT_SUBST : Fld := Fld.mk 0x900058 16 16 .rc 0 false 0 1 0 1
/-- TWN_CNT2 [7:0] RC: Records not compared in time -/
def TWN_CNT2_DIG_LATE : Fld := Fld.mk 0x90005C 0 8 .rc 0 false 0 1 0 1
/-- TWN_CNT2 [15:8] RC: R528 -/
def TWN_CNT2_CKPT_LATE : Fld := Fld.mk 0x90005C 8 8 .rc 0 false 0 1 0 1
/-- TWN_CNT2 [23:16] RC: R528 -/
def TWN_CNT2_CKPT_UE : Fld := Fld.mk 0x90005C 16 8 .rc 0 false 0 1 0 1
/-- TWN_CNT2 [31:24] RC: Partner losses -/
def TWN_CNT2_LOSS : Fld := Fld.mk 0x90005C 24 8 .rc 0 false 0 1 0 1
/-- TWN_CNT3 [15:0] RC: Held completions discarded (R534) -/
def TWN_CNT3_HELD_DROP : Fld := Fld.mk 0x900060 0 16 .rc 0 false 0 1 0 1
/-- TWN_CNT3 [31:16] RC: Held completions posted at takeover -/
def TWN_CNT3_HELD_POSTED : Fld := Fld.mk 0x900060 16 16 .rc 0 false 0 1 0 1
/-- TWN_DIG [31:0] RO: Own digest of Room n in the last record -/
def TWN_DIG_CRC : Fld := Fld.mk 0x900100 0 32 .ro 0 false 4 24 0 1

/-- The registers of the TWN_ block, part 0. -/
def mapTWN0 : List RegRow := [
  RegRow.mk [TWN_CTRL_EN, TWN_CTRL_ROLE_REQ, TWN_CTRL_TRIG_SHARE, TWN_CTRL_TAKEOVER],
  RegRow.mk [TWN_STAT_MODE, TWN_STAT_ROLE, TWN_STAT_LANES_UP, TWN_STAT_SYNC_UP, TWN_STAT_CAL_DONE, TWN_STAT_DIV_ALIGNED, TWN_STAT_CATCHUP, TWN_STAT_PARTNER_LOST, TWN_STAT_TOOK_OVER, TWN_STAT_AUTH_FAIL, TWN_STAT_LATE_MSG],
  RegRow.mk [TWN_DELAY_DELAY_NS],
  RegRow.mk [TWN_ASYM_ASYM_PS],
  RegRow.mk [TWN_AUTH_CA_SLOT],
  RegRow.mk [TWN_CKPT_BASE_LO],
  RegRow.mk [TWN_CKPT_BASE_HI],
  RegRow.mk [TWN_CKPT_GEOM_LINES, TWN_CKPT_GEOM_SLOTS],
  RegRow.mk [TWN_HOLD_HOLD_TICKS],
  RegRow.mk [TWN_MC_CTRL_K, TWN_MC_CTRL_LAG, TWN_MC_CTRL_RECOVER, TWN_MC_CTRL_GO],
  RegRow.mk [TWN_MC_TICK_LO_T_LO],
  RegRow.mk [TWN_MC_TICK_HI_T_HI],
  RegRow.mk [TWN_MC_STAT_STATE, TWN_MC_STAT_PARTNER, TWN_MC_STAT_OUTCOME],
  RegRow.mk [TWN_DIG_MIS_ROOMS],
  RegRow.mk [TWN_DIG_OVR_ROOMS],
  RegRow.mk [TWN_DIG_TICK_LO_TICK],
  RegRow.mk [TWN_DIG_TICK_HI_TICK],
  RegRow.mk [TWN_CKPT_TICK_LO_TICK],
  RegRow.mk [TWN_CKPT_TICK_HI_TICK],
  RegRow.mk [TWN_TAKE_TICK_LO_TICK]]

/-- The registers of the TWN_ block, part 1. -/
def mapTWN1 : List RegRow := [
  RegRow.mk [TWN_TAKE_TICK_HI_TICK],
  RegRow.mk [TWN_PART_PWR_STATE, TWN_PART_PWR_VALID],
  RegRow.mk [TWN_CNT_MISMATCH, TWN_CNT_SUBST],
  RegRow.mk [TWN_CNT2_DIG_LATE, TWN_CNT2_CKPT_LATE, TWN_CNT2_CKPT_UE, TWN_CNT2_LOSS],
  RegRow.mk [TWN_CNT3_HELD_DROP, TWN_CNT3_HELD_POSTED],
  RegRow.mk [TWN_DIG_CRC]]

/-- All registers of the TWN_ block. -/
def mapTWN : List RegRow := mapTWN0 ++ mapTWN1

/-! ### TGT_ registers (18 R562) -/

/-- TGT_LC [2:0] RO: Table 18-1 (R544) -/
def TGT_LC_STATE : Fld := Fld.mk 0xA00000 0 3 .ro 0 false 0 1 0 1
/-- TGT_LC [3] RO: R544 -/
def TGT_LC_INCOMPLETE : Fld := Fld.mk 0xA00000 3 1 .ro 0 false 0 1 0 1
/-- TGT_LC [4] RO: R544 -/
def TGT_LC_LC_BAD : Fld := Fld.mk 0xA00000 4 1 .ro 0 false 0 1 0 1
/-- TGT_LC [5] RO: R544 -/
def TGT_LC_WIPE_PENDING : Fld := Fld.mk 0xA00000 5 1 .ro 0 false 0 1 0 1
/-- TGT_FIELDS [13:0] RO: Field Fn at [2n − 1:2n − 2]: 0 EMPTY, 1 PARTIAL, 3 COMPLETE; 2 not used -/
def TGT_FIELDS_F1_F7 : Fld := Fld.mk 0xA00004 0 14 .ro 0 false 0 1 0 1
/-- TGT_POLICY [31:0] RO: Table 18-4 -/
def TGT_POLICY : Fld := Fld.mk 0xA00008 0 32 .ro 0 false 0 1 0 1
/-- TGT_DBG [1:0] RO: Open debug level -/
def TGT_DBG_LEVEL : Fld := Fld.mk 0xA0000C 0 2 .ro 0 false 0 1 0 1
/-- TGT_DBG [3:2] RO: 0 none, 1 manufacturer, 2 owner, 3 no token -/
def TGT_DBG_AUTH : Fld := Fld.mk 0xA0000C 2 2 .ro 0 false 0 1 0 1
/-- TGT_DBG [4] RO: A challenge is outstanding -/
def TGT_DBG_CHAL_VALID : Fld := Fld.mk 0xA0000C 4 1 .ro 0 false 0 1 0 1
/-- TGT_DBG [5] RO: Innkeeper halted by DBG_HALT -/
def TGT_DBG_HALTED : Fld := Fld.mk 0xA0000C 5 1 .ro 0 false 0 1 0 1
/-- TGT_DBG [8] WO: Write 1: return to D0 (DEBUG_LOCK) -/
def TGT_DBG_LOCK : Fld := Fld.mk 0xA0000C 8 1 .wo 0 false 0 1 0 1
/-- TGT_DBG_ITIN [31:0] RO: ITIN_ID bound by the open session (R559) -/
def TGT_DBG_ITIN_ITIN_ID : Fld := Fld.mk 0xA00010 0 32 .ro 0 false 0 1 0 1
/-- TGT_CHAL [15:0] RW: Challenge lifetime in s; 0 acts as 1 -/
def TGT_CHAL_TMO_S : Fld := Fld.mk 0xA00014 0 16 .rw 60 false 0 1 0 1
/-- TGT_CHAL [20:16] RO: Consecutive failed unlocks, saturating at 31 -/
def TGT_CHAL_FAILS : Fld := Fld.mk 0xA00014 16 5 .ro 0 false 0 1 0 1
/-- TGT_SLOTS [15:0] RO: Slot k row valid -/
def TGT_SLOTS_VALID : Fld := Fld.mk 0xA00018 0 16 .ro 0 false 0 1 0 1
/-- TGT_SLOTS [31:16] RO: Slot k usable for images in the current state (R553) -/
def TGT_SLOTS_USABLE : Fld := Fld.mk 0xA00018 16 16 .ro 0 false 0 1 0 1
/-- TGT_CNT [15:0] RC: Failed token verifications -/
def TGT_CNT_AUTH_FAIL : Fld := Fld.mk 0xA0001C 0 16 .rc 0 false 0 1 0 1
/-- TGT_CNT [31:16] RC: Successful unlocks -/
def TGT_CNT_UNLOCKS : Fld := Fld.mk 0xA0001C 16 16 .rc 0 false 0 1 0 1

/-- The registers of the TGT_ block. -/
def mapTGT : List RegRow := [
  RegRow.mk [TGT_LC_STATE, TGT_LC_INCOMPLETE, TGT_LC_LC_BAD, TGT_LC_WIPE_PENDING],
  RegRow.mk [TGT_FIELDS_F1_F7],
  RegRow.mk [TGT_POLICY],
  RegRow.mk [TGT_DBG_LEVEL, TGT_DBG_AUTH, TGT_DBG_CHAL_VALID, TGT_DBG_HALTED, TGT_DBG_LOCK],
  RegRow.mk [TGT_DBG_ITIN_ITIN_ID],
  RegRow.mk [TGT_CHAL_TMO_S, TGT_CHAL_FAILS],
  RegRow.mk [TGT_SLOTS_VALID, TGT_SLOTS_USABLE],
  RegRow.mk [TGT_CNT_AUTH_FAIL, TGT_CNT_UNLOCKS]]

/-! ### BST_ registers (19 R585) -/

/-- BST_CTRL [0] WO: Write 1: run BST_SCOPE now (R570) -/
def BST_CTRL_GO : Fld := Fld.mk 0x640000 0 1 .wo 0 false 0 1 0 1
/-- BST_CTRL [1] WO: Write 1: abort under R566 -/
def BST_CTRL_ABORT : Fld := Fld.mk 0x640000 1 1 .wo 0 false 0 1 0 1
/-- BST_ARM [15:0] RW: Shut-down scope (R568) -/
def BST_ARM_SCOPE : Fld := Fld.mk 0x640004 0 16 .rw 0 false 0 1 0 1
/-- BST_SCOPE [15:0] RW: Scope of a run on command -/
def BST_SCOPE : Fld := Fld.mk 0x640008 0 16 .rw 0 false 0 1 0 1
/-- BST_STAT [2:0] RO: 0 IDLE, 1 CHECK, 2 LOGIC, 3 MEMORY, 4 WRITE; 5–7 not used -/
def BST_STAT_STATE : Fld := Fld.mk 0x64000C 0 3 .ro 0 false 0 1 0 1
/-- BST_STAT [3] RO: R566 -/
def BST_STAT_VCORE_OK : Fld := Fld.mk 0x64000C 3 1 .ro 0 false 0 1 0 1
/-- BST_STAT [4] RO: R566 -/
def BST_STAT_CLK_OK : Fld := Fld.mk 0x64000C 4 1 .ro 0 false 0 1 0 1
/-- BST_STAT [5] W1C: Last run aborted -/
def BST_STAT_ABORTED : Fld := Fld.mk 0x64000C 5 1 .w1c 0 false 0 1 0 1
/-- BST_STAT [6] W1C: Last run had a failing element -/
def BST_STAT_FAIL : Fld := Fld.mk 0x64000C 6 1 .w1c 0 false 0 1 0 1
/-- BST_STAT [11:8] RO: Element in progress -/
def BST_STAT_ELEMENT : Fld := Fld.mk 0x64000C 8 4 .ro 0 false 0 1 0 1
/-- BST_STAT [31:16] RO: Number of the last run -/
def BST_STAT_RUN : Fld := Fld.mk 0x64000C 16 16 .ro 0 false 0 1 0 1
/-- BST_TIME [15:0] RO: Duration of the last run, 10 µs units -/
def BST_TIME : Fld := Fld.mk 0x640010 0 16 .ro 0 false 0 1 0 1
/-- BST_CNT [15:0] RO: Spares taken by the last run -/
def BST_CNT_REPAIRS : Fld := Fld.mk 0x640014 0 16 .ro 0 false 0 1 0 1
/-- BST_CNT [31:16] RO: UNREPAIRED entries of the last run -/
def BST_CNT_UNREPAIRED : Fld := Fld.mk 0x640014 16 16 .ro 0 false 0 1 0 1
/-- BST_REPAIR [0] RO: Copy 0 page 0 valid at start -/
def BST_REPAIR_COPY0 : Fld := Fld.mk 0x640018 0 1 .ro 0 false 0 1 0 1
/-- BST_REPAIR [1] RO: Copy 1 page 0 valid at start -/
def BST_REPAIR_COPY1 : Fld := Fld.mk 0x640018 1 1 .ro 0 false 0 1 0 1
/-- BST_REPAIR [2] RO: Copy applied -/
def BST_REPAIR_USED : Fld := Fld.mk 0x640018 2 1 .ro 0 false 0 1 0 1
/-- BST_REPAIR [31:16] RO: Entries applied at start -/
def BST_REPAIR_APPLIED : Fld := Fld.mk 0x640018 16 16 .ro 0 false 0 1 0 1

/-- The registers of the BST_ block. -/
def mapBST : List RegRow := [
  RegRow.mk [BST_CTRL_GO, BST_CTRL_ABORT],
  RegRow.mk [BST_ARM_SCOPE],
  RegRow.mk [BST_SCOPE],
  RegRow.mk [BST_STAT_STATE, BST_STAT_VCORE_OK, BST_STAT_CLK_OK, BST_STAT_ABORTED, BST_STAT_FAIL, BST_STAT_ELEMENT, BST_STAT_RUN],
  RegRow.mk [BST_TIME],
  RegRow.mk [BST_CNT_REPAIRS, BST_CNT_UNREPAIRED],
  RegRow.mk [BST_REPAIR_COPY0, BST_REPAIR_COPY1, BST_REPAIR_USED, BST_REPAIR_APPLIED]]

/-! ### LDG_ registers (19 R586) -/

/-- LDG_CTRL [0] RW: Events accepted -/
def LDG_CTRL_EN : Fld := Fld.mk 0x630000 0 1 .rw 1 false 0 1 0 1
/-- LDG_CTRL [1] RW: R583 -/
def LDG_CTRL_ARCH_EN : Fld := Fld.mk 0x630000 1 1 .rw 1 false 0 1 0 1
/-- LDG_STAT [10:0] RO: Records in the buffer, 0–1,020 -/
def LDG_STAT_HELD : Fld := Fld.mk 0x630004 0 11 .ro 0 false 0 1 0 1
/-- LDG_STAT [11] RO: R581 -/
def LDG_STAT_FULL : Fld := Fld.mk 0x630004 11 1 .ro 0 false 0 1 0 1
/-- LDG_STAT [12] RO: Archive write running -/
def LDG_STAT_ARCH_BUSY : Fld := Fld.mk 0x630004 12 1 .ro 0 false 0 1 0 1
/-- LDG_HEAD [31:0] RO: SEQ of the next record -/
def LDG_HEAD_SEQ : Fld := Fld.mk 0x630008 0 32 .ro 0 false 0 1 0 1
/-- LDG_TAIL [31:0] RO: Oldest SEQ in the buffer -/
def LDG_TAIL_SEQ : Fld := Fld.mk 0x63000C 0 32 .ro 0 false 0 1 0 1
/-- LDG_ARCH_SEQ [31:0] RO: Next SEQ to archive -/
def LDG_ARCH_SEQ : Fld := Fld.mk 0x630010 0 32 .ro 0 false 0 1 0 1
/-- LDG_ARCH [15:0] RW: R583 -/
def LDG_ARCH_AGE_MS : Fld := Fld.mk 0x630014 0 16 .rw 1200 false 0 1 0 1
/-- LDG_ARCH [23:16] RW: R583; 0 acts as 1 -/
def LDG_ARCH_MIN_MS : Fld := Fld.mk 0x630014 16 8 .rw 6 false 0 1 0 1
/-- LDG_CLASS1 [7:0] RW: R580; 0 acts as 1 -/
def LDG_CLASS1_BURST : Fld := Fld.mk 0x630020 0 8 .rw 16 false 0 1 0 1
/-- LDG_CLASS1 [23:8] RW: Token interval; 0 acts as 1 -/
def LDG_CLASS1_PERIOD_MS : Fld := Fld.mk 0x630020 8 16 .rw 64 false 0 1 0 1
/-- LDG_CLASS2 [7:0] RW: As LDG_CLASS1 -/
def LDG_CLASS2_BURST : Fld := Fld.mk 0x630024 0 8 .rw 4 false 0 1 0 1
/-- LDG_CLASS2 [23:8] RW: As LDG_CLASS1 -/
def LDG_CLASS2_PERIOD_MS : Fld := Fld.mk 0x630024 8 16 .rw 250 false 0 1 0 1
/-- LDG_CNT [15:0] RC: R581 -/
def LDG_CNT_DROPPED : Fld := Fld.mk 0x630030 0 16 .rc 0 false 0 1 0 1
/-- LDG_CNT [31:16] RC: R580 -/
def LDG_CNT_SUPPRESSED : Fld := Fld.mk 0x630030 16 16 .rc 0 false 0 1 0 1
/-- LDG_FW_CODE [15:0] WO: Write: submit event; 0x0000 ignored, unlisted codes class 0 (R577) -/
def LDG_FW_CODE : Fld := Fld.mk 0x630040 0 16 .wo 0 false 0 1 0 1
/-- LDG_FW_D_LO [31:0] RW: DETAIL bits [31:0] -/
def LDG_FW_D_LO : Fld := Fld.mk 0x630044 0 32 .rw 0 false 0 1 0 1
/-- LDG_FW_D_HI [31:0] RW: DETAIL bits [63:32] -/
def LDG_FW_D_HI : Fld := Fld.mk 0x630048 0 32 .rw 0 false 0 1 0 1
/-- LDG_AONQ [4:0] RO: Events in the AON queue, 0–16 -/
def LDG_AONQ_HELD : Fld := Fld.mk 0x63004C 0 5 .ro 0 false 0 1 0 1
/-- LDG_AONQ [31:16] RC: R578 -/
def LDG_AONQ_LOST : Fld := Fld.mk 0x63004C 16 16 .rc 0 false 0 1 0 1

/-- The registers of the LDG_ block. -/
def mapLDG : List RegRow := [
  RegRow.mk [LDG_CTRL_EN, LDG_CTRL_ARCH_EN],
  RegRow.mk [LDG_STAT_HELD, LDG_STAT_FULL, LDG_STAT_ARCH_BUSY],
  RegRow.mk [LDG_HEAD_SEQ],
  RegRow.mk [LDG_TAIL_SEQ],
  RegRow.mk [LDG_ARCH_SEQ],
  RegRow.mk [LDG_ARCH_AGE_MS, LDG_ARCH_MIN_MS],
  RegRow.mk [LDG_CLASS1_BURST, LDG_CLASS1_PERIOD_MS],
  RegRow.mk [LDG_CLASS2_BURST, LDG_CLASS2_PERIOD_MS],
  RegRow.mk [LDG_CNT_DROPPED, LDG_CNT_SUPPRESSED],
  RegRow.mk [LDG_FW_CODE],
  RegRow.mk [LDG_FW_D_LO],
  RegRow.mk [LDG_FW_D_HI],
  RegRow.mk [LDG_AONQ_HELD, LDG_AONQ_LOST]]
/-- All registers of the register windows of Table 01-7. -/
def mapAll : List RegRow :=
  mapMSU ++ mapTCK ++ mapSYC ++ mapING ++ mapLAS ++ mapHLK ++ mapDMC ++ mapCFG ++ mapWCH ++ mapKMI ++ mapPNT ++ mapOTP ++
  mapLDG ++ mapBST ++ mapGPIO ++ mapIOB ++ mapPWR ++ mapTWN ++ mapTGT ++ mapDRG

end Reg

end Sys2Proof.Machine
end

