-- ==== Sys2Proof/Machine/State.lean ====
section
/-! DEFINITION. The state of the OA2400: every register field (held in `regs`, at its reset value where unlisted) and every
piece of state the chapters give the part beside its registers, the queue of waiting commands, the log of what the part
has driven outward, and State.reset. -/

namespace Sys2Proof.Machine

/-- What the part drives outward: a field of the model's own (DESIGN CHOICE, log entry 6). -/
inductive Out where
  /-- An MSI-X vector of a host function (function 0 PF0, 1 PF1, 2 + v VF v + 1). -/
  | msix (fn vec : Nat)
  /-- Bytes written to host memory by the bus master function `fn` (0 PF0, 1 PF1, 2 + v VF v + 1), with EP where poisoned (R252, R264). -/
  | hostWrite (fn addr : Nat) (ep : Bool) (data : List Nat)
  /-- Bytes read from host memory by the bus master function `fn`, from `addr` on (R257, R265). -/
  | hostRead (fn addr len : Nat)
  /-- A host read or write request completed: kind 0 data, 1 UR, 2 CA, 3 poisoned; kind 4 answers a
  snoop of the address `tag` with RspIHitI (R238). -/
  | hostCompl (tag kind : Nat) (data : List Nat)
  /-- A Sync Chain message: upstream or downstream. -/
  | sync (up : Bool) (msg : List Nat)
  /-- A Twin Link message: kind 0 TWIN_SYNC message, 1 tick record, 2 status frame, 3 checkpoint, 4 digest re-send. -/
  | twin (kind : Nat) (msg : List Nat)
  /-- A trigger pulse: output, rise and fall. -/
  | trig (n rise fall : Nat)
  /-- A timer output or fan-out drives a pulse on a user pin from `rise` to `fall`, high or (inverted) low (R468, R469). -/
  | pulse (pin rise fall : Nat) (high : Bool)
  /-- A pin keeps this output enable and value for two CD89 cycles before its new function drives it (R462). -/
  | pinHold (pin : Nat) (en val : Bool)
  /-- An inbound word of a Room port: room, port, I_KIND, stream, last, error, bytes. -/
  | roomWord (room port kind stream : Nat) (last err : Bool) (data : List Nat)
  /-- Words that a lane's transmitter sends (R221). -/
  | laneTx (lane : Nat) (words : List Nat)
  /-- A level or pulse driven on a pin or dedicated pin: name code and value. -/
  | pin (n value : Nat)
  /-- A JTAG data register presented for shifting. -/
  | jtag (dr : Nat)
  /-- A DRAM device command: subchannel, code, bank or rank, row or column. -/
  | dram (sc code a b : Nat)
  /-- A Device Readiness Status message (Table 07-2). -/
  | drs
  /-- A coherence request to the host: kind 0 RdCurr, 1 RdOwnNoData, with its DPA (R240, R241). -/
  | snoop (kind dpa : Nat)
  /-- LTICK with the values of Table 02-5: TICK_LOW and TICK_CLOSED. -/
  | ltick (low closed : Nat)
  /-- The MERGED pulse to the Rooms. -/
  | merged
  /-- A transfer on a management controller's pins: SPI mode, chip select and bit clock divider, and the bytes sent (R470). -/
  | periph (ctl mode cs div : Nat) (data : List Nat)
  deriving DecidableEq, Repr

/-- Why the part cannot take a command. -/
inductive Fault where
  /-- Raised by any meaning whose operand names a unit the spec does not give the part (a Room above 23, a mailbox above 15,
  a lane above 31 …): no such command exists outside the model. Safe: the machine stops where the hardware has nothing. -/
  | noSuchUnit
  deriving DecidableEq, Repr

/-- Why a command has no meaning. -/
inductive Refusal where
  /-- Raised by an arm of the dispatcher whose command has no meaning yet, by name. Safe. -/
  | notModelled (mnemonic : String)
  deriving DecidableEq, Repr

/-- The tick engine beside its registers (02). -/
structure TickSt where
  /-- The next accepted event starts the first boundary after enable (R34, R60). -/
  firstDue : Bool
  /-- A tick has been opened since the engine was enabled. -/
  tickOpen : Bool
  /-- B of the open tick, on the time counter (02, R39). -/
  b : Nat
  /-- B or the last merged event of the open tick, whichever is later (R65). -/
  lastAccepted : Nat
  /-- The tick opened at the unit's previous boundary (R37), and at the boundary before that one (R214). -/
  opened : Nat
  prior : Option Nat
  /-- Time of record of the previous boundary while the period can be measured (Table 02-1). -/
  prevStamp : Option Nat
  /-- Rooms taking part in the open tick (R43). -/
  part : Nat
  /-- Rooms whose RDONE counted at or after Curfew (R44). -/
  lateDone : Nat
  /-- The rest window is open (R45). -/
  rest : Bool
  /-- TICK_CLOSED of Table 02-5. -/
  closed : Nat
  /-- OVR_PREV of Table 02-5, one bit per Room. -/
  ovrPrev : Nat
  /-- Time of the previous TIMER event, or of TIMER becoming active, and of the last write of TCK_TIMER_PER since (R606). -/
  timerAnchor : Option Nat
  timerWrite : Option Nat
  /-- The Curfew offset computed for the open tick (R40). -/
  curfew : Nat
  deriving DecidableEq, Repr

/-- One encoder channel beside its registers (03). -/
structure EncSt where
  /-- Filtered levels of A and B. -/
  a : Bool
  b : Bool
  /-- Whole position, signed (R74). -/
  p : Int
  /-- Counted edges of the current run (R75). -/
  k : Nat
  /-- Stamps of the run's newest edges, newest first, at most 17. -/
  stamps : List Nat
  /-- Net signed count since the last qualifying Z edge, once one was seen (R72). -/
  sinceZ : Option Int
  /-- Stamp of the position in MSU_ENC*n*_ZPOS (R72). -/
  zStamp : Nat
  /-- Stamps of the newest resolved transition of A and of B (R69). -/
  stampA : Option Nat
  stampB : Option Nat
  /-- Since when no edge has counted: the newest counted edge, or the start of the run still without one (R73). -/
  since : Nat
  deriving DecidableEq, Repr

/-- A pending trigger pulse (R87). -/
structure Pulse where
  rise : Nat
  fall : Nat
  tick : Nat
  merged : Bool
  deriving DecidableEq, Repr

/-- One trigger output: pending pulses, oldest first, and the fall of the last pulse taken (R87). -/
structure TrigSt where
  pend : List Pulse
  lastFall : Option Nat
  deriving DecidableEq, Repr

/-- The Milestone Unit beside its registers (03). -/
structure MsuSt where
  enc : List EncSt
  /-- A threshold has been crossed since the last LOAD (R80). -/
  crossed : Bool
  /-- The scheduled ENCODER event (R79). -/
  sched : Option Nat
  /-- A step waits for the next PPS_IN edge (R84). -/
  setAtPps : Bool
  /-- The time base has locked since start (R84). -/
  everLocked : Bool
  /-- Since when the hop offset under CHAIN or TWIN, or the PPS edge under REF10_PPS, has met its lock criterion (R82), and the time of the
  last PPS_IN edge. -/
  critSince : Option Nat
  ppsSince : Option Nat
  ppsAt : Nat
  trig : List TrigSt
  deriving DecidableEq, Repr

/-- A STATUS as aggregated so far (R96). -/
structure StatusRec where
  tick : Nat
  count : Nat
  state : Nat
  seq : Nat
  firstHop : Nat
  alarm : Nat
  deriving DecidableEq, Repr

/-- A mode change, of the Sync Chain (R101 to R108) or of the twin (R535). -/
structure McSt where
  /-- Armed changeover mask, divider-set switch, the changeover slot held (R101), and the twin's armed identifier (R535). -/
  armMask : Nat
  armSwitch : Bool
  armSlot : Option Nat
  armMode : Nat
  /-- A proposal is open: its target, mode identifier and sequence number. -/
  isOpen : Bool
  t : Nat
  mode : Nat
  seq : Nat
  /-- COMMIT sent (master) or accepted (member). -/
  committed : Bool
  /-- The unit has taken its step of boundary T: local actions, or the clamps of a MISSED unit. -/
  acted : Bool
  /-- The switch of the divider set, and the flip, stand applied. -/
  switched : Bool
  flipped : Bool
  /-- The one RECOMMIT has been used (R107). -/
  recommitted : Bool
  /-- The decision in force: 0 none, 4 DONE, 5 RECOMMIT, 6 ROLLBACK, with its target tick. -/
  decision : Nat
  decTarget : Nat
  /-- The tick opened by this unit's boundary T, once it has run (R32, R106). -/
  atTick : Option Nat
  /-- Master: 0 nothing, 1 proposing, 2 waiting for the STATUS of tick T, 3 decided. -/
  phase : Nat
  /-- MC_OP being sent, the tick MC_REL counts to, and the last tick it is sent in. -/
  op : Nat
  opTarget : Nat
  opUntil : Nat
  /-- Rooms clamped under R105 or R108. -/
  clamp : Nat
  /-- STATUS messages taken by the master, newest first. -/
  stats : List StatusRec
  /-- The proposal watched for UNRESOLVED: its sequence number and last tick (R108). -/
  watch : Option (Nat × Nat)
  /-- SYNC_LOCAL request waiting for the next boundary: 1 rollback, 2 re-apply (R108). -/
  localReq : Nat
  deriving DecidableEq, Repr

/-- The Sync Chain port beside its registers (03). -/
structure SycSt where
  /-- The last 256 round trips, newest first (R97). -/
  trips : List Nat
  /-- Consecutive messages failing their CRC (R93). -/
  crcRun : Nat
  /-- Time of the last valid message (R93), and CAL messages used by this receiver (R99). -/
  lastMsg : Nat
  calSeen : Nat
  /-- Launch of the last CAL message sent (R93). -/
  calAt : Option Nat
  /-- Tick whose STATUS this member still owes upstream (R96). -/
  owed : Option Nat
  /-- A message has failed its CRC since the last STATUS sent (Table 03-5). -/
  crcSeen : Bool
  /-- The master's time base is in holdover, as its last message told (Table 03-4). -/
  masterHold : Bool
  mc : McSt
  deriving DecidableEq, Repr

/-- One Slice's user state (R119 to R126): flip-flop bits F0 to F7. -/
structure SliceSt where
  ff : Nat
  deriving DecidableEq, Repr

/-- One port's read side of a Cellar or Larder block: output latch and output register, each with the status SBE and DBE of its word (R161,
R168). -/
structure PortSt where
  latch : Nat
  oreg : Nat
  sbe : Bool
  dbe : Bool
  sbeReg : Bool
  dbeReg : Bool
  deriving DecidableEq, Repr

/-- One PAB's user state (R182 to R186): 16 accumulators, 16 banks of 16 coefficients, sticky flags and the result
pipeline, newest first (result port, SAT). With RATIO = 1 also its gearboxes (R189): the tree cycle of the group of four, the bits of port A
taken in this group and in the one before, and the array results of this group and of the one before, oldest first. -/
structure PabSt where
  acc : List Nat
  bank : List Nat
  preOvf : Bool
  accOvf : Bool
  pipe : List (Nat × Bool)
  phase : Nat
  gearIn : Nat
  gearPrev : Nat
  gearRes : List (Nat × Bool)
  gearShow : List (Nat × Bool)
  deriving DecidableEq, Repr

/-- An inbound word of a Room port (Table 04-13): I_KIND, I_STREAM, I_LAST, I_ERR and its bytes. -/
structure PortWord where
  kind : Nat
  stream : Nat
  last : Bool
  err : Bool
  data : List Nat
  deriving DecidableEq, Repr

/-- Fabric state of the 24 Rooms (04, 05). -/
structure FabSt where
  /-- Flip-flops of Slices, by 25,600 × Room + 8 × Tile + Slice (Tile = 32x + y). -/
  slices : Assoc SliceSt
  /-- Waystation registers, by 3,520 × Room + position, a logic Tile 32x + y or 3,200 + 32k + y in block column k: bit w is wire w (R134). -/
  way : Assoc Nat
  /-- Level of each Room's clock trees (2 × Room + t) after their last edge (R121). -/
  clk : Nat
  /-- Trees in whose present cycle LTICK, or MERGED, is at 1 (Table 02-5, R135). -/
  ltick : Nat
  mergedTap : Nat
  /-- Inbound words that a port holds for its Room, oldest first (R147), by 8 × Room + port. -/
  portQ : Assoc (List PortWord)
  /-- Outbound words a port has accepted since it dropped O_READY, at most two (R147), by 8 × Room + port. -/
  portSkid : Assoc (List (Nat × Nat × Nat × Bool))
  /-- Door group records as they stood when a Room's domain went off, by 1,024 × Room + group: its isolation clamps (R24). -/
  isoRec : Assoc Nat
  /-- Door registers and hidden stages, by 4,096 × Room + Door (R140, R141). -/
  door : Assoc Nat
  doorHid : Assoc Nat
  /-- Door ownership table in force and staged: entries by 24 × 160 link groups (R138, R352). -/
  ownTbl : Assoc Nat
  ownStg : Assoc Nat
  /-- Rooms whose update of ownTbl waits in the staged table's mask. -/
  ownStgRooms : Nat
  /-- Management control words by Room (R149). -/
  mgmtCtl : Assoc Nat
  /-- Fabric PLL control and output words and lock (R150). -/
  pllCtl : List Nat
  pllOut : List Nat
  pllLocked : Nat
  /-- Clock trees (2 × Room + t): those that owe a commit at their restart (R52). -/
  owesCommit : Nat
  /-- Cellar bytes with their ninth bits, by 4,096 × (160 × Room + block) + byte (R163). -/
  cellar : Assoc Nat
  /-- PP_SEL bits, by 160 × Room + block (R170). -/
  ppSel : Assoc Bool
  /-- PP_HALF as presented on port B's clock, by 160 × Room + block (R170). -/
  ppHalf : Assoc Bool
  /-- Larder words of 72 bits, an unlisted one zero data with valid check bits (R177), by 4,096 × (16 × Room + block) + word (R175). -/
  larder : Assoc Nat
  /-- Port read sides: 2 × (160 × Room + block) + port for Cellar; 8,000 onward for Larder. -/
  ports : Assoc PortSt
  pab : Assoc PabSt
  /-- Rooms whose block ports are enabled (R157). -/
  portsOn : Nat
  /-- SBE counts by Room (R169). -/
  sbe : Assoc Nat
  /-- Rooms whose Cellar contents have been initialised since power-on (R165). -/
  cellarInit : Nat
  deriving DecidableEq, Repr

/-- A trigger queue entry of a Line Assembler (R205, R217). -/
structure TrigEnt where
  s : Nat
  tick : Nat
  merged : Bool
  rise : Nat
  /-- A MISSING record has been written; ticks left before the entry goes. -/
  missing : Bool
  wait : Nat
  deriving DecidableEq, Repr

/-- A line being assembled or waiting in the line buffer (R203, R214). -/
structure LineSt where
  tag : Nat
  camId : Nat
  merged : Bool
  late : Bool
  short : Bool
  orphan : Bool
  displaced : Bool
  err : Bool
  /-- Next expected payload position and payload bytes received. -/
  pos : Nat
  bytes : Nat
  payload : Assoc Nat
  /-- Its record has been written (R208), with this record count. -/
  recDone : Bool
  seq : Nat
  /-- Its fill has started and holds the fill tick's block target (R216); rows of the target written so far. -/
  own : Bool
  rows : Nat
  deriving DecidableEq, Repr

/-- A line that opens with this tag and camera ID. -/
def LineSt.init (tag camId : Nat) : LineSt := ⟨tag, camId, false, false, false, false, false, false, 0, 0, [], false, 0, false, 0⟩

/-- A packet being received: its bytes, whether a code error fell in it, and the arrival of its first byte. -/
structure PktSt where
  bytes : List Nat
  bad : Bool
  t : Nat
  deriving DecidableEq, Repr

/-- One Line Assembler beside its registers (06). -/
structure LasSt where
  queue : List TrigEnt
  pulses : Nat
  cur : Option LineSt
  /-- Lines complete or closed, waiting for their fill, oldest first. -/
  buf : List LineSt
  recCount : Nat
  spillNext : Nat
  sideCount : Nat
  sideWr : Nat
  /-- Fabric-owned pointers as last polled (R219): side read, transmit write; own transmit read pointer. -/
  sideRd : Nat
  txWr : Nat
  txRd : Nat
  /-- Side packets in the KMI buffer, oldest first (R222), and transmit packets waiting from SIDE_SEND. -/
  kmiBuf : List (List Nat)
  kmiTx : List (List Nat)
  /-- Fill ticks whose block target is taken (R216). -/
  taken : Option Nat
  /-- Marker arrivals of the bond since the last alignment, as (lane, word index). -/
  marks : List (Nat × Nat)
  /-- Record block available at the last check. -/
  recOk : Bool
  /-- The packet being received (R199). -/
  pkt : Option PktSt
  deriving DecidableEq, Repr

/-- A character of the aligned stream (Table 06-2). -/
inductive Chr where
  | data (b : Nat)
  | start
  | term
  /-- A raw lane's SYNC word, in front of its bytes. -/
  | sync
  /-- The deskew marker of R198. -/
  | marker
  /-- Idle or ordered set. -/
  | other
  /-- An invalid symbol, block or error character. -/
  | bad
  deriving DecidableEq, Repr

/-- A lane's PCS beside its registers (R193, R194). -/
structure LaneSt where
  /-- The word before, on the line, and the alignment: how many bits the words begin before the line word. -/
  prev : Nat
  sh : Nat
  /-- Words received, and raw lanes' SYNC finds by alignment while the lock is sought. -/
  count : Nat
  cand : Assoc Nat
  /-- Words since SYNC was last found at the alignment. -/
  noSync : Nat
  /-- Valid sync headers in a row while block lock is sought. -/
  good : Nat
  /-- 8B10B: one bit for each of the last 64 words, 1 where it was bad; 64B66B: invalid headers in the window, and its length. -/
  win : Nat
  winLen : Nat
  /-- BER window: words and invalid headers. -/
  berWords : Nat
  berBad : Nat
  /-- Receive disparity and descrambler history, transmit disparity and scrambler history. -/
  rd : Bool
  hist : Nat
  txRd : Bool
  txHist : Nat
  /-- Words received that wait for the bond's other lanes. -/
  rxQ : List (List Chr)
  deriving DecidableEq, Repr

/-- A lane's PCS with nothing received or sent. -/
def LaneSt.init : LaneSt := ⟨0, 0, 0, [], 0, 0, 0, 0, 0, 0, false, 0, false, 0, []⟩

/-- Sensor Ingest (06). -/
structure IngSt where
  las : List LasSt
  /-- Lanes without an entry have received and sent nothing. -/
  lanes : Assoc LaneSt
  /-- The Line Assembler that each Room's fill port served last (R213). -/
  fillLast : Assoc Nat
  deriving DecidableEq, Repr

/-- A KMI completion (Table 12-5) with its data out as written. -/
structure KmiCompl where
  opcode : Nat
  tag : Nat
  status : Nat
  flags : Nat
  resLen : Nat
  detail : Nat
  c : List Nat
  dataOut : List Nat
  deriving DecidableEq, Repr

/-- One command mailbox beside its register (12). -/
structure Mbx where
  cmd : Option KmiCmd
  compl : Option KmiCompl
  count : Nat
  deriving DecidableEq, Repr

/-- A command that firmware has started and not completed (R396): its mailbox, the posted command, whether it has reached its
waiting phase, whether it was abandoned, and what it waits for. -/
structure RunCmd where
  mbx : Nat
  cmd : KmiCmd
  waiting : Bool
  abandoned : Bool
  key : Nat
  deriving DecidableEq, Repr

/-- An event record of mailbox 15 (Table 12-7). -/
structure EvtRec where
  seq : Nat
  code : Nat
  group : Nat
  tick : Nat
  e0 : Nat
  e1 : Nat
  deriving DecidableEq, Repr

/-- The Innkeeper and the mailboxes (12). -/
structure KmiSt where
  mbx : List Mbx
  /-- Mailboxes in the order of their POST writes, oldest first, not yet started (R398). -/
  postQ : List Nat
  /-- Posts not yet read from KMI_POST_Q (Table 12-22). -/
  unread : List Nat
  running : List RunCmd
  events : List EvtRec
  evtCount : Nat
  evtAck : Nat
  evtLost : Nat
  /-- Running firmware copy (bank), R384. -/
  copy : Nat
  /-- Innkeeper SRAM words of known value by IAS address: none where firmware runs, since no command reaches SRAM (R404, R385). -/
  sram : Assoc Nat
  /-- Instruction cache (R383): by set, the lines held (IAS address ÷ 64), at most two, the newest first. -/
  icache : Assoc (List Nat)
  /-- When the command of each mailbox was posted (R399), and when the watchdog's count last restarted (R385). -/
  postAt : Assoc Nat
  wdogAt : Nat
  deriving DecidableEq, Repr

/-- A Ledger record (Table 19-5). -/
structure LedgerRec where
  seq : Nat
  code : Nat
  flags : Nat
  tick : Nat
  suppressed : Nat
  time : Nat
  detail : Nat
  deriving DecidableEq, Repr

/-- The Ledger beside its registers (19). -/
structure LedgerSt where
  /-- Records held, oldest first, at most 1,020 (R581). -/
  buf : List LedgerRec
  /-- Token buckets that have been touched; an unlisted bucket holds `full1` or `full2` tokens by its class (R580). -/
  tokens : Assoc Nat
  full1 : Nat
  full2 : Nat
  /-- Suppressed counts by code. -/
  suppressed : Assoc Nat
  /-- Events dropped since the buffer became full. -/
  droppedRun : Nat
  /-- Events from PD24 waiting while PD25 is off, oldest first (R578). -/
  aonQ : List LedgerRec
  /-- The archive's next page in its half (R583). -/
  archPage : Nat
  /-- Time of the last archive page program (R583). -/
  archAt : Option Nat
  /-- When each bucket last gained a token; an unlisted one counts from time 0 of the start (R580). -/
  tokenAt : Assoc Nat
  deriving DecidableEq, Repr

/-- The BIST controller beside its registers (19). -/
structure BistSt where
  /-- Elements still to run, lowest first, of the run in progress. -/
  todo : List Nat
  onCommand : Bool
  /-- Result records of the last run as (element, outcome, instance, failBits, data0, data1). -/
  results : List (List Nat)
  /-- Repair entries in force and found: 8-byte entries as numbers (Table 19-4). -/
  entries : List Nat
  /-- Pages used in each copy of the repair table, and the copy generations. -/
  pages : List Nat
  gens : List Nat
  /-- The number of the last run, and whether no start has yet written its Ledger entries (R575). -/
  run : Nat
  unreported : Bool
  deriving DecidableEq, Repr

/-- The Tollgate and the JTAG port beside their registers (18). -/
structure LcSt where
  /-- The outstanding challenge, 48 bytes (R552). -/
  chal : Option (List Nat)
  /-- Back-off of DEBUG_CHALLENGE until this time (R552). -/
  backoff : Nat
  /-- JTAG instruction in force (Table 18-9; IDCODE at TAP reset), boundary register, and the data register last presented (R560). -/
  ir : Nat
  bsr : Nat
  dr : Nat
  /-- FF_CAPTURE commands waiting for slot 0: (mailbox, Room, first Tile, count). -/
  captures : List (Nat × Nat × Nat × Nat)
  /-- Time of the outstanding challenge (R552), and of the halt of the Innkeeper under D2 (R558). -/
  chalAt : Nat
  haltAt : Nat
  deriving DecidableEq, Repr

/-- A host read or write piece of a Room window waiting or outstanding (R233). -/
structure WinPiece where
  room : Nat
  rid : Nat
  tag : Nat
  /-- Window request word and write data; reads carry no data. -/
  offset : Nat
  len : Nat
  read : Bool
  data : List Nat
  /-- A read piece sent to the Room and not answered. -/
  sent : Bool
  answer : Option (List Nat)
  /-- Time at which a read piece was sent. -/
  at_ : Nat
  deriving DecidableEq, Repr

/-- The Host Link beside its registers (07). -/
structure HlkSt where
  /-- PERST_N is low. -/
  perstLow : Bool
  /-- The readiness timeline runs since this time. -/
  timeline : Option Nat
  /-- Functions (bit 0 PF0, 1 PF1, 1 + v VF v): Bus Master Enable and D3hot. -/
  bme : Nat
  d3 : Nat
  vfEnable : Bool
  pmeEn : Bool
  /-- PME_Turn_Off and PME_TO_Ack completed since the link last trained (R245). -/
  pmeDone : Bool
  /-- Host settings in force: Device ID, Subsystem ID, Subsystem Vendor ID, vectors of PF1 and of each VF (R229). -/
  devId : Nat
  subId : Nat
  subVid : Nat
  vecPf1 : Nat
  vecVf : Nat
  /-- The committed HDM decoder: host base and size in bytes (R236); its Error Not Committed flag. -/
  hdmBase : Nat
  hdmSize : Nat
  hdmErr : Bool
  /-- Pages in DEVICE bias (R239). -/
  bias : Assoc Bool
  /-- The flip in progress: page, and whether it was cancelled (R241). -/
  flip : Option (Nat × Bool)
  /-- Window pieces in order (R233), and the next RID. -/
  win : List WinPiece
  ridNext : Nat
  /-- WAKE_N asserted. -/
  wakeN : Bool
  /-- Room port slots whose outbound transfer is being discarded up to its last word, by (8 × Room + port) × 256 + slot (R263). -/
  discard : Assoc Bool
  /-- The ring of each class granted last, and the grants to higher classes since a lower one began to wait (R268). -/
  drgLast : List Nat
  drgAge : Nat
  /-- MAX_RATE and MAX_WIDTH of the settings in force (byte 6 of the record, R229), and Memory_Info_Valid (R230). -/
  setRate : Nat
  memInfo : Bool
  /-- DRS has been sent in this readiness timeline (R225). -/
  drsSent : Bool
  /-- MSI-X Enable by function; masked vectors and Pending Bit Array, by 2,048 × function + vector (R231, R276). -/
  msixEn : Nat
  msixMask : Assoc Bool
  pba : Assoc Bool
  /-- Values of the seven BARs of Table 07-3. -/
  bars : List Nat
  /-- AER status by function and the CXL RAS status, one bit for each row of Table 07-8 (R247). -/
  aer : Assoc Nat
  ras : Nat
  deriving DecidableEq, Repr

/-- A descriptor taken by a ring (Table 08-3). -/
structure Desc where
  addr : Nat
  len : Nat
  tag : Nat
  irq : Bool
  chain : Bool
  mdata : List Nat
  deriving DecidableEq, Repr

/-- A completion entry (Table 08-4) before its PHASE is known. -/
structure RingCompl where
  user : List Nat
  tick : Nat
  tag : Nat
  len : Nat
  status : Nat
  ovr : Bool
  merged : Bool
  delayed : Bool
  ndesc : Nat
  fence : Bool
  irq : Bool
  gen : Nat
  /-- Its data writes (F2H) are done (R270). -/
  done : Bool
  /-- A ROOM_ACK word goes with it (R266). -/
  ack : Bool
  deriving DecidableEq, Repr

/-- An open transfer of a ring (R251, R262, R265): what its completion will say, and where its current buffer stands. -/
structure Xfer where
  /-- TAG of the first descriptor, descriptors taken, and whether any has IRQ set. -/
  tag : Nat
  n : Nat
  irq : Bool
  /-- Bus address and bytes left of the current buffer, and whether the transfer may continue into the next (R258). -/
  addr : Nat
  left : Nat
  chain : Bool
  user : List Nat
  haveMeta : Bool
  moved : Nat
  status : Nat
  gen : Nat
  /-- H2F: META of the first descriptor, bytes read with their poison marks, whether the chain is read to its end or failed. -/
  mdata : List Nat
  rd : List (Nat × Bool)
  complete : Bool
  deriving DecidableEq, Repr

/-- One ring beside its context registers (08); a ring has an entry while it is not DISABLED. -/
structure RingSt where
  /-- Descriptors taken from the host queue and not yet used, oldest first. -/
  descs : List Desc
  cur : Option Xfer
  /-- Completions held for their fence, oldest first (R270). -/
  held : List RingCompl
  /-- Completions and FENCE entries due to be posted, in order: they wait for data writes or for space in the CQ. -/
  due : List RingCompl
  /-- Completions a STANDBY Companion holds past slot 4, oldest first (R534). -/
  stby : List RingCompl
  /-- Odd passes of the CQ producer (R260): PHASE is 0. -/
  wrapped : Bool
  pending : Nat
  pendSince : Option Nat
  /-- Among the pending entries: one of a descriptor with IRQ, one of a fence release (R276). -/
  pendIrq : Bool
  pendFence : Bool
  /-- Generations of aborted operations whose writes have not left the Host Link (R255). -/
  inflight : List Nat
  /-- The port waits for a descriptor or CQ space (R263). -/
  stalled : Bool
  /-- Ticks of transfer entries posted before their fence (R254). -/
  early : List Nat
  deriving DecidableEq, Repr


/-- Who asked for a DRAM line, and what its service completes (R288). -/
inductive DSrc where
  /-- Room port write: the index of its acknowledgement record. -/
  | roomW (room port ack : Nat)
  /-- Room port read: the index of its read operation and the line's place in it. -/
  | roomR (room port op : Nat)
  /-- A write of another requester, by requester number. -/
  | other (n : Nat)
  deriving DecidableEq, Repr

/-- A queued or waiting DRAM request for one 64-byte line (R294). -/
structure DReq where
  write : Bool
  /-- DPA ÷ 64. -/
  line : Nat
  /-- Bytes written, or needed by a read (bit `k`: byte `k`). -/
  mask : Nat
  /-- Written bytes as a 512-bit number. -/
  data : Nat
  /-- The requests this entry serves: several once writes have merged. -/
  srcs : List DSrc
  poison : Bool
  /-- Time of acceptance into the queue (R295). -/
  at_ : Nat
  /-- Its row was opened by an ACT of its own (DMC_PERF). -/
  acted : Bool
  deriving DecidableEq, Repr

/-- One DRAM bank of a subchannel (R295 to R297). -/
structure BankSt where
  row : Option Nat
  lastRow : Option Nat
  /-- The predictor's decision awaits its training at the next request. -/
  train : Bool
  h : Nat
  c : List Nat
  lastUse : Nat
  deriving DecidableEq, Repr

/-- One subchannel (A0, A1, B0, B1): queues, mode, banks by 32 × rank + 4 × group + bank, neighbour refreshes, bad lines. -/
structure SubSt where
  rq : List DReq
  wq : List DReq
  wmode : Bool
  banks : Assoc BankSt
  nr : List (Nat × List Nat)
  bad : List Nat
  /-- Ranks in power-down and the time of each rank's last request (R304). -/
  pd : Nat
  rankUse : List Nat
  deriving DecidableEq, Repr

/-- A Room port's write transfer awaiting its acknowledgement (R292). -/
structure AckSt where
  id : Nat
  room : Nat
  port : Nat
  stream : Nat
  atag : Nat
  want : Bool
  status : Nat
  /-- Lines not yet written. -/
  left : Nat
  /-- The lines of the transfer. -/
  lines : List Nat
  deriving DecidableEq, Repr

/-- A Room port's read (R291). -/
structure ReadSt where
  id : Nat
  room : Nat
  port : Nat
  stream : Nat
  dpa : Nat
  words : Nat
  left : Nat
  /-- Lines served: (line, data, uncorrectable). -/
  got : List (Nat × Nat × Bool)
  deriving DecidableEq, Repr

/-- The DRAM Controller beside its registers (09). -/
structure DmcSt where
  subs : List SubSt
  /-- Requests waiting at the interconnect, oldest first (R293, R294, R308). -/
  wait : List DReq
  acks : List AckSt
  reads : List ReadSt
  nextId : Nat
  /-- A refresh group runs (R298). -/
  refActive : Bool
  /-- ZQCal Latch is due at the next refresh (R301). -/
  zqDue : Bool
  /-- The training in progress: 0 none, 1 FULL, 2 STORED, 3 a restore from self-refresh. -/
  training : Nat
  /-- Lines above the initialisation mark that have been written (R309). -/
  above : Assoc Bool
  /-- Refreshing has begun: a training has passed. -/
  ready : Bool
  /-- DFE taps of the last training (Table 09-4). -/
  dfe : List Nat
  /-- The requester served last at the interconnect (R14). -/
  lastReq : Nat
  /-- Time at which the debt last grew (R298). -/
  refAt : Nat
  /-- Units (2 × channel + rank) × 2 + subchannel that training found not fitted (R281, R317). -/
  absent : Nat
  /-- A read of a port that already has 64 outstanding: stream and request word, by 8 × Room + port (R291). -/
  readHold : Assoc (Nat × Nat)
  deriving DecidableEq, Repr

/-- One Room's part in a load session (R331, R333). -/
structure LoadRoom where
  room : Nat
  /-- Plane being written. -/
  plane : Nat
  /-- Groups received and programmed. -/
  recvd : Nat
  progd : Nat
  /-- Group buffers holding frame data, oldest first. -/
  bufs : List (List Nat)
  deriving DecidableEq, Repr

/-- A load session (R331 to R336). -/
structure LoadSt where
  declared : Nat
  /-- Image bytes taken in, as stored, in order. -/
  img : List Nat
  /-- Bytes of the LOAD_DATA in progress not yet taken in, and its mailbox key. -/
  inq : List Nat
  headerOk : Bool
  rooms : List LoadRoom
  /-- LOAD_CLOSE has been executed, and whether it asked for staging. -/
  closing : Bool
  stage : Bool
  verifying : Bool
  worn : Bool
  /-- When the last LOAD_DATA completed, or LOAD_OPEN (R334). -/
  since : Nat
  deriving DecidableEq, Repr

/-- The handover of a Room after a flip (R350, R351). -/
structure HandSt where
  /-- Trees (bit t) whose Doors are still clamped. -/
  trees : Nat
  /-- First tick whose boundary may release, or none for HOLD = 0. -/
  rel : Option Nat
  /-- Block work still running: bit 0 CELLAR_INIT, 1 LARDER_CLEAR, 2 PAB_CLEAR. -/
  work : Nat
  /-- Values of the pin slot Doors 3,840 to 3,967 held under PINS = 1. -/
  keep : Option Nat
  deriving DecidableEq, Repr

/-- Configuration planes, banks and changeover beside the CFG_ registers (10). -/
structure CfgSt where
  /-- Frame data by (2 × Room + plane or bank) × 8,192 + frame. -/
  planeFr : Assoc Nat
  bankFr : Assoc Nat
  /-- Plane frames that fail their own check (R361). -/
  planeBad : Assoc Bool
  /-- Write counters of plane frames (Table 10-5). -/
  planeCnt : Assoc Nat
  /-- HANDOVER byte by 2 × Room + plane. -/
  planeHand : Assoc Nat
  /-- Frame recorded as under refresh, plus 1, by 2 × Room + plane (R372). -/
  refreshing : Assoc Nat
  /-- Select words by Room (Table 10-5). -/
  sel : Assoc Nat
  /-- Bit r: latch bank 1 is Room r's active bank. -/
  actBank : Nat
  /-- Plane each bank was last filled from, by 2 × Room + bank (R359). -/
  bankSrc : Assoc Nat
  /-- Rooms whose active bank is being filled (R355, R500). -/
  filling : Nat
  /-- RAM maps by bank key (R366). -/
  ramMap : Assoc Nat
  /-- Banks holding an uncorrectable frame reported since STAGED (R341). -/
  uncorr : Nat
  load : Option LoadSt
  /-- Slot owners: 0 none, 1 a command, 2 the Sync Chain, 3 the twin. -/
  coOwner : List Nat
  /-- Tick opened by each slot's flip (R413). -/
  coTick : List Nat
  hand : Assoc HandSt
  /-- Rooms of a flip whose select words wait (R347). -/
  selDue : Nat
  /-- A Door table is staged, with its image's Rooms; its entries lie in `fab.ownStg`. -/
  tblStaged : Bool
  /-- A Door table has come into force (R352). -/
  tblForce : Bool
  /-- When the operation that runs on a latch bank ends, by 2 × Room + bank (R48); an unlisted bank is free. -/
  bankBusy : Assoc Nat
  deriving DecidableEq, Repr

/-- A reload of the Watchman (R362, R367). -/
structure Reload where
  room : Nat
  bank : Nat
  frame : Nat
  /-- Whole frame, or the RAM words of this mask only. -/
  whole : Bool
  words : Nat
  /-- The plane read is done. -/
  read : Bool
  deriving DecidableEq, Repr

/-- The Watchman beside its registers (11). -/
structure WchSt where
  /-- Next frame of each Room's pass: 0 to 7,679 of the active bank, then the staged bank. -/
  pos : List Nat
  /-- Rooms of the device pass in progress that have not completed it, and its start. -/
  passLeft : Nat
  passStart : Nat
  reloads : List Reload
  /-- Since when each Room's credit has been at the cap. -/
  capSince : List (Option Nat)
  /-- Banks whose RAM map is being rebuilt (2 × Room + bank). -/
  rebuilding : Nat
  /-- Forced operation: Room, bank role, frame (R377). -/
  forced : Option (Nat × Nat × Nat)
  /-- Margin pass: GO pass, groups read per Room, and a periodic pass that fell due during it. -/
  marginGo : Bool
  marginGrp : List Nat
  marginDue : Bool
  /-- Start of the last periodic pass, or Opening before the first; whether one has run since the start (R370). -/
  marginLast : Option Nat
  marginRan : Bool
  /-- HEARTBEAT as firmware last saw it change, and when (R376). -/
  hbSeen : Nat
  hbAt : Nat
  /-- Last Watchman outcome of the sampled frames, CLEAN by default: bank keys whose last outcome was not CLEAN. -/
  notClean : Assoc Bool
  /-- When each Room's credit last grew (R368). -/
  creditAt : List Nat
  deriving DecidableEq, Repr

/-- Work the firmware carries through several Pantry operations (R414). -/
structure PntJob where
  mbx : Nat
  bank : Nat
  /-- 0 PANTRY_PROGRAM, 1 PANTRY_ERASE, 2 FW_UPDATE. -/
  kind : Nat
  /-- Next offset in the bank, and bytes still to program. -/
  addr : Nat
  data : List Nat
  deriving DecidableEq, Repr

/-- One Pantry bank's engine (R428 to R432). -/
structure PntBank where
  /-- Offset of the page being programmed. -/
  prog : Nat
  /-- Next sector of the erase in progress, and sectors left. -/
  er : Nat
  erLeft : Nat
  /-- Bytes of the page being programmed. -/
  data : List Nat
  deriving DecidableEq, Repr

/-- Pantry and OTP beside their registers (13). -/
structure PntSt where
  banks : List PntBank
  jobs : List PntJob
  /-- Pages programmed since their sector's erase, by page number (both banks). -/
  programmed : Assoc Bool
  /-- Level of NVWP_N. -/
  nvwp : Bool
  /-- OTP program in progress: row, data, the command's mailbox plus 1. -/
  otp : Option (Nat × List Nat × Nat)
  /-- OTP shadow rows in force, by 128 × row + byte (R445). -/
  shadow : Assoc Nat
  deriving DecidableEq, Repr

/-- I/O banks and GPIO beside their registers (14). -/
structure IoSt where
  /-- Timed-output buffers by pin number: buffer index. -/
  buf : Assoc Nat
  /-- Pins whose conflict episode runs (R465). -/
  conflict : Assoc Bool
  /-- End of the last pulse of each timer (R468). -/
  timEnd : List (Option Nat)
  /-- Controllers with a transfer running. -/
  busy : Nat
  /-- Pins whose function's fabric claims hold them until the handover clamp is released (R464). -/
  claimed : Assoc Bool
  /-- Rise of each timer's last pulse, skipped ones included (R468). -/
  timRise : List (Option Nat)
  /-- The level last seen to be driven on a pin from outside (R466). -/
  ext : Assoc Bool
  /-- Filtered level of each interrupt line (R467). -/
  line : Nat
  /-- Rise and fall of the last fan-out pulse of each TRIG output (R469). -/
  fan : Assoc (Nat × Nat)
  /-- Start of each controller's running transfer (R470). -/
  perAt : Assoc Nat
  deriving DecidableEq, Repr

/-- The power controller beside its registers (15). -/
structure PwrSt where
  /-- Times of the events of R479. -/
  idleSince : Nat
  sleepSince : Nat
  evSince : Nat
  /-- The scheduled wake of the state chosen (R480). -/
  schedWake : Option Nat
  /-- A vote: its target state and the participants that have answered STOPPED (R481). -/
  vote : Option (Nat × Nat)
  /-- Vote decided at this time; back-off until this time. -/
  voteAt : Nat
  backoff : Option Nat
  /-- A committed entry: target state (R483); a wake held meanwhile, with its cause. -/
  entering : Option Nat
  held : Option Nat
  /-- A wake in progress: its cause, time, and the state left. -/
  waking : Option (Nat × Nat × Nat)
  /-- Rooms that were ACTIVE at entry (R489), and Line Assembler enables (R481). -/
  wasActive : Nat
  /-- Retention signature words by bank (R486). -/
  sig : List Nat
  /-- Reference position of the Night Porter (R492). -/
  npRef : Int
  /-- Time of the Night Porter's last sample, or of its start (R492). -/
  npAt : Nat
  /-- Output enable and value of every pin held since the last STOP of a vote for DEEP SLEEP (R475). -/
  padHold : Option (List (Bool × Bool))
  /-- The last wake's report (R487, R490). -/
  repState : Nat
  repFailed : Nat
  repCold : Nat
  repTime : Nat
  deriving DecidableEq, Repr

/-- The start sequence (16). -/
structure BootSt where
  /-- DEV_OPEN (R508). -/
  opened : Bool
  /-- OPEN pin; CFG_ERR_N driven low. -/
  failed : Bool
  /-- Reset kind of the last start (Table 16-1) and its time 0. -/
  kind : Nat
  time0 : Nat
  /-- A supply is out of limits: the start waits for it (R594). -/
  supplyBad : Bool
  /-- PUDC_N as taken (R501). -/
  pudc : Bool
  /-- Journal: START_SEQ of this start, next page in its half, half in use. -/
  seq : Nat
  page : Nat
  half : Nat
  /-- Step 5: 0 not run, 1 running STORED, 2 running FULL, 3 passed, 4 failed. -/
  dram : Nat
  /-- Itinerary record read (step 7): 0 no, 1 valid, 2 treated as empty. -/
  itin : Nat
  /-- REQUIRED mask and DRAM_REQUIRED in force. -/
  required : Nat
  dramReq : Bool
  /-- Rooms whose fill failed, and Rooms on METHOD 1 already. -/
  fillFail : Nat
  alt : Nat
  /-- First step that failed; a closing entry has been written. -/
  failStep : Nat
  closed : Bool
  /-- Powered at all (between POWER_LOSS and POWER_ON: no). -/
  powered : Bool
  deriving DecidableEq, Repr

/-- A tick record as sent or received (Table 17-3). -/
structure TwnRec where
  tick : Nat
  closed : Nat
  flags : Nat
  part : Nat
  ovr : Nat
  divofs : Nat
  digest : List Nat
  ckpt : Nat
  deriving DecidableEq, Repr

/-- The twin beside its registers (17). -/
structure TwnSt where
  mc : McSt
  /-- TWIN_SYNC's round trips, CRC failures, CAL messages used (R516). -/
  trips : List Nat
  crcRun : Nat
  calSeen : Nat
  calAt : Option Nat
  /-- A message has failed its CRC since the last STATUS sent (Table 03-5). -/
  crcSeen : Bool
  /-- Deadline of a tick whose threshold the shadow divider has crossed, and the tick its next crossing belongs to (R522). -/
  deadline : Option (Nat × Nat)
  shadowTick : Option Nat
  /-- One-way delay to the Companion, 3.90625 ps units. -/
  hopDly : Nat
  /-- Times of the last TWIN_SYNC message, tick record and status frame. -/
  lastSync : Nat
  lastRec : Nat
  lastStat : Nat
  /-- Highest tick of a record from the partner. -/
  recTick : Option Nat
  /-- Consecutive substituted events (R531), and TWN_SYNC_LOST written. -/
  substRun : Nat
  syncLost : Bool
  /-- The boundary in progress was substituted (Table 17-3). -/
  substNow : Bool
  /-- Own records waiting for comparison, and the partner's, oldest first; Rooms in a run of mismatches (R526). -/
  own : List TwnRec
  theirs : List TwnRec
  misRun : Nat
  /-- First tick of which records are made (R536). -/
  from_ : Nat
  /-- A loss declared takes effect at the next boundary; a role swap at the boundary after T (R532, R533, R537). -/
  takeDue : Bool
  swapDue : Bool
  /-- Checkpoint in progress, and those waiting to start after it (R528). -/
  ckpt : Option Nat
  ckptWait : List Nat
  /-- Identifier of the pairing under way (0 none), and its steps 3 to 5 done (R536). -/
  pairMode : Nat
  pairReady : Bool
  /-- TRIG drivers left high-impedance after a detach (Table 17-6). -/
  trigHiZ : Bool
  /-- Forward position at the Lead's time of record of a tick, with that tick, newest first (R521). -/
  leadPos : List (Nat × Int)
  /-- Mode, role, tick source and engine enable before the action of a mode change (R107). -/
  undo : Option (Nat × Nat × Nat × Nat)
  deriving DecidableEq, Repr

/-- The machine. -/
structure State where
  /-- Commands waiting, first in first out. -/
  pending : List Instr
  /-- Register fields by 32 × IAS address + lowest bit; an unlisted field holds its reset value. -/
  regs : Assoc Nat
  /-- Values in force of Boundary fields written and waiting (R54). -/
  held : Assoc Nat
  /-- _HI halves latched by a read of their _LO register, by address. -/
  hiLatch : Assoc Nat
  /-- What the part has driven outward, oldest first (the model's own field, DESIGN CHOICE, log entry 6). -/
  out : List Out
  /-- Free values used so far (the model's own field, DESIGN CHOICE, log entry 3). -/
  freeCount : Nat
  tick : TickSt
  msu : MsuSt
  syc : SycSt
  fab : FabSt
  ing : IngSt
  hlk : HlkSt
  /-- Ring state by ring number. -/
  rings : Assoc RingSt
  dmc : DmcSt
  /-- DRAM bytes by 64 × device line + byte (R285); unlisted bytes read 0 (DESIGN CHOICE, log entry 2). -/
  dram : Assoc Nat
  /-- Device lines stored poisoned or left uncorrectable (R312). -/
  dramBad : Assoc Bool
  cfg : CfgSt
  wch : WchSt
  kmi : KmiSt
  /-- Pantry bytes; an unlisted byte is erased and reads 0xFF (R425). -/
  pantry : Assoc Nat
  /-- OTP bytes by 128 × row + byte; blank bytes read 0 (R441). -/
  otp : Assoc Nat
  pnt : PntSt
  io : IoSt
  pwr : PwrSt
  boot : BootSt
  twn : TwnSt
  lc : LcSt
  bist : BistSt
  ldg : LedgerSt
  deriving DecidableEq, Repr

/-! ### Reset values -/

/-- Register fields whose reset value differs between the registers of one row: the home bits of DMC_MAP_x for the
configuration at reset, 16 Gb ×8 devices of one rank on two channels, and 0 for the rank mask that it does not have
(Table 09-7, R284). -/
def resetRegs : Assoc Nat :=
  [(Reg.DMC_MAP_LO_MASK.key 0 0, 2 ^ 6), (Reg.DMC_MAP_LO_MASK.key 1 0, 2 ^ 7), (Reg.DMC_MAP_LO_MASK.key 2 0, 2 ^ 14),
   (Reg.DMC_MAP_LO_MASK.key 3 0, 2 ^ 15), (Reg.DMC_MAP_LO_MASK.key 4 0, 2 ^ 16), (Reg.DMC_MAP_LO_MASK.key 5 0, 2 ^ 17),
   (Reg.DMC_MAP_LO_MASK.key 6 0, 2 ^ 18)]

/-- A mode change with nothing armed and nothing open. -/
def McSt.idle : McSt :=
  { armMask := 0, armSwitch := false, armSlot := none, armMode := 0, isOpen := false, t := 0, mode := 0, seq := 0, committed := false
    acted := false, switched := false, flipped := false, recommitted := false, decision := 0, decTarget := 0, atTick := none, phase := 0
    op := 0, opTarget := 0, opUntil := 0, clamp := 0, stats := [], watch := none, localReq := 0 }

/-- An encoder channel at reset: position 0, no run (R69). -/
def EncSt.init : EncSt :=
  { a := false, b := false, p := 0, k := 0, stamps := [], sinceZ := none, zStamp := 0, stampA := none, stampB := none, since := 0 }

/-- A Line Assembler at reset. -/
def LasSt.init : LasSt := ⟨[], 0, none, [], 0, 0, 0, 0, 0, 0, 0, [], [], none, [], true, none⟩

/-- A subchannel at reset. -/
def SubSt.init : SubSt := ⟨[], [], false, [], [], [], 0, [0, 0]⟩

/-- A bank at reset: history 0b1111 and counters at 2 (R297). -/
def BankSt.init : BankSt := ⟨none, none, false, 15, List.replicate 16 2, 0⟩

/-- The twin at reset: ALONE, nothing received. -/
def TwnSt.init : TwnSt :=
  { mc := McSt.idle, trips := [], crcRun := 0, calSeen := 0, calAt := none, crcSeen := false, deadline := none, shadowTick := none, hopDly := 0
    lastSync := 0, lastRec := 0, lastStat := 0, recTick := none, substRun := 0, syncLost := false, substNow := false, own := [], theirs := []
    misRun := 0, from_ := 0, takeDue := false, swapDue := false, ckpt := none, ckptWait := [], pairMode := 0, pairReady := false
    trigHiZ := false, leadPos := [], undo := none }

/-- The machine right after POWER_ON reset, before its first event (R497, R498): every register at its reset value, blank
non-volatile stores, domains on, before Opening. -/
def State.reset : State :=
  { pending := [], regs := resetRegs, held := [], hiLatch := [], out := [], freeCount := 0
    tick := { firstDue := true, tickOpen := false, b := 0, lastAccepted := 0, opened := 0, prior := none, prevStamp := none, part := 0
              lateDone := 0, rest := false, closed := 0, ovrPrev := 0, timerAnchor := none, timerWrite := none, curfew := 0 }
    msu := { enc := List.replicate 8 EncSt.init, crossed := false, sched := none, setAtPps := false, everLocked := false, critSince := none
             ppsSince := none, ppsAt := 0, trig := List.replicate 16 ⟨[], none⟩ }
    syc := { trips := [], crcRun := 0, lastMsg := 0, calSeen := 0, calAt := none, owed := none, crcSeen := false, masterHold := false
             mc := McSt.idle }
    fab := { slices := [], way := [], clk := 0, ltick := 0, mergedTap := 0, portQ := [], portSkid := [], isoRec := [], door := [], doorHid := []
             ownTbl := [], ownStg := [], ownStgRooms := 0, mgmtCtl := [], pllCtl := List.replicate 16 0, pllOut := List.replicate 16 0
             pllLocked := 0, owesCommit := 0, cellar := [], ppSel := [], ppHalf := [], larder := [], ports := [], pab := [], portsOn := 0, sbe := []
             cellarInit := 0 }
    ing := ⟨List.replicate 16 LasSt.init, [], []⟩
    hlk := ⟨false, none, 0, 0, false, false, false, 0, 0, 0, 0, 0, 0, 0, false, [], none, [], 0, false, [], [0, 0, 0, 0], 0, 0, false, false, 0, [], [], List.replicate 7 0, [], 0⟩
    rings := []
    dmc := ⟨List.replicate 4 SubSt.init, [], [], [], 0, false, false, 0, [], false, [], 0, 0, 0, []⟩
    dram := [], dramBad := []
    cfg := ⟨[], [], [], [], [], [], [], 0, [], 0, [], 0, none, [0, 0, 0, 0], [0, 0, 0, 0], [], 0, false, false, []⟩
    wch := ⟨List.replicate 24 0, 0, 0, [], List.replicate 24 none, 0, none, false, List.replicate 24 0, false, none, false, 0, 0, [], List.replicate 24 0⟩
    kmi := ⟨List.replicate 16 ⟨none, none, 0⟩, [], [], [], [], 0, 0, 0, 0, [], [], [], 0⟩
    pantry := [], otp := []
    pnt := ⟨[⟨0, 0, 0, []⟩, ⟨0, 0, 0, []⟩], [], [], false, none, []⟩
    io := ⟨[], [], List.replicate 8 none, 0, [], List.replicate 8 none, [], 0, [], []⟩
    pwr := ⟨0, 0, 0, none, none, 0, none, none, none, none, 0, List.replicate 8 0, 0, 0, none, 0, 0, 0, 0⟩
    boot := ⟨false, false, 1, 0, false, false, 0, 0, 0, 0, 0, 0, false, 0, 0, 0, false, true⟩
    twn := TwnSt.init
    lc := ⟨none, 0, 1, 0, 0, [], 0, 0⟩
    bist := ⟨[], false, [], [], [0, 0], [0, 0], 0, false⟩
    ldg := ⟨[], [], 16, 4, [], 0, [], 0, none, []⟩ }

end Sys2Proof.Machine
end

