-- ==== Sys2Proof/Machine/Ops.lean ====
section
/-! DEFINITION. The named operations every family uses: reading and writing register fields, Boundary fields (R54), the
time counter and TICKNO, outward effects, free values, the Ledger (R576 to R581) and event records (R401). -/

namespace Sys2Proof.Machine

open Reg

/-! ### Outcomes -/

/-- A command that completes. -/
abbrev ok (s : State) : Host.Outcome State Fault Refusal := .next s

/-- A command naming a unit: it completes where the unit exists and faults where the spec gives no such unit. -/
def onUnit (exists_ : Bool) (s : State) : Host.Outcome State Fault Refusal :=
  if exists_ then .next s else .fault .noSuchUnit

/-! ### Register fields -/

/-- The value of a field of the register with indices `i`, `j`: its reset value where nothing else is listed. -/
def State.get2 (s : State) (f : Fld) (i j : Nat) : Nat := Assoc.get f.reset (f.key i j) s.regs

/-- The value of a field of an indexed register. -/
def State.geti (s : State) (f : Fld) (i : Nat) : Nat := s.get2 f i 0

/-- The value of a field. -/
def State.get (s : State) (f : Fld) : Nat := s.get2 f 0 0

/-- Write a field, keeping its width. -/
def State.set2 (s : State) (f : Fld) (i j v : Nat) : State :=
  { s with regs := Assoc.write f.reset (f.key i j) (v % 2 ^ f.width) s.regs }

/-- Write a field of an indexed register. -/
def State.seti (s : State) (f : Fld) (i v : Nat) : State := s.set2 f i 0 v

/-- Write a field. -/
def State.set (s : State) (f : Fld) (v : Nat) : State := s.set2 f 0 0 v

/-- A one-bit field as a truth value. -/
def State.flag (s : State) (f : Fld) : Bool := s.get f == 1

/-- A one-bit field of an indexed register as a truth value. -/
def State.flagi (s : State) (f : Fld) (i : Nat) : Bool := s.geti f i == 1

/-- Count one in a saturating field of an indexed register. -/
def State.inci (s : State) (f : Fld) (i : Nat) : State := s.seti f i (satInc f.top (s.geti f i))

/-- Count one in a saturating field. -/
def State.inc (s : State) (f : Fld) : State := s.inci f 0

/-- Count `n` in a saturating field of an indexed register. -/
def State.addi (s : State) (f : Fld) (i n : Nat) : State := s.seti f i (satAdd f.top (s.geti f i) n)

/-- Set bit `b` of a field. -/
def State.orBit (s : State) (f : Fld) (b : Nat) : State := s.set f (setBit (s.get f) b)

/-- The value of a Boundary field that is in force: the one before a write that still waits (R54). -/
def State.inForcei (s : State) (f : Fld) (i : Nat) : Nat := (Assoc.find? (f.key i 0) s.held).getD (s.geti f i)

/-- The value in force of a Boundary field. -/
def State.inForce (s : State) (f : Fld) : Nat := s.inForcei f 0

/-- A write of a field by an IAS write: a Boundary field written while TCK_CTRL.EN is 1 keeps its old value in force until
slot 0 of the next boundary (R54). -/
def State.swWrite (s : State) (f : Fld) (i j v : Nat) : State :=
  let s1 := s.set2 f i j v
  if f.boundary && s.flag TCK_CTRL_EN then
    match Assoc.find? (f.key i j) s.held with
    | some _ => s1
    | none => { s1 with held := Assoc.put (f.key i j) (s.get2 f i j) s1.held }
  else s1

/-- Every waiting Boundary setting takes effect (R54). -/
def State.boundaryCommit (s : State) : State := { s with held := [] }

/-! ### Time, ticks, outward effects, free values -/

/-- The time counter (R81). -/
def State.now (s : State) : Nat := s.get MSU_TIME_LO + 2 ^ 32 * s.get MSU_TIME_HI

/-- The time counter reaches `t`. -/
def State.setNow (s : State) (t : Nat) : State := (s.set MSU_TIME_LO t).set MSU_TIME_HI (t / 2 ^ 32)

/-- Time `a` is at or after time `b`: the difference modulo 2⁶⁴, read as signed (R81). -/
def timeGe (a b : Nat) : Bool := decide ((a + (2 ^ 64 - b % 2 ^ 64)) % 2 ^ 64 < 2 ^ 63)

/-- The time counter has reached `t`, where it is not past it. -/
def State.reach (s : State) (t : Nat) : State := if timeGe t s.now then s.setNow t else s

/-- TICKNO (R31). -/
def State.tickno (s : State) : Nat := s.get TCK_TICKNO_LO + 2 ^ 32 * s.get TCK_TICKNO_HI

/-- TICKNO becomes `n`, modulo 2⁴⁸ (R31). -/
def State.setTickno (s : State) (n : Nat) : State := (s.set TCK_TICKNO_LO n).set TCK_TICKNO_HI (n / 2 ^ 32)

/-- Record an outward effect. -/
def State.emit (s : State) (o : Out) : State := { s with out := s.out ++ [o] }

/-- The next free value, and the state in which it is used up (DESIGN CHOICE, log entry 3). -/
def State.fresh (s : State) : Nat × State := (Config.free s.freeCount, { s with freeCount := s.freeCount + 1 })

/-- IDLE quiet begins again (R479). -/
def State.touchIdle (s : State) : State := { s with pwr := { s.pwr with idleSince := s.now } }

/-- SLEEP quiet begins again (R479). -/
def State.touchSleep (s : State) : State := { s with pwr := { s.pwr with sleepSince := s.now } }

/-- Participant `p` of Table 15-4 has stopped: it has answered STOPPED in the vote, an entry has committed, or a state deeper than IDLE
is in force (R481, R483). -/
def State.partStopped (s : State) (p : Nat) : Bool :=
  (match s.pwr.vote with
   | some (_, n) => decide (p ≤ n)
   | none => false) || s.pwr.entering.isSome || decide (2 ≤ s.get PWR_STATE_CUR)

/-- Power domain `d` is powered (R22). -/
def State.domOn (s : State) (d : Nat) : Bool := bitB (s.get PWR_DOM_ON) d

/-- The Room's power domain is on (R16: Room `r` is PD `r`). -/
def State.roomOn (s : State) (r : Nat) : Bool := s.domOn r

/-- The Room has a VALID active bank: its active bank is ACTIVE (R321). -/
def State.roomActive (s : State) (r : Nat) : Bool := s.geti CFG_ROOM_STAT_ACT_BANK r == 3

/-- Bits of a Room mask set where a test holds, over the 24 Rooms. -/
def roomMask (p : Nat → Bool) : Nat := maskOf ((List.range 24).filter p)

/-! ### The Ledger (19) -/

/-- An MSI-X vector of a function is signalled (R276; masking and the PBA follow the PCIe specification): sent where MSI-X is enabled and the vector is
not masked, pending while it is masked. -/
def State.msix (s : State) (fn vec : Nat) : State :=
  if !bitB s.hlk.msixEn fn then s
  else if Assoc.get false (2048 * fn + vec) s.hlk.msixMask then
    { s with hlk := { s.hlk with pba := Assoc.write false (2048 * fn + vec) true s.hlk.pba } }
  else s.emit (.msix fn vec)

/-- The rate-limit class of a code (Table 19-6); an unlisted code is class 0 (R577). -/
def ledgerClass (code : Nat) : Nat :=
  if code % 256 = 255 then 2
  else if code = 0x0101 then 1
  else if code = 0x0102 ∨ code = 0x0201 ∨ code = 0x0301 ∨ code = 0x0302 then 2
  else if code = 0x0303 then 1
  else if code = 0x0304 then 2
  else if 0x0305 ≤ code ∧ code ≤ 0x0309 then 1
  else if 0x0401 ≤ code ∧ code ≤ 0x0403 then 1
  else if code = 0x0503 then 2
  else if 0x0501 ≤ code ∧ code ≤ 0x0504 then 1
  else if code = 0x0505 then 2
  else if code = 0x0604 then 2
  else if code = 0x0710 then 2
  else if 0x0711 ≤ code ∧ code ≤ 0x0719 then 1
  else if code = 0x0805 then 2
  else if 0x0801 ≤ code ∧ code ≤ 0x0807 then 1
  else if 0x0901 ≤ code ∧ code ≤ 0x0903 then 1
  else if code = 0x0B01 ∨ code = 0x0B02 then 2
  else if code = 0x0C03 then 2
  else if code = 0x0C01 ∨ code = 0x0C02 then 1
  else 0

/-- BURST of a class; 0 acts as 1 (Table 19-9). -/
def State.burst (s : State) (cls : Nat) : Nat :=
  max 1 (if cls = 1 then s.get LDG_CLASS1_BURST else s.get LDG_CLASS2_BURST)

/-- Tokens held by a code's bucket (R580). -/
def State.tokensOf (s : State) (code : Nat) : Nat :=
  Assoc.get (if ledgerClass code = 1 then s.ldg.full1 else s.ldg.full2) code s.ldg.tokens

/-- Post an event record in mailbox 15, or count it as LOST while 120 are unread (R401). -/
def State.event (s : State) (code group e0 e1 : Nat) : State :=
  let unread := (s.kmi.evtCount + (2 ^ 32 - s.kmi.evtAck % 2 ^ 32)) % 2 ^ 32
  if unread = 120 then
    { s with kmi := { s.kmi with evtLost := satInc 0xFFFF s.kmi.evtLost } }
  else
    let r : EvtRec := ⟨s.kmi.evtCount, code, group, s.tickno, e0, e1⟩
    let s1 := { s with kmi := { s.kmi with
      events := (s.kmi.events ++ [r]).drop (s.kmi.events.length + 1 - 120),
      evtCount := (s.kmi.evtCount + 1) % 2 ^ 32 } }
    if unread = 0 then s1.msix 0 15 else s1

/-- Append a record: it takes the next SEQ (R577). -/
def State.ledgerAppend (s : State) (code flags tick supp time detail : Nat) : State :=
  let seq := s.get LDG_HEAD_SEQ
  let r : LedgerRec := ⟨seq, code, flags + (if supp = 0 then 0 else 2), tick, supp, time, detail⟩
  let s1 := { s with ldg := { s.ldg with buf := s.ldg.buf ++ [r] } }
  let s2 := if s.ldg.buf.isEmpty then s1.set LDG_TAIL_SEQ seq else s1
  (s2.set LDG_HEAD_SEQ (seq + 1)).set LDG_STAT_HELD (s.ldg.buf.length + 1)

/-- Take an event that reached the Ledger: rate limit (R580), full buffer (R581), record (R576). -/
def State.ledgerTake (s : State) (code flags tick time detail : Nat) : State :=
  let cls := ledgerClass code
  if cls ≠ 0 ∧ s.tokensOf code = 0 then
    { s with ldg := { s.ldg with suppressed := Assoc.put code (satInc 0xFFFF (Assoc.get 0 code s.ldg.suppressed)) s.ldg.suppressed } }.inc
      LDG_CNT_SUPPRESSED
  else
    let s := if cls = 0 then s else { s with ldg := { s.ldg with tokens := Assoc.put code (s.tokensOf code - 1) s.ldg.tokens } }
    let s :=
      if s.ldg.droppedRun ≠ 0 ∧ s.ldg.buf.length < 1020 then
        let s1 := s.ledgerAppend 0x0808 0 s.tickno 0 s.now s.ldg.droppedRun
        ({ s1 with ldg := { s1.ldg with droppedRun := 0 } }).set LDG_STAT_FULL 0
      else s
    if s.ldg.buf.length < 1020 then
      let supp := Assoc.get 0 code s.ldg.suppressed
      let s1 := s.ledgerAppend code flags tick supp time detail
      { s1 with ldg := { s1.ldg with suppressed := Assoc.del code s1.ldg.suppressed } }
    else
      let s1 := ({ s with ldg := { s.ldg with droppedRun := s.ldg.droppedRun + 1 } }).inc LDG_CNT_DROPPED
      if s.flag LDG_STAT_FULL then s1
      else (s1.set LDG_STAT_FULL 1).event 0x0007 0x08 s.ldg.buf.length 0

/-- An event for the Ledger: taken at once while PD25 is on, queued in AON while it is off (R578). -/
def State.ledger (s : State) (code detail : Nat) : State :=
  if s.domOn 25 then
    if s.flag LDG_CTRL_EN then s.ledgerTake code 0 s.tickno s.now detail else s
  else if s.ldg.aonQ.length < 16 then
    ({ s with ldg := { s.ldg with aonQ := s.ldg.aonQ ++ [(⟨0, code, 1, s.tickno, 0, s.now, detail⟩ : LedgerRec)] } }).set LDG_AONQ_HELD
      (s.ldg.aonQ.length + 1)
  else s.inc LDG_AONQ_LOST

/-- A refused register write of an opcode group: Ledger entry REG_IGNORED with the IAS address (Table 19-6). -/
def State.regIgnored (s : State) (group addr : Nat) : State := s.ledger (group * 256 + 255) addr

end Sys2Proof.Machine
end

