-- ==== Sys2Proof/Machine/Kmi.lean ====
section
/-! DEFINITION. The mailbox interface (12): command format (R391, R393), permissions (R557), starting a posted command in
order (R398, R399), completing it (R394), the stale completion of an abandoned one (R396), and the doorbell events. -/

namespace Sys2Proof

open Sys2Proof.Machine

/-- The HOSTBUF flag of a command (Table 12-4). -/
def KmiCmd.hostBuf (c : KmiCmd) : Bool := bitB c.flags 1

/-- The opcode group of a command. -/
def KmiCmd.group (c : KmiCmd) : Nat := c.opcode / 256

/-- Generation of a command's TAG (R395). -/
def KmiCmd.gen (c : KmiCmd) : Nat := bits c.tag 15 12

end Sys2Proof

namespace Sys2Proof.Machine

open Reg

/-! ### Status values (Table 12-9) -/

/-- OK. -/
def stOk : Nat := 0
/-- BUSY. -/
def stBusy : Nat := 1
/-- BAD_ARG. -/
def stBadArg : Nat := 2
/-- BAD_STATE. -/
def stBadState : Nat := 3
/-- REFUSED_LC. -/
def stRefusedLc : Nat := 4
/-- REFUSED_DEBUG. -/
def stRefusedDebug : Nat := 5
/-- RESOURCE_HELD. -/
def stHeld : Nat := 6
/-- SELF_BANK. -/
def stSelfBank : Nat := 7
/-- DEADLINE. -/
def stDeadline : Nat := 8
/-- STALE_TAG. -/
def stStale : Nat := 9
/-- AUTH_FAIL. -/
def stAuthFail : Nat := 10
/-- NOT_STAGED. -/
def stNotStaged : Nat := 11
/-- NOT_VALID. -/
def stNotValid : Nat := 12
/-- WORN. -/
def stWorn : Nat := 13
/-- HW_FAULT. -/
def stHwFault : Nat := 14

/-! ### The catalogue (R406) -/

/-- The opcodes of Kilax 2.4 (Tables 12-10 to 12-21). -/
def kmiOpcodes : List Nat :=
  [0x0101, 0x0102, 0x0103, 0x0104, 0x0201,
   0x0301, 0x0302, 0x0303, 0x0310, 0x0311, 0x0320, 0x0321, 0x0322, 0x0323, 0x0324, 0x0325,
   0x0401, 0x0402, 0x0403, 0x0404, 0x0405, 0x0406,
   0x0501, 0x0502, 0x0503, 0x0504, 0x0505, 0x0506, 0x0507, 0x0508] ++
  [0x0601, 0x0602, 0x0603, 0x0604, 0x0605, 0x0606,
   0x0701, 0x0702, 0x0703, 0x0704, 0x0705, 0x0706, 0x0707, 0x0708, 0x0709, 0x0710, 0x0711,
   0x0801, 0x0802, 0x0803, 0x0804, 0x0810, 0x0811, 0x0812, 0x0813, 0x0818, 0x0819, 0x0820, 0x0821, 0x0828, 0x0829] ++
  [0x0901, 0x0902, 0x0903, 0x0904, 0x0905,
   0x0A01, 0x0A02, 0x0A03, 0x0A04, 0x0A05, 0x0A06, 0x0A07, 0x0A08,
   0x0B01, 0x0B02, 0x0B03, 0x0B04, 0x0B05, 0x0B06,
   0x0C01, 0x0C02, 0x0C03, 0x0C04, 0x0C05, 0x0C06]

/-- Exclusive commands (R399): LC_ADVANCE, SCRAP, KEY_PROVISION, OTP_PROGRAM, BIST_RUN with NOW. -/
def kmiExclusive (c : KmiCmd) : Bool :=
  c.opcode == 0x0A02 || c.opcode == 0x0A07 || c.opcode == 0x0A06 || c.opcode == 0x0819 ||
  (c.opcode == 0x0828 && bitB c.a0 16)

/-- RAW_READ and RAW_WRITE, which are ordered against every command (R399). -/
def kmiRaw (c : KmiCmd) : Bool := c.opcode == 0x0803 || c.opcode == 0x0804

/-- The register commands of R403. -/
def kmiRegOps : List Nat :=
  [0x0301, 0x0302, 0x0310, 0x0311, 0x0320, 0x0321, 0x0401, 0x0402, 0x0403, 0x0404, 0x0501, 0x0502, 0x0507, 0x0508, 0x0601, 0x0602] ++
  [0x0710, 0x0711, 0x0901, 0x0902, 0x0B01, 0x0B02, 0x0C01, 0x0C02, 0x0C03, 0x0C04]

/-- The bits of A0, A1 and A2 that carry a command's arguments (Tables 12-10 to 12-21). The other bits of such a word are reserved;
a word that carries no argument is not checked (DEDUCED, log entry 26). -/
def kmiArgMask (op : Nat) : Nat × Nat × Nat :=
  let any := 2 ^ 64 - 1
  let tick := 2 ^ 48 - 1
  if kmiRegOps.contains op then (2 ^ 24 - 1, any, any)
  else match op with
  | 0x0101 => (31, any, any)
  | 0x0102 => (31, 2 ^ 32 - 1, any)
  | 0x0103 | 0x0104 | 0x0405 | 0x0406 => (15, any, any)
  | 0x0201 => (0x11F, any, any)
  | 0x0322 => (2 ^ 17 - 1, 2 ^ 24 - 1, any)
  | 0x0324 => (2 ^ 16 - 1, tick, any)
  | 0x0325 | 0x0606 | 0x0703 => (1, any, any)
  | 0x0503 => (2 ^ 37 - 1, 2 ^ 10 - 1, any)
  | 0x0504 => (2 ^ 21 - 1, any, any)
  | 0x0505 => (tick, 0x3F + 0x7FF * 2 ^ 16 + 0x7FF * 2 ^ 32, any)
  | 0x0506 => (2 ^ 15 - 1 + 7 * 2 ^ 16, any, any)
  | 0x0604 => (2 ^ 37 - 1, 2 ^ 24 - 1, any)
  | 0x0605 => (2 ^ 37 - 1, any, any)
  | 0x0701 => (any, 2 ^ 16 - 1, any)
  | 0x0705 | 0x0B06 => (2 ^ 24 - 1, any, any)
  | 0x0706 => (2 ^ 24 - 1, tick, 2 ^ 32 - 1)
  | 0x0707 => (2 ^ 24 - 1, tick, any)
  | 0x0708 | 0x0A03 | 0x0A04 => (3, any, any)
  | 0x0709 => (31, any, any)
  | 0x0803 => (tick, any, any)
  | 0x0804 => (2 ^ 32 - 1, any, any)
  | 0x0810 => (2 ^ 25 - 1, 2 ^ 24 - 1, any)
  | 0x0811 => (2 ^ 25 - 1, any, any)
  | 0x0812 => (2 ^ 25 - 1, 2 ^ 13 - 1, any)
  | 0x0818 | 0x0819 => (63, any, any)
  | 0x0820 => (2 ^ 32 - 1, 2 ^ 16 - 1, any)
  | 0x0828 => (2 ^ 17 - 1, any, any)
  | 0x0903 | 0x0A02 => (7, any, any)
  | 0x0904 => (2 ^ 24 - 1, 1, any)
  | 0x0A06 => (255, any, any)
  | 0x0A08 => (31, 2 ^ 17 - 1, 2 ^ 17 - 1)
  | 0x0B03 => (3, tick, any)
  | 0x0B04 => (any, tick, any)
  | 0x0B05 => (1, tick, any)
  | 0x0C05 => (2 ^ 10 - 1 + 0x1FF * 2 ^ 16, any, any)
  | 0x0C06 => (15 + 0xFFFF * 2 ^ 16, any, any)
  | _ => (any, any, any)

/-- No reserved argument bit of a command is set (R393). -/
def kmiArgsOk (c : KmiCmd) : Bool :=
  let m := kmiArgMask c.opcode
  c.a0 ||| m.1 == m.1 && c.a1 ||| m.2.1 == m.2.1 && c.a2 ||| m.2.2 == m.2.2

/-- A command whose reserved bits, opcode and lengths are as R391 and R393 ask. -/
def kmiWellFormed (c : KmiCmd) : Bool :=
  kmiOpcodes.contains c.opcode && kmiArgsOk c && decide (c.flags < 4) && c.rsvd == 0 &&
  (if c.hostBuf then decide (c.argLen ≤ 16777216) && decide (c.argLen ≤ c.hostLen) else decide (c.argLen ≤ 3840)) &&
  decide (c.resMax ≤ 3840) && c.dataIn.length == c.argLen

/-! ### Permissions (18) -/

/-- What a facility needs in a life-cycle state (Table 18-7): a debug level (0 open), or it is refused. -/
inductive Need where
  | level (n : Nat)
  | never
  deriving DecidableEq, Repr

/-- A Pantry range that lies in user data (Table 13-1). -/
def pantryUserData (addr len : Nat) : Bool :=
  decide (0x800000 ≤ addr % 2 ^ 24) && decide (addr % 2 ^ 24 + len ≤ 2 ^ 24)

/-- The need of a command of the catalogue in life-cycle state `st` (Table 18-7; "any" and "—" of R406). -/
def kmiNeed (c : KmiCmd) (st : Nat) : Need :=
  let op := c.opcode
  if op = 0x0801 ∨ op = 0x0802 ∨ op = 0x0A01 ∨ op = 0x0A05 then .level 0
  else if st = 5 then .never
  else if op = 0x0701 ∨ op = 0x0702 ∨ op = 0x0703 ∨ op = 0x0B03 then (if st = 0 then .never else .level 0)
  else if op = 0x0505 then (if st = 3 then .level 2 else .level 0)
  else if op = 0x0810 then (if pantryUserData (c.a0 % 2 ^ 25) (c.a1 % 2 ^ 24) then .level 0 else .level 1)
  else if op = 0x0811 ∨ op = 0x0812 then (if pantryUserData (c.a0 % 2 ^ 25) (if op = 0x0811 then c.dataIn.length else 4096 * max 1 (c.a1 % 2 ^ 13))
      then .level 0 else .level 2)
  else if op = 0x0819 then
    let row := bits c.a0 5 0
    if row = 0 ∨ row = 1 then (if st ≤ 1 then .level 0 else .never)
    else if row = 10 then (if st = 0 then .level 0 else .never)
    else if (6 ≤ row ∧ row ≤ 9) ∨ (32 ≤ row ∧ row ≤ 55) then (if st = 1 then .level 0 else .never)
    else if row = 4 then (if 1 ≤ st ∧ st ≤ 3 then .level 0 else .never)
    else if row = 3 ∨ 56 ≤ row then (if st = 2 ∨ st = 3 then .level 0 else .never)
    else if row = 11 then (if st = 2 then .level 0 else .never)
    else .never
  else if op = 0x0A06 then
    let slot := bits c.a0 7 0
    if slot ≤ 3 then (if st = 1 then .level 0 else .never)
    else if slot ≤ 15 then (if st = 2 then .level 0 else .never) else .level 0
  else if op = 0x0820 ∨ op = 0x0A08 then .level 1
  else if op = 0x0803 ∨ op = 0x0804 ∨ op = 0x0828 then .level 2
  else .level 0

/-- The life-cycle states whose permissions are in force (R544): one, two while a transition is incomplete, SCRAPPED's
while the encoding is bad. -/
def State.lcStates (s : State) : List Nat :=
  let k := s.get TGT_LC_STATE
  if s.flag TGT_LC_LC_BAD then [5]
  else if s.flag TGT_LC_INCOMPLETE then (if k = 4 then [3, 4] else [k, k + 1])
  else [k]

/-- The status a command's permissions give: OK, REFUSED_LC or REFUSED_DEBUG (R557). -/
def State.kmiAccess (s : State) (c : KmiCmd) : Nat :=
  s.lcStates.foldl (fun st k =>
    if st = stRefusedLc then st
    else match kmiNeed c k with
      | .never => stRefusedLc
      | .level n => if n ≤ s.get TGT_DBG_LEVEL then st else stRefusedDebug) stOk

/-! ### Mailboxes -/

/-- A mailbox. -/
def State.mbx (s : State) (m : Nat) : Mbx := s.kmi.mbx.getD m ⟨none, none, 0⟩

/-- Replace a mailbox. -/
def State.setMbx (s : State) (m : Nat) (b : Mbx) : State :=
  { s with kmi := { s.kmi with mbx := setAt s.kmi.mbx m b } }

/-- Deliver a command's results (R393, R394): data out up to its limit, the completion, STATE DONE and MBX_COUNT, the
interrupt. -/
def State.kmiFinish (s : State) (m : Nat) (cmd : KmiCmd) (status flags detail : Nat) (c data : List Nat) : State :=
  let limit := if cmd.hostBuf then cmd.hostLen else cmd.resMax
  let written := data.take limit
  let trunc := if limit < data.length then 1 else 0
  let s1 := if cmd.hostBuf && !written.isEmpty then s.emit (.hostWrite 0 cmd.hostAddr false written) else s
  let compl : KmiCompl := ⟨cmd.opcode, cmd.tag, status, trunc + flags, data.length, detail, c, written⟩
  let b := s1.mbx m
  let s2 := (s1.setMbx m { b with compl := some compl, count := (b.count + 1) % 2 ^ 32 }).seti KMI_MBX_STATE m 4
  if bitB cmd.flags 0 then s2.msix 0 m else s2

/-- The completion of an abandoned command is dropped, counted and recorded (R396). -/
def State.kmiStale (s : State) (m : Nat) (cmd : KmiCmd) : State :=
  (s.inc KMI_CNT_STALE).ledger 0x0805 (m + 2 ^ 8 * cmd.opcode + 2 ^ 24 * cmd.tag)

/-- What starting a command comes to: results at once, or a command that goes on executing (`waiting`: it has reached the
waiting phase of a command marked (w)) until a later event with its key. -/
inductive KmiRes where
  | fin (s : State) (status detail : Nat) (c data : List Nat)
  | run (s : State) (waiting : Bool) (key : Nat)

/-- The mailboxes posted before `m` and not started. -/
def earlierPosts (m : Nat) : List Nat → List Nat
  | [] => []
  | x :: t => if x = m then [] else x :: earlierPosts m t

/-- The command of mailbox `m` that firmware may start now, if its opcode is `op` (R389, R398, R399). -/
def State.kmiStartable (s : State) (m op : Nat) : Option KmiCmd :=
  match (s.mbx m).cmd with
  | none => none
  | some c =>
    let busy := s.kmi.running.filter (fun r => !r.waiting)
    let earlier := (earlierPosts m s.kmi.postQ).filterMap (fun x => (s.mbx x).cmd)
    if c.opcode = op ∧ s.geti KMI_MBX_STATE m = 2 ∧ s.flag KMI_CTRL_FW_READY = true ∧ s.domOn 25 = true ∧
        s.flag TGT_DBG_HALTED = false ∧ s.partStopped 8 = false ∧
        (earlier.all (fun e => e.group != c.group && !kmiRaw e)) = true ∧
        (busy.all (fun r => r.cmd.group != c.group && !kmiExclusive r.cmd && !kmiRaw r.cmd)) = true ∧
        ((kmiExclusive c || kmiRaw c) = true → busy = []) then some c
    else none

/-- Take a mailbox out of the posted queue. -/
def State.kmiUnpost (s : State) (m : Nat) : State :=
  { s with kmi := { s.kmi with postQ := s.kmi.postQ.filter (fun x => x != m) } }

/-- A started command that goes on executing: RUNNING (Table 12-3). -/
def State.kmiRunning (s : State) (m : Nat) (cmd : KmiCmd) (waiting : Bool) (key : Nat) : State :=
  ({ s with kmi := { s.kmi with running := s.kmi.running ++ [(⟨m, cmd, waiting, false, key⟩ : RunCmd)] } }).seti KMI_MBX_STATE m 3

/-- Firmware starts the posted command of mailbox `m`: permissions, then its own work, then its completion. A mailbox
without a startable command of this opcode leaves the state as it is (DESIGN CHOICE, log entry 7). -/
def kmiCommand (op m : Nat) (body : KmiCmd → State → KmiRes) (s : State) : Host.Outcome State Fault Refusal :=
  if 15 ≤ m then .fault .noSuchUnit
  else match s.kmiStartable m op with
    | none => ok s
    | some cmd =>
      let s1 := s.kmiUnpost m
      let acc := s1.kmiAccess cmd
      if acc ≠ stOk then ok (s1.kmiFinish m cmd acc 0 0 [] [])
      else match body cmd s1 with
        | .fin s2 st detail c data => ok (s2.kmiFinish m cmd st 0 detail c data)
        | .run s2 w key => ok (s2.kmiRunning m cmd w key)

/-- Commands executing with opcode `op` and key `key`. -/
def runIs (op key : Nat) (r : RunCmd) : Bool := r.cmd.opcode == op && r.key == key

/-- Commands executing with opcode `op`. -/
def runOp (op : Nat) (r : RunCmd) : Bool := r.cmd.opcode == op

/-! ### Doorbells -/

/-- The generation an ABORT advances to: the next value modulo 16 that no executing command of the mailbox carries
(R396). -/
def State.nextGen (s : State) (m : Nat) : Option Nat :=
  let used := (s.kmi.running.filter (fun r => r.mbx == m)).map (fun r => r.cmd.gen)
  let g := s.geti KMI_MBX_GEN m
  ((List.range 15).map (fun i => (g + 1 + i) % 16)).find? (fun x => !used.contains x)

/-- ABORT acting on one mailbox (R396): a posted command is discarded, a running one is abandoned, GEN advances and the
mailbox becomes IDLE; ignored where no generation is free. -/
def State.kmiAbort (s : State) (m : Nat) : State :=
  match s.nextGen m with
  | none => s
  | some g =>
    let s1 := s.kmiUnpost m
    let s2 := { s1 with kmi := { s1.kmi with
      running := s1.kmi.running.map (fun (r : RunCmd) => if r.mbx = m then { r with abandoned := true } else r) } }
    ((s2.setMbx m { s2.mbx m with cmd := none }).seti KMI_MBX_GEN m g).seti KMI_MBX_STATE m 1

/-- End every executing command a test picks, with the same results: delivered, or stale where the command was
abandoned (R396). -/
def State.kmiResolve (s : State) (p : RunCmd → Bool) (status detail : Nat) (c data : List Nat) : State :=
  let hit := s.kmi.running.filter p
  let s1 := { s with kmi := { s.kmi with running := s.kmi.running.filter (fun r => !p r) } }
  hit.foldl (fun st r =>
    if r.abandoned then
      let st1 := st.kmiStale r.mbx r.cmd
      if st1.geti KMI_MBX_STATE r.mbx = 0 ∧ st1.flag KMI_CTRL_FW_READY = true then st1.kmiAbort r.mbx else st1
    else st.kmiFinish r.mbx r.cmd status 0 detail c data) s1

/-- A host access to a mailbox of PF0 reaches it: firmware runs, PD25 and PD26 are on and PERST_N is high (R232, R243, R389). -/
def State.pf0Reach (s : State) : Bool := s.flag KMI_CTRL_FW_READY && s.domOn 25 && s.domOn 26 && !s.hlk.perstLow

/-- The command area of a mailbox as bytes (Table 12-4). -/
def cmdBytes (c : KmiCmd) : List Nat :=
  leBytes 2 c.opcode ++ leBytes 2 c.tag ++ leBytes 2 c.flags ++ leBytes 2 c.rsvd ++ leBytes 4 c.argLen ++ leBytes 4 c.resMax ++
  leBytes 8 c.hostAddr ++ leBytes 4 c.hostLen ++ leBytes 4 0 ++ leBytes 8 c.a0 ++ leBytes 8 c.a1 ++ leBytes 8 c.a2 ++ leBytes 8 c.a3

/-- The completion area as bytes (Table 12-5). -/
def kmiComplBytes (c : KmiCompl) : List Nat :=
  leBytes 2 c.opcode ++ leBytes 2 c.tag ++ leBytes 2 c.status ++ [c.flags, 0] ++ leBytes 4 c.resLen ++ leBytes 4 c.detail ++
  ((c.c ++ List.replicate 6 0).take 6).flatMap (leBytes 8)

/-- An event record as bytes (Table 12-7). -/
def evtBytes (e : EvtRec) : List Nat :=
  leBytes 4 e.seq ++ leBytes 2 e.code ++ [e.group, 0] ++ leBytes 6 e.tick ++ leBytes 2 0 ++ leBytes 8 e.e0 ++ leBytes 8 e.e1

/-- What a host read of 32 bits at an offset of mailbox `m` returns (R387, R389, R392, R401): without firmware MBX_STATUS reads NOT_READY and every
other offset 0. No row of the command table is such a read. -/
def State.mbxRead (s : State) (m off : Nat) : Nat :=
  if !s.pf0Reach then 0
  else if m = 15 then
    if off = 0 then 1 + 2 ^ 8 + 2 ^ 16 * (s.kmi.evtLost % 2 ^ 16)
    else if off = 8 then s.kmi.evtCount
    else if off = 12 then s.kmi.evtAck
    else if off < 0x100 then 0
    else match s.kmi.events.find? (fun e => e.seq % 120 == (off - 0x100) / 32) with
      | some e => leField (evtBytes e) ((off - 0x100) % 32) 4
      | none => 0
  else if off = 0 then s.geti KMI_MBX_STATE m + 2 ^ 4 * s.geti KMI_MBX_GEN m
  else if off = 8 then (s.mbx m).count % 2 ^ 32
  else if 0x40 ≤ off ∧ off < 0x80 then (match (s.mbx m).cmd with | some c => leField (cmdBytes c) (off - 0x40) 4 | none => 0)
  else if 0x80 ≤ off ∧ off < 0xC0 then (match (s.mbx m).compl with | some c => leField (kmiComplBytes c) (off - 0x80) 4 | none => 0)
  else if 0x100 ≤ off then
    match (s.mbx m).compl, (s.mbx m).cmd with
    | some c, _ => leField (if bitB ((s.mbx m).cmd.map (·.flags) |>.getD 0) 1 then [] else c.dataOut) (off - 0x100) 4
    | none, some c => if c.hostBuf then 0 else leField c.dataIn (off - 0x100) 4
    | none, none => 0
  else 0

/-- A POST doorbell and the command area written before it (R390, R391, R395). The write of the area takes effect only in
IDLE and DONE. A command with another generation completes at once with STALE_TAG, one outside R391 and R393 with BAD_ARG,
a HOSTBUF command while PF0 Bus Master Enable is 0 with BAD_STATE. -/
def State.mbxPost (s : State) (m : Nat) (cmd : KmiCmd) : State :=
  let st := s.geti KMI_MBX_STATE m
  if st = 1 ∨ st = 4 then
    let b := s.mbx m
    let s1 := (s.setMbx m { b with cmd := some cmd, compl := none }).seti KMI_MBX_STATE m 2
    let s1 := { s1 with kmi := { s1.kmi with unread := s1.kmi.unread ++ [m], postAt := Assoc.put m s1.now s1.kmi.postAt } }
    if cmd.gen ≠ s.geti KMI_MBX_GEN m then s1.kmiFinish m cmd stStale 0 0 [] []
    else if kmiWellFormed cmd = false then s1.kmiFinish m cmd stBadArg 0 0 [] []
    else if cmd.hostBuf = true ∧ bitB s.hlk.bme 0 = false then s1.kmiFinish m cmd stBadState 0 0 [] []
    else { s1 with kmi := { s1.kmi with postQ := s1.kmi.postQ ++ [m] } }
  else s.inc KMI_CNT_WR_DISCARD

/-- An ACK doorbell (R390): DONE becomes IDLE; ignored otherwise. -/
def execMbxAck (m : Nat) (s : State) : Host.Outcome State Fault Refusal :=
  if 15 ≤ m then .fault .noSuchUnit
  else if s.pf0Reach = true ∧ s.geti KMI_MBX_STATE m = 4 then ok (s.seti KMI_MBX_STATE m 1) else ok s

/-- An ABORT doorbell (R396): it acts in POSTED and RUNNING (Table 12-3). -/
def execMbxAbort (m : Nat) (s : State) : Host.Outcome State Fault Refusal :=
  if 15 ≤ m then .fault .noSuchUnit
  else if s.pf0Reach = true ∧ (s.geti KMI_MBX_STATE m = 2 ∨ s.geti KMI_MBX_STATE m = 3) then ok (s.kmiAbort m)
  else ok s

/-- The host writes MBX_EVT_ACK: the number of event records consumed (R401). -/
def execMbxEvtAck (n : Nat) (s : State) : Host.Outcome State Fault Refusal :=
  if s.pf0Reach = true then ok { s with kmi := { s.kmi with evtAck := n % 2 ^ 32 } } else ok s

/-- An exclusive command that could not start within 100 ms of its POST completes with BUSY (R399): the command comes when that time has passed, so
the time counter stands there at least. -/
def execExclusiveStartTimeout (m : Nat) (s : State) : Host.Outcome State Fault Refusal :=
  if 15 ≤ m then .fault .noSuchUnit
  else match (s.mbx m).cmd with
    | none => ok s
    | some c =>
      if s.geti KMI_MBX_STATE m = 2 ∧ kmiExclusive c = true ∧ s.flag KMI_CTRL_FW_READY = true then
        ok (((s.reach ((Assoc.get 0 m s.kmi.postAt + 25600000000) % 2 ^ 64)).kmiUnpost m).kmiFinish m c stBusy 0 0 [] [])
      else ok s

/-- The effect of the four host resets on the mailboxes (R397): every command mailbox as by ABORT, mailbox 15 cleared. -/
def State.kmiHostReset (s : State) : State :=
  let s1 := (List.range 15).foldl (fun st m =>
    match st.nextGen m with
    | none => st.seti KMI_MBX_STATE m 0
    | some _ => st.kmiAbort m) s
  { s1 with kmi := { s1.kmi with events := [], evtCount := 0, evtAck := 0, evtLost := 0 } }

end Sys2Proof.Machine
end

