-- ==== Sys2Proof/Machine/Fabric.lean ====
section
/-! DEFINITION. The fabric (04): what the active bank's frames configure (R324, R325), the Slice (R114 to R126), clock trees
and fabric PLLs (R150 to R153), Door clamps (R142, R143), the commit of tick-bound state (R51, R52, R123, R141), and the
fabric commands (R407). -/

namespace Sys2Proof.Machine

open Reg

/-! ### Configuration in force -/

/-- Key of frame `f` of latch bank `k` of Room `r`. -/
def bankKey (r k f : Nat) : Nat := (2 * r + k) * 8192 + f

/-- The latch bank (0 or 1) that is the Room's active one. -/
def State.actBankIx (s : State) (r : Nat) : Nat := b2n (bitB s.cfg.actBank r)

/-- Data bits of frame `f` of the Room's active bank. -/
def State.actFrame (s : State) (r f : Nat) : Nat := Assoc.get 0 (bankKey r (s.actBankIx r) f) s.cfg.bankFr

/-- Source code of clock tree `t` of a Room image's frame 0 (R152, Table 10-4). -/
def treeCodeOf (frame0 t : Nat) : Nat := bits frame0 (5 * t + 4) (5 * t)

/-- Source code of tree `t` of Room `r` in its active image. -/
def State.treeCode (s : State) (r t : Nat) : Nat := treeCodeOf (s.actFrame r 0) t

/-- The fabric PLL a code selects in the Room's Wing (R150, R152): Wing `r / 6`, PLL `code / 4` of it. -/
def pllOf (r code : Nat) : Option Nat := if code < 16 then some (4 * (r / 6) + code / 4) else none

/-- Configuration word of Slice `sl` of a Tile (Table 04-8, Table 10-6). -/
def State.sliceCfg (s : State) (r tile sl : Nat) : Nat :=
  bits (s.actFrame r (12 + tile)) (128 * sl + 127) (128 * sl)

/-- Door group record (Table 04-11). -/
def doorRecOf (frame : Nat → Nat) (g : Nat) : Nat :=
  bits (frame (1 + g / 128)) (32 * (g % 128) + 31) (32 * (g % 128))

/-- Door group record of the active image; of a Room whose domain is off, the record its isolation clamps hold (R24). -/
def State.doorRec (s : State) (r g : Nat) : Nat :=
  if s.roomOn r then doorRecOf (s.actFrame r) g else Assoc.get 0 (1024 * r + g) s.fab.isoRec

/-- The records in use of a Room whose domain goes off become its isolation clamps (R24). -/
def State.isoKeep (s : State) (r : Nat) : State :=
  let old := Assoc.clearRun (1024 * r) 1024 s.fab.isoRec
  let kept := (List.range 1024).foldl (fun m g => Assoc.write 0 (1024 * r + g) (s.doorRec r g) m) old
  { s with fab := { s.fab with isoRec := if s.roomActive r then kept else old } }

/-- Block record at array bit `q` of frames 9 to 11 (Table 10-4). -/
def blockRecOf (frame : Nat → Nat) (q : Nat) : Nat := bits (frame (9 + q / 4096)) (q % 4096 + 31) (q % 4096)

/-- Cellar record of the active image (Table 05-2). -/
def State.cellarRec (s : State) (r b : Nat) : Nat := blockRecOf (s.actFrame r) (32 * b)

/-- Larder record (Table 05-7). -/
def State.larderRec (s : State) (r l : Nat) : Nat := blockRecOf (s.actFrame r) (5120 + 32 * l)

/-- PAB record (Table 05-8). -/
def State.pabRec (s : State) (r p : Nat) : Nat := blockRecOf (s.actFrame r) (5632 + 32 * p)

/-! ### The Slice -/

/-- Address a LUT's inputs form: 8·D + 4·C + 2·B + A (R114). -/
def lutAddr (i : SliceIn) (j : Nat) : Nat :=
  8 * bits i.d j j + 4 * bits i.c j j + 2 * bits i.b j j + bits i.a j j

/-- Distributed RAM mode of a Slice, reserved codes acting as 0 (Table 04-7). -/
def ramMode (cfg : Nat) : Nat := let m := bits cfg 67 65; if m ≤ 4 then m else 0

/-- The address at which LUT `j` reads: its own inputs, or the RAM mode's read address (Table 04-7). -/
def readAddr (cfg : Nat) (i : SliceIn) (j : Nat) : Nat :=
  if bits cfg 64 64 = 0 then lutAddr i j
  else match ramMode cfg with
    | 1 => if j < 2 then lutAddr i 0 else lutAddr i 2
    | 4 => lutAddr i j
    | _ => lutAddr i 0

/-- LUT output O*j* (R114). -/
def lutOut (cfg : Nat) (i : SliceIn) (j : Nat) : Bool := bitB cfg (16 * j + readAddr cfg i j)

/-- Generate signal G*j* (Table 04-3). -/
def genOut (cfg : Nat) (i : SliceIn) (j : Nat) : Bool :=
  match bits cfg (71 + 2 * j) (70 + 2 * j) with
  | 0 => bitB i.a j
  | 1 => bitB i.b j
  | 2 => bitB i.a j && bitB i.b j
  | _ => false

/-- The chain's carry-in c[0] (Table 04-3). -/
def carryIn (cfg : Nat) (i : SliceIn) : Bool :=
  match bits cfg 69 68 with
  | 0 => false
  | 1 => true
  | 2 => i.cin
  | _ => i.cx

/-- Carry into bit `j`: c[j+1] = p[j] ? c[j] : g[j] (R116). -/
def carryAt (cfg : Nat) (i : SliceIn) : Nat → Bool
  | 0 => carryIn cfg i
  | j + 1 => if lutOut cfg i j then carryAt cfg i j else genOut cfg i j

/-- Sum S*j* (R116). -/
def sumOut (cfg : Nat) (i : SliceIn) (j : Nat) : Bool := lutOut cfg i j != carryAt cfg i j

/-- Carry out CO (R116). -/
def carryOut (cfg : Nat) (i : SliceIn) : Bool := carryAt cfg i 4

/-- Routed output O*j*: the sum where OSEL*j* is 1 (R114). -/
def routedOut (cfg : Nat) (i : SliceIn) (j : Nat) : Bool :=
  if bitB cfg (120 + j) then sumOut cfg i j else lutOut cfg i j

/-- Multiplexer output M5A (R115). -/
def m5a (cfg : Nat) (i : SliceIn) : Bool := if i.mx0 then lutOut cfg i 1 else lutOut cfg i 0

/-- Multiplexer output M5B (R115). -/
def m5b (cfg : Nat) (i : SliceIn) : Bool := if i.mx0 then lutOut cfg i 3 else lutOut cfg i 2

/-- Multiplexer output M6 (R115). -/
def m6 (cfg : Nat) (i : SliceIn) : Bool := if i.mx1 then m5b cfg i else m5a cfg i

/-- D of flip-flop F*m* (Table 04-4). -/
def ffData (cfg : Nat) (i : SliceIn) (m : Nat) : Bool :=
  let j := m / 2
  match bits cfg (87 + 2 * m) (86 + 2 * m) with
  | 0 => lutOut cfg i j
  | 1 => sumOut cfg i j
  | 2 => bitB i.x j
  | _ => match j with
    | 0 => m5a cfg i
    | 1 => m5b cfg i
    | 2 => m6 cfg i
    | _ => carryOut cfg i

/-- Pair mode of pair `j` (Table 04-5). -/
def pairMode (cfg j : Nat) : Nat := bits cfg (79 + 2 * j) (78 + 2 * j)

/-- What control set `k` does to a stored bit at an active edge of its clock (Table 04-6): reset, set, hold or capture. -/
def ffNext (cfg k : Nat) (rst set ce : Bool) (old d : Bool) : Bool :=
  let base := 110 + 5 * k
  if rst && bitB cfg (base + 2) then false
  else if set && bitB cfg (base + 3) then true
  else if rst then false
  else if set then true
  else if bitB cfg (base + 4) && !ce then old
  else d

/-- Whether an asynchronous control forces both stages (R122, R124), and to what. -/
def ffAsync (cfg k : Nat) (rst set : Bool) : Option Bool :=
  let base := 110 + 5 * k
  if rst && bitB cfg (base + 2) then some false
  else if set && bitB cfg (base + 3) then some true
  else none

/-- One active edge of control set `k`'s clock on flip-flop `m` of a Slice whose bits are `ff` (R119 to R124). -/
def ffEdge (cfg k : Nat) (i : SliceIn) (ff m : Nat) : Bool :=
  let rst := if k = 0 then i.rst0 else i.rst1
  let set := if k = 0 then i.set0 else i.set1
  let ce := if k = 0 then i.ce0 else i.ce1
  let j := m / 2
  let old := bitB ff m
  match pairMode cfg j with
  | 0 => ffNext cfg k rst set ce old (ffData cfg i m)
  | 1 =>
    -- LATCH: RST and SET act asynchronously, RST first; what it shows while its clock is high (`latchQ` holds it from the closing edge)
    if rst then false else if set then true
    else if bitB cfg (110 + 5 * k + 4) && !ce then old else ffData cfg i m
  | 2 =>
    match ffAsync cfg k rst set with
    | some v => v
    | none => if m % 2 = 0 then old else ffNext cfg k rst set ce old (ffData cfg i (m - 1))
  | _ => bitB cfg (102 + m)

/-- What flip-flop `m` holds between active edges (R121, R122, R124): OFF reads INIT, a latch follows D while its clock after CLK_INV is high,
asynchronous controls force the others at once. -/
def ffHeld (cfg : Nat) (i : SliceIn) (high : Nat → Bool) (ff m : Nat) : Bool :=
  let k := m / 4
  let rst := if k = 0 then i.rst0 else i.rst1
  let set := if k = 0 then i.set0 else i.set1
  match pairMode cfg (m / 2) with
  | 1 => if rst then false else if set then true else if high k then ffEdge cfg k i ff m else bitB ff m
  | 3 => bitB cfg (102 + m)
  | _ => (ffAsync cfg k rst set).getD (bitB ff m)

/-- The flip-flops of a Slice after an edge: the control sets that `active` names take an active edge, the others hold (R119). `high` says
which clocks, after CLK_INV, were high before the edge. -/
def sliceEdge (cfg : Nat) (active high : Nat → Bool) (i : SliceIn) (ff : Nat) : Nat :=
  maskOf ((List.range 8).filter (fun m => if active (m / 4) then ffEdge cfg (m / 4) i ff m else ffHeld cfg i high ff m))

/-- `v` with bit `i` given the value `b`. -/
def putBit (v i : Nat) (b : Bool) : Nat := if b then setBit v i else clrBit v i

/-- The Slice word after a distributed RAM write (R125, R126; Table 04-7). -/
def ramWrite (cfg : Nat) (i : SliceIn) : Nat :=
  let a := lutAddr i 0
  match ramMode cfg with
  | 1 =>
    putBit (putBit (putBit (putBit cfg a (bitB i.x 0)) (32 + a) (bitB i.x 0)) (16 + a) (bitB i.x 1)) (48 + a) (bitB i.x 1)
  | 2 =>
    let o := if i.mx0 then 16 else 0
    putBit (putBit cfg (o + a) (bitB i.x 0)) (32 + o + a) (bitB i.x 1)
  | 3 => putBit cfg (32 * b2n i.mx1 + 16 * b2n i.mx0 + a) (bitB i.x 0)
  | 4 => putBit (putBit (putBit (putBit cfg a (bitB i.x 0)) (16 + a) (bitB i.x 0)) (32 + a) (bitB i.x 0)) (48 + a) (bitB i.x 0)
  | _ => putBit (putBit (putBit (putBit cfg a (bitB i.x 0)) (16 + a) (bitB i.x 1)) (32 + a) (bitB i.x 2)) (48 + a) (bitB i.x 3)

/-- Whether a Slice's RAM writes at the edge: RAM_EN, WE, and CE0 where CE_USED of set 0 is 1 (R126). -/
def ramWrites (cfg : Nat) (i : SliceIn) : Bool := bitB cfg 64 && i.we && (!bitB cfg 114 || i.ce0)

/-- Key of a Slice. -/
def sliceKey (r tile sl : Nat) : Nat := 25600 * r + 8 * tile + sl

/-- Flip-flops of a Slice. -/
def State.ffs (s : State) (r tile sl : Nat) : Nat := (Assoc.get ⟨0⟩ (sliceKey r tile sl) s.fab.slices).ff

/-- Replace the flip-flops of a Slice. -/
def State.setFfs (s : State) (r tile sl v : Nat) : State :=
  { s with fab := { s.fab with slices := Assoc.write ⟨0⟩ (sliceKey r tile sl) ⟨v⟩ s.fab.slices } }

/-- Replace the configuration word of a Slice in the active bank (the RAM bits of R127 lie in the latches). -/
def State.setSliceCfg (s : State) (r tile sl v : Nat) : State :=
  let f := s.actFrame r (12 + tile)
  let old := bits f (128 * sl + 127) (128 * sl)
  let f1 := f - old * 2 ^ (128 * sl) + v % 2 ^ 128 * 2 ^ (128 * sl)
  { s with cfg := { s.cfg with bankFr := Assoc.write 0 (bankKey r (s.actBankIx r) (12 + tile)) f1 s.cfg.bankFr } }

/-! ### Clock trees -/

/-- Tree `t` of Room `r` runs: the Room is on with a VALID active bank after Opening, its code selects a running clock (an enabled output of a locked
PLL, or CD93), and the power state leaves the trees running (R152, R153, R476). -/
def State.treeRuns (s : State) (r t : Nat) : Bool :=
  s.roomOn r && s.roomActive r && s.boot.opened && s.get PWR_STATE_CUR == 0 &&
  (let c := s.treeCode r t
   match pllOf r c with
   | some p => bitB s.fab.pllLocked p && bitB (s.fab.pllOut.getD p 0) (16 * (c % 4) + 15)
   | none => c == 16)

/-- Trees (2 × Room + t) of Rooms with a VALID active bank that take a clock from PLL `p`. -/
def State.treesOf (s : State) (p : Nat) : List Nat :=
  (List.range 48).filter (fun k => s.roomActive (k / 2) && pllOf (k / 2) (s.treeCode (k / 2) (k % 2)) == some p)

/-! ### Tick-bound state -/

/-- The tree that clocks control set `k` of a Slice. -/
def setTree (cfg k : Nat) : Nat := bits cfg (110 + 5 * k) (110 + 5 * k)

/-- The commit of a Slice's TICK pairs whose tree a test names (R123): each output takes its hidden stage. -/
def commitFf (cfg : Nat) (runs : Nat → Bool) (ff : Nat) : Nat :=
  maskOf ((List.range 8).filter (fun m =>
    if m % 2 = 0 ∧ pairMode cfg (m / 2) = 2 ∧ runs (setTree cfg (m / 4)) = true then bitB ff (m + 1) else bitB ff m))

/-- Commit every listed Slice of Room `r` on the trees a test names. -/
def State.commitSlices (s : State) (r : Nat) (runs : Nat → Bool) : State :=
  { s with fab := { s.fab with slices := s.fab.slices.map (fun e =>
      if e.1 / 25600 = r then
        (e.1, (⟨commitFf (s.sliceCfg r (e.1 % 25600 / 8) (e.1 % 8)) runs e.2.ff⟩ : SliceSt))
      else e) } }

/-- Whether a Door is outbound and tick-bound on a tree a test names (Table 04-11). -/
def doorTicks (rec_ : Nat) (runs : Nat → Bool) : Bool :=
  bitB rec_ 0 && bitB rec_ 1 && bitB rec_ 3 && runs (bits rec_ 2 2)

/-- Every tick-bound outbound Door of Room `r` takes its hidden stage (R141). -/
def State.commitDoors (s : State) (r : Nat) (runs : Nat → Bool) : State :=
  let ticks := fun (k : Nat) => decide (k / 4096 = r) && doorTicks (s.doorRec r (k % 4096 / 4)) runs
  { s with fab := { s.fab with door := (s.fab.door ++ s.fab.doorHid).foldl (fun d e =>
      if ticks e.1 then Assoc.write 0 e.1 (Assoc.get 0 e.1 s.fab.doorHid) d else d) s.fab.door } }

/-- The commit of slot 1 for one Room: trees that run commit now, trees that are stopped owe their commit (R51, R52). -/
def State.tickCommitRoom (s : State) (r : Nat) : State :=
  let runs := fun t => s.treeRuns r t
  let s1 := (s.commitSlices r runs).commitDoors r runs
  let owe := ((List.range 2).filter (fun t => s.roomActive r && !runs t)).foldl (fun v t => setBit v (2 * r + t)) s1.fab.owesCommit
  { s1 with fab := { s1.fab with owesCommit := owe } }

/-- Slot 1 of the boundary: every Room (R50). -/
def State.tickCommit (s : State) : State := (List.range 24).foldl (fun st r => st.tickCommitRoom r) s

/-- The flip-flops of Room `r` take their INIT values and its Waystation and Door registers 0 (04; R134). -/
def State.initUserFf (s : State) (r : Nat) : State :=
  let k := s.actBankIx r
  let cleared := s.fab.slices.filter (fun e => e.1 / 25600 != r)
  let tiles := s.cfg.bankFr.filter (fun e => decide (bankKey r k 12 ≤ e.1) && decide (e.1 < bankKey r k 3212))
  let slices := tiles.foldl (fun acc e =>
    (List.range 8).foldl (fun a sl =>
      let cfg := bits e.2 (128 * sl + 127) (128 * sl)
      let init := maskOf ((List.range 8).filter (fun m =>
        if pairMode cfg (m / 2) = 2 then bitB cfg (102 + 2 * (m / 2)) else bitB cfg (102 + m)))
      Assoc.write ⟨0⟩ (sliceKey r (e.1 - bankKey r k 12) sl) ⟨init⟩ a) acc) cleared
  { s with fab := { s.fab with
      slices := slices
      way := s.fab.way.filter (fun e => e.1 / 3520 != r)
      clk := clrBit (clrBit s.fab.clk (2 * r)) (2 * r + 1)
      door := s.fab.door.filter (fun e => e.1 / 4096 != r)
      doorHid := s.fab.doorHid.filter (fun e => e.1 / 4096 != r) } }

/-! ### Door clamps -/

/-- Rooms whose outbound Doors a chain or twin mode change clamps (Table 04-12). -/
def State.mcClamp (s : State) : Nat := s.syc.mc.clamp ||| s.twn.mc.clamp

/-- The Room's outbound Doors are clamped by a source of Table 04-12 other than the handover clamp. -/
def State.roomClamped (s : State) (r : Nat) : Bool :=
  !s.roomOn r || !s.roomActive r || !s.boot.opened || bitB (s.get TCK_CLAMPED_ROOMS) r || bitB s.mcClamp r

/-- The handover clamp holds the Door: its tree has not been released (R350). -/
def State.handClamped (s : State) (r d : Nat) : Bool :=
  match Assoc.find? r s.cfg.hand with
  | none => false
  | some h => bitB h.trees (bits (s.doorRec r (d / 4)) 2 2)

/-- An outbound Door is clamped: a source over all of the Room's Doors, or the handover clamp (Table 04-12). -/
def State.doorClamped (s : State) (r d : Nat) : Bool := s.roomClamped r || s.handClamped r d

/-- The value a pin slot Door keeps under PINS = 1 (R350). -/
def State.pinKept (s : State) (r d : Nat) : Option Nat :=
  if 3840 ≤ d ∧ d < 3968 then
    match Assoc.find? r s.cfg.hand with
    | none => none
    | some h => match h.keep with
      | none => none
      | some v => some (bits v (d - 3840) (d - 3840))
  else none

/-- Doors whose clamp value is fixed at 0: port control and management Doors (R145). -/
def fixedClampDoor (d : Nat) : Bool := (decide (d < 2560) && decide (256 ≤ d % 320)) || decide (4032 ≤ d)

/-- The index of a peer link's table entry: link group `g` (0 to 159) between Room `i` and the next. -/
def peerLink (r d : Nat) : Option Nat :=
  if 2560 ≤ d ∧ d < 3200 then some (160 * ((r + 23) % 24) + (d - 2560) / 4)
  else if 3200 ≤ d ∧ d < 3840 then some (160 * r + (d - 3200) / 4)
  else none

/-- The clamp value of a Door (R139, R142, R145): 0 where fixed, the device table's for a peer link, its record's
otherwise. -/
def State.clampValue (s : State) (r d : Nat) : Nat :=
  if fixedClampDoor d then 0
  else match peerLink r d with
    | some l => bits (Assoc.get 0 l s.fab.ownTbl) (2 + d % 4) (2 + d % 4)
    | none => bits (s.doorRec r (d / 4)) (4 + d % 4) (4 + d % 4)

/-- The value an outbound Door's link carries (R142): the clamp value while clamped or where its group is not used (R139), the register's
otherwise; a pin slot Door under PINS = 1 keeps its value through the handover clamp. -/
def State.doorLink (s : State) (r d : Nat) : Nat :=
  if s.roomClamped r || !bitB (s.doorRec r (d / 4)) 0 then s.clampValue r d
  else if s.handClamped r d then (s.pinKept r d).getD (s.clampValue r d)
  else Assoc.get 0 (4096 * r + d) s.fab.door

/-- The other end of a peer link: Room and Door (R137). -/
def peerDoor (r d : Nat) : Option (Nat × Nat) :=
  if 2560 ≤ d ∧ d < 3200 then some ((r + 23) % 24, d + 640)
  else if 3200 ≤ d ∧ d < 3840 then some ((r + 1) % 24, d - 640)
  else none

/-- What a peer link carries into an inbound Door: the other Room's outbound Door where the device table makes that Room its owner, the
link's clamp value otherwise (R138, R330). -/
def State.peerIn (s : State) (r d : Nat) : Nat :=
  match peerDoor r d, peerLink r d with
  | some (q, e), some l => if bits (Assoc.get 0 l s.fab.ownTbl) 1 0 = (if d < 3200 then 1 else 2) then s.doorLink q e else s.clampValue r d
  | _, _ => 0

/-- Doors take values, all at once. -/
def State.putDoors (s : State) (l : List (Nat × Nat)) : State :=
  { s with fab := { s.fab with door := l.foldl (fun m e => Assoc.write 0 e.1 e.2 m) s.fab.door } }

/-- Trees that owe a commit and run again take it (R52), with the trees. -/
def State.commitOwed (s : State) : List Nat × State :=
  let due := (List.range 48).filter (fun k => bitB s.fab.owesCommit k && s.treeRuns (k / 2) (k % 2))
  (due, due.foldl (fun st k =>
    let runs := fun t => t == k % 2
    let s1 := (st.commitSlices (k / 2) runs).commitDoors (k / 2) runs
    { s1 with fab := { s1.fab with owesCommit := clrBit s1.fab.owesCommit k } }) s)

/-! ### Meanings -/

/-- Reference frequency of a fabric PLL in kHz by its code (Table 04-14); REFCLK_ING is 156.25 MHz (R190). -/
def pllRefKhz (code : Nat) : Nat := match code with | 0 => 25000 | 3 => 250000 | _ => 156250

/-- The control word is within Table 04-14: multiplier 16 to 128, phase detector 10 to 100 MHz, VCO 1.6 to 3.2 GHz. -/
def pllCtlOk (w : Nat) : Bool :=
  let n := bits w 4 2 + 1
  let m := bits w 12 5
  let ref := pllRefKhz (bits w 1 0)
  decide (16 ≤ m) && decide (m ≤ 128) && decide (10000 * n ≤ ref) && decide (ref ≤ 100000 * n) &&
  decide (1600000 * n ≤ ref * m) && decide (ref * m ≤ 3200000 * n)

/-- Every enabled output of the output word is within Table 04-14: divider 2 to 64. -/
def pllOutOk (w : Nat) : Bool :=
  (List.range 4).all (fun o => let v := bits w (16 * o + 15) (16 * o); !bitB v 15 || decide (1 ≤ bits v 5 0))

/-- Output frequency of an enabled PLL output in kHz, as numerator and denominator. -/
def State.pllOutKhz (s : State) (p o : Nat) : Option (Nat × Nat) :=
  let w := s.fab.pllCtl.getD p 0
  let v := bits (s.fab.pllOut.getD p 0) (16 * o + 15) (16 * o)
  if bitB v 15 then some (pllRefKhz (bits w 1 0) * bits w 12 5, (bits w 4 2 + 1) * (bits v 5 0 + 1)) else none

/-- FAB_MGMT_READ (R149, R407): the management status word, from Doors 4,032 to 4,063 as their links show them. -/
def execFabMgmtRead (m : Nat) (s : State) : Host.Outcome State Fault Refusal :=
  kmiCommand 0x0101 m (fun cmd s =>
    let r := bits cmd.a0 4 0
    if 24 ≤ r then .fin s stBadArg 0 [] []
    else .fin s stOk 0 [maskOf ((List.range 32).filter (fun i => s.doorLink r (4032 + i) == 1))] []) s

/-- FAB_MGMT_WRITE (R149, R407): the management control word. -/
def execFabMgmtWrite (m : Nat) (s : State) : Host.Outcome State Fault Refusal :=
  kmiCommand 0x0102 m (fun cmd s =>
    let r := bits cmd.a0 4 0
    if 24 ≤ r then .fin s stBadArg 0 [] []
    else .fin { s with fab := { s.fab with mgmtCtl := Assoc.write 0 r (cmd.a1 % 2 ^ 32) s.fab.mgmtCtl } } stOk 0 [] []) s

/-- FPLL_READ (R407). -/
def execFpllRead (m : Nat) (s : State) : Host.Outcome State Fault Refusal :=
  kmiCommand 0x0103 m (fun cmd s =>
    let p := bits cmd.a0 3 0
    .fin s stOk 0 [s.fab.pllCtl.getD p 0, s.fab.pllOut.getD p 0, b2n (bitB s.fab.pllLocked p)] []) s

/-- FPLL_WRITE (R151, R407): refused with RESOURCE_HELD while a tree with a VALID active bank selects an output of the PLL,
with BAD_ARG outside Table 04-14; otherwise the setting is taken and the command completes at the lock. -/
def execFpllWrite (m : Nat) (s : State) : Host.Outcome State Fault Refusal :=
  kmiCommand 0x0104 m (fun cmd s =>
    let p := bits cmd.a0 3 0
    if !pllCtlOk cmd.a1 || !pllOutOk cmd.a2 then .fin s stBadArg 0 [] []
    else if !(s.treesOf p).isEmpty then .fin s stHeld 0 [] []
    else .run { s with fab := { s.fab with
        pllCtl := setAt s.fab.pllCtl p (cmd.a1 % 2 ^ 13)
        pllOut := setAt s.fab.pllOut p (cmd.a2 % 2 ^ 64)
        pllLocked := clrBit s.fab.pllLocked p } } false p) s

end Sys2Proof.Machine
end

