-- ==== Sys2Proof/Machine/Blocks.lean ====
section
/-! DEFINITION. Cellar blocks, Larder blocks and Pixel Arithmetic Blocks (05): port accesses under width, read-during-write
and collision rules, ECC, ping-pong (R170, R171), the PAB data path and output stage, and BRAM_SBE. -/

namespace Sys2Proof.Machine

open Reg

/-! ### Cellar addressing (R163) -/

/-- Data width of a width code: 1, 2, 4, 8, 16, 32, 64. -/
def cellarWidth (code : Nat) : Nat := 2 ^ min code 6

/-- A Cellar record's fields (Table 05-2). -/
def cellarMode (rec_ : Nat) : Nat := bits rec_ 7 6

/-- Width code of a port. -/
def cellarWcode (rec_ port : Nat) : Nat := if port = 0 then bits rec_ 2 0 else bits rec_ 5 3

/-- First cell of a Cellar block. -/
def cellarKey (r b : Nat) : Nat := 4096 * (160 * r + b)

/-- The byte write enables that act at data width `d` (R162): WE[0] below a byte, one for each byte above. -/
def effWe (d we : Nat) : Nat := if d < 8 then we % 2 else we % 2 ^ (d / 8)

/-- Bytes from which a port's addresses count: the half it sees in PINGPONG (R170), 0 otherwise. -/
def halfBase (rec_ port : Nat) (sel : Bool) : Nat :=
  if cellarMode rec_ = 2 then 2048 * (if port = 0 then b2n sel else b2n (!sel)) else 0

/-- Words of `d` data bits a port addresses (Table 05-3). -/
def cellarDepth (rec_ d : Nat) : Nat := (if cellarMode rec_ = 2 then 16384 else 32768) / d

/-- A word of a Cellar block as its port shows it: data bits low, the ninth bit of byte `k` at bit `d + k` (R163). -/
def cellarRead (m : Assoc Nat) (base d a : Nat) : Nat :=
  if d < 8 then
    let bit := a * d
    bits (Assoc.get 0 (base + bit / 8) m) (bit % 8 + d - 1) (bit % 8)
  else
    (List.range (d / 8)).foldl (fun w k =>
      let c := Assoc.get 0 (base + a * d / 8 + k) m
      w + (c % 256) * 2 ^ (8 * k) + (c / 256 % 2) * 2 ^ (d + k)) 0

/-- Write the enabled bytes of a word (R162, R163). -/
def cellarWrite (m : Assoc Nat) (base d a we word : Nat) : Assoc Nat :=
  if d < 8 then
    if bitB we 0 then
      let bit := a * d
      let key := base + bit / 8
      let c := Assoc.get 0 key m
      let old := bits c (bit % 8 + d - 1) (bit % 8)
      Assoc.write 0 key (c - old * 2 ^ (bit % 8) + word % 2 ^ d * 2 ^ (bit % 8)) m
    else m
  else
    (List.range (d / 8)).foldl (fun mm k =>
      if bitB we k then
        Assoc.write 0 (base + a * d / 8 + k) (bits word (8 * k + 7) (8 * k) + 256 * bits word (d + k) (d + k)) mm
      else mm) m

/-- The stored word with the enabled bytes replaced: what WRITE_FIRST shows (Table 05-4). -/
def mergeWord (d we old new : Nat) : Nat :=
  if d < 8 then (if bitB we 0 then new % 2 ^ d else old)
  else (List.range (d / 8)).foldl (fun w k =>
    let src := if bitB we k then new else old
    w + bits src (8 * k + 7) (8 * k) * 2 ^ (8 * k) + bits src (d + k) (d + k) * 2 ^ (d + k)) 0

/-! ### Port read sides -/

/-- Key of a port's read side. -/
def portKey (larder : Bool) (r b port : Nat) : Nat :=
  if larder then 8000 + 2 * (16 * r + b) + port else 2 * (160 * r + b) + port

/-- A port's read side. -/
def State.port (s : State) (k : Nat) : PortSt := Assoc.get ⟨0, 0, false, false, false, false⟩ k s.fab.ports

/-- One edge of a port's read side: the latch takes a new word or holds, the output register takes the latch, ORST clears
the register, or the latch where there is none (R161). -/
def portEdge (oreg en orst : Bool) (word : Option Nat) (sbe dbe : Bool) (p : PortSt) : PortSt :=
  let latch := match word with | some w => if en then w else p.latch | none => p.latch
  let out := if en then p.latch else p.oreg
  let st := if en && word.isSome then (sbe, dbe) else (p.sbe, p.dbe)
  let reg := if en then (p.sbe, p.dbe) else (p.sbeReg, p.dbeReg)
  if oreg then ⟨latch, if orst then 0 else out, st.1, st.2, reg.1, reg.2⟩
  else ⟨if orst then 0 else latch, 0, st.1, st.2, false, false⟩

/-- What a port shows: its output register or its latch. -/
def portOut (oreg : Bool) (p : PortSt) : Nat := if oreg then p.oreg else p.latch

/-- SBE and DBE as a port shows them, with the data they belong to (R168). -/
def portErr (oreg : Bool) (p : PortSt) : Bool × Bool := if oreg then (p.sbeReg, p.dbeReg) else (p.sbe, p.dbe)

/-- The word a port's output shows after an access (Table 05-4): `some` new output, `none` unchanged. -/
def rdwOutput (rdw : Nat) (writes : Bool) (old new : Nat) : Option Nat :=
  if writes then (match rdw with | 0 => some new | 1 => some old | _ => none) else some old

/-- A read through the ECC of an ECC_EN block (R168): the data, SBE and DBE. -/
def eccRead (data : Nat) (q : PortReq) : Nat × Bool × Bool :=
  match q.err with
  | 1 => (data, true, false)
  | 2 => (data ^^^ q.flips, false, true)
  | _ => (data, false, false)

/-- The Ledger detail of BRAM_DBE: Room; kind at bit 8, index at 9, port at 17, address at 18 (R169, DESIGN CHOICE, log entry 9). -/
def dbeDetail (r : Nat) (larder : Bool) (idx port addr : Nat) : Nat :=
  r + 2 ^ 8 * b2n larder + 2 ^ 9 * idx + 2 ^ 17 * port + 2 ^ 18 * addr

/-- Account for the ECC results of a read (R169). -/
def State.eccCount (s : State) (r : Nat) (larder : Bool) (idx port : Nat) (q : PortReq) : State :=
  match q.err with
  | 1 => { s with fab := { s.fab with sbe := Assoc.write 0 r (satInc 0xFFFF (Assoc.get 0 r s.fab.sbe)) s.fab.sbe } }
  | 2 => s.ledger 0x0201 (dbeDetail r larder idx port q.addr)
  | _ => s

/-- A request that does nothing. -/
def noReq : PortReq := ⟨false, 0, 0, 0, false, 0, 0, false⟩

/-! ### Cellar accesses -/

/-- The effect of both ports' requests on a TDP or PINGPONG Cellar block. `window`: the two edges fall within t_COLL, so each
port reads the word as stored before the other's write and port B's bytes win (R166); otherwise the earlier edge, port A's
where `aFirst`, acts first (R167). A port whose edge came before slot 2 still sees the half of the old PP_SEL (R172, R173). -/
def State.cellarTdp (s : State) (r b : Nat) (pa pb : PortReq) (window aFirst : Bool) : State :=
  let rec_ := s.cellarRec r b
  let sel := Assoc.get false (160 * r + b) s.fab.ppSel
  let base := cellarKey r b
  let m0 := s.fab.cellar
  let dA := cellarWidth (cellarWcode rec_ 0)
  let dB := cellarWidth (cellarWcode rec_ 1)
  let baseA := base + halfBase rec_ 0 (sel != pa.pre)
  let baseB := base + halfBase rec_ 1 (sel != pb.pre)
  let weA := effWe dA pa.we
  let weB := effWe dB pb.we
  let aA := pa.addr % cellarDepth rec_ dA
  let aB := pb.addr % cellarDepth rec_ dB
  let wrA := fun m => if pa.en then cellarWrite m baseA dA aA weA pa.data else m
  let wrB := fun m => if pb.en then cellarWrite m baseB dB aB weB pb.data else m
  let mA := if window || aFirst then m0 else wrB m0
  let mB := if window || !aFirst then m0 else wrA m0
  let m1 := if window || aFirst then wrB (wrA m0) else wrA (wrB m0)
  let oldA := cellarRead mA baseA dA aA
  let oldB := cellarRead mB baseB dB aB
  let pA := portEdge (bitB rec_ 12) pa.en pa.orst (rdwOutput (bits rec_ 9 8) (weA != 0) oldA (mergeWord dA weA oldA pa.data))
    false false (s.port (portKey false r b 0))
  let pB := portEdge (bitB rec_ 13) pb.en pb.orst (rdwOutput (bits rec_ 11 10) (weB != 0) oldB (mergeWord dB weB oldB pb.data))
    false false (s.port (portKey false r b 1))
  { s with fab := { s.fab with
      cellar := m1
      ports := Assoc.put (portKey false r b 1) pB (Assoc.put (portKey false r b 0) pA s.fab.ports) } }

/-- An SDP access (R162, R164, R168): port A writes the 64-bit word with the eight enables of both ports, port B reads. -/
def State.cellarSdp (s : State) (r b : Nat) (pa pb : PortReq) (window aFirst : Bool) : State :=
  let rec_ := s.cellarRec r b
  let ecc := bitB rec_ 14
  let base := cellarKey r b
  let m0 := s.fab.cellar
  let we := bits pa.we 3 0 + 16 * bits pb.we 3 0
  let we' := if ecc && we != 0 then 255 else we
  let data := if ecc then pa.data % 2 ^ 64 + 2 ^ 64 * (Config.ecc72 (pa.data % 2 ^ 64) % 256) else pa.data
  let aA := pa.addr % 512
  let aB := pb.addr % 512
  let wr := fun m => if pa.en then cellarWrite m base 64 aA we' data else m
  let sameEdge := window && !bitB rec_ 17 && bits rec_ 15 15 == bits rec_ 16 16
  let old := cellarRead m0 base 64 aB
  let new := cellarRead (wr m0) base 64 aB
  let hit := pa.en && aA == aB && we' != 0
  let word := if sameEdge then rdwOutput (bits rec_ 11 10) hit old new
    else if window || !aFirst then some old else some new
  let eccd := fun w => if ecc then eccRead (w % 2 ^ 64) pb else (w, false, false)
  let pB := portEdge (bitB rec_ 13) pb.en pb.orst (word.map (fun w => (eccd w).1))
    (ecc && pb.err == 1) (ecc && pb.err == 2) (s.port (portKey false r b 1))
  let s1 := { s with fab := { s.fab with cellar := wr m0, ports := Assoc.put (portKey false r b 1) pB s.fab.ports } }
  if ecc && pb.en then s1.eccCount r false b 1 pb else s1

/-! ### Larder accesses (R175, R176) -/

/-- Byte-enabled write of a 72-bit Larder word: byte `k` is bits [9k + 8:9k]; with ECC the whole 64-bit word. -/
def larderMerge (ecc : Bool) (we old new : Nat) : Nat :=
  if we = 0 then old
  else if ecc then new % 2 ^ 64 + 2 ^ 64 * (Config.ecc72 (new % 2 ^ 64) % 256)
  else (List.range 8).foldl (fun w k =>
    w + bits (if bitB we k then new else old) (9 * k + 8) (9 * k) * 2 ^ (9 * k)) 0

/-- A Larder word: an unlisted one is zero data, with valid check bits where the block has ECC (R177). -/
def larderWord (ecc : Bool) (k : Nat) (m : Assoc Nat) : Nat := Assoc.get (if ecc then 2 ^ 64 * (Config.ecc72 0 % 256) else 0) k m

/-- Both ports' requests on a Larder block, collisions as R166. -/
def State.larderAccess (s : State) (r b : Nat) (pa pb : PortReq) (window aFirst : Bool) : State :=
  let rec_ := s.larderRec r b
  let ecc := bitB rec_ 0
  let base := 4096 * (16 * r + b)
  let kA := base + pa.addr % 4096
  let kB := base + pb.addr % 4096
  let m0 := s.fab.larder
  let wrA := fun m => if pa.en && pa.we != 0 then Assoc.write 0 kA (larderMerge ecc pa.we (larderWord ecc kA m) pa.data) m else m
  let wrB := fun m => if pb.en && pb.we != 0 then Assoc.write 0 kB (larderMerge ecc pb.we (larderWord ecc kB m) pb.data) m else m
  let mA := if window || aFirst then m0 else wrB m0
  let mB := if window || !aFirst then m0 else wrA m0
  let m1 := if window || aFirst then wrB (wrA m0) else wrA (wrB m0)
  let view := fun (q : PortReq) (w : Nat) => if ecc then eccRead (w % 2 ^ 64) q else (w, false, false)
  let outA := rdwOutput (bits rec_ 2 1) (pa.we != 0) (view pa (larderWord ecc kA mA)).1
    (let w := larderMerge ecc pa.we (larderWord ecc kA mA) pa.data; if ecc then w % 2 ^ 64 else w)
  let outB := rdwOutput (bits rec_ 4 3) (pb.we != 0) (view pb (larderWord ecc kB mB)).1
    (let w := larderMerge ecc pb.we (larderWord ecc kB mB) pb.data; if ecc then w % 2 ^ 64 else w)
  let pA := portEdge (bitB rec_ 5) pa.en pa.orst outA (ecc && pa.err == 1) (ecc && pa.err == 2) (s.port (portKey true r b 0))
  let pB := portEdge (bitB rec_ 6) pb.en pb.orst outB (ecc && pb.err == 1) (ecc && pb.err == 2) (s.port (portKey true r b 1))
  let s1 := { s with fab := { s.fab with
      larder := m1
      ports := Assoc.put (portKey true r b 1) pB (Assoc.put (portKey true r b 0) pA s.fab.ports) } }
  let s2 := if ecc && pa.en then s1.eccCount r true b 0 pa else s1
  if ecc && pb.en then s2.eccCount r true b 1 pb else s2

/-- Handover block work of the Room that holds a kind of block: 0 Cellar blocks with INIT 1, 1 Larder, 2 PAB (R351). -/
def State.blockWork (s : State) (r kind : Nat) : Bool :=
  match Assoc.find? r s.cfg.hand with
  | none => false
  | some h => bitB h.work kind

/-- The ports of a block are disabled: the Room's are (R157), or block work of a handover runs over it (R351). -/
def State.blockOff (s : State) (r : Nat) (larder : Bool) (idx : Nat) : Bool :=
  !bitB s.fab.portsOn r ||
  (if larder then s.blockWork r 1 else s.blockWork r 0 && bitB (s.cellarRec r idx) 18)

/-- A port's clock gives it an edge: its tree runs, and a port A that belongs to a fill path takes none from the fabric (Table 05-2, Table
05-7, R153). -/
def State.portClock (s : State) (r : Nat) (larder : Bool) (idx port : Nat) : Bool :=
  let rec_ := if larder then s.larderRec r idx else s.cellarRec r idx
  let fill := if larder then bitB rec_ 9 else bitB rec_ 17
  let tree := if larder then bits rec_ (7 + port) (7 + port) else bits rec_ (15 + port) (15 + port)
  !(port == 0 && fill) && s.treeRuns r tree

/-- PP_HALF follows PP_SEL at an edge of port B's clock (R170). -/
def State.ppPresent (s : State) (r b : Nat) (q : PortReq) : State :=
  let h := Assoc.get false (160 * r + b) s.fab.ppSel != q.pre
  { s with fab := { s.fab with ppHalf := Assoc.write false (160 * r + b) h s.fab.ppHalf } }

/-- A Cellar or Larder port access (R161 to R169): a request acts where its port's clock gives it an edge. While the Room's block ports are
disabled nothing is written and the read outputs are 0 (R157). -/
def execBlockPortAccess (room : Nat) (larder : Bool) (idx : Nat) (pa pb : Option PortReq) (window aFirst : Bool)
    (s : State) : Host.Outcome State Fault Refusal :=
  if 24 ≤ room ∨ (larder = true ∧ 16 ≤ idx) ∨ (larder = false ∧ 160 ≤ idx) then .fault .noSuchUnit
  else if s.blockOff room larder idx then
    ok { s with fab := { s.fab with
      ports := Assoc.del (portKey larder room idx 1) (Assoc.del (portKey larder room idx 0) s.fab.ports) } }
  else
    let a := (pa.filter (fun _ => s.portClock room larder idx 0)).getD noReq
    let qb := pb.filter (fun _ => s.portClock room larder idx 1)
    let b := qb.getD noReq
    if larder then ok (s.larderAccess room idx a b window aFirst)
    else
      let s1 := if cellarMode (s.cellarRec room idx) = 1 then s.cellarSdp room idx a b window aFirst
        else s.cellarTdp room idx a b window aFirst
      ok (match qb with
        | some q => if cellarMode (s.cellarRec room idx) = 2 then s1.ppPresent room idx q else s1
        | none => s1)

/-- BRAM_SBE (R408): the Room's count of single-bit errors, cleared after reading where A0[8] is set. -/
def execBramSbe (m : Nat) (s : State) : Host.Outcome State Fault Refusal :=
  kmiCommand 0x0201 m (fun cmd s =>
    let r := bits cmd.a0 4 0
    if 24 ≤ r then .fin s stBadArg 0 [] []
    else
      let n := Assoc.get 0 r s.fab.sbe
      .fin (if bitB cmd.a0 8 then { s with fab := { s.fab with sbe := Assoc.write 0 r 0 s.fab.sbe } } else s)
        stOk 0 [n] []) s

/-! ### Ping-pong and initial contents -/

/-- Slot 2: PP_SEL of every PINGPONG Cellar block toggles (R171). Blocks whose ports are enabled are those of Rooms with a
VALID active bank. -/
def State.pingpongSwap (s : State) : State :=
  let swap := fun (acc : Assoc Bool) (r : Nat) =>
    if bitB s.fab.portsOn r then
      (List.range 160).foldl (fun a b =>
        if cellarMode (s.cellarRec r b) = 2 then Assoc.write false (160 * r + b) (!(Assoc.get false (160 * r + b) a)) a
        else a) acc
    else acc
  { s with fab := { s.fab with ppSel := (List.range 24).foldl swap s.fab.ppSel } }

/-- Cellar byte `i` of block `b` in the image's initial contents (Table 10-4). -/
def State.cellarInitByte (s : State) (r b i : Nat) : Nat :=
  bits (s.actFrame r (3532 + 9 * b + i / 512)) (8 * (i % 512) + 7) (8 * (i % 512)) +
  256 * bits (s.actFrame r (3532 + 9 * b + 8)) i i

/-- Write a Cellar block's initial contents: zero, or the image's where the record's INIT is 1 (R165). -/
def State.initCellar (s : State) (r b : Nat) : State :=
  let cleared := Assoc.clearRun (cellarKey r b) 4096 s.fab.cellar
  let m := if bitB (s.cellarRec r b) 18 then
      Assoc.writeRun 0 (cellarKey r b) ((List.range 4096).map (s.cellarInitByte r b)) cleared
    else cleared
  { s with fab := { s.fab with cellar := m } }

/-- Every Larder word of the Room becomes zero with valid check bits (R177). -/
def State.clearLarder (s : State) (r : Nat) : State :=
  { s with fab := { s.fab with larder := Assoc.clearRun (65536 * r) 65536 s.fab.larder } }

/-- Every PAB of the Room has accumulators, banks and flags at 0 (R157). -/
def State.clearPab (s : State) (r : Nat) : State :=
  { s with fab := { s.fab with pab := Assoc.clearRun (96 * r) 96 s.fab.pab } }

/-- The Room's block ports are enabled, with PP_SEL 0 (R157, R170). -/
def State.enablePorts (s : State) (r : Nat) : State :=
  { s with fab := { s.fab with
      portsOn := setBit s.fab.portsOn r
      ppSel := Assoc.clearRun (160 * r) 160 s.fab.ppSel } }

/-- The Room's block ports are disabled: read outputs and PAB results are 0 (R157). -/
def State.disablePorts (s : State) (r : Nat) : State :=
  { s with fab := { s.fab with
      portsOn := clrBit s.fab.portsOn r
      ports := (Assoc.clearRun (320 * r) 320 s.fab.ports).filter (fun e => !(decide (8000 + 32 * r ≤ e.1) && decide (e.1 < 8032 + 32 * r))) } }

/-! ### Pixel Arithmetic Blocks -/

/-- A PAB at its values before Opening (R157). -/
def pabZero : PabSt := ⟨List.replicate 16 0, List.replicate 256 0, false, false, [], 0, 0, 0, [], []⟩

/-- Operand widths in bits and number of lanes of a PAB record (R178, R179). -/
def pabWa (rec_ : Nat) : Nat := 4 * (bits rec_ 2 0 + 1)
/-- Width of operand B. -/
def pabWb (rec_ : Nat) : Nat := 4 * (bits rec_ 5 3 + 1)
/-- Number of lanes L (R179). -/
def pabLanes (rec_ : Nat) : Nat :=
  let a := bits rec_ 2 0 + 1
  let b := bits rec_ 5 3 + 1
  min (min 16 (64 / (a * b))) (min (32 / a) (32 / b))

/-- An operand read as signed or unsigned of width `w`. -/
def opVal (sgn : Bool) (w v : Nat) : Int := if sgn then signed w v else ((v % 2 ^ w : Nat) : Int)

/-- Lane `k`'s operand of width `w` on a port (R180). -/
def laneOp (port w k : Nat) : Nat := bits port (w * (k + 1) - 1) (w * k)

/-- Pre-adder: the value kept to WA bits, and whether the exact result did not fit (R183). -/
def pabPre (rec_ a d : Nat) : Int × Bool :=
  let wa := pabWa rec_
  let sg := bitB rec_ 6
  let x := opVal sg wa a
  let y := opVal sg wa d
  let e := match bits rec_ 9 8 with | 0 => x | 1 => x + y | 2 => x - y | _ => y - x
  let kept := opVal sg wa (encodeInt wa e)
  (kept, decide (kept ≠ e))

/-- The coefficient bank entry (R184). -/
def bankAt (p : PabSt) (k idx : Nat) : Nat := p.bank.getD (16 * k + idx % 16) 0

/-- The coefficient banks after a cycle: with CWE each lane's part of port B enters entry CIDX (R184). -/
def bankNext (rec_ : Nat) (p : PabSt) (i : PabIn) : List Nat :=
  if i.cwe then
    (List.range (pabLanes rec_)).foldl (fun bk k => setAt bk (16 * k + i.cidx % 16) (laneOp i.b (pabWb rec_) k)) p.bank
  else p.bank

/-- The B operand of lane `k` (R178, R184). -/
def pabB (rec_ : Nat) (p : PabSt) (i : PabIn) (k : Nat) : Int :=
  let wb := pabWb rec_
  let raw := if bitB rec_ 10 then (if i.cwe then laneOp i.b wb k else bankAt p k i.cidx) else laneOp i.b wb k
  opVal (bitB rec_ 7) wb raw

/-- Lane products, the pre-adder overflow, and the reduction into lane 0 (R182). -/
def pabProducts (rec_ : Nat) (p : PabSt) (i : PabIn) : List Int × Bool :=
  let n := pabLanes rec_
  let wa := pabWa rec_
  let pre := (List.range n).map (fun k => pabPre rec_ (laneOp i.a wa k) (laneOp i.d wa k))
  let prods := (List.range n).map (fun k => (pre.getD k (0, false)).1 * pabB rec_ p i k)
  let red := if bitB rec_ 12 then (List.range n).map (fun k => if k = 0 then prods.foldl (· + ·) 0 else 0) else prods
  (red, pre.any (fun x => x.2))

/-- An accumulator update kept to 80 bits, and whether it overflowed (R183). -/
def acc80 (v : Int) : Nat × Bool :=
  let e := encodeInt 80 v
  (e, decide (signed 80 e ≠ v))

/-- The accumulators after one cycle, given the cascade inputs (R182). -/
def pabAcc (rec_ : Nat) (p : PabSt) (i : PabIn) (casc : List Nat) : List (Nat × Bool) :=
  let prods := (pabProducts rec_ p i).1
  (List.range 16).map (fun k =>
    let old := p.acc.getD k 0
    if pabLanes rec_ ≤ k then (old, false)
    else
      let c := if bitB rec_ 11 then signed 80 (casc.getD k 0) else 0
      let pr := prods.getD k 0
      match i.opc % 4 with
      | 0 => (old, false)
      | 1 => acc80 (pr + c)
      | 2 => acc80 (signed 80 old + pr + c)
      | _ => acc80 (signed 80 old - pr + c))

/-- The output stage of one lane (R186): the value shown and whether it saturated. -/
def pabOut (rec_ acc : Nat) : Nat × Bool :=
  let v := signed 80 acc
  let sh := bits rec_ 18 13
  let half : Int := ((2 ^ (sh - 1) : Nat) : Int)
  let r : Int :=
    if sh = 0 then v
    else match bits rec_ 20 19 with
      | 0 => v / ((2 ^ sh : Nat) : Int)
      | 1 => (v + half) / ((2 ^ sh : Nat) : Int)
      | _ =>
        let q := v / ((2 ^ sh : Nat) : Int)
        let mm := v % ((2 ^ sh : Nat) : Int)
        if mm > half ∨ (mm = half ∧ q % 2 = 1) then q + 1 else q
  let w := bits rec_ 27 21
  let lo : Int := if bitB rec_ 28 then -((2 ^ (w - 1) : Nat) : Int) else 0
  let hi : Int := if bitB rec_ 28 then ((2 ^ (w - 1) : Nat) : Int) - 1 else ((2 ^ w : Nat) : Int) - 1
  if bitB rec_ 29 then
    if r < lo then (encodeInt w lo, true) else if hi < r then (encodeInt w hi, true) else (encodeInt w r, false)
  else (encodeInt w r, false)

/-- The result port and SAT (R186): lanes from RBASE upward that fit entirely within the port. -/
def pabPort (rec_ : Nat) (acc : List Nat) (rbase : Nat) : Nat × Bool :=
  let w := bits rec_ 27 21
  let n := pabLanes rec_
  let shown := (List.range n).filter (fun k => decide (rbase ≤ k) && decide (w * (k - rbase + 1) ≤ 128))
  (shown.foldl (fun v k => v + (pabOut rec_ (acc.getD k 0)).1 * 2 ^ (w * (k - rbase))) 0,
   shown.any (fun k => (pabOut rec_ (acc.getD k 0)).2))

/-- A PAB's state. -/
def State.pabSt (s : State) (r p : Nat) : PabSt := Assoc.get pabZero (96 * r + p) s.fab.pab

/-- One array cycle of one PAB on operands `i` against the state before the cycle (R182, R185), with its result and SAT (R186): with CE 0 nothing
in the lanes changes. -/
def State.pabArray (s : State) (r : Nat) (i : PabIn) : PabSt × (Nat × Bool) :=
  let rec_ := s.pabRec r i.pab
  let p := s.pabSt r i.pab
  let casc := if i.pab % 32 = 0 then [] else (s.pabSt r (i.pab - 1)).acc
  let accs := pabAcc rec_ p i casc
  let acc := if i.ce then accs.map (·.1) else p.acc
  let pre := i.ce && (pabProducts rec_ p i).2
  let ovf := i.ce && accs.any (·.2)
  ({ p with
    acc := acc
    bank := if i.ce then bankNext rec_ p i else p.bank
    preOvf := (p.preOvf && !i.clrStat) || pre
    accOvf := (p.accOvf && !i.clrStat) || ovf }, pabPort rec_ acc (i.rbase % 16))

/-- A PAB's state after an array cycle at 1:1: the result enters the pipeline of five PAB cycles (R186). -/
def State.pabCycle (s : State) (r : Nat) (i : PabIn) : PabSt :=
  let x := s.pabArray r i
  { x.1 with pipe := (x.2 :: x.1.pipe).take 5 }

/-- The array vector of port A that an array cycle of the group takes at 5:4 (R189): number `k` of the five that the previous group of four
tree cycles brought. -/
def gearVec (p : PabSt) (k : Nat) : Nat := bits p.gearPrev (128 * k + 127) (128 * k)

/-- A PAB's state after one array cycle at 5:4, number `k` of its group. -/
def State.pabGear (s : State) (r : Nat) (i : PabIn) (k : Nat) : PabSt :=
  let x := s.pabArray r { i with a := gearVec (s.pabSt r i.pab) k }
  { x.1 with gearRes := x.1.gearRes ++ [x.2] }

/-- The end of a tree cycle at 5:4: port A's 160 bits are taken, and after the fourth the group's vectors and results move on. -/
def gearStep (p : PabSt) (a : Nat) : PabSt :=
  let v := p.gearIn + a % 2 ^ 160 * 2 ^ (160 * p.phase)
  if p.phase < 3 then { p with phase := p.phase + 1, gearIn := v }
  else { p with phase := 0, gearIn := 0, gearPrev := v, gearRes := [], gearShow := p.gearRes }

/-- The result port and SAT of a PAB (R186, R189): 128 bits after five PAB cycles at 1:1; at 5:4 the 160 bits of this tree cycle of the group,
eight tree cycles after their operands, with SAT where a result shown in part saturated. -/
def pabShows (ratio : Bool) (p : PabSt) : Nat × Bool :=
  if ratio then
    let all := (List.range 5).foldl (fun v k => v + (p.gearShow.getD k (0, false)).1 * 2 ^ (128 * k)) 0
    (bits all (160 * p.phase + 159) (160 * p.phase),
     (List.range 5).any (fun k => (p.gearShow.getD k (0, false)).2 && decide (160 * p.phase < 128 * k + 128) && decide (128 * k < 160 * p.phase + 160)))
  else p.pipe.getD 4 (0, false)

/-- RATIO of a PAB's record. -/
def State.pabRatio (s : State) (r p : Nat) : Bool := bitB (s.pabRec r p) 30

/-- PABs that take a tree cycle: those on a tree that runs (R178, R187). -/
def State.pabRuns (s : State) (r p : Nat) : Bool := s.treeRuns r (bits (s.pabRec r p) 31 31)

/-- New states of some PABs, all computed from the state before. -/
def State.pabPut (s : State) (r : Nat) (l : List (Nat × PabSt)) : State :=
  { s with fab := { s.fab with pab := l.foldl (fun m x => Assoc.put (96 * r + x.1) x.2 m) s.fab.pab } }

/-- One tree cycle of the PABs named, all reading the state before it (R182 to R189): one array cycle, and at 5:4 two in the first tree cycle of
each group of four. While the Room's block ports are disabled the accumulators hold 0 (R157). -/
def execPabCycle (room : Nat) (inp : List PabIn) (s : State) : Host.Outcome State Fault Refusal :=
  if 24 ≤ room ∨ inp.any (fun i => decide (96 ≤ i.pab)) = true then .fault .noSuchUnit
  else if !bitB s.fab.portsOn room || s.blockWork room 2 then ok s
  else
    let live := inp.filter (fun i => s.pabRuns room i.pab)
    let gear := live.filter (fun i => s.pabRatio room i.pab)
    let first := fun (i : PabIn) => (s.pabSt room i.pab).phase == 0
    let s1 := s.pabPut room (live.map (fun i =>
      (i.pab, if s.pabRatio room i.pab then s.pabGear room i (if first i then 0 else (s.pabSt room i.pab).phase + 1) else s.pabCycle room i)))
    let s2 := s1.pabPut room ((gear.filter first).map (fun i => (i.pab, s1.pabGear room i 1)))
    ok (s2.pabPut room (gear.map (fun i => (i.pab, gearStep (s2.pabSt room i.pab) i.a))))

/-- A pulse on CLR_STAT clears PRE_OVF and ACC_OVF (R183); a PAB on a stopped tree samples none. -/
def execPabClearStat (room pab : Nat) (s : State) : Host.Outcome State Fault Refusal :=
  if 24 ≤ room ∨ 96 ≤ pab then .fault .noSuchUnit
  else if !s.pabRuns room pab then ok s
  else ok { s with fab := { s.fab with
      pab := Assoc.put (96 * room + pab) { s.pabSt room pab with preOvf := false, accOvf := false } s.fab.pab } }

end Sys2Proof.Machine
end

