-- ==== Sys2Proof/Machine/Pantry.lean ====
section
/-! DEFINITION. Pantry Flash and OTP (13): bank engines (R428 to R436), settings records (R422 to R424), the boot journal's
pages (R511, R512), OTP rows and their shadow (R441 to R445), and the Pantry and OTP commands. -/

namespace Sys2Proof.Machine

open Reg

/-! ### Bytes -/

/-- A byte of the Pantry: 0xFF where erased (R425). -/
def State.pByte (s : State) (a : Nat) : Nat := Assoc.get 0xFF a s.pantry

/-- `n` Pantry bytes from address `a`. -/
def State.pBytes (s : State) (a n : Nat) : List Nat := (List.range n).map (fun i => s.pByte (a + i))

/-- Write Pantry bytes from address `a`. -/
def State.pWrite (s : State) (a : Nat) (l : List Nat) : State :=
  { s with pantry := Assoc.writeRun 0xFF a (l.map (· % 256)) s.pantry }

/-- Mark the pages of a range as programmed (R428). -/
def State.pMark (s : State) (a n : Nat) : State :=
  { s with pnt := { s.pnt with programmed :=
      (List.range (ceilDiv n 256)).foldl (fun m i => Assoc.write false (a / 256 + i) true m) s.pnt.programmed } }

/-- Erase `n` bytes from a sector-aligned address. -/
def State.pErase (s : State) (a n : Nat) : State :=
  { s with
    pantry := Assoc.clearRun a n s.pantry
    pnt := { s.pnt with programmed := Assoc.clearRun (a / 256) (n / 256) s.pnt.programmed } }

/-- `n` bytes of an undefined content (DESIGN CHOICE, log entry 3). -/
def State.freshBytes (s : State) (n : Nat) : List Nat × State :=
  let (v, s1) := s.fresh
  (leBytes n v, s1)

/-! ### Protection (R436) -/

/-- Mark bit of the region that a Pantry address lies in (Table 13-1). -/
def regionMark (a : Nat) : Option Nat :=
  let b := a / 2 ^ 24
  let o := a % 2 ^ 24
  if o < 0x400000 then some b
  else if o < 0x410000 then some 2
  else if o < 0x420000 then some 3
  else if o < 0x460000 then some 4
  else if o < 0x500000 then none
  else if o < 0x800000 then some 5
  else some (8 + 8 * b + (o - 0x800000) / 0x100000)

/-- A range touches a marked region. -/
def State.marked (s : State) (a n : Nat) : Bool :=
  (List.range (ceilDiv n 65536 + 1)).any (fun i =>
    let x := min (a + 65536 * i) (a + n - 1)
    match regionMark x with
    | none => false
    | some k => bitB (s.get PNT_PROT_MARKS) k)

/-- NVWP_N is at a level: PNT_PROT shows it. -/
def State.setNvwp (s : State) (high : Bool) : State :=
  ({ s with pnt := { s.pnt with nvwp := high } }).set PNT_PROT_NVWP_N (b2n high)

/-! ### Settings records (R422, R423) -/

/-- Offset of a record's span in its bank and the span's length. -/
def settingsSpan (kind : Nat) : Nat × Nat :=
  match kind with
  | 1 => (0x400000, 0x1000)
  | 2 => (0x401000, 0x1000)
  | 3 => (0x402000, 0x2000)
  | _ => (0x404000, 0x4000)

/-- The copy of a record in bank `b`: its SEQ and body where it is valid. -/
def State.settingsCopy (s : State) (b kind : Nat) : Option (Nat × List Nat) :=
  let a := 2 ^ 24 * b + (settingsSpan kind).1
  let h := s.pBytes a 16
  let len := leField h 6 2
  if leField h 0 4 = 0x44524350 ∧ leField h 4 1 = kind ∧ leField h 5 1 = 1 ∧ len + 256 ≤ (settingsSpan kind).2 then
    let body := s.pBytes (a + 256) len
    if crc32 (h.take 12 ++ body) = leField h 12 4 then some (leField h 8 4, body) else none
  else none

/-- SEQ `x` is higher than `y` modulo 2³² (R423). -/
def seqAbove (x y : Nat) : Bool := decide ((x + (2 ^ 32 - y % 2 ^ 32)) % 2 ^ 32 < 2 ^ 31) && x != y

/-- The body of a record: that of its valid copy with the higher SEQ; none where the record is missing. -/
def State.settingsRead (s : State) (kind : Nat) : Option (List Nat) :=
  match s.settingsCopy 0 kind, s.settingsCopy 1 kind with
  | none, none => none
  | some x, none => some x.2
  | none, some y => some y.2
  | some x, some y => some (if seqAbove y.1 x.1 then y.2 else x.2)

/-- Firmware updates a record: it rewrites the copy that is invalid or older, with SEQ one above the other's (R423). A copy
under a mark is not written while NVWP_N is low (R436). -/
def State.settingsWrite (s : State) (kind : Nat) (body : List Nat) : State :=
  let c0 := s.settingsCopy 0 kind
  let c1 := s.settingsCopy 1 kind
  let (b, seq) := match c0, c1 with
    | none, none => (0, 0)
    | none, some y => (0, y.1 + 1)
    | some x, none => (1, x.1 + 1)
    | some x, some y => if seqAbove y.1 x.1 then (0, y.1 + 1) else (1, x.1 + 1)
  let span := settingsSpan kind
  let a := 2 ^ 24 * b + span.1
  if s.marked a span.2 && !s.pnt.nvwp then s
  else
    let h := leBytes 4 0x44524350 ++ [kind, 1] ++ leBytes 2 body.length ++ leBytes 4 (seq % 2 ^ 32)
    let crc := crc32 (h ++ body)
    let s1 := ((s.pErase a span.2).pWrite (a + 256) body).pMark (a + 256) body.length
    (s1.pWrite a (h ++ leBytes 4 crc)).pMark a 16

/-! ### Boot journal (R511, R512) -/

/-- A valid journal entry of half `b`, page `p`. -/
def State.journalEntry (s : State) (b p : Nat) : Option (List Nat) :=
  let a := 2 ^ 24 * b + 0x420000 + 256 * p
  if s.pByte a = 0x42 then
    let e := s.pBytes a 32
    if leField e 0 4 = 0x4E524A42 ∧ crc32 (e.take 28) = leField e 28 4 then some e else none
  else none

/-- Every valid journal entry of both halves. -/
def State.journal (s : State) : List (List Nat) :=
  (List.range 2048).filterMap (fun i => s.journalEntry (i / 1024) (i % 1024))

/-- Write the next journal entry of this start: its sector is erased first where the page is the sector's first (R512). -/
def State.journalWrite (s : State) (step method result detail room plane : Nat) : State :=
  let a := 2 ^ 24 * s.boot.half + 0x420000 + 256 * s.boot.page
  if s.marked a 256 && !s.pnt.nvwp then s
  else
    let us := (s.now + (2 ^ 64 - s.boot.time0 % 2 ^ 64)) % 2 ^ 64 / 256000
    let e := leBytes 4 0x4E524A42 ++ leBytes 4 s.boot.seq ++ [step, method, result, s.boot.kind] ++ leBytes 4 detail ++
      leBytes 4 us ++ [room, plane, 0, 0, 0, 0, 0, 0]
    let s1 := if s.boot.page % 16 = 0 then s.pErase a 4096 else s
    let s2 := (s1.pWrite a (e ++ leBytes 4 (crc32 e))).pMark a 32
    { s2 with boot := { s2.boot with page := (s2.boot.page + 1) % 1024 } }

/-! ### Bank engines -/

/-- A bank's engine. -/
def State.pBank (s : State) (b : Nat) : PntBank := s.pnt.banks.getD b ⟨0, 0, 0, []⟩

/-- Replace a bank's engine. -/
def State.setPBank (s : State) (b : Nat) (k : PntBank) : State :=
  { s with pnt := { s.pnt with banks := setAt s.pnt.banks b k } }

/-- Both banks are IDLE. -/
def State.pIdle (s : State) : Bool := s.geti PNT_B_STAT_STATE 0 == 0 && s.geti PNT_B_STAT_STATE 1 == 0

/-- A held clear of the fetch-lock takes effect when both banks are IDLE (R435). -/
def State.lockCheck (s : State) : State :=
  if s.flag PNT_FLOCK_CLR_PENDING && s.pIdle then (s.set PNT_FLOCK_CLR_PENDING 0).set PNT_FLOCK_LOCK 0 else s

/-- The refusal code of a PROGRAM (Table 13-5), 0 where it is accepted, tried in the table's order. -/
def State.progRefusal (s : State) (b off : Nat) (vaux : Bool) : Nat :=
  let st := s.geti PNT_B_STAT_STATE b
  let a := 2 ^ 24 * b + off
  let k := s.pBank b
  if s.flag PNT_XBANK_VALID && s.get PNT_XBANK_BANK == b && !s.flag PNT_FLOCK_LOCK then 1
  else if !s.pnt.nvwp && s.marked a 256 then 2
  else if st = 1 ∨ st = 2 ∨ st = 4 then 3
  else if off % 256 ≠ 0 then 4
  else if Assoc.get false (a / 256) s.pnt.programmed then 5
  else if st = 3 ∧ k.er - s.geti PNT_B_STAT_ERASED b ≤ off / 4096 ∧ off / 4096 < k.er + k.erLeft then 6
  else if !vaux then 9
  else 0

/-- The refusal code of an ERASE of `n` sectors. -/
def State.eraseRefusal (s : State) (b off n : Nat) (vaux : Bool) : Nat :=
  let a := 2 ^ 24 * b + off
  if s.flag PNT_XBANK_VALID && s.get PNT_XBANK_BANK == b && !s.flag PNT_FLOCK_LOCK then 1
  else if !s.pnt.nvwp && s.marked a (4096 * n) then 2
  else if s.geti PNT_B_STAT_STATE b ≠ 0 then 3
  else if off % 4096 ≠ 0 ∨ 4096 < off / 4096 + n ∨ 4096 < n then 4
  else if !vaux then 9
  else 0

/-- Start a page program of `data`; a refusal sets ERR and nothing starts (R431). -/
def State.startProgram (s : State) (b off : Nat) (data : List Nat) (vaux : Bool) : State × Nat :=
  let e := s.progRefusal b off vaux
  if e ≠ 0 then (s.seti PNT_B_STAT_ERR b e, e)
  else
    let st := if s.geti PNT_B_STAT_STATE b = 3 then 4 else 1
    (((s.setPBank b { s.pBank b with prog := off, data := data }).seti PNT_B_STAT_ERR b 0).seti PNT_B_STAT_STATE b st, 0)

/-- Start an erase of `n` sectors. -/
def State.startErase (s : State) (b off n : Nat) (vaux : Bool) : State × Nat :=
  let e := s.eraseRefusal b off n vaux
  if e ≠ 0 then (s.seti PNT_B_STAT_ERR b e, e)
  else
    (((((s.setPBank b { s.pBank b with er := off / 4096, erLeft := n }).seti PNT_B_STAT_ERR b 0).seti PNT_B_STAT_SUSP_CNT b 0).seti
      PNT_B_STAT_ERASED b 0).seti PNT_B_STAT_STATE b 2, 0)

/-- KMI status of a Pantry error code (Table 13-5). -/
def pntStatus (e : Nat) : Nat :=
  match e with
  | 0 => stOk
  | 1 => stSelfBank
  | 2 => stBadState
  | 3 => stBusy
  | 4 => stBadArg
  | 5 => stBadArg
  | 6 => stBadState
  | 7 => stBusy
  | _ => stHwFault

/-- The page buffer of a bank as bytes. -/
def State.pageBuf (s : State) (b : Nat) : List Nat := (List.range 64).flatMap (fun w => leBytes 4 (s.get2 PNT_B_PAGE b w))

/-- The PROGRAM operation of PNT_B*b*_CMD (R428, R431). -/
def execPntProgram (b : Nat) (nvwp vaux : Bool) (s : State) : Host.Outcome State Fault Refusal :=
  if 2 ≤ b then .fault .noSuchUnit
  else
    let s0 := s.setNvwp nvwp
    ok (s0.startProgram b (s0.geti PNT_B_ADDR_OFFSET b) (s0.pageBuf b) vaux).1

/-- The ERASE operation of PNT_B*b*_CMD; SECTORS 0 acts as 1. -/
def execPntErase (b : Nat) (nvwp vaux : Bool) (s : State) : Host.Outcome State Fault Refusal :=
  if 2 ≤ b then .fault .noSuchUnit
  else
    let s0 := s.setNvwp nvwp
    ok (s0.startErase b (s0.geti PNT_B_ADDR_OFFSET b) (max 1 (s0.geti PNT_B_COUNT_SECTORS b)) vaux).1

/-- What a read of `n` bytes from address `a` returns: 0xFF in a sector whose erase is suspended, which sets SUSP_READ (R427). -/
def State.pantryData (s : State) (a n : Nat) : List Nat × State :=
  let b := a / 2 ^ 24
  let st := s.geti PNT_B_STAT_STATE b
  let susp := fun (x : Nat) => (st == 3 || st == 4) && x / 4096 == 4096 * b + (s.pBank b).er
  ((List.range n).map (fun i => if susp (a + i) then 0xFF else s.pByte (a + i)),
    if (List.range n).any (fun i => susp (a + i)) then s.seti PNT_B_STAT_SUSP_READ b 1 else s)

/-- A read of a bank goes on: neither a program nor an erase of it runs (R427). -/
def State.pReadable (s : State) (b : Nat) : Bool := s.geti PNT_B_STAT_STATE b == 0 || s.geti PNT_B_STAT_STATE b == 3

/-- An uncorrectable word is counted, kept and recorded (R426). -/
def State.pantryUe (s : State) (w : Nat) : State :=
  (((s.inc PNT_ERR_CNT_UE).set PNT_LAST_UE_ADDR w).set PNT_LAST_UE_VALID 1).ledger 0x0803 (w % 2 ^ 25)

/-- A PANTRY_READ that waited for a bank completes once the bank can be read (R427). -/
def State.pantryWaiter (s : State) (b : Nat) : State :=
  if !s.pReadable b then s
  else match s.kmi.running.find? (runIs 0x0810 (b + 1)) with
    | none => s
    | some r =>
      let (data, s1) := s.pantryData (r.cmd.a0 % 2 ^ 25) (r.cmd.a1 % 2 ^ 24)
      s1.kmiResolve (runIs 0x0810 (b + 1)) stOk 0 [] data

/-- SUSPEND by the bank's state (Table 13-6); the 65th suspend of an erase is refused (R432). -/
def State.pSuspend (s : State) (b : Nat) : State :=
  match s.geti PNT_B_STAT_STATE b with
  | 1 => s.seti PNT_B_STAT_ERR b 7
  | 2 =>
    if s.geti PNT_B_STAT_SUSP_CNT b = 64 then s.seti PNT_B_STAT_ERR b 7
    else ((s.inci PNT_B_STAT_SUSP_CNT b).seti PNT_B_STAT_STATE b 3).seti PNT_B_STAT_ERR b 0
  | 4 => s.seti PNT_B_STAT_ERR b 7
  | _ => s

/-- RESUME by the bank's state (Table 13-6); a protected range is refused at the resume (R436). -/
def State.pResume (s : State) (b : Nat) : State :=
  match s.geti PNT_B_STAT_STATE b with
  | 3 =>
    let k := s.pBank b
    if !s.pnt.nvwp && s.marked (2 ^ 24 * b + 4096 * k.er) (4096 * k.erLeft) then s.seti PNT_B_STAT_ERR b 2
    else (s.seti PNT_B_STAT_STATE b 2).seti PNT_B_STAT_ERR b 0
  | 4 => s.seti PNT_B_STAT_ERR b 3
  | _ => s

/-- The SUSPEND operation. -/
def execPntSuspend (b : Nat) (s : State) : Host.Outcome State Fault Refusal :=
  if 2 ≤ b then .fault .noSuchUnit else ok ((s.pSuspend b).pantryWaiter b)

/-- The RESUME operation, with the level of NVWP_N it samples. -/
def execPntResume (b : Nat) (nvwp : Bool) (s : State) : Host.Outcome State Fault Refusal :=
  if 2 ≤ b then .fault .noSuchUnit else ok ((s.setNvwp nvwp).pResume b)

/-- End a firmware job with a status (R414). -/
def State.endJob (s : State) (j : PntJob) (st : Nat) : State :=
  let op := if j.kind = 0 then 0x0811 else if j.kind = 1 then 0x0812 else 0x0813
  let s1 := { s with pnt := { s.pnt with jobs := s.pnt.jobs.filter (fun x => x != j) } }
  s1.kmiResolve (runIs op j.mbx) st 0 (if j.kind = 2 then [j.bank] else []) []

/-- Carry the bank's firmware job on after an operation with error code `e`: the next page, or its end. -/
def State.nextJob (s : State) (b e : Nat) : State :=
  match s.pnt.jobs.find? (fun j => j.bank == b) with
  | none => s
  | some j =>
    if e ≠ 0 then s.endJob j (pntStatus e)
    else if j.data.isEmpty then s.endJob j stOk
    else
      let page := j.data.take 256 ++ List.replicate (256 - (j.data.take 256).length) 0xFF
      let (s1, e1) := s.startProgram b j.addr page true
      if e1 ≠ 0 then s1.endJob j (pntStatus e1)
      else { s1 with pnt := { s1.pnt with jobs := s1.pnt.jobs.map (fun x =>
          if x = j then { j with addr := j.addr + 256, data := j.data.drop 256 } else x) } }

/-- IAS address of Pantry bank `b` in the execute-in-place window (Table 12-1). -/
def xipBase (b : Nat) : Nat := 0x10000000 + 0x1000000 * b

/-- An instruction fetch from the Pantry window fills the cache (R383): 32 KiB, 2 ways of 256 sets of 64-byte lines; the older line of a full set
goes (PRESUMED, log entry 42). Nothing is cached while ICACHE_EN is 0. -/
def State.icacheFetch (s : State) (addr : Nat) : State :=
  if !s.flag KMI_CTRL_ICACHE_EN || decide (addr < xipBase 0) || decide (xipBase 2 ≤ addr) then s
  else
    let line := addr / 64
    let ways := Assoc.get [] (line % 256) s.kmi.icache
    { s with kmi := { s.kmi with icache := Assoc.put (line % 256) (line :: (ways.filter (· != line)).take 1) s.kmi.icache } }

/-- Every cache line of a Pantry bank is invalidated when a program or erase of it completes (R383). -/
def State.icacheBank (s : State) (b : Nat) : State :=
  { s with kmi := { s.kmi with
    icache := (s.kmi.icache.map (fun e => (e.1, e.2.filter (fun l => decide (64 * l < xipBase b) || decide (xipBase (b + 1) ≤ 64 * l))))).filter
      (fun e => !e.2.isEmpty) } }

/-- KMI_CTRL.ICACHE_INV, and a reset of the core: the cache is empty. -/
def State.icacheClear (s : State) : State := { s with kmi := { s.kmi with icache := [] } }

/-- A page program and its verify end (R429): the page holds the data, or an undefined content where the verify failed
twice. -/
def execPntProgramDone (b : Nat) (verified : Bool) (s : State) : Host.Outcome State Fault Refusal :=
  if 2 ≤ b then .fault .noSuchUnit
  else
    let st := s.geti PNT_B_STAT_STATE b
    if st = 1 ∨ st = 4 then
      let k := s.pBank b
      let a := 2 ^ 24 * b + k.prog
      let (bytes, s0) := if verified then (k.data, s) else s.freshBytes 256
      let s1 := (s0.pWrite a bytes).pMark a 256
      let s2 := ((s1.seti PNT_B_STAT_STATE b (if st = 4 then 3 else 0)).seti PNT_B_STAT_DONE b 1).icacheBank b
      let s3 := if verified then s2 else (s2.seti PNT_B_STAT_ERR b 8).ledger 0x0804 a
      ok (((s3.pantryWaiter b).nextJob b (if verified then 0 else 8)).lockCheck)
    else ok s

/-- One sector of an erase completes and verifies (R428, R429); the erase continues or ends. A sector that fails its verify twice holds an undefined
content, and the rest of the range stays unerased. -/
def execPntSectorErased (b : Nat) (verified : Bool) (s : State) : Host.Outcome State Fault Refusal :=
  if 2 ≤ b then .fault .noSuchUnit
  else if s.geti PNT_B_STAT_STATE b = 2 then
    let k := s.pBank b
    let a := 2 ^ 24 * b + 4096 * k.er
    if verified then
      let s1 := ((s.pErase a 4096).inci PNT_B_STAT_ERASED b).setPBank b { k with er := k.er + 1, erLeft := k.erLeft - 1 }
      if k.erLeft ≤ 1 then
        ok ((((((s1.seti PNT_B_STAT_STATE b 0).seti PNT_B_STAT_DONE b 1).icacheBank b).pantryWaiter b).nextJob b 0).lockCheck)
      else ok s1
    else
      let (u, s0) := s.freshBytes 4096
      let s1 := ((((s0.pWrite a u).seti PNT_B_STAT_STATE b 0).seti PNT_B_STAT_DONE b 1).seti PNT_B_STAT_ERR b 8).icacheBank b
      ok ((((s1.ledger 0x0804 a).pantryWaiter b).nextJob b 8).lockCheck)
  else ok s

/-- A write of PNT_FLOCK.LOCK (R433, R435). -/
def execFetchLockWrite (lock : Bool) (s : State) : Host.Outcome State Fault Refusal :=
  if lock then ok ((s.set PNT_FLOCK_LOCK 1).set PNT_FLOCK_CLR_PENDING 0)
  else if s.pIdle then ok (s.set PNT_FLOCK_LOCK 0)
  else if s.flag PNT_FLOCK_LOCK then ok (s.set PNT_FLOCK_CLR_PENDING 1)
  else ok s

/-! ### OTP -/

/-- A row of the OTP. -/
def State.otpRow (s : State) (r : Nat) : List Nat := Assoc.readRun 0 (128 * r) 128 s.otp

/-- A single-write row (Table 13-7). -/
def otpSingle (r : Nat) : Bool :=
  r == 0 || r == 1 || decide (6 ≤ r ∧ r ≤ 11) || decide (16 ≤ r ∧ r ≤ 38) || decide (48 ≤ r)

/-- A single-write row is valid: its CRC checks (R442). -/
def rowValid (l : List Nat) : Bool := crc32 (l.take 124) == leField l 124 4 && !(l.all (· == 0))

/-- What a read of a row returns: zeros where R443 and R444 withhold. -/
def otpShown (r : Nat) (l : List Nat) : List Nat :=
  if r = 5 ∨ r = 6 ∨ (12 ≤ r ∧ r ≤ 15) ∨ (39 ≤ r ∧ r ≤ 47) then List.replicate 128 0
  else if 16 ≤ r ∧ r ≤ 31 ∧ l.getD 0 0 = 1 then l.take 4 ++ List.replicate 96 0 ++ l.drop 100
  else l

/-- Set the 1 bits of `data` in a row (R441). -/
def State.otpSet (s : State) (r : Nat) (data : List Nat) : State :=
  let old := s.otpRow r
  { s with otp := Assoc.writeRun 0 (128 * r) ((List.range 128).map (fun i => old.getD i 0 ||| data.getD i 0 % 256)) s.otp }

/-- OTP_BUF as bytes. -/
def State.otpBuf (s : State) : List Nat := (List.range 32).flatMap (fun w => leBytes 4 (s.geti OTP_BUF w))

/-- Load OTP_BUF. -/
def State.setOtpBuf (s : State) (l : List Nat) : State :=
  (List.range 32).foldl (fun st w => st.seti OTP_BUF w (leField l (4 * w) 4)) s

/-- The READ operation: the row, with withheld positions 0, into OTP_BUF (R447). -/
def execOtpCmdRead (row : Nat) (s : State) : Host.Outcome State Fault Refusal :=
  if 64 ≤ row then .fault .noSuchUnit
  else if s.flag OTP_STAT_BUSY then ok s
  else
    let l := s.otpRow row
    ok ((((s.set OTP_CMD_ROW row).setOtpBuf (otpShown row l)).set OTP_STAT_ROW_VALID (b2n (otpSingle row && rowValid l))).set OTP_STAT_ERR 0)

/-- The error an OTP program meets before it starts: 1 a bit would clear, 2 the row is already valid, 4 supply (R441, R442). -/
def State.otpRefusal (s : State) (row : Nat) (data : List Nat) (vaux : Bool) : Nat :=
  let old := s.otpRow row
  if (List.range 128).any (fun i => (old.getD i 0 ||| data.getD i 0) != data.getD i 0) then 1
  else if otpSingle row && rowValid old then 2
  else if !vaux then 4
  else 0

/-- The PROGRAM operation: OTP_BUF into a row (R441). -/
def execOtpCmdProgram (row : Nat) (vaux : Bool) (s : State) : Host.Outcome State Fault Refusal :=
  if 64 ≤ row then .fault .noSuchUnit
  else if s.flag OTP_STAT_BUSY then ok s
  else
    let e := s.otpRefusal row s.otpBuf vaux
    let s1 := (s.set OTP_CMD_ROW row).set OTP_STAT_ERR e
    if e ≠ 0 then ok s1
    else ok ({ s1 with pnt := { s1.pnt with otp := some (row, s1.otpBuf, 0) } }.set OTP_STAT_BUSY 1)

/-- An OTP program ends, verified or not (R441): where it is not, any of the bits to program may hold (DESIGN CHOICE, log entry 3). -/
def State.otpEnd (s : State) (verified : Bool) : State :=
  match s.pnt.otp with
  | none => s
  | some (row, data, mb) =>
    let s1 := ({ s with pnt := { s.pnt with otp := none } }).set OTP_STAT_BUSY 0
    if verified then
      (s1.otpSet row data).kmiResolve (fun c => runOp 0x0819 c && c.key + 1 == mb || runOp 0x0A06 c && c.key + 1 == mb) stOk 0 [] []
    else
      let (u, s2) := s1.freshBytes 128
      let s3 := s2.otpSet row ((List.range 128).map (fun i => data.getD i 0 &&& u.getD i 0))
      ((s3.set OTP_STAT_ERR 3).ledger 0x0806 row).kmiResolve
        (fun c => runOp 0x0819 c && c.key + 1 == mb || runOp 0x0A06 c && c.key + 1 == mb) stHwFault 0 [] []

/-- The load order of the shadow registers: rows 0 to 4, then 32 to 55 (Table 13-10). -/
def shadowRows : List Nat := List.range 5 ++ (List.range 24).map (· + 32)

/-- A row of the shadow registers. -/
def State.shadowRow (s : State) (r : Nat) : List Nat := Assoc.readRun 0 (128 * r) 128 s.pnt.shadow

/-- Load the shadow registers (R445): a bad single-write row counts as blank, for its consumers use their defaults. -/
def State.shadowLoad (s : State) : State :=
  let bad := shadowRows.filter (fun r => otpSingle r && !rowValid (s.otpRow r) && !((s.otpRow r).all (· == 0)))
  let sh := shadowRows.foldl (fun m r =>
    if bad.contains r then m else Assoc.writeRun 0 (128 * r) (s.otpRow r) m) ([] : Assoc Nat)
  let s1 := { s with pnt := { s.pnt with shadow := sh } }
  let mask := maskOf ((List.range 29).filter (fun n => bad.contains (shadowRows.getD n 0)))
  let s2 := ((s1.set OTP_LOAD_DONE 1).set OTP_LOAD_BAD mask).set PNT_PROT_MARKS (leField (s1.shadowRow 4) 0 3)
  bad.foldl (fun st r => st.ledger 0x0807 r) s2

/-- The shadow load at MGMT release (R445). -/
def execOtpShadowLoad (s : State) : Host.Outcome State Fault Refusal := ok s.shadowLoad

/-! ### KMI -/

/-- PANTRY_READ (R414, R426): the words at `retryAt` need read-retry, and the word at `ueAt` stays uncorrectable after it; without RETRY_EN all of
them are uncorrectable. An uncorrectable word reads as an undefined content. A read of a bank whose program or erase runs waits (R427). -/
def execPantryRead (m : Nat) (retryAt : List Nat) (ueAt : Option Nat) (s : State) : Host.Outcome State Fault Refusal :=
  kmiCommand 0x0810 m (fun cmd s =>
    let a := cmd.a0 % 2 ^ 25
    let n := cmd.a1 % 2 ^ 24
    if 2 ^ 25 < a + n then .fin s stBadArg 0 [] []
    else if !s.pReadable (a / 2 ^ 24) then .run s false (a / 2 ^ 24 + 1)
    else
      let retry := s.flag PNT_CTRL_RETRY_EN
      let ues := (if retry then [] else retryAt) ++ ueAt.toList
      let (data, s0) := s.pantryData a n
      let s1 := if retry then s0.addi PNT_ERR_CNT_RETRY 0 retryAt.length else s0
      let (shown, s2) := ues.foldl (fun (p : List Nat × State) w =>
        let (u, st) := p.2.freshBytes 8
        ((List.range n).map (fun i => if (a + i) / 8 = w / 8 then u.getD ((a + i) % 8) 0 else p.1.getD i 0), st.pantryUe w)) (data, s1)
      .fin s2 (if ues.isEmpty then stOk else stHwFault) 0 [] shown) s

/-- PANTRY_PROGRAM (R414, R428): whole pages, one after the other. -/
def execPantryProgram (m : Nat) (s : State) : Host.Outcome State Fault Refusal :=
  kmiCommand 0x0811 m (fun cmd s =>
    let a := cmd.a0 % 2 ^ 25
    let n := cmd.dataIn.length
    let b := a / 2 ^ 24
    if a % 256 ≠ 0 ∨ n % 256 ≠ 0 ∨ n = 0 ∨ 2 ^ 24 < a % 2 ^ 24 + n then .fin s stBadArg 0 [] []
    else if !s.pnt.nvwp && s.marked a n then .fin s stBadState 0 [] []
    else
      let (s1, e) := s.startProgram b (a % 2 ^ 24) (cmd.dataIn.take 256) true
      if e ≠ 0 then .fin s1 (pntStatus e) 0 [] []
      else .run { s1 with pnt := { s1.pnt with jobs := s1.pnt.jobs ++ [⟨m, b, 0, a % 2 ^ 24 + 256, cmd.dataIn.drop 256⟩] } } false m) s

/-- PANTRY_ERASE (R414, R428). -/
def execPantryErase (m : Nat) (s : State) : Host.Outcome State Fault Refusal :=
  kmiCommand 0x0812 m (fun cmd s =>
    let a := cmd.a0 % 2 ^ 25
    let b := a / 2 ^ 24
    let (s1, e) := s.startErase b (a % 2 ^ 24) (max 1 (cmd.a1 % 2 ^ 13)) true
    if e ≠ 0 then .fin s1 (pntStatus e) 0 [] []
    else .run { s1 with pnt := { s1.pnt with jobs := s1.pnt.jobs ++ [⟨m, b, 1, 0, []⟩] } } false m) s

/-- FW_UPDATE (R414, R437): the image, once its signature verifies, goes to the copy that is not running: its sectors are
erased, then its pages programmed. -/
def execFwUpdate (m : Nat) (s : State) : Host.Outcome State Fault Refusal :=
  kmiCommand 0x0813 m (fun cmd s =>
    let b := 1 - s.kmi.copy
    let n := cmd.dataIn.length
    if n = 0 ∨ 0x400000 < n then .fin s stBadArg 0 [] []
    else if !Config.fwOk cmd.dataIn then .fin s stAuthFail 0 [] []
    else
      let (s1, e) := s.startErase b 0 (ceilDiv n 4096) true
      if e ≠ 0 then .fin s1 (pntStatus e) 0 [] []
      else .run { s1 with pnt := { s1.pnt with jobs := s1.pnt.jobs ++ [⟨m, b, 2, 0, cmd.dataIn⟩] } } false m) s

/-- OTP_READ (R414, R443, R444). -/
def execOtpRead (m : Nat) (s : State) : Host.Outcome State Fault Refusal :=
  kmiCommand 0x0818 m (fun cmd s =>
    let r := bits cmd.a0 5 0
    .fin s stOk 0 [] (otpShown r (s.otpRow r))) s

/-- OTP_PROGRAM (R414, R441, R442, R545): the row is programmed and the command completes at the end of the programming. -/
def execOtpProgram (m : Nat) (s : State) : Host.Outcome State Fault Refusal :=
  kmiCommand 0x0819 m (fun cmd s =>
    let r := bits cmd.a0 5 0
    if cmd.dataIn.length ≠ 128 then .fin s stBadArg 0 [] []
    else if s.flag OTP_STAT_BUSY then .fin s stBusy 0 [] []
    else
      let e := s.otpRefusal r cmd.dataIn true
      if e ≠ 0 then .fin (s.set OTP_STAT_ERR e) stBadArg 0 [] []
      else .run ({ s with pnt := { s.pnt with otp := some (r, cmd.dataIn, m + 1) } }.set OTP_STAT_BUSY 1) false m) s

end Sys2Proof.Machine
end

