-- ==== Sys2Proof/Machine/Ports.lean ====
section
/-! DEFINITION. Room ports at their Doors (R13, R145 to R147): which Doors a port needs, when it is closed, when it holds O_READY at 0, and the
handshake by which inbound words reach the Room and outbound words leave it. -/

namespace Sys2Proof.Machine

open Reg

/-! ### Rings as their ports see them -/

/-- A ring with nothing taken, held or pending. -/
def RingSt.init : RingSt := ⟨[], none, [], [], [], false, 0, none, false, false, [], false, []⟩

/-- Ring state. -/
def State.ring (s : State) (r : Nat) : RingSt := Assoc.get RingSt.init r s.rings

/-- Replace a ring's state. -/
def State.setRing (s : State) (r : Nat) (k : RingSt) : State := { s with rings := Assoc.put r k s.rings }

/-- STATE of a ring (Table 08-1). -/
def State.ringState (s : State) (r : Nat) : Nat := s.geti DRG_CTX_CTRL_STATE r

/-- Rings that are not DISABLED: those that hold a binding (R250; DEDUCED, log entry 11). -/
def State.boundRings (s : State) : List Nat := (s.rings.map (·.1)).filter (fun r => s.ringState r != 0)

/-- The CQ has no free entry: it holds at most its size minus one. -/
def State.cqFull (s : State) (r : Nat) : Bool :=
  (s.geti DRG_CTX_CQ_PI r + 1) % 2 ^ s.geti DRG_CTX_SIZE_CQ_LOG2 r == s.geti DRG_CTX_CQ_CI r

/-- The port holds O_READY at 0: an ENABLED ring on it is stalled and still lacks a descriptor or CQ space (R263), or 64 reads of the port are
outstanding and a further one came (R291). -/
def State.portStalled (s : State) (room port : Nat) : Bool :=
  (Assoc.find? (8 * room + port) s.dmc.readHold).isSome ||
  s.boundRings.any (fun r => s.geti DRG_CTX_BIND_ROOM r == room && s.geti DRG_CTX_BIND_PORT r == port && s.ringState r == 1 &&
    (s.ring r).stalled && ((s.ring r).descs.isEmpty || s.cqFull r))

/-! ### Doors of a port (Table 04-10, Table 04-13) -/

/-- First Door of a port's four blocks: outbound data, inbound data, outbound control, inbound control. -/
def portDoor (port blk : Nat) : Nat := 320 * port + (match blk with | 0 => 0 | 1 => 128 | 2 => 256 | _ => 288)

/-- The group of a Door is used in the Room's active image (R139). -/
def State.doorUsed (s : State) (r d : Nat) : Bool := bitB (s.doorRec r (d / 4)) 0

/-- The image declares the Doors without which no word transfers: O_VALID's group, and the group of O_READY and I_VALID (R13, R139). -/
def State.portDeclared (s : State) (room port : Nat) : Bool :=
  s.doorUsed room (portDoor port 2) && s.doorUsed room (portDoor port 3)

/-- A port presents nothing outbound and takes nothing inbound: its Doors are clamped or not declared, or its domains HOST or MEM are off
(R13, R143 to R145). -/
def State.portClosed (s : State) (room port : Nat) : Bool :=
  s.roomClamped room || s.handClamped room (portDoor port 2) || !s.domOn 26 || !s.domOn 27 || !s.portDeclared room port

/-- Key of a port. -/
def portKey' (room port : Nat) : Nat := 8 * room + port

/-- The Room accepts inbound words: the tree of its port Doors runs, and I_READY at its outbound Door is 1 (R147). -/
def State.iReady (s : State) (room port : Nat) : Bool :=
  s.treeRuns room (bits (s.doorRec room (portDoor port 2 / 4 + 3)) 2 2) && !s.portClosed room port &&
  s.doorLink room (portDoor port 2 + 12) == 1

/-- The control and data bits of an inbound word as the port drives them: data in [127:0], Table 04-13's control word from bit 128. -/
def inBits (w : PortWord) (ready valid : Bool) : Nat :=
  leNat (sliceBytes w.data 0 16) +
  2 ^ 128 * (b2n ready + 2 * b2n valid + 4 * b2n w.last + 8 * (w.kind % 4) + 32 * b2n w.err + 2 ^ 8 * (w.stream % 256))

/-- What a port drives on its inbound links: the oldest word it holds with I_VALID, else O_READY alone. -/
def State.portLink (s : State) (room port : Nat) : Nat :=
  match Assoc.get [] (portKey' room port) s.fab.portQ with
  | w :: _ => inBits w (!s.portStalled room port) true
  | [] => 2 ^ 128 * b2n (!s.portStalled room port)

/-- The bit of a port's inbound links that reaches Door `d` (320p + 128 to 255 data, 320p + 288 to 319 control). -/
def inBitOf (v d : Nat) : Nat :=
  let n := d % 320
  if n < 256 then bits v (n - 128) (n - 128) else bits v (n - 288 + 128) (n - 288 + 128)

/-- The port's inbound Doors that capture every cycle: used and not TICK_SAMPLE. -/
def State.portInDoors (s : State) (room port : Nat) : List Nat :=
  (((List.range 128).map (fun n => portDoor port 1 + n)) ++ ((List.range 32).map (fun n => portDoor port 3 + n))).filter (fun d =>
    s.doorUsed room d && !bitB (s.doorRec room (d / 4)) 3)

/-- A word transfers inbound: the Room's Doors hold it, and it is logged. -/
def State.deliver (s : State) (room port : Nat) (w : PortWord) : State :=
  let v := inBits w (!s.portStalled room port) true
  (s.putDoors ((s.portInDoors room port).map (fun d => (4096 * room + d, inBitOf v d)))).emit
    (.roomWord room port w.kind w.stream w.last w.err w.data)

/-- Every word the port holds transfers, while the Room accepts words (R147). -/
def State.portPump (s : State) (room port : Nat) : State :=
  if s.iReady room port then
    let q := Assoc.get [] (portKey' room port) s.fab.portQ
    q.foldl (fun st w => st.deliver room port w)
      { s with fab := { s.fab with portQ := Assoc.write [] (portKey' room port) [] s.fab.portQ } }
  else s

/-- Words for a Room: the port holds them until the Room accepts them (R147, R266). -/
def State.toRoom (s : State) (room port : Nat) (ws : List PortWord) : State :=
  let q := Assoc.get [] (portKey' room port) s.fab.portQ ++ ws
  ({ s with fab := { s.fab with portQ := Assoc.write [] (portKey' room port) q s.fab.portQ } }).portPump room port

/-- Every port of every Room is tried. -/
def State.portPumpAll (s : State) : State :=
  s.fab.portQ.foldl (fun st e => st.portPump (e.1 / 8) (e.1 % 8)) s

/-- The bits of an outbound word at the Room's Doors (Table 04-13): data in [127:0], control from bit 128, I_READY left out. -/
def outBits (kind slot data be : Nat) (last : Bool) : Nat :=
  data % 2 ^ 128 + 2 ^ 128 * (1 + 2 * b2n last + 4 * (kind % 4) + 16 * (slot % 256) + 2 ^ 16 * (be % 2 ^ 16))

/-- An outbound word transfers: the Room's outbound Doors hold it with O_VALID (R146). -/
def State.portTook (s : State) (room port kind slot data be : Nat) (last : Bool) : State :=
  let v := outBits kind slot data be last
  s.putDoors (((((List.range 128).map (fun n => (portDoor port 0 + n, n))) ++
      (((List.range 32).filter (fun n => n != 12)).map (fun n => (portDoor port 2 + n, 128 + n)))).filter (fun p =>
        s.doorUsed room p.1 && !bitB (s.doorRec room (p.1 / 4)) 3)).map (fun p => (4096 * room + p.1, bits v p.2 p.2)))

/-- What the links of a port carry of a word the Room presents: a data nibble or byte enables of a group that is not used read as its clamp
value (R139, R145). -/
def State.seenWord (s : State) (room port : Nat) (w : Nat × Nat) : Nat × Nat :=
  ((List.range 32).foldl (fun v n =>
      v + (if s.doorUsed room (portDoor port 0 + 4 * n) then bits w.1 (4 * n + 3) (4 * n) else bits (s.doorRec room (80 * port + n)) 7 4) * 2 ^ (4 * n)) 0,
   (List.range 4).foldl (fun v n =>
      v + (if s.doorUsed room (portDoor port 2 + 16 + 4 * n) then bits w.2 (4 * n + 3) (4 * n) else 0) * 2 ^ (4 * n)) 0)

/-- The stream number that the links carry: a nibble of a group that is not used reads 0. -/
def State.seenStream (s : State) (room port slot : Nat) : Nat :=
  (if s.doorUsed room (portDoor port 2 + 4) then slot % 16 else 0) + (if s.doorUsed room (portDoor port 2 + 8) then slot / 16 % 16 * 16 else 0)

/-- The words that a port whose O_READY is 0 still accepts: at most two (R147). The rest stay with the Room. -/
def State.skid (s : State) (room port slot : Nat) (words : List (Nat × Nat)) (last : Bool) : State :=
  let held := Assoc.get [] (portKey' room port) s.fab.portSkid
  let n := min words.length (2 - held.length)
  let new := (List.range n).map (fun i => (slot, (words.getD i (0, 0)).1, (words.getD i (0, 0)).2, last && decide (i + 1 = words.length)))
  { s with fab := { s.fab with portSkid := Assoc.write [] (portKey' room port) (held ++ new) s.fab.portSkid } }

end Sys2Proof.Machine
end

