-- ==== Sys2Proof/Machine/Dram.lean ====
section
/-! DEFINITION. The DRAM Controller (09): address mapping, queues and scheduling, page policy, refresh, errors, training,
Room streams, and its commands. -/

namespace Sys2Proof.Machine

open Reg

/-! ### Address mapping (R283 to R286) -/

/-- Installed capacity in bytes. -/
def State.dmcCap (s : State) : Nat := s.get DMC_GEOM_CAP_GIB * 2 ^ 30

/-- Both channels are enabled; CH_EN 0b00 acts as 0b11. -/
def State.twoCh (s : State) : Bool := s.get DMC_CFG_CH_EN == 3 || s.get DMC_CFG_CH_EN == 0

/-- Home bit position of mask register `b` (SC, CH, BA0, BA1, BG0, BG1, BG2, RK); none where the configuration does not have
the bit (R284). -/
def State.homeBit (s : State) (b : Nat) : Option Nat :=
  let ba := 13 + b2n s.twoCh
  let nbg := if s.get DMC_GEOM_WIDTH = 1 then 2 else 3
  match b with
  | 0 => some 6
  | 1 => if s.twoCh then some 7 else none
  | 2 => some ba
  | 3 => some (ba + 1)
  | 4 => some (ba + 2)
  | 5 => some (ba + 3)
  | 6 => if nbg = 3 then some (ba + 4) else none
  | _ => if s.get DMC_GEOM_RANKS = 1 then some (ba + 2 + nbg) else none

/-- First bit of ROW. -/
def State.rowBit (s : State) : Nat :=
  13 + b2n s.twoCh + 2 + (if s.get DMC_GEOM_WIDTH = 1 then 2 else 3) + s.get DMC_GEOM_RANKS

/-- The mask of bit `b`. -/
def State.mapMask (s : State) (b : Nat) : Nat := s.geti DMC_MAP_LO_MASK b + 2 ^ 32 * s.geti DMC_MAP_HI_MASK b

/-- Smallest `n` with `v ≤ 2ⁿ`, for values up to 2³⁷. -/
def log2Up (v : Nat) : Nat := ((List.range 38).find? (fun n => decide (v ≤ 2 ^ n))).getD 38

/-- A set of eight masks is allowed for the geometry: each used mask contains its own home bit, no other masked field's
home bit, and no bit of [5:0] or at or above log₂ of the capacity rounded up (R286). -/
def State.masksOk (s : State) (mask : Nat → Nat) : Bool :=
  let top := log2Up s.dmcCap
  (List.range 8).all (fun b =>
    match s.homeBit b with
    | none => true
    | some h =>
      bitB (mask b) h && bits (mask b) 5 0 == 0 && decide (mask b < 2 ^ top) &&
      (List.range 8).all (fun c => c == b || (match s.homeBit c with | none => true | some k => !bitB (mask b) k)))

/-- The device line of a DPA line: its SC, CH, BA, BG and RK bits replaced by the XOR of the masked DPA bits (R285). -/
def State.devLine (s : State) (line : Nat) : Nat :=
  (List.range 8).foldl (fun v b =>
    match s.homeBit b with
    | none => v
    | some h =>
      let old := bitB v (h - 6)
      let new := parity (s.mapMask b &&& (64 * line)) 37
      if old == new then v else if new then v + 2 ^ (h - 6) else v - 2 ^ (h - 6)) line

/-- Subchannel (A0, A1, B0, B1) of a device line. -/
def State.scOf (s : State) (dev : Nat) : Nat := bits dev 0 0 + (if s.twoCh then 2 * bits dev 1 1 else if s.get DMC_CFG_CH_EN = 2 then 2 else 0)

/-- Rank of a device line. -/
def State.rankOf (s : State) (dev : Nat) : Nat :=
  match s.homeBit 7 with | none => 0 | some h => bits dev (h - 6) (h - 6)

/-- Bank of a device line, as 32 × rank + 4 × group + bank. -/
def State.bankOf (s : State) (dev : Nat) : Nat :=
  let ba := 7 + b2n s.twoCh
  let nbg := if s.get DMC_GEOM_WIDTH = 1 then 2 else 3
  32 * s.rankOf dev + 4 * bits dev (ba + 1 + nbg) (ba + 2) + bits dev (ba + 1) ba

/-- Row of a device line. -/
def State.rowOf (s : State) (dev : Nat) : Nat := dev / 2 ^ (s.rowBit - 6)

/-- Rows per bank (Table 09-1). -/
def State.rowsPerBank (s : State) : Nat :=
  match s.get DMC_GEOM_DENSITY with | 0 => 65536 | 1 => 98304 | _ => 131072

/-! ### Contents -/

/-- The 64 bytes of a device line as a number. -/
def State.devData (s : State) (dev : Nat) : Nat := leNat (Assoc.readRun 0 (64 * dev) 64 s.dram)

/-- `new` laid over `old` in the bytes of `mask` (R294, R311). -/
def mergeBytes (mask old new : Nat) : Nat :=
  leNat ((List.range 64).map (fun k => if bitB mask k then bits new (8 * k + 7) (8 * k) else bits old (8 * k + 7) (8 * k)))

/-- Write a whole device line. -/
def State.setDevData (s : State) (dev v : Nat) : State :=
  { s with dram := Assoc.writeRun 0 (64 * dev) (leBytes 64 v) s.dram }

/-- A subchannel. -/
def State.sub (s : State) (i : Nat) : SubSt := s.dmc.subs.getD i SubSt.init

/-- Replace a subchannel. -/
def State.setSub (s : State) (i : Nat) (k : SubSt) : State := { s with dmc := { s.dmc with subs := setAt s.dmc.subs i k } }

/-- A bank of a subchannel. -/
def SubSt.bank (k : SubSt) (b : Nat) : BankSt := Assoc.get BankSt.init b k.banks

/-- Replace a bank. -/
def SubSt.setBank (k : SubSt) (b : Nat) (v : BankSt) : SubSt := { k with banks := Assoc.put b v k.banks }

/-- A stored line is uncorrectable: poisoned or corrupted, in the bad-line table, or in a subchannel in FAULT (R312, R314,
R315). -/
def State.lineBad (s : State) (line : Nat) : Bool :=
  let dev := s.devLine line
  let sc := s.scOf dev
  Assoc.get false dev s.dramBad || (s.sub sc).bad.contains line || bitB (s.get DMC_STAT_FAULT) sc

/-- Requester number of a request (R288). -/
def DSrc.req : DSrc → Nat
  | .roomW r p _ => 8 * r + p
  | .roomR r p _ => 8 * r + p
  | .other n => n

/-- Report an uncorrectable line (R313): the counter, DMC_ERR_ADDR and a Ledger entry with the DPA and the requester. -/
def State.reportUe (s : State) (line req : Nat) : State :=
  let dpa := 64 * line
  let s1 := s.inc DMC_ERR_CNT_UE
  let s2 := ((s1.set DMC_ERR_ADDR_LO_DPA_LO dpa).set DMC_ERR_ADDR_HI_DPA_HI (dpa / 2 ^ 32)).set DMC_ERR_ADDR_HI_VALID 1
  s2.ledger 0x0604 (dpa + 2 ^ 40 * req)

/-- Data a reader sees of a line: the devices' bytes with a queued write laid over them (R293, R294), and whether the line
is uncorrectable. A queued write that covers the line is served without the devices. -/
def State.lineView (s : State) (line : Nat) : Nat × Bool :=
  let dev := s.devLine line
  let base := s.devData dev
  match (s.sub (s.scOf dev)).wq.find? (fun q => q.line == line) with
  | some q => (mergeBytes q.mask base q.data, if q.mask = 2 ^ 64 - 1 then q.poison else s.lineBad line || q.poison)
  | none => (base, s.lineBad line)

/-! ### Acknowledgements and reads of Rooms -/

/-- One line of a Room's write is done, with a status (0 OK). -/
def State.ackLine (s : State) (id st : Nat) : State :=
  let one := fun (a : AckSt) => if a.id = id then { a with left := a.left - 1, status := if a.status = 0 then st else a.status } else a
  { s with dmc := { s.dmc with acks := (s.dmc.acks.map one).filter (fun a => a.want || a.left != 0) } }

/-- The words of a completed read on its port (R291): the last has I_LAST, and words of an uncorrectable line have I_ERR. -/
def readWords (r : ReadSt) : List PortWord :=
  (List.range r.words).map (fun w =>
    let a := r.dpa + 16 * w
    let l := (r.got.find? (fun g => g.1 == a / 64)).getD (0, 0, false)
    (⟨1, r.stream, w + 1 == r.words, l.2.2, leBytes 16 (l.2.1 / 2 ^ (8 * (a % 64)))⟩ : PortWord))

/-- Return every read of a stream that is complete and has no older read before it (R291). -/
def flushReads (room port stream : Nat) : List ReadSt → List PortWord × List ReadSt
  | [] => ([], [])
  | r :: t =>
    if r.room = room ∧ r.port = port ∧ r.stream = stream then
      if r.left = 0 then
        let (o, k) := flushReads room port stream t
        (readWords r ++ o, k)
      else ([], r :: t)
    else
      let (o, k) := flushReads room port stream t
      (o, r :: k)

/-- A line of a Room's read is served. -/
def State.readLine (s : State) (id line data : Nat) (bad : Bool) : State :=
  let reads := s.dmc.reads.map (fun r => if r.id = id then { r with left := r.left - 1, got := r.got ++ [(line, data, bad)] } else r)
  match reads.find? (fun r => r.id == id) with
  | none => s
  | some r =>
    let (o, k) := flushReads r.room r.port r.stream reads
    ({ s with dmc := { s.dmc with reads := k } }).toRoom r.room r.port o

/-- Complete what a served request stands for. -/
def State.served (s : State) (src : DSrc) (line data : Nat) (bad : Bool) (st : Nat) : State :=
  match src with
  | .roomW _ _ id => s.ackLine id st
  | .roomR _ _ id => s.readLine id line data bad
  | .other _ => s

/-! ### Acceptance into the queues (R293, R294, R308) -/

/-- The controller takes requests: enabled, not training, not in self-refresh. -/
def State.dmcTakes (s : State) : Bool :=
  s.flag DMC_CFG_EN && s.flag DMC_STAT_TRAINED && s.dmc.training == 0 && !s.flag DMC_STAT_SR

/-- The next request of a bank trains its predictor (R297). -/
def BankSt.trainNext (b : BankSt) (row : Nat) : BankSt :=
  if b.train then
    let hit := b.lastRow == some row
    let c := b.c.getD b.h 2
    { b with
      train := false
      c := setAt b.c b.h (if hit then min (c + 1) 3 else c - 1)
      h := (2 * b.h + b2n hit) % 16 }
  else b

/-- A request's bank and rank notice it: predictor training and the exit from power-down (R297, R304). -/
def State.notice (s : State) (sc dev : Nat) : State :=
  let k := s.sub sc
  let b := s.bankOf dev
  let rk := s.rankOf dev
  let k1 := k.setBank b ((k.bank b).trainNext (s.rowOf dev))
  let s1 := s.setSub sc { k1 with pd := clrBit k1.pd rk, rankUse := setAt k1.rankUse rk s.now }
  if bitB k.pd rk then s1.emit (.dram sc 14 rk 0) else s1

/-- Accept one waiting request, if its queue can take it: a write merges into a queued write of its line; a read that a
queued write covers is served from it (R294). -/
def State.accept (s : State) (q : DReq) : Option State :=
  if !s.dmcTakes then none
  else
    let dev := s.devLine q.line
    let sc := s.scOf dev
    let k := s.sub sc
    match k.wq.find? (fun w => w.line == q.line) with
    | some w =>
      if q.write then
        some (s.setSub sc { k with wq := k.wq.map (fun x =>
          if x.line = q.line then
            { x with mask := x.mask ||| q.mask, data := mergeBytes q.mask x.data q.data, srcs := x.srcs ++ q.srcs, poison := x.poison || q.poison }
          else x) })
      else if q.mask &&& w.mask = q.mask then
        some (q.srcs.foldl (fun st src => st.served src q.line w.data w.poison 0) s)
      else if k.rq.length < 64 then
        let s1 := s.notice sc dev
        some (s1.setSub sc { s1.sub sc with rq := (s1.sub sc).rq ++ [{ q with at_ := s.now }] })
      else none
    | none =>
      if q.write then
        if k.wq.length < 64 then
          let s1 := s.notice sc dev
          some (s1.setSub sc { s1.sub sc with wq := (s1.sub sc).wq ++ [{ q with at_ := s.now }] })
        else none
      else if k.rq.length < 64 then
        let s1 := s.notice sc dev
        some (s1.setSub sc { s1.sub sc with rq := (s1.sub sc).rq ++ [{ q with at_ := s.now }] })
      else none

/-- The order key of a waiting request: writes of one requester keep their order (R293). -/
def DReq.lane (q : DReq) : Nat := (q.srcs.headD (.other 255)).req + (if q.write then 0 else 256)

/-- The first waiting request of each lane: a request that waits holds its requester's later ones (R293). -/
def laneHeads : List DReq → List Nat → List DReq
  | [], _ => []
  | q :: t, seen => if seen.contains q.lane then laneHeads t seen else q :: laneHeads t (q.lane :: seen)

/-- The turn of a requester in round-robin order after the one served last (R14). -/
def rrTurn (last req : Nat) : Nat := (req % 256 + 255 - last % 256) % 256

/-- The waiting request that the interconnect serves next: of those that a queue can take, that of the requester whose turn comes first. -/
def State.nextGrant (s : State) : Option (DReq × State) :=
  (laneHeads s.dmc.wait []).foldl (fun best q =>
    match s.accept q with
    | none => best
    | some s1 =>
      match best with
      | none => some (q, s1)
      | some (b, s0) =>
        if rrTurn s.dmc.lastReq (q.lane % 256) < rrTurn s.dmc.lastReq (b.lane % 256) then some (q, s1) else some (b, s0)) none

/-- Serve waiting requests in turn, `n` at most. -/
def grantAll : Nat → State → State
  | 0, s => s
  | n + 1, s =>
    match s.nextGrant with
    | none => s
    | some (q, s1) => grantAll n { s1 with dmc := { s1.dmc with wait := s1.dmc.wait.erase q, lastReq := q.lane % 256 } }

/-- Let every waiting request that can be accepted in, the requesters in round-robin order (R14). -/
def State.dmcPump (s : State) : State := grantAll s.dmc.wait.length s

/-- Send requests to the controller. -/
def State.dmcSend (s : State) (l : List DReq) : State :=
  ({ s with dmc := { s.dmc with wait := s.dmc.wait ++ l } }).dmcPump

/-- The line requests of a byte range: (line, byte mask). -/
def rangeLines (dpa n : Nat) : List (Nat × Nat) :=
  if n = 0 then []
  else (List.range ((dpa + n - 1) / 64 - dpa / 64 + 1)).map (fun i =>
    let line := dpa / 64 + i
    (line, maskOf ((List.range 64).filter (fun k => decide (dpa ≤ 64 * line + k) && decide (64 * line + k < dpa + n)))))

/-- A DPA range stays below the installed capacity (R283). -/
def State.dpaOk (s : State) (dpa n : Nat) : Bool := decide (dpa + n ≤ s.dmcCap)

/-! ### Bias of HDM pages (R240) -/

/-- First DPA of the HDM range. -/
def State.hdmDpa (s : State) : Nat := s.get HLK_HDM_DPA_BASE_LO + 2 ^ 32 * s.get HLK_HDM_DPA_BASE_HI

/-- HDM page of a DPA, where the decoder is committed and covers it (R235, R239). -/
def State.hdmPage (s : State) (dpa : Nat) : Option Nat :=
  if s.flag HLK_STAT_HDM_COMMITTED && decide (s.hdmDpa ≤ dpa) && decide (dpa < s.hdmDpa + s.hlk.hdmSize) then
    some ((dpa - s.hdmDpa) / 65536)
  else none

/-- A page in HOST bias; a page whose flip is in progress is treated as HOST (R241). -/
def State.hostBias (s : State) (page : Nat) : Bool := !Assoc.get false page s.hlk.bias || (s.hlk.flip.map (·.1)) == some page

/-- A line of a HOST-bias page that a device reads comes from DRAM or is supplied by the host; which is not stated (Table 07-5). -/
def State.hostSupply (s : State) (line : Nat) : Option Nat × State :=
  match s.hdmPage (64 * line) with
  | none => (none, s)
  | some p => if s.hostBias p then (Config.hostLine s.freeCount line, { s with freeCount := s.freeCount + 1 }) else (none, s)

/-- The lines that the host supplies among some. -/
def State.hostSupplies (s : State) (ls : List Nat) : Assoc Nat × State :=
  ls.foldl (fun (p : Assoc Nat × State) l =>
    match p.2.hostSupply l with
    | (some v, st) => (Assoc.put l v p.1, st)
    | (none, st) => (p.1, st)) ([], s)

/-- The requests a device access of a line sends to the host first (Table 07-5). -/
def State.biasSnoop (s : State) (line : Nat) (write : Bool) : State :=
  match s.hdmPage (64 * line) with
  | none => s
  | some p => if s.hostBias p then s.emit (.snoop (b2n write) (64 * line)) else s

/-- Bytes written by a requester other than a Room port, queued as its writes (R293); accesses of the host itself (requester 208) ask it
nothing first (R240). -/
def State.dramWrite (s : State) (req dpa : Nat) (data : List Nat) (poison : Bool) : State :=
  let ls := rangeLines dpa data.length
  let s1 := if req = 208 then s else ls.foldl (fun st l => st.biasSnoop l.1 true) s
  s1.dmcSend (ls.map (fun l =>
    { write := true, line := l.1, mask := l.2, data := leNat ((List.range 64).map (fun k => if 64 * l.1 + k < dpa then 0 else data.getD (64 * l.1 + k - dpa) 0)),
      srcs := [DSrc.other req], poison := poison, at_ := 0, acted := false }))

/-- Bytes read by a requester other than a Room port, and the first uncorrectable line met; lines that the host supplies are not read from DRAM. -/
def State.dramRead (s : State) (req dpa n : Nat) : List Nat × Option Nat × State :=
  let ls := rangeLines dpa n
  let s1 := if req = 208 then s else ls.foldl (fun st l => st.biasSnoop l.1 false) s
  let (sup, s2) := if req = 208 then ([], s1) else s1.hostSupplies (ls.map (·.1))
  let bytes := (List.range n).map (fun i =>
    let a := dpa + i
    bits (Assoc.get (s.lineView (a / 64)).1 (a / 64) sup) (8 * (a % 64) + 7) (8 * (a % 64)))
  match ls.find? (fun l => (Assoc.find? l.1 sup).isNone && (s.lineView l.1).2) with
  | none => (bytes, none, s2)
  | some l => (bytes, some l.1, s2.reportUe l.1 req)

/-! ### Room streams (R289 to R292) -/

/-- Base and size of a stream's window; none where the entry is disabled (R289). -/
def State.stream (s : State) (r i : Nat) : Option (Nat × Nat) :=
  let n := s.get2 DMC_STR_LO_SIZE_LOG2 r i
  let base := 64 * s.get2 DMC_STR_LO_BASE_LO r i + 2 ^ 32 * s.get2 DMC_STR_HI_BASE_HI r i
  if n < 12 ∨ 37 < n ∨ base % 2 ^ n ≠ 0 then none else some (base, 2 ^ n)

/-- The line requests of a Room's write: byte `k` of word `w` goes to OFFSET + 16w + k where O_BE bit `k` is 1 (R290). -/
def roomWriteLines (dpa : Nat) (words : List (Nat × Nat)) : List (Nat × Nat × Nat) :=
  (List.range ((dpa + 16 * words.length + 63) / 64 - dpa / 64)).map (fun i =>
    let line := dpa / 64 + i
    let parts := (List.range 4).map (fun j =>
      let a := 64 * line + 16 * j
      if a < dpa then (0, 0) else words.getD ((a - dpa) / 16) (0, 0))
    (line,
     (List.range 4).foldl (fun m j => m + (parts.getD j (0, 0)).2 % 2 ^ 16 * 2 ^ (16 * j)) 0,
     (List.range 4).foldl (fun m j => m + (parts.getD j (0, 0)).1 % 2 ^ 128 * 2 ^ (128 * j)) 0))

/-- Words of DRAM transfers move at a port: its Doors' tree runs, it is not closed and it does not hold O_READY at 0 (R145, R147, R263). -/
def State.portMoves (s : State) (room port : Nat) : Bool :=
  s.treeRuns room (bits (s.doorRec room (portDoor port 2 / 4)) 2 2) && !s.portClosed room port && !s.portStalled room port

/-- A Room's write transfer (R290, R292, R293): discarded whole, with its acknowledgement's status, where its stream is
disabled or not write-enabled, its OFFSET is misaligned, it would pass its window or reach the installed capacity. -/
def execDramWriteTransfer (room port stream header : Nat) (words : List (Nat × Nat)) (t : Nat) (s : State) :
    Host.Outcome State Fault Refusal :=
  if 24 ≤ room ∨ 8 ≤ port ∨ 256 ≤ stream then .fault .noSuchUnit
  else if !s.portMoves room port || s.seenStream room port stream != stream then ok (s.setNow t)
  else
    let s := (s.setNow t).touchIdle.portTook room port 1 stream ((words.getLastD (header, 0)).1) ((words.getLastD (header, 0)).2) true
    let header := (s.seenWord room port (header, 0)).1
    let words := words.map (s.seenWord room port)
    let off := bits header 36 0
    let want := bitB header 48
    let n := 16 * words.length
    let id := s.dmc.nextId
    let refuse := fun (st : Nat) =>
      ({ s with dmc := { s.dmc with nextId := id + 1, acks := if want then
          s.dmc.acks ++ [⟨id, room, port, stream, bits header 47 40, want, st, 0, []⟩] else s.dmc.acks } })
    match s.stream room stream with
    | none => ok (refuse 2)
    | some (base, size) =>
      if s.get2 DMC_STR_HI_WR room stream = 0 then ok (refuse 2)
      else if off % 16 ≠ 0 ∨ size < off + n ∨ 256 < words.length then ok (refuse 1)
      else if !s.dpaOk (base + off) n then ok (refuse 1)
      else
        let ls := (roomWriteLines (base + off) words).filter (fun l => l.2.1 != 0)
        let ack : AckSt := ⟨id, room, port, stream, bits header 47 40, want, 0, ls.length, ls.map (·.1)⟩
        let s1 := { s with dmc := { s.dmc with nextId := id + 1, acks := if want || !ls.isEmpty then s.dmc.acks ++ [ack] else s.dmc.acks } }
        let s2 := ls.foldl (fun st l => st.biasSnoop l.1 true) s1
        ok (s2.dmcSend (ls.map (fun l => ⟨true, l.1, l.2.1, l.2.2, [.roomW room port id], false, 0, false⟩)))

/-- The port takes a read request: one zero word with I_ERR where the read is refused, else its lines are asked for (R291). -/
def State.readTake (s : State) (room port stream word : Nat) : State :=
  let off := bits word 36 0
  let n := bits word 47 40 + 1
  let bad := s.toRoom room port [(⟨1, stream, true, true, List.replicate 16 0⟩ : PortWord)]
  match s.stream room stream with
  | none => bad
  | some (base, size) =>
    if s.get2 DMC_STR_HI_RD room stream = 0 ∨ off % 16 ≠ 0 ∨ size < off + 16 * n ∨ s.dpaOk (base + off) (16 * n) = false then bad
    else
      let id := s.dmc.nextId
      let ls := rangeLines (base + off) (16 * n)
      let rd : ReadSt := ⟨id, room, port, stream, base + off, n, ls.length, []⟩
      let s1 := { s with dmc := { s.dmc with nextId := id + 1, reads := s.dmc.reads ++ [rd] } }
      let s2 := ls.foldl (fun st l => st.biasSnoop l.1 false) s1
      let (sup, s3) := s2.hostSupplies (ls.map (·.1))
      let s4 := s3.dmcSend ((ls.filter (fun l => (Assoc.find? l.1 sup).isNone)).map (fun l => ⟨false, l.1, l.2, 0, [.roomR room port id], false, 0, false⟩))
      sup.foldl (fun st e => st.readLine id e.1 e.2 false) s4

/-- Reads outstanding at a port. -/
def State.readsOut (s : State) (room port : Nat) : Nat := (s.dmc.reads.filter (fun r => r.room == room && r.port == port)).length

/-- Held reads of ports that have fewer than 64 outstanding again are taken (R291). -/
def State.readRelease (s : State) : State :=
  s.dmc.readHold.foldl (fun st e =>
    let r := e.1 / 8
    let p := e.1 % 8
    if 64 ≤ st.readsOut r p then st
    else ({ st with dmc := { st.dmc with readHold := Assoc.del e.1 st.dmc.readHold } }).readTake r p e.2.1 e.2.2) s

/-- A Room's read request (R291): held at the port, with O_READY at 0, while 64 reads are outstanding. -/
def execDramReadRequest (room port stream word t : Nat) (s : State) : Host.Outcome State Fault Refusal :=
  if 24 ≤ room ∨ 8 ≤ port ∨ 256 ≤ stream then .fault .noSuchUnit
  else if !s.portMoves room port || s.seenStream room port stream != stream then ok (s.setNow t)
  else
    let s := (s.setNow t).touchIdle.portTook room port 2 stream word 0 true
    let word := (s.seenWord room port (word, 0)).1
    if 64 ≤ s.readsOut room port then
      ok { s with dmc := { s.dmc with readHold := Assoc.put (8 * room + port) (stream, word) s.dmc.readHold } }
    else ok (s.readTake room port stream word)

/-- The oldest acknowledgement of a port whose last line has been written or has failed is sent (R292). -/
def execDramAck (room port : Nat) (s : State) : Host.Outcome State Fault Refusal :=
  if 24 ≤ room ∨ 8 ≤ port then .fault .noSuchUnit
  else match s.dmc.acks.find? (fun a => a.room == room && a.port == port && a.want && a.left == 0) with
    | none => ok s
    | some a =>
      ok (({ s with dmc := { s.dmc with acks := s.dmc.acks.filter (fun x => x.id != a.id) } }).toRoom room port
        [(⟨2, a.stream, true, false, leBytes 16 (a.atag + 2 ^ 8 * a.status + 2 ^ 127)⟩ : PortWord)])

/-! ### Scheduling (R295 to R297, R303) -/

/-- Device commands as the model reports them: 1 PRE, 2 ACT, 3 RD, 4 WR, 5 REFab, 6 power-down entry, 7 self-refresh entry,
8 self-refresh exit, 9 ZQCal Start, 10 ZQCal Latch, 11 neighbour refresh (ACT and PRE), 12 initialisation write, 13 PRE all, 14 power-down exit,
15 the write-back of a corrected line. -/
def State.dev (s : State) (sc code a b : Nat) : State := s.emit (.dram sc code a b)

/-- WQ_LOW and WQ_HIGH in force: both defaults where WQ_HIGH ≤ WQ_LOW (Table 09-7). -/
def State.wqMarks (s : State) : Nat × Nat :=
  if s.get DMC_WQ_WQ_HIGH ≤ s.get DMC_WQ_WQ_LOW then (0x10, 0x30) else (s.get DMC_WQ_WQ_LOW, s.get DMC_WQ_WQ_HIGH)

/-- The mode after the switches of R295. -/
def State.nextMode (s : State) (k : SubSt) : Bool :=
  let (lo, hi) := s.wqMarks
  let m1 := if !k.wmode && (decide (hi ≤ k.wq.length) || (k.rq.isEmpty && !k.wq.isEmpty)) then true else k.wmode
  if m1 && ((decide (k.wq.length ≤ lo) && !k.rq.isEmpty) || k.wq.isEmpty) then false else m1

/-- The oldest request of a list. -/
def oldest : List DReq → Option DReq
  | [] => none
  | q :: t => match oldest t with
    | none => some q
    | some r => if timeGe r.at_ q.at_ then some q else some r

/-- What a subchannel does for a request next: 1 PRE, 2 ACT, 3 the column command (R295). -/
def State.nextStep (s : State) (k : SubSt) (q : DReq) : Nat :=
  let dev := s.devLine q.line
  match (k.bank (s.bankOf dev)).row with
  | none => 2
  | some r => if r = s.rowOf dev then 3 else 1

/-- The rows a neighbour refresh of row `r` covers (R303). -/
def State.neighbours (s : State) (r : Nat) : List Nat :=
  let near := (if r = 0 then [] else [r - 1]) ++ [r + 1]
  let far := if s.flag DMC_NR_DIST then (if r < 2 then [] else [r - 2]) ++ [r + 2] else []
  (near ++ far).filter (fun x => decide (x < s.rowsPerBank))

/-- The draw at an ACT (R303). The device's LFSR sequence is not stated: the 16 bits drawn are a free value (DESIGN CHOICE, log entry 10). -/
def State.nrDraw (s : State) (sc b row : Nat) : State :=
  let prob := s.get DMC_NR_PROB
  if prob = 0 then s
  else
    let (v, s1) := s.fresh
    if v % 65536 < prob then
      let k := s1.sub sc
      if k.nr.length < 8 then s1.setSub sc { k with nr := k.nr ++ [(b, s1.neighbours row)] }
      else s1.inc DMC_NR_CNT_DROPPED
    else s1

/-- Mark the requests of a queue entry as having needed an ACT. -/
def markActed (q : DReq) (l : List DReq) : List DReq := l.map (fun x => if x = q then { x with acted := true } else x)

/-- Issue PRE or ACT for a request. -/
def State.issueRow (s : State) (sc : Nat) (q : DReq) (step t : Nat) : State :=
  let dev := s.devLine q.line
  let b := s.bankOf dev
  let k := s.sub sc
  if step = 1 then
    (s.setSub sc (k.setBank b { k.bank b with row := none })).dev sc 1 b 0
  else
    let row := s.rowOf dev
    let k1 := k.setBank b { k.bank b with row := some row, lastUse := t }
    let s1 := (s.setSub sc { k1 with rq := markActed q k1.rq, wq := markActed q k1.wq }).dev sc 2 b row
    s1.nrDraw sc b row

/-- Count corrected beats; a Ledger entry each time CE reaches a multiple of CE_THR (R310). -/
def State.ceCount (s : State) (n dpa : Nat) : State :=
  (List.range n).foldl (fun st _ =>
    let c := satInc 0xFFFF (st.get DMC_ERR_CNT_CE)
    let st1 := st.set DMC_ERR_CNT_CE c
    if c ≠ st.get DMC_ERR_CNT_CE ∧ c % max 1 (st.get DMC_ERR_CTRL_CE_THR) = 0 then st1.ledger 0x0603 dpa else st1) s

/-- Bad-line tables: the largest fill of the four (Table 09-7). -/
def State.badUsed (s : State) : State :=
  s.set DMC_BADLINE_USED ((List.range 4).foldl (fun m i => max m (s.sub i).bad.length) 0)

/-- The column command of a request (R296, R297, R310 to R315): its data moves, its row stays open or closes. `ce` corrected
beats and `ue` an uncorrectable line are what the devices show on the read it makes; SCRUB writes a corrected line back. The next request of the
bank, where one is queued already, trains the predictor at once. -/
def State.issueColumn (s : State) (sc : Nat) (q : DReq) (t ce : Nat) (ue : Bool) : State :=
  let dev := s.devLine q.line
  let b := s.bankOf dev
  let row := s.rowOf dev
  let k := s.sub sc
  let k1 := { k with rq := k.rq.filter (fun x => x != q), wq := k.wq.filter (fun x => x != q) }
  let more := (k1.rq ++ k1.wq).any (fun x => let d := s.devLine x.line; s.bankOf d == b && s.rowOf d == row)
  let bk := k1.bank b
  let predict := s.get DMC_SCHED_PAGE ≠ 0 ∧ s.get DMC_SCHED_PAGE ≠ 1
  let auto := if s.get DMC_SCHED_PAGE = 1 then true else if predict ∧ more = false then decide (bk.c.getD bk.h 2 < 2) else false
  let bk1 : BankSt := { bk with row := if auto then none else some row, lastRow := some row, lastUse := t, train := bk.train || (decide predict && !more) }
  let other := (k1.rq ++ k1.wq).find? (fun x => s.bankOf (s.devLine x.line) == b)
  let k2 := k1.setBank b (match other with
    | some x => bk1.trainNext (s.rowOf (s.devLine x.line))
    | none => bk1)
  let s1 := (s.setSub sc { k2 with rankUse := setAt k2.rankUse (s.rankOf dev) t }).dev sc (if q.write then 4 else 3) b (bits dev 7 1)
  let s2 := s1.inc (if q.acted then DMC_PERF_MISS else DMC_PERF_HIT)
  let reads := !q.write || q.mask != 2 ^ 64 - 1
  let s3 := if reads then s2.ceCount ce (64 * q.line) else s2
  let fault := bitB (s.get DMC_STAT_FAULT) sc
  let above := s.flag DMC_CFG_INIT && decide (s.get DMC_INIT_MARK ≤ q.line) && !Assoc.get false q.line s.dmc.above
  let bad := reads && !above && (ue || s.lineBad q.line)
  let req := (q.srcs.headD (.other 255)).req
  let s3 := if reads && decide (0 < ce) && !ue && s.flag DMC_ERR_CTRL_SCRUB && !k.wq.any (fun w => w.line == q.line) then
      s3.dev sc 15 b (bits dev 7 1) else s3
  let s4 := if bad then s3.reportUe q.line req else s3
  if q.write then
    if fault then q.srcs.foldl (fun st src => st.served src q.line 0 false 4) s4
    else
      let old := s4.devData dev
      let s5 := s4.setDevData dev (mergeBytes q.mask old q.data)
      let k5 := s5.sub sc
      let s6 := ({ (s5.setSub sc { k5 with bad := k5.bad.filter (fun x => x != q.line) }) with
        dramBad := Assoc.write false dev (q.poison || bad) s5.dramBad }).badUsed
      let s7 := if s6.get DMC_INIT_MARK ≤ q.line then
          { s6 with dmc := { s6.dmc with above := Assoc.write false q.line true s6.dmc.above } } else s6
      q.srcs.foldl (fun st src => st.served src q.line 0 false (if bad then 3 else 0)) s7
  else
    let data := match k.wq.find? (fun w => w.line == q.line) with
      | some w => mergeBytes w.mask (s4.devData dev) w.data
      | none => s4.devData dev
    q.srcs.foldl (fun st src => st.served src q.line data bad 0) s4

/-- The next row of the oldest neighbour refresh of a bank (R303): a PRE first where the bank is open, then ACT and PRE. -/
def State.issueNr (s : State) (sc b : Nat) (rows : List Nat) : State :=
  let k := s.sub sc
  match (k.bank b).row with
  | some _ => (s.setSub sc (k.setBank b { k.bank b with row := none })).dev sc 1 b 0
  | none =>
    match rows with
    | [] => s.setSub sc { k with nr := k.nr.erase (b, rows) }
    | r :: rest =>
      let s1 := s.dev sc 11 b r
      if rest.isEmpty then (s1.setSub sc { k with nr := k.nr.erase (b, rows) }).inc DMC_NR_CNT_ISSUED
      else s1.setSub sc { k with nr := k.nr.map (fun e => if e = (b, rows) then (b, rest) else e) }

/-- The command a subchannel issues next (R295), with neighbour refreshes ahead of every request to their bank that is not
aged. `colOk`: device timing lets a column command go now; otherwise a row command of the oldest request may use the
cycle. -/
def execDmcCommandSelect (sc t : Nat) (colOk : Bool) (ceBeats : Nat) (ue : Bool) (s : State) : Host.Outcome State Fault Refusal :=
  if 4 ≤ sc then .fault .noSuchUnit
  else
    let s := s.setNow t
    if s.dmc.refActive || s.flag DMC_STAT_SR || s.dmc.training != 0 || !s.dmc.ready then ok s
    else
      let k := s.sub sc
      let cap := 320 * max 1 (s.get DMC_SCHED_AGE_CAP)
      let mode := s.nextMode k
      match oldest ((k.rq ++ k.wq).filter (fun q => timeGe t (q.at_ + cap))) with
      | some a =>
        let s1 := s.setSub sc { k with wmode := a.write }
        let st := s1.nextStep (s1.sub sc) a
        if st = 3 then (if colOk then ok ((s1.issueColumn sc a t ceBeats ue).dmcPump.readRelease) else ok s1)
        else ok (s1.issueRow sc a st t)
      | none =>
        let s1 := s.setSub sc { k with wmode := mode }
        let k1 := s1.sub sc
        let dir := if mode then k1.wq else k1.rq
        let hits := dir.filter (fun q => s1.nextStep k1 q == 3)
        let nrOf := fun (q : DReq) => k1.nr.find? (fun e => e.1 == s1.bankOf (s1.devLine q.line))
        let pick := if colOk then (match oldest hits with | some h => some h | none => oldest dir) else oldest dir
        match pick with
        | none =>
          match k1.nr with
          | [] => ok s1
          | e :: _ => ok (s1.issueNr sc e.1 e.2)
        | some q =>
          match nrOf q with
          | some e => ok (s1.issueNr sc e.1 e.2)
          | none =>
            let st := s1.nextStep k1 q
            if st = 3 then (if colOk then ok ((s1.issueColumn sc q t ceBeats ue).dmcPump.readRelease) else ok s1)
            else ok (s1.issueRow sc q st t)

/-- A row with no access for PAGE_TMO cycles is closed (R296). -/
def execPageTimeout (sc bank t : Nat) (s : State) : Host.Outcome State Fault Refusal :=
  if 4 ≤ sc ∨ 64 ≤ bank then .fault .noSuchUnit
  else
    let s := s.setNow t
    let k := s.sub sc
    let b := k.bank bank
    match b.row with
    | none => ok s
    | some _ =>
      if timeGe t (b.lastUse + 320 * s.get DMC_SCHED_PAGE_TMO) then
        ok ((s.setSub sc (k.setBank bank { b with row := none })).dev sc 1 bank 0)
      else ok s

/-- A rank idle for DMC_PD.IDLE cycles with no request queued is precharged and enters power-down (R304). -/
def execRankPowerDown (sc rank t : Nat) (s : State) : Host.Outcome State Fault Refusal :=
  if 4 ≤ sc ∨ 2 ≤ rank then .fault .noSuchUnit
  else
    let s := s.setNow t
    let k := s.sub sc
    let queued := (k.rq ++ k.wq).any (fun q => s.rankOf (s.devLine q.line) == rank)
    if s.flag DMC_PD_EN && s.dmc.ready && !queued && !bitB k.pd rank &&
        timeGe t (k.rankUse.getD rank 0 + 320 * s.get DMC_PD_IDLE) then
      let closed := k.banks.map (fun e => if e.1 / 32 = rank then (e.1, { e.2 with row := none }) else e)
      ok ((s.setSub sc { k with banks := closed, pd := setBit k.pd rank }).dev sc 6 rank 0)
    else ok s

/-! ### Refresh (R298 to R301, R66) -/

/-- DEBT as an integer. -/
def State.debt (s : State) : Int := signed 4 (s.get DMC_REF_STAT_DEBT)

/-- Set DEBT, kept from −4 to +4. -/
def State.setDebt (s : State) (v : Int) : State := s.set DMC_REF_STAT_DEBT (encodeInt 4 (max (-4) (min 4 v)))

/-- A refresh is due under FIXED: DEBT ≥ 1 (R299). -/
def State.debtDue (s : State) : Bool := decide (1 ≤ s.debt)

/-- DEBT stands at its limit of four (R298). -/
def State.debtFull (s : State) : Bool := s.debt == 4

/-- A refresh may be requested under TICK: DEBT > −4 (R299). -/
def State.debtOpen (s : State) : Bool := decide (-4 < s.debt)

/-- TICK mode is in force: MODE = TICK while the tick engine is enabled (R299). -/
def State.refTick (s : State) : Bool := s.flag DMC_REF_CTRL_MODE && s.flag TCK_CTRL_EN

/-- A REFab starts on every rank of every subchannel: rows are closed, a due ZQCal Latch goes with it, ranks leave
power-down (R298, R301, R304). -/
def State.refab (s : State) : State :=
  let subs := s.dmc.subs.map (fun k => { k with pd := 0, banks := k.banks.map (fun e => (e.1, { e.2 with row := none })) })
  let s1 := { s with dmc := { s.dmc with subs := subs, refActive := true, zqDue := false } }
  let s2 := if s.dmc.zqDue then s1.dev 0 10 0 0 else s1
  (s2.set DMC_REF_STAT_PENDING 0).dev 0 5 0 0

/-- The first REFab of a group starts, after all banks are precharged (R298). -/
def State.refStart (s : State) : State := (s.dev 0 13 0 0).refab

/-- Every taking-part Room has counted RDONE (R45). -/
def State.allDone (s : State) : Bool := s.tick.part &&& s.get TCK_DONE_ROOMS == s.tick.part

/-- An operation of `dur` units that starts now ends, with the guard, no later than the predicted boundary (R46). -/
def State.admits (s : State) (dur : Nat) : Bool :=
  s.tick.rest &&
  (if s.get TCK_PRED_PERIOD_NS = 0x3FFFFFFF then true
   else timeGe ((s.get TCK_STAMP_LO + 2 ^ 32 * s.get TCK_STAMP_HI) + nsUnits (s.get TCK_PRED_PERIOD_NS))
      (s.now + dur + nsUnits (s.inForce TCK_GUARD_GUARD_NS)))

/-- A waiting refresh is due to be admitted: the rest window is open, REF_WAIT's Rooms are done, R46 holds (R66). -/
def State.refAdmit (s : State) : Bool :=
  s.admits (nsUnits (s.get DMC_REF_TIME_TRFC_NS)) && (s.inForce TCK_CTRL_REF_WAIT == 0 || s.allDone)

/-- TCK_STATUS.REF_HELD: a due refresh waits for the last RDONE after Curfew (Table 02-8). -/
def State.refHeld (s : State) : State :=
  s.set TCK_STATUS_REF_HELD (b2n (s.flag DMC_REF_STAT_PENDING && s.tick.rest && s.inForce TCK_CTRL_REF_WAIT == 1 && !s.allDone))

/-- The flags of a refresh at the limit of four that has started: inside the work window it is counted (Table 02-8). -/
def State.refForce (s : State) : State :=
  if s.tick.rest then s.refHeld else ((s.refHeld).set TCK_EVENTS_REFRESH_IN_WORK 1).inc TCK_REF_CNT_IN_WORK_CNT

/-- The time from one step of the debt to the next: TREFI_NS, 0 acting as 3,900, half of it at the doubled rate (R298, R300). -/
def State.refInterval (s : State) : Nat :=
  let n := nsUnits (if s.get DMC_REF_TIME_TREFI_NS = 0 then 3900 else s.get DMC_REF_TIME_TREFI_NS)
  if s.flag DMC_STAT_REF2X then n / 2 else n

/-- What the debt asks for now: under FIXED a refresh starts at +1, under TICK one is requested, and one at +4 starts at once (R298, R299,
Table 02-8). -/
def State.refDemand (s : State) : State :=
  if !s.dmc.ready || s.flag DMC_STAT_SR || s.dmc.training != 0 then s
  else if s.dmc.refActive then s.set DMC_REF_STAT_PENDING (b2n s.refTick)
  else if !s.refTick then (if s.debtDue then s.refStart else s.set DMC_REF_STAT_PENDING 0).refHeld
  else if s.debtFull then s.refStart.refForce
  else (s.set DMC_REF_STAT_PENDING (b2n s.debtOpen)).refHeld

/-- Each tREFI the debt grows by one (R298); before that time nothing happens. -/
def execRefreshInterval (t : Nat) (s : State) : Host.Outcome State Fault Refusal :=
  let s := s.setNow t
  let due := s.dmc.refAt + s.refInterval
  if !s.dmc.ready || s.flag DMC_STAT_SR || s.dmc.training != 0 || !timeGe t due then ok s
  else ok ((({ s with dmc := { s.dmc with refAt := if timeGe t (due + s.refInterval) then t else due % 2 ^ 64 } }).setDebt (s.debt + 1)).refDemand)

/-- A requested refresh is admitted (R46, R299), or one at +4 is forced (R66). -/
def execRefreshStart (t : Nat) (s : State) : Host.Outcome State Fault Refusal :=
  let s := s.setNow t
  if !s.dmc.ready || s.dmc.refActive || s.flag DMC_STAT_SR || s.dmc.training != 0 then ok s
  else if !s.refTick then (if s.debtDue then ok s.refStart else ok s)
  else if s.debtFull then ok s.refStart.refForce
  else if s.debtOpen && s.refAdmit then ok (s.refStart.refHeld)
  else ok s

/-- A REFab completes: the debt falls by one, and a refresh due at +4 or under FIXED follows in the same group (R298, Table 02-8). -/
def execRefreshEnd (t : Nat) (s : State) : Host.Outcome State Fault Refusal :=
  let s := s.setNow t
  if !s.dmc.refActive then ok s
  else
    let wasFour := s.debtFull && s.flag DMC_REF_STAT_PENDING
    let s1 := ({ s with dmc := { s.dmc with refActive := false } }).setDebt (s.debt - 1)
    if !s1.refTick then (if s1.debtDue then ok s1.refab else ok (s1.set DMC_REF_STAT_PENDING 0))
    else if wasFour then ok s1.refab.refForce
    else ok ((s1.set DMC_REF_STAT_PENDING (b2n s1.debtOpen)).refHeld)

/-- MR4 of each rank is read: the doubled rate is entered with a Ledger entry, or left (R300). -/
def execMr4Poll (doubled : Bool) (s : State) : Host.Outcome State Fault Refusal :=
  if !s.dmc.ready then ok s
  else if doubled && !s.flag DMC_STAT_REF2X then ok ((s.set DMC_STAT_REF2X 1).ledger 0x0602 0)
  else ok (s.set DMC_STAT_REF2X (b2n doubled))

/-- ZQCal Start; ZQCal Latch is due at the next refresh (R301). -/
def execZqCalibration (s : State) : Host.Outcome State Fault Refusal :=
  if !s.dmc.ready then ok s else ok (({ s with dmc := { s.dmc with zqDue := true } }).dev 0 9 0 0)

/-! ### Self-refresh (R302) -/

/-- Serve every queued request of a subchannel in order of age. -/
def State.drainSub (s : State) (sc : Nat) : State :=
  ((s.sub sc).rq ++ (s.sub sc).wq).foldl (fun st q =>
    match ((st.sub sc).rq ++ (st.sub sc).wq).find? (fun x => x.line == q.line && x.write == q.write) with
    | some x => st.issueColumn sc x st.now 0 false
    | none => st) s

/-- Entry: the queues are completed, refreshes bring DEBT to 0 or below, every rank enters self-refresh. -/
def State.srEnter (s : State) : State :=
  if !s.dmc.ready then s
  else
    let s1 := (List.range 4).foldl (fun st i => st.drainSub i) s
    let n := s1.debt.toNat
    let s2 := if 0 < s1.debt then ((List.range n).foldl (fun (st : State) _ => st.dev 0 5 0 0) (s1.dev 0 13 0 0)).setDebt 0 else s1
    ({ s2 with dmc := { s2.dmc with refActive := false } }.set DMC_STAT_SR 1).dev 0 7 0 0

/-- What a DRAM_READ that the controller takes comes to: HW_FAULT with the bytes read before an uncorrectable line (Table 09-5). -/
def State.kmiDramRead (s : State) (cmd : KmiCmd) : Nat × Nat × List Nat × State :=
  let a := bits cmd.a0 36 0
  match s.dramRead 211 a (bits cmd.a1 23 0) with
  | (l, none, s1) => (stOk, 0, l, s1)
  | (l, some line, s1) => (stHwFault, 64 * line - a, l.take (64 * line - a), s1)

/-- The controller takes requests again: those that waited at the interconnect are served, a DRAM_READ that waited completes (R308). -/
def State.dmcResume (s : State) : State :=
  let s1 := s.dmcPump
  match s1.kmi.running.find? (runOp 0x0604) with
  | some r =>
    if s1.dmcTakes then
      let (st, d, l, s2) := s1.kmiDramRead r.cmd
      s2.kmiResolve (runOp 0x0604) st d [] l
    else s1
  | none => s1

/-- Exit: DEBT is 0 and requests resume. -/
def State.srExit (s : State) : State :=
  if s.flag DMC_STAT_SR then ((({ s with dmc := { s.dmc with refAt := s.now } }.set DMC_STAT_SR 0).setDebt 0).dev 0 8 0 0).dmcResume else s

/-! ### Training and enabling (R305 to R309) -/

/-- A training starts: DRAM contents, poisoned lines, bad-line tables and FAULT are lost (R305). A restore resets nothing. -/
def State.trainStart (s : State) (mode : Nat) : State :=
  let s1 := (s.set DMC_TRAIN_STAT_BUSY 1).set DMC_STAT_TRAINED 0
  if mode = 3 then { s1 with dmc := { s1.dmc with training := 3 } }
  else
    let s2 := { s1 with
      dram := [], dramBad := []
      dmc := { s1.dmc with
        training := mode, above := [], ready := false, refActive := false
        subs := s1.dmc.subs.map (fun (k : SubSt) => { k with bad := [], banks := [], nr := [], pd := 0 }) } }
    ((((s2.set DMC_STAT_FAULT 0).set DMC_STAT_INIT_DONE 0).set DMC_INIT_MARK 0).set DMC_BADLINE_USED 0).set DMC_STAT_SR 0

/-- A write of 1 to DMC_TRAIN_CTRL.GO with its MODE: ignored while EN = 1 or a training runs (R305). -/
def execDramTrainGo (mode : Nat) (s : State) : Host.Outcome State Fault Refusal :=
  let s := s.set DMC_TRAIN_CTRL_MODE mode
  if s.flag DMC_CFG_EN || s.flag DMC_TRAIN_STAT_BUSY then ok s
  else ok (s.trainStart (if mode % 2 = 1 then 2 else 1))

/-- The used masks are allowed and EN becomes 1, with TRAINED and Memory_Active where training has passed; otherwise EN
reads 0 and MAP_ERR is set (R286, R308). -/
def State.dmcEnable (s : State) : State :=
  if s.masksOk s.mapMask then
    let s1 := s.set DMC_CFG_EN 1
    if s.flag DMC_TRAIN_STAT_PASS && s.dmc.training == 0 then ((s1.set DMC_STAT_TRAINED 1).set HLK_STAT_MEM_ACTIVE 1).dmcResume else s1
  else (s.set DMC_CFG_EN 0).set DMC_STAT_MAP_ERR 1

/-- A write of DMC_CFG.EN to 1. -/
def execDmcEnable (s : State) : Host.Outcome State Fault Refusal :=
  if s.flag DMC_CFG_EN then ok s else ok s.dmcEnable

/-- Capacity in GiB of a geometry (Table 09-1). -/
def capGib (density width ranks channels : Nat) : Nat :=
  (match density with | 0 => 16 | 1 => 24 | _ => 32) / (if width = 1 then 2 else 1) * ranks * channels

/-- Lane words of a training result go to DMC_LANE*n*. -/
def State.setLanes (s : State) (l : List Nat) : State :=
  (List.range 40).foldl (fun st n =>
    let w := l.getD n 0
    ((((st.seti DMC_LANE_RD_DLY n (bits w 6 0)).seti DMC_LANE_WR_DLY n (bits w 13 7)).seti DMC_LANE_RD_VREF n (bits w 19 14)).seti
      DMC_LANE_WR_VREF n (bits w 25 20)).seti DMC_LANE_EYE n (bits w 31 26)) s

/-- The lane words as registers hold them. -/
def State.laneWord (s : State) (n : Nat) : Nat :=
  s.geti DMC_LANE_RD_DLY n + 2 ^ 7 * s.geti DMC_LANE_WR_DLY n + 2 ^ 14 * s.geti DMC_LANE_RD_VREF n +
  2 ^ 20 * s.geti DMC_LANE_WR_VREF n + 2 ^ 26 * s.geti DMC_LANE_EYE n

/-- The training record's body (R424): 16 bytes of identity and data rate, lane words, DFE taps. Bytes 14 and 15 hold RATE and CH_EN (DESIGN CHOICE, log
entry 22). -/
def State.trainBody (s : State) (identity : List Nat) : List Nat :=
  sliceBytes identity 0 14 ++ [s.get DMC_CFG_RATE, s.get DMC_CFG_CH_EN] ++ (List.range 40).flatMap (fun n => leBytes 4 (s.laneWord n)) ++
  (List.range 40).flatMap (fun n => leBytes 4 (s.dmc.dfe.getD n 0))

/-- The masks of the memory settings record go to DMC_MAP_x (R287); home bits where the record is missing. -/
def State.loadMasks (s : State) : State :=
  let rec_ := s.settingsRead 2
  (List.range 8).foldl (fun st b =>
    let m := match rec_ with
      | some l => leField l (8 * b) 8
      | none => match s.homeBit b with | some h => 2 ^ h | none => 0
    (st.seti DMC_MAP_LO_MASK b (m % 2 ^ 32)).seti DMC_MAP_HI_MASK b (m / 2 ^ 32)) s

/-- DMC_TRAIN_STAT as a word. -/
def State.trainStat (s : State) : Nat :=
  s.get DMC_TRAIN_STAT_BUSY + 2 * s.get DMC_TRAIN_STAT_PASS + 4 * s.get DMC_TRAIN_STAT_FAIL + 8 * s.get DMC_TRAIN_STAT_VERIFY_FAIL +
  2 ^ 8 * s.get DMC_TRAIN_STAT_FAIL_LANE + 2 ^ 16 * s.get DMC_TRAIN_STAT_TIME

/-- The channels that CH_EN enables: 0b00 acts as 0b11. -/
def State.chOn (s : State) : List Nat := (List.range 2).filter (fun c => s.get DMC_CFG_CH_EN == 0 || bitB (s.get DMC_CFG_CH_EN) c)

/-- The units (2 × channel + rank) × 2 + subchannel of the enabled channels, in DMC_LANE*n* order. -/
def State.dramUnits (s : State) : List Nat := s.chOn.flatMap (fun c => (List.range 4).map (fun k => 4 * c + k))

/-- The first identity read. -/
def State.firstId (s : State) (ids : List (List Nat)) : List Nat :=
  ((s.dramUnits.map (fun k => ids.getD k [])).find? (fun l => !l.isEmpty)).getD []

/-- A second rank is fitted on the first enabled channel. -/
def State.twoRanks (s : State) (ids : List (List Nat)) : Bool := !(ids.getD (4 * s.chOn.headD 0 + 2) []).isEmpty

/-- The first unit whose identity read fails or differs from the first one: no devices on an enabled channel, another part, another number of
ranks (R281). -/
def State.idFail (s : State) (ids : List (List Nat)) : Option Nat :=
  s.dramUnits.find? (fun k =>
    let l := ids.getD k []
    if k % 4 < 2 ∨ s.twoRanks ids = true then l != s.firstId ids || l.isEmpty else !l.isEmpty)

/-- The training record agrees with the devices found and the data rate (R307); a missing record does not (DEDUCED, log entry 22). -/
def State.recordAgrees (s : State) (ids : List (List Nat)) : Bool :=
  match s.settingsRead 3 with
  | none => false
  | some b => sliceBytes b 0 14 == sliceBytes (s.firstId ids) 0 14 && min 2 (b.getD 14 0) == min 2 (s.get DMC_CFG_RATE)

/-- Geometry and refresh times of the devices found (R281, R300). -/
def State.geomFound (s : State) (res : TrainRes) : State :=
  let two := s.twoRanks res.ids
  let s0 := { s with dmc := { s.dmc with absent := maskOf ((List.range 8).filter (fun k => (res.ids.getD k []).isEmpty)) } }
  let s1 := ((s0.set DMC_GEOM_DENSITY res.density).set DMC_GEOM_WIDTH res.width).set DMC_GEOM_RANKS (b2n two)
  let s2 := s1.set DMC_GEOM_CAP_GIB (capGib res.density res.width (1 + b2n two) (if s.twoCh then 2 else 1))
  (s2.set DMC_REF_TIME_TREFI_NS 3900).set DMC_REF_TIME_TRFC_NS (if res.density = 0 then 295 else 410)

/-- The restore of a cold PD27 passes (R487, R499): masks come from the memory settings record, contents stay readable and nothing is
initialised (R309). -/
def State.coldRestored (s : State) (res : TrainRes) : State :=
  let s1 := (s.geomFound res).loadMasks
  ((s1.set DMC_INIT_MARK (s1.dmcCap / 64)).set DMC_STAT_INIT_DONE 1).dmcEnable

/-- The register effects of a training's end (R281, R300, R305 to R307). -/
def State.trainEnd (s : State) (res : TrainRes) : State :=
  let mode := s.dmc.training
  let s1 := ({ s with dmc := { s.dmc with training := 0 } }.set DMC_TRAIN_STAT_BUSY 0).set DMC_TRAIN_STAT_TIME res.time
  let bad := match (if mode = 3 then none else s.idFail res.ids) with
    | some k => some (5 * k)
    | none => res.badLane
  let vfail := res.verifyFail || (mode == 2 && !s.recordAgrees res.ids)
  let pass := bad.isNone && !vfail
  let s2 := ((s1.set DMC_TRAIN_STAT_PASS (b2n pass)).set DMC_TRAIN_STAT_FAIL (b2n bad.isSome)).set DMC_TRAIN_STAT_VERIFY_FAIL
    (b2n (vfail || (mode == 3 && !pass)))
  match bad with
  | some n => (s2.set DMC_TRAIN_STAT_FAIL_LANE n).ledger 0x0601 n
  | none =>
    if !pass then s2
    else
      let s3 := { s2 with dmc := { s2.dmc with ready := true, refAt := s2.now } }
      if mode = 3 then
        let s4 := (s3.set DMC_STAT_SR 0).setDebt 0
        if s.boot.dram = 32 then s4.coldRestored res else if s.flag DMC_CFG_EN then s4.dmcEnable else s4
      else
        let s5 := s3.geomFound res
        let s6 := if mode = 1 then
            let s7 := ({ s5 with dmc := { s5.dmc with dfe := res.dfe } }).setLanes res.lanes
            s7.settingsWrite 3 (s7.trainBody (s.firstId res.ids))
          else s5
        if s.flag DMC_CFG_EN then s6.dmcEnable else s6

/-- Background initialisation writes zeros upward from DPA 0 (R309). Lines that a write has reached above the mark keep
their data. -/
def execDramInitPass (lines : Nat) (s : State) : Host.Outcome State Fault Refusal :=
  if s.flag DMC_CFG_INIT && s.dmc.ready && !s.flag DMC_STAT_INIT_DONE && s.flag DMC_CFG_EN then
    let top := s.dmcCap / 64
    let m := min top (s.get DMC_INIT_MARK + lines)
    let s1 := (s.set DMC_INIT_MARK m).dev 0 12 m 0
    let s2 := { s1 with dmc := { s1.dmc with above := s1.dmc.above.filter (fun e => decide (m ≤ e.1)) } }
    ok (if m = top then s2.set DMC_STAT_INIT_DONE 1 else s2)
  else ok s

/-- ALERT_n reports a write CRC error (R314, R315): the writes are replayed; where the replays fail each line enters the
bad-line table with status CMD_ERR, and a full table puts the subchannel into FAULT. -/
def execWriteCrcAlert (sc : Nat) (lines : List Nat) (replayed : Bool) (s : State) : Host.Outcome State Fault Refusal :=
  if 4 ≤ sc then .fault .noSuchUnit
  else if !s.flag DMC_CFG_WCRC || replayed then ok s
  else
    let one := fun (st : State) (line : Nat) =>
      let st1 := (st.inc DMC_BADLINE_CMD_ERR).ledger 0x0605 (64 * line)
      let st2 := { st1 with dmc := { st1.dmc with acks := st1.dmc.acks.map (fun (a : AckSt) =>
        if a.lines.contains line then { a with status := 4 } else a) } }
      let k := st2.sub sc
      if k.bad.contains line then st2
      else if k.bad.length < 16 then st2.setSub sc { k with bad := k.bad ++ [line] }
      else if bitB (st2.get DMC_STAT_FAULT) sc then st2
      else (st2.orBit DMC_STAT_FAULT sc).ledger 0x0606 (64 * line)
    ok ((lines.foldl one s).badUsed)

/-! ### KMI (R412) -/

/-- MEM_SETTINGS: the eight masks, allowed for the installed geometry, go to the memory settings record. -/
def execMemSettings (m : Nat) (s : State) : Host.Outcome State Fault Refusal :=
  kmiCommand 0x0603 m (fun cmd s =>
    if cmd.dataIn.length ≠ 64 ∨ s.masksOk (fun b => leField cmd.dataIn (8 * b) 8) = false then .fin s stBadArg 0 [] []
    else .fin (s.settingsWrite 2 cmd.dataIn) stOk 0 [] []) s

/-- DRAM_READ: while EN is 0 the read waits in the interconnect (R308). -/
def execDramRead (m : Nat) (s : State) : Host.Outcome State Fault Refusal :=
  kmiCommand 0x0604 m (fun cmd s =>
    if !s.flag DMC_STAT_TRAINED then .fin s stBadState 0 [] []
    else if !s.dpaOk (bits cmd.a0 36 0) (bits cmd.a1 23 0) then .fin s stBadArg 0 [] []
    else if !s.dmcTakes then .run s false 0
    else
      let (st, d, l, s1) := s.kmiDramRead cmd
      .fin s1 st d [] l) s

/-- DRAM_WRITE. -/
def execDramWrite (m : Nat) (s : State) : Host.Outcome State Fault Refusal :=
  kmiCommand 0x0605 m (fun cmd s =>
    let a := bits cmd.a0 36 0
    if !s.flag DMC_STAT_TRAINED then .fin s stBadState 0 [] []
    else if !s.dpaOk a cmd.dataIn.length then .fin s stBadArg 0 [] []
    else .fin (s.dramWrite 211 a cmd.dataIn false) stOk 0 [] []) s

/-- DRAM_TRAIN: BAD_STATE while EN = 1 or a training runs; it completes at the training's end. -/
def execDramTrain (m : Nat) (s : State) : Host.Outcome State Fault Refusal :=
  kmiCommand 0x0606 m (fun cmd s =>
    if s.flag DMC_CFG_EN || s.flag DMC_TRAIN_STAT_BUSY then .fin s stBadState 0 [] []
    else .run ((s.set DMC_TRAIN_CTRL_MODE (bits cmd.a0 0 0)).trainStart (if bitB cmd.a0 0 then 2 else 1)) false 0) s

end Sys2Proof.Machine
end

