-- ==== Sys2Proof/Machine/Pcs.lean ====
section
/-! DEFINITION. The PCS of a lane (06): polarity, word alignment and lock (R194), the 8B10B and 64B66B codes (R193), the BER monitor, and the words a
transmitter sends (R221). Line bit order: bit 0 of a word is the first on the line. The 8B10B code and clauses 49 and 107 of IEEE 802.3 are
standards that the spec names and does not print: their tables are PRESUMED (log entry 40). -/

namespace Sys2Proof.Machine

open Reg

/-! ### The 8B10B code (PRESUMED, log entry 40) -/

/-- Six-bit codes abcdei of D.x for running disparity − and +, bit a lowest. -/
def sixB : List (Nat × Nat) :=
  [(57, 6), (46, 17), (45, 18), (35, 35), (43, 20), (37, 37), (38, 38), (7, 56), (39, 24), (41, 41), (42, 42), (11, 11), (44, 44), (13, 13), (14, 14), (58, 5)] ++
  [(54, 9), (49, 49), (50, 50), (19, 19), (52, 52), (21, 21), (22, 22), (23, 40), (51, 12), (25, 25), (26, 26), (27, 36), (28, 28), (29, 34), (30, 33), (53, 10)]

/-- Four-bit codes fghj of D.x.y, bit f lowest. -/
def fourB : List (Nat × Nat) := [(13, 2), (9, 9), (10, 10), (3, 12), (11, 4), (5, 5), (6, 6), (7, 8)]

/-- Four-bit codes fghj of K.x.y. -/
def fourK : List (Nat × Nat) := [(13, 2), (6, 9), (5, 10), (3, 12), (11, 4), (10, 5), (9, 6), (14, 1)]

/-- The code of a pair that a running disparity takes (`true` is +). -/
def rdPick (rd : Bool) (p : Nat × Nat) : Nat := if rd then p.2 else p.1

/-- Running disparity after a sub-block of `n` bits: it turns where ones and zeros differ in number. -/
def rdNext (rd : Bool) (v n : Nat) : Bool := if 2 * popcount v n = n then rd else !rd

/-- The six-bit code of a symbol's low five bits; K.28 has its own. -/
def enc6 (rd k : Bool) (x : Nat) : Nat := rdPick rd (if k && x == 28 then (60, 3) else sixB.getD x (0, 0))

/-- D.x.7 takes the alternate code where the primary would give five like bits in a row. -/
def altSeven (rd : Bool) (x : Nat) : Bool := if rd then x == 11 || x == 13 || x == 14 else x == 17 || x == 18 || x == 20

/-- The four-bit code of a symbol's high three bits, `rd` after the six-bit code. -/
def enc4 (rd k : Bool) (x y : Nat) : Nat :=
  rdPick rd (if k then fourK.getD y (0, 0) else if y == 7 && altSeven rd x then (14, 1) else fourB.getD y (0, 0))

/-- Encode a data byte or control symbol: its ten bits, bit a lowest, and the disparity after it. -/
def enc10 (rd k : Bool) (b : Nat) : Nat × Bool :=
  let six := enc6 rd k (b % 32)
  let rd1 := rdNext rd six 6
  let four := enc4 rd1 k (b % 32) (b / 32 % 8)
  (six + 64 * four, rdNext rd1 four 4)

/-- The control symbols K28.y and K23.7, K27.7, K29.7, K30.7. -/
def kCodes : List Nat := [0x1C, 0x3C, 0x5C, 0x7C, 0x9C, 0xBC, 0xDC, 0xFC, 0xF7, 0xFB, 0xFD, 0xFE]

/-- Decode ten bits at a running disparity: control flag and byte; none where the code is no symbol of that disparity. -/
def dec10 (rd : Bool) (code : Nat) : Option (Bool × Nat) :=
  match kCodes.find? (fun b => (enc10 rd true b).1 == code) with
  | some b => some (true, b)
  | none =>
    ((List.range 32).find? (fun x => enc6 rd false x == code % 64)).bind (fun x =>
      ((List.range 8).find? (fun y => enc4 (rdNext rd (code % 64) 6) false x y == code / 64)).map (fun y => (false, x + 32 * y)))

/-- The control symbol that COMMA selects (R194; Table 06-7). -/
def commaOf (c : Nat) : Nat := match c with | 1 => 0x3C | 2 => 0xFC | _ => 0xBC

/-- A symbol as the Line Assembler sees it (Table 06-2): K27.7 starts, K29.7 ends, K28.3 marks. -/
def chrOf (k : Bool) (b : Nat) : Chr :=
  if !k then .data b else if b = 0xFB then .start else if b = 0xFD then .term else if b = 0x7C then .marker else .other

/-- The four symbols of a word from a running disparity: characters, bad symbols and the disparity after them. A code that no symbol of
the disparity has is bad, a code violation or a disparity error (R194). -/
def symbols (rd : Bool) (w : Nat) : List Chr × Nat × Bool :=
  (List.range 4).foldl (fun (p : List Chr × Nat × Bool) i =>
    let code := w / 2 ^ (10 * i) % 1024
    let after := rdNext p.2.2 code 10
    match dec10 p.2.2 code with
    | some (k, b) => (p.1 ++ [if i ≠ 0 ∧ k = true ∧ b = 0x7C then .other else chrOf k b], p.2.1, after)
    | none => (p.1 ++ [.bad], p.2.1 + 1, (dec10 (!p.2.2) code).elim after (fun _ => rdNext (!p.2.2) code 10))) ([], 0, rd)

/-! ### The 64B66B code (R193; clause 49, PRESUMED, log entry 40) -/

/-- Descramble 64 bits (x⁵⁸ + x³⁹ + 1): `hist` holds the 58 bits before them, the oldest lowest. -/
def descramble (hist v : Nat) : Nat × Nat :=
  let full := hist + 2 ^ 58 * v
  ((full / 2 ^ 58 ^^^ full / 2 ^ 19 ^^^ full) % 2 ^ 64, full / 2 ^ 64)

/-- Scramble 64 bits: the inverse of `descramble` from the same history. -/
def scramble (hist v : Nat) : Nat × Nat :=
  let lo := (v ^^^ hist / 2 ^ 19 ^^^ hist) % 2 ^ 39
  let out := (v ^^^ (hist + 2 ^ 58 * lo) / 2 ^ 19 ^^^ (hist + 2 ^ 58 * lo)) % 2 ^ 64
  (out, (hist + 2 ^ 58 * out) / 2 ^ 64)

/-- Control characters of clause 49: idle, error and the reserved ones. -/
def ctlOk (c : Nat) : Bool := [0, 0x1E, 0x2D, 0x33, 0x4B, 0x55, 0x66, 0x78].contains c

/-- Characters of `n` control codes of seven bits from bit `lo`; a code outside the table makes the block invalid. -/
def ctls (v lo n : Nat) : Option (List Chr) :=
  let cs := (List.range n).map (fun i => bits v (lo + 7 * i + 6) (lo + 7 * i))
  if cs.all ctlOk then some (cs.map (fun c => if c = 0 then .other else .bad)) else none

/-- Data characters of bytes `lo` to `hi − 1` of a block's payload. -/
def datas (v lo hi : Nat) : List Chr := (List.range (hi - lo)).map (fun i => .data (bits v (8 * (lo + i) + 7) (8 * (lo + i))))

/-- The O code at bit `lo` is one that clause 49 has: 0 or 0xF. -/
def oOk (v lo : Nat) : Bool := let o := bits v (lo + 3) lo; o == 0 || o == 15

/-- Block types of terminate blocks, by the number of data bytes before the terminate character. -/
def termTypes : List Nat := [0x87, 0x99, 0xAA, 0xB4, 0xCC, 0xD2, 0xE1, 0xFF]

/-- Decode a block: sync header (2 data, 1 control: the first bit on the line is the lower) and descrambled payload; none where it is invalid
(R193). An ordered set in front of a start leaves its own characters out. The deskew marker is the block of R198. -/
def decode66 (head v : Nat) : Option (List Chr) :=
  if head = 2 then some (datas v 0 8)
  else if head ≠ 1 then none
  else match v % 256 with
    | 0x1E => ctls v 8 8
    | 0x2D => (ctls v 8 4).bind (fun c => if oOk v 36 then some (c ++ [.other]) else none)
    | 0x33 => (ctls v 8 4).map (fun c => c ++ [.start] ++ datas v 5 8)
    | 0x66 => if oOk v 32 then some ([.other, .start] ++ datas v 5 8) else none
    | 0x55 => if oOk v 32 && oOk v 36 then some [.other] else none
    | 0x78 => some (.start :: datas v 1 8)
    | 0x4B =>
      if !oOk v 32 then none
      else (ctls v 36 4).map (fun c => (if bits v 35 32 = 15 ∧ bits v 31 8 = 0x010000 then Chr.marker else .other) :: c)
    | ty =>
      if termTypes.contains ty then
        let n := termTypes.findIdx (· == ty)
        (ctls v (8 + 8 * n + (7 - n)) (7 - n)).map (fun c => datas v 1 (1 + n) ++ [.term] ++ c)
      else none

/-! ### A lane's receiver -/

/-- Width of a PCS word (Table 06-1). -/
def pcsWidth (pcs : Nat) : Nat := match pcs with | 1 => 32 | 2 => 40 | 3 => 40 | 4 => 66 | _ => 0

/-- What a lane's control registers give its PCS. -/
structure LaneCfg where
  pcs : Nat
  sync : Nat
  comma : Nat
  rxInv : Bool
  descr : Bool
  mul : Nat
  deriving DecidableEq, Repr

/-- Words of a BER window and its limit: 16 in 125 µs (clause 49), above 10.3125 Gbit/s 97 in 2 ms (clause 107). -/
def berWindow (mul : Nat) : Nat × Nat :=
  if mul ≤ 66 then (mul * 1953125 / 6600, 16) else (16 * (mul * 1953125 / 6600), 97)

/-- A word as it stands at the lane's alignment: the two newest words, `sh` bits back. -/
def alignedWord (width prev w sh : Nat) : Nat := (prev + 2 ^ width * w) / 2 ^ (width - sh) % 2 ^ width

/-- One word of a lane without word lock: whether it takes the lock, and the lane's state (R194). RAW: SYNC at one alignment twice within 65,536
words. 8B10B: the comma becomes symbol 0. 64B66B: 64 valid sync headers in a row. -/
def lockStep (c : LaneCfg) (l : LaneSt) (w : Nat) : Bool × LaneSt :=
  let n := l.count + 1
  let l1 := { l with prev := w, count := n }
  let wd := pcsWidth c.pcs
  if c.pcs = 4 then
    let head := w % 4
    let good := if head = 1 ∨ head = 2 then l.good + 1 else 0
    let l2 := { l1 with good := good, hist := (descramble l.hist (w / 4)).2 }
    if 64 ≤ good then (true, { l2 with good := 0, win := 0, winLen := 0, berWords := 0, berBad := 0 }) else (false, l2)
  else if c.pcs = 3 then
    let codes := [(enc10 false true (commaOf c.comma)).1, (enc10 true true (commaOf c.comma)).1]
    match (List.range wd).find? (fun sh => codes.contains (alignedWord wd l.prev w sh % 1024)) with
    | some sh =>
      let x := alignedWord wd l.prev w sh
      let rd := (dec10 true (x % 1024)).isSome
      (true, { l1 with sh := sh, win := 0, winLen := 0, rd := (symbols rd x).2.2 })
    | none => (false, l1)
  else
    let hits := (List.range wd).filter (fun sh => alignedWord wd l.prev w sh % 2 ^ 32 == c.sync)
    match hits.find? (fun sh => match Assoc.find? sh l.cand with | some m => decide (n - m ≤ 65536) | none => false) with
    | some sh => (true, { l1 with sh := sh, cand := [], noSync := 0 })
    | none => (false, { l1 with cand := hits.foldl (fun m sh => Assoc.put sh n m) l.cand })

/-- What one word does to a locked lane. -/
structure WordRes where
  lane : LaneSt
  chars : List Chr
  bad : Nat
  lost : Bool
  hiBer : Option Bool
  deriving DecidableEq, Repr

/-- One word of a lane with word lock (R193, R194): its characters, its invalid symbols or blocks, whether the lock is lost, and the BER
monitor's verdict. 8B10B loses lock with 16 bad words among the last 64, RAW after 65,536 words with no SYNC, 64B66B with 16 invalid
headers in a window of 64. -/
def lockedStep (c : LaneCfg) (l : LaneSt) (w : Nat) : WordRes :=
  let wd := pcsWidth c.pcs
  let x := alignedWord wd l.prev w l.sh
  let l1 := { l with prev := w, count := l.count + 1 }
  if c.pcs = 4 then
    let head := w % 4
    let badHead := !(head == 1 || head == 2)
    let d := descramble l.hist (w / 4)
    let r := decode66 head (if c.descr then d.1 else w / 4)
    let inv := l.win + b2n badHead
    let (win, len) := if 64 ≤ l.winLen + 1 then (0, 0) else (inv, l.winLen + 1)
    let (bw, lim) := berWindow c.mul
    let ber := l.berBad + b2n badHead
    let close := decide (bw ≤ l.berWords + 1)
    { lane := { l1 with hist := d.2, win := win, winLen := len, berWords := if close then 0 else l.berWords + 1, berBad := if close then 0 else ber }
      chars := r.getD [.bad], bad := b2n r.isNone, lost := decide (16 ≤ inv)
      hiBer := if lim ≤ ber then some true else if close then some false else none }
  else if c.pcs = 3 then
    let (cs, bad, rd) := symbols l.rd x
    let win := (2 * l.win + b2n (bad != 0)) % 2 ^ 64
    ⟨{ l1 with win := win, rd := rd }, cs, bad, decide (16 ≤ popcount win 64), none⟩
  else
    let sync := x % 2 ^ 32 == c.sync
    let no := if sync then 0 else l.noSync + 1
    ⟨{ l1 with noSync := no }, (if sync then [.sync] else []) ++ (leBytes (wd / 8) x).map .data, 0, decide (65536 ≤ no), none⟩

/-! ### A lane's transmitter (R221) -/

/-- Bytes or symbols cut into groups of four. -/
def fours {α : Type} (l : List α) (d : α) : List (List α) :=
  (List.range (ceilDiv l.length 4)).map (fun i => (List.range 4).map (fun k => l.getD (4 * i + k) d))

/-- Encode symbols into 8B10B words, from a running disparity. -/
def words8b (rd : Bool) (syms : List (Bool × Nat)) : List Nat × Bool :=
  (fours syms (true, 0xBC)).foldl (fun (p : List Nat × Bool) g =>
    let (v, _, rd1) := g.foldl (fun (q : Nat × Nat × Bool) s => let e := enc10 q.2.2 s.1 s.2; (q.1 + e.1 * 2 ^ (10 * q.2.1), q.2.1 + 1, e.2)) (0, 0, p.2)
    (p.1 ++ [v], rd1)) ([], rd)

/-- The idle block: eight idle control characters. -/
def idle66 : Nat × Nat := (1, 0x1E)

/-- The blocks of a packet in 64B66B: start with seven bytes, data blocks, terminate with the rest; a packet shorter than seven bytes is
padded with zeros to seven (DESIGN CHOICE, log entry 40). -/
def blocks66 (data : List Nat) : List (Nat × Nat) :=
  let b := sliceBytes data 0 (max 7 data.length)
  let rest := b.drop 7
  let n := rest.length / 8
  let tail := rest.drop (8 * n)
  (1, 0x78 + 256 * leNat (b.take 7)) :: (List.range n).map (fun i => (2, leField rest (8 * i) 8)) ++
    [(1, termTypes.getD tail.length 0 + 256 * leNat tail)]

/-- Encode blocks, scrambled where DESCR is 1. -/
def words66 (descr : Bool) (hist : Nat) (blks : List (Nat × Nat)) : List Nat × Nat :=
  blks.foldl (fun (p : List Nat × Nat) b =>
    let e := scramble p.2 b.2
    if descr then (p.1 ++ [b.1 + 4 * e.1], e.2) else (p.1 ++ [b.1 + 4 * b.2], p.2)) ([], hist)

end Sys2Proof.Machine
end

