-- ==== Sys2Proof/Machine/Ingest.lean ====
section
/-! DEFINITION. Sensor Ingest (06): lanes (R190 to R195), Line Assemblers (R196 to R203), binding lines to triggers (R205 to
R207), line records and targets (R208 to R217), side packets and transmit (R219 to R222). -/

namespace Sys2Proof.Machine

open Reg

/-! ### Lanes -/

/-- Highest MUL of a PCS mode (Table 06-1): 14.4, 18.0, 18.0 and 28.125 Gbit/s over 156.25 Mbit/s; OFF has no maximum of its
own. -/
def maxMul (pcs : Nat) : Nat := match pcs with | 1 => 92 | 2 => 115 | 3 => 115 | _ => 180

/-- A lane may be switched on at its present MUL and PCS (R191, R192). -/
def State.laneOk (s : State) (k : Nat) : Bool :=
  let mul := s.geti ING_LANE_CTRL_MUL k
  decide (8 ≤ mul) && decide (mul ≤ maxMul (s.geti ING_LANE_CTRL_PCS k))

/-- A lane's PCS. -/
def State.lane (s : State) (k : Nat) : LaneSt := Assoc.get LaneSt.init k s.ing.lanes

/-- Replace a lane's PCS. -/
def State.setLane (s : State) (k : Nat) (l : LaneSt) : State := { s with ing := { s.ing with lanes := Assoc.put k l s.ing.lanes } }

/-- A Line Assembler's state. -/
def State.las (s : State) (j : Nat) : LasSt := s.ing.las.getD j LasSt.init

/-- Replace a Line Assembler's state; LAS_STAT.LINE_OPEN follows it. -/
def State.setLas (s : State) (j : Nat) (k : LasSt) : State :=
  ({ s with ing := { s.ing with las := setAt s.ing.las j k } }).seti LAS_STAT_LINE_OPEN j (b2n k.cur.isSome)

/-- Number of lanes of a bond. -/
def State.lasLanes (s : State) (j : Nat) : Nat := 2 ^ s.geti LAS_CTRL_NLANES j

/-- Device lanes of a Line Assembler's bond (R196). -/
def State.lasBond (s : State) (j : Nat) : List Nat :=
  (List.range (s.lasLanes j)).map (fun i => 16 * (j / 8) + s.geti LAS_CTRL_FIRST j + i)

/-- Enabled Line Assemblers. -/
def State.lasOn (s : State) : List Nat := (List.range 16).filter (fun j => s.flagi LAS_CTRL_EN j)

/-- The enabled Line Assembler that holds a lane. -/
def State.laneOwner (s : State) (k : Nat) : Option Nat := s.lasOn.find? (fun j => (s.lasBond j).contains k)

/-! ### Record block and side data (R208, R219) -/

/-- The record block is available to a Line Assembler: LAS_STAT.KMI_SIDE is 0 (R222). -/
def State.recAvail (s : State) (j : Nat) : Bool := s.flagi LAS_CTRL_EN j && s.geti LAS_STAT_KMI_SIDE j == 0

/-- First cell of the record block. -/
def State.recKey (s : State) (j : Nat) : Nat := cellarKey (s.geti LAS_CTRL_ROOM j) (s.geti LAS_REC_REC_BLK j)

/-- Write a 32-bit word of the record block, ninth bits 0. -/
def State.recWrite (s : State) (j a v : Nat) : State :=
  { s with fab := { s.fab with cellar := Assoc.writeRun 0 (s.recKey j + 4 * (a % 1024)) (leBytes 4 v) s.fab.cellar } }

/-- Read a 32-bit word of the record block. -/
def State.recRead (s : State) (j a : Nat) : Nat :=
  leNat ((Assoc.readRun 0 (s.recKey j + 4 * (a % 1024)) 4 s.fab.cellar).map (· % 256))

/-- FLAGS of a line record (Table 06-4). -/
def lineFlags (l : LineSt) (spilled missing : Bool) : Nat :=
  b2n l.merged + 2 * b2n l.late + 4 * b2n l.short + 8 * b2n l.orphan + 16 * b2n l.displaced + 32 * b2n spilled + 64 * b2n missing +
  128 * b2n l.err

/-- The 16 bytes of a line record. -/
def recordBytes (l : LineSt) (spilled missing : Bool) (j seq : Nat) : List Nat :=
  leBytes 6 (if l.orphan then 0xFFFFFFFFFFFF else l.tag) ++ [lineFlags l spilled missing, j] ++ leBytes 4 l.camId ++ leBytes 3 l.bytes ++
  [seq % 256]

/-- Sequence number of a line's record (Table 06-4): the one it was written with, or the next. -/
def State.recSeq (s : State) (j : Nat) (l : LineSt) : Nat := if l.recDone then l.seq else (s.las j).recCount

/-- Write a line record to the record block, where the target uses one and it is available (R208, R211, R219). -/
def State.putRecord (s : State) (j : Nat) (l : LineSt) (spilled missing : Bool) : State :=
  if l.recDone then s
  else
    let k := s.las j
    let b := recordBytes l spilled missing j k.recCount
    let s1 := s.setLas j { k with recCount := k.recCount + 1 }
    if s.recAvail j then
      (List.range 4).foldl (fun st w => st.recWrite j (4 * (k.recCount % 64) + w) (leField b (4 * w) 4)) s1
    else s1

/-! ### Targets (R209, R210) -/

/-- Data width of a fill word. -/
def State.fillD (s : State) (j : Nat) : Nat := 2 ^ s.geti LAS_TGT_WORD_W j

/-- Row width R of a block target. -/
def State.fillR (s : State) (j : Nat) : Nat := s.geti LAS_TGT_BLK_CNT j * s.fillD j

/-- Bits of the unpacked line. -/
def State.lineBits (s : State) (j : Nat) : Nat := s.geti LAS_LINE_LINE_PIX j * s.geti LAS_PIX_OUT_C j

/-- Rows of the unpacked line in a block target. -/
def State.fillRows (s : State) (j : Nat) : Nat := ceilDiv (s.lineBits j) (s.fillR j)

/-- Target blocks of a block target. -/
def State.fillBlocks (s : State) (j : Nat) : List Nat :=
  (List.range (s.geti LAS_TGT_BLK_CNT j)).map (fun i => s.geti LAS_TGT_BLK_FIRST j + i)

/-- The Room has the record block of R209. -/
def State.recBlockOk (s : State) (j : Nat) : Bool :=
  let r := s.geti LAS_CTRL_ROOM j
  let b := s.geti LAS_REC_REC_BLK j
  let c := s.cellarRec r b
  decide (b < 160) && cellarMode c == 0 && cellarWcode c 0 == 5 && bitB c 17 &&
  !(s.geti LAS_CTRL_TGT j == 0 && (s.fillBlocks j).contains b)

/-- The conditions of R209 hold against the target Room's active bank; a DRAM target asks for the record block only, and only
with REC_EN (DEDUCED, log entry 13). -/
def State.targetOk (s : State) (j : Nat) : Bool :=
  let r := s.geti LAS_CTRL_ROOM j
  let live := decide (r < 24) && s.roomOn r && s.roomActive r && s.boot.opened
  let cnt := s.geti LAS_TGT_BLK_CNT j
  let last := s.geti LAS_TGT_ADDR_BASE j + s.fillRows j
  match s.geti LAS_CTRL_TGT j with
  | 0 =>
    live && decide (1 ≤ cnt) && decide (cnt ≤ 16) && decide (s.geti LAS_TGT_WORD_W j < 6) && s.recBlockOk j &&
    (s.fillBlocks j).all (fun b =>
      let c := s.cellarRec r b
      decide (b < 160) && bitB c 17 && (cellarMode c == 2 || cellarMode c == 0) && cellarWcode c 0 == s.geti LAS_TGT_WORD_W j &&
      decide (last ≤ cellarDepth c (s.fillD j)))
  | 1 =>
    live && decide (1 ≤ cnt) && decide (cnt ≤ 16) && s.geti LAS_TGT_WORD_W j == 6 && s.recBlockOk j && decide (last ≤ 4096) &&
    (s.fillBlocks j).all (fun b => decide (b < 16) && bitB (s.larderRec r b) 9)
  | _ => !s.flagi LAS_CTRL_REC_EN j || (live && s.recBlockOk j)

/-- Check an enabled Line Assembler's target (R210): TGT_UNAVAIL and KMI_SIDE; the words 1,020 to 1,023 are written 0 when the
record block becomes available (R219). -/
def State.targetCheck (s : State) (j : Nat) : State :=
  if !s.flagi LAS_CTRL_EN j then s
  else
    let good := s.targetOk j
    let rec_ := good && (s.geti LAS_CTRL_TGT j != 2 || s.flagi LAS_CTRL_REC_EN j)
    let k := s.las j
    let s1 := (s.seti LAS_STAT_TGT_UNAVAIL j (b2n (!good))).seti LAS_STAT_KMI_SIDE j (b2n (!rec_))
    let s2 := s1.setLas j { k with recOk := rec_ }
    if rec_ && !k.recOk then
      let s3 := [1020, 1021, 1022, 1023].foldl (fun st a => st.recWrite j a 0) s2
      s3.setLas j { s3.las j with sideWr := 0, sideRd := 0, txWr := 0, txRd := 0 }
    else s2

/-- Check every Line Assembler's target. -/
def State.targetRecheck (s : State) : State := (List.range 16).foldl (fun st j => st.targetCheck j) s

/-! ### Lines -/

/-- Bytes of a line (R203). -/
def State.lineBytes (s : State) (j : Nat) : Nat := ceilDiv (s.geti LAS_LINE_LINE_PIX j * s.geti LAS_PIX_IN_C j) 8

/-- A line becomes SHORT; the counter counts it once. -/
def State.markShort (s : State) (j : Nat) (l : LineSt) : LineSt × State :=
  if l.short then (l, s) else ({ l with short := true }, s.inci LAS_CNT_ERR_SHORT j)

/-- Close the open line short, with its record (R203, R208, R218). -/
def State.closeShort (s : State) (j : Nat) (err : Bool) : State :=
  match (s.las j).cur with
  | none => s
  | some l =>
    let (l1, s1) := s.markShort j l
    let l2 := { l1 with err := l1.err || err }
    let s2 := s1.putRecord j l2 false false
    s2.setLas j { s2.las j with cur := none, buf := (s2.las j).buf ++ [{ l2 with recDone := true, seq := s.recSeq j l }] }

/-- Words that wait for the bond's other lanes are dropped. -/
def State.dropWords (s : State) (j : Nat) : State :=
  (s.lasBond j).foldl (fun st k => if (st.lane k).rxQ.isEmpty then st else st.setLane k { st.lane k with rxQ := [] }) s

/-- ALIGNED of an enabled Line Assembler falls: its open line is closed SHORT with ERR, and words are discarded until it is set again (R218). -/
def State.alignLost (s : State) (j : Nat) : State :=
  let s1 := ((s.seti LAS_STAT_ALIGNED j 0).closeShort j true).dropWords j
  s1.setLas j { s1.las j with marks := [], pkt := none }

/-- WORD_LOCK of a lane falls (R194, R195): LOCK_LOSS counts it; on a lane of an enabled Line Assembler LOST is set, with its Ledger entry, and
ALIGNED falls. -/
def State.laneLost (s : State) (k : Nat) : State :=
  let s1 := ((s.seti ING_LANE_STAT_WORD_LOCK k 0).inci ING_LANE_ERR_LOCK_LOSS k).seti ING_LANE_STAT_HI_BER k 0
  match s1.laneOwner k with
  | some j => ((s1.seti ING_LANE_STAT_LOST k 1).ledger 0x0401 k).alignLost j
  | none => s1

/-- A lane's receiver starts again from nothing: WORD_LOCK falls where it is set; the transmitter's history stays. -/
def State.laneRxInit (s : State) (k : Nat) : State :=
  let s1 := if s.flagi ING_LANE_STAT_WORD_LOCK k then s.laneLost k else s
  s1.setLane k { LaneSt.init with txRd := (s1.lane k).txRd, txHist := (s1.lane k).txHist }

/-- A lane's receiver stops: its locks fall. -/
def State.laneRxOff (s : State) (k : Nat) : State := (s.seti ING_LANE_STAT_CDR_LOCK k 0).laneRxInit k

/-- A write of RX_EN and TX_EN (R191, R192): a bit written 1 at a MUL or PCS that R191 or R192 bars reads back 0 and sets RATE_ERR, whether it was
0 or 1. -/
def execLaneEnable (lane : Nat) (rx tx : Bool) (s : State) : Host.Outcome State Fault Refusal :=
  if 32 ≤ lane then .fault .noSuchUnit
  else
    let good := s.laneOk lane
    let one := fun (st : State) (f : Fld) (on : Bool) =>
      if on && !good then (st.seti f lane 0).seti ING_LANE_STAT_RATE_ERR lane 1 else st.seti f lane (b2n on)
    let s1 := if (rx && good) || !s.flagi ING_LANE_CTRL_RX_EN lane then s else s.laneRxOff lane
    ok (one (one s1 ING_LANE_CTRL_RX_EN rx) ING_LANE_CTRL_TX_EN tx)

/-- ING_REF shows whether a lane's group has its reference (R190; Table 06-7). -/
def State.refSeen (s : State) (lane : Nat) (present : Bool) : State :=
  s.set (if lane < 16 then ING_REF_REF_W_OK else ING_REF_REF_E_OK) (b2n present)

/-- A lane recovers its clock (R195): its PLL runs, so its group's reference is present (DEDUCED, log entry 40). -/
def execCdrLock (lane : Nat) (s : State) : Host.Outcome State Fault Refusal :=
  if 32 ≤ lane then .fault .noSuchUnit
  else if s.flagi ING_LANE_CTRL_RX_EN lane && s.domOn (28 + lane / 16) then ok ((s.refSeen lane true).seti ING_LANE_STAT_CDR_LOCK lane 1)
  else ok s

/-! ### Words (R193, R194, R197, R199) -/

/-- What a lane's control registers give its PCS. -/
def State.laneCfg (s : State) (k : Nat) : LaneCfg :=
  ⟨s.geti ING_LANE_CTRL_PCS k, s.geti ING_LANE_SYNC k, s.geti ING_LANE_CTRL_COMMA k, s.flagi ING_LANE_CTRL_RX_INV k, s.flagi ING_LANE_CTRL_DESCR k,
    s.geti ING_LANE_CTRL_MUL k⟩

/-- The lane's PCS runs: a mode of Table 06-1 other than OFF. -/
def State.pcsOn (s : State) (k : Nat) : Bool := let p := s.geti ING_LANE_CTRL_PCS k; decide (1 ≤ p) && decide (p ≤ 4)

/-- A word with the polarity that an inversion bit gives (R195). -/
def polar (inv : Bool) (pcs w : Nat) : Nat := if inv then 2 ^ pcsWidth pcs - 1 - w % 2 ^ pcsWidth pcs else w % 2 ^ pcsWidth pcs

/-- A lane takes word lock (R194); a single lane's Line Assembler is aligned with it (R198). -/
def State.laneLocks (s : State) (k : Nat) : State :=
  let s1 := s.seti ING_LANE_STAT_WORD_LOCK k 1
  match s1.laneOwner k with
  | some j => if s1.lasLanes j = 1 then s1.seti LAS_STAT_ALIGNED j 1 else s1
  | none => s1

/-- A lane receives one word: lock, code errors and the BER monitor follow it (R193, R194), and an aligned Line Assembler queues its
characters. The second component is the characters. -/
def State.rxWord (s : State) (k w : Nat) : State × List Chr :=
  if !s.flagi ING_LANE_STAT_CDR_LOCK k || !s.pcsOn k then (s, [])
  else
    let c := s.laneCfg k
    let x := polar c.rxInv c.pcs w
    if !s.flagi ING_LANE_STAT_WORD_LOCK k then
      let (locks, l) := lockStep c (s.lane k) x
      let s1 := s.setLane k l
      (if locks then s1.laneLocks k else s1, [])
    else
      let r := lockedStep c (s.lane k) x
      let s1 := (s.setLane k r.lane).addi ING_LANE_ERR_CODE_ERR k r.bad
      let s2 := match r.hiBer with
        | some b => s1.seti ING_LANE_STAT_HI_BER k (b2n b)
        | none => s1
      if r.lost then (s2.laneLost k, [])
      else match s2.laneOwner k with
        | some j => (if s2.flagi LAS_STAT_ALIGNED j then s2.setLane k { s2.lane k with rxQ := (s2.lane k).rxQ ++ [r.chars] } else s2, r.chars)
        | none => (s2, r.chars)

/-- The conditions under which a Line Assembler may be enabled (R196, R204; Table 06-8). -/
def State.lasEnOk (s : State) (j : Nat) : Bool :=
  let bond := s.lasBond j
  let k0 := bond.headD 0
  let w := s.geti LAS_PIX_IN_W j
  let c := s.geti LAS_PIX_IN_C j
  let o := s.geti LAS_PIX_OUT_C j
  let px := s.geti LAS_LINE_LINE_PIX j
  decide (s.geti LAS_CTRL_FIRST j + s.lasLanes j ≤ 16) &&
  bond.all (fun k => s.geti ING_LANE_CTRL_PCS k == s.geti ING_LANE_CTRL_PCS k0 && s.geti ING_LANE_CTRL_MUL k == s.geti ING_LANE_CTRL_MUL k0) &&
  bond.all (fun k => (s.laneOwner k).isNone) &&
  decide (4 ≤ w) && decide (w ≤ c) && decide (c ≤ 32) && decide (w ≤ o) && decide (o ≤ 32) &&
  decide (1 ≤ px) && decide (px ≤ 131072) &&
  s.geti LAS_CTRL_TGT j != 3 && decide (s.geti LAS_CTRL_ROOM j < 24)

/-- A write of LAS_CTRL.EN to 1 (R196): the Line Assembler is enabled with an empty queue, or EN reads back 0. -/
def execLasEnable (la t : Nat) (s : State) : Host.Outcome State Fault Refusal :=
  if 16 ≤ la then .fault .noSuchUnit
  else
    let s := s.setNow t
    if s.flagi LAS_CTRL_EN la then ok s
    else if s.lasEnOk la then
      let lock := s.lasLanes la == 1 && (s.lasBond la).all (fun k => s.flagi ING_LANE_STAT_WORD_LOCK k)
      let s1 := (((s.setLas la { LasSt.init with recOk := false }).seti LAS_CTRL_EN la 1).seti LAS_STAT_ACTIVE la 1).seti
        LAS_STAT_CFG_ERR la 0
      ok (((s1.dropWords la).seti LAS_STAT_ALIGNED la (b2n lock)).targetCheck la)
    else ok ((s.seti LAS_STAT_CFG_ERR la 1).ledger 0x0403 la)

/-- A Line Assembler is disabled: its queue and its lines are dropped without records (DEDUCED, log entry 14). -/
def State.lasDisable (s : State) (j : Nat) : State :=
  (((((((s.dropWords j).setLas j { LasSt.init with recOk := false }).seti LAS_CTRL_EN j 0).seti LAS_STAT_ACTIVE j 0).seti LAS_STAT_ALIGNED j 0).seti
    LAS_STAT_KMI_SIDE j 0).seti LAS_STAT_TGT_UNAVAIL j 0)

/-- A marker on a bonded lane at a word index (R198), in the received word: once every lane has shown one, the spread decides. ALIGNED asks for word
lock on every lane of the bond. -/
def execDeskewMarker (la lane : Nat) (mark : MarkRx) (s : State) : Host.Outcome State Fault Refusal :=
  if 16 ≤ la ∨ 16 ≤ lane then .fault .noSuchUnit
  else if !s.flagi LAS_CTRL_EN la || s.lasLanes la ≤ 1 || s.lasLanes la ≤ lane then ok s
  else
    let dev := (s.lasBond la).getD lane 0
    let (s, chars) := s.rxWord dev mark.word
    if !(chars.head? == some .marker || chars.head? == some .sync) then ok s
    else
      let k := s.las la
      let marks := (k.marks.filter (fun m => m.1 != lane)) ++ [(lane, mark.index)]
      if marks.length < s.lasLanes la then ok (s.setLas la { k with marks := marks })
      else
        let hi := marks.foldl (fun a m => max a m.2) 0
        let lo := marks.foldl (fun a m => min a m.2) hi
        let spread := hi - lo
        let s1 := s.setLas la { k with marks := [] }
        if spread ≤ 48 && (s1.lasBond la).all (fun x => s1.flagi ING_LANE_STAT_WORD_LOCK x) then
          let was := s1.flagi LAS_STAT_ALIGNED la
          let moved := was && s1.geti LAS_SKEW la != spread
          let s2 := (s1.seti LAS_SKEW la spread).seti LAS_STAT_ALIGNED la 1
          let s3 := if moved || !was then s2.dropWords la else s2
          ok (if moved then s3.setLas la { s3.las la with cur := (s3.las la).cur.map (fun l => { l with err := true }) } else s3)
        else ok (if s1.flagi LAS_STAT_ALIGNED la then s1.alignLost la else s1)

/-! ### Triggers (R205 to R207) -/

/-- A pulse fires on trigger output `n`: every Line Assembler it feeds queues an entry. -/
def State.trigPush (s : State) (n tick : Nat) (merged : Bool) (rise : Nat) : State :=
  (s.lasOn.filter (fun j => s.geti LAS_TRIG j == n)).foldl (fun st j =>
    let k := st.las j
    let e : TrigEnt := ⟨k.pulses, tick, merged, rise, false, 0⟩
    let full := decide (64 ≤ k.queue.length)
    let st1 := st.setLas j { k with pulses := (k.pulses + 1) % 2 ^ 32, queue := (if full then k.queue.drop 1 else k.queue) ++ [e] }
    if full then st1.inci LAS_CNT_PKT_TQ_OVF j else st1) s

/-- Width of the camera ID in bytes. -/
def State.idW (s : State) (j : Nat) : Nat := min 4 (s.geti LAS_HDR_ID_W j)

/-- The queue entry that a line opening now matches, and the state after learning (R206). -/
def State.trigMatch (s : State) (j camId t : Nat) : Option TrigEnt × State :=
  let q := (s.las j).queue
  if s.idW j = 0 then
    ((q.reverse).find? (fun e => timeGe t (e.rise + nsUnits (s.geti LAS_TLAT_LAT_MIN_NS j))), s)
  else if s.flagi LAS_TRIG_LEARN j then
    match q with
    | [] => (none, s)
    | e :: _ => (some e, (s.seti LAS_IDADJ_ID_ADJ j (e.s + 2 ^ 32 - camId % 2 ^ 32)).seti LAS_TRIG_LEARN j 0)
  else
    let m := 2 ^ (8 * s.idW j)
    (q.find? (fun e => e.s % m == (camId + s.geti LAS_IDADJ_ID_ADJ j) % m), s)

/-- Where the fill window of a line tagged `tag` stands (R214): 0 before, 1 open, 2 ended. -/
def State.fillWindow (s : State) (j tag : Nat) : Nat :=
  let due := tickAdd tag (s.geti LAS_CTRL_LAG j)
  if !s.tick.tickOpen || !tickGe s.tick.opened due then 0
  else match s.tick.prior with
    | some p => if tickGe p due then 2 else 1
    | none => 1

/-- Open a line with its camera ID at time `t` (R206, R207). -/
def State.openLine (s : State) (j camId t : Nat) : LineSt × State :=
  match s.touchSleep.trigMatch j camId t with
  | (none, s1) => ({ LineSt.init 0 camId with orphan := true }, s1.inci LAS_CNT_ERR_ORPHAN j)
  | (some e, s1) =>
    let late := e.missing || s1.fillWindow j e.tick == 2
    let s2 := s1.setLas j { s1.las j with queue := (s1.las j).queue.filter (fun x => x != e) }
    ({ LineSt.init e.tick camId with merged := e.merged, late := late }, if late then s2.inci LAS_CNT_LINE_LATE j else s2)

/-- Payload bytes into a line at a position; bytes beyond the line are discarded with ERR. -/
def State.addPayload (s : State) (j : Nat) (l : LineSt) (pos : Nat) (data : List Nat) : LineSt :=
  let room := s.lineBytes j - pos
  let kept := data.take room
  { l with
    payload := (List.range kept.length).foldl (fun m i => Assoc.put (pos + i) (kept.getD i 0) m) l.payload
    pos := pos + kept.length
    bytes := l.bytes + kept.length
    err := l.err || decide (room < data.length) }

/-- The open line takes a packet's payload; it is complete once the payload reaches LINE_BYTES. An ORPHAN line's record is written with its first
packet, which finds it ORPHAN (R208). -/
def State.lineTake (s : State) (j : Nat) (l : LineSt) (pos : Nat) (data : List Nat) : State :=
  let l1 := s.addPayload j l pos data
  let s1 := if l1.orphan then s.putRecord j l1 false false else s
  let l2 := if l1.orphan then { l1 with recDone := true, seq := s.recSeq j l1 } else l1
  if s.lineBytes j ≤ l2.pos then s1.setLas j { s1.las j with cur := none, buf := (s1.las j).buf ++ [l2] }
  else s1.setLas j { s1.las j with cur := some l2 }

/-- Payload bytes in the line buffer. -/
def LasSt.held (k : LasSt) : Nat :=
  k.buf.foldl (fun n l => n + l.bytes) (match k.cur with | some l => l.bytes | none => 0)

/-- A packet that meets no open line (Table 06-3). -/
def State.packetNoLine (s : State) (j camId pos t : Nat) (data : List Nat) : State :=
  if s.flagi LAS_HDR_POS_EN j && pos != 0 then s.inci LAS_CNT_ERR_SHORT j
  else
    let (l, s1) := s.openLine j camId t
    s1.lineTake j l 0 data

/-- A line packet (R202, R203; Table 06-3). -/
def State.linePacket (s : State) (j : Nat) (b : List Nat) (t : Nat) : State :=
  let field := fun (ofs w : Nat) (be : Bool) => let x := sliceBytes b ofs w; if be then beNat x else leNat x
  let camId := field (s.geti LAS_HDR_ID_OFS j) (s.idW j) (s.flagi LAS_HDR_ID_BE j)
  let pos := field (s.geti LAS_HDR_POS_OFS j) 4 (s.flagi LAS_HDR_POS_BE j)
  let data := b.drop (s.geti LAS_HDR_HDR_LEN j)
  let k := s.las j
  if 131072 < k.held + data.length then
    let s1 := match k.cur with
      | some l => let (l1, a) := s.markShort j l; a.setLas j { a.las j with cur := some l1 }
      | none => s
    (s1.inci LAS_CNT_PKT_OVFL j).ledger 0x0402 j
  else match k.cur with
    | none => s.packetNoLine j camId pos t data
    | some l =>
      let usePos := s.flagi LAS_HDR_POS_EN j
      if camId ≠ l.camId ∨ (usePos = true ∧ pos = 0) then (s.closeShort j false).packetNoLine j camId pos t data
      else if usePos = false ∨ pos = l.pos then s.lineTake j l l.pos data
      else if l.pos < pos then
        let (l1, s1) := s.markShort j l
        s1.lineTake j l1 pos data
      else s.setLas j { k with cur := some { l with err := true } }

/-! ### Side packets and transmit (R219 to R222) -/

/-- Words of a side packet in the record block's format (R220). -/
def sideWords (count : Nat) (b : List Nat) : List Nat :=
  (b.length % 65536 + 65536 * (count % 256)) :: (List.range (ceilDiv b.length 4)).map (fun i => leField b (4 * i) 4)

/-- A received side packet. -/
def State.sidePacket (s : State) (j : Nat) (b : List Nat) : State :=
  let k := s.las j
  let ws := sideWords k.sideCount b
  if 2044 < b.length then s.inci LAS_CNT_PKT_SIDE_DROP j
  else if s.recAvail j then
    let used := (k.sideWr + 512 - k.sideRd % 512) % 512
    if 512 - used < ws.length + 1 then s.inci LAS_CNT_PKT_SIDE_DROP j
    else
      let s1 := (List.range ws.length).foldl (fun st i => st.recWrite j (256 + (k.sideWr + i) % 512) (ws.getD i 0)) s
      let wr := (k.sideWr + ws.length) % 512
      (s1.recWrite j 1022 wr).setLas j { k with sideWr := wr, sideCount := k.sideCount + 1 }
  else
    let held := k.kmiBuf.foldl (fun n p => n + p.length) 0
    if 4096 < held + 4 * ws.length then s.inci LAS_CNT_PKT_SIDE_DROP j
    else s.setLas j { k with kmiBuf := k.kmiBuf ++ [ws.flatMap (leBytes 4)], sideCount := k.sideCount + 1 }

/-- A whole packet (R200, R201): checked, stripped of its trailer, and handled as a line packet or a side packet. -/
def State.packet (s : State) (la : Nat) (p : PktSt) : State :=
  let crc := s.flagi LAS_CTRL_CRC la
  let body := if crc then p.bytes.take (p.bytes.length - 4) else p.bytes
  let good := !crc || (decide (4 ≤ p.bytes.length) && crc32 body == leField p.bytes (p.bytes.length - 4) 4)
  if p.bad || !good then s.inci LAS_CNT_PKT_CRC_ERR la
  else
    let mask := s.geti LAS_MASK_LO_MASK la + 2 ^ 32 * s.geti LAS_MASK_HI_MASK la
    let want := s.geti LAS_MATCH_LO_MATCH la + 2 ^ 32 * s.geti LAS_MATCH_HI_MATCH la
    if 8 ≤ body.length ∧ leField body 0 8 &&& mask = want &&& mask then s.linePacket la body p.t else s.sidePacket la body

/-- One character of the aligned stream (Table 06-2) in front of the packet being received, and the packets that ended. `raw` is the length at which a
raw lane's packet ends. A packet that a new start cuts off, and one in which a code error fell, is bad (R200; log entry 40). -/
def delimit (raw : Option Nat) (t : Nat) (p : Option PktSt × List PktSt) (c : Chr) : Option PktSt × List PktSt :=
  match p.1, c with
  | none, .start => (some ⟨[], false, t⟩, p.2)
  | none, .sync => (some ⟨[], false, t⟩, p.2)
  | none, _ => p
  | some q, .data b =>
    let q1 := { q with bytes := q.bytes ++ [b] }
    if raw = some q1.bytes.length then (none, p.2 ++ [q1]) else (some q1, p.2)
  | some q, .term => if raw.isSome then p else (none, p.2 ++ [q])
  | some q, .start => if raw.isSome then p else (some ⟨[], false, t⟩, p.2 ++ [{ q with bad := true }])
  | some q, .bad => (some { q with bad := true }, p.2)
  | some _, .sync => p
  | some _, .marker => p
  | some _, .other => p

/-- The characters of one word: the SYNC word of a raw lane that begins a packet is no part of it. -/
def delimitWord (raw : Option Nat) (t : Nat) (p : Option PktSt × List PktSt) (w : List Chr) : Option PktSt × List PktSt :=
  match p.1, w with
  | none, .sync :: _ => delimit raw t p .sync
  | _, _ => w.foldl (delimit raw t) p

/-- Length at which a raw lane's packet ends: HDR_LEN + LINE_BYTES (Table 06-2). -/
def State.rawLen (s : State) (j : Nat) : Option Nat :=
  if s.geti ING_LANE_CTRL_PCS ((s.lasBond j).headD 0) ≤ 2 then some (s.geti LAS_HDR_HDR_LEN j + s.lineBytes j) else none

/-- The words that every lane of the bond has, in stream order: word `i` from lane FIRST + (i mod n) (R197); the packets they end are handled. -/
def State.lasDrain (s : State) (j t : Nat) : State :=
  let bond := s.lasBond j
  let m := bond.foldl (fun a k => min a (s.lane k).rxQ.length) ((s.lane (bond.headD 0)).rxQ.length)
  if m = 0 then s
  else
    let stream := (List.range m).flatMap (fun i => bond.map (fun k => (s.lane k).rxQ.getD i []))
    let s1 := bond.foldl (fun st k => st.setLane k { st.lane k with rxQ := (st.lane k).rxQ.drop m }) s
    let (pkt, done) := stream.foldl (delimitWord (s.rawLen j) t) ((s.las j).pkt, [])
    done.foldl (fun st p => st.packet j p) (s1.setLas j { s1.las j with pkt := pkt })

/-- One word on each of some lanes, as (lane, word), and what the Line Assemblers then take from them. -/
def State.wordsAt (s : State) (ws : List (Nat × Nat)) (t : Nat) : State :=
  let s1 := ws.foldl (fun st p => (st.rxWord p.1 p.2).1) s
  (ws.filterMap (fun p => s1.laneOwner p.1)).eraseDups.foldl (fun st j => st.lasDrain j t) s1

/-- Words on some lanes, each lane's in order, the first of each lane at one time. -/
def State.wordsOn (s : State) (lanes : List (Nat × List Nat)) (t : Nat) : State :=
  (List.range (lanes.foldl (fun a l => max a l.2.length) 0)).foldl (fun st i =>
    st.wordsAt (lanes.filterMap (fun l => (l.2[i]?).map (fun w => (l.1, w)))) t) s

/-! ### Transmitters (R195, R221) -/

/-- `n` values of `w` bits that the spec leaves open (log entry 3). -/
def State.freshes (s : State) (n w : Nat) : List Nat × State :=
  ((List.range n).map (fun i => Config.free (s.freeCount + i) % 2 ^ w), { s with freeCount := s.freeCount + n })

/-- `n` idle words of a lane's transmitter (R221): K28.5 symbols, idle blocks; a raw lane's idle words are any words (log entry 40). -/
def State.idleWords (s : State) (k n : Nat) : List Nat × State :=
  match s.geti ING_LANE_CTRL_PCS k with
  | 3 => let (ws, rd) := words8b (s.lane k).txRd (List.replicate (4 * n) (true, 0xBC)); (ws, s.setLane k { s.lane k with txRd := rd })
  | 4 =>
    let (ws, h) := words66 (s.flagi ING_LANE_CTRL_DESCR k) (s.lane k).txHist (List.replicate n idle66)
    (ws, s.setLane k { s.lane k with txHist := h })
  | _ => s.freshes n (pcsWidth (s.geti ING_LANE_CTRL_PCS k))

/-- A packet as a lane's transmitter sends it (R221): framed as Table 06-2 has it, with the CRC where TX_CRC is 1, and at least 12 idle bytes after
it. A raw lane sends a SYNC word and the data padded to whole words; the bits that the spec leaves open are free. -/
def State.txWords (s : State) (j k : Nat) (b : List Nat) : List Nat × State :=
  let data := if s.flagi LAS_CTRL_TX_CRC j then b ++ leBytes 4 (crc32 b) else b
  match s.geti ING_LANE_CTRL_PCS k with
  | 3 =>
    let syms := (true, 0xFB) :: data.map (fun x => (false, x % 256)) ++ (true, 0xFD) :: List.replicate 12 (true, 0xBC)
    let (ws, rd) := words8b (s.lane k).txRd syms
    (ws, s.setLane k { s.lane k with txRd := rd })
  | 4 =>
    let (ws, h) := words66 (s.flagi ING_LANE_CTRL_DESCR k) (s.lane k).txHist (blocks66 data ++ [idle66, idle66])
    (ws, s.setLane k { s.lane k with txHist := h })
  | pcs =>
    let n := pcsWidth pcs / 8
    let (high, s1) := s.freshes 1 (8 * (n - 4))
    let (pad, s2) := s1.freshes (n * ceilDiv data.length n - data.length) 8
    let (idle, s3) := s2.freshes (ceilDiv 12 n) (8 * n)
    let d := data ++ pad
    ((s.geti ING_LANE_SYNC k + 2 ^ 32 * high.headD 0) :: (List.range (d.length / n)).map (fun i => leField d (n * i) n) ++ idle, s3)

/-- The words that reach a lane's receiver: those of its own transmitter while LOOP is 1, else those from outside (R195). Nothing is sent while TX_EN
is 0; idle words loop while no packet is sent. -/
def State.rxWords (s : State) (k : Nat) (outside : List Nat) : List Nat × State :=
  if !s.flagi ING_LANE_CTRL_LOOP k then (outside, s)
  else if !s.flagi ING_LANE_CTRL_TX_EN k || !s.pcsOn k then ([], s)
  else
    let (ws, s1) := s.idleWords k outside.length
    (ws.map (polar (s.flagi ING_LANE_CTRL_TX_INV k) (s.geti ING_LANE_CTRL_PCS k)), s1)

/-- Words from outside on some lanes. -/
def State.wordsIn (s : State) (lanes : List (Nat × List Nat)) (t : Nat) : State :=
  let (ls, s1) := lanes.foldl (fun (p : List (Nat × List Nat) × State) l => let (ws, st) := p.2.rxWords l.1 l.2; (p.1 ++ [(l.1, ws)], st)) ([], s)
  s1.wordsOn ls t

/-- A lane receives the words on which it takes word lock under its PCS mode (R194). -/
def execWordLock (rx : LaneRx) (s : State) : Host.Outcome State Fault Refusal :=
  if 32 ≤ rx.lane then .fault .noSuchUnit else ok (s.wordsIn [(rx.lane, rx.words)] s.now)

/-- A lane receives the words on which it loses word lock (R194, R195, R218), or its group's reference is gone and the locks fall with the clock
(DEDUCED, log entry 40). -/
def execIngLaneDown (rx : LaneRx) (refPresent : Bool) (s : State) : Host.Outcome State Fault Refusal :=
  if 32 ≤ rx.lane then .fault .noSuchUnit
  else
    let s1 := s.refSeen rx.lane refPresent
    ok (if refPresent then s1.wordsIn [(rx.lane, rx.words)] s1.now else s1.laneRxOff rx.lane)

/-- The words of a packet arrive on a Line Assembler's bond, a list for each of its lanes (R197, R199 to R203): `t` is the arrival of its first byte,
`tEnd` that of its last word. -/
def execIngestPacket (la : Nat) (lanes : List (List Nat)) (t tEnd : Nat) (s : State) : Host.Outcome State Fault Refusal :=
  if 16 ≤ la then .fault .noSuchUnit
  else if !s.flagi LAS_CTRL_EN la || !s.domOn (28 + la / 8) then ok s
  else ok (((s.reach tEnd).wordsIn ((s.lasBond la).zip lanes) t))

/-- Every 32 CD88 cycles the fabric-owned words are read (R219). -/
def execRecordBlockPoll (la : Nat) (s : State) : Host.Outcome State Fault Refusal :=
  if 16 ≤ la then .fault .noSuchUnit
  else if s.recAvail la then
    ok (s.setLas la { s.las la with sideRd := s.recRead la 1020 % 512, txWr := s.recRead la 1021 % 252 })
  else ok s

/-- A bond sends a packet on one lane, and idles on its other lanes with TX_EN (R221); a looped lane receives what it sends (R195). -/
def State.send (s : State) (j lane : Nat) (b : List Nat) : State :=
  let (ws, s1) := s.txWords j lane b
  let on := (s.lasBond j).filter (fun k => s.flagi ING_LANE_CTRL_TX_EN k)
  let (all, s2) := on.foldl (fun (p : List (Nat × List Nat) × State) k =>
    let (x, st) := if k = lane then (ws, p.2) else p.2.idleWords k ws.length
    (p.1 ++ [(k, x.map (polar (s.flagi ING_LANE_CTRL_TX_INV k) (s.geti ING_LANE_CTRL_PCS k)))], st)) ([], s1)
  let s3 := all.foldl (fun st p => st.emit (.laneTx p.1 p.2)) s2
  s3.wordsOn (all.filter (fun p => s.flagi ING_LANE_CTRL_LOOP p.1)) s.now

/-- A transmit packet placed by the fabric, or by SIDE_SEND while the record block is unavailable, is sent (R221, R222); with the lane's PCS OFF its
clock stands and the packet waits (R192). -/
def execTransmitPacket (la : Nat) (s : State) : Host.Outcome State Fault Refusal :=
  if 16 ≤ la then .fault .noSuchUnit
  else
    let g := s.geti LAS_CTRL_FIRST la + s.geti LAS_CTRL_TX_LANE la
    let lane := 16 * (la / 8) + g
    let k := s.las la
    if !s.flagi LAS_CTRL_EN la || s.lasLanes la ≤ s.geti LAS_CTRL_TX_LANE la || !s.flagi ING_LANE_CTRL_TX_EN lane || !s.pcsOn lane then ok s
    else if s.recAvail la then
      if k.txRd = k.txWr then ok s
      else
        let word := fun (i : Nat) => s.recRead la (768 + (k.txRd + i) % 252)
        let len := word 0 % 65536
        let n := ceilDiv len 4
        let data := ((List.range n).flatMap (fun i => leBytes 4 (word (1 + i)))).take len
        let rd := (k.txRd + 1 + n) % 252
        ok (((s.setLas la { k with txRd := rd }).recWrite la 1023 rd).send la lane data)
    else match k.kmiTx with
      | [] => ok s
      | p :: rest => ok ((s.setLas la { k with kmiTx := rest }).send la lane p)

/-! ### Fills (R204, R209, R211 to R216) -/

/-- Bit `b` of the unpacked line (R204). -/
def State.unpackBit (s : State) (j : Nat) (p : Assoc Nat) (b : Nat) : Bool :=
  let o := s.geti LAS_PIX_OUT_C j
  let i := b / o
  let k := b % o
  if i < s.geti LAS_LINE_LINE_PIX j ∧ k < s.geti LAS_PIX_IN_W j then
    let x := i * s.geti LAS_PIX_IN_C j + k
    bitB (Assoc.get 0 (x / 8) p) (x % 8)
  else false

/-- `n` bits of the unpacked line from bit `lo`. -/
def State.unpack (s : State) (j : Nat) (p : Assoc Nat) (lo n : Nat) : Nat :=
  maskOf ((List.range n).filter (fun b => s.unpackBit j p (lo + b)))

/-- Of `n` bits of the unpacked line from bit `lo`, those whose payload byte has arrived; bits beyond the line are padding and always there. -/
def State.readyMask (s : State) (j : Nat) (p : Assoc Nat) (lo n : Nat) : Nat :=
  let o := s.geti LAS_PIX_OUT_C j
  maskOf ((List.range n).filter (fun b =>
    let i := (lo + b) / o
    decide (s.geti LAS_LINE_LINE_PIX j ≤ i) ||
    (let x := i * s.geti LAS_PIX_IN_C j + min ((lo + b) % o) (s.geti LAS_PIX_IN_W j - 1)
     (Assoc.find? (x / 8) p).isSome)))

/-- New bits under a mask over old ones. -/
def overlay (old new mask : Nat) : Nat := clrMask old mask + (new &&& mask)

/-- Write one row into the blocks of a block target (R209): payload at its position, the bits of a gap unwritten (Table 06-3), ninth bits 0. -/
def State.fillRow (s : State) (j : Nat) (l : LineSt) (row : Nat) : State :=
  let r := s.geti LAS_CTRL_ROOM j
  let d := s.fillD j
  let w := s.fillR j
  let v := s.unpack j l.payload (w * row) w
  let m := s.readyMask j l.payload (w * row) w
  let a := s.geti LAS_TGT_ADDR_BASE j + row
  (List.range (s.geti LAS_TGT_BLK_CNT j)).foldl (fun st i =>
    let b := st.geti LAS_TGT_BLK_FIRST j + i
    let new := bits v (d * (i + 1) - 1) (d * i)
    let mask := bits m (d * (i + 1) - 1) (d * i)
    if mask = 0 then st
    else if st.geti LAS_CTRL_TGT j = 1 then
      let ecc := bitB (st.larderRec r b) 0
      let key := 4096 * (16 * r + b) + a
      let was := larderWord ecc key st.fab.larder
      let old := if ecc then was % 2 ^ 64 else (List.range 8).foldl (fun x k => x + bits was (9 * k + 7) (9 * k) * 2 ^ (8 * k)) 0
      let word := overlay old new mask
      let stored := if ecc then word + 2 ^ 64 * (Config.ecc72 word % 256)
        else (List.range 8).foldl (fun x k => x + bits word (8 * k + 7) (8 * k) * 2 ^ (9 * k)) 0
      { st with fab := { st.fab with larder := Assoc.write 0 key stored st.fab.larder } }
    else
      let rec_ := st.cellarRec r b
      let base := cellarKey r b + halfBase rec_ 0 (Assoc.get false (160 * r + b) st.fab.ppSel)
      let word := overlay (cellarRead st.fab.cellar base d a % 2 ^ d) new mask
      { st with fab := { st.fab with cellar := cellarWrite st.fab.cellar base d a 255 word } }) s

/-- Line Assembler writes beyond the installed DRAM are discarded with a Ledger entry (Table 09-5). -/
def State.lasDram (s : State) (j dpa : Nat) (data : List Nat) : State :=
  if s.dpaOk dpa data.length then s.dramWrite (192 + j) dpa data false else s.ledger 0x0607 (dpa % 2 ^ 37 + 2 ^ 40 * (192 + j))

/-- One 256-bit row of a line into a slot (R211): 32 bytes, or where a gap shares the row only the bytes that payload reaches. -/
def State.slotRow (s : State) (j base : Nat) (l : LineSt) (i : Nat) : State :=
  let v := s.unpack j l.payload (256 * i) 256
  let m := s.readyMask j l.payload (256 * i) 256
  let at_ := base + 64 + 32 * i
  if m = 2 ^ 256 - 1 then s.lasDram j at_ (leBytes 32 v)
  else (List.range 32).foldl (fun st k =>
    let mask := bits m (8 * k + 7) (8 * k)
    let a := at_ + k
    let old := bits (st.lineView (a / 64)).1 (8 * (a % 64) + 7) (8 * (a % 64))
    if mask = 0 then st else st.lasDram j a [overlay old (bits v (8 * k + 7) (8 * k)) mask]) s

/-- A line's rows from `lo` and its record into a DRAM slot (R211). -/
def State.slotWrite (s : State) (j base : Nat) (l : LineSt) (lo : Nat) (spilled : Bool) : State :=
  let n := ceilDiv (s.lineBits j) 256
  let s1 := (List.range (n - lo)).foldl (fun st i => st.slotRow j base l (lo + i)) s
  s1.lasDram j base (recordBytes l spilled false j (s1.recSeq j l) ++ List.replicate 48 0)

/-- DRAM target base of a tick's slot. -/
def State.lasSlot (s : State) (j tag : Nat) : Nat :=
  s.geti LAS_DRAM_LO_BASE j + 2 ^ 32 * s.geti LAS_DRAM_HI_BASE j + tag % max 1 (s.geti LAS_DRAM_SLOT_SLOTS j) * s.geti LAS_STRIDE j

/-- A line leaves the line buffer. -/
def State.lineOut (s : State) (j i : Nat) : State :=
  s.setLas j { s.las j with buf := (s.las j).buf.eraseIdx i }

/-- A line that its target does not take goes to the spill region, or is dropped once its record is written (R212). -/
def State.spill (s : State) (j i : Nat) (l : LineSt) : State :=
  let s0 := s.lineOut j i
  if s.flagi LAS_CTRL_SPILL_EN j then
    let k := s0.las j
    let base := s.geti LAS_SPILL_LO_BASE j + 2 ^ 32 * s.geti LAS_SPILL_HI_BASE j + k.spillNext * s.geti LAS_STRIDE j
    let s1 := s0.slotWrite j base l 0 true
    let s2 := s1.putRecord j l true false
    s2.setLas j { s2.las j with spillNext := (k.spillNext + 1) % max 1 (s.geti LAS_SPILL_SLOT_SLOTS j) }
  else s0.putRecord j l false false

/-- What a line can do now: 0 wait, 1 fill its target, 2 leave for the spill region (R212, R214, R216). -/
def State.lineAction (s : State) (j : Nat) (l : LineSt) : Nat :=
  if l.orphan || l.late then 2
  else if s.geti LAS_CTRL_TGT j = 2 then 1
  else match s.fillWindow j l.tag with
    | 0 => 0
    | 1 => if s.flagi LAS_STAT_TGT_UNAVAIL j || ((s.las j).taken == some s.tick.opened && !l.own) then 2 else 1
    | _ => 2

/-- Rows of `w` bits that the payload of the open line completes. -/
def State.rowsHeld (s : State) (j : Nat) (l : LineSt) (w : Nat) : Nat := 8 * l.pos / s.geti LAS_PIX_IN_C j * s.geti LAS_PIX_OUT_C j / w

/-- Row width of the target (R209, R211). -/
def State.rowBits (s : State) (j : Nat) : Nat := if s.geti LAS_CTRL_TGT j = 2 then 256 else s.fillR j

/-- The open line can write rows that it has completed (R214, R215). -/
def State.openFill (s : State) (j : Nat) : Bool :=
  match (s.las j).cur with
  | some l => s.lineAction j l == 1 && decide (l.rows < s.rowsHeld j l (s.rowBits j))
  | none => false

/-- The buffer's oldest line that can go. -/
def State.linePick (s : State) (j : Nat) : Option (Nat × LineSt) :=
  let b := (s.las j).buf
  ((List.range b.length).filterMap (fun i => (b[i]?).map (fun l => (i, l)))).find? (fun p => s.lineAction j p.2 != 0)

/-- The Line Assembler waits for its Room's fill port: a line of it can fill a block target. -/
def State.wantsPort (s : State) (j : Nat) : Bool :=
  s.flagi LAS_CTRL_EN j && s.geti LAS_CTRL_TGT j != 2 && (match s.linePick j with | some (_, l) => s.lineAction j l == 1 | none => s.openFill j)

/-- The Line Assembler that the fill port of `j`'s Room serves: those that wait, in round-robin order after the one served last (R213). -/
def State.fillTurn (s : State) (j : Nat) : Nat :=
  let r := s.geti LAS_CTRL_ROOM j
  let last := Assoc.get 15 r s.ing.fillLast
  if !s.wantsPort j then j
  else (((List.range 16).map (fun i => (last + 1 + i) % 16)).find? (fun x => s.wantsPort x && s.geti LAS_CTRL_ROOM x == r)).getD j

/-- Rows `lo` to `lo + n − 1` of a line into the block target, which it now holds for the fill tick (R216). -/
def State.fillRows_ (s : State) (j : Nat) (l : LineSt) (n : Nat) : State :=
  let s1 := (List.range n).foldl (fun st i => st.fillRow j l (l.rows + i)) s
  ({ s1 with ing := { s1.ing with fillLast := Assoc.put (s1.geti LAS_CTRL_ROOM j) j s1.ing.fillLast } }).setLas j
    { s1.las j with taken := some s1.tick.opened }

/-- The open line writes the rows it has completed, a block target's within its window: fewer in time make it LATE, and what is written stays
(R214, R215). -/
def State.fillOpen (s : State) (j rowsInTime : Nat) : State :=
  match (s.las j).cur with
  | none => s
  | some l =>
    let n := s.rowsHeld j l (s.rowBits j) - l.rows
    if s.geti LAS_CTRL_TGT j = 2 then
      let s1 := (List.range n).foldl (fun st i => st.slotRow j (s.lasSlot j l.tag) l (l.rows + i)) s
      s1.setLas j { s1.las j with cur := some { l with rows := l.rows + n } }
    else
      let s1 := s.fillRows_ j l (min n rowsInTime)
      if n ≤ rowsInTime then s1.setLas j { s1.las j with cur := some { l with rows := l.rows + n, own := true } }
      else (s1.setLas j { s1.las j with cur := some { l with late := true } }).inci LAS_CNT_LINE_LATE j

/-- A line of the buffer goes: to its target, to the spill region, or nowhere (R211 to R216). -/
def State.fillLine (s : State) (j i rowsInTime : Nat) (l : LineSt) : State :=
  if s.lineAction j l = 2 then
    let taken := !l.orphan && !l.late && s.fillWindow j l.tag == 1 && s.geti LAS_STAT_TGT_UNAVAIL j == 0
    let l1 := { l with displaced := l.displaced || taken }
    (if taken then s.inci LAS_CNT_ERR_DISPLACED j else s).spill j i l1
  else if s.geti LAS_CTRL_TGT j = 2 then
    let s1 := (s.lineOut j i).slotWrite j (s.lasSlot j l.tag) l l.rows false
    let s2 := s1.putRecord j l false false
    if l.short then s2 else s2.inci LAS_CNT_LINE_LINES j
  else
    let n := s.fillRows j - l.rows
    let s1 := s.fillRows_ j l (min n rowsInTime)
    if n ≤ rowsInTime then
      let s2 := (s1.lineOut j i).putRecord j l false false
      if l.short then s2 else s2.inci LAS_CNT_LINE_LINES j
    else (s1.inci LAS_CNT_LINE_LATE j).spill j i { l with late := true }

/-- A line is written (R211 to R216): the oldest of the buffer that can go, else the rows that the open line has completed. A block target's Room
serves its Line Assemblers in turn (R213). `rowsInTime` rows reach the block port before the window ends; with fewer than the line
has ready it becomes LATE (R215). -/
def execLineFill (la rowsInTime : Nat) (s : State) : Host.Outcome State Fault Refusal :=
  if 16 ≤ la then .fault .noSuchUnit
  else if !s.flagi LAS_CTRL_EN la then ok s
  else
    let j := s.fillTurn la
    match s.linePick j with
    | some (i, l) => ok (s.fillLine j i rowsInTime l)
    | none => ok (if s.openFill j then s.fillOpen j rowsInTime else s)

/-! ### Slot 2 of the boundary (R214, R217) -/

/-- The record of a missing line: to the record block, and to its slot of a DRAM target. -/
def State.missingRecord (s : State) (j : Nat) (e : TrigEnt) : State :=
  let m := 2 ^ (8 * s.idW j)
  let id := if s.idW j = 0 then 0 else (e.s + m - s.geti LAS_IDADJ_ID_ADJ j % m) % m
  let l : LineSt := { LineSt.init e.tick id with merged := e.merged }
  let s1 := if s.geti LAS_CTRL_TGT j = 2 then
      s.lasDram j (s.lasSlot j e.tick) (recordBytes l false true j (s.las j).recCount ++ List.replicate 48 0)
    else s
  (s1.putRecord j l false true).inci LAS_CNT_ERR_MISSING j

/-- One queue entry at slot 2 of a boundary that closes `n` ticks: a missing record at the end of its window, MISS_WAIT further ticks, then nothing. -/
def State.missStep (j n : Nat) (p : State × List TrigEnt) (e : TrigEnt) : State × List TrigEnt :=
  let (s, keep) := p
  if e.missing then
    if e.wait ≤ n then (s, keep) else (s, keep ++ [{ e with wait := e.wait - n }])
  else if s.fillWindow j e.tick = 2 then
    let w := s.geti LAS_TRIG_MISS_WAIT j
    (s.missingRecord j e, if w = 0 then keep else keep ++ [{ e with missing := true, wait := w }])
  else (s, keep ++ [e])

/-- Lines whose window has ended become LATE. -/
def State.lateLines (s : State) (j : Nat) : State :=
  let k := s.las j
  let hit := fun (l : LineSt) => !l.orphan && !l.late && s.fillWindow j l.tag == 2
  let n := (k.buf.filter hit).length + (match k.cur with | some l => b2n (hit l) | none => 0)
  let one := fun (l : LineSt) => if hit l then { l with late := true } else l
  (s.setLas j { k with cur := k.cur.map one, buf := k.buf.map one }).addi LAS_CNT_LINE_LATE j n

/-- Slot 2 of a boundary that closes `n` ticks: every enabled Line Assembler. -/
def State.lasBoundary (s : State) (n : Nat) : State :=
  s.lasOn.foldl (fun st j =>
    let st1 := st.lateLines j
    let (st2, q) := (st1.las j).queue.foldl (State.missStep j n) (st1, [])
    st2.setLas j { st2.las j with queue := q }) s

/-! ### KMI (R410) -/

/-- SIDE_RECV (R222): the oldest packets that fit the data limit. -/
def execSideRecv (m : Nat) (s : State) : Host.Outcome State Fault Refusal :=
  kmiCommand 0x0405 m (fun cmd s =>
    let j := bits cmd.a0 3 0
    if s.geti LAS_STAT_KMI_SIDE j = 0 then .fin s stBadState 0 [] []
    else
      let limit := if cmd.hostBuf then cmd.hostLen else cmd.resMax
      let k := s.las j
      let (data, n, _) := k.kmiBuf.foldl (fun (p : List Nat × Nat × Bool) pkt =>
        if p.2.2 && decide (p.1.length + pkt.length ≤ limit) && decide (p.2.1 < 255) then (p.1 ++ pkt, p.2.1 + 1, true)
        else (p.1, p.2.1, false)) (([] : List Nat), 0, true)
      .fin (s.setLas j { k with kmiBuf := k.kmiBuf.drop n }) stOk 0 [data.length, n] data) s

/-- SIDE_SEND (R222): a transmit packet of up to 2,044 bytes. The spec gives the transmit buffer no size: it is taken as 4 KiB,
like the receive buffer (PRESUMED, log entry 15). -/
def execSideSend (m : Nat) (s : State) : Host.Outcome State Fault Refusal :=
  kmiCommand 0x0406 m (fun cmd s =>
    let j := bits cmd.a0 3 0
    let k := s.las j
    let held := k.kmiTx.foldl (fun n p => n + 4 + 4 * ceilDiv p.length 4) 0
    if s.geti LAS_STAT_KMI_SIDE j = 0 then .fin s stBadState 0 [] []
    else if cmd.dataIn.isEmpty || decide (2044 < cmd.dataIn.length) then .fin s stBadArg 0 [] []
    else if 4096 < held + 4 + 4 * ceilDiv cmd.dataIn.length 4 then .fin s stBusy 0 [] []
    else .fin (s.setLas j { k with kmiTx := k.kmiTx ++ [cmd.dataIn] }) stOk 0 [] []) s

end Sys2Proof.Machine
end

