-- ==== Sys2Proof/Machine/Io.lean ====
section
/-! DEFINITION. I/O banks and pins (14): standards (R450, R451), slots and ownership (R455 to R458, R464), management functions and
their resources (R459 to R463), two drivers (R465), GPIO interrupts, timers, fan-out and controllers (R466 to R470). -/

namespace Sys2Proof.Machine

open Reg

/-! ### Dedicated pins

Codes of the dedicated pins in the log of outward effects, above the user pin numbers; CFG_ERR_N and WAKE_N carry 1 while
high-impedance (DESIGN CHOICE, log entry 6). -/

/-- OPEN (R508). -/
def pinOpen : Nat := 1000
/-- CFG_ERR_N (R509). -/
def pinCfgErr : Nat := 1001
/-- WAKE_N (R245). -/
def pinWake : Nat := 1002
/-- TWIN_ROLE (R519). -/
def pinTwinRole : Nat := 1003

/-! ### Banks and standards -/

/-- VIO_OK of a bank. -/
def State.vioOk (s : State) (k : Nat) : Bool := bitB (s.get IOB_STAT_VIO_OK) k

/-- Set or clear VIO_OK of a bank. -/
def State.setVio (s : State) (k : Nat) (v : Bool) : State :=
  s.set IOB_STAT_VIO_OK (if v then setBit (s.get IOB_STAT_VIO_OK) k else clrBit (s.get IOB_STAT_VIO_OK) k)

/-- The VIO_SEL code a standard needs in a bank (Table 14-2): none where the bank type does not carry it, 8 for any. -/
def stdVio (std : Nat) (hp : Bool) : Option Nat :=
  match std with
  | 0 => some 8
  | 1 => if hp then some 0 else none
  | 2 => if hp then some 1 else none
  | 3 => if hp then some 3 else none
  | 4 => some 4
  | 5 => if hp then some 8 else none
  | 6 => if hp then some 1 else none
  | 7 => if hp then some 3 else none
  | 8 => if hp then some 2 else none
  | 9 => if hp then some 1 else none
  | 10 => if hp then some 3 else none
  | 11 => if hp then some 4 else none
  | 12 => if hp then some 1 else none
  | 13 => if hp then none else some 5
  | _ => if hp then none else some 6

/-- A standard of pairs. -/
def stdDiff (std : Nat) : Bool := std == 5 || std == 6

/-- The pin's STD matches its bank and VIO_SEL (R451). -/
def State.stdOk (s : State) (n : Nat) : Bool :=
  match stdVio (s.geti IOB_PIN_STD n) (decide (n / 48 < 8)) with
  | none => false
  | some 8 => true
  | some v => s.geti IOB_BANK_VIO_SEL (n / 48) == v

/-- The N leg of a differential pin pair: its own settings are ignored (R450). -/
def State.nLeg (s : State) (n : Nat) : Bool := n % 2 == 1 && stdDiff (s.geti IOB_PIN_STD (n - 1)) && s.stdOk (n - 1)

/-- The pin acts as OFF: STD 0, a mismatch, or a differential standard on an odd pin. -/
def State.pinOff (s : State) (n : Nat) : Bool :=
  s.geti IOB_PIN_STD n == 0 || !s.stdOk n || (n % 2 == 1 && stdDiff (s.geti IOB_PIN_STD n))

/-- IOB_STAT.STD_ERR of a bank after its settings change (R451). -/
def State.stdCheck (s : State) (k : Nat) : State :=
  if (List.range 48).all (fun p => s.stdOk (48 * k + p) || s.nLeg (48 * k + p)) then s else s.orBit IOB_STAT_STD_ERR k

/-! ### Slots and ownership -/

/-- The pin a Room's pin slot reaches (R455). -/
def slotPin (r sl : Nat) : Nat := (26 * r + sl) % 624

/-- The two (Room, slot) pairs that reach a pin. -/
def pinSlots (n : Nat) : List (Nat × Nat) := [(n / 26, n % 26), ((n / 26 + 23) % 24, n % 26 + 26)]

/-- A slot claims its pin: USED of its output-enable Door's group in the ACTIVE bank (R456); while the Room is off its pins show the clamp
values of the groups in use when it went off (R24, R475). -/
def State.slotClaims (s : State) (r sl : Nat) : Bool := (s.roomActive r || !s.roomOn r) && bitB (s.doorRec r (976 + sl / 4)) 0

/-- The slots that claim a pin. -/
def State.claimers (s : State) (n : Nat) : List (Nat × Nat) := (pinSlots n).filter (fun p => s.slotClaims p.1 p.2)

/-- Fabric-owned: a slot claims the pin (R457), or did until a flip whose handover clamp still holds (R464). -/
def State.pinFabric (s : State) (n : Nat) : Bool := !(s.claimers n).isEmpty || Assoc.get false n s.io.claimed

/-- The fabric drivers of a pin: (output enable, value) of each claiming slot, as its Doors' links carry them (R458). -/
def State.fabricDrive (s : State) (n : Nat) : List (Bool × Bool) :=
  (s.claimers n).map (fun p => (s.doorLink p.1 (3904 + p.2) == 1, s.doorLink p.1 (3840 + p.2) == 1))

/-- Output enable and value of GPIO on a pin (R466). -/
def State.gpioDrive (s : State) (n : Nat) : Bool × Bool :=
  let k := n / 48
  let p := n % 48
  if p < 32 then (bitB (s.geti GPIO_P_OE_LO_OE k) p, bitB (s.geti GPIO_P_OUT_LO_OUT k) p)
  else (bitB (s.geti GPIO_P_OE_HI_OE k) (p - 32), bitB (s.geti GPIO_P_OUT_HI_OUT k) (p - 32))

/-- The time counter lies inside a pulse. -/
def State.inPulse (s : State) (rise fall : Nat) : Bool := timeGe s.now rise && !timeGe s.now fall

/-- Output enable and value that a management function gives its pin (R459, R468 to R470): GPIO; UART and SPI outputs at their idle
levels, a chip select low through its transfer; I²C released between transfers; a timer's or a fan-out's level; CLKREQ_N low unless the
link is in L1.1 or L1.2 (PRESUMED, log entry 43). -/
def State.funcDrive (s : State) (n f : Nat) : Bool × Bool :=
  if f = 1 then s.gpioDrive n
  else if f < 0x10 then (false, false)
  else if f < 0x18 then (if f % 4 = 0 then (true, true) else if f % 4 = 2 then (true, Config.idleLevel f) else (false, false))
  else if f < 0x30 then
    let c := 2 + (f - 0x20) / 8
    let x := f % 8
    if x = 0 then (true, bitB (s.geti GPIO_PER_CFG_SPI_MODE c) 1)
    else if x = 1 then (true, Config.idleLevel f)
    else if x = 2 then (false, false)
    else (true, !(bitB s.io.busy c && s.geti GPIO_PER_CFG_CS c == x - 3))
  else if f < 0x40 then (false, false)
  else if f < 0x48 then
    let t := f - 0x40
    (true, (match s.io.timRise.getD t none, s.io.timEnd.getD t none with
      | some r, some e => s.inPulse r e
      | _, _ => false) != s.flagi GPIO_TIM_CTRL_POL t)
  else if f < 0x50 then (false, false)
  else if f < 0x60 then
    (true, (match Assoc.find? (f - 0x50) s.io.fan with
      | some p => s.inPulse p.1 p.2
      | none => false) != s.flagi GPIO_FAN_INV (f - 0x50))
  else (decide (s.get HLK_STAT_LPM < 2), false)

/-- Two drivers stand on a pin (R465); an N leg's slots and function count for nothing (R450). -/
def State.pinConflict (s : State) (n : Nat) : Bool :=
  !s.nLeg n &&
  match (s.claimers n).length with
  | 0 => false
  | 1 => s.geti GPIO_PIN_FUNC n != 0
  | _ => true

/-- The pin's standard and bank let it drive: not OFF, VIO in range, the part Opened, and 1.8 V for LVDS (R449 to R451). -/
def State.canDrive (s : State) (n : Nat) : Bool :=
  !s.pinOff n && s.vioOk (n / 48) && s.boot.opened &&
  (s.geti IOB_PIN_STD n != 5 || s.geti IOB_BANK_VIO_SEL (n / 48) == 4)

/-- The OD option acts on LVCMOS and LVTTL (R452). -/
def State.openDrain (s : State) (n : Nat) : Bool :=
  let std := s.geti IOB_PIN_STD n
  s.flagi IOB_PIN_OD n && ((decide (1 ≤ std) && decide (std ≤ 4)) || decide (13 ≤ std))

/-- Output enable and value of a pin from its drivers, ORed as R465 says, under the open-drain option (R452). -/
def State.ownDrive (s : State) (n : Nat) : Bool × Bool :=
  let ds := s.fabricDrive n ++ [s.funcDrive n (s.geti GPIO_PIN_FUNC n)]
  let en := ds.any (·.1)
  let v := ds.any (fun d => d.1 && d.2)
  if !s.canDrive n then (false, false) else if s.openDrain n then (en && !v, false) else (en, v)

/-- Output enable and value of a pin at the ball: the boundary register and HIGHZ under test (R560), the held levels under a mode change, else the
pin's drivers; an N leg carries the complement of its P leg (R450). -/
def State.pinDrive (s : State) (n : Nat) : Bool × Bool :=
  if s.lc.ir = 0 ∨ s.lc.ir = 3 then (true, bitB s.lc.bsr n)
  else if s.lc.ir = 4 then (false, false)
  else match s.pwr.padHold with
  | some l => l.getD n (false, false)
  | none => if s.nLeg n then ((s.ownDrive (n - 1)).1, (s.ownDrive (n - 1)).1 && !(s.ownDrive (n - 1)).2) else s.ownDrive n

/-- The input of a pin is on: the part Opened, so that the IOB_ settings stand at the pads (R501), its standard is not OFF, or it is an N leg, and
the bank's VIO is in range (R449, R450). -/
def State.inputOn (s : State) (n : Nat) : Bool := s.boot.opened && (!s.pinOff n || s.nLeg n) && s.vioOk (n / 48)

/-- The pull of a pin: IOB_PIN.PULL once the part is Open (R452); before it the pre-Opening pull, a pull-up with PUDC_N low unless the PREOPEN_HIZ
mask of OTP row 1 names the bank (R501). -/
def State.pullOf (s : State) (n : Nat) : Nat :=
  if s.boot.opened then s.geti IOB_PIN_PULL n
  else if bitB (leNat (Assoc.readRun 0 144 2 s.pnt.shadow)) (n / 48) || !s.vioOk (n / 48) then 0
  else if s.boot.pudc then 0 else 1

/-- The bit of GPIO_P*k*_IN last sampled on a pin. -/
def State.pinSampled (s : State) (n : Nat) : Bool :=
  if n % 48 < 32 then bitB (s.geti GPIO_P_IN_LO_IN (n / 48)) (n % 48) else bitB (s.geti GPIO_P_IN_HI_IN (n / 48)) (n % 48 - 32)

/-- The level at a pin (R452, R466): what the pin drives, what was last seen driven from outside, its pull-up or pull-down, or its last
level. -/
def State.ballLevel (s : State) (n : Nat) : Bool :=
  let d := s.pinDrive n
  if d.1 then d.2
  else match Assoc.find? n s.io.ext, s.pullOf n with
    | some v, _ => v
    | none, 1 => true
    | none, 2 => false
    | none, _ => s.pinSampled n

/-- The input of a pin: an N leg shows the complement of its P leg. -/
def State.pinIn (s : State) (n : Nat) : Bool := if s.nLeg n then !s.ballLevel (n - 1) else s.ballLevel n

/-- GPIO_P*k*_IN is sampled (R466): inputs of a bank without VIO read 0 (R449), a disabled input keeps its last sample (DESIGN CHOICE, log
entry 43). -/
def State.inShow (s : State) (k : Nat) : State :=
  let b := fun n => if !s.vioOk k then false else if s.inputOn n then s.pinIn n else s.pinSampled n
  let word := fun lo n => (List.range n).foldl (fun v p => v + 2 ^ p * b2n (b (48 * k + lo + p))) 0
  (s.seti GPIO_P_IN_LO_IN k (word 0 32)).seti GPIO_P_IN_HI_IN k (word 32 16)

/-- What a pin slot's input Door takes: the pin's level, or nothing for a slot that reaches no pin, a pin that is OFF or an N leg, or a bank
without VIO (R144, R148, R450, R455, R456). -/
def State.slotIn (s : State) (r sl : Nat) : Option Bool :=
  let n := slotPin r sl
  if 52 ≤ sl || s.pinOff n || s.nLeg n || !s.vioOk (n / 48) then none else some (s.pinIn n)

/-- Bring a pin's OWNER and its conflict up to date: a conflict is recorded once per episode (R465). -/
def State.pinUpdate (s : State) (n : Nat) : State :=
  let s1 := s.seti GPIO_PIN_OWNER n (b2n (s.pinFabric n))
  let was := Assoc.get false n s1.io.conflict
  let now := s1.pinConflict n
  let s2 := { s1 with io := { s1.io with conflict := Assoc.write false n now s1.io.conflict } }
  if now && !was then (s2.seti IOB_CONFLICT_PINS (n / 32) (setBit (s2.geti IOB_CONFLICT_PINS (n / 32)) (n % 32))).ledger 0x0C02 n else s2

/-- The pins that a Room's slots reach. -/
def roomPins (r : Nat) : List Nat := (List.range 52).map (slotPin r)

/-- Pin ownership after a change of a Room's active bank. -/
def State.roomPinsUpdate (s : State) (r : Nat) : State := (roomPins r).foldl (fun st n => st.pinUpdate n) s

/-- Pins that a flip leaves without a claim stay with the fabric until the handover clamp is released (R464): `before` are the
pins claimed before the flip. -/
def State.holdClaims (s : State) (before : List Nat) : State :=
  { s with io := { s.io with claimed := before.foldl (fun m n => if (s.claimers n).isEmpty then Assoc.write false n true m else m) s.io.claimed } }

/-- The handover clamp of a Room is released: its pins return to their management functions. -/
def State.releaseClaims (s : State) (r : Nat) : State :=
  let pins := roomPins r
  ({ s with io := { s.io with claimed := s.io.claimed.filter (fun e => !pins.contains e.1) } }).roomPinsUpdate r

/-! ### Management functions -/

/-- The code is one of Table 14-3. -/
def funcListed (f : Nat) : Bool :=
  f ≤ 1 || (decide (0x10 ≤ f) && decide (f ≤ 0x17)) || (decide (0x20 ≤ f) && decide (f ≤ 0x2F) && f % 8 != 7) ||
  (decide (0x30 ≤ f) && decide (f ≤ 0x33)) || (decide (0x40 ≤ f) && decide (f ≤ 0x60))

/-- The function needs a timed-output buffer. -/
def funcBuf (f : Nat) : Bool := (decide (0x40 ≤ f) && decide (f ≤ 0x47)) || (decide (0x50 ≤ f) && decide (f ≤ 0x5F))

/-- The timer a function holds. -/
def funcTimer (f : Nat) : Option Nat := if 0x40 ≤ f ∧ f ≤ 0x4F then some (f % 8) else none

/-- The function holds a signal of its own. -/
def funcSignal (f : Nat) : Bool := decide (0x10 ≤ f) && (decide (f < 0x40) || f == 0x60)

/-- Pins whose current function is `f`. -/
def State.pinsOf (s : State) (f : Nat) : List Nat := (List.range 624).filter (fun n => s.geti GPIO_PIN_FUNC n == f)

/-- A signal is held by a pin's current or pending function. -/
def State.signalHeld (s : State) (f : Nat) : Bool :=
  (List.range 624).any (fun n => s.geti GPIO_PIN_FUNC n == f || (s.flagi GPIO_PIN_PENDING n && s.geti GPIO_PIN_PEND_FUNC n == f))

/-- The resources of function `f` are free (R460). -/
def State.funcFree (s : State) (f : Nat) : Bool :=
  !(funcSignal f && s.signalHeld f) &&
  (match funcTimer f with | some t => !bitB (s.get GPIO_RES_TIM_HELD) t | none => true) &&
  (!funcBuf f || decide (popcount (s.get GPIO_RES_BUF_USED) 24 < 24))

/-- Take the resources of a function; `key` is the pin, plus 1024 for a pending function (R461). -/
def State.funcTake (s : State) (key f : Nat) : State :=
  let s1 := match funcTimer f with
    | some t => s.orBit GPIO_RES_TIM_HELD t
    | none => s
  if funcBuf f then
    let b := ((List.range 24).find? (fun i => !bitB (s1.get GPIO_RES_BUF_USED) i)).getD 0
    ({ s1 with io := { s1.io with buf := Assoc.put key b s1.io.buf } }).orBit GPIO_RES_BUF_USED b
  else s1

/-- Release them. -/
def State.funcRelease (s : State) (key f : Nat) : State :=
  let s1 := match funcTimer f with
    | some t => s.set GPIO_RES_TIM_HELD (clrBit (s.get GPIO_RES_TIM_HELD) t)
    | none => s
  match Assoc.find? key s1.io.buf with
  | some b =>
    if funcBuf f then
      ({ s1 with io := { s1.io with buf := Assoc.del key s1.io.buf } }).set GPIO_RES_BUF_USED (clrBit (s1.get GPIO_RES_BUF_USED) b)
    else s1
  | none => s1

/-- A pin's pending switch is dropped and its resources released (R461). -/
def State.dropPending (s : State) (n : Nat) : State :=
  if s.flagi GPIO_PIN_PENDING n then
    ((s.funcRelease (1024 + n) (s.geti GPIO_PIN_PEND_FUNC n)).seti GPIO_PIN_PENDING n 0).seti GPIO_PIN_PEND_FUNC n 0
  else s

/-- A pin switches to a function whose resources it holds under `key` (R461); it keeps its value and output enable for two CD89 cycles
(R462). -/
def State.pinSwitch (s : State) (n f key : Nat) : State :=
  let s0 := (s.inShow (n / 48)).emit (.pinHold n (s.pinDrive n).1 (s.pinDrive n).2)
  let s1 := s0.funcRelease n (s0.geti GPIO_PIN_FUNC n)
  let s2 := match Assoc.find? key s1.io.buf with
    | some b => { s1 with io := { s1.io with buf := Assoc.put n b (Assoc.del key s1.io.buf) } }
    | none => s1
  (s2.seti GPIO_PIN_FUNC n f).pinUpdate n

/-- Slot 0, or EN written to 0: every pending switch takes effect (R463). -/
def State.pinsBoundary (s : State) : State :=
  ((List.range 624).filter (fun n => s.flagi GPIO_PIN_PENDING n)).foldl (fun st n =>
    let f := st.geti GPIO_PIN_PEND_FUNC n
    ((st.pinSwitch n f (1024 + n)).seti GPIO_PIN_PENDING n 0).seti GPIO_PIN_PEND_FUNC n 0) s

/-- PIN_ASSIGN (R459 to R463). -/
def execPinAssign (m : Nat) (s : State) : Host.Outcome State Fault Refusal :=
  kmiCommand 0x0C05 m (fun cmd s =>
    let n := bits cmd.a0 9 0
    let f := bits cmd.a0 23 16
    if 624 ≤ n ∨ funcListed f = false then .fin s stBadArg 0 [] []
    else
      let s0 := s.dropPending n
      if !s0.funcFree f then .fin s stHeld 0 [] []
      else if f ≠ 0 ∧ s0.pinFabric n = true then .fin s stBadState 0 [] []
      else
        let s1 := s0.funcTake (1024 + n) f
        if bitB cmd.a0 24 && s1.flag TCK_CTRL_EN then
          .fin ((s1.seti GPIO_PIN_PEND_FUNC n f).seti GPIO_PIN_PENDING n 1) stOk 0 [] []
        else .fin (s1.pinSwitch n f (1024 + n)) stOk 0 [] []) s

/-! ### Interrupt lines, timers, fan-out -/

/-- The pin of an interrupt line (R467). -/
def State.irqPin (s : State) (q : Nat) : Nat := 48 * s.geti GPIO_IRQ_PORT q + q

/-- The line listens: its port exists and its pin's input is on. -/
def State.irqOn (s : State) (q : Nat) : Bool := decide (s.geti GPIO_IRQ_PORT q < 13) && s.inputOn (s.irqPin q)

/-- PEND of a line whose level goes from `old` to `level` (R467). -/
def State.irqPend (s : State) (q : Nat) (old level : Bool) : Bool :=
  let was := bitB (s.get GPIO_IRQ_STAT_PEND) q
  match s.geti GPIO_IRQ_SENSE q with
  | 1 => was || (!old && level)
  | 2 => was || (old && !level)
  | 3 => was || (old != level)
  | 4 => level
  | 5 => !level
  | _ => was

/-- A filtered level reaches an interrupt line: PEND under SENSE, and the Ledger entry of a new PEND (R467). -/
def State.irqInput (s : State) (q : Nat) (level : Bool) : State :=
  let pend := s.get GPIO_IRQ_STAT_PEND
  let now := s.irqPend q (bitB s.io.line q) level
  let s1 := { s with io := { s.io with line := putBit s.io.line q level } }
  let s2 := s1.set GPIO_IRQ_STAT_PEND (putBit pend q now)
  if now && !bitB pend q && s2.flagi GPIO_IRQ_LEDGER q then s2.ledger 0x0C03 q else s2

/-- A level is seen to be driven on a pin from outside. -/
def State.seeLevel (s : State) (n : Nat) (level : Bool) : State :=
  let s1 := { s with io := { s.io with ext := Assoc.put n level s.io.ext } }
  if n % 48 < 32 then s1.seti GPIO_P_IN_LO_IN (n / 48) (putBit (s1.geti GPIO_P_IN_LO_IN (n / 48)) (n % 48) level)
  else s1.seti GPIO_P_IN_HI_IN (n / 48) (putBit (s1.geti GPIO_P_IN_HI_IN (n / 48)) (n % 48 - 32) level)

/-- The lines that listen on a bank. -/
def State.bankLines (s : State) (bank : Nat) : List Nat := (List.range 16).filter (fun q => s.geti GPIO_IRQ_PORT q == bank)

/-- A bank's VIO leaves its range (R449): its inputs read 0. -/
def execVioFault (bank : Nat) (s : State) : Host.Outcome State Fault Refusal :=
  if 13 ≤ bank then .fault .noSuchUnit
  else if s.vioOk bank then
    let s1 := (s.setVio bank false).ledger 0x0C01 bank
    let s2 := (s1.bankLines bank).foldl (fun st q => st.irqInput q false) s1
    ok ((s2.seti GPIO_P_IN_LO_IN bank 0).seti GPIO_P_IN_HI_IN bank 0)
  else ok s

/-- A bank's VIO returns (R449): its inputs are sampled again, and its interrupt lines see their pins' levels. -/
def execVioOk (bank : Nat) (s : State) : Host.Outcome State Fault Refusal :=
  if 13 ≤ bank then .fault .noSuchUnit
  else
    let s1 := (s.setVio bank true).inShow bank
    ok (((s1.bankLines bank).filter s1.irqOn).foldl (fun st q => st.irqInput q (st.pinIn (st.irqPin q))) s1)

/-- A line whose PORT or SENSE is written takes its pin's level with no edge; a level that a level-sensed line holds keeps PEND (R467). -/
def State.irqSetup (s : State) (q : Nat) : State :=
  if !s.irqOn q then s
  else
    let v := s.pinIn (s.irqPin q)
    { s with io := { s.io with line := putBit s.io.line q v } }.irqInput q v

/-- GPIO_IRQ_STAT after a write: a level that lasts holds PEND at 1 (R467). -/
def State.irqHold (s : State) : State :=
  let held := (List.range 16).filter (fun q => s.irqOn q &&
    ((s.geti GPIO_IRQ_SENSE q == 4 && bitB s.io.line q) || (s.geti GPIO_IRQ_SENSE q == 5 && !bitB s.io.line q)))
  s.set GPIO_IRQ_STAT_PEND (held.foldl setBit (s.get GPIO_IRQ_STAT_PEND))

/-- What a write to a GPIO_ register starts (R466 to R468), `old` being the state before it: a pin that stops driving keeps its last level
for its keeper; a timer whose CTRL is written starts anew. -/
def State.wrGpio (s old : State) (addr : Nat) : State :=
  if 0x701000 ≤ addr ∧ addr < 0x7011A0 then
    let k := (addr - 0x701000) / 32
    let o := old.inShow k
    (s.seti GPIO_P_IN_LO_IN k (o.geti GPIO_P_IN_LO_IN k)).seti GPIO_P_IN_HI_IN k (o.geti GPIO_P_IN_HI_IN k)
  else if 0x701200 ≤ addr ∧ addr < 0x701240 then s.irqSetup ((addr - 0x701200) / 4)
  else if addr = 0x701240 then s.irqHold
  else if 0x701300 ≤ addr ∧ addr < 0x701380 ∧ addr % 16 = 0 then
    { s with io := { s.io with timRise := setAt s.io.timRise ((addr - 0x701300) / 16) none } }
  else s

/-- When a timer's next pulse rises (R468), `t` being the time of its first one in PERIODIC: PERIOD after the last, or PERIOD after the time of
record of a tick that has had no pulse. -/
def State.timDue (s : State) (tim t : Nat) : Option Nat :=
  let p := nsUnits (s.geti GPIO_TIM_PERIOD tim)
  let last := s.io.timRise.getD tim none
  match s.geti GPIO_TIM_CTRL_MODE tim with
  | 1 => some (match last with | some r => (r + p) % 2 ^ 64 | none => t)
  | 2 =>
    let r := (s.get TCK_STAMP_LO + 2 ^ 32 * s.get TCK_STAMP_HI + p) % 2 ^ 64
    if s.tick.tickOpen && last != some r then some r else none
  | _ => none

/-- A pulse on every pin that carries function `f` and can drive. -/
def State.pulsePins (s : State) (f rise fall : Nat) (inv : Bool) : State :=
  ((s.pinsOf f).filter s.canDrive).foldl (fun st n => st.emit (.pulse n rise fall !inv)) s

/-- A timer drives its output pulse, due at or before time `t`, unless it would overlap the previous pulse (R468). -/
def execTimerPulse (tim t : Nat) (s : State) : Host.Outcome State Fault Refusal :=
  if 8 ≤ tim then .fault .noSuchUnit
  else match s.timDue tim t with
    | none => ok s
    | some r =>
      if !timeGe t r then ok s
      else
        let s1 := { s with io := { s.io with timRise := setAt s.io.timRise tim (some r) } }
        let overlap := match s.io.timEnd.getD tim none with | some e => !timeGe r e | none => false
        if overlap then ok s1
        else
          let fall := (r + nsUnits (s.geti GPIO_TIM_WIDTH tim)) % 2 ^ 64
          let s2 := { s1 with io := { s1.io with timEnd := setAt s1.io.timEnd tim (some fall) } }
          ok (s2.pulsePins (0x40 + tim) r fall (s2.flagi GPIO_TIM_CTRL_POL tim))

/-- A selected edge on a capture input (R468). -/
def execTimerCapture (tim t : Nat) (rising : Bool) (s : State) : Host.Outcome State Fault Refusal :=
  if 8 ≤ tim then .fault .noSuchUnit
  else if s.geti GPIO_TIM_CTRL_MODE tim = 3 ∧ (s.pinsOf (0x48 + tim)).isEmpty = false ∧
      (s.geti GPIO_TIM_CTRL_CAP_EDGE tim == 0) = rising then
    ok (s.seti GPIO_TIM_CAPT tim (bits t 39 8))
  else ok s

/-- The fan-outs of a trigger repeat its pulse after their delay, the rise at the nearest CD99 edge, with the same width (R469). -/
def State.fanOut (s : State) (m rise fall : Nat) : State :=
  let r := (rise + nsUnits (s.geti GPIO_FAN_DELAY_NS m) + 128) / 256 * 256 % 2 ^ 64
  let e := (r + (fall + 2 ^ 64 - rise)) % 2 ^ 64
  let s1 := { s with io := { s.io with fan := Assoc.put m (r, e) s.io.fan } }
  s1.pulsePins (0x50 + m) r e (s1.flagi GPIO_FAN_INV m)

/-! ### Controllers (R470) -/

/-- The signals a transfer of controller `c` needs: `tx` bytes sent, `rx` bytes read. -/
def State.perSignals (s : State) (c : Nat) (tx rx : Bool) : List Nat :=
  match c with
  | 0 => (if tx then [0x10] else []) ++ (if rx then [0x11] else [])
  | 1 => (if tx then [0x14] else []) ++ (if rx then [0x15] else [])
  | 2 => [0x20, 0x23 + s.geti GPIO_PER_CFG_CS 2] ++ (if tx then [0x21] else []) ++ (if rx then [0x22] else [])
  | 3 => [0x28, 0x2B + s.geti GPIO_PER_CFG_CS 3] ++ (if tx then [0x29] else []) ++ (if rx then [0x2A] else [])
  | 4 => [0x30, 0x31]
  | _ => [0x32, 0x33]

/-- PERIPH_XFER: the data in are sent, and the command completes at the transfer's end. -/
def execPeriphXfer (m : Nat) (s : State) : Host.Outcome State Fault Refusal :=
  kmiCommand 0x0C06 m (fun cmd s =>
    let c := bits cmd.a0 3 0
    let n := bits cmd.a0 31 16
    if 6 ≤ c then .fin s stBadArg 0 [] []
    else if !s.flagi GPIO_PER_CFG_EN c ||
        (s.perSignals c (!cmd.dataIn.isEmpty) (n != 0)).any (fun f => (s.pinsOf f).isEmpty) then .fin s stBadState 0 [] []
    else if bitB s.io.busy c then .fin s stBusy 0 [] []
    else .run ({ s with io := { s.io with busy := setBit s.io.busy c, perAt := Assoc.put c s.now s.io.perAt } }.emit
      (.periph c (s.geti GPIO_PER_CFG_SPI_MODE c) (s.geti GPIO_PER_CFG_CS c) (s.geti GPIO_PER_CFG_DIV c) cmd.dataIn)) false c) s

/-- A controller's transfer ends (R470): with the bytes read, which only a UART may end short of those requested, after TMO_MS; or refused at
byte `nack` on I²C. -/
def execPeriphXferDone (c : Nat) (rx : List Nat) (nack : Option Nat) (s : State) : Host.Outcome State Fault Refusal :=
  if 6 ≤ c then .fault .noSuchUnit
  else match s.kmi.running.find? (runIs 0x0C06 c) with
    | none => ok s
    | some r =>
      let n := bits r.cmd.a0 31 16
      let s1 := { s with io := { s.io with busy := clrBit s.io.busy c } }
      let done := fun (st : State) =>
        ok (st.kmiResolve (runIs 0x0C06 c) stOk 0 [(r.cmd.dataIn.length + (rx.take n).length) % 2 ^ 16] (rx.take n))
      match nack, decide (4 ≤ c), decide (rx.length < n) with
      | some i, true, _ => ok (s1.kmiResolve (runIs 0x0C06 c) stHwFault i [] [])
      | _, _, false => done s1
      | _, _, true =>
        if c < 2 then done (s1.reach (Assoc.get 0 c s.io.perAt + nsUnits (1000000 * s.geti GPIO_PER_CFG_TMO_MS c))) else ok s

end Sys2Proof.Machine
end

