-- ==== Sys2Proof/Machine/Routing.lean ====
section
/-! DEFINITION. A Room's grid and routing (R112, R129 to R135), what its multiplexers carry, and an edge of its clock trees: every Slice,
Waystation register and Door on the tree takes it (R119 to R126, R134, R140, R141). -/

namespace Sys2Proof.Machine

open Reg Config

/-! ### The grid (R112, Table 04-1)

Columns count logic and block columns together, 0 to 109: ten logic columns, then their block column. -/

/-- A block column: 9B, 19B … 99B. -/
def isBlockCol (c : Nat) : Bool := c % 11 == 10

/-- Logic coordinate x of a logic column, and its column. -/
def logicX (c : Nat) : Nat := c - c / 11
/-- The column of logic coordinate x. -/
def colOfX (x : Nat) : Nat := x + x / 10

/-- What the block columns 9B to 99B hold: 0 Cellar, 1 PAB, 2 Larder (Table 04-1). -/
def blockColKind (k : Nat) : Nat := [0, 1, 0, 2, 0, 1, 0, 2, 0, 1].getD k 0

/-- The number of a row's block among those of its kind in the Room: 32 Cellar blocks or PABs a column, 8 Larder blocks of four rows. -/
def blockAt (k y : Nat) : Nat :=
  let before := ((List.range k).filter (fun j => blockColKind j == blockColKind k)).length
  if blockColKind k = 2 then 8 * before + y / 4 else 32 * before + y

/-- The position number of a row of a column: its frame, counted from frame 12 (Table 10-4). -/
def posOf (c y : Nat) : Nat := if isBlockCol c then 3200 + 32 * (c / 11) + y else 32 * logicX c + y

/-- Column and row of a position number. -/
def posCol (p : Nat) : Nat := if 3200 ≤ p then 11 * ((p - 3200) / 32) + 10 else colOfX (p / 32)

/-- The frame of a position in the active bank. -/
def State.posFrame (s : State) (r c y : Nat) : Nat := s.actFrame r (if isBlockCol c then 3212 + 32 * (c / 11) + y else 12 + posOf c y)

/-! ### Wires (R129, R130, Table 04-9)

Wire index w = 56d + i: direction d is 0 north, 1 east, 2 south, 3 west, and i counts 16 L1, 24 L3 and 16 L9 wires (R325). North is toward
higher rows and east toward higher columns (DESIGN CHOICE, log entry 38). -/

/-- Span of wire index `w`. -/
def wireSpan (w : Nat) : Nat := let i := w % 56; if i < 16 then 1 else if i < 40 then 3 else 9

/-- Where a wire that starts at a position ends: its span along its direction, or the last position inside the Room (R130). -/
def wireEnd (c y w : Nat) : Nat × Nat :=
  let n := wireSpan w
  match w / 56 with
  | 0 => (c, min 31 (y + n))
  | 1 => (min 109 (c + n), y)
  | 2 => (c, y - n)
  | _ => (c - n, y)

/-- The position `back` steps against a wire's direction, if it is inside the Room. -/
def wireStart (c y w back : Nat) : Option (Nat × Nat) :=
  match w / 56 with
  | 0 => if back ≤ y then some (c, y - back) else none
  | 1 => if back ≤ c then some (c - back, y) else none
  | 2 => if y + back ≤ 31 then some (c, y + back) else none
  | _ => if c + back ≤ 109 then some (c + back, y) else none

/-- Nibble group of a wire (R132, R325). -/
def wireGroup (w : Nat) : Nat := 14 * (w / 56) + w % 56 / 4

/-- Driver select, group mode, Waystation enable and Waystation tree of a wire (Table 10-6). -/
def wireSel (fr w : Nat) : Nat := bits fr (1024 + 5 * w + 4) (1024 + 5 * w)
/-- The group is grouped. -/
def groupMode (fr g : Nat) : Bool := bitB fr (2144 + g)
/-- The wire's Waystation register is enabled (R134). -/
def wayOn (fr w : Nat) : Bool := bitB fr (2200 + w)
/-- The tree of the group's Waystation registers. -/
def wayTree (fr w : Nat) : Nat := bits fr (2424 + wireGroup w) (2424 + wireGroup w)
/-- Select of Slice input `u` and the mode of its nibble (Table 10-6). -/
def inputSel (fr u : Nat) : Nat := bits fr (2480 + 5 * u + 4) (2480 + 5 * u)
/-- The input nibble is grouped. -/
def inputMode (fr sl n : Nat) : Bool := bitB fr (3680 + 5 * sl + n)

/-- The source of bit `k` of the nibble whose bit 0 has a source (R132): the wires of one group, a Slice output nibble, a nibble of TICK_LOW or
TICK_CLOSED, or block and Door bits in a row. -/
def nibbleSrc (x : Src) (k : Nat) : Src :=
  match x with
  | .wire w b => .wire (w / 4 * 4 + k) b
  | .out sl n => if n < 12 then .out sl (n / 4 * 4 + k) else .out sl n
  | .tick c i => .tick c (i / 4 * 4 + k)
  | .block i => .block (i / 4 * 4 + k)
  | .door d => .door (d / 4 * 4 + k)
  | .zero => .zero
  | .tap n t => .tap n t

/-- The source that drives a wire: its own select, or in a grouped nibble that of wire 0 (R132). -/
def wireSrc (c y fr w : Nat) : Src :=
  if groupMode fr (wireGroup w) then nibbleSrc (muxSrc c y 0 (w / 4 * 4) (wireSel fr (w / 4 * 4))) (w % 4)
  else muxSrc c y 0 w (wireSel fr w)

/-- The source of Slice input `t` of Slice `sl` (R133): a grouped nibble A, B, C, D or X follows the select of its bit 0. -/
def inputSrc (c y fr sl t : Nat) : Src :=
  let u := 30 * sl + t
  if t < 20 && inputMode fr sl (t / 4) then nibbleSrc (muxSrc c y 1 (u - t % 4) (inputSel fr (u - t % 4))) (t % 4)
  else muxSrc c y 1 u (inputSel fr u)

/-! ### What the sources carry -/

/-- The tick taps of a Room on a tree (Table 02-5, R135). -/
def State.tapVal (s : State) (r n t : Nat) : Bool :=
  match n with
  | 0 => bitB s.fab.ltick (2 * r + t)
  | 1 => bitB s.fab.mergedTap (2 * r + t)
  | 2 => s.tick.rest
  | 3 => bitB s.tick.ovrPrev r
  | 4 => bitB (s.get TCK_CLAMPED_ROOMS) r
  | _ => false

/-- TICK_LOW and TICK_CLOSED, nibble sources of row 0 (R135). -/
def State.tickVal (s : State) (y : Nat) (closed : Bool) (i : Nat) : Bool :=
  y == 0 && (if closed then decide (i < 3) && bitB s.tick.closed i else decide (i < 16) && bitB s.tickno i)

/-- The inputs a link carries into an inbound Door (R137, R139, R144): none where the driver is absent or the group is not used. -/
def State.linkIn (s : State) (r d : Nat) : Option Nat :=
  if !s.doorUsed r d then none
  else if d < 2560 then
    if s.portClosed r (d / 320) then none else some (inBitOf (s.portLink r (d / 320)) d)
  else if d < 3840 then some (s.peerIn r d)
  else if d < 4064 then (s.slotIn r (d - 3968)).map b2n
  else some (bits (Assoc.get 0 r s.fab.mgmtCtl) (d - 4064) (d - 4064))

/-- What the Room reads at an inbound Door: its register, or the clamp value where nothing drives the link (R139, R144). -/
def State.doorShows (s : State) (r d : Nat) : Nat :=
  match s.linkIn r d with
  | none => s.clampValue r d
  | some _ => Assoc.get 0 (4096 * r + d) s.fab.door

/-- Output `i` of the block of a block-column row: port A then port B data with SBE and DBE, and PP_HALF of a Cellar block; result, SAT and
sticky flags of a PAB (05). -/
def State.blockOut (s : State) (r k y i : Nat) : Bool :=
  let b := blockAt k y
  match blockColKind k with
  | 1 =>
    let p := s.pabSt r b
    let (v, sat) := pabShows (s.pabRatio r b) p
    if i < 160 then bitB v i else if i = 160 then sat else if i = 161 then p.preOvf else p.accOvf
  | kind =>
    let larder := kind == 2
    let rec_ := if larder then s.larderRec r b else s.cellarRec r b
    let port := i / 74
    let p := s.port (portKey larder r b port)
    let n := i % 74
    let oreg := if larder then bitB rec_ (5 + port) else bitB rec_ (12 + port)
    if 148 ≤ i then Assoc.get false (160 * r + b) s.fab.ppHalf
    else if n < 72 then bitB (portOut oreg p) n
    else if n = 72 then (portErr oreg p).1 else (portErr oreg p).2

/-- A value the evaluation of a Room's routing asks for. -/
inductive Node where
  /-- A source at a position. -/
  | src (c y : Nat) (x : Src)
  /-- The end of a wire that starts at a position, and what its driver multiplexer carries. -/
  | wire (c y w : Nat)
  | drive (c y w : Nat)
  /-- Carry out of a Slice of a logic column. -/
  | co (c y sl : Nat)
  /-- A Slice output (0 to 3 O, 4 to 11 Q, 12 M5A, 13 M5B, 14 M6). -/
  | out (c y sl n : Nat)
  /-- A Slice input (Table 10-6's order). -/
  | inp (c y sl t : Nat)
  deriving DecidableEq, Repr

/-- Column and row of a node, and a number of it there. -/
def Node.place : Node → Nat × Nat × Nat
  | .src c y _ => (c, y, 0)
  | .wire c y w => (c, y, 1 + w)
  | .drive c y w => (c, y, 300 + w)
  | .co c y sl => (c, y, 600 + sl)
  | .out c y sl n => (c, y, 700 + 16 * sl + n)
  | .inp c y sl t => (c, y, 900 + 32 * sl + t)

/-- The inputs of a Slice from the value of each routed input and its chained carry. -/
def gatherIn (f : Nat → Bool) (cin : Bool) : SliceIn :=
  let nib := fun n => maskOf ((List.range 4).filter (fun j => f (4 * n + j)))
  ⟨nib 0, nib 1, nib 2, nib 3, nib 4, f 20, f 21, f 22, f 23, f 24, f 25, f 26, f 27, f 28, f 29, cin⟩

/-- The Slice whose CO is a Slice's CIN: the one before it, or Slice 7 of the row below; none for Slice 0 of row 0 (R118). -/
def carryFrom (y sl : Nat) : Option (Nat × Nat) :=
  if 0 < sl then some (y, sl - 1) else if 0 < y then some (y - 1, 7) else none

/-- Which clocks of a Slice's control sets are high after CLK_INV (R121). -/
def State.setHigh (s : State) (r cfg k : Nat) : Bool :=
  bitB s.fab.clk (2 * r + setTree cfg k) != bitB cfg (111 + 5 * k)

/-- The value of a node, `n` deep at most; what a combinational loop settles to is free (R129 to R135, R114 to R122). -/
def State.value (s : State) (r : Nat) : Nat → Node → Bool
  | 0, x => let (c, y, k) := x.place; loopBit s.freeCount r c y k
  | n + 1, .src c y x =>
    match x with
    | .zero => false
    | .wire w back =>
      match wireStart c y w back with
      | none => false
      | some (c0, y0) => if wireEnd c0 y0 w = (c, y) then s.value r n (.wire c0 y0 w) else false
    | .out sl m => if isBlockCol c || decide (8 ≤ sl) then false else s.value r n (.out c y sl m)
    | .tap m t => s.tapVal r m t
    | .tick closed i => s.tickVal y closed i
    | .block i => if isBlockCol c then s.blockOut r (c / 11) y i else false
    | .door d => s.doorShows r d == 1
  | n + 1, .wire c y w =>
    if wayOn (s.posFrame r c y) w then bitB (Assoc.get 0 (3520 * r + posOf c y) s.fab.way) w else s.value r n (.drive c y w)
  | n + 1, .drive c y w => s.value r n (.src c y (wireSrc c y (s.posFrame r c y) w))
  | n + 1, .co c y sl =>
    let cin := match carryFrom y sl with | none => false | some p => s.value r n (.co c p.1 p.2)
    carryOut (s.sliceCfg r (posOf c y) sl) (gatherIn (fun t => s.value r n (.inp c y sl t)) cin)
  | n + 1, .out c y sl m =>
    let cfg := s.sliceCfg r (posOf c y) sl
    let cin := match carryFrom y sl with | none => false | some p => s.value r n (.co c p.1 p.2)
    let i := gatherIn (fun t => s.value r n (.inp c y sl t)) cin
    if m < 4 then routedOut cfg i m
    else if m < 12 then ffHeld cfg i (s.setHigh r cfg) (s.ffs r (posOf c y) sl) (m - 4)
    else if m = 12 then m5a cfg i else if m = 13 then m5b cfg i else m6 cfg i
  | n + 1, .inp c y sl t => s.value r n (.src c y (inputSrc c y (s.posFrame r c y) sl t))

/-- Depth at which a path must be a loop: more than every node a Room has. -/
def routeDepth : Nat := 2 ^ 23

/-- The carry that reaches a Slice (R118). -/
def State.cinOf (s : State) (r tile sl : Nat) : Bool :=
  match carryFrom (tile % 32) sl with
  | none => false
  | some p => s.value r routeDepth (.co (colOfX (tile / 32)) p.1 p.2)

/-- What a Slice's inputs carry. -/
def State.sliceIn (s : State) (r tile sl : Nat) : SliceIn :=
  gatherIn (fun t => s.value r routeDepth (.inp (colOfX (tile / 32)) (tile % 32) sl t)) (s.cinOf r tile sl)

/-! ### An edge of a Room's trees -/

/-- The edge a tree takes: a rising or falling one, or none. -/
abbrev Edges := Nat → Option Bool

/-- Control set `k` of a Slice takes an active edge: its tree rises, or falls where CLK_INV is 1 (Table 04-8). -/
def activeSet (e : Edges) (r cfg k : Nat) : Bool := e (2 * r + setTree cfg k) == some (!bitB cfg (111 + 5 * k))

/-- The inputs of a Slice at an edge: those that a command gives it, with the chained carry, or what its routing carries. -/
def State.edgeIn (s : State) (given : Option (Nat × Nat × Nat × SliceIn)) (r tile sl : Nat) : SliceIn :=
  match given with
  | some (r', t', sl', i) => if r' = r ∧ t' = tile ∧ sl' = sl then { i with cin := s.cinOf r tile sl } else s.sliceIn r tile sl
  | none => s.sliceIn r tile sl

/-- Slices of a Room that hold a configuration or a value: (Tile, Slice) of every Tile. -/
def allSlices : List (Nat × Nat) := (List.range 3200).flatMap (fun t => (List.range 8).map (fun sl => (t, sl)))

/-- Every flip-flop of a Room after an edge (R119 to R124). -/
def State.edgeSlices (s : State) (e : Edges) (given : Option (Nat × Nat × Nat × SliceIn)) (r : Nat) (m : Assoc SliceSt) : Assoc SliceSt :=
  allSlices.foldl (fun a p =>
    let cfg := s.sliceCfg r p.1 p.2
    Assoc.write ⟨0⟩ (sliceKey r p.1 p.2)
      ⟨sliceEdge cfg (activeSet e r cfg) (s.setHigh r cfg) (s.edgeIn given r p.1 p.2) (s.ffs r p.1 p.2)⟩ a) m

/-- Every distributed RAM of a Room that writes at an edge (R126). -/
def State.edgeRams (s : State) (e : Edges) (given : Option (Nat × Nat × Nat × SliceIn)) (r : Nat) (st : State) : State :=
  allSlices.foldl (fun a p =>
    let cfg := s.sliceCfg r p.1 p.2
    let i := s.edgeIn given r p.1 p.2
    if activeSet e r cfg 0 && ramWrites cfg i then a.setSliceCfg r p.1 p.2 (ramWrite cfg i) else a) st

/-- Every enabled Waystation register of a Room whose group's tree rises (R134). -/
def State.edgeWays (s : State) (e : Edges) (r : Nat) (m : Assoc Nat) : Assoc Nat :=
  (List.range 3520).foldl (fun a p =>
    let c := posCol p
    let y := p % 32
    let fr := s.posFrame r c y
    let old := Assoc.get 0 (3520 * r + p) s.fab.way
    Assoc.write 0 (3520 * r + p) (maskOf ((List.range 224).filter (fun w =>
      if wayOn fr w && e (2 * r + wayTree fr w) == some true then s.value r routeDepth (.drive c y w) else bitB old w))) a) m

/-- Door registers that capture on a tree that rises (R140, R141): outbound ones what the Room drives, tick-bound ones into their hidden stage,
inbound ones their link. -/
def State.edgeDoors (s : State) (e : Edges) (r : Nat) : List (Nat × Nat) × List (Nat × Nat) :=
  let ds := (List.range 4096).filter (fun d => let rec_ := s.doorRec r (d / 4); bitB rec_ 0 && e (2 * r + bits rec_ 2 2) == some true)
  let out := ds.filter (fun d => bitB (s.doorRec r (d / 4)) 1)
  let drives := fun d => let (c, y, x) := doorSrc d; (4096 * r + d, b2n (s.value r routeDepth (.src c y x)))
  let inb := ds.filter (fun d => !bitB (s.doorRec r (d / 4)) 1 && !bitB (s.doorRec r (d / 4)) 3)
  ((out.filter (fun d => !bitB (s.doorRec r (d / 4)) 3)).map drives ++
    inb.filterMap (fun d => (s.linkIn r d).map (fun v => (4096 * r + d, v))),
   (out.filter (fun d => bitB (s.doorRec r (d / 4)) 3)).map drives)

/-- Some tree of a Room takes an edge. -/
def roomHasEdge (e : Edges) (r : Nat) : Bool := (e (2 * r)).isSome || (e (2 * r + 1)).isSome

/-- Every register on the trees that take an edge captures, all from the state before it; the LTICK and MERGED cycle of a tree ends with its
rising edge. -/
def State.treesEdge (s : State) (e : Edges) (given : Option (Nat × Nat × Nat × SliceIn)) : State :=
  let rooms := (List.range 24).filter (roomHasEdge e)
  let doors := rooms.map (fun r => s.edgeDoors e r)
  let rising := (List.range 48).filter (fun k => e k == some true)
  let falling := (List.range 48).filter (fun k => e k == some false)
  let s1 := rooms.foldl (fun st r => s.edgeRams e given r st) s
  { s1 with fab := { s1.fab with
      slices := rooms.foldl (fun m r => s.edgeSlices e given r m) s.fab.slices
      way := rooms.foldl (fun m r => s.edgeWays e r m) s.fab.way
      door := (doors.flatMap (·.1)).foldl (fun m x => Assoc.write 0 x.1 x.2 m) s.fab.door
      doorHid := (doors.flatMap (·.2)).foldl (fun m x => Assoc.write 0 x.1 x.2 m) s.fab.doorHid
      clk := falling.foldl clrBit (rising.foldl setBit s.fab.clk)
      ltick := rising.foldl clrBit s.fab.ltick
      mergedTap := rising.foldl clrBit s.fab.mergedTap } }

/-- Trees of a list that stand high fall (R153). -/
def State.stopLow (s : State) (trees : List Nat) : State :=
  let high := trees.filter (fun k => bitB s.fab.clk k)
  if high.isEmpty then s else s.treesEdge (fun k => if high.contains k then some false else none) none

/-- The trees that run. -/
def State.running (s : State) : List Nat := (List.range 48).filter (fun k => s.treeRuns (k / 2) (k % 2))

/-- One cycle of every clock tree that runs: trees left high fall, all rise, all fall; what the ports hold for the Rooms then follows I_READY. It
is what step does on an empty queue (DESIGN CHOICE, log entry 1). -/
def State.clockCycle (s : State) : State :=
  let l := s.running
  if l.isEmpty then s
  else
    let s1 := s.stopLow l
    let s2 := s1.treesEdge (fun k => if l.contains k then some true else none) none
    let s3 := s2.treesEdge (fun k => if l.contains k then some false else none) none
    ({ s3 with freeCount := s3.freeCount + 1 }).portPumpAll

/-- A fabric PLL loses lock: its trees stop low and each loss is recorded with its clock domain (R153). -/
def execFpllLockLoss (pll : Nat) (s : State) : Host.Outcome State Fault Refusal :=
  if 16 ≤ pll then .fault .noSuchUnit
  else
    let s1 := s.stopLow ((s.treesOf pll).filter (fun k => s.treeRuns (k / 2) (k % 2)))
    let s2 := { s1 with fab := { s1.fab with pllLocked := clrBit s1.fab.pllLocked pll } }
    ok ((s.treesOf pll).foldl (fun st cd => st.ledger 0x0101 cd) s2)

/-- An active edge of the clock of control set 0 of a RAM-mode Slice, whose inputs the command gives (R126): the RAM writes under WE, and every
register of the Room on that tree takes the same edge. Where the tree already stands at that level, the opposite edge comes first. -/
def execDistributedRamWrite (room tile slice : Nat) (inp : SliceIn) (s : State) : Host.Outcome State Fault Refusal :=
  if 24 ≤ room ∨ 3200 ≤ tile ∨ 8 ≤ slice then .fault .noSuchUnit
  else
    let cfg := s.sliceCfg room tile slice
    let t := setTree cfg 0
    if s.treeRuns room t then
      let k := 2 * room + t
      let up := !bitB cfg 111
      let s1 := if bitB s.fab.clk k == up then s.treesEdge (fun j => if j = k then some (!up) else none) none else s
      let s2 := s1.treesEdge (fun j => if j = k then some up else none) (some (room, tile, slice, inp))
      ok ({ s2 with freeCount := s2.freeCount + 1 }).portPumpAll
    else ok s

/-! ### Commits and samples at a boundary -/

/-- The inbound TICK_SAMPLE Doors of Room `r`, on the trees a test names (R141). -/
def State.sampleDoors (s : State) (r : Nat) (runs : Nat → Bool) : List (Nat × Nat) :=
  ((List.range 1024).filter (fun g =>
    let rec_ := s.doorRec r g
    bitB rec_ 0 && !bitB rec_ 1 && bitB rec_ 3 && runs (bits rec_ 2 2))).flatMap (fun g =>
      (List.range 4).filterMap (fun k => (s.linkIn r (4 * g + k)).map (fun v => (4096 * r + 4 * g + k, v))))

/-- Slot 7: TICK_SAMPLE Doors capture in the LTICK cycle of every tree that runs, and LTICK is at 1 in that cycle (R141, R135, Table 02-4). -/
def State.tickSample (s : State) : State :=
  let rooms := (List.range 24).filter (fun r => s.treeRuns r 0 || s.treeRuns r 1)
  let s1 := s.putDoors (rooms.flatMap (fun r => s.sampleDoors r (fun t => s.treeRuns r t)))
  { s1 with fab := { s1.fab with ltick := 2 ^ 48 - 1 } }

/-- The MERGED pulse: at 1 in the next cycle of every tree (Table 02-5). -/
def State.mergedPulse (s : State) : State := ({ s with fab := { s.fab with mergedTap := 2 ^ 48 - 1 } }).emit .merged

/-- Trees that owe a commit and run again take it (R52), and the LTICK cycle follows in them (R476, R141). -/
def State.restartTrees (s : State) : State :=
  let (due, s1) := s.commitOwed
  s1.putDoors (due.flatMap (fun k => s1.sampleDoors (k / 2) (fun t => t == k % 2)))

end Sys2Proof.Machine
end

