-- ==== Sys2Proof/Machine/Rings.lean ====
section
/-! DEFINITION. Delivery Rings (08): ring commands (R250, R253 to R256), descriptors (R257, R258), transfers in both directions
(R262 to R266), completions and their posting (R259, R260, R270, R275), tick fences (R269 to R272), changeovers and resets
(R273, R274, R277), doorbells and interrupts (R267, R276). -/

namespace Sys2Proof.Machine

open Reg

/-! ### Rings -/

/-- The bound ring of a Room port slot and direction (R250). -/
def State.findRing (s : State) (room port slot dir : Nat) : Option Nat :=
  s.boundRings.find? (fun r => s.geti DRG_CTX_BIND_ROOM r == room && s.geti DRG_CTX_BIND_PORT r == port &&
    s.geti DRG_CTX_BIND_SLOT r == slot && s.geti DRG_CTX_CTRL_DIR r == dir)

/-- The window port that the Room's active image names (Table 10-4). -/
def State.windowPort (s : State) (room : Nat) : Option Nat :=
  let f := s.actFrame room 0
  if s.roomActive room && bitB f 53 then some (bits f 52 50) else none

/-- The tick a transfer that ends now belongs to: the one open at the port, or the one the first boundary after enable opens
(R269; DEDUCED, log entry 12). -/
def State.portTick (s : State) : Nat :=
  if s.tick.tickOpen && !s.tick.firstDue then s.tickno
  else if s.flag TCK_CTRL_TICKNO_LOAD then s.get TCK_TICKNO_SET_LO + 2 ^ 32 * s.get TCK_TICKNO_SET_HI
  else tickAdd s.tickno 1

/-- MSI-X function number of a ring: 1 PF1, v + 1 VF v. -/
def State.ringFn (s : State) (r : Nat) : Nat := s.geti DRG_CTX_BIND_FUNC r + 1

/-! ### Interrupts (R276) -/

/-- The interrupt condition of Table 08-7 holds, apart from ARMED. -/
def State.irqDue (s : State) (r : Nat) : Bool :=
  let k := s.ring r
  let age := s.geti DRG_CTX_IRQ_TIME_US r
  match s.geti DRG_CTX_IRQ_MOD r with
  | 1 => decide (max 1 (s.geti DRG_CTX_IRQ_CNT r) ≤ k.pending) || k.pendIrq ||
      (match k.pendSince with | some t => age != 0 && timeGe s.now (t + 256000 * age) | none => false)
  | 2 => k.pendFence || k.pendIrq
  | _ => false

/-- Send the ring's vector where it is ARMED and due; ARMED and the pending count are cleared. -/
def State.ringIrq (s : State) (r : Nat) : State :=
  let k := s.ring r
  if s.flagi DRG_CTX_IRQ_ARMED r && k.pending != 0 && s.irqDue r then
    ((s.setRing r { k with pending := 0, pendSince := none, pendIrq := false, pendFence := false }).seti DRG_CTX_IRQ_ARMED r 0).msix (s.ringFn r) (s.geti DRG_CTX_IRQ_VEC r)
  else s

/-! ### Posting -/

/-- The 32 bytes of a completion entry (Table 08-4). -/
def complBytes (c : RingCompl) (phase : Bool) : List Nat :=
  sliceBytes c.user 0 16 ++ leBytes 6 c.tick ++ leBytes 2 c.tag ++ leBytes 4 c.len ++
  [c.status % 16, b2n c.ovr + 2 * b2n c.merged + 4 * b2n c.delayed, c.ndesc, b2n phase + 2 * b2n c.fence]

/-- The ROOM_ACK word (R266). -/
def ackWord (tag status len tick : Nat) : List Nat :=
  leBytes 16 (tag % 2 ^ 16 + 2 ^ 16 * (status % 16) + 2 ^ 24 * (len % 2 ^ 32) + 2 ^ 56 * (tick % 2 ^ 48))

/-- A word of kind 2 for the Room on a ring's slot, where its ring asks for acknowledgements; the port holds it until the Room takes it (R266). -/
def State.roomAck (s : State) (r tag status len tick : Nat) : State :=
  let room := s.geti DRG_CTX_BIND_ROOM r
  let port := s.geti DRG_CTX_BIND_PORT r
  if s.flagi DRG_CTX_CTRL_ROOM_ACK r && s.geti DRG_CTX_CTRL_DIR r == 0 then
    s.toRoom room port [(⟨2, s.geti DRG_CTX_BIND_SLOT r, true, false, ackWord tag status len tick⟩ : PortWord)]
  else s

/-- Drop a stale item (R275). -/
def State.ringStale (s : State) (r tag gen : Nat) : State :=
  ((s.inci DRG_CTX_CNT2_STALE r).inc DRG_DISCARD_CNT_STALE).ledger 0x0505 (r + 2 ^ 16 * tag + 2 ^ 32 * gen)

/-- Post one entry: dropped where its generation is stale (R275), else written at the CQ producer with PHASE (R260). -/
def State.postOne (s : State) (r : Nat) (c : RingCompl) : State :=
  if c.gen ≠ s.geti DRG_CTX_CTRL_GEN r then s.ringStale r c.tag c.gen
  else
    let k := s.ring r
    let pi := s.geti DRG_CTX_CQ_PI r
    let size := 2 ^ s.geti DRG_CTX_SIZE_CQ_LOG2 r
    let base := s.geti DRG_CTX_CQ_BASE_LO_BASE r + 2 ^ 32 * s.geti DRG_CTX_CQ_BASE_HI_BASE r
    let s1 := (s.emit (.hostWrite (s.ringFn r) (base + 32 * pi) false (complBytes c (!k.wrapped)))).seti DRG_CTX_CQ_PI r ((pi + 1) % size)
    let s2 := s1.setRing r { k with
      wrapped := if pi + 1 = size then !k.wrapped else k.wrapped
      pending := k.pending + 1
      pendSince := some (k.pendSince.getD s.now)
      pendIrq := k.pendIrq || c.irq }
    let s3 := if c.fence then s2 else
      let a := s2.inci DRG_CTX_CNT_XFER r
      if c.status = 2 then a.inci DRG_CTX_CNT2_TRUNC r else a
    let s4 := if c.ack then s3.roomAck r c.tag c.status c.len c.tick else s3
    s4.ringIrq r

/-- Post due entries in order, as far as their data writes are done and the CQ has space. -/
def postDue (r : Nat) : List RingCompl → State → List RingCompl × State
  | [], s => ([], s)
  | c :: t, s =>
    if c.done && (!s.cqFull r || c.gen != s.geti DRG_CTX_CTRL_GEN r) then postDue r t (s.postOne r c)
    else (c :: t, s)

/-- Post what can be posted. -/
def State.pumpRing (s : State) (r : Nat) : State :=
  let (k, s1) := postDue r (s.ring r).due s
  s1.setRing r { s1.ring r with due := k }

/-- A completion is taken: held for its fence, or due at once (R270). -/
def State.takeCompl (s : State) (r : Nat) (c : RingCompl) : State :=
  let k := s.ring r
  if s.flagi DRG_CTX_CTRL_FENCE_EN r then s.setRing r { k with held := k.held ++ [c] }
  else (s.setRing r { k with due := k.due ++ [c] }).pumpRing r

/-- The completion of an open transfer; a status set before stands, and `status` applies to one that is OK so far. -/
def State.complOf (s : State) (x : Xfer) (status : Nat) (done ack : Bool) : RingCompl :=
  { user := x.user, tick := s.portTick, tag := x.tag, len := x.moved, status := if x.status = 0 then status else x.status,
    ovr := false, merged := false, delayed := false, ndesc := x.n - 1, fence := false, irq := x.irq, gen := x.gen, done := done,
    ack := ack }

/-- Key of a port slot's discard mark. -/
def slotKey (room port slot : Nat) : Nat := (8 * room + port) * 256 + slot

/-- Mark a slot's outbound transfer as discarded up to its last word. -/
def State.discardSlot (s : State) (room port slot : Nat) (v : Bool) : State :=
  { s with hlk := { s.hlk with discard := Assoc.write false (slotKey room port slot) v s.hlk.discard } }

/-- The rest of the ring's open F2H transfer is discarded. -/
def State.discardRing (s : State) (r : Nat) : State :=
  if s.geti DRG_CTX_CTRL_DIR r = 0 ∧ (s.ring r).cur.isSome then
    s.discardSlot (s.geti DRG_CTX_BIND_ROOM r) (s.geti DRG_CTX_BIND_PORT r) (s.geti DRG_CTX_BIND_SLOT r) true
  else s

/-- End the open transfer of a ring with a status, which replaces any it had, and the length moved so far (R254, R273, R274). -/
def State.endOpen (s : State) (r status : Nat) (ack : Bool) : State :=
  match (s.ring r).cur with
  | none => s
  | some x => (s.setRing r { s.ring r with cur := none, stalled := false }).takeCompl r (s.complOf { x with status := status } status true ack)

/-- A ring enters ERROR (R256): its open transfer ends without a completion. -/
def State.ringError (s : State) (r code : Nat) : State :=
  let s0 := s.discardRing r
  let s1 := s0.setRing r { s0.ring r with cur := none, stalled := false }
  ((((s1.seti DRG_CTX_CTRL_STATE r 3).seti DRG_CTX_CTRL_ERR_CODE r code).set DRG_ERR_RING r).set DRG_ERR_RING_VALID 1).ledger 0x0504
    (r + 2 ^ 16 * code)

/-! ### Commands (R250, R253 to R255) -/

/-- A START of a DISABLED ring meets every condition of R250. -/
def State.startOk (s : State) (r : Nat) : Bool :=
  let room := s.geti DRG_CTX_BIND_ROOM r
  let port := s.geti DRG_CTX_BIND_PORT r
  let slot := s.geti DRG_CTX_BIND_SLOT r
  let dir := s.geti DRG_CTX_CTRL_DIR r
  let fn := s.geti DRG_CTX_BIND_FUNC r
  let sq := s.geti DRG_CTX_SIZE_SQ_LOG2 r
  let cq := s.geti DRG_CTX_SIZE_CQ_LOG2 r
  decide (room < 24) &&
  (s.findRing room port slot dir).isNone &&
  !(slot == 255 && s.windowPort room == some port) &&
  (fn == 0 || s.hlk.vfEnable) &&
  decide (s.geti DRG_CTX_IRQ_VEC r < (if fn = 0 then s.hlk.vecPf1 else s.hlk.vecVf)) &&
  (fn == 0 || !s.boundRings.any (fun q => s.geti DRG_CTX_BIND_FUNC q == fn && s.geti DRG_CTX_SIZE_LIDX q == s.geti DRG_CTX_SIZE_LIDX r)) &&
  !(s.geti DRG_CTX_CTRL_KIND r == 1 && dir == 1) &&
  decide (6 ≤ sq) && decide (sq ≤ 16) && decide (6 ≤ cq) && decide (cq ≤ 16) &&
  s.geti DRG_CTX_SQ_BASE_LO_BASE r % 4096 == 0 && s.geti DRG_CTX_CQ_BASE_LO_BASE r % 4096 == 0

/-- START: a DISABLED ring begins at index 0 with the first pass of its CQ, or is refused with CFG_ERR; a STOPPED ring
continues. Other states ignore it (Table 08-1). The status is that of RING_CMD. -/
def State.ringStart (s : State) (r : Nat) : State × Nat :=
  match s.ringState r with
  | 0 =>
    if s.startOk r then
      let s1 := s.setRing r { RingSt.init with inflight := (s.ring r).inflight }
      ((((((s1.seti DRG_CTX_CTRL_STATE r 1).seti DRG_CTX_SQ_PI r 0).seti DRG_CTX_SQ_CI r 0).seti DRG_CTX_CQ_PI r 0).seti
        DRG_CTX_CQ_CI r 0), stOk)
    else (s.set DRG_STAT_CFG_ERR 1, stBadArg)
  | 2 => (s.seti DRG_CTX_CTRL_STATE r 1, stOk)
  | _ => (s, stOk)

/-- STOP (R254): the open transfer ends FLUSHED, every held completion is posted, and the ring is STOPPED. -/
def State.ringStop (s : State) (r : Nat) : State :=
  if s.ringState r = 1 then
    let s1 := (s.discardRing r).endOpen r 5 true
    let k := s1.ring r
    let s2 := (s1.setRing r { k with
      held := [], stby := [], due := k.due ++ k.stby ++ k.held, stalled := false
      early := k.early ++ (k.held.filter (fun c => !c.fence)).map (·.tick) }).pumpRing r
    s2.seti DRG_CTX_CTRL_STATE r 2
  else s

/-- ABORT (R255): GEN advances, the indices become 0 and the ring is STOPPED; what it held is dropped as stale. Refused with
BUSY where the new GEN is in flight. -/
def State.ringAbort (s : State) (r : Nat) : State × Nat :=
  let st := s.ringState r
  if st = 0 then (s, stOk)
  else
    let g := s.geti DRG_CTX_CTRL_GEN r
    let g' := (g + 1) % 16
    let k := s.ring r
    if k.inflight.contains g' then (s, stBusy)
    else
      let s0 := s.discardRing r
      let items := k.due ++ k.stby ++ k.held
      let s1 := s0.setRing r { RingSt.init with inflight := k.inflight ++ [g] }
      let s2 := (((((s1.seti DRG_CTX_CTRL_GEN r g').seti DRG_CTX_SQ_PI r 0).seti DRG_CTX_SQ_CI r 0).seti DRG_CTX_CQ_PI r 0).seti
        DRG_CTX_CQ_CI r 0).seti DRG_CTX_CTRL_STATE r 2
      (items.foldl (fun st c => st.ringStale r c.tag c.gen) s2, stOk)

/-- DISABLE: a STOPPED or ERROR ring becomes DISABLED; completions it still holds are discarded (DEDUCED, log entry 11). -/
def State.ringDisable (s : State) (r : Nat) : State :=
  if s.ringState r = 2 ∨ s.ringState r = 3 then
    (s.setRing r { RingSt.init with inflight := (s.ring r).inflight }).seti DRG_CTX_CTRL_STATE r 0
  else s

/-- The START command. -/
def execRingStart (r : Nat) (s : State) : Host.Outcome State Fault Refusal :=
  if 32768 ≤ r then .fault .noSuchUnit else ok (s.ringStart r).1

/-- The STOP command. -/
def execRingStop (r : Nat) (s : State) : Host.Outcome State Fault Refusal :=
  if 32768 ≤ r then .fault .noSuchUnit else ok (s.ringStop r)

/-- The ABORT command. -/
def execRingAbort (r : Nat) (s : State) : Host.Outcome State Fault Refusal :=
  if 32768 ≤ r then .fault .noSuchUnit else ok (s.ringAbort r).1

/-- Every write issued for the ring has left the Host Link: its ABORT completes (R255). -/
def execRingAbortDone (r : Nat) (s : State) : Host.Outcome State Fault Refusal :=
  if 32768 ≤ r then .fault .noSuchUnit
  else
    let s1 := if (s.ring r).inflight.isEmpty then s else s.setRing r { s.ring r with inflight := [] }
    ok (s1.kmiResolve (runIs 0x0506 r) stOk 0 [s.ringState r + 4 * s.geti DRG_CTX_CTRL_GEN r] [])

/-- The DISABLE command. -/
def execRingDisable (r : Nat) (s : State) : Host.Outcome State Fault Refusal :=
  if 32768 ≤ r then .fault .noSuchUnit else ok (s.ringDisable r)

/-- RING_CMD (R411). -/
def execRingCmd (m : Nat) (s : State) : Host.Outcome State Fault Refusal :=
  kmiCommand 0x0506 m (fun cmd s =>
    let r := bits cmd.a0 14 0
    let res := fun (st : State) => [st.ringState r + 4 * st.geti DRG_CTX_CTRL_GEN r]
    match bits cmd.a0 18 16 with
    | 1 => let (s1, e) := s.ringStart r; .fin s1 e 0 (res s1) []
    | 2 => let s1 := s.ringStop r; .fin s1 stOk 0 (res s1) []
    | 3 =>
      let (s1, e) := s.ringAbort r
      if e ≠ stOk ∨ s.ringState r = 0 then .fin s1 e 0 (res s1) [] else .run s1 false r
    | 4 => let s1 := s.ringDisable r; .fin s1 stOk 0 (res s1) []
    | _ => .fin s stOk 0 (res s) []) s

/-! ### Doorbells (R267) -/

/-- The bound ring behind a doorbell: function 0 is PF1, `v` is VF v. -/
def State.doorbellRing (s : State) (fn idx : Nat) : Option Nat :=
  if fn = 0 then s.boundRings.find? (fun r => r == idx && s.geti DRG_CTX_BIND_FUNC r == 0)
  else s.boundRings.find? (fun r => s.geti DRG_CTX_BIND_FUNC r == fn && s.geti DRG_CTX_SIZE_LIDX r == idx)

/-- What a read of a doorbell returns (Table 08-6): SQ consumer index and STATE, CQ producer index and ARMED; 0 where no ring is bound. -/
def State.doorbellRead (s : State) (fn idx : Nat) : List Nat :=
  match s.doorbellRing fn idx with
  | none => List.replicate 8 0
  | some r =>
    leBytes 4 (s.geti DRG_CTX_SQ_CI r + 2 ^ 16 * s.ringState r) ++ leBytes 4 (s.geti DRG_CTX_CQ_PI r + 2 ^ 16 * s.geti DRG_CTX_IRQ_ARMED r)

/-- A HLK_ERR Ledger entry: the function and the row of Table 07-8 (R247). -/
def State.hlkErr (s : State) (fn event : Nat) : State :=
  let aer := if [3, 5, 7, 8].contains event then Assoc.put fn (setBit (Assoc.get 0 fn s.hlk.aer) event) s.hlk.aer else s.hlk.aer
  let ras := if event = 8 ∨ event = 9 then setBit s.hlk.ras event else s.hlk.ras
  ({ s with hlk := { s.hlk with aer := aer, ras := ras } }).ledger 0x0503 (fn + 2 ^ 8 * event)

/-- Doorbells of a function's BAR2 (Table 07-3, R267): 256 KiB for PF1, 16 KiB for a VF, 8 bytes each. -/
def doorbellCount (fn : Nat) : Nat := if fn = 0 then 32768 else 2048

/-- A doorbell access: a write of the SQ producer index, of the CQ consumer index and ARM, or of both; with neither, a read, answered under
the tag 65,536 × function + index (DESIGN CHOICE, log entry 39). An index outside the BAR is an Unsupported Request (Table 07-8). -/
def State.doorbell (s : State) (fn idx : Nat) (sqPi cqWord : Option Nat) : State :=
  let read := sqPi.isNone && cqWord.isNone
  if doorbellCount fn ≤ idx then
    let s1 := s.hlkErr (fn + 1) 6
    if read then s1.emit (.hostCompl (65536 * fn + idx) 1 []) else s1
  else if read then s.emit (.hostCompl (65536 * fn + idx) 0 (s.doorbellRead fn idx))
  else match s.doorbellRing fn idx with
  | none => s
  | some r =>
    if s.ringState r ≠ 1 ∧ s.ringState r ≠ 2 then s.set DRG_STAT_DB_ERR 1
    else
      let badSq := match sqPi with | some v => decide (2 ^ s.geti DRG_CTX_SIZE_SQ_LOG2 r ≤ v % 2 ^ 16) | none => false
      let badCq := match cqWord with | some v => decide (2 ^ s.geti DRG_CTX_SIZE_CQ_LOG2 r ≤ v % 2 ^ 16) | none => false
      if badSq || badCq then s.ringError r 3
      else
        let s1 := match sqPi with | some v => s.seti DRG_CTX_SQ_PI r v | none => s
        let s2 := match cqWord with
          | some v =>
            let a := (s1.seti DRG_CTX_CQ_CI r v).pumpRing r
            if bitB v 16 then a.seti DRG_CTX_IRQ_ARMED r 1 else a
          | none => s1
        s2.ringIrq r

/-! ### Descriptors (R257, R258) -/

/-- Bus Master Enable of the ring's function. -/
def State.ringBme (s : State) (r : Nat) : Bool := bitB s.hlk.bme (s.ringFn r)

/-- A descriptor's fields. -/
def parseDesc (b : List Nat) : Desc :=
  ⟨leField b 0 8, leField b 8 3, leField b 12 2, bitB (b.getD 14 0) 0, bitB (b.getD 14 0) 1, sliceBytes b 16 16⟩

/-- A descriptor with LEN 0 or reserved bits set. -/
def descBad (b : List Nat) : Bool :=
  leField b 8 3 == 0 || b.getD 11 0 != 0 || bits (b.getD 14 0) 7 2 != 0 || b.getD 15 0 != 0

/-- A completion of a descriptor that moves nothing. -/
def State.descCompl (s : State) (r : Nat) (d : Desc) (status : Nat) : RingCompl :=
  { user := [], tick := s.portTick, tag := d.tag, len := 0, status := status, ovr := false, merged := false, delayed := false,
    ndesc := 0, fence := false, irq := d.irq, gen := s.geti DRG_CTX_CTRL_GEN r, done := true, ack := true }

/-- Words that a port accepted while O_READY was 0 are taken as far as its rings let them (R147); see `State.portDrain`. -/
def State.skidOf (s : State) (room port : Nat) : List (Nat × Nat × Nat × Bool) := Assoc.get [] (portKey' room port) s.fab.portSkid

/-! ### F2H transfers (R262 to R264) -/

/-- A transfer opened on a descriptor. -/
def openXfer (gen : Nat) (d : Desc) : Xfer :=
  ⟨d.tag, 1, d.irq, d.addr, d.len, d.chain, [], false, 0, 0, gen, d.mdata, [], false⟩

/-- The transfer continues into its next descriptor; CHAIN on the 256th is ignored (R258). -/
def nextDesc (x : Xfer) (d : Desc) : Xfer :=
  { x with n := x.n + 1, irq := x.irq || d.irq, addr := d.addr, left := d.len, chain := d.chain && decide (x.n + 1 < 256) }

/-- One enabled byte of a transfer: into the buffer, into the next one of the chain, or discarded with TRUNCATED. -/
def packByte (p : Xfer × List Desc × List (Nat × Nat)) (b : Nat) : Xfer × List Desc × List (Nat × Nat) :=
  let (x, ds, w) := p
  let put := fun (y : Xfer) (rest : List Desc) =>
    ({ y with addr := y.addr + 1, left := y.left - 1, moved := y.moved + 1 }, rest, w ++ [(y.addr, b)])
  if x.status = 2 then p
  else if x.left ≠ 0 then put x ds
  else if x.chain then
    match ds with
    | d :: t => put (nextDesc x d) t
    | [] => ({ x with status := 2 }, ds, w)
  else ({ x with status := 2 }, ds, w)

/-- Bytes the chain can still take from the descriptors at hand, and whether it may go on into one not yet at hand. -/
def chainCap (chain : Bool) (n left : Nat) : List Desc → Nat × Bool
  | [] => (left, chain)
  | d :: t =>
    if chain then
      let (c, o) := chainCap (d.chain && decide (n + 1 < 256)) (n + 1) d.len t
      (left + c, o)
    else (left, false)

/-- The enabled bytes of a port word (R262). -/
def wordBytes (w : Nat × Nat) : List Nat :=
  ((List.range 16).filter (fun k => bitB w.2 k)).map (fun k => bits w.1 (8 * k + 7) (8 * k))

/-- Words of a transfer into its buffers; under STALL a word that finds no descriptor waits (R263), with those after it. -/
def packWords (stall : Bool) : List (Nat × Nat) → Xfer × List Desc × List (Nat × Nat) → (Xfer × List Desc × List (Nat × Nat)) × List (Nat × Nat)
  | [], p => (p, [])
  | w :: t, p =>
    let b := wordBytes w
    let (cap, more) := chainCap p.1.chain p.1.n p.1.left p.2.1
    if stall && more && decide (cap < b.length) then (p, w :: t)
    else packWords stall t (b.foldl packByte p)

/-- Bytes written one by one, joined into runs of rising addresses. -/
def joinRuns : List (Nat × Nat) → List (Nat × List Nat)
  | [] => []
  | (a, b) :: t =>
    match joinRuns t with
    | (a', l) :: rest => if a' = a + 1 then (a, b :: l) :: rest else (a, [b]) :: (a', l) :: rest
    | [] => [(a, [b])]

/-- Data writes of a ring leave for host memory under its function's requester ID (R252); bytes for which `bad` holds leave with EP. -/
def State.ringWrites (s : State) (r : Nat) (w : List (Nat × Nat)) (bad : Nat → Bool) : State :=
  { s with out := s.out ++ ((joinRuns w).map (fun p => Out.hostWrite (s.ringFn r) p.1 ((List.range p.2.length).any (fun i => bad (p.1 + i))) p.2)) }

/-- A transfer is discarded whole (R263). -/
def State.dropXfer (s : State) (r room port slot : Nat) (last : Bool) : State :=
  ((s.inci DRG_CTX_CNT_DROP r).roomAck r 0 15 0 s.portTick).discardSlot room port slot (!last)

/-- A DRAM_COPY word on an ENABLED ring: the engine copies a region of device DRAM to the host buffer (R264). Without a descriptor or CQ space
FULL_POL decides: the port waits with the word, or it is dropped. -/
def State.copyWord (s : State) (r room port slot word : Nat) (readErr writesDone : Bool) : State × Bool :=
  let k := s.ring r
  let stall := s.flagi DRG_CTX_CTRL_FULL_POL r
  let full := if stall then (s.setRing r { k with stalled := true }, false) else (s.dropXfer r room port slot true, true)
  match k.descs with
  | [] => full
  | d :: t =>
    if s.cqFull r then full
    else
      let dpa := bits word 36 0
      let n := bits word 63 40
      let x := { openXfer (s.geti DRG_CTX_CTRL_GEN r) d with user := leBytes 8 (bits word 127 64) ++ List.replicate 8 0 }
      if !s.dpaOk dpa n then
        let s1 := s.setRing r { k with descs := t, stalled := false }
        (s1.takeCompl r (s1.complOf x 12 true true), true)
      else if !s.dmcTakes then (s, false)
      else
        let (cap, more) := chainCap x.chain x.n x.left t
        if stall && more && decide (cap < n) then (s.setRing r { k with stalled := true }, false)
        else
          let (bytes, bad, s1) := s.dramRead 209 dpa n
          let err := readErr || bad.isSome
          let s2 := if err then (s1.inc HLK_POISON_CNT_POISON_TX).hlkErr (s.ringFn r) 4 else s1
          let (x1, ds, w) := bytes.foldl packByte (x, t, [])
          let x2 := if err then { x1 with status := 11 } else x1
          let ep := fun (a : Nat) => match w.findIdx? (fun p => p.1 == a) with
            | some i => readErr || (s.lineView ((dpa + i) / 64)).2
            | none => false
          let s3 := (s2.ringWrites r w ep).setRing r { k with descs := ds, stalled := false }
          (s3.takeCompl r (s3.complOf x2 0 writesDone true), true)

/-- The port takes outbound ring-data words of a slot (R262, R263). The words that it leaves wait under STALL. -/
def State.f2hWords (s : State) (room port slot : Nat) (words : List (Nat × Nat)) (last writesDone : Bool) : State × List (Nat × Nat) :=
  if Assoc.get false (slotKey room port slot) s.hlk.discard then (s.discardSlot room port slot (!last), [])
  else match s.findRing room port slot 0 with
    | none => ((s.inc DRG_DISCARD_CNT_UNBOUND).discardSlot room port slot (!last), [])
    | some r =>
      if s.ringState r ≠ 1 then (s.dropXfer r room port slot last, [])
      else if s.geti DRG_CTX_CTRL_KIND r = 1 then
        let (s1, all) := s.copyWord r room port slot (words.headD (0, 0)).1 false writesDone
        (s1, if all then [] else words)
      else
        let k := s.ring r
        let stall := s.flagi DRG_CTX_CTRL_FULL_POL r
        let start : Option (Xfer × List Desc) := match k.cur, k.descs with
          | some x, ds => some (x, ds)
          | none, d :: t => if s.cqFull r then none else some (openXfer (s.geti DRG_CTX_CTRL_GEN r) d, t)
          | none, [] => none
        match start with
        | none => if stall then (s.setRing r { k with stalled := true }, words) else (s.dropXfer r room port slot last, [])
        | some (x, ds) =>
          let takeMeta := s.flagi DRG_CTX_CTRL_META_EN r && !x.haveMeta
          let x1 := if takeMeta then { x with haveMeta := true, user := leBytes 16 (words.headD (0, 0)).1 } else x
          let ((x2, ds2, w), left) := packWords stall (if takeMeta then words.drop 1 else words) (x1, ds, [])
          let s1 := s.ringWrites r w (fun _ => false)
          if left.isEmpty && last then
            let s2 := s1.setRing r { k with descs := ds2, cur := none, stalled := false }
            (s2.takeCompl r (s2.complOf x2 0 writesDone true), [])
          else (s1.setRing r { k with descs := ds2, cur := some x2, stalled := !left.isEmpty }, left)

/-- Words the port accepted while it held O_READY at 0 go on, oldest first, until one must wait again (R147). -/
def drainSkid (room port : Nat) : List (Nat × Nat × Nat × Bool) → State → List (Nat × Nat × Nat × Bool) × State
  | [], s => ([], s)
  | q :: t, s =>
    if s.portStalled room port then (q :: t, s)
    else
      let (s1, left) := s.f2hWords room port q.1 [(q.2.1, q.2.2.1)] q.2.2.2 true
      if left.isEmpty then drainSkid room port t s1 else (q :: t, s1)

/-- The words a port holds of its Room are taken as far as they can. -/
def State.portDrain (s : State) (room port : Nat) : State :=
  let (k, s1) := drainSkid room port (s.skidOf room port) s
  { s1 with fab := { s1.fab with portSkid := Assoc.write [] (portKey' room port) k s1.fab.portSkid } }

/-- Outbound words can reach the port: its Doors' tree runs, it is not closed, and the slot number is what the links carry (R147). -/
def State.outOpen (s : State) (room port slot : Nat) : Bool :=
  s.treeRuns room (bits (s.doorRec room (portDoor port 2 / 4)) 2 2) && !s.portClosed room port && s.seenStream room port slot == slot

/-- An outbound ring-data transfer, or its next words, on a Room port slot (R262, R263). A port that holds O_READY at 0 still accepts up to
two words (R147); the rest stay with the Room. -/
def execF2hTransfer (room port slot : Nat) (words : List (Nat × Nat)) (last writesDone : Bool) (s : State) :
    Host.Outcome State Fault Refusal :=
  if 24 ≤ room ∨ 8 ≤ port ∨ 256 ≤ slot then .fault .noSuchUnit
  else if s.partStopped 3 || !s.outOpen room port slot || words.isEmpty || (slot == 255 && s.windowPort room == some port) then ok s
  else
    let ws := words.map (s.seenWord room port)
    let s1 := s.portDrain room port
    if s1.portStalled room port || !(s1.skidOf room port).isEmpty then ok (s1.skid room port slot ws last)
    else
      let end_ := words.getLastD (0, 0)
      let (s2, left) := (s1.touchIdle.portTook room port 0 slot end_.1 end_.2 last).f2hWords room port slot ws last writesDone
      ok (if left.isEmpty then s2 else s2.skid room port slot left last)

/-- A DRAM_COPY word on a Room port slot (R264). -/
def execDramCopyTransfer (room port slot word : Nat) (readErr writesDone : Bool) (s : State) : Host.Outcome State Fault Refusal :=
  if 24 ≤ room ∨ 8 ≤ port ∨ 256 ≤ slot then .fault .noSuchUnit
  else if s.partStopped 3 || !s.outOpen room port slot then ok s
  else
    let w := s.seenWord room port (word, 2 ^ 16 - 1)
    let s1 := s.portDrain room port
    if s1.portStalled room port || !(s1.skidOf room port).isEmpty then ok (s1.skid room port slot [w] true)
    else
      let s2 := s1.touchIdle.portTook room port 0 slot word (2 ^ 16 - 1) true
      match s2.findRing room port slot 0 with
      | none => ok (s2.inc DRG_DISCARD_CNT_UNBOUND)
      | some r =>
        if s2.ringState r ≠ 1 then ok (s2.dropXfer r room port slot true)
        else if s2.geti DRG_CTX_CTRL_KIND r = 0 then
          let (s3, left) := s2.f2hWords room port slot [w] true writesDone
          ok (if left.isEmpty then s3 else s3.skid room port slot left true)
        else
          let (s3, all) := s2.copyWord r room port slot w.1 readErr writesDone
          ok (if all then s3 else s3.skid room port slot [w] true)

/-- The read of a ring's next descriptor from its submission queue (R257). -/
def State.descRead (s : State) (r : Nat) : Out :=
  .hostRead (s.ringFn r) (s.geti DRG_CTX_SQ_BASE_LO_BASE r + 2 ^ 32 * s.geti DRG_CTX_SQ_BASE_HI_BASE r + 32 * s.geti DRG_CTX_SQ_CI r) 32

/-- A descriptor fetch completes: an ENABLED ring whose queue is not empty takes the descriptor, and words its port holds follow. `err`: 0 none,
1 UR, CA, poison or a timeout, otherwise an uncorrectable error of the ring's context SRAM (Table 08-2). -/
def execDescriptorFetch (r err : Nat) (bytes : List Nat) (s : State) : Host.Outcome State Fault Refusal :=
  if 32768 ≤ r then .fault .noSuchUnit
  else if s.ringState r ≠ 1 ∨ s.geti DRG_CTX_SQ_PI r = s.geti DRG_CTX_SQ_CI r ∨ s.ringBme r = false then ok s
  else if 1 < err then ok (s.ringError r 5)
  else if err = 1 then ok ((s.emit (s.descRead r)).ringError r 1)
  else
    let s1 := (s.emit (s.descRead r)).seti DRG_CTX_SQ_CI r ((s.geti DRG_CTX_SQ_CI r + 1) % 2 ^ s.geti DRG_CTX_SIZE_SQ_LOG2 r)
    let d := parseDesc bytes
    if descBad bytes then ok (s1.takeCompl r (s1.descCompl r d 6))
    else if d.tag / 4096 ≠ s1.geti DRG_CTX_CTRL_GEN r then ok (s1.takeCompl r (s1.descCompl r d 7))
    else ok ((s1.setRing r { s1.ring r with descs := (s1.ring r).descs ++ [d] }).portDrain (s1.geti DRG_CTX_BIND_ROOM r) (s1.geti DRG_CTX_BIND_PORT r))

/-- Data writes of the ring's oldest unfinished completion are done: it is posted when its turn comes (R270). -/
def execDelayedPost (r : Nat) (s : State) : Host.Outcome State Fault Refusal :=
  if 32768 ≤ r then .fault .noSuchUnit
  else
    let finish := fun (l : List RingCompl) => match l.findIdx? (fun c => !c.done) with
      | none => none
      | some i => some (l.mapIdx (fun j c => if j = i then { c with done := true } else c))
    let k := s.ring r
    match finish k.due with
    | some l => ok ((s.setRing r { k with due := l }).pumpRing r)
    | none => match finish k.held with
      | some l => ok (s.setRing r { k with held := l })
      | none => ok s

/-! ### H2F transfers (R265) -/

/-- A ring DMA read completes: kind 0 data, 1 poisoned data, 2 timeout, others UR or CA. The read is that of the next buffer of
the open transfer, or of the next descriptor. -/
def execHostReadCompletion (r kind : Nat) (data : List Nat) (s : State) : Host.Outcome State Fault Refusal :=
  if 32768 ≤ r then .fault .noSuchUnit
  else if s.ringState r ≠ 1 ∨ s.geti DRG_CTX_CTRL_DIR r = 0 then ok s
  else
    let k := s.ring r
    let start : Option (Xfer × List Desc) := match k.cur, k.descs with
      | some x, d :: t => if x.complete then none else some (nextDesc x d, t)
      | none, d :: t => some (openXfer (s.geti DRG_CTX_CTRL_GEN r) d, t)
      | _, [] => none
    match start with
    | none => ok s
    | some (x, t) =>
      let s := s.emit (.hostRead (s.ringFn r) x.addr x.left)
      if kind ≤ 1 then
        let got := (sliceBytes data 0 x.left).map (fun b => (b, kind == 1))
        let x1 := { x with rd := x.rd ++ got, left := 0, complete := !x.chain, status := if kind = 1 then 8 else x.status }
        let s1 := s.setRing r { k with cur := some x1, descs := t }
        ok (if kind = 1 then (s1.inc HLK_POISON_CNT_POISON_RX).hlkErr (s.ringFn r) 3 else s1)
      else
        let x1 := { x with complete := true, status := if kind = 2 then 9 else 10 }
        let s1 := s.setRing r { k with cur := some x1, descs := t }
        ok (if kind = 2 then s1.hlkErr (s.ringFn r) 5 else s1)

/-- The words of an H2F transfer: META where enabled, the data padded with zero bytes, poisoned words with I_ERR, and after a
failed read one zero word with I_ERR and I_LAST. -/
def h2fWords (useMeta : Bool) (x : Xfer) : List (Bool × List Nat) :=
  let n := ceilDiv x.rd.length 16
  let data := (List.range n).map (fun i =>
    let part := (x.rd.drop (16 * i)).take 16
    (part.any (fun p => p.2), sliceBytes (part.map (·.1)) 0 16))
  (if useMeta then [(false, x.mdata)] else []) ++ data ++
  (if x.status = 9 ∨ x.status = 10 then [(true, List.replicate 16 0)] else [])

/-- The data read are delivered as inbound words while the Room holds I_READY at 1; once it has accepted the last, the completion is taken
(R265). -/
def execH2fTransfer (r : Nat) (s : State) : Host.Outcome State Fault Refusal :=
  if 32768 ≤ r then .fault .noSuchUnit
  else
    let room := s.geti DRG_CTX_BIND_ROOM r
    let port := s.geti DRG_CTX_BIND_PORT r
    match (s.ring r).cur with
    | none => ok s
    | some x =>
      if s.ringState r ≠ 1 ∨ s.geti DRG_CTX_CTRL_DIR r = 0 ∨ x.complete = false ∨ s.iReady room port = false then ok s
      else
        let ws := h2fWords (s.flagi DRG_CTX_CTRL_META_EN r) x
        let s1 := s.toRoom room port ((List.range ws.length).map (fun i =>
          let w := ws.getD i (false, [])
          (⟨0, s.geti DRG_CTX_BIND_SLOT r, i + 1 == ws.length, w.1, w.2⟩ : PortWord)))
        let s2 := s1.setRing r { s1.ring r with cur := none }
        ok ((s2.takeCompl r (s2.complOf { x with moved := x.rd.length } 0 true false)).touchIdle)

/-! ### Fences (R269 to R272) -/

/-- Slot 1: CLAMP ends the open F2H transfers of a Room; they complete at slot 4 of this boundary on every ring (R272, Table
02-6). -/
def State.ringsClamp (s : State) (room tick : Nat) : State :=
  (s.boundRings.filter (fun r => s.geti DRG_CTX_BIND_ROOM r == room && s.geti DRG_CTX_CTRL_DIR r == 0)).foldl (fun st r =>
    match (st.ring r).cur with
    | none => st
    | some x =>
      let c := { st.complOf x 1 true true with tick := tick }
      st.setRing r { st.ring r with cur := none, stalled := false, held := (st.ring r).held ++ [c] }) s

/-- The FENCE entry of a closed tick. -/
def fenceEntry (tick len gen : Nat) (ovr merged : Bool) : RingCompl :=
  { user := [], tick := tick, tag := 0, len := len, status := b2n ovr, ovr := ovr, merged := merged, delayed := false, ndesc := 0,
    fence := true, irq := false, gen := gen, done := true, ack := false }

/-- What a ring posts at a fence: for each closed tick its held completions in the order in which they ended, then its FENCE
entry (R270, R271, R272). -/
def State.fenceItems (s : State) (r : Nat) (closed : List Nat) (ovr : Bool) : List RingCompl :=
  let k := s.ring r
  let merged := decide (1 < closed.length)
  let stamp := fun (c : RingCompl) =>
    { c with ovr := c.ovr || ovr, merged := merged, status := if c.status = 0 && ovr then 1 else c.status, delayed := !c.done }
  closed.flatMap (fun t =>
    let mine := k.held.filter (fun c => c.tick == t || (!closed.contains c.tick && t == closed.headD 0))
    let early := (k.early.filter (· == t)).length
    mine.map stamp ++
    (if s.flagi DRG_CTX_CTRL_FENCE_EN r && s.flagi DRG_CTX_CTRL_FENCE_RPT r && s.ringState r == 1 then
      [fenceEntry t (mine.length + early) (s.geti DRG_CTX_CTRL_GEN r) ovr merged]
    else []))

/-- The oldest due entry of a ring can be written now. -/
def State.postReady (s : State) (r : Nat) : Bool :=
  match (s.ring r).due with
  | [] => false
  | c :: _ => c.done && (!s.cqFull r || c.gen != s.geti DRG_CTX_CTRL_GEN r)

/-- The ring that the Host Link grants next among those that wait (R268): strict class order with round-robin inside a class, and after
AGE_GRANTS grants to higher classes (0 acts as 1) the highest waiting lower class. -/
def State.nextRing (s : State) (l : List Nat) : Option (Nat × State) :=
  let cls := fun r => s.geti DRG_CTX_CTRL_PRIO r
  let waits := l.filter (fun r => s.postReady r)
  let classes := (List.range 4).filter (fun c => waits.any (fun r => cls r == c))
  match classes with
  | [] => none
  | top :: rest =>
    let aged := decide (max 1 (s.get DRG_CTRL_AGE_GRANTS) ≤ s.hlk.drgAge)
    let c := match rest with
      | [] => top
      | low :: _ => if aged then low else top
    let last := s.hlk.drgLast.getD c 0
    let mine := waits.filter (fun r => cls r == c)
    let r := ((mine.find? (fun r => decide (last < r))).getD (mine.headD 0))
    some (r, { s with hlk := { s.hlk with
      drgLast := setAt s.hlk.drgLast c r
      drgAge := if rest.isEmpty || c != top then 0 else s.hlk.drgAge + 1 } })

/-- Completion writes of several rings, one grant at a time (R268). -/
def grantPosts : Nat → List Nat → State → State
  | 0, _, s => s
  | n + 1, l, s =>
    match s.nextRing l with
    | none => s
    | some (r, s1) =>
      match (s1.ring r).due with
      | [] => s1
      | c :: t => grantPosts n l ((s1.setRing r { s1.ring r with due := t }).postOne r c)

/-- Slot 4: every ring posts what the boundary releases, in the order of the Host Link's grants. `ovr` names the Rooms that overran or stay
clamped, `keep` the Rooms whose fenced rings a STANDBY Companion holds (R534). -/
def State.ringsFence (s : State) (closed : List Nat) (ovr keep : Nat) : State :=
  let s1 := s.boundRings.foldl (fun st r =>
    let room := st.geti DRG_CTX_BIND_ROOM r
    let items := st.fenceItems r closed (bitB ovr room)
    let k := st.ring r
    if items.isEmpty then st.setRing r { k with early := [] }
    else if bitB keep room && st.flagi DRG_CTX_CTRL_FENCE_EN r then
      st.setRing r { k with held := [], early := [], stby := k.stby ++ items }
    else st.setRing r { k with held := [], early := [], due := k.due ++ items, pendFence := true }) s
  let n := (s1.boundRings.map (fun r => (s1.ring r).due.length)).sum
  let s2 := grantPosts n s1.boundRings s1
  s2.boundRings.foldl (fun st r => st.ringIrq r) s2

/-! ### Changeovers, lost Rooms, resets (R273, R274, R277) -/

/-- No status word of a transfer that has ended reaches a Room's new configuration (R273). -/
def State.dropAcks (s : State) (room : Nat) : State :=
  let keep := fun (w : PortWord) => !(w.kind == 2 && w.data.getD 15 0 / 128 == 0)
  let q := (s.fab.portQ.map (fun e => if e.1 / 8 = room then (e.1, e.2.filter keep) else e)).filter (fun e => !e.2.isEmpty)
  { s with fab := { s.fab with portQ := q } }

/-- Slot 3: open transfers of a changed-over Room end with ROOM_CHANGE; a binding that breaks the slot 255 condition puts its
ring into ERROR (Table 08-2). -/
def State.ringsChange (s : State) (room : Nat) : State :=
  let s := s.dropAcks room
  (s.boundRings.filter (fun r => s.geti DRG_CTX_BIND_ROOM r == room)).foldl (fun st r =>
    let st1 := st.endOpen r 3 false
    if st1.geti DRG_CTX_BIND_SLOT r = 255 ∧ st1.windowPort room = some (st1.geti DRG_CTX_BIND_PORT r) ∧
        (st1.ringState r = 1 ∨ st1.ringState r = 2) then st1.ringError r 4
    else st1) s

/-- After the postings of the boundary, rings with CO_POL STOP of a changed-over Room are STOPPED (R273). -/
def State.ringsCoStop (s : State) (room : Nat) : State :=
  (s.boundRings.filter (fun r => s.geti DRG_CTX_BIND_ROOM r == room && s.geti DRG_CTX_CTRL_CO_POL r == 1)).foldl
    (fun st r => st.ringStop r) s

/-- A source of Table 04-12 other than overrun and handover clamps the Room's outbound Doors. -/
def State.roomGoneClamp (s : State) (room : Nat) : Bool :=
  !s.roomOn room || !s.roomActive room || !s.boot.opened || bitB s.mcClamp room

/-- Open transfers of a Room that has become unavailable end with ROOM_GONE (R274). -/
def execRoomGone (room : Nat) (s : State) : Host.Outcome State Fault Refusal :=
  if 24 ≤ room then .fault .noSuchUnit
  else if s.roomGoneClamp room then
    ok ((s.boundRings.filter (fun r => s.geti DRG_CTX_BIND_ROOM r == room)).foldl (fun st r => st.endOpen r 4 true) s)
  else ok s

/-- Every ring context returns to reset values (fundamental reset, hot reset, link down). -/
def State.ringsResetAll (s : State) : State :=
  { s with
    rings := []
    regs := s.regs.filter (fun e => !(decide (0x4200000 * 32 ≤ e.1) && decide (e.1 < 0x4400000 * 32)))
    hlk := { s.hlk with discard := [] } }

/-- The contexts of the rings of some functions return to reset values with GEN advanced by 1 (R277). -/
def State.ringsFlr (s : State) (fn : Nat → Bool) : State :=
  (s.boundRings.filter (fun r => fn (s.geti DRG_CTX_BIND_FUNC r))).foldl (fun st r =>
    let g := (st.geti DRG_CTX_CTRL_GEN r + 1) % 16
    let st0 := st.discardRing r
    let lo := (0x4200000 + 64 * r) * 32
    ({ st0 with
      rings := Assoc.del r st0.rings
      regs := st0.regs.filter (fun e => !(decide (lo ≤ e.1) && decide (e.1 < lo + 64 * 32))) }).seti DRG_CTX_CTRL_GEN r g) s

/-- Bus Master Enable of a function is cleared: its rings enter ERROR and their held completions are discarded (R277). -/
def State.ringsBmeClear (s : State) (func : Nat) : State :=
  (s.boundRings.filter (fun r => s.geti DRG_CTX_BIND_FUNC r == func && (s.ringState r == 1 || s.ringState r == 2))).foldl (fun st r =>
    let st1 := st.ringError r 2
    st1.setRing r { st1.ring r with held := [], due := [], stby := [] }) s

/-- The oldest pending entry reaches TIME_US (R276). -/
def execRingIrqAge (r t : Nat) (s : State) : Host.Outcome State Fault Refusal :=
  if 32768 ≤ r then .fault .noSuchUnit else ok ((s.setNow t).ringIrq r)

end Sys2Proof.Machine
end

