-- ==== Sys2Proof/Machine/Windows.lean ====
section
/-! DEFINITION. Room windows (07): host accesses to BAR4 split into pieces and delivered to the Room's window port (R233), and
their completion while a window is unavailable (R234). -/

namespace Sys2Proof.Machine

open Reg

/-- The Room's window port, where its window is available (R234). -/
def State.winPort (s : State) (room : Nat) : Option Nat :=
  match s.windowPort room with
  | none => none
  | some p => if s.portClosed room p then none else some p

/-- The request word of a piece (Table 07-4). -/
def winWord (p : WinPiece) : Nat :=
  p.offset % 2 ^ 25 + 2 ^ 32 * ((p.len - 1) % 64) + 2 ^ 39 * b2n p.read + 2 ^ 40 * (p.rid % 256)

/-- The inbound words of a piece on slot 255: the request word and a write's data, the last with I_LAST. -/
def winWords (p : WinPiece) : List PortWord :=
  let n := if p.read then 0 else ceilDiv p.data.length 16
  ⟨0, 255, n == 0, false, leBytes 16 (winWord p)⟩ ::
  (List.range n).map (fun i => (⟨0, 255, i + 1 == n, false, sliceBytes p.data (16 * i) 16⟩ : PortWord))

/-- Read pieces outstanding at a Room. -/
def State.winOutstanding (s : State) (room : Nat) : Nat :=
  (s.hlk.win.filter (fun p => p.room == room && p.read && p.sent && p.answer.isNone)).length

/-- Send what can be sent, in arrival order for each Room; at most 8 reads of a Room are outstanding, and nothing is sent
while the Room holds I_READY at 0. `blocked` names the Rooms
whose earlier pieces wait. -/
def sendPieces : List WinPiece → Nat → State → List WinPiece × State
  | [], _, s => ([], s)
  | p :: t, blocked, s =>
    if p.sent || p.answer.isSome then
      let (k, s1) := sendPieces t blocked s
      (p :: k, s1)
    else match s.winPort p.room with
      | none =>
        let (k, s1) := sendPieces t (setBit blocked p.room) s
        (p :: k, s1)
      | some port =>
        if bitB blocked p.room || !s.iReady p.room port then
          let (k, s1) := sendPieces t (setBit blocked p.room) s
          (p :: k, s1)
        else if p.read then
          if 8 ≤ s.winOutstanding p.room then
            let (k, s1) := sendPieces t (setBit blocked p.room) s
            (p :: k, s1)
          else
            let s1 := s.toRoom p.room port (winWords p)
            let s0 := { s1 with hlk := { s1.hlk with win := s1.hlk.win.map (fun (q : WinPiece) => if q = p then { q with sent := true, at_ := s.now } else q) } }
            let (k, s1) := sendPieces t blocked s0
            ({ p with sent := true, at_ := s.now } :: k, s1)
        else
          let (k, s1) := sendPieces t blocked (s.toRoom p.room port (winWords p))
          (k, s1)

/-- Requests whose pieces are all answered complete with their data (kind 0). -/
def State.winComplete (s : State) : State :=
  let tags := (s.hlk.win.map (·.tag)).eraseDups
  tags.foldl (fun st t =>
    let mine := st.hlk.win.filter (fun p => p.tag == t)
    if mine.all (fun p => p.answer.isSome) then
      let data := mine.flatMap (fun p => p.answer.getD [])
      ({ st with hlk := { st.hlk with win := st.hlk.win.filter (fun p => p.tag != t) } }).emit (.hostCompl t 0 data)
    else st) s

/-- Send and complete. -/
def State.winPump (s : State) : State :=
  let (k, s1) := sendPieces s.hlk.win 0 s
  ({ s1 with hlk := { s1.hlk with win := k } }).winComplete

/-- All-ones data of a piece. -/
def allOnes (p : WinPiece) : WinPiece := { p with answer := some (List.replicate p.len 0xFF), sent := true }

/-- Pieces of Rooms whose window is unavailable: reads complete with all-ones data, writes are discarded; an access of
which a piece had not been delivered counts once (R234). -/
def State.winSweep (s : State) : State :=
  let off := fun (p : WinPiece) => (s.winPort p.room).isNone && p.answer.isNone
  let n := ((s.hlk.win.filter (fun p => off p && !p.sent)).map (·.tag)).eraseDups.length
  let s1 := s.addi HLK_WIN_CNT_UNAVAIL 0 n
  ({ s1 with hlk := { s1.hlk with win := s1.hlk.win.filterMap (fun (p : WinPiece) =>
      if off p then (if p.read then some (allOnes p) else none) else some p) } }).winPump

/-- The 64-byte pieces of a request: (offset, length) from `off`, `fuel` at most. -/
def splitPieces : Nat → Nat → Nat → List (Nat × Nat)
  | 0, _, _ => []
  | fuel + 1, off, len =>
    if len = 0 then []
    else
      let n := min len (64 - off % 64)
      (off, n) :: splitPieces fuel (off + n) (len - n)

/-- Size of BAR4 of PF1 (Table 07-3). -/
def bar4Size : Nat := 2 ^ 30

/-- A host access to BAR4 (R233, R234): beyond W6 reads return 0 and writes are discarded. An offset outside the BAR is an Unsupported Request
(Table 07-8). -/
def State.windowAccess (s : State) (offset len : Nat) (read : Bool) (data : List Nat) (tag : Nat) : State :=
  if bar4Size ≤ offset then
    let s1 := s.hlkErr 1 6
    if read then s1.emit (.hostCompl tag 1 []) else s1
  else if 24 * 2 ^ 25 ≤ offset then (if read then s.emit (.hostCompl tag 0 (List.replicate len 0)) else s)
  else
    let s := s.touchIdle.touchSleep
    let parts := splitPieces (len / 64 + 2) offset len
    let ps := (List.range parts.length).map (fun i =>
      let p := parts.getD i (0, 0)
      (⟨p.1 / 2 ^ 25, (s.hlk.ridNext + i) % 256, tag, p.1 % 2 ^ 25, p.2, read,
        if read then [] else sliceBytes data (p.1 - offset) p.2, false, none, s.now⟩ : WinPiece))
    ({ s with hlk := { s.hlk with win := s.hlk.win ++ ps, ridNext := (s.hlk.ridNext + parts.length) % 256 } }).winSweep

/-- A Room answers a window read on outbound slot 255 (R233). -/
def execWindowAnswer (room rid : Nat) (data : List Nat) (s : State) : Host.Outcome State Fault Refusal :=
  if 24 ≤ room then .fault .noSuchUnit
  else match s.winPort room with
    | none => ok s
    | some _ =>
      ok ({ s with hlk := { s.hlk with win := s.hlk.win.map (fun (p : WinPiece) =>
        if p.room = room ∧ p.rid = rid % 256 ∧ p.read = true ∧ p.sent = true ∧ p.answer = none then
          { p with answer := some (sliceBytes data 0 p.len) }
        else p) } }).winPump

/-- The window read timeout in units of the time counter: 0 acts as 1 µs (Table 07-9). -/
def State.winTmo (s : State) : Nat := nsUnits (1000 * max 1 (s.get HLK_WIN_CTRL_TMO_US))

/-- A window read unanswered for TMO_US completes with all-ones data, counted and recorded (R233); one that has waited for less goes on. -/
def execHlkWinTmo (tmo : WinTmo) (s : State) : Host.Outcome State Fault Refusal :=
  let s := s.reach tmo.t
  match s.hlk.win.find? (fun p => p.rid == tmo.rid % 256 && p.read && p.sent && p.answer.isNone && timeGe tmo.t (p.at_ + s.winTmo)) with
  | none => ok s
  | some p =>
    let s1 := (s.inc HLK_WIN_CNT_TIMEOUT).ledger 0x0502 p.room
    ok ({ s1 with hlk := { s1.hlk with win := s1.hlk.win.map (fun q => if q = p then allOnes q else q) } }).winPump

end Sys2Proof.Machine
end

