-- ==== Sys2Proof/Machine/Planes.lean ====
section
/-! DEFINITION. Configuration Planes and loading (10): plane and bank state (R319 to R326), the checks of an image (R327 to
R330, R332, R333), the load session (R331 to R336), key slots (R553), and the load commands (R413). -/

namespace Sys2Proof.Machine

open Reg

/-! ### Planes and banks -/

/-- State of plane `p` of Room `r` (Table 10-1). -/
def State.plane (s : State) (r p : Nat) : Nat :=
  if p = 0 then s.geti CFG_ROOM_STAT_PLANE_A r else s.geti CFG_ROOM_STAT_PLANE_B r

/-- A plane changes state. -/
def State.setPlane (s : State) (r p v : Nat) : State :=
  if p = 0 then s.seti CFG_ROOM_STAT_PLANE_A r v else s.seti CFG_ROOM_STAT_PLANE_B r v

/-- The active plane of a Room (R319). -/
def State.actPlane (s : State) (r : Nat) : Nat := s.geti CFG_ROOM_STAT_ACT_PLANE r

/-- The inactive plane. -/
def State.inactPlane (s : State) (r : Nat) : Nat := 1 - s.actPlane r

/-- VERSION of a plane. -/
def State.planeVer (s : State) (r p : Nat) : Nat :=
  if p = 0 then s.geti CFG_ROOM_VER_A_VERSION r else s.geti CFG_ROOM_VER_B_VERSION r

/-- ITIN_ID of a plane. -/
def State.planeItin (s : State) (r p : Nat) : Nat :=
  if p = 0 then s.geti CFG_ROOM_ITIN_A_ITIN_ID r else s.geti CFG_ROOM_ITIN_B_ITIN_ID r

/-- VERSION, ITIN_ID and HANDOVER are written into a plane's metadata (R335). -/
def State.setPlaneMeta (s : State) (r p ver itin hand : Nat) : State :=
  let s1 := if p = 0 then (s.seti CFG_ROOM_VER_A_VERSION r ver).seti CFG_ROOM_ITIN_A_ITIN_ID r itin
    else (s.seti CFG_ROOM_VER_B_VERSION r ver).seti CFG_ROOM_ITIN_B_ITIN_ID r itin
  { s1 with cfg := { s1.cfg with planeHand := Assoc.write 0 (2 * r + p) (hand % 256) s1.cfg.planeHand } }

/-- HANDOVER byte of a plane. -/
def State.planeHandover (s : State) (r p : Nat) : Nat := Assoc.get 0 (2 * r + p) s.cfg.planeHand

/-- Frame data of a plane. -/
def State.planeFrame (s : State) (r p f : Nat) : Nat := Assoc.get 0 (bankKey r p f) s.cfg.planeFr

/-- The latch bank that is the Room's staged one. -/
def State.stgBankIx (s : State) (r : Nat) : Nat := 1 - s.actBankIx r

/-- State of the staged bank (Table 10-2). -/
def State.stgBank (s : State) (r : Nat) : Nat := s.geti CFG_ROOM_STAT_STG_BANK r

/-- Frame data of the staged bank. -/
def State.stgFrame (s : State) (r f : Nat) : Nat := Assoc.get 0 (bankKey r (s.stgBankIx r) f) s.cfg.bankFr

/-- The staged bank becomes EMPTY: it holds no frame. -/
def State.emptyStg (s : State) (r : Nat) : State :=
  let k := s.stgBankIx r
  let s1 := (s.seti CFG_ROOM_STAT_STG_BANK r 0).seti CFG_ROOM_STG_CNT_FRAMES r 0
  { s1 with cfg := { s1.cfg with
      bankFr := Assoc.clearRun (bankKey r k 0) 8192 s1.cfg.bankFr
      ramMap := Assoc.clearRun (bankKey r k 0) 8192 s1.cfg.ramMap
      uncorr := clrBit s1.cfg.uncorr (2 * r + k) } }

/-- The active bank becomes EMPTY. -/
def State.emptyAct (s : State) (r : Nat) : State :=
  let k := s.actBankIx r
  let s1 := s.seti CFG_ROOM_STAT_ACT_BANK r 0
  { s1 with cfg := { s1.cfg with
      bankFr := Assoc.clearRun (bankKey r k 0) 8192 s1.cfg.bankFr
      ramMap := Assoc.clearRun (bankKey r k 0) 8192 s1.cfg.ramMap
      uncorr := clrBit s1.cfg.uncorr (2 * r + k) } }

/-- RAM words of a logic Tile frame, one bit per Slice with RAM_EN (R366). -/
def ramMapOf (f v : Nat) : Nat :=
  if 12 ≤ f ∧ f < 3212 then maskOf ((List.range 8).filter (fun sl => bitB v (128 * sl + 64))) else 0

/-- Frame `f` of latch bank `k` takes data, and its RAM map entry (R366). -/
def State.fillFrame (s : State) (r k f v : Nat) : State :=
  { s with cfg := { s.cfg with
      bankFr := Assoc.write 0 (bankKey r k f) v s.cfg.bankFr
      ramMap := Assoc.write 0 (bankKey r k f) (ramMapOf f v) s.cfg.ramMap } }

/-- Every frame of latch bank `k` takes the data of plane `p`. -/
def State.fillBank (s : State) (r k p : Nat) : State :=
  let cleared := { s with cfg := { s.cfg with
      bankFr := Assoc.clearRun (bankKey r k 0) 8192 s.cfg.bankFr
      ramMap := Assoc.clearRun (bankKey r k 0) 8192 s.cfg.ramMap
      bankSrc := Assoc.write 0 (2 * r + k) p s.cfg.bankSrc
      uncorr := clrBit s.cfg.uncorr (2 * r + k) } }
  (s.cfg.planeFr.filter (fun e => decide (bankKey r p 0 ≤ e.1) && decide (e.1 < bankKey r p 7680))).foldl
    (fun st e => st.fillFrame r k (e.1 - bankKey r p 0) e.2) cleared

/-- CFG_ITIN: the ITIN_ID shared by every Room with an ACTIVE bank, 0 where there is none, all ones where they differ
(R353). -/
def State.itinNow (s : State) : Nat :=
  let l := ((List.range 24).filter (fun r => s.roomActive r)).map (fun r => s.planeItin r (s.actPlane r))
  match l with
  | [] => 0
  | x :: t => if t.all (· == x) then x else 0xFFFFFFFF

/-- Bring CFG_ITIN up to date. -/
def State.updItin (s : State) : State := s.set CFG_ITIN_ITIN_ID s.itinNow

/-- Block ports of a Room are enabled after Opening while the Room has a VALID active bank, and disabled otherwise; without one Cellar contents hold
their initial values, Larder words zero data and PABs 0 (R157). -/
def State.portsSync (s : State) (r : Nat) : State :=
  let live := s.boot.opened && s.roomOn r && s.roomActive r
  if live == bitB s.fab.portsOn r then s
  else if live then s.enablePorts r
  else (((List.range 160).foldl (fun st b => st.initCellar r b) (s.disablePorts r)).clearLarder r).clearPab r

/-- What follows when a Room gains or loses its VALID active bank: block ports, pin ownership, Line Assembler targets (R210),
window accesses (R234), CFG_ITIN (R353). -/
def State.roomSync (s : State) (r : Nat) : State := ((((s.portsSync r).roomPinsUpdate r).targetRecheck).winSweep).updItin

/-- A frame as planes and latch banks store it (Table 10-3): the data, the eight check bits of each data word, and the frame's CRC, which
counts the RAM words of `ram` as 0 (R323, R366). The model holds the data alone: the rest follows from it. -/
def storedFrame (r f data ram : Nat) : Nat :=
  let clean := (List.range 8).foldl (fun v sl => if bitB ram sl then v - bits v (128 * sl + 63) (128 * sl) * 2 ^ (128 * sl) else v) data
  data + (List.range 64).foldl (fun v w => v + Config.ecc72 (bits data (64 * w + 63) (64 * w)) % 256 * 2 ^ (4096 + 8 * w)) 0 +
  2 ^ 4608 * crc32 ([r, f % 256, f / 256] ++ leBytes 512 clean)

/-- The first frame at or after `lo`, among `n`, whose fill from a plane fails: one the plane holds as PLANE_UE (R373), or the one that `bad`
names. -/
def State.fillFault (s : State) (r p lo n : Nat) (bad : Option Nat) : Option Nat :=
  let known := (s.cfg.planeBad.filter (fun e => e.2 && decide (bankKey r p lo ≤ e.1) && decide (e.1 < bankKey r p (lo + n)))).map
    (fun e => e.1 - bankKey r p 0)
  match known.foldl (fun (m : Option Nat) f => some (min f (m.getD f))) none, bad with
  | some a, some b => some (min a b)
  | some a, none => some a
  | none, b => b

/-! ### Program cycles (R336, R374) -/

/-- The write counter of a plane frame is incremented before programming: WCH_WEAR at LIMIT, WORN above 100,000,000. A counter found
uncorrectable (`ue`) is set to 100,000,000 instead and reported (DEDUCED, log entry 42). -/
def State.countWrite (s : State) (r p f : Nat) (ue : Bool) : State :=
  let k := bankKey r p f
  let n := if ue then 100000000 else Assoc.get 0 k s.cfg.planeCnt + 1
  let s1 := { s with cfg := { s.cfg with planeCnt := Assoc.write 0 k n s.cfg.planeCnt } }
  let s2 := if ue || n == s1.get WCH_WEAR_WARN_LIMIT then s1.ledger 0x0716 (r + 2 ^ 6 * p + 2 ^ 8 * f) else s1
  let s3 := if p = 0 then s2.seti WCH_ROOM_WEAR_A_MAX r (max n (s2.geti WCH_ROOM_WEAR_A_MAX r))
    else s2.seti WCH_ROOM_WEAR_B_MAX r (max n (s2.geti WCH_ROOM_WEAR_B_MAX r))
  if 100000000 < n then s3.seti CFG_ROOM_STAT_WORN r 1 else s3

/-- A frame of a plane is programmed. -/
def State.programFrame (s : State) (r p f v : Nat) (ue : Bool) : State :=
  let s1 := s.countWrite r p f ue
  { s1 with cfg := { s1.cfg with
      planeFr := Assoc.write 0 (bankKey r p f) v s1.cfg.planeFr
      planeBad := Assoc.write false (bankKey r p f) false s1.cfg.planeBad } }

/-! ### Records of frames 0 to 11 -/

/-- Expected frequency of tree `t` in a frame 0 (Table 10-4). -/
def treeKhz (frame0 t : Nat) : Nat := bits frame0 (29 + 20 * t) (10 + 20 * t)

/-- A tree's source and expected frequency match the current fabric PLL settings (R151, R324): codes 17 to 31 give 0, a
fractional frequency counts as its whole kHz (DESIGN CHOICE, log entry 16). -/
def State.treeMatches (s : State) (r frame0 t : Nat) : Bool :=
  let c := treeCodeOf frame0 t
  let want := treeKhz frame0 t
  if c = 16 then want == 250000
  else match pllOf r c with
    | none => want == 0
    | some p => match s.pllOutKhz p (c % 4) with
      | none => false
      | some (num, den) => want == num / den

/-- Frame 0 matches the fabric PLL settings for both trees. -/
def State.clocksMatch (s : State) (r frame0 : Nat) : Bool := s.treeMatches r frame0 0 && s.treeMatches r frame0 1

/-- Fixed direction of a Door that is no peer Door: outbound (Table 04-10). -/
def fixedOut (d : Nat) : Bool :=
  if d < 2560 then decide (d % 320 < 128) || (decide (256 ≤ d % 320) && decide (d % 320 < 288))
  else decide (3840 ≤ d ∧ d < 3968) || decide (4032 ≤ d ∧ d < 4064)

/-- A Door group record with USED = 1 agrees with its fixed direction, or with a Door table's owner and clamp value (R138,
R139, R142, R352). -/
def doorAgrees (tbl : Nat → Nat) (r g rec_ : Nat) : Bool :=
  if !bitB rec_ 0 then true
  else
    let out := bitB rec_ 1
    match peerLink r (4 * g) with
    | none => out == fixedOut (4 * g)
    | some l =>
      let mine := if 4 * g < 3200 then 2 else 1
      out == (bits (tbl l) 1 0 == mine) && bits rec_ 7 4 == bits (tbl l) 5 2

/-- The first Door group of an image that disagrees with a Door table. -/
def doorFault (tbl : Nat → Nat) (r : Nat) (frame : Nat → Nat) : Option Nat :=
  (List.range 1024).find? (fun g => !doorAgrees tbl r g (doorRecOf frame g))

/-- The Door table in force, as a function of the link. -/
def State.tblNow (s : State) (l : Nat) : Nat := Assoc.get 0 l s.fab.ownTbl

/-- The staged Door table. -/
def State.tblStg (s : State) (l : Nat) : Nat := Assoc.get 0 l s.fab.ownStg

/-- A Cellar record is one the tables of 05 allow (R158, R160). -/
def cellarOk (v : Nat) : Bool :=
  let wa := bits v 2 0
  let wb := bits v 5 3
  let mode := bits v 7 6
  (if mode = 1 then wa == 6 && wb == 6 else decide (mode ≠ 3) && decide (wa ≤ 5) && decide (wb ≤ 5) && !bitB v 14) &&
  bits v 9 8 != 3 && bits v 11 10 != 3 && bits v 31 19 == 0

/-- A Larder record is allowed. -/
def larderOk (v : Nat) : Bool := bits v 2 1 != 3 && bits v 4 3 != 3 && bits v 31 10 == 0

/-- A PAB record is allowed (Table 05-8, R189), `below` being the record of the PAB in the row below (R185). -/
def pabOk (v : Nat) (below : Option Nat) : Bool :=
  bits v 20 19 != 3 && decide (1 ≤ bits v 27 21) && decide (bits v 27 21 ≤ 80) &&
  (!bitB v 30 || (bitB v 10 && bits v 9 8 == 0)) &&
  (!bitB v 11 || (match below with
    | none => true
    | some b => bits v 5 0 == bits b 5 0 && bits v 31 30 == bits b 31 30))

/-- The first block record of frames 9 to 11 that is not allowed, as its frame. -/
def blockFault (frame : Nat → Nat) : Option Nat :=
  let c := (List.range 160).find? (fun b => !cellarOk (blockRecOf frame (32 * b)))
  let l := (List.range 16).find? (fun b => !larderOk (blockRecOf frame (5120 + 32 * b)))
  let p := (List.range 96).find? (fun b =>
    !pabOk (blockRecOf frame (5632 + 32 * b)) (if b % 32 = 0 then none else some (blockRecOf frame (5632 + 32 * (b - 1)))))
  match c, l, p with
  | some b, _, _ => some (9 + 32 * b / 4096)
  | _, some b, _ => some (9 + (5120 + 32 * b) / 4096)
  | _, _, some b => some (9 + (5632 + 32 * b) / 4096)
  | _, _, _ => none

/-- The check of a Room's held frames 0 to 11 (R333): the error of Table 10-10 (18 to 20) and the frame at fault. -/
def State.heldCheck (s : State) (tbl : Nat → Nat) (r : Nat) (frame : Nat → Nat) : Option (Nat × Nat) :=
  if !s.clocksMatch r (frame 0) then some (18, 0)
  else match (List.range 1024).find? (fun g => bits (doorRecOf frame g) 31 9 != 0) with
    | some g => some (20, 1 + g / 128)
    | none => match doorFault tbl r frame with
      | some g => some (19, 1 + g / 128)
      | none => match blockFault frame with
        | some f => some (20, f)
        | none => none

/-! ### Key slots (R553) -/

/-- Table 18-5 permits images under a slot in a life-cycle state. -/
def slotImages (slot st : Nat) : Bool :=
  if slot ≤ 1 then st == 1 || st == 2 || st == 4
  else decide (4 ≤ slot) && decide (slot ≤ 15) && (st == 2 || st == 3)

/-- Table 18-5 permits a slot as CA_SLOT in a state. -/
def slotCa (slot st : Nat) : Bool :=
  if slot = 2 then decide (1 ≤ st) && decide (st ≤ 4)
  else decide (4 ≤ slot) && decide (slot ≤ 15) && (st == 2 || st == 3)

/-- A key slot holds a valid row of a kind and is not revoked. -/
def State.slotHolds (s : State) (slot kind : Nat) : Bool :=
  decide (slot ≤ 15) && rowValid (s.otpRow (16 + slot)) && (s.otpRow (16 + slot)).getD 0 0 == kind &&
  !bitB (leField (s.otpRow 3) 0 4) (16 + slot)

/-- A key slot is usable for images as AES_SLOT (kind 1) or SIG_SLOT (kind 2) in every state whose permissions are in force. -/
def State.slotUsable (s : State) (slot kind : Nat) : Bool := s.slotHolds slot kind && s.lcStates.all (slotImages slot)

/-- Key material of a slot: bytes 4 to 99 of its row (Table 13-8). -/
def State.slotKey (s : State) (slot : Nat) : List Nat := sliceBytes (s.otpRow (16 + slot)) 4 96

/-! ### The image (R327 to R330) -/

/-- Fields of a Waybill (Table 10-8). -/
def wbKind (w : List Nat) : Nat := w.getD 13 0
/-- FLAGS.ENCRYPTED. -/
def wbEnc (w : List Nat) : Bool := bitB (leField w 14 2) 0
/-- ROOMS as a list of Room indices. -/
def wbRooms (w : List Nat) : List Nat := bitList (leField w 16 4) 24
/-- Bytes before the frame section. -/
def wbHead (w : List Nat) : Nat := 512 + 4096 * wbKind w
/-- The length R327 gives the image. -/
def wbTotal (w : List Nat) : Nat := wbHead w + 3993616 * (wbRooms w).length + 128
/-- End of the frame section. -/
def wbFrames (w : List Nat) : Nat := wbHead w + 3993600 * (wbRooms w).length

/-- Check 1 of Table 10-9 on the Waybill. -/
def waybillOk (w : List Nat) : Bool :=
  let rooms := leField w 16 4
  let itin := leField w 24 4
  leField w 0 4 == 0x524D5242 && leField w 4 2 == 1 && leField w 6 2 == 0x200 && decide (wbKind w ≤ 1) &&
  decide (leField w 14 2 ≤ 1) && rooms != 0 && decide (rooms < 2 ^ 24) && decide (leField w 22 2 ≤ 0x0204) &&
  itin != 0 && itin != 0xFFFFFFFF && leField w 28 4 == 0 && (sliceBytes w 168 344).all (· == 0) &&
  (List.range 24).all (fun r =>
    (leField w (48 + 4 * r) 4 != 0) == bitB rooms r &&
    (if bitB rooms r then !bitB (w.getD (144 + r) 0) 7 else w.getD (144 + r) 0 == 0))

/-- Check 1 on the Door table section: reserved bits and bytes (R330). -/
def tableOk (t : List Nat) : Bool := (t.take 3840).all (fun b => decide (b < 64)) && (t.drop 3840).all (· == 0)

/-- Rooms armed in a Sync Chain or twin mode change. -/
def State.armedRooms (s : State) : Nat := s.syc.mc.armMask ||| s.twn.mc.armMask

/-- The Door table of a section, as a function of the link. -/
def tblOf (t : List Nat) (l : Nat) : Nat := t.getD l 0

/-- Rooms of the open load session (R331). -/
def State.sessionRooms (s : State) : List Nat :=
  match s.cfg.load with
  | none => []
  | some l => l.rooms.map (·.room)

/-- The header checks of Table 10-9: order number of the first failure, 0 where all pass. -/
def State.headerCheck (s : State) (w t : List Nat) (declared : Nat) : Nat :=
  let rooms := wbRooms w
  let mask := leField w 16 4
  if !waybillOk w || !tableOk t then 1
  else if leField w 8 4 ≠ 0x2400 then 2
  else if w.getD 12 0 ≠ 0xB1 then 3
  else if leField w 40 8 ≠ wbTotal w ∨ leField w 40 8 ≠ declared then 4
  else if !s.slotUsable (w.getD 20 0) 1 || !s.slotUsable (w.getD 21 0) 2 ||
      (!wbEnc w && s.lcStates.contains 3 && bitB (leField (s.otpRow 3) 0 4) 2) then 5
  else if !(rooms.all (fun r => s.roomOn r && s.geti CFG_ROOM_STAT_CO_PENDING r == 0 && !bitB s.armedRooms r)) ||
      (wbKind w == 1 && s.cfg.tblStaged && s.fab.ownStgRooms &&& mask == 0) then 6
  else if wbKind w == 1 && (t.take 3840).any (fun b => b % 4 == 3) then 7
  else if wbKind w == 1 && !((List.range 24).all (fun r =>
      bitB mask r ||
      ((s.geti CFG_ROOM_STAT_ACT_BANK r == 0 || (doorFault (tblOf t) r (s.actFrame r)).isNone) &&
       (s.stgBank r == 0 || (doorFault (tblOf t) r (s.stgFrame r)).isNone)))) then 7
  else 0

/-- Status of a header check (Table 10-9). -/
def headerStatus (n : Nat) : Nat :=
  match n with
  | 1 => 0x0701
  | 2 => 0x0702
  | 3 => 0x0703
  | 4 => 0x0704
  | 5 => stRefusedLc
  | 6 => stBadState
  | _ => 0x0705

/-- Status of a fault of Table 10-10 by its ERR code. -/
def loadStatus (e : Nat) : Nat :=
  match e with
  | 17 => 0x0706
  | 18 => 0x0707
  | 19 => 0x0705
  | 20 => 0x0708
  | 21 => stAuthFail
  | 22 => 0x0704
  | 23 => stDeadline
  | 24 => stHwFault
  | _ => stBadState

/-! ### The session -/

/-- The session ends with an ERR code: its planes become INVALID, the Ledger names the Room and frame, and LOAD_DATA and LOAD_CLOSE
complete (R332, R334); `room` and `frame` are 0 where the fault has none. -/
def State.endLoad (s : State) (err room frame : Nat) : State :=
  let rooms := match s.cfg.load with
    | none => []
    | some l => l.rooms
  let s1 := rooms.foldl (fun st l =>
    if st.plane l.room l.plane = 1 ∨ st.plane l.room l.plane = 2 then st.setPlane l.room l.plane 4 else st) s
  let s2 := ({ s1 with cfg := { s1.cfg with load := none } }.set CFG_LOAD_STAT_STATE 6).set CFG_LOAD_STAT_ERR err
  let st := if err ≤ 7 then headerStatus err else loadStatus err
  (s2.ledger 0x0701 (room + 2 ^ 8 * frame + 2 ^ 24 * err)).kmiResolve (fun c => runIs 0x0702 0 c || runIs 0x0703 0 c) st
    (frame + 2 ^ 16 * room) [] []

/-- The frame of a record list: the data of frame `f` among received group records. -/
def recFrame (recs : List (List Nat)) (f : Nat) : Nat := leField (recs.getD (f / 8) []) (520 * (f % 8)) 512

/-- The first frame of a group record whose CRC fails (R323). -/
def crcFault (r g : Nat) (b : List Nat) : Option Nat :=
  (List.range 8).find? (fun j =>
    let f := 8 * g + j
    crc32 ([r, f % 256, f / 256] ++ sliceBytes b (520 * j) 512) != leField b (520 * j + 512) 4)

/-- Preparation of the Rooms of an image after its header checks (R333, R352): a staged Door table that shares a Room is
discarded, staged banks become EMPTY, PREV is cleared, inactive planes become WRITING. -/
def State.beginWrite (s : State) (w : List Nat) : State :=
  let s1 := if s.cfg.tblStaged && s.fab.ownStgRooms &&& leField w 16 4 != 0 then
      ({ s with cfg := { s.cfg with tblStaged := false }, fab := { s.fab with ownStg := [], ownStgRooms := 0 } }).set
        CFG_DOOR_TBL_STAGED 0
    else s
  (wbRooms w).foldl (fun st r =>
    let p := st.inactPlane r
    let st1 := (((st.emptyStg r).seti CFG_ROOM_STAT_PREV r 0).setPlane r p 1).seti
      (if p = 0 then WCH_ROOM_STAT_PLANE_BAD_A else WCH_ROOM_STAT_PLANE_BAD_B) r 0
    { st1 with cfg := { st1.cfg with refreshing := Assoc.write 0 (2 * r + p) 0 st1.cfg.refreshing } }) s1

/-- The Waybill and table bytes received so far. -/
def LoadSt.head (l : LoadSt) : List Nat × List Nat :=
  let w := l.img.take 512
  (w, if wbKind w = 1 then sliceBytes l.img 512 4096 else [])

/-- The plaintext of a group record: as stored, or under the Room's GCM key stream (R329, R333). -/
def State.openRecord (s : State) (w : List Nat) (room g : Nat) (b : List Nat) : List Nat :=
  if wbEnc w then
    Config.gcmStream (s.slotKey (w.getD 20 0)) (sliceBytes w 32 8 ++ leBytes 4 room) (4160 * g) b
  else b

/-- The stored stream of a Room in an image: its group records in order (R329). -/
def imageStream (img : List Nat) (w : List Nat) (k : Nat) : List Nat :=
  let n := (wbRooms w).length
  (List.range 960).flatMap (fun g => sliceBytes img (wbHead w + 4160 * (n * g + k)) 4160)

/-- Every Room's tag verifies, or is 0 in an image that is not encrypted (R329). -/
def State.tagsOk (s : State) (img w : List Nat) : Bool :=
  let rooms := wbRooms w
  (List.range rooms.length).all (fun k =>
    let tag := sliceBytes img (wbFrames w + 16 * k) 16
    if wbEnc w then
      (Config.gcmOpen (s.slotKey (w.getD 20 0)) (sliceBytes w 32 8 ++ leBytes 4 (rooms.getD k 0)) w (imageStream img w k) tag).isSome
    else tag.all (· == 0))

/-- The image's signature verifies under SIG_SLOT (R329, R335). -/
def State.signatureOk (s : State) (img w : List Nat) : Bool :=
  let total := wbTotal w
  Config.ecdsaOk (s.slotKey (w.getD 21 0)) (img.take (total - 128)) (sliceBytes img (total - 128) 96)

/-- A Room of the session. -/
def LoadSt.roomOf (l : LoadSt) (r : Nat) : Option LoadRoom := l.rooms.find? (fun x => x.room == r)

/-- Replace a Room of the session. -/
def LoadSt.setRoom (l : LoadSt) (x : LoadRoom) : LoadSt :=
  { l with rooms := l.rooms.map (fun (y : LoadRoom) => if y.room = x.room then x else y) }

/-- A Room's oldest buffered group may be programmed: frames 0 to 11 are checked once group 1 is in (R333). -/
def LoadRoom.ready (x : LoadRoom) : Bool := !x.bufs.isEmpty && decide (2 ≤ x.recvd)

/-- A received group record goes into its Room's buffer after the CRC check of its frames; with group 1 the held frames are
checked (R333). An error ends the session. -/
def State.takeRecord (s : State) (l : LoadSt) (k g : Nat) (b : List Nat) : Except State LoadSt :=
  let (w, t) := l.head
  match l.rooms[k]? with
  | none => .ok l
  | some x =>
    let rec_ := s.openRecord w x.room g b
    match crcFault x.room g rec_ with
    | some j => .error (s.endLoad 17 x.room (8 * g + j))
    | none =>
      let x1 := { x with recvd := g + 1, bufs := x.bufs ++ [rec_] }
      if g = 1 then
        let tbl := if wbKind w = 1 then tblOf t else s.tblNow
        match s.heldCheck tbl x.room (recFrame x1.bufs) with
        | some (e, f) => .error (s.endLoad e x.room f)
        | none => .ok (l.setRoom x1)
      else .ok (l.setRoom x1)

/-- Bytes that may be taken in one piece at image position `pos`, and the Room (its place among ROOMS) and group of a frame
record there. -/
def nextPiece (w : List Nat) (headerOk : Bool) (pos : Nat) : Nat × Option (Nat × Nat) :=
  if pos < 512 then (512 - pos, none)
  else if !headerOk then (wbHead w - pos, none)
  else if pos < wbFrames w then
    let f := pos - wbHead w
    let k := f / 4160
    (4160 - f % 4160, some (k % (wbRooms w).length, k / (wbRooms w).length))
  else (wbTotal w - pos, none)

/-- The loader takes in waiting bytes of LOAD_DATA, piece by piece, as buffers allow (R331 to R333); `fuel` bounds the
pieces. -/
def pumpLoad : Nat → State → State
  | 0, s => s
  | fuel + 1, s =>
    match s.cfg.load with
    | none => s
    | some l =>
      if l.inq.isEmpty then s
      else
        let pos := l.img.length
        let w := l.img.take 512
        if l.headerOk && pos == wbTotal w then s.endLoad 22 0 0
        else
          let (room, place) := nextPiece w l.headerOk pos
          let full := match place with
            | none => false
            | some (k, _) => match l.rooms[k]? with
              | none => false
              | some x => decide (2 ≤ x.bufs.length)
          if full then s
          else
            let n := min room l.inq.length
            let l1 := { l with img := l.img ++ l.inq.take n, inq := l.inq.drop n }
            let s1 := s.set CFG_LOAD_BYTES l1.img.length
            let s1 := match place with
              | none => s1
              | some (k, _) => match l.rooms[k]? with
                | none => s1
                | some x => s1.set CFG_LOAD_STAT_ROOM x.room
            let done := n == room
            if !l.headerOk then
              let (w1, t1) := l1.head
              let whole := decide (512 ≤ l1.img.length) && (decide (1 < wbKind w1) || decide (wbHead w1 ≤ l1.img.length))
              if !whole then pumpLoad fuel { s1 with cfg := { s1.cfg with load := some l1 } }
              else
                let e := s1.headerCheck w1 t1 l.declared
                if e ≠ 0 then s1.endLoad e 0 0
                else
                  let s2 := (s1.beginWrite w1).set CFG_LOAD_STAT_STATE 2
                  let rooms := (wbRooms w1).map (fun r => (⟨r, s1.inactPlane r, 0, 0, []⟩ : LoadRoom))
                  pumpLoad fuel { s2 with cfg := { s2.cfg with load := some { l1 with headerOk := true, rooms := rooms } } }
            else match place with
              | some (k, g) =>
                if done then
                  let b := l1.img.drop (l1.img.length - 4160)
                  match s1.takeRecord l1 k g b with
                  | .error s2 => s2
                  | .ok l2 => pumpLoad fuel { s1 with cfg := { s1.cfg with load := some l2 } }
                else pumpLoad fuel { s1 with cfg := { s1.cfg with load := some l1 } }
              | none =>
                if l1.img.length = wbTotal w then
                  if s1.tagsOk l1.img w then
                    pumpLoad fuel ({ s1 with cfg := { s1.cfg with load := some l1 } }.set CFG_LOAD_STAT_STATE 3)
                  else s1.endLoad 21 0 0
                else pumpLoad fuel { s1 with cfg := { s1.cfg with load := some l1 } }

/-- LOAD_DATA completes once its piece has been taken in and programmed (R413). -/
def State.dataDone (s : State) : State :=
  match s.cfg.load with
  | none => s
  | some l =>
    if l.inq.isEmpty && l.rooms.all (fun x => !x.ready) then
      ({ s with cfg := { s.cfg with load := some { l with since := s.now } } }).kmiResolve (runIs 0x0702 0) stOk 0 [s.get CFG_LOAD_BYTES] []
    else s

/-- The loader runs as far as it can. -/
def State.loadPump (s : State) : State :=
  match s.cfg.load with
  | none => s
  | some l => (pumpLoad (l.inq.length + 2) s).dataDone

/-- LOAD_OPEN (R331). -/
def execLoadOpen (m : Nat) (s : State) : Host.Outcome State Fault Refusal :=
  kmiCommand 0x0701 m (fun cmd s =>
    if s.cfg.load.isSome then .fin s stBusy 0 [] []
    else
      let s1 := if bits cmd.a1 15 0 = 0 then s else s.set CFG_LOAD_TMO_TMO_MS (bits cmd.a1 15 0)
      let s2 := { s1 with cfg := { s1.cfg with load := some ⟨cmd.a0, [], [], false, [], false, false, false, false, s.now⟩ } }
      .fin (((((s2.set CFG_LOAD_STAT_STATE 1).set CFG_LOAD_STAT_ROOM 0).set CFG_LOAD_STAT_ERR 0).set CFG_LOAD_STAT_WORN 0).set
        CFG_LOAD_BYTES 0) stOk 0 [] []) s

/-- LOAD_DATA (R331, R413): the piece is checked, decrypted and buffered; the command completes when it is programmed. -/
def execLoadData (m : Nat) (s : State) : Host.Outcome State Fault Refusal :=
  match kmiCommand 0x0702 m (fun cmd s =>
    match s.cfg.load with
    | none => .fin s stBadState 0 [] []
    | some l =>
      if l.closing then .fin s stBadState 0 [] []
      else if cmd.a0 ≠ l.img.length then .fin s stBadArg 0 [] []
      else .run { s with cfg := { s.cfg with load := some { l with inq := cmd.dataIn } } } false 0) s with
  | .next s1 => ok s1.loadPump
  | other => other

/-- A Room finishes programming its oldest buffered group and frees the buffer (R331, R333), or the session ends at a frame that failed
twice (R334). -/
def execFrameGroupProgrammed (room : Nat) (prog : GroupProg) (s : State) : Host.Outcome State Fault Refusal :=
  if 24 ≤ room then .fault .noSuchUnit
  else match s.cfg.load with
    | none => ok s
    | some l => match l.roomOf room with
      | none => ok s
      | some x =>
        if !x.ready then ok s
        else
          let b := x.bufs.headD []
          let s1 := (List.range 8).foldl (fun st j => st.programFrame room x.plane (8 * x.progd + j) (leField b (520 * j) 512) (bitB prog.cntUe j)) s
          match prog.bad with
          | some j => ok (s1.endLoad 24 room (8 * x.progd + j % 8))
          | none =>
            let x1 := { x with progd := x.progd + 1, bufs := x.bufs.drop 1 }
            let worn := (List.range 8).any (fun j => decide (100000000 < Assoc.get 0 (bankKey room x.plane (8 * x.progd + j)) s1.cfg.planeCnt))
            ok ({ s1 with cfg := { s1.cfg with load := some { l.setRoom x1 with worn := l.worn || worn } } }).loadPump

/-- LOAD_CLOSE (R335): the signature is verified and read-back starts. -/
def execLoadClose (m : Nat) (s : State) : Host.Outcome State Fault Refusal :=
  match kmiCommand 0x0703 m (fun cmd s =>
    match s.cfg.load with
    | none => .fin s stBadState 0 [] []
    | some l =>
      if l.closing then .fin s stBadState 0 [] []
      else .run { s with cfg := { s.cfg with load := some { l with closing := true, stage := bitB cmd.a0 0 } } } true 0) s with
  | .next s1 =>
    match s1.cfg.load with
    | none => ok s1
    | some l =>
      let w := l.img.take 512
      if !l.closing || l.verifying then ok s1
      else if !l.headerOk || l.img.length != wbTotal w then ok (s1.endLoad 22 0 0)
      else if !s1.signatureOk l.img w then ok (s1.endLoad 21 0 0)
      else
        let s2 := l.rooms.foldl (fun st x => st.setPlane x.room x.plane 2) s1
        ok ({ s2 with cfg := { s2.cfg with load := some { l with verifying := true } } }.set CFG_LOAD_STAT_STATE 4)
  | other => other

/-- LOAD_ABORT ends the session (R334). -/
def execLoadAbort (m : Nat) (s : State) : Host.Outcome State Fault Refusal :=
  kmiCommand 0x0704 m (fun _ s =>
    if s.cfg.load.isSome then .fin (s.endLoad 25 0 0) stOk 0 [] [] else .fin s stBadState 0 [] []) s

/-- No LOAD_DATA for TMO_MS, 0 acting as 1, ends the session with DEADLINE (R334, Table 10-16): the command comes when that time has passed, so the
time counter stands there at least. -/
def execLoadTimeout (s : State) : Host.Outcome State Fault Refusal :=
  match s.cfg.load with
  | none => ok s
  | some l => if l.closing || s.kmi.running.any (runOp 0x0702) then ok s
    else ok ((s.reach ((l.since + 256000000 * max 1 (s.get CFG_LOAD_TMO_TMO_MS)) % 2 ^ 64)).endLoad 23 0 0)

end Sys2Proof.Machine
end

