-- ==== Sys2Proof/Machine/Changeover.lean ====
section
/-! DEFINITION. Staging (R337, R338), changeover and rollback scheduling (R339 to R345, R348), the flip and its handover (R346 to
R352), the select words and the Itinerary record (R347, R353, R514), Room power (R355), and CONFIG_STATUS (R413). -/

namespace Sys2Proof.Machine

open Reg

/-- The value of a register made of fields of the model. -/
def State.word (s : State) (l : List Fld) (i j : Nat) : Nat := l.foldl (fun v f => v + s.get2 f i j * 2 ^ f.lo) 0

/-! ### Rest-window admission of a Room's bank (R46, R360) -/

/-- The Room's RDONE has counted in the open tick, or it does not take part (Table 02-3). -/
def State.roomRested (s : State) (r : Nat) : Bool := !bitB s.tick.part r || bitB (s.get TCK_DONE_ROOMS) r

/-- An operation of `dur` units on a latch bank of a Room may start now. -/
def State.bankAdmits (s : State) (r dur : Nat) : Bool := s.get TCK_CTRL_EN == 0 || (s.admits dur && s.roomRested r)

/-- No operation runs on the latch bank: each bank runs one at a time (R48). -/
def State.bankFree (s : State) (r k : Nat) : Bool := timeGe s.now (Assoc.get s.now (2 * r + k) s.cfg.bankBusy)

/-- An operation of `dur` units starts on a latch bank. -/
def State.bankTake (s : State) (r k dur : Nat) : State :=
  { s with cfg := { s.cfg with bankBusy := Assoc.put (2 * r + k) (s.now + dur) s.cfg.bankBusy } }

/-- A reload write waits for the bank and could start: it goes before a staging group and a frame check (R48). -/
def State.reloadWaits (s : State) (r k : Nat) : Bool :=
  s.wch.reloads.any (fun x => x.room == r && x.bank == k && x.read) && s.bankAdmits r 16384

/-- A staging group waits for the bank and could start: it goes before a frame check (R48). -/
def State.stagingWaits (s : State) (r k : Nat) : Bool :=
  s.roomOn r && s.stgBank r == 1 && k == s.stgBankIx r && s.bankAdmits r 80000

/-! ### Staging -/

/-- The staged bank holds the inactive plane, checked. -/
def State.stagedFresh (s : State) (r : Nat) : Bool :=
  s.stgBank r == 2 && Assoc.get 0 (2 * r + s.stgBankIx r) s.cfg.bankSrc == s.inactPlane r

/-- The staged banks of Rooms that are not STAGED from their inactive plane become STAGING; a reload pending on such a bank is
cancelled (R337, R359). -/
def State.startStage (s : State) (rooms : List Nat) : State :=
  rooms.foldl (fun st r =>
    if st.stagedFresh r then st
    else
      let k := st.stgBankIx r
      let s1 := (st.emptyStg r).seti CFG_ROOM_STAT_STG_BANK r 1
      { s1 with
        cfg := { s1.cfg with bankSrc := Assoc.write 0 (2 * r + k) (s1.inactPlane r) s1.cfg.bankSrc }
        wch := { s1.wch with reloads := s1.wch.reloads.filter (fun x => !(x.room == r && x.bank == k)) } }) s

/-- A command that waits for staging: STAGE, or LOAD_CLOSE after its planes are VALID; its key holds the Room mask, whether it is
LOAD_CLOSE, and WORN. -/
def stageRun (c : RunCmd) : Bool := c.cmd.opcode == 0x0705 || (c.cmd.opcode == 0x0703 && c.key % 2 == 1)

/-- Commands whose Rooms no longer stage complete: OK or WORN once every Room is STAGED (R413), BAD_STATE where a Room was lost to
power or to a load session on the way (DEDUCED, log entry 17). -/
def State.stageDone (s : State) : State :=
  ((s.kmi.running.filter stageRun).map (fun c => (c.cmd.opcode, c.key))).foldl (fun st c =>
    let mask := c.2 / 4
    let rooms := bitList mask 24
    if rooms.any (fun r => st.stgBank r == 1) then st
    else
      let good := rooms.all (fun r => st.stgBank r == 2)
      let status := if !good then stBadState else if c.2 / 2 % 2 = 1 then stWorn else stOk
      st.kmiResolve (runIs c.1 c.2) status 0 [if c.1 = 0x0703 then mask else 0] []) s

/-- A frame that fails twice: the bank becomes FAULT, and the commands that stage the Room complete with HW_FAULT (R338). -/
def State.stageFault (s : State) (r f : Nat) : State :=
  ((s.seti CFG_ROOM_STAT_STG_BANK r 4).ledger 0x0706 (r + 2 ^ 8 * f)).kmiResolve
    (fun c => stageRun c && bitB (c.key / 4) r) stHwFault (f + 2 ^ 16 * r) [] []

/-- Rooms of a STAGE that are refused: off or in the session, and those whose inactive plane is not VALID (R337). -/
def State.stageRefused (s : State) (mask : Nat) : List Nat × List Nat :=
  let rooms := bitList mask 24
  let bad := rooms.filter (fun r => !s.roomOn r || s.sessionRooms.contains r)
  (bad, rooms.filter (fun r => !bad.contains r && s.plane r (s.inactPlane r) != 3))

/-- STAGE (R337). -/
def execStage (m : Nat) (s : State) : Host.Outcome State Fault Refusal :=
  match kmiCommand 0x0705 m (fun cmd s =>
    let mask := bits cmd.a0 23 0
    let (bad, notValid) := s.stageRefused mask
    if !bad.isEmpty || !notValid.isEmpty then
      .fin s (if bad.isEmpty then stNotValid else stBadState) 0 [maskOf (bad ++ notValid)] []
    else .run (s.startStage (bitList mask 24)) true (4 * mask)) s with
  | .next s1 => ok s1.stageDone
  | other => other

/-- A staging group: 8 frames move from the inactive plane into the staged bank; `bad` names a frame of the group that failed twice, and a
frame that the plane holds as PLANE_UE fails (R337, R338, R373). -/
def execStagingGroup (room t : Nat) (bad : Option Nat) (s : State) : Host.Outcome State Fault Refusal :=
  if 24 ≤ room then .fault .noSuchUnit
  else
    let s := s.setNow t
    let n := s.geti CFG_ROOM_STG_CNT_FRAMES room
    if s.stgBank room != 1 || !s.roomOn room || !s.bankAdmits room 80000 || !s.bankFree room (s.stgBankIx room) ||
        s.reloadWaits room (s.stgBankIx room) then ok s
    else
      let k := s.stgBankIx room
      let s := s.bankTake room k 80000
      let p := s.inactPlane room
      let bad := (s.fillFault room p n 8 (bad.map (fun j => n + j % 8))).map (fun f => f - n)
      let upto := match bad with
        | none => 8
        | some j => j % 8
      let s1 := (List.range upto).foldl (fun st j => st.fillFrame room k (n + j) (st.planeFrame room p (n + j))) s
      let s2 := s1.seti CFG_ROOM_STG_CNT_FRAMES room (n + upto)
      match bad with
      | some j => ok (s2.stageFault room (n + j % 8))
      | none => if n + 8 < 7680 then ok s2 else ok ((s2.seti CFG_ROOM_STAT_STG_BANK room 2).stageDone)

/-- Read-back ends (R335): the planes become VALID with their metadata and the section's table becomes the staged one, or a frame failed
twice and the session ends with HW_FAULT. -/
def execReadbackDone (bad : Option (Nat × Nat)) (s : State) : Host.Outcome State Fault Refusal :=
  match s.cfg.load with
  | none => ok s
  | some l =>
    if !l.verifying then ok s
    else match bad with
      | some (r, f) => ok (s.endLoad 24 r f)
      | none =>
        let (w, t) := l.head
        let mask := leField w 16 4
        let s1 := l.rooms.foldl (fun st x =>
          (st.setPlaneMeta x.room x.plane (leField w (48 + 4 * x.room) 4) (leField w 24 4) (w.getD (144 + x.room) 0)).setPlane x.room x.plane 3) s
        let s2 := if wbKind w = 1 then
            ({ s1 with
              cfg := { s1.cfg with tblStaged := true }
              fab := { s1.fab with ownStg := Assoc.writeRun 0 0 (t.take 3840) [], ownStgRooms := mask } }).set CFG_DOOR_TBL_STAGED 1
          else s1
        let s3 := ({ s2 with cfg := { s2.cfg with load := none } }.set CFG_LOAD_STAT_STATE 5).set CFG_LOAD_STAT_WORN (b2n l.worn)
        if l.stage then
          let key := 4 * mask + 1 + 2 * b2n l.worn
          let s4 := { s3 with kmi := { s3.kmi with running := s3.kmi.running.map (fun (c : RunCmd) =>
            if runIs 0x0703 0 c then { c with key := key } else c) } }
          ok ((s4.startStage ((bitList mask 24).filter (fun r => s4.roomOn r))).stageDone)
        else ok (s3.kmiResolve (runIs 0x0703 0) (if l.worn then stWorn else stOk) 0 [mask] [])

/-! ### Eligibility and slots -/

/-- The Door table that will be in force after a flip of Rooms `m` (R341). -/
def State.tblAfter (s : State) (m : Nat) (l : Nat) : Nat :=
  if s.cfg.tblStaged && s.fab.ownStgRooms &&& m == s.fab.ownStgRooms then s.tblStg l else s.tblNow l

/-- Why a Room is not eligible for a changeover of Rooms `m` (R341, Table 10-12), 0 where it is. -/
def State.coCause (s : State) (m r : Nat) : Nat :=
  if !s.roomOn r then 3
  else if bitB s.cfg.uncorr (2 * r + s.stgBankIx r) then 2
  else if s.stgBank r ≠ 2 then 1
  else if (doorFault (s.tblAfter m) r (s.stgFrame r)).isSome then 4
  else if !s.clocksMatch r (s.stgFrame r 0) then 5
  else 0

/-- The first cause among the Rooms of a mask. -/
def State.coCauses (s : State) (m : Nat) : Nat :=
  (((bitList m 24).map (s.coCause m)).find? (· != 0)).getD 0

/-- T of a slot. -/
def State.coT (s : State) (j : Nat) : Nat := s.geti CFG_CO_TICK_LO_T_LO j + 2 ^ 32 * s.geti CFG_CO_TICK_HI_T_HI j

/-- Owner of a slot: 1 a command, 2 the Sync Chain, 3 the twin. -/
def State.coOwner (s : State) (j : Nat) : Nat := s.cfg.coOwner.getD j 0

/-- A free slot. -/
def State.coFree (s : State) : Option Nat := (List.range 4).find? (fun j => s.geti CFG_CO_STAT_STATE j == 0)

/-- The conditions of R339 but for the free slot, and those of R348 for a rollback: a status, OK where the changeover is accepted. -/
def State.coRefusal (s : State) (m t itin : Nat) (rb : Bool) : Nat :=
  let rooms := bitList m 24
  let en := s.flag TCK_CTRL_EN
  if rooms.any (fun r => s.geti CFG_ROOM_STAT_CO_PENDING r == 1 || bitB s.armedRooms r || s.sessionRooms.contains r) then stBadState
  else if !en && t != 0 then stBadState
  else if en && !tickGe t (tickAdd s.tickno 2) then stDeadline
  else if rooms.any (fun r => if rb then s.geti CFG_ROOM_STAT_PREV r != 1 || s.stgBank r != 2
      else s.stgBank r != 1 && s.stgBank r != 2) then stNotStaged
  else if !rb && rooms.any (fun r => s.planeItin r (s.inactPlane r) != itin) then stBadArg
  else if s.cfg.tblStaged && s.fab.ownStgRooms &&& m != 0 && s.fab.ownStgRooms &&& m != s.fab.ownStgRooms then stBadArg
  else stOk

/-- Rooms of a mask are named by slot `j`, or by none. -/
def State.coMark (s : State) (m j : Nat) (on : Bool) : State :=
  (bitList m 24).foldl (fun st r => (st.seti CFG_ROOM_STAT_CO_PENDING r (b2n on)).seti CFG_ROOM_STAT_CO_SLOT r (if on then j else 0)) s

/-- A slot becomes PENDING for an owner. -/
def State.coTake (s : State) (j own m t itin : Nat) (rb : Bool) : State :=
  let s1 := ((((((s.seti CFG_CO_MASK_ROOMS j m).seti CFG_CO_MASK_ROLLBACK j (b2n rb)).seti CFG_CO_MASK_CHAIN j (b2n (decide (2 ≤ own)))).seti
    CFG_CO_TICK_LO_T_LO j t).seti CFG_CO_TICK_HI_T_HI j (t / 2 ^ 32)).seti CFG_CO_ITIN_ITIN_ID j itin)
  let s2 := (s1.seti CFG_CO_STAT_STATE j 1).seti CFG_CO_STAT_CAUSE j 0
  ({ s2 with cfg := { s2.cfg with coOwner := setAt s2.cfg.coOwner j own } }).coMark m j true

/-- A slot returns to FREE. -/
def State.coRelease (s : State) (j : Nat) : State :=
  let s1 := ((s.coMark (s.geti CFG_CO_MASK_ROOMS j) j false).seti CFG_CO_STAT_STATE j 0).seti CFG_CO_MASK_CHAIN j 0
  { s1 with cfg := { s1.cfg with coOwner := setAt s1.cfg.coOwner j 0 } }

/-- CO_RESULT for a slot (Table 12-8). -/
def State.coResult (s : State) (j : Nat) : State :=
  s.event 0x0003 0x07 (j + 4 * s.geti CFG_CO_STAT_STATE j + 2 ^ 8 * s.geti CFG_CO_STAT_CAUSE j + 2 ^ 24 * s.geti CFG_CO_MASK_ROOMS j) 0

/-- Commands waiting for slot `j`. -/
def coRun (j : Nat) (c : RunCmd) : Bool := runIs 0x0706 j c || runIs 0x0707 j c

/-- The changeover of a slot is cancelled for every Room of its mask (R342 to R344). -/
def State.coCancel (s : State) (j cause : Nat) : State :=
  let m := s.geti CFG_CO_MASK_ROOMS j
  let s1 := (((s.seti CFG_CO_STAT_STATE j 4).seti CFG_CO_STAT_CAUSE j cause).inc CFG_CO_CNT_CANCELLED).ledger 0x0702 (m + 2 ^ 24 * cause)
  let s2 := if s1.coOwner j = 1 then s1.coMark m j false else s1
  (s2.kmiResolve (coRun j) stNotStaged 0 [j + 2 ^ 8 * cause, 0] []).coResult j

/-- The changeover of a slot is done in the tick opened (R339, R345). -/
def State.coDone (s : State) (j : Nat) : State :=
  let m := s.geti CFG_CO_MASK_ROOMS j
  let s1 := (s.seti CFG_CO_STAT_STATE j 3).inc CFG_CO_CNT_DONE
  let s2 := { s1 with cfg := { s1.cfg with coTick := setAt s1.cfg.coTick j s1.tickno } }
  let s3 := if s2.coOwner j = 1 then s2.coMark m j false else s2
  (s3.kmiResolve (coRun j) stOk 0 [j, s3.tickno] []).coResult j

/-! ### The flip (R346, R349 to R352) -/

/-- The first load of a Room's active bank after power-on writes the initial Cellar contents, zero Larder words and zero PABs, and
user flip-flops hold INIT (R157, R165, R177, R502). -/
def State.firstInit (s : State) (r : Nat) : State :=
  if bitB s.fab.cellarInit r then s
  else
    let s1 := (((List.range 160).foldl (fun st b => st.initCellar r b) s).clearLarder r).clearPab r
    ({ s1 with fab := { s1.fab with cellarInit := setBit s1.fab.cellarInit r } }).initUserFf r

/-- FF = RESET: flip-flops take INIT, Waystation registers 0, Door registers their record's clamp value (Table 10-13). -/
def State.handoverReset (s : State) (r : Nat) : State :=
  let s1 := s.initUserFf r
  let ones := (List.range 4096).filter (fun d => bitB (s1.doorRec r (d / 4)) (4 + d % 4))
  { s1 with fab := { s1.fab with
      door := ones.foldl (fun m d => Assoc.write 0 (4096 * r + d) 1 m) s1.fab.door
      doorHid := ones.foldl (fun m d => Assoc.write 0 (4096 * r + d) 1 m) s1.fab.doorHid } }

/-- One Room flips: the staged bank becomes ACTIVE, the former active bank STAGED with the previous version (EMPTY where it was EMPTY or
FAULT, R365, R506), and user state is handed over under the new HANDOVER byte. -/
def State.flipRoom (s : State) (r t : Nat) (now : Bool) : State :=
  let k := s.actBankIx r
  let held := maskOf ((List.range 128).filter (fun i => s.doorLink r (3840 + i) == 1))
  let before := (roomPins r).filter (fun n => !(s.claimers n).isEmpty)
  let wasPp := (List.range 160).filter (fun b => cellarMode (s.cellarRec r b) == 2)
  let was := s.roomActive r
  let np := Assoc.get 0 (2 * r + (1 - k)) s.cfg.bankSrc
  let s1 := { s with cfg := { s.cfg with actBank := (if k = 1 then clrBit s.cfg.actBank r else setBit s.cfg.actBank r) } }
  let s2 := ((s1.seti CFG_ROOM_STAT_ACT_BANK r 3).seti CFG_ROOM_STAT_ACT_PLANE r np).seti WCH_ROOM_STAT_UNREP_ACT r 0
  let s3 := if was then ((s2.seti CFG_ROOM_STAT_STG_BANK r 2).seti CFG_ROOM_STG_CNT_FRAMES r 7680).seti CFG_ROOM_STAT_PREV r 1
    else (s2.emptyStg r).seti CFG_ROOM_STAT_PREV r 0
  let pol := s3.planeHandover r np
  let s4 := (s3.seti CFG_ROOM_HANDOVER_POLICY r pol).firstInit r
  let s5 := if bitB pol 0 then s4 else s4.handoverReset r
  let newPp := (List.range 160).filter (fun b => cellarMode (s5.cellarRec r b) == 2 && !wasPp.contains b)
  let hold := bits pol 5 4
  let h : HandSt := ⟨3, if now || hold == 0 then none else some (tickAdd t hold), bits pol 3 1, if bitB pol 6 then some held else none⟩
  let s6 := { s5 with
    fab := { s5.fab with ppSel := newPp.foldl (fun m b => Assoc.write false (160 * r + b) false m) s5.fab.ppSel }
    cfg := { s5.cfg with hand := Assoc.put r h s5.cfg.hand, selDue := setBit s5.cfg.selDue r } }
  (s6.seti CFG_ROOM_STAT_SEL_PENDING r 1).holdClaims before

/-- The handover clamp of a Room is released on each tree that runs, once its block work has ended and HOLD allows it (R350); the release
of its last tree ends every claim the flip took away (R464) and makes windows available. -/
def State.handRelease (s : State) (r : Nat) : State :=
  match Assoc.find? r s.cfg.hand with
  | none => s
  | some h =>
    let due := h.work == 0 && (match h.rel with
      | none => true
      | some t => tickGe s.tick.opened t)
    if !due then s
    else
      let left := ((List.range 2).filter (fun t => bitB h.trees t && !s.treeRuns r t)).foldl (fun v t => setBit v t) 0
      if left = 0 then
        ((({ s with cfg := { s.cfg with hand := Assoc.del r s.cfg.hand } }).releaseClaims r).winSweep)
      else { s with cfg := { s.cfg with hand := Assoc.put r { h with trees := left } s.cfg.hand } }

/-- Handover clamps of every Room. -/
def State.handReleaseAll (s : State) : State := (List.range 24).foldl (fun st r => st.handRelease r) s

/-- A flip of the Rooms of mask `m` (R346): all Rooms, the staged Door table whose Rooms lie in the mask, rings (R273), pins, targets,
windows, CFG_ITIN. `t` is the T of the changeover; `now` a flip without a boundary (R340). -/
def State.flipMask (s : State) (m t : Nat) (now : Bool) : State :=
  let rooms := bitList m 24
  let table := s.cfg.tblStaged && s.fab.ownStgRooms &&& m == s.fab.ownStgRooms
  let s1 := rooms.foldl (fun st r => st.flipRoom r t now) s
  let s2 := if table then
      ({ s1 with
        fab := { s1.fab with ownTbl := s1.fab.ownStg, ownStg := [], ownStgRooms := 0 }
        cfg := { s1.cfg with tblStaged := false, tblForce := true } }).set CFG_DOOR_TBL_STAGED 0
    else s1
  (rooms.foldl (fun st r => (st.ringsChange r).roomSync r) s2).commitOwed.2

/-- A flip outside a boundary: rings with CO_POL STOP stop, clamps with HOLD 0 are released (R340). -/
def State.flipNow (s : State) (m t : Nat) : State :=
  ((bitList m 24).foldl (fun st r => st.ringsCoStop r) (s.flipMask m t true)).handReleaseAll

/-- With T = 0 and the tick engine disabled, the check and the flip take place at once (R340). -/
def State.coImmediate (s : State) (j : Nat) : State :=
  let m := s.geti CFG_CO_MASK_ROOMS j
  let c := s.coCauses m
  if c ≠ 0 then s.coCancel j c else (s.flipNow m 0).coDone j

/-- Slot 0: every PENDING changeover is checked at the first boundary that opens tick T − 1 or higher (R342). Slots of a mode change are
driven by their protocol. -/
def State.coCheck (s : State) : State :=
  (List.range 4).foldl (fun st j =>
    if st.geti CFG_CO_STAT_STATE j = 1 ∧ st.coOwner j = 1 ∧ tickGe st.tickno (tickAdd (st.coT j) (2 ^ 48 - 1)) = true then
      let c := st.coCauses (st.geti CFG_CO_MASK_ROOMS j)
      if c = 0 then st.seti CFG_CO_STAT_STATE j 2 else st.coCancel j c
    else st) s

/-- Slot 3: every CHECKED changeover flips at the first boundary that opens tick T or higher, unless a Room has ceased to be eligible
(R343, R346). -/
def State.coFlip (s : State) : State :=
  (List.range 4).foldl (fun st j =>
    if st.geti CFG_CO_STAT_STATE j = 2 ∧ st.coOwner j = 1 ∧ tickGe st.tickno (st.coT j) = true then
      let m := st.geti CFG_CO_MASK_ROOMS j
      let c := st.coCauses m
      if c = 0 then (st.flipMask m (st.coT j) false).coDone j else st.coCancel j c
    else st) s

/-- What CHANGEOVER and ROLLBACK come to (R339, R348). -/
def State.coCommand (s : State) (m t itin : Nat) (rb : Bool) : KmiRes :=
  if m = 0 ∨ 2 ^ 24 ≤ m then .fin s stBadArg 0 [] []
  else match s.coFree with
    | none => .fin s stHeld 0 [] []
    | some j =>
      let st := s.coRefusal m t itin rb
      if st ≠ stOk then .fin s st 0 [] []
      else .run (s.coTake j 1 m t itin rb) true j

/-- A slot taken while the tick engine is disabled flips at once. -/
def State.coAtOnce (s : State) : State :=
  (List.range 4).foldl (fun st j =>
    if st.geti CFG_CO_STAT_STATE j = 1 ∧ st.coOwner j = 1 ∧ st.coT j = 0 ∧ st.flag TCK_CTRL_EN = false then st.coImmediate j else st) s

/-- CHANGEOVER (R339). -/
def execChangeover (m : Nat) (s : State) : Host.Outcome State Fault Refusal :=
  match kmiCommand 0x0706 m (fun cmd s => s.coCommand cmd.a0 (cmd.a1 % 2 ^ 48) (cmd.a2 % 2 ^ 32) false) s with
  | .next s1 => ok s1.coAtOnce
  | other => other

/-- ROLLBACK (R348). -/
def execRollback (m : Nat) (s : State) : Host.Outcome State Fault Refusal :=
  match kmiCommand 0x0707 m (fun cmd s => s.coCommand cmd.a0 (cmd.a1 % 2 ^ 48) 0 true) s with
  | .next s1 => ok s1.coAtOnce
  | other => other

/-- CANCEL_CO (R344). -/
def execCancelCo (m : Nat) (s : State) : Host.Outcome State Fault Refusal :=
  kmiCommand 0x0708 m (fun cmd s =>
    let j := bits cmd.a0 1 0
    let st := s.geti CFG_CO_STAT_STATE j
    if s.flagi CFG_CO_MASK_CHAIN j then .fin s stBadState 0 [] []
    else if st = 2 then .fin s stDeadline 0 [] []
    else if st ≠ 1 then .fin s stBadState 0 [] []
    else .fin (s.coCancel j 6) stOk 0 [] []) s

/-- A write of 1 to CFG_CO*j*_STAT.ARM schedules the slot's own fields under R339; a slot that R339 refuses stays FREE (R356). -/
def execCoSlotArm (j : Nat) (s : State) : Host.Outcome State Fault Refusal :=
  if 4 ≤ j then .fault .noSuchUnit
  else
    let m := s.geti CFG_CO_MASK_ROOMS j
    let rb := s.flagi CFG_CO_MASK_ROLLBACK j
    let itin := s.geti CFG_CO_ITIN_ITIN_ID j
    if s.geti CFG_CO_STAT_STATE j ≠ 0 then ok (s.regIgnored 7 (CFG_CO_STAT_ARM.at j 0))
    else if m = 0 ∨ s.coRefusal m (s.coT j) itin rb ≠ stOk then ok s
    else ok (s.coTake j 1 m (s.coT j) itin rb).coAtOnce

/-- A write of 1 to CFG_CO*j*_STAT.FREE in DONE or CANCELLED returns the slot to FREE; a slot of a mode change is freed when its outcome is
final (R345). -/
def execCoSlotFree (j : Nat) (s : State) : Host.Outcome State Fault Refusal :=
  if 4 ≤ j then .fault .noSuchUnit
  else if s.geti CFG_CO_STAT_STATE j = 3 ∨ s.geti CFG_CO_STAT_STATE j = 4 then ok (s.coRelease j) else ok s

/-- Block work of a handover ends: 0 CELLAR_INIT, 1 LARDER_CLEAR, 2 PAB_CLEAR; its blocks' ports are enabled, and the handover clamp may be
released (R350, R351). -/
def execHandoverBlockWorkDone (room work : Nat) (s : State) : Host.Outcome State Fault Refusal :=
  if 24 ≤ room ∨ 3 ≤ work then .fault .noSuchUnit
  else match Assoc.find? room s.cfg.hand with
    | none => ok s
    | some h =>
      if !bitB h.work work then ok s
      else
        let s1 := match work with
          | 0 => ((List.range 160).filter (fun b => bitB (s.cellarRec room b) 18)).foldl (fun (st : State) b => st.initCellar room b) s
          | 1 => s.clearLarder room
          | _ => s.clearPab room
        ok (({ s1 with cfg := { s1.cfg with hand := Assoc.put room { h with work := clrBit h.work work } s1.cfg.hand } }).handRelease room)

/-! ### Select words and the Itinerary record -/

/-- The select word of a Room, from its state (Table 10-5). -/
def State.selWord (s : State) (r : Nat) : Nat :=
  s.actPlane r + 2 * s.geti CFG_ROOM_STAT_PREV r + 4 * b2n (bitB (s.get PWR_ROOM_OFF_ROOMS) r)

/-- A Room's select word as programmed. -/
def State.sel (s : State) (r : Nat) : Nat := Assoc.get 0 r s.cfg.sel

/-- Program a Room's select word. -/
def State.setSel (s : State) (r v : Nat) : State := { s with cfg := { s.cfg with sel := Assoc.write 0 r v s.cfg.sel } }

/-- The body of the Itinerary record in force, zeros where there is none. -/
def State.itinOld (s : State) : List Nat := (s.settingsRead 4).getD []

/-- The I/O part of the record: banks, pins, functions (Table 16-5). -/
def State.itinIo (s : State) : List Nat :=
  (List.range 13).flatMap (fun k => leBytes 4 (s.word [IOB_BANK_VIO_SEL, IOB_BANK_VREF] k 0)) ++ List.replicate 12 0 ++
  (List.range 624).flatMap (fun n => leBytes 4 (s.word [IOB_PIN_STD, IOB_PIN_OD, IOB_PIN_PULL, IOB_PIN_DRIVE, IOB_PIN_SLEW, IOB_PIN_TERM] n 0)) ++
  (List.range 624).map (fun n => s.geti GPIO_PIN_FUNC n)

/-- The body of the Itinerary record (Table 16-5): REQUIRED, DRAM_REQUIRED and, but for IOB_CTRL.SAVE, the I/O part are kept from the
record before. -/
def State.itinBody (s : State) (save : Bool) : List Nat :=
  let old := s.itinOld
  let flags := b2n s.cfg.tblForce + 2 * (if save then 1 else bits (leField old 4 4) 1 1) + 4 * bits (leField old 4 4) 2 2
  leBytes 4 s.itinNow ++ leBytes 4 flags ++ leBytes 4 (leField old 8 4) ++ leBytes 4 (s.get PWR_ROOM_OFF_ROOMS) ++ List.replicate 16 0 ++
  (List.range 24).flatMap (fun r =>
    let p := s.actPlane r
    leBytes 4 (s.planeVer r p) ++ leBytes 4 (s.planeItin r p) ++ [p + 2 * s.geti CFG_ROOM_STAT_PREV r] ++ List.replicate 7 0) ++
  (List.range 4096).map (fun e => if e < 3840 then s.tblNow e else 0) ++
  (List.range 16).flatMap (fun p => leBytes 4 (s.fab.pllCtl.getD p 0) ++ leBytes 8 (s.fab.pllOut.getD p 0) ++ List.replicate 4 0) ++
  (if save then s.itinIo else sliceBytes old 4768 3184) ++ List.replicate 16 0

/-- Firmware writes the Itinerary record (R514). -/
def State.itinWrite (s : State) (save : Bool) : State := s.settingsWrite 4 (s.itinBody save)

/-- The select words of flipped Rooms are programmed in the first rest window that admits 2 µs; firmware then writes the Itinerary record
and CFG_CO_DONE (R347). -/
def execSelectWordProgram (t : Nat) (s : State) : Host.Outcome State Fault Refusal :=
  let s := s.setNow t
  if s.cfg.selDue = 0 ∨ (s.flag TCK_CTRL_EN = true ∧ s.admits 512000 = false) then ok s
  else
    let m := s.cfg.selDue
    let s1 := (bitList m 24).foldl (fun st r => (st.setSel r (st.selWord r)).seti CFG_ROOM_STAT_SEL_PENDING r 0) s
    ok ((({ s1 with cfg := { s1.cfg with selDue := 0 } }).itinWrite false).ledger 0x0703 m)

/-- IOB_CTRL.SAVE: pin settings and function assignments go into the Itinerary record (R453). -/
def execIobSave (s : State) : Host.Outcome State Fault Refusal := ok (s.itinWrite true)

/-- A fabric PLL locks again: its trees restart and take the commits they owe (R52, R153); handover clamps waiting for them are released
(R350); an FPLL_WRITE waiting for the lock completes and firmware writes the Itinerary record (R407, R514). -/
def execFpllRelock (pll us : Nat) (s : State) : Host.Outcome State Fault Refusal :=
  if 16 ≤ pll then .fault .noSuchUnit
  else
    let s1 := (({ s with fab := { s.fab with pllLocked := setBit s.fab.pllLocked pll } }).restartTrees).handReleaseAll
    let s2 := if s.kmi.running.any (runIs 0x0104 pll) then s1.itinWrite false else s1
    ok (s2.kmiResolve (runIs 0x0104 pll) (if us ≤ 1000 then stOk else stHwFault) 0 [us % 2 ^ 16] [])

/-! ### Room power (R355) -/

/-- A Room's domain turns off: both banks become EMPTY and what the domain held is lost; planes and select word hold. -/
def State.roomOff (s : State) (r : Nat) : State :=
  let s1 := (((s.isoKeep r).set PWR_DOM_ON (clrBit (s.get PWR_DOM_ON) r)).emptyAct r).emptyStg r
  let s2 := { s1 with
    fab := { s1.fab with
      cellarInit := clrBit s1.fab.cellarInit r
      slices := s1.fab.slices.filter (fun e => e.1 / 25600 != r)
      way := s1.fab.way.filter (fun e => e.1 / 3520 != r)
      door := s1.fab.door.filter (fun e => e.1 / 4096 != r)
      doorHid := s1.fab.doorHid.filter (fun e => e.1 / 4096 != r) }
    cfg := { s1.cfg with filling := clrBit s1.cfg.filling r, hand := Assoc.del r s1.cfg.hand }
    wch := { s1.wch with reloads := s1.wch.reloads.filter (fun x => x.room != r) } }
  ((s2.releaseClaims r).roomSync r).stageDone

/-- ROOM_POWER_OFF (R355): its Doors clamp (Table 04-12). -/
def execRoomPowerOff (room : Nat) (s : State) : Host.Outcome State Fault Refusal :=
  if 24 ≤ room then .fault .noSuchUnit else if s.roomOn room then ok (s.roomOff room) else ok s

/-- A Room's domain turns on: block contents are initialised when its bank is loaded, and the active bank begins to fill from the plane the
select word names where that plane is VALID (R355, R319, R495). -/
def State.roomPower (s : State) (r : Nat) : State :=
  let s1 := (s.set PWR_DOM_ON (setBit (s.get PWR_DOM_ON) r)).seti CFG_ROOM_STAT_ACT_PLANE r (bits (s.sel r) 0 0)
  if s1.plane r (s1.actPlane r) = 3 then { s1 with cfg := { s1.cfg with filling := setBit s1.cfg.filling r } } else s1

/-- ROOM_POWER_ON (R355). -/
def execRoomPowerOn (room : Nat) (s : State) : Host.Outcome State Fault Refusal :=
  if 24 ≤ room then .fault .noSuchUnit else if s.roomOn room then ok s else ok (s.roomPower room)

/-! ### CONFIG_STATUS -/

/-- CONFIG_STATUS (R413). -/
def execConfigStatus (m : Nat) (s : State) : Host.Outcome State Fault Refusal :=
  kmiCommand 0x0709 m (fun cmd s =>
    let r := bits cmd.a0 4 0
    if r = 31 then
      .fin s stOk 0
        [s.word [CFG_LOAD_STAT_STATE, CFG_LOAD_STAT_ROOM, CFG_LOAD_STAT_ERR, CFG_LOAD_STAT_WORN] 0 0 + 2 ^ 32 * s.get CFG_LOAD_BYTES,
         s.get CFG_ITIN_ITIN_ID + 2 ^ 32 * s.word [CFG_CO_CNT_DONE, CFG_CO_CNT_CANCELLED] 0 0, s.get CFG_DOOR_TBL_STAGED,
         (List.range 4).foldl (fun v j => v + 2 ^ (16 * j) * s.word [CFG_CO_STAT_STATE, CFG_CO_STAT_CAUSE] j 0) 0] []
    else if 24 ≤ r then .fin s stBadArg 0 [] []
    else
      .fin s stOk 0
        [s.word [CFG_ROOM_STAT_PLANE_A, CFG_ROOM_STAT_PLANE_B, CFG_ROOM_STAT_ACT_PLANE, CFG_ROOM_STAT_PREV, CFG_ROOM_STAT_ACT_BANK,
           CFG_ROOM_STAT_STG_BANK, CFG_ROOM_STAT_SEL_PENDING, CFG_ROOM_STAT_WORN, CFG_ROOM_STAT_CO_PENDING, CFG_ROOM_STAT_CO_SLOT] r 0,
         s.planeVer r 0 + 2 ^ 32 * s.planeVer r 1, s.planeItin r 0 + 2 ^ 32 * s.planeItin r 1,
         s.geti CFG_ROOM_STG_CNT_FRAMES r + 2 ^ 32 * s.geti CFG_ROOM_HANDOVER_POLICY r,
         s.word [WCH_ROOM_STAT_CREDIT, WCH_ROOM_STAT_STARVED, WCH_ROOM_STAT_PLANE_BAD_A, WCH_ROOM_STAT_PLANE_BAD_B,
           WCH_ROOM_STAT_UNREP_ACT] r 0] []) s

end Sys2Proof.Machine
end

