-- ==== Sys2Proof/Machine/HostLink.lean ====
section
/-! DEFINITION. The Host Link (07): readiness (R228 to R230), link training (R226, R227), resets (R242, R243, R277, R397), D-states and link
power (R244, R245), the HDM decoder, bias and CXL.mem (R235 to R241), and its commands (R411). -/

namespace Sys2Proof.Machine

open Reg

/-! ### What the endpoint advertises (R225, R230, R231) -/

/-- Features of Table 07-1, and those it marks "No". -/
inductive PcieFeature where
  | flit | nonFlit | l0s | l0p | aspmL1 | l11 | l12 | ltr | ari | srIov | msiX | aer | serial | margining | drs | doe
  | ats | pri | pasid | tph | ptm | frs | acs | ide | resizableBar | cxlIo | cxlCache | cxlMemHdmD | hdmDb | hdmH | mld | switching | pbr
  | cxlReset | memoryClear | viral | gpf
  deriving DecidableEq, Repr

/-- Supported: "Yes" in Table 07-1. -/
def PcieFeature.supported : PcieFeature → Bool
  | .flit | .nonFlit | .aspmL1 | .l11 | .l12 | .ltr | .ari | .srIov | .msiX | .aer | .serial | .margining | .drs | .doe => true
  | .cxlIo | .cxlCache | .cxlMemHdmD | .cxlReset => true
  | .l0s | .l0p | .ats | .pri | .pasid | .tph | .ptm | .frs | .acs | .ide | .resizableBar | .hdmDb | .hdmH | .mld | .switching | .pbr => false
  | .memoryClear | .viral | .gpf => false

/-- A pin carries CLKREQ_N (R246). -/
def State.clkreq (s : State) : Bool := !(s.pinsOf 0x60).isEmpty

/-- The endpoint advertises a feature: the capability bits of the others are 0, and those of L1.1 and L1.2 while no pin carries CLKREQ_N (R225, R246). -/
def State.advertises (s : State) (f : PcieFeature) : Bool := f.supported && ((f != .l11 && f != .l12) || s.clkreq)

/-- What a function's configuration space says that the spec states (R225, R229 to R231, R235, R244): BAR sizes in bytes, MPS and MRRS maxima in
bytes, tag bits without and with flit mode, MSI-X vectors; SR-IOV numbers; T_POWER_ON in µs; Memory_Active_Timeout in ms; the sizes of
Ranges 1 and 2 in bytes. -/
structure CfgSpace where
  vendorId : Nat
  deviceId : Nat
  subsystemVendorId : Nat
  subsystemId : Nat
  classCode : Nat
  barSizes : List Nat
  barPrefetch : List Bool
  bars : List Nat
  msixVectors : Nat
  msixEnable : Bool
  maxPayload : Nat
  maxReadRequest : Nat
  tagBits : Nat × Nat
  initialVfs : Nat
  totalVfs : Nat
  firstVfOffset : Nat
  vfStride : Nat
  serialNumber : Nat
  tPowerOn : Nat
  memActive : Bool
  memInfoValid : Bool
  memActiveTimeoutMs : Nat
  range1Size : Nat
  range2Size : Nat
  deriving DecidableEq, Repr

/-- Vectors of a function's MSI-X table (R229). -/
def State.msixVectors (s : State) (fn : Nat) : Nat := if fn = 0 then 32 else if fn = 1 then s.hlk.vecPf1 else s.hlk.vecVf

/-- Configuration space of PF0 (0), PF1 (1) or VF v (1 + v): what a host read of it shows. No row of the command table is such a read. -/
def State.cfgSpace (s : State) (fn : Nat) : CfgSpace :=
  let id := s.shadowRow 0
  let pf1 := fn == 1
  { vendorId := leField id 0 2, deviceId := s.hlk.devId, subsystemVendorId := s.hlk.subVid, subsystemId := s.hlk.subId
    classCode := if fn = 0 then 0x120000 else 0x118000
    barSizes := if fn = 0 then [2 ^ 17, 2 ^ 16] else if pf1 then [2 ^ 16, 2 ^ 18, 2 ^ 30] else [2 ^ 12, 2 ^ 14]
    barPrefetch := if fn = 0 then [false, false] else if pf1 then [false, false, true] else [false, false]
    bars := if fn = 0 then s.hlk.bars.take 2 else if pf1 then (s.hlk.bars.drop 2).take 3 else s.hlk.bars.drop 5
    msixVectors := s.msixVectors fn, msixEnable := bitB s.hlk.msixEn fn, maxPayload := 512, maxReadRequest := 4096, tagBits := (10, 14)
    initialVfs := if pf1 then 63 else 0, totalVfs := if pf1 then 63 else 0, firstVfOffset := b2n pf1, vfStride := b2n pf1
    serialNumber := if fn = 0 then leField id 4 16 else 0, tPowerOn := 100
    memActive := fn == 0 && s.flag HLK_STAT_MEM_ACTIVE, memInfoValid := fn == 0 && s.hlk.memInfo, memActiveTimeoutMs := if fn = 0 then 1000 else 0
    range1Size := if fn = 0 then min 512 (s.get HLK_HDM_LIMIT) * 2 ^ 28 else 0, range2Size := 0 }

/-- Sizes of the seven BARs of Table 07-3. -/
def barSizes : List Nat := [2 ^ 17, 2 ^ 16, 2 ^ 16, 2 ^ 18, 2 ^ 30, 2 ^ 12, 2 ^ 14]

/-- MSI-X Enable, masks and pending bits of the functions that `p` names are reset; BARs of those that `b` numbers (Table 07-6). -/
def State.fnReset (s : State) (p : Nat → Bool) (b : List Nat) : State :=
  { s with hlk := { s.hlk with
      msixEn := maskOf ((List.range 65).filter (fun f => bitB s.hlk.msixEn f && !p f))
      msixMask := s.hlk.msixMask.filter (fun e => !p (e.1 / 2048))
      pba := s.hlk.pba.filter (fun e => !p (e.1 / 2048))
      aer := s.hlk.aer.filter (fun e => !p e.1)
      bars := (List.range 7).map (fun i => if b.contains i then 0 else s.hlk.bars.getD i 0) } }

/-! ### Readiness and training -/

/-- A host settings body counts as missing where a reserved bit is set or its vectors exceed 2,048 (Table 13-3). -/
def hostBodyOk (b : List Nat) : Bool :=
  b.length == 16 && decide (b.getD 6 0 < 64) && b.getD 7 0 == 0 && leField b 12 4 == 0 &&
  decide (32 + leField b 8 2 + 63 * leField b 10 2 ≤ 2048)

/-- The OTP defaults (R229, R443): the body in row 1, and where row 1 is not valid 64 GT/s, x16, 1,008 and 16 vectors with the Device ID of
row 0. -/
def State.hostDefaults (s : State) : List Nat :=
  let r1 := s.shadowRow 1
  if rowValid r1 && hostBodyOk (r1.take 16) then r1.take 16
  else (s.shadowRow 0).drop 2 |>.take 2 |> fun id => id ++ [0, 0, 0, 0, 5 + 8 * 4, 0] ++ leBytes 2 1008 ++ leBytes 2 16 ++ [0, 0, 0, 0]

/-- The body of the host settings record in force at a timeline, and whether it is the defaults. -/
def State.hostBody (s : State) (readBad : Bool) : List Nat × Bool :=
  match (if readBad then none else s.settingsRead 1) with
  | some b => if hostBodyOk b then (b, false) else (s.hostDefaults, true)
  | none => (s.hostDefaults, true)

/-- PERST_N rises: the readiness timeline starts where PD26 is released (R228). -/
def State.perstRelease (s : State) (t : Nat) : State :=
  if s.hlk.perstLow || s.hlk.timeline.isNone then
    { s with hlk := { s.hlk with perstLow := false, drsSent := false, timeline := if s.domOn 26 then some t else none } }
  else s

/-- Configuration space becomes ready (Table 07-2): the host settings are taken, HLK_READY records the time (R228, R229). -/
def execCfgReady (t us : Nat) (readBad : Bool) (s : State) : Host.Outcome State Fault Refusal :=
  let s := s.setNow t
  if s.hlk.timeline.isNone || s.hlk.perstLow || !s.domOn 26 || s.flag HLK_STAT_CFG_READY then ok s
  else
    let (b, def_) := s.hostBody readBad
    let s1 := { s with hlk := { s.hlk with
      devId := leField b 0 2, subId := leField b 2 2, subVid := leField b 4 2, vecPf1 := leField b 8 2, vecVf := leField b 10 2
      setRate := b.getD 6 0, memInfo := true } }
    let s2 := ((s1.set HLK_CTRL_MAX_RATE (b.getD 6 0 % 8)).set HLK_CTRL_MAX_WIDTH (b.getD 6 0 / 8 % 8)).set HLK_STAT_SETTINGS_DEF (b2n def_)
    let s3 := ((s2.set HLK_STAT_CFG_READY 1).set HLK_READY_CFG_READY_US us).set HLK_STAT_MEM_ACTIVE (s2.get DMC_STAT_TRAINED)
    ok (if def_ then s3.ledger 0x0501 0 else s3)

/-- MAX_RATE as it acts: 6 and 7 act as 5 (Table 07-9). -/
def State.maxRate (s : State) : Nat := min 5 (s.get HLK_CTRL_MAX_RATE)

/-- What the host's enumeration writes: enables, masks and BARs, whose low bits read 0 by their sizes; an unmasked pending vector is sent. -/
def State.hostEnum (s : State) (e : HostEnum) : State :=
  let mask : Assoc Bool := e.msixMasked.foldl (fun m v => Assoc.put (2048 * v.1 + v.2) true m) []
  let due := s.hlk.pba.filter (fun p => !Assoc.get false p.1 mask && bitB e.msixEn (p.1 / 2048))
  let s1 := { s with hlk := { s.hlk with
    bme := e.bme % 2 ^ 65, msixEn := e.msixEn % 2 ^ 65, msixMask := mask
    pba := s.hlk.pba.filter (fun p => !due.contains p)
    bars := (List.range 7).map (fun i => let n := barSizes.getD i 1; e.bars.getD i 0 % 2 ^ 64 / n * n) } }
  due.foldl (fun st p => st.msix (p.1 / 2048) (p.1 % 2048)) s1

/-- The link reaches L0 (R225 to R228): CXL protocols at 8 GT/s and above where offered, DRS once in a readiness timeline where enabled; the host's
enumeration gives Bus Master Enable, MSI-X, BARs, VF Enable and PME_En (DESIGN CHOICE, log entry 18). A first training at MAX_RATE ends start step 6 (Table 16-4). -/
def execLinkTrained (rate width : Nat) (flit : Bool) (enum : HostEnum) (vfEnable pmeEn : Bool) (s : State) : Host.Outcome State Fault Refusal :=
  if !s.flag HLK_STAT_CFG_READY || !s.domOn 26 then ok s
  else
    let r := min rate s.maxRate
    let cxl := b2n (s.flag HLK_CTRL_CXL_EN && decide (2 ≤ r))
    let s1 := (((s.set HLK_STAT_LINK_UP 1).set HLK_STAT_RATE r).set HLK_STAT_WIDTH (min width (min 4 (s.get HLK_CTRL_MAX_WIDTH)))).set
      HLK_STAT_FLIT (b2n (flit || r == 5))
    let s2 := ((s1.set HLK_STAT_CXL_CACHE cxl).set HLK_STAT_CXL_MEM cxl).set HLK_STAT_LPM 0
    let drs := s2.flag HLK_CTRL_DRS_EN && !s2.hlk.drsSent
    let s3 := ({ s2 with hlk := { s2.hlk with
      vfEnable := vfEnable, pmeEn := pmeEn, pmeDone := false, wakeN := false, drsSent := s2.hlk.drsSent || drs } }).hostEnum enum
    let s3 := if drs then s3.emit .drs else s3
    let first := !(s3.journal.any (fun e => leField e 4 4 == s3.boot.seq && e.getD 8 0 == 6))
    ok (if first && r == s3.maxRate && s3.flag KMI_CTRL_FW_READY then s3.journalWrite 6 0 1 0 0xFF 0xFF else s3)

/-- HLK_CTRL.RETRAIN: the link leaves L0 and trains with the current caps (R227). -/
def execHlkRetrain (s : State) : Host.Outcome State Fault Refusal :=
  ok (if s.flag HLK_STAT_LINK_UP then s.set HLK_STAT_LINK_UP 0 else s)

/-- No L0 at MAX_RATE within 1 s, or 64 entries to Recovery in that second: start step 6 fails, and the host settings record is rewritten with
MAX_RATE one code lower, not below 3 (Table 16-4). -/
def execHostLinkStepFail (s : State) : Host.Outcome State Fault Refusal :=
  if !s.flag HLK_STAT_CFG_READY || s.hlk.perstLow || !s.flag KMI_CTRL_FW_READY then ok s
  else
    let s1 := s.journalWrite 6 0 2 0 0xFF 0xFF
    let (b, _) := s1.hostBody false
    let rate := min 5 (b.getD 6 0 % 8)
    let lower := if rate ≤ 3 then rate else rate - 1
    ok (s1.settingsWrite 1 (setAt b 6 (b.getD 6 0 / 8 * 8 + lower)))

/-- The link enters or leaves L1, L1.1 or L1.2 (R244); the substates only where a pin carries CLKREQ_N (R246). -/
def execLinkPowerState (lpm : Nat) (s : State) : Host.Outcome State Fault Refusal :=
  ok (if s.flag HLK_STAT_LINK_UP && decide (lpm ≤ 3) && (decide (lpm ≤ 1) || s.clkreq) then s.set HLK_STAT_LPM lpm else s)

/-! ### HDM decoder and bias -/

/-- Show the bias of HLK_BIAS_OP.PAGE (Table 07-9). -/
def State.biasShow (s : State) : State := s.set HLK_BIAS_STAT_DEVICE (b2n (Assoc.get false (s.get HLK_BIAS_OP_PAGE) s.hlk.bias))

/-- The decoder is uncommitted: every page is in HOST bias and a flip in progress is cancelled (R236, R239). -/
def State.hdmUncommit (s : State) : State :=
  let s1 := ({ s with hlk := { s.hlk with hdmBase := 0, hdmSize := 0, hdmErr := false, bias := [], flip := none } }).set HLK_STAT_HDM_COMMITTED 0
  let s2 := if s.hlk.flip.isSome then ((s1.set HLK_BIAS_STAT_BUSY 0).set HLK_BIAS_STAT_CANCELLED 1).kmiResolve (runIs 0x0504 0) stOk 0 [1] []
    else s1
  s2.biasShow

/-- The host commits the decoder (R236). -/
def execHdmCommit (base size ways skip : Nat) (s : State) : Host.Outcome State Fault Refusal :=
  if s.flag HLK_STAT_HDM_COMMITTED || !s.flag HLK_STAT_CFG_READY || !s.domOn 26 then ok s
  else
    let good := ways == 1 && skip == 0 && size % 2 ^ 28 == 0 && decide (size ≤ min 512 (s.get HLK_HDM_LIMIT) * 2 ^ 28) &&
      decide (s.hdmDpa + size ≤ s.dmcCap)
    if good then ok (({ s with hlk := { s.hlk with hdmBase := base, hdmSize := size, hdmErr := false } }).set HLK_STAT_HDM_COMMITTED 1)
    else ok { s with hlk := { s.hlk with hdmErr := true } }

/-- What a request finds in the Host Link itself (Table 07-8): 2 a corrected SRAM error, 3 an uncorrected one, 4 a protocol error. -/
def State.linkFault (s : State) (kind : Nat) : State :=
  match kind with
  | 2 => (s.inc HLK_ERR_CNT_CORR).hlkErr 0 7
  | 3 => (s.inc HLK_ERR_CNT_UNCORR).hlkErr 0 8
  | 4 => (s.inc HLK_ERR_CNT_UNCORR).hlkErr 0 9
  | _ => s

/-- A host CXL.mem read or write of a 64-byte line: a DEVICE page flips to HOST, a flip of the page is cancelled, then the request is served, in
SLEEP after DRAM has left self-refresh (Table 07-5, R237, R241, R247). A read waits in the interconnect while the controller takes none (R308): it
is served by a later row. `readErr`: 1 an uncorrectable error of the DRAM read, 2 to 4 as
`State.linkFault`; a request with a protocol error is not served. In DEEP SLEEP and OFF there is no CXL.mem (Table 07-7). -/
def execCxlMemRequest (hpa : Nat) (write : Option (List Nat)) (poison : Bool) (readErr tag : Nat) (s : State) :
    Host.Outcome State Fault Refusal :=
  let line := hpa - hpa % 64
  if !s.flag HLK_STAT_CXL_MEM || !s.domOn 26 || decide (3 ≤ s.get PWR_STATE_CUR) then ok s
  else
    let s := s.linkFault readErr
    if readErr == 4 || !s.flag HLK_STAT_HDM_COMMITTED || decide (line < s.hlk.hdmBase) || decide (s.hlk.hdmBase + s.hlk.hdmSize ≤ line) then ok s
    else
      let s := if s.get PWR_STATE_CUR = 2 then s.srExit else s
      if write.isNone && !s.dmcTakes then ok s
      else
      let off := line - s.hlk.hdmBase
      let page := off / 65536
      let s1 := if Assoc.get false page s.hlk.bias then
          (({ s with hlk := { s.hlk with bias := Assoc.write false page false s.hlk.bias } }).inc HLK_BIAS_CNT_AUTO_FLIP).biasShow
        else s
      let s2 := match s1.hlk.flip with
        | some (p, _) => if p = page then
            ({ s1 with hlk := { s1.hlk with flip := some (p, true) } }).set HLK_BIAS_STAT_CANCELLED 1 else s1
        | none => s1
      let dpa := s2.hdmDpa + off
      match write with
      | some data =>
        let s3 := if poison then s2.hlkErr 0 2 else s2
        ok ((s3.dramWrite 208 dpa (sliceBytes data 0 64) poison).emit (.hostCompl tag 0 []))
      | none =>
        let (bytes, bad, s3) := s2.dramRead 208 dpa 64
        if bad.isSome || readErr == 1 then
          ok ((((if bad.isSome then s3 else s3.reportUe (dpa / 64) 208).inc HLK_POISON_CNT_POISON_TX).hlkErr 0 1).emit (.hostCompl tag 3 bytes))
        else ok (s3.emit (.hostCompl tag 0 bytes))

/-- An H2D snoop: the part holds no copy and answers RspIHitI (R238). -/
def execH2dSnoop (_kind addr : Nat) (s : State) : Host.Outcome State Fault Refusal :=
  ok (if s.flag HLK_STAT_CXL_CACHE then s.emit (.hostCompl addr 4 []) else s)

/-- A flip of a page to DEVICE bias starts: RdOwnNoData for each of its 1,024 lines (R241). -/
def State.biasStart (s : State) (page : Nat) : State :=
  let s1 := ((s.set HLK_BIAS_OP_PAGE page).set HLK_BIAS_STAT_BUSY 1).biasShow
  { s1 with
    hlk := { s1.hlk with flip := some (page, false) }
    out := s1.out ++ (List.range 1024).map (fun i => Out.snoop 1 (s1.hdmDpa + 65536 * page + 64 * i)) }

/-- HLK_BIAS_OP.GO (R241): nothing starts while BUSY, or on a page outside the committed range. -/
def execBiasFlipStart (page : Nat) (s : State) : Host.Outcome State Fault Refusal :=
  if s.hlk.flip.isSome || !s.flag HLK_STAT_HDM_COMMITTED || decide (s.hlk.hdmSize ≤ 65536 * page) then ok s else ok (s.biasStart page)

/-- The requests of a flip are complete: the page becomes DEVICE, unless the flip was cancelled (R241). -/
def execBiasFlipDone (s : State) : Host.Outcome State Fault Refusal :=
  match s.hlk.flip with
  | none => ok s
  | some (page, cancelled) =>
    let s1 := ({ s with hlk := { s.hlk with flip := none } }).set HLK_BIAS_STAT_BUSY 0
    let s2 := if cancelled then s1
      else ({ s1 with hlk := { s1.hlk with bias := Assoc.write false page true s1.hlk.bias } }).inc HLK_BIAS_CNT_DEV_FLIP
    ok (s2.biasShow.kmiResolve (runIs 0x0504 0) stOk 0 [b2n cancelled] [])

/-- BIAS_FLIP (R241, R411). -/
def execBiasFlip (m : Nat) (s : State) : Host.Outcome State Fault Refusal :=
  kmiCommand 0x0504 m (fun cmd s =>
    let page := bits cmd.a0 20 0
    if !s.flag HLK_STAT_HDM_COMMITTED then .fin s stBadState 0 [] []
    else if s.hlk.flip.isSome then .fin s stBusy 0 [] []
    else if s.hlk.hdmSize ≤ 65536 * page then .fin s stBadArg 0 [] []
    else .run (s.biasStart page) true 0) s

/-- HDM_SET (R235). -/
def execHdmSet (m : Nat) (s : State) : Host.Outcome State Fault Refusal :=
  kmiCommand 0x0503 m (fun cmd s =>
    let base := bits cmd.a0 36 0
    if s.flag HLK_STAT_HDM_COMMITTED then .fin s stBadState 0 [] []
    else if base % 2 ^ 28 ≠ 0 then .fin s stBadArg 0 [] []
    else .fin (((s.set HLK_HDM_DPA_BASE_LO base).set HLK_HDM_DPA_BASE_HI (base / 2 ^ 32)).set HLK_HDM_LIMIT (bits cmd.a1 9 0)) stOk 0 [] []) s

/-- HOST_SETTINGS writes the host settings record (R229, R411). -/
def execHostSettings (m : Nat) (s : State) : Host.Outcome State Fault Refusal :=
  kmiCommand 0x0505 m (fun cmd s =>
    let pf1 := bits cmd.a1 26 16
    let vf := bits cmd.a1 42 32
    if 2048 < 32 + pf1 + 63 * vf then .fin s stBadArg 0 [] []
    else
      let b := leBytes 6 (cmd.a0 % 2 ^ 48) ++ [bits cmd.a1 5 0, 0] ++ leBytes 2 pf1 ++ leBytes 2 vf ++ [0, 0, 0, 0]
      .fin (s.settingsWrite 1 b) stOk 0 [] []) s

/-! ### Resets (Table 07-6) -/

/-- HLK_ fields that a hot reset returns to their reset values: all but the settings taken at readiness and CFG_READY (DEDUCED, log entry 19). -/
def hotFields : List Fld :=
  [HLK_CTRL_CXL_EN, HLK_CTRL_DRS_EN, HLK_STAT_LINK_UP, HLK_STAT_RATE, HLK_STAT_WIDTH, HLK_STAT_FLIT, HLK_STAT_CXL_CACHE, HLK_STAT_CXL_MEM,
   HLK_STAT_LPM, HLK_HDM_DPA_BASE_LO, HLK_HDM_DPA_BASE_HI, HLK_HDM_LIMIT, HLK_BIAS_OP_PAGE, HLK_BIAS_STAT_BUSY, HLK_BIAS_STAT_CANCELLED,
   HLK_BIAS_STAT_DEVICE, HLK_BIAS_CNT_AUTO_FLIP, HLK_BIAS_CNT_DEV_FLIP, HLK_WIN_CTRL_TMO_US, HLK_WIN_CNT_UNAVAIL, HLK_WIN_CNT_TIMEOUT,
   HLK_ERR_CNT_CORR, HLK_ERR_CNT_UNCORR, HLK_POISON_CNT_POISON_TX, HLK_POISON_CNT_POISON_RX]

/-- Fields return to their reset values. -/
def State.resetFields (s : State) (l : List Fld) : State := l.foldl (fun st f => st.set f f.reset) s

/-- An open load session ends because of a reset (Table 10-10). -/
def State.endLoadReset (s : State) : State := if s.cfg.load.isSome then s.endLoad 25 0 0 else s

/-- What fundamental and hot reset, and link-down, do alike: DMA stops, rings, windows, HDM, functions and mailboxes are reset, an open load
session ends. PME_En survives once PME_Turn_Off is done, since WAKE_N in OFF asks for it (R245; DEDUCED, log entry 41). -/
def State.linkReset (s : State) : State :=
  let s1 := (s.kmiHostReset.endLoadReset.ringsResetAll.hdmUncommit).resetFields hotFields
  { s1 with hlk := { s1.hlk with
      bme := 0, d3 := 0, vfEnable := false, pmeEn := s.hlk.pmeEn && s.hlk.pmeDone, win := [], ridNext := 0, ras := 0 } }.fnReset (fun _ => true) (List.range 7)

/-- The whole of PD26 is reset (fundamental reset). -/
def State.hostFundamental (s : State) : State :=
  let s1 := s.linkReset.resetFields [HLK_CTRL_MAX_RATE, HLK_CTRL_MAX_WIDTH, HLK_STAT_CFG_READY, HLK_STAT_MEM_ACTIVE, HLK_STAT_SETTINGS_DEF,
    HLK_READY_CFG_READY_US]
  { s1 with hlk := { s1.hlk with timeline := none, memInfo := false, drsSent := false } }

/-- PERST_N falls (R242). -/
def execFundamentalReset (s : State) : Host.Outcome State Fault Refusal :=
  let s1 := s.hostFundamental
  ok { s1 with hlk := { s1.hlk with perstLow := true } }

/-- A hot reset or link-down (R242): MAX_RATE and MAX_WIDTH return to the settings in force. -/
def execHotReset (s : State) : Host.Outcome State Fault Refusal :=
  ok ((s.linkReset.set HLK_CTRL_MAX_RATE (s.hlk.setRate % 8)).set HLK_CTRL_MAX_WIDTH (s.hlk.setRate / 8 % 8))

/-- CXL Reset: CXL.cache and CXL.mem state, decoder and bias table (R242). -/
def execCxlReset (s : State) : Host.Outcome State Fault Refusal := ok s.hdmUncommit

/-- FLR of PF0: its configuration and mailbox state; an open load session ends (R242, R397). -/
def execFlrPf0 (s : State) : Host.Outcome State Fault Refusal :=
  let s1 := s.kmiHostReset.endLoadReset
  ok ({ s1 with hlk := { s1.hlk with bme := clrBit s1.hlk.bme 0, d3 := clrBit s1.hlk.d3 0, pmeEn := false } }.fnReset (fun f => f == 0) [0, 1])

/-- FLR of PF1: its configuration, VF Enable, and the rings bound to PF1 or any VF, with GEN advanced (R242, R277). -/
def execFlrPf1 (s : State) : Host.Outcome State Fault Refusal :=
  let s1 := s.ringsFlr (fun _ => true)
  ok ({ s1 with hlk := { s1.hlk with bme := s1.hlk.bme % 2, d3 := s1.hlk.d3 % 2, vfEnable := false } }.fnReset (fun f => f != 0) [2, 3, 4, 5, 6])

/-- FLR of a VF: its configuration and the rings bound to it. -/
def execFlrVf (v : Nat) (s : State) : Host.Outcome State Fault Refusal :=
  if v = 0 ∨ 64 ≤ v then .fault .noSuchUnit
  else
    let s1 := s.ringsFlr (fun f => f == v)
    ok ({ s1 with hlk := { s1.hlk with bme := clrBit s1.hlk.bme (1 + v), d3 := clrBit s1.hlk.d3 (1 + v) } }.fnReset (fun f => f == 1 + v) [])

/-- Bus Master Enable of a function is cleared: its DMA stops (R243, R277). -/
def execBusMasterDisable (fn : Nat) (s : State) : Host.Outcome State Fault Refusal :=
  if 65 ≤ fn then .fault .noSuchUnit
  else
    let s1 := { s with hlk := { s.hlk with bme := clrBit s.hlk.bme fn } }
    ok (if fn = 0 then s1 else s1.ringsBmeClear (fn - 1))

/-- A function's D-state (R244). -/
def State.dState (s : State) (fn : Nat) (d3hot : Bool) : State :=
  { s with hlk := { s.hlk with d3 := if d3hot then setBit s.hlk.d3 fn else clrBit s.hlk.d3 fn } }

/-- PME_Turn_Off and PME_TO_Ack complete (R245): the link goes to L2. -/
def execPmeTurnOff (s : State) : Host.Outcome State Fault Refusal :=
  if s.flag HLK_STAT_LINK_UP then
    ok (({ s with hlk := { s.hlk with pmeDone := true } }).set HLK_STAT_LPM 4)
  else ok { s with hlk := { s.hlk with pmeDone := true } }

end Sys2Proof.Machine
end

