-- ==== Sys2Proof/Machine/Watchman.lean ====
section
/-! DEFINITION. The Watchman (11): scrubbing of latch banks (R358 to R367), pacing (R368, R369), margin passes and plane refresh (R370 to
R373), its own protection (R375 to R377), and its reports (R378). -/

namespace Sys2Proof.Machine

open Reg

/-- Milliseconds in units of the time counter. -/
def msUnits (ms : Nat) : Nat := 256000000 * ms

/-- Time elapsed since `t0` at time `t`, in units. -/
def elapsed (t t0 : Nat) : Nat := (t + (2 ^ 64 - t0 % 2 ^ 64)) % 2 ^ 64

/-- A Room's active bank is scrubbed: ACTIVE, its RAM map not being rebuilt (R358, R375). -/
def State.scrubAct (s : State) (r : Nat) : Bool :=
  s.roomOn r && s.roomActive r && !bitB s.wch.rebuilding (2 * r + s.actBankIx r)

/-- A Room's staged bank is scrubbed: STAGED. -/
def State.scrubStg (s : State) (r : Nat) : Bool :=
  s.roomOn r && s.stgBank r == 2 && !bitB s.wch.rebuilding (2 * r + s.stgBankIx r)

/-- Rooms with a bank to scrub. -/
def State.scrubRooms (s : State) : Nat := roomMask (fun r => s.scrubAct r || s.scrubStg r)

/-- The next frame of a Room's pass: bank role (0 active, 1 staged) and frame (R358). -/
def State.wchNext (s : State) (r : Nat) : Option (Nat × Nat) :=
  let pos := s.wch.pos.getD r 0
  if pos < 7680 then
    if s.scrubAct r then some (0, pos) else if s.scrubStg r then some (1, 0) else none
  else if s.scrubStg r then some (1, pos - 7680)
  else if s.scrubAct r then some (0, 0) else none

/-- Latch bank of a role. -/
def State.roleBank (s : State) (r role : Nat) : Nat := if role = 0 then s.actBankIx r else s.stgBankIx r

/-- DETAIL of a Watchman entry: Room [4:0], bank role [5], plane [6], frame from bit 8 (DESIGN CHOICE, log entry 9). -/
def wchDetail (r role p f : Nat) : Nat := r + 2 ^ 5 * role + 2 ^ 6 * p + 2 ^ 8 * f

/-- WCH_LAST (Table 11-4). -/
def State.wchLast (s : State) (code r role p f : Nat) : State :=
  ((((s.set WCH_LAST_FRAME f).set WCH_LAST_ROOM r).set WCH_LAST_BANK role).set WCH_LAST_PLANE p).set WCH_LAST_CODE code

/-- The WATCHMAN event with WCH_LAST (R402). -/
def State.wchEvent (s : State) : State :=
  s.event 0x0006 0x07 (s.word [WCH_LAST_FRAME, WCH_LAST_ROOM, WCH_LAST_BANK, WCH_LAST_PLANE, WCH_LAST_CODE] 0 0) 0

/-- Start a device pass over the Rooms that have a bank to scrub. -/
def State.passBegin (s : State) : State :=
  { s with wch := { s.wch with passLeft := s.scrubRooms, passStart := s.now } }

/-- A device pass ends once no Room of it is left: WCH_PASS, and PASS_LATE beyond 2 × PASS_MS (R358, R369). -/
def State.passCheck (s : State) : State :=
  let left := s.wch.passLeft &&& s.scrubRooms
  let s1 := { s with wch := { s.wch with passLeft := left } }
  if left ≠ 0 then s1
  else
    let ms := elapsed s.now s.wch.passStart / 256000000
    let late := decide (msUnits (2 * max 10 (s.get WCH_PACE_PASS_MS)) < elapsed s.now s.wch.passStart)
    let s2 := (s1.set WCH_PASS_LAST_MS (min 0xFFFF ms)).inc WCH_PASS_COUNT
    (if late then s2.set WCH_STAT_PASS_LATE 1 else s2).passBegin

/-- The Room's pass moves past a frame; after its last bank the Room has completed its pass. -/
def State.passMove (s : State) (r role f : Nat) : State :=
  let last := f = 7679 ∧ (role = 1 ∨ s.scrubStg r = false)
  if last then
    ({ s with wch := { s.wch with pos := setAt s.wch.pos r 0, passLeft := clrBit s.wch.passLeft r } }).passCheck
  else { s with wch := { s.wch with pos := setAt s.wch.pos r (7680 * role + f + 1) } }

/-- An UNREPAIRED frame: the staged bank becomes FAULT and the frame is reported as uncorrectable, or the active bank follows ACT_POL
(R363, R364). -/
def State.unrepaired (s : State) (r role p f : Nat) : State :=
  let k := s.roleBank r role
  let s1 := (s.inc WCH_CNT_ERR_UNREPAIRED).wchLast 3 r role p f
  let s2 :=
    if role = 1 then
      ({ s1 with cfg := { s1.cfg with uncorr := setBit s1.cfg.uncorr (2 * r + k) } }).seti CFG_ROOM_STAT_STG_BANK r 4
    else if s1.flag WCH_CTRL_ACT_POL then s1.seti WCH_ROOM_STAT_UNREP_ACT r 1
    else (s1.seti CFG_ROOM_STAT_ACT_BANK r 4).roomSync r
  let st := if role = 1 then 4 else if s1.flag WCH_CTRL_ACT_POL then 3 else 4
  (s2.ledger 0x0711 (wchDetail r role p f + 2 ^ 24 * st)).wchEvent

/-- What a frame operation does with its finding (Table 11-1, R367). -/
def State.frameOutcome (s : State) (r role f : Nat) (x : FrameFind) : State :=
  let k := s.roleBank r role
  let p := Assoc.get 0 (2 * r + k) s.cfg.bankSrc
  let key := bankKey r k f
  let ram := x.ramBad &&& Assoc.get 0 key s.cfg.ramMap
  let dirty := x.corrected || x.bad || ram != 0
  let s1 := { s with wch := { s.wch with notClean := Assoc.write false key dirty s.wch.notClean } }
  if x.bad || ram != 0 then
    let s2 := { s1 with cfg := { s1.cfg with bankFr := Assoc.write 0 key (x.asRead % 2 ^ 4096) s1.cfg.bankFr } }
    if x.planeBad || Assoc.get false (bankKey r p f) s.cfg.planeBad then s2.unrepaired r role p f
    else { s2 with wch := { s2.wch with reloads := s2.wch.reloads ++ [(⟨r, k, f, x.bad, ram, false⟩ : Reload)] } }
  else if x.corrected then (s1.inc WCH_CNT_FIX_CORRECTED).wchLast 1 r role p f
  else s1

/-- A frame operation may start on a bank: the bank is free, and neither a reload write nor a staging group waits for it (R48). -/
def State.frameTurn (s : State) (r role : Nat) : Bool :=
  s.bankFree r (s.roleBank r role) && !s.reloadWaits r (s.roleBank r role) && !s.stagingWaits r (s.roleBank r role)

/-- How long a frame operation holds its bank: 160 ns with a corrected write-back, 96 ns otherwise (Table 11-1). -/
def findDur (x : FrameFind) : Nat := if x.corrected && !x.bad then 40960 else 24576

/-- A Watchman frame operation (R360, R361, R368, R377): the forced frame of the Room first, spending no credit. -/
def execWatchmanFrameOp (room t : Nat) (f : FrameFind) (s : State) : Host.Outcome State Fault Refusal :=
  if 24 ≤ room then .fault .noSuchUnit
  else
    let s := s.setNow t
    if !s.flag WCH_CTRL_EN || !s.domOn 25 || s.partStopped 4 || s.get BST_STAT_STATE != 0 || !s.bankAdmits room 40960 then ok s
    else
      match s.wch.forced.filter (fun x => x.1 == room) with
      | some (_, role, fr) =>
        let s1 := { s with wch := { s.wch with forced := none } }
        if !(if role = 0 then s.scrubAct room else s.scrubStg room) then ok s1
        else if !s.frameTurn room role then ok s
        else ok ((s1.bankTake room (s.roleBank room role) (findDur f)).frameOutcome room role fr f)
      | none =>
        match s.wchNext room with
        | none => ok s
        | some (role, fr) =>
          let credit := s.geti WCH_ROOM_STAT_CREDIT room
          if credit = 0 ∨ s.frameTurn room role = false then ok s
          else
            let s0 := if s.wch.passLeft = 0 then s.passBegin else s
            let s1 := (s0.seti WCH_ROOM_STAT_CREDIT room (credit - 1)).seti WCH_ROOM_STAT_STARVED room 0
            let s2 := { s1 with wch := { s1.wch with capSince := setAt s1.wch.capSince room none } }
            ok (((s2.bankTake room (s.roleBank room role) (findDur f)).passMove room role fr).frameOutcome room role fr f)

/-- The plane read of the Room's oldest reload is done (R362). -/
def readFirst (room : Nat) : List Reload → List Reload
  | [] => []
  | x :: t => if x.room = room ∧ x.read = false then { x with read := true } :: t else x :: readFirst room t

/-- RELOAD_PLANE_READ (R362). -/
def execReloadPlaneRead (room : Nat) (s : State) : Host.Outcome State Fault Refusal :=
  if 24 ≤ room then .fault .noSuchUnit
  else ok { s with wch := { s.wch with reloads := readFirst room s.wch.reloads } }

/-- A frame with the truth-table words of the Slices in `keep` taken from `old` and everything else from `new` (data word 2*s* holds the
tables of Slice *s*, R366). -/
def keepWords (keep old new : Nat) : Nat :=
  (List.range 8).foldl (fun v sl =>
    if bitB keep sl then v - bits v (128 * sl + 63) (128 * sl) * 2 ^ (128 * sl) + bits old (128 * sl + 63) (128 * sl) * 2 ^ (128 * sl)
    else v) new

/-- RELOAD_WRITE (R362, R367): the 64 ns write of a frame, or of RAM words alone, admitted in the Room's rest window. -/
def execReloadWrite (room t : Nat) (s : State) : Host.Outcome State Fault Refusal :=
  if 24 ≤ room then .fault .noSuchUnit
  else
    let s := s.setNow t
    match s.wch.reloads.find? (fun x => x.room == room && x.read) with
    | none => ok s
    | some x =>
      if !s.bankAdmits room 16384 || !s.bankFree room x.bank then ok s
      else
        let s := s.bankTake room x.bank 16384
        let key := bankKey room x.bank x.frame
        let p := Assoc.get 0 (2 * room + x.bank) s.cfg.bankSrc
        let role := if x.bank = s.actBankIx room then 0 else 1
        let old := Assoc.get 0 key s.cfg.bankFr
        let src := s.planeFrame room p x.frame
        let map := Assoc.get 0 key s.cfg.ramMap
        let v := if x.whole then keepWords (clrMask map x.words) old src else keepWords x.words src old
        let s1 := { s with
          cfg := { s.cfg with bankFr := Assoc.write 0 key v s.cfg.bankFr }
          wch := { s.wch with reloads := s.wch.reloads.erase x } }
        let s2 := if x.words = 0 then s1
          else ((s1.addi WCH_CNT_ERR_RAM_UE 0 (popcount x.words 8)).wchLast 4 room role p x.frame).ledger 0x0712 (wchDetail room role p x.frame)
        ok (if x.whole then
          ((s2.inc WCH_CNT_FIX_RELOADED).wchLast 2 room role p x.frame).ledger 0x0710 (wchDetail room role p x.frame)
        else s2)

/-- PASS_ACTIVE: scrubbing is on and a device pass has a bank to scrub; a Room with none is never STARVED (Table 11-4, R369). -/
def State.wchShow (s : State) : State :=
  let on := s.flag WCH_CTRL_EN && s.domOn 25 && s.scrubRooms != 0
  (List.range 24).foldl (fun st r => if bitB st.scrubRooms r then st else st.seti WCH_ROOM_STAT_STARVED r 0) (s.set WCH_STAT_PASS_ACTIVE (b2n on))

/-- The time in which a credit grows by one frame: PASS_MS × 10⁶ ÷ 15,360 ns, PASS_MS below 10 acting as 10 (R368, Table 11-4). -/
def State.creditTime (s : State) : Nat := max 10 (s.get WCH_PACE_PASS_MS) * 256000000 / 15360

/-- A Room's credit grows by one frame, up to 256, in each such time (R368); a command before it is over changes nothing. -/
def execPacingCredit (room t : Nat) (s : State) : Host.Outcome State Fault Refusal :=
  if 24 ≤ room then .fault .noSuchUnit
  else
    let s := s.setNow t
    let due := s.wch.creditAt.getD room 0 + s.creditTime
    if !timeGe t due then ok s
    else
    let c := s.geti WCH_ROOM_STAT_CREDIT room
    let s0 := { s with wch := { s.wch with creditAt := setAt s.wch.creditAt room (if timeGe t (due + s.creditTime) then t else due % 2 ^ 64) } }
    let s1 := s0.seti WCH_ROOM_STAT_CREDIT room (min 256 (c + 1))
    if 255 ≤ c ∧ s1.wch.capSince.getD room none = none then
      ok { s1 with wch := { s1.wch with capSince := setAt s1.wch.capSince room (some t) } }
    else ok s1

/-- A Room with a bank to scrub whose credit has stayed at the cap for STARVE_MS starves, once per episode (R369). -/
def execWchStarved (room t : Nat) (s : State) : Host.Outcome State Fault Refusal :=
  if 24 ≤ room then .fault .noSuchUnit
  else
    let s := s.setNow t
    match s.wch.capSince.getD room none with
    | none => ok s
    | some t0 =>
      if bitB s.scrubRooms room && !s.flagi WCH_ROOM_STAT_STARVED room && s.geti WCH_ROOM_STAT_CREDIT room == 256 &&
          decide (msUnits (s.get WCH_PACE_STARVE_MS) ≤ elapsed t t0) then
        ok ((((s.set WCH_STAT_STARVED 1).seti WCH_ROOM_STAT_STARVED room 1).ledger 0x0717 (wchDetail room 0 0 0)).wchEvent)
      else ok s

/-! ### Margin passes -/

/-- The next group of a Room's margin pass from `g` on: groups 0 to 959 read plane A, 960 to 1,919 plane B; planes that are not VALID are
not read (R370). -/
def State.marginNext (s : State) (r g : Nat) : Nat :=
  if g < 960 then
    if s.plane r 0 = 3 then g else if s.plane r 1 = 3 then 960 else 1920
  else if g < 1920 then (if s.plane r 1 = 3 then g else 1920) else 1920

/-- A margin pass begins. -/
def State.marginBegin (s : State) (go : Bool) : State :=
  ({ s with wch := { s.wch with marginGo := go, marginGrp := List.replicate 24 0 } }).set WCH_MARGIN_BUSY 1

/-- A periodic pass begins: the schedule counts from its start. -/
def State.marginPeriodic (s : State) : State :=
  ({ s with wch := { s.wch with marginLast := some s.now, marginRan := true, marginDue := false } }).marginBegin false

/-- The pass ends when every Room has read its VALID planes; a periodic pass that fell due meanwhile begins. -/
def State.marginCheck (s : State) : State :=
  if (List.range 24).all (fun r => s.marginNext r (s.wch.marginGrp.getD r 0) == 1920) then
    let s1 := ({ s with cfg := { s.cfg with refreshing := [] } }).set WCH_MARGIN_BUSY 0
    if s1.wch.marginDue then s1.marginPeriodic else s1
  else s

/-- A periodic margin pass falls due: 60 s after Opening, then every HOURS (R370). -/
def execMarginPassPeriodic (t : Nat) (s : State) : Host.Outcome State Fault Refusal :=
  let s := s.setNow t
  let hours := s.get WCH_MARGIN_HOURS
  match s.wch.marginLast with
  | none => ok s
  | some t0 =>
    let due := if s.wch.marginRan then msUnits (3600000 * hours) else msUnits 60000
    if hours = 0 ∨ elapsed t t0 < due then ok s
    else if s.flag WCH_MARGIN_BUSY then
      ok (if s.wch.marginGo then { s with wch := { s.wch with marginDue := true } } else s)
    else ok s.marginPeriodic.marginCheck

/-- A write of 1 to WCH_MARGIN.GO: ignored while a pass runs (R370). -/
def execMarginPassGo (s : State) : Host.Outcome State Fault Refusal :=
  if s.flag WCH_MARGIN_BUSY then ok s else ok ((s.marginBegin true).marginCheck)

/-- The bank last filled from plane `p` of a Room that is ACTIVE or STAGED (R372). -/
def State.bankFrom (s : State) (r p : Nat) : Option Nat :=
  (List.range 2).find? (fun k =>
    Assoc.get 0 (2 * r + k) s.cfg.bankSrc == p && (if k = s.actBankIx r then s.roomActive r else s.stgBank r == 2))

/-- One frame of a margin pass is classed, and refreshed where R372 allows; a PLANE_UE frame that stays bad makes an inactive plane INVALID
and marks an active one (R371 to R373). -/
def State.marginFrame (s : State) (r p f : Nat) (x : MarginFind) : State :=
  if x.cls = 0 then s
  else
    let role := match s.bankFrom r p with
      | some k => if k = s.actBankIx r then 0 else 1
      | none => 1
    let s1 := if x.cls = 1 then ((s.inc WCH_CNT_MARGIN_WARN).wchLast 5 r role p f).ledger 0x0713 (wchDetail r role p f)
      else (((s.inc WCH_CNT_ERR_PLANE_UE).wchLast 6 r role p f).ledger 0x0714 (wchDetail r role p f)).wchEvent
    let src := (s.bankFrom r p).filter (fun k =>
      s.flag WCH_CTRL_REFRESH_EN && x.bankOk && Assoc.get 0 (bankKey r k f) s.cfg.ramMap == 0)
    let s2 := match src with
      | none => s1
      | some k =>
        let s1 := { s1 with cfg := { s1.cfg with refreshing := Assoc.write 0 (2 * r + p) (f + 1) s1.cfg.refreshing } }
        (((s1.programFrame r p f (Assoc.get 0 (bankKey r k f) s1.cfg.bankFr) x.cntUe).inc WCH_CNT_MARGIN_REFRESHED).wchLast 7 r role p f).ledger 0x0715
          (wchDetail r role p f + 2 ^ 24 * b2n (!x.cured))
    if x.cls = 2 && !(src.isSome && x.cured) then
      let s3 := { s2 with cfg := { s2.cfg with planeBad := Assoc.write false (bankKey r p f) true s2.cfg.planeBad } }
      if p = s3.actPlane r then s3.seti (if p = 0 then WCH_ROOM_STAT_PLANE_BAD_A else WCH_ROOM_STAT_PLANE_BAD_B) r 1
      else s3.setPlane r p 4
    else s2

/-- A group of 8 frames finishes its margin reads (R370); a Room pauses while its planes are loaded or staged. The index of a refreshed frame stays
recorded until the Room's next group, or the end of the pass, clears it (R372; DEDUCED, log entry 42). -/
def execMarginReadGroup (room : Nat) (finds : List MarginFind) (s : State) : Host.Outcome State Fault Refusal :=
  if 24 ≤ room then .fault .noSuchUnit
  else
    let g := s.marginNext room (s.wch.marginGrp.getD room 0)
    if !s.flag WCH_MARGIN_BUSY || g == 1920 || s.sessionRooms.contains room || s.stgBank room == 1 then ok s
    else
      let p := g / 960
      let s0 := { s with cfg := { s.cfg with refreshing := Assoc.write 0 (2 * room) 0 (Assoc.write 0 (2 * room + 1) 0 s.cfg.refreshing) } }
      let s1 := (List.range 8).foldl (fun st j => st.marginFrame room p (8 * (g % 960) + j) (finds.getD j ⟨0, true, true, false⟩)) s0
      ok ({ s1 with wch := { s1.wch with marginGrp := setAt s1.wch.marginGrp room (g + 1) } }).marginCheck

/-! ### Protection of the Watchman -/

/-- Every 1 ms the three copies of each WCH_ register are rewritten; FIXES counts disagreeing copies, HEARTBEAT increments (R375). -/
def execWatchmanTmrScrub (fixes : Nat) (s : State) : Host.Outcome State Fault Refusal :=
  ok ((s.addi WCH_TMR_FIXES 0 fixes).set WCH_STAT_HEARTBEAT (s.get WCH_STAT_HEARTBEAT + 1))

/-- An uncorrectable RAM map of a latch bank is rebuilt from its source plane; the bank is not scrubbed until that ends (R375). -/
def execRamMapRebuild (room bank : Nat) (ended : Bool) (s : State) : Host.Outcome State Fault Refusal :=
  if 24 ≤ room ∨ 2 ≤ bank then .fault .noSuchUnit
  else if ended then
    if !bitB s.wch.rebuilding (2 * room + bank) then ok s
    else
      let p := Assoc.get 0 (2 * room + bank) s.cfg.bankSrc
      let fresh := (s.cfg.planeFr.filter (fun e => decide (bankKey room p 12 ≤ e.1) && decide (e.1 < bankKey room p 3212))).foldl
        (fun m e => Assoc.write 0 (bankKey room bank (e.1 - bankKey room p 0)) (ramMapOf (e.1 - bankKey room p 0) e.2) m)
        (Assoc.clearRun (bankKey room bank 0) 8192 s.cfg.ramMap)
      let left := clrBit s.wch.rebuilding (2 * room + bank)
      ok (({ s with cfg := { s.cfg with ramMap := fresh }, wch := { s.wch with rebuilding := left } }).set WCH_STAT_MAP_REBUILD (b2n (left != 0)))
  else ok (({ s with wch := { s.wch with rebuilding := setBit s.wch.rebuilding (2 * room + bank) } }).set WCH_STAT_MAP_REBUILD 1)

/-- SOFT_RST: every Room's pass restarts from frame 0 of its active bank (R376). -/
def State.softRst (s : State) : State := ({ s with wch := { s.wch with pos := List.replicate 24 0 } }).passBegin

/-- Firmware reads HEARTBEAT; unchanged for 5 ms while EN is 1, it records WCH_STALL and writes SOFT_RST (R376). -/
def execHeartbeatCheck (t : Nat) (s : State) : Host.Outcome State Fault Refusal :=
  let s := s.setNow t
  let hb := s.get WCH_STAT_HEARTBEAT
  if !s.flag KMI_CTRL_FW_READY || !s.domOn 25 || s.partStopped 8 || s.get BST_STAT_STATE != 0 then ok s
  else if hb ≠ s.wch.hbSeen ∨ s.flag WCH_CTRL_EN = false then ok { s with wch := { s.wch with hbSeen := hb, hbAt := t } }
  else if msUnits 5 ≤ elapsed t s.wch.hbAt then
    ok ((({ s with wch := { s.wch with hbAt := t } }).ledger 0x0718 hb).softRst)
  else ok s

/-- WATCHMAN_SOFT_RST (R376). -/
def execWatchmanSoftRst (s : State) : Host.Outcome State Fault Refusal := ok s.softRst

/-- WCH_SAMPLE.FORCE: the Watchman operates on the frame that WCH_SAMPLE names next (R377). -/
def State.sampleForce (s : State) : State :=
  if s.get WCH_SAMPLE_ROOM < 24 ∧ s.get WCH_SAMPLE_FRAME < 7680 then
    { s with wch := { s.wch with forced := some (s.get WCH_SAMPLE_ROOM, s.get WCH_SAMPLE_BANK, s.get WCH_SAMPLE_FRAME) } }
  else s

/-- WCH_SAMPLE.GO: the second checker passes or fails the frame; a failure where the Watchman last found CLEAN is recorded and the frame is
forced. It runs as a 96 ns rest-window client of the bank (R377, R48). -/
def execWatchmanSample (pass : Bool) (s : State) : Host.Outcome State Fault Refusal :=
  let r := s.get WCH_SAMPLE_ROOM
  let f := s.get WCH_SAMPLE_FRAME
  let role := s.get WCH_SAMPLE_BANK
  if 24 ≤ r ∨ 7680 ≤ f then ok s
  else if !s.bankAdmits r 24576 || !s.bankFree r (s.roleBank r role) || s.reloadWaits r (s.roleBank r role) ||
      s.stagingWaits r (s.roleBank r role) then ok s
  else
    let k := s.roleBank r role
    let s := s.bankTake r k 24576
    let s1 := (s.set WCH_SAMPLE_DONE 1).set WCH_SAMPLE_PASS (b2n pass)
    if !pass && !Assoc.get false (bankKey r k f) s.wch.notClean then
      ok ((s1.ledger 0x0719 (wchDetail r role (Assoc.get 0 (2 * r + k) s.cfg.bankSrc) f)).sampleForce)
    else ok s1

/-- WATCHMAN_FORCE (R377). -/
def execWatchmanForce (s : State) : Host.Outcome State Fault Refusal := ok s.sampleForce

end Sys2Proof.Machine
end

