-- ==== Sys2Proof/Machine/Power.lean ====
section
/-! DEFINITION. The power controller (15): the caps on the chosen state (R477), the decision (R478 to R480), IDLE (R476), the vote and its
undoing (R481 to R484), and the power commands (R415, R495). -/

namespace Sys2Proof.Machine

open Reg

/-! ### Caps (Table 15-3) -/

/-- Every function of the endpoint is in D3hot (R245). -/
def State.allD3 (s : State) : Bool := (List.range (if s.hlk.vfEnable then 65 else 2)).all (fun f => bitB s.hlk.d3 f)

/-- A changeover slot is PENDING or CHECKED. -/
def State.coBusy (s : State) : Bool := (List.range 4).any (fun j => s.geti CFG_CO_STAT_STATE j == 1 || s.geti CFG_CO_STAT_STATE j == 2)

/-- The unit is armed for a Sync Chain proposal, or one is open. -/
def State.chainArmed (s : State) : Bool := s.flag SYC_MC_ARM_VALID || s.syc.mc.isOpen

/-- What holds cap 7 but for the margin pass: load session, a bank STAGING, a changeover slot, a Sync Chain proposal. -/
def State.loaderBusy (s : State) : Bool :=
  s.cfg.load.isSome || (List.range 24).any (fun r => s.stgBank r == 1 && !bitB (s.get PWR_ROOM_OFF_ROOMS) r) || s.coBusy || s.chainArmed

/-- Cap 9 (Table 18-8, R570): D1 DEEP SLEEP, D2 IDLE, D3 RUN; IDLE while a BIST run on command runs. -/
def State.cap9 (s : State) : Option Nat :=
  let d := match s.get TGT_DBG_LEVEL with
    | 0 => none
    | 1 => some 3
    | 2 => some 1
    | _ => some 0
  if s.bist.onCommand && s.get BST_STAT_STATE != 0 then some (min 1 (d.getD 4)) else d

/-- Cap 8 (R538): in MIRROR or STANDBY, SLEEP on the Lead, and on the Companion no deeper than the Lead's state. -/
def State.cap8 (s : State) : Option Nat :=
  if s.get TWN_STAT_MODE = 0 then none
  else if s.flag TWN_STAT_ROLE then some (min 2 (s.get TWN_PART_PWR_STATE)) else some 2

/-- DEEP SLEEP is allowed: every function in D3hot, the link in L1.2 on a pin that carries CLKREQ_N (R245, R246). -/
def State.deepOk (s : State) : Bool := s.allD3 && s.get HLK_STAT_LPM == 3 && s.clkreq

/-- OFF is allowed: the PME handshake is done and PERST_N is low; every function is then in D3cold and the link in L3 (R245, Table 07-7). -/
def State.offOk (s : State) : Bool := s.hlk.pmeDone && s.hlk.perstLow

/-- A cap of Table 15-3: the deepest state it allows while it is active. -/
def State.capOf (s : State) (c : Nat) : Option Nat :=
  let act (b : Bool) (d : Nat) := if b then some d else none
  match c with
  | 0 => some (min 4 (s.get PWR_CTRL_LIMIT))
  | 1 => act (s.flag HLK_STAT_HDM_COMMITTED && s.flag HLK_STAT_CXL_MEM) 2
  | 2 => act (!s.deepOk && !s.offOk) 2
  | 3 => act (!s.offOk) 3
  | 4 => act ((List.range 24).any (fun r => bitB (s.get PWR_RETAIN_ROOMS) r && s.roomActive r && !bitB (s.get PWR_ROOM_OFF_ROOMS) r)) 2
  | 5 => act (s.get PWR_WAKE_SRC_GPIO != 0 || (List.range 624).any (fun n => decide (0x40 ≤ s.geti GPIO_PIN_FUNC n) && decide (s.geti GPIO_PIN_FUNC n < 0x60))) 2
  | 6 => act (s.flag SYC_CTRL_EN) 3
  | 7 => act (s.loaderBusy || s.flag WCH_MARGIN_BUSY) 1
  | 8 => s.cap8
  | 9 => s.cap9
  | 10 => act s.pwr.backoff.isSome 1
  | 11 => act (!s.flag PWR_CTRL_AUTO_EN) 0
  | _ => none

/-- The active caps as a mask (CAP_SRC). -/
def State.capMask (s : State) : Nat := maskOf ((List.range 12).filter (fun c => (s.capOf c).isSome))

/-- The deepest state now allowed (CAP). -/
def State.capNow (s : State) : Nat := (List.range 12).foldl (fun v c => match s.capOf c with
  | some d => min v d
  | none => v) 4

/-- A scheduled event that has passed is cleared (Table 15-8). -/
def State.schedPass (s : State) : State :=
  if s.flag PWR_SCHED_CTRL_VALID && timeGe s.now (s.get PWR_SCHED_LO_AT_LO + 2 ^ 32 * s.get PWR_SCHED_HI_AT_HI) then s.set PWR_SCHED_CTRL_VALID 0 else s

/-- PWR_STATE and PWR_SCHED_CTRL as they read now. -/
def State.pwrShow (s : State) : State := ((s.set PWR_STATE_CAP s.capNow).set PWR_STATE_CAP_SRC s.capMask).schedPass

/-! ### The decision (R478, R479) -/

/-- Time from now to `a`, 0 where it has passed. -/
def State.ahead (s : State) (a : Nat) : Nat := if timeGe a s.now then elapsed a s.now else 0

/-- The predicted boundary, where TCK_PRED gives one; a STOPPED line has none (R478). -/
def State.predicted (s : State) : Option Nat :=
  if s.flag TCK_CTRL_EN && s.get TCK_STATUS_STATE != 4 && s.get TCK_PRED_PERIOD_NS != 0x3FFFFFFF then
    some ((s.get TCK_STAMP_LO + 2 ^ 32 * s.get TCK_STAMP_HI + nsUnits (s.get TCK_PRED_PERIOD_NS)) % 2 ^ 64)
  else none

/-- The time of the next known event (R478). -/
def State.nextEvent (s : State) : Option Nat :=
  let sched := if s.flag PWR_SCHED_CTRL_VALID then some (s.get PWR_SCHED_LO_AT_LO + 2 ^ 32 * s.get PWR_SCHED_HI_AT_HI) else none
  match s.predicted, sched with
  | some a, some b => if s.ahead a ≤ s.ahead b then some a else some b
  | some a, none => some a
  | none, b => b

/-- Entry cost plus wake latency of a state, maxima of Table 15-1, in ns. -/
def stateCost (k : Nat) : Nat := match k with
  | 2 => 1600000
  | 3 => 10000000
  | 4 => 26000000
  | _ => 240

/-- Wake latency of a state (Table 15-1), in ns. -/
def wakeCost (k : Nat) : Nat := match k with
  | 2 => 1200000
  | 3 => 8000000
  | 4 => 25000000
  | _ => 200

/-- idle_ok (R479): quiet long enough, every taking-part Room done, no open transfer, no waiting inbound word, no open window read. -/
def State.idleOk (s : State) (portsIdle : Bool) : Bool :=
  decide (nsUnits (s.get PWR_TMR_IDLE_NS) ≤ elapsed s.now s.pwr.idleSince) && s.allDone && portsIdle &&
  s.fab.portQ.isEmpty && !(s.rings.any (fun e => e.2.cur.isSome)) && !(s.hlk.win.any (·.read))

/-- SLEEP quiet is long enough. -/
def State.sleepQuiet (s : State) : Bool := decide (msUnits (s.get PWR_TMR_SLEEP_MS) ≤ elapsed s.now s.pwr.sleepSince)

/-- The state a decision chooses (R479). -/
def State.pwrChoice (s : State) (portsIdle : Bool) : Nat :=
  let cap := s.capNow
  let idle (more : Bool) := if decide (1 ≤ cap) && s.idleOk portsIdle && more then 1 else 0
  match s.nextEvent with
  | none =>
    let watch := (s.flag PWR_NP_CTRL_EN || (s.get TCK_SRC_ACTIVE == 1 && bitB (s.get PWR_WAKE_SRC) 2)) &&
      decide (msUnits (s.get PWR_NP_WAIT_WAIT_MS) ≤ elapsed s.now s.pwr.evSince)
    if watch && decide (3 ≤ cap) && s.sleepQuiet && (s.deepOk || (s.flag PWR_NP_CTRL_DEPTH && decide (4 ≤ cap))) then
      (if s.flag PWR_NP_CTRL_DEPTH && decide (4 ≤ cap) then 4 else 3)
    else if 2 ≤ cap ∧ s.sleepQuiet = true then 2
    else idle true
  | some a =>
    let t := s.ahead a
    match ([4, 3, 2].filter (fun k => decide (k ≤ cap) && (k != 3 || s.deepOk))).find? (fun k => decide (nsUnits (stateCost k + 1000 * s.get PWR_MARGIN_MARGIN_US) ≤ t) && s.sleepQuiet) with
    | some k => k
    | none => idle (decide (nsUnits (240 + s.get PWR_MARGIN_MARGIN_NS) ≤ t))

/-- The wake scheduled for a chosen state (R480). -/
def State.schedFor (s : State) (k : Nat) : Option Nat :=
  s.nextEvent.map (fun a =>
    let lead := if k = 1 then nsUnits (200 + s.get PWR_MARGIN_MARGIN_NS) else nsUnits (wakeCost k + 1000 * s.get PWR_MARGIN_MARGIN_US)
    (a + (2 ^ 64 - lead % 2 ^ 64)) % 2 ^ 64)

/-! ### IDLE -/

/-- A wake from IDLE: the Room trees restart and take the commits they owe (R52, R476). -/
def State.idleExit (s : State) : State :=
  if s.get PWR_STATE_CUR = 1 then
    (({ s with pwr := { s.pwr with schedWake := none } }.set PWR_STATE_CUR 0).restartTrees).handReleaseAll
  else s

/-! ### The vote (R481 to R484) -/

/-- A command mailbox is POSTED, or RUNNING outside a waiting phase; for DEEP SLEEP and OFF, POSTED or RUNNING at all. -/
def State.kmiBusy (s : State) (target : Nat) : Bool :=
  (List.range 15).any (fun m => s.geti KMI_MBX_STATE m == 2 ||
    (s.geti KMI_MBX_STATE m == 3 && (decide (3 ≤ target) || s.kmi.running.any (fun r => r.mbx == m && !r.waiting && !r.abandoned))))

/-- The condition of a participant that the model holds (Table 15-4); what only the hardware sees arrives with the command. -/
def State.refuses (s : State) (target p : Nat) : Bool :=
  match p with
  | 1 => s.lasOn.any (fun j => (s.las j).cur.isSome || !(s.las j).buf.isEmpty)
  | 2 => s.twn.ckpt.isSome || s.flag TWN_STAT_CATCHUP
  | 3 => s.rings.any (fun e => e.2.cur.isSome)
  | 4 => !s.wch.reloads.isEmpty
  | 5 => s.loaderBusy || s.flag WCH_MARGIN_BUSY
  | 6 => !s.pIdle
  | 7 => decide (s.cap9.getD 4 < target)
  | 8 => s.kmiBusy target || s.flag TGT_DBG_HALTED
  | 9 => s.io.busy != 0
  | _ => false

/-- A participant restarts (R484, R489): Line Assemblers are enabled again, the DRAM leaves self-refresh. -/
def State.partRestart (s : State) (p : Nat) : State :=
  match p with
  | 1 => (bitList (s.pwr.wasActive / 2 ^ 24) 16).foldl (fun st j =>
      if st.lasEnOk j then
        ((((st.setLas j { LasSt.init with recOk := false }).seti LAS_CTRL_EN j 1).seti LAS_STAT_ACTIVE j 1).seti LAS_STAT_ALIGNED j
          (b2n (st.lasLanes j == 1 && (st.lasBond j).all (fun k => st.flagi ING_LANE_STAT_WORD_LOCK k)))).targetCheck j
      else st) s
  | 10 => s.srExit
  | _ => s

/-- Participants `n` down to 1 restart, each before the next. -/
def State.partsRestart (s : State) : Nat → State
  | 0 => s
  | n + 1 => (s.partRestart (n + 1)).partsRestart n

/-- A participant stops (Table 15-4). -/
def State.partStop (s : State) (target p : Nat) : State :=
  match p with
  | 1 =>
    let on := s.lasOn
    let s1 := { s with pwr := { s.pwr with wasActive := s.pwr.wasActive % 2 ^ 24 + 2 ^ 24 * maskOf on } }
    on.foldl (fun st j => st.lasDisable j) s1
  | 10 => s.srEnter
  | 11 => if target = 3 then { s with pwr := { s.pwr with padHold := some ((List.range 624).map s.pinDrive) } } else s
  | _ => s

/-- A back-off begins (R484). -/
def State.backoffFor (s : State) (us : Nat) : State :=
  { s with pwr := { s.pwr with vote := none, schedWake := none, backoff := some ((s.now + nsUnits (1000 * us)) % 2 ^ 64) } }

/-- A refusal at STOP, or a late one by the power controller: the stopped participants restart, the vote is undone (R482, R484). -/
def State.voteUndo (s : State) (p : Nat) : State :=
  match s.pwr.vote with
  | none => s
  | some (target, n) =>
    let s1 := { s with pwr := { s.pwr with vote := none } }.partsRestart n
    let s2 := ((s1.inc PWR_VOTE_CNT_UNDONE).set PWR_VOTE_UNDO_CNT (min 6 (s1.get PWR_VOTE_UNDO_CNT + 1))).set PWR_VOTE_LAST_REFUSER p
    let s3 := { s2 with pwr := { s2.pwr with padHold := none } }
    (s3.backoffFor (max 1 (s3.get PWR_VOTE_BACKOFF_US) * 2 ^ s3.get PWR_VOTE_UNDO_CNT)).ledger 0x0901 (p + 2 ^ 8 * target)

/-- PREPARE (R481, R484): a refusal ends the vote with nothing stopped. `busy3` is what only the ports show of participant 3. -/
def State.votePrepare (s : State) (target : Nat) (busy3 : Bool) : State :=
  match (List.range 12).find? (fun p => s.refuses target p || (p == 3 && busy3)) with
  | some p => ((s.inc PWR_VOTE_CNT_REFUSED).set PWR_VOTE_LAST_REFUSER p).backoffFor (max 1 (s.get PWR_VOTE_BACKOFF_US))
  | none => { s with pwr := { s.pwr with vote := some (target, 0), voteAt := s.now, schedWake := s.schedFor target } }

/-! ### Meanings -/

/-- A power-state decision (R477 to R479): a rest-window client while ticks run, taken only in RUN with no vote under way. -/
def execPowerDecision (t : Nat) (portsIdle : Bool) (s : State) : Host.Outcome State Fault Refusal :=
  let s := (s.setNow t).pwrShow
  let mayDecide := if s.flag TCK_CTRL_EN && s.get TCK_STATUS_STATE != 4 && s.tick.tickOpen then s.tick.rest else true
  if !s.flag PWR_CTRL_AUTO_EN || s.get PWR_STATE_CUR != 0 || s.pwr.vote.isSome || s.pwr.entering.isSome || s.pwr.waking.isSome || !mayDecide then ok s
  else match s.pwrChoice portsIdle with
    | 0 => ok s
    | 1 => ok ({ s with pwr := { s.pwr with schedWake := s.schedFor 1 } }.set PWR_STATE_CUR 1)
    | k => ok (s.votePrepare k (!portsIdle))

/-- STOP to the next participant (R481); `busy` is a condition of Table 15-4 that only the hardware sees. -/
def execVoteStop (t : Nat) (busy : Bool) (s : State) : Host.Outcome State Fault Refusal :=
  let s := s.setNow t
  match s.pwr.vote with
  | none => ok s
  | some (target, n) =>
    if 11 ≤ n then ok s
    else if s.refuses target (n + 1) || busy then ok (s.voteUndo (n + 1))
    else
      let s1 := s.partStop target (n + 1)
      ok { s1 with pwr := { s1.pwr with vote := some (target, n + 1) } }

/-- The back-off ends (R484). -/
def execVoteBackoffEnd (t : Nat) (s : State) : Host.Outcome State Fault Refusal :=
  let s := s.setNow t
  match s.pwr.backoff with
  | none => ok s
  | some b => ok (if timeGe t b then { s with pwr := { s.pwr with backoff := none } }.pwrShow else s)

/-- PWR_LIMIT (R415): values 5 to 7 act as 4. -/
def execPwrLimit (m : Nat) (s : State) : Host.Outcome State Fault Refusal :=
  kmiCommand 0x0903 m (fun cmd s => .fin (s.set PWR_CTRL_LIMIT (bits cmd.a0 2 0)).pwrShow stOk 0 [] []) s

/-- Rooms named by a changeover slot that is not FREE. -/
def State.slotRooms (s : State) : Nat :=
  (List.range 4).foldl (fun v j => if s.geti CFG_CO_STAT_STATE j = 0 then v else v ||| s.geti CFG_CO_MASK_ROOMS j) 0

/-- PWR_ROOMS whose Rooms have come up complete, and firmware writes the Itinerary record (R495, R514). -/
def State.roomsDone (s : State) : State :=
  ((s.kmi.running.filter (runOp 0x0904)).map (·.key)).foldl (fun st k =>
    if (bitList k 24).any (fun r => bitB st.cfg.filling r) then st
    else (st.itinWrite false).kmiResolve (runIs 0x0904 k) stOk 0 [] []) s

/-- PWR_ROOMS (R495): off at once, with bit 2 of the select words programmed; on, complete when each Room's active bank is ACTIVE. -/
def execPwrRooms (m : Nat) (s : State) : Host.Outcome State Fault Refusal :=
  match kmiCommand 0x0904 m (fun cmd s =>
    let mask := bits cmd.a0 23 0
    if decide (2 ^ 24 ≤ cmd.a0) || decide (2 ≤ cmd.a1) then .fin s stBadArg 0 [] []
    else if (bitList mask 24).any (fun r => s.sessionRooms.contains r || bitB s.slotRooms r) then .fin s stBadState 0 [] []
    else
      let on := cmd.a1 == 1
      let off := s.get PWR_ROOM_OFF_ROOMS
      let s1 := s.set PWR_ROOM_OFF_ROOMS (if on then clrMask off mask else off ||| mask)
      let s2 := (bitList mask 24).foldl (fun st r => st.setSel r (st.sel r % 4 + 4 * b2n (!on))) s1
      if on then .run ((bitList mask 24).foldl (fun st r => if st.roomOn r then st else st.roomPower r) s2) true mask
      else .fin (((bitList mask 24).foldl (fun st r => if st.roomOn r then st.roomOff r else st) s2).itinWrite false) stOk 0 [] []) s with
  | .next s1 => ok s1.roomsDone
  | other => other

/-- C0 of PWR_WAKE_REPORT. -/
def State.wakeC0 (s : State) : Nat := s.pwr.repState + 2 ^ 3 * s.pwr.repFailed + 2 ^ 16 * s.get PWR_WAKE_LAT_LAT_US

/-- PWR_WAKE_REPORT (R415, R487, R490). -/
def execPwrWakeReport (m : Nat) (s : State) : Host.Outcome State Fault Refusal :=
  kmiCommand 0x0905 m (fun _ s => .fin s stOk 0 [s.wakeC0, s.pwr.repCold, s.pwr.repTime] []) s

end Sys2Proof.Machine
end

