-- ==== Sys2Proof/Machine/Lifecycle.lean ====
section
/-! DEFINITION. The Tollgate (18): life-cycle decode (R543, R544), transitions and scrapping (R541, R546 to R548, R561), tokens and debug
levels (R549 to R558), key provisioning (R553), flip-flop read-back (R559) and the JTAG port (R560). -/

namespace Sys2Proof.Machine

open Reg

/-! ### Life-cycle state -/

/-- A transition field of OTP row 2: 0 EMPTY, 1 PARTIAL, 3 COMPLETE (R543). -/
def State.lcField (s : State) (n : Nat) : Nat :=
  let b := sliceBytes (s.otpRow 2) (16 * (n - 1)) 16
  if b.all (· == 0) then 0 else if b.all (· == 255) then 3 else 1

/-- TGT_SLOTS, from the slot rows and the state (Table 18-12). -/
def State.slotShow (s : State) : State :=
  let valid := maskOf ((List.range 16).filter (fun k => rowValid (s.otpRow (16 + k))))
  let usable := maskOf ((List.range 16).filter (fun k => s.slotUsable k 1 || s.slotUsable k 2))
  (s.set TGT_SLOTS_VALID valid).set TGT_SLOTS_USABLE usable

/-- The decode of the life-cycle state (R544). -/
def State.lcDecode (s : State) : State :=
  let f := fun n => s.lcField n
  let fields := (List.range 7).foldl (fun v i => v + f (i + 1) * 4 ^ i) 0
  let s0 := (s.set TGT_FIELDS_F1_F7 fields).set TGT_POLICY (leField (s.otpRow 3) 0 4)
  let put (st inc bad wipe : Nat) :=
    (((s0.set TGT_LC_STATE st).set TGT_LC_INCOMPLETE inc).set TGT_LC_LC_BAD bad).set TGT_LC_WIPE_PENDING wipe
  if f 5 ≠ 0 then (put 5 0 0 (b2n (f 7 != 3))).slotShow
  else
    let k := ((List.range 5).filter (fun k => (List.range k).all (fun i => f (i + 1) == 3))).foldl max 0
    if (List.range 5).any (fun n => decide (k + 2 ≤ n) && f n != 0) then ((put 5 0 1 0).slotShow).ledger 0x0A02 0
    else
      let inc := if k = 4 then b2n (f 6 != 3) else b2n (f (k + 1) == 1)
      (put k inc 0 0).slotShow

/-- A halted Innkeeper runs on; its watchdog was paused meanwhile (R558). -/
def State.unhalt (s : State) : State :=
  if s.flag TGT_DBG_HALTED then
    { s with kmi := { s.kmi with wdogAt := (s.kmi.wdogAt + elapsed s.now s.lc.haltAt) % 2 ^ 64 } }.set TGT_DBG_HALTED 0
  else s

/-- Any open debug session closes to D0 and the challenge is discarded (R546, R556). -/
def State.debugClose (s : State) : State :=
  let s1 := (((s.unhalt.set TGT_DBG_LEVEL 0).set TGT_DBG_AUTH 0).set TGT_DBG_CHAL_VALID 0).set TGT_DBG_ITIN_ITIN_ID 0
  { s1 with lc := { s1.lc with chal := none } }

/-! ### Effects of transitions -/

/-- Every latch bank of every Room becomes EMPTY, and Room domains that are off are switched on (R547 step 1). -/
def State.emptyRooms (s : State) : State :=
  (List.range 24).foldl (fun st r =>
    let s1 := (st.set PWR_DOM_ON (setBit (st.get PWR_DOM_ON) r)).emptyAct r
    (((s1.emptyStg r).seti CFG_ROOM_STAT_PREV r 0)).roomSync r)
    ({ s with cfg := { s.cfg with filling := 0, hand := [], selDue := 0 } }.set PWR_ROOM_OFF_ROOMS 0)

/-- Every frame of both planes is programmed with zero data; the planes become EMPTY and the select words 0 (R547 step 2). -/
def State.zeroPlanes (s : State) : State :=
  let s1 := (List.range 24).foldl (fun st r =>
    (List.range 2).foldl (fun st p => ((List.range 7680).foldl (fun st f => st.programFrame r p f 0 false) st).setPlane r p 0) st) s
  let s2 := (List.range 24).foldl (fun st r => (st.seti CFG_ROOM_STAT_ACT_PLANE r 0).seti CFG_ROOM_STAT_SEL_PENDING r 0) s1
  ({ s2 with cfg := { s2.cfg with sel := [], refreshing := [] } }).updItin

/-- Both copies of the Itinerary record are erased (R547 step 3). -/
def State.eraseItin (s : State) : State := (s.pErase 0x404000 0x4000).pErase 0x1404000 0x4000

/-- The effects of DEPLOYED to RETURNED (R547). -/
def State.returnEffects (s : State) : State := ((s.emptyRooms).zeroPlanes).eraseItin

/-- The wipe of SCRAP (R561 steps 1 to 4). -/
def State.scrapWipe (s : State) : State :=
  let s1 := (s.emptyRooms).zeroPlanes
  let s2 := (s1.pErase 0x400000 0xC00000).pErase 0x1400000 0xC00000
  let rows := [1] ++ (List.range 6).map (· + 6) ++ (List.range 48).map (· + 16)
  let s3 := rows.foldl (fun st r => st.otpSet r (List.replicate 128 255)) s2
  let s4 := if s3.flag DMC_STAT_TRAINED then { s3 with dram := [], dramBad := [] } else s3
  let s5 := { s4 with
    pwr := { s4.pwr with sig := List.replicate 8 0 }
    ldg := { s4.ldg with buf := [] }
    kmi := { s4.kmi with
      events := []
      mbx := s4.kmi.mbx.map (fun (b : Mbx) => { b with
        cmd := b.cmd.map (fun (c : KmiCmd) => { c with dataIn := c.dataIn.map (fun _ => 0) })
        compl := b.compl.map (fun (c : KmiCompl) => { c with dataOut := c.dataOut.map (fun _ => 0) }) }) } }
  ((s5.set PWR_LUG_STAT_SAVED 0).set LDG_STAT_HELD 0).set LDG_TAIL_SEQ (s5.get LDG_HEAD_SEQ)

/-- The data that programs field F`n` of row 2. -/
def lcFieldData (n : Nat) : List Nat :=
  List.replicate (16 * (n - 1)) 0 ++ List.replicate 16 255 ++ List.replicate (128 - 16 * n) 0

/-- A field is programmed in full at once: what the boot ROM does at a start (R548). -/
def State.lcProgram (s : State) (n : Nat) : State := (s.otpSet 2 (lcFieldData n)).lcDecode

/-- A start completes an interrupted transition or wipe (R548). -/
def State.lcComplete (s : State) : State :=
  if s.flag TGT_LC_WIPE_PENDING then ((s.lcProgram 5).scrapWipe).lcProgram 7
  else if s.flag TGT_LC_INCOMPLETE then
    let k := s.get TGT_LC_STATE
    let to_ := if k = 4 then 4 else k + 1
    let s1 := s.lcProgram to_
    if to_ = 4 then (s1.returnEffects).lcProgram 6 else s1
  else s

/-! ### Tokens -/

/-- The serial number (Table 13-7). -/
def State.serial (s : State) : List Nat := sliceBytes (s.otpRow 0) 4 16

/-- A token verifies under the authority key of row 10 (1 manufacturer) or 11 (2 owner), which must be valid (R549 to R551). -/
def State.tokenOk (s : State) (auth : Nat) (msg sig : List Nat) : Bool :=
  let row := s.otpRow (9 + auth)
  rowValid row && Config.ecdsaOk (row.take 96) msg sig

/-- A failed verification (R551). -/
def State.authFail (s : State) (op : Nat) : State := (s.inc TGT_CNT_AUTH_FAIL).ledger 0x0A03 op

/-- Firmware programs field F`n` for the transition command of mailbox `m`; its end is OTP_PROGRAM_DONE. -/
def State.fieldStart (s : State) (m n : Nat) : State :=
  { s with pnt := { s.pnt with otp := some (2, lcFieldData n, m + 1) } }.set OTP_STAT_BUSY 1

/-- The preconditions of LC_ADVANCE from a state (Table 18-2). -/
def State.advanceOk (s : State) (k : Nat) : Bool :=
  match k with
  | 0 => rowValid (s.otpRow 0) && rowValid (s.otpRow 10)
  | 1 => [6, 7, 8, 9, 16, 17, 18].all (fun r => rowValid (s.otpRow r))
  | 2 => rowValid (s.otpRow 11) && (List.range 16).any (fun k => decide (4 ≤ k) && s.slotUsable k 2)
  | _ => !bitB (leField (s.otpRow 3) 0 4) 3

/-- LC_ADVANCE (R541, R546): its key is the field being programmed. -/
def execLcAdvance (m : Nat) (s : State) : Host.Outcome State Fault Refusal :=
  kmiCommand 0x0A02 m (fun cmd s =>
    let t := bits cmd.a0 2 0
    let k := s.get TGT_LC_STATE
    if t = 5 ∨ cmd.dataIn.length ≠ 96 then .fin s stBadArg 0 [] []
    else if t ≠ k + 1 ∨ 3 < k ∨ s.flag TGT_LC_INCOMPLETE = true ∨ s.flag TGT_LC_LC_BAD = true then .fin s stRefusedLc 0 [] []
    else if !s.tokenOk (if k ≤ 1 then 1 else 2) (s.serial ++ [k, t]) cmd.dataIn then .fin (s.authFail 0x0A02) stAuthFail 0 [] []
    else if !s.advanceOk k then .fin s stRefusedLc 0 [] []
    else .run (((s.debugClose).set BST_ARM_SCOPE 0).fieldStart m t) false t) s

/-- SCRAP (R541, R542, R561). -/
def execScrap (m : Nat) (s : State) : Host.Outcome State Fault Refusal :=
  kmiCommand 0x0A07 m (fun cmd s =>
    let k := s.get TGT_LC_STATE
    let msg := s.serial ++ [k, 5]
    let both := k == 2 && rowValid (s.otpRow 11)
    let n := cmd.dataIn.length
    if s.flag TGT_LC_INCOMPLETE || decide (5 ≤ k) then .fin s stRefusedLc 0 [] []
    else if (if both then n != 192 else if k = 0 then n != 0 && n != 96 else n != 96) then .fin s stBadArg 0 [] []
    else
      let good := match k with
        | 0 => true
        | 3 => s.tokenOk 2 msg cmd.dataIn
        | _ => s.tokenOk 1 msg (cmd.dataIn.take 96) && (!both || s.tokenOk 2 msg (cmd.dataIn.drop 96))
      if !good then .fin (s.authFail 0x0A07) stAuthFail 0 [] []
      else .run (((s.debugClose).set BST_ARM_SCOPE 0).fieldStart m 5) false (5 + 8 * k)) s

/-- The owner's token was waived: PROVISIONED with a row 11 that is neither valid nor blank (R542). -/
def State.ownerWaived (s : State) (from_ : Nat) : Bool :=
  from_ == 2 && !rowValid (s.otpRow 11) && !((s.otpRow 11).all (· == 0))

/-- A field of row 2 has been programmed for a transition command: its effects, the DONE field, its Ledger entry and completion
(R546, R547, R561). A field that fails its verify ends the command with HW_FAULT. -/
def State.lcNext (s : State) (verified : Bool) : State :=
  let s1 := s.lcDecode
  match s1.kmi.running.find? (fun c => runOp 0x0A02 c || runOp 0x0A07 c) with
  | none => s1
  | some c =>
    let is := fun (x : RunCmd) => x.cmd.opcode == c.cmd.opcode && x.key == c.key
    let field := c.key % 8
    let rekey (st : State) (n : Nat) : State :=
      { st with kmi := { st.kmi with running := st.kmi.running.map (fun (x : RunCmd) => if is x then { x with key := n + 8 * (c.key / 8) } else x) } }
    if !verified then (if c.cmd.opcode = 0x0A02 then s1.set TGT_LC_INCOMPLETE 1 else s1).kmiResolve is stHwFault 0 [] []
    else if c.cmd.opcode = 0x0A02 then
      match field with
      | 4 => (rekey s1.returnEffects 6).fieldStart c.mbx 6
      | 6 => (s1.ledger 0x0A01 (3 + 2 ^ 8 * 4)).kmiResolve is stOk 0 [] []
      | t => (s1.ledger 0x0A01 (t - 1 + 2 ^ 8 * t)).kmiResolve is stOk 0 [] []
    else if field = 5 then
      let w := b2n (s1.ownerWaived (c.key / 8))
      ((rekey s1.scrapWipe 7).fieldStart c.mbx 7).ledger 0x0A01 (c.key / 8 + 2 ^ 8 * 5 + 2 ^ 16 * w)
    else s1.kmiResolve is stOk 0 [] []

/-- An OTP program ends, verified or not (R441); a field of row 2 carries its transition on (R546). -/
def execOtpProgramDone (verified : Bool) (s : State) : Host.Outcome State Fault Refusal :=
  match s.pnt.otp with
  | none => ok s
  | some (row, _, mb) =>
    let s1 := s.otpEnd verified
    ok (if row = 2 ∧ mb ≠ 0 then s1.lcNext verified else s1.slotShow)

/-- LC_STATUS (R416): the state being entered, with C0[6], while a transition is incomplete (R544). -/
def execLcStatus (m : Nat) (s : State) : Host.Outcome State Fault Refusal :=
  kmiCommand 0x0A01 m (fun _ s =>
    let inc := s.flag TGT_LC_INCOMPLETE
    let k := s.get TGT_LC_STATE
    .fin s stOk 0 [(if inc ∧ k < 4 then k + 1 else k) + 2 ^ 4 * s.get TGT_DBG_LEVEL + 2 ^ 6 * b2n inc] []) s

/-! ### Debug levels -/

/-- The authorities that may open a level in a state (Table 18-6): 1 manufacturer, 2 owner, 3 no token. -/
def levelAuth (policy level st : Nat) : List Nat :=
  match st with
  | 0 => [3]
  | 1 => [1]
  | 2 => if level ≤ 2 then [1, 2] else []
  | 3 => if level = 1 ∧ bitB policy 1 = false ∨ level = 2 ∧ bitB policy 0 = false then [2] else []
  | 4 => [1]
  | _ => []

/-- The authorities in every state whose permissions are in force (R544). -/
def State.debugAuth (s : State) (level : Nat) : List Nat :=
  [1, 2, 3].filter (fun a => s.lcStates.all (fun st => (levelAuth (leField (s.otpRow 3) 0 4) level st).contains a))

/-- When the outstanding challenge expires: TMO_S seconds after it was issued, 0 acting as 1 (R552). -/
def State.chalEnd (s : State) : Nat := (s.lc.chalAt + nsUnits (1000000000 * max 1 (s.get TGT_CHAL_TMO_S))) % 2 ^ 64

/-- DEBUG_CHALLENGE as issued (R552): a status and the challenge. -/
def State.challenge (s : State) (level : Nat) : Nat × List Nat × State :=
  if level ≠ 0 ∧ s.debugAuth level = [] then (stRefusedLc, [], s)
  else if s.lc.backoff ≠ 0 ∧ timeGe s.now s.lc.backoff = false then (stBusy, [], s)
  else
    let (r, s1) := s.freshBytes 32
    let c := r ++ leBytes 4 (s1.get CFG_ITIN_ITIN_ID) ++ [level, s1.get TGT_LC_STATE] ++ List.replicate 10 0
    (stOk, c, { s1 with lc := { s1.lc with chal := some c, chalAt := s1.now } }.set TGT_DBG_CHAL_VALID 1)

/-- A level opens. -/
def State.levelOpen (s : State) (level auth itin : Nat) : State :=
  let s := if level < 2 then s.unhalt else s
  let s1 := ((s.set TGT_DBG_LEVEL level).set TGT_DBG_AUTH auth).set TGT_DBG_ITIN_ITIN_ID itin
  let s2 := (s1.set TGT_CHAL_FAILS 0).inc TGT_CNT_UNLOCKS
  { s2 with lc := { s2.lc with chal := none, backoff := 0 } }.set TGT_DBG_CHAL_VALID 0

/-- DEBUG_UNLOCK (R551, R552, R556): a status. Level 0 needs no authority. -/
def State.unlock (s : State) (level : Nat) (resp : List Nat) (op : Nat) : Nat × State :=
  let auths := s.debugAuth level
  if level = 0 then (stOk, (s.unhalt.set TGT_DBG_LEVEL 0).set TGT_DBG_AUTH 0)
  else if auths = [] then (stRefusedLc, s)
  else if auths.contains 3 then (stOk, s.levelOpen level 3 (leField (s.lc.chal.getD []) 32 4))
  else
    let c := s.lc.chal.getD []
    let by_ := auths.filter (fun a => s.tokenOk a (c ++ s.serial) resp)
    if s.lc.chal.isSome && !timeGe s.now s.chalEnd && c.getD 36 0 == level && !by_.isEmpty then (stOk, s.levelOpen level (by_.headD 1) (leField c 32 4))
    else
      let n := s.get TGT_CHAL_FAILS + 1
      let s1 := ((s.authFail op).inc TGT_CHAL_FAILS).set TGT_DBG_CHAL_VALID 0
      let until_ := if n < 8 then s.lc.backoff else (s.now + nsUnits (1000000000 * 2 ^ min 10 (n - 8))) % 2 ^ 64
      (stAuthFail, { s1 with lc := { s1.lc with chal := none, backoff := until_ } })

/-- DEBUG_CHALLENGE (R416, R552). -/
def execDebugChallenge (m : Nat) (s : State) : Host.Outcome State Fault Refusal :=
  kmiCommand 0x0A03 m (fun cmd s =>
    let (st, c, s1) := s.challenge (bits cmd.a0 1 0)
    .fin s1 st 0 (if st = stOk then (List.range 6).map (fun i => leField c (8 * i) 8) else []) []) s

/-- DEBUG_UNLOCK (R416, R556). -/
def execDebugUnlock (m : Nat) (s : State) : Host.Outcome State Fault Refusal :=
  kmiCommand 0x0A04 m (fun cmd s =>
    if cmd.dataIn.length ≠ 96 then .fin s stBadArg 0 [] []
    else
      let (st, s1) := s.unlock (bits cmd.a0 1 0) cmd.dataIn 0x0A04
      .fin s1 st 0 [] []) s

/-- DEBUG_LOCK (R556): back to D0. -/
def State.debugLock (s : State) : State :=
  ((s.unhalt.set TGT_DBG_LEVEL 0).set TGT_DBG_AUTH 0).set TGT_DBG_ITIN_ITIN_ID 0

/-- DEBUG_LOCK (R416). -/
def execDebugLock (m : Nat) (s : State) : Host.Outcome State Fault Refusal :=
  kmiCommand 0x0A05 m (fun _ s => .fin s.debugLock stOk 0 [] []) s

/-- The outstanding challenge expires, TMO_S after it was issued, where the time counter then stands at least (R552). -/
def execChallengeExpiry (s : State) : Host.Outcome State Fault Refusal :=
  if s.lc.chal.isNone then ok s
  else ok ({ s with lc := { s.lc with chal := none } }.set TGT_DBG_CHAL_VALID 0 |>.reach s.chalEnd)

/-- KEY_PROVISION (R416, R553): 32 bytes program an AES-256 slot, 96 bytes a P-384 slot, with their CRC (Table 13-8). -/
def execKeyProvision (m : Nat) (s : State) : Host.Outcome State Fault Refusal :=
  kmiCommand 0x0A06 m (fun cmd s =>
    let slot := bits cmd.a0 7 0
    let n := cmd.dataIn.length
    if 16 ≤ slot ∨ (n ≠ 32 ∧ n ≠ 96) then .fin s stBadArg 0 [] []
    else if !((s.otpRow (16 + slot)).all (· == 0)) then .fin s stBadState 0 [] []
    else if s.flag OTP_STAT_BUSY then .fin s stBusy 0 [] []
    else
      let row := [if n = 32 then 1 else 2, 0, 0, 0] ++ cmd.dataIn ++ List.replicate (120 - n) 0
      .run ({ s with pnt := { s.pnt with otp := some (16 + slot, row ++ leBytes 4 (crc32 row), m + 1) } }.set OTP_STAT_BUSY 1) false m) s

/-! ### Flip-flop read-back (R559) -/

/-- A Room is authorised: the level was opened without a token, or the Room's active ITIN_ID is the bound one. -/
def State.ffAllowed (s : State) (r : Nat) : Bool :=
  decide (1 ≤ s.get TGT_DBG_LEVEL) && (s.get TGT_DBG_AUTH == 3 ||
    (let i := s.planeItin r (s.actPlane r)
     i == s.get TGT_DBG_ITIN_ITIN_ID && i != 0 && i != 0xFFFFFFFF))

/-- The flip-flops of a Tile: F`m` of Slice `s` at bit 8s + m. -/
def State.tileFfs (s : State) (r tile : Nat) : Nat := (List.range 8).foldl (fun v sl => v + s.ffs r tile sl % 256 * 2 ^ (8 * sl)) 0

/-- The 36 bytes of a Tile's capture (R416). -/
def State.tileCapture (s : State) (r tile : Nat) : List Nat :=
  leBytes 8 (s.tileFfs r tile) ++ leBytes 28 (Assoc.get 0 (3520 * r + tile) s.fab.way)

/-- FF_CAPTURE waits for slot 0 of the next boundary (R559). R15 says that no KMI command addresses a Tile; R416 gives this one a first Tile
and a Tile count, and the model follows R416 (DESIGN CHOICE, log entry 38). -/
def execFfCapture (m : Nat) (s : State) : Host.Outcome State Fault Refusal :=
  kmiCommand 0x0A08 m (fun cmd s =>
    let r := bits cmd.a0 4 0
    let first := bits cmd.a1 16 0
    let n := bits cmd.a2 16 0
    if 24 ≤ r ∨ n = 0 ∨ 3200 < first + n then .fin s stBadArg 0 [] []
    else if !s.roomActive r then .fin s stBadState 0 [] []
    else if !s.ffAllowed r then .fin s stRefusedDebug 0 [] []
    else .run { s with lc := { s.lc with captures := s.lc.captures ++ [(m, r, first, n)] } } false m) s

/-- Slot 0: waiting captures sample their Tiles (R559). -/
def State.takeCaptures (s : State) : State :=
  let s1 := { s with lc := { s.lc with captures := [] } }
  s.lc.captures.foldl (fun st c =>
    let (m, r, first, n) := c
    if !st.roomActive r then st.kmiResolve (runIs 0x0A08 m) stBadState 0 [] []
    else if !st.ffAllowed r then st.kmiResolve (runIs 0x0A08 m) stRefusedDebug 0 [] []
    else st.kmiResolve (runIs 0x0A08 m) stOk 0 [st.tickno] ((List.range n).flatMap (fun i => st.tileCapture r (first + i)))) s1

/-! ### JTAG (R560) -/

/-- An instruction is loaded and its data register presented. -/
def State.jtag (s : State) (ir dr : Nat) : State := ({ s with lc := { s.lc with ir := ir, dr := dr } }).emit (.jtag dr)

/-- The port is reachable while VAON is in range. -/
def State.jtagOn (s : State) : Bool := s.boot.powered

/-- D2 is open. -/
def State.d2 (s : State) : Bool := decide (2 ≤ s.get TGT_DBG_LEVEL)

/-- EXTEST: at D2 the boundary register drives the covered pins; otherwise it acts as SAMPLE/PRELOAD. -/
def execExtest (s : State) : Host.Outcome State Fault Refusal :=
  if !s.jtagOn then ok s
  else if s.d2 then ok ((s.jtag 0 s.lc.bsr).ledger 0x0A04 0) else ok (s.jtag 2 s.lc.bsr)

/-- IDCODE. -/
def execIdcode (s : State) : Host.Outcome State Fault Refusal := ok (if s.jtagOn then s.jtag 1 0x12400B47 else s)

/-- SAMPLE/PRELOAD: the boundary register takes what is sampled or shifted in. -/
def execSamplePreload (pins : Nat) (s : State) : Host.Outcome State Fault Refusal :=
  ok (if s.jtagOn then ({ s with lc := { s.lc with bsr := pins } }).jtag 2 pins else s)

/-- CLAMP: at D2 pins hold the boundary register; otherwise BYPASS. -/
def execJtagClamp (s : State) : Host.Outcome State Fault Refusal :=
  if !s.jtagOn then ok s
  else if s.d2 then ok ((s.jtag 3 0).ledger 0x0A04 3) else ok (s.jtag 0xFF 0)

/-- HIGHZ: at D2 covered pins float; otherwise BYPASS. -/
def execHighz (s : State) : Host.Outcome State Fault Refusal :=
  if !s.jtagOn then ok s
  else if s.d2 then ok ((s.jtag 4 0).ledger 0x0A04 4) else ok (s.jtag 0xFF 0)

/-- TGT_STATUS: TGT_LC. -/
def execTgtStatus (s : State) : Host.Outcome State Fault Refusal :=
  ok (if s.jtagOn then s.jtag 0x10 (s.word [TGT_LC_STATE, TGT_LC_INCOMPLETE, TGT_LC_LC_BAD, TGT_LC_WIPE_PENDING] 0 0) else s)

/-- TGT_CHALLENGE: as DEBUG_CHALLENGE, the 384-bit challenge out. -/
def execTgtChallenge (level : Nat) (s : State) : Host.Outcome State Fault Refusal :=
  if !s.jtagOn || !s.domOn 25 then ok s
  else
    let (_, c, s1) := s.challenge (level % 4)
    ok (s1.jtag 0x11 (leNat c))

/-- TGT_RESPONSE: as DEBUG_UNLOCK. -/
def execTgtResponse (level : Nat) (resp : List Nat) (s : State) : Host.Outcome State Fault Refusal :=
  if !s.jtagOn || !s.domOn 25 then ok s else ok (((s.unlock (level % 4) resp 0x12).2).jtag 0x12 0)

/-- The Innkeeper is halted under D2; its watchdog is paused from here (R558). -/
def State.halt (s : State) : State :=
  if s.flag TGT_DBG_HALTED then s else { s with lc := { s.lc with haltAt := s.now } }.set TGT_DBG_HALTED 1

/-- DBG_HALT: at D2 halts or resumes the Innkeeper; otherwise BYPASS. -/
def execDbgHalt (halt : Bool) (s : State) : Host.Outcome State Fault Refusal :=
  if !s.jtagOn then ok s
  else if s.d2 then ok ((if halt then s.halt else s.unhalt).jtag 0x21 (b2n halt)) else ok (s.jtag 0xFF 0)

/-- FF_READ: at D1, the flip-flops of a Tile of an authorised Room; otherwise BYPASS. -/
def execFfRead (room tile : Nat) (s : State) : Host.Outcome State Fault Refusal :=
  if 24 ≤ room ∨ 3200 ≤ tile then .fault .noSuchUnit
  else if !s.jtagOn then ok s
  else if s.roomActive room && s.ffAllowed room then ok (s.jtag 0x22 (s.tileFfs room tile)) else ok (s.jtag 0xFF 0)

/-- Factory test instructions 0x30 to 0x3F: at D3 their data register is factory-defined (DESIGN CHOICE, log entry 3); otherwise BYPASS. -/
def execFactoryTest (code : Nat) (s : State) : Host.Outcome State Fault Refusal :=
  if code < 0x30 ∨ 0x3F < code then .fault .noSuchUnit
  else if !s.jtagOn then ok s
  else if s.get TGT_DBG_LEVEL = 3 then
    let (v, s1) := s.fresh
    ok (s1.jtag code v)
  else ok (s.jtag 0xFF 0)

/-- BYPASS: the 1-bit register, which captures 0; every code without an instruction selects it. -/
def execBypass (_code : Nat) (s : State) : Host.Outcome State Fault Refusal := ok (if s.jtagOn then s.jtag 0xFF 0 else s)

/-- TRST_N low resets the TAP only: IDCODE is selected (Table 16-1, Table 18-9). -/
def execTrstN (s : State) : Host.Outcome State Fault Refusal := ok { s with lc := { s.lc with ir := 1 } }

end Sys2Proof.Machine
end

