-- ==== Sys2Proof/Machine/Entry.lean ====
section
/-! DEFINITION. Entering SLEEP, DEEP SLEEP and OFF: the Luggage list (R485, R486), the domains switched (R474, R475), the Night Porter's
reference (R492) and the armed BIST run (R568). -/

namespace Sys2Proof.Machine

open Reg

/-- PD29 goes off in SLEEP unless the twin mode is MIRROR or STANDBY (Table 15-2). -/
def State.pd29Sleeps (s : State) : Bool := s.get TWN_STAT_MODE == 0

/-- The retention banks an entry saves (Table 15-5). -/
def State.luggage (s : State) (target : Nat) : Nat :=
  match target with
  | 2 => 2 ^ 5 + (if s.pd29Sleeps then 2 ^ 6 else 0)
  | 3 => 255
  | _ => 0

/-- The signature word of a bank (R486). -/
def luggageSig (seq b target : Nat) : Nat := seq % 2 ^ 16 + 2 ^ 16 * b + 2 ^ 19 * target + 2 ^ 24 * 0x4C

/-- The Luggage list is saved (R485, R486): an entry to OFF saves nothing and clears SAVED. -/
def State.luggageSave (s : State) (target : Nat) : State :=
  let seq := (s.get PWR_LUG_STAT_SAVE_SEQ + 1) % 2 ^ 16
  let m := s.luggage target
  let s1 := (s.set PWR_LUG_STAT_SAVE_SEQ seq).set PWR_LUG_STAT_SAVED m
  { s1 with pwr := { s1.pwr with sig := (List.range 8).map (fun b => if bitB m b then luggageSig seq b target else s.pwr.sig.getD b 0) } }

/-- The lanes of an ingest domain lose their locks: PD28 lanes 0 to 15, PD29 lanes 16 to 31 (R190). -/
def State.lanesOff (s : State) (lo : Nat) : State :=
  (List.range 16).foldl (fun st k => (((st.seti ING_LANE_STAT_CDR_LOCK (lo + k) 0).seti ING_LANE_STAT_WORD_LOCK (lo + k) 0).seti
    ING_LANE_STAT_HI_BER (lo + k) 0).setLane (lo + k) LaneSt.init) s

/-- A domain bit goes off. -/
def State.domOff (s : State) (d : Nat) : State := s.set PWR_DOM_ON (clrBit (s.get PWR_DOM_ON) d)

/-- Room domains go off: all of them, or in SLEEP those outside PWR_RETAIN. -/
def State.roomsSleep (s : State) (target : Nat) : State :=
  (List.range 24).foldl (fun st r =>
    if st.roomOn r && (decide (3 ≤ target) || !bitB (st.get PWR_RETAIN_ROOMS) r) then st.roomOff r else st) s

/-- The Night Porter takes its reference (R491, R492, R494). -/
def State.npStart (s : State) : State :=
  if s.flag PWR_NP_CTRL_EN && s.get TCK_SRC_ACTIVE != 1 then
    let ch := s.get PWR_NP_CTRL_CH
    { s with pwr := { s.pwr with npRef := (s.msu.enc.getD ch EncSt.init).p, npAt := s.now } }.set PWR_NP_STAT_ACTIVE 1
  else s

/-- Triggers are off: no pulse waits (Table 15-2). -/
def State.trigsOff (s : State) : State := { s with msu := { s.msu with trig := s.msu.trig.map (fun x => ({ x with pend := [] } : TrigSt)) } }

/-- Every switched domain of the target state goes off (Table 15-2). -/
def State.domainsOff (s : State) (target : Nat) : State :=
  let rooms := roomMask s.roomOn
  let s0 := { s with pwr := { s.pwr with wasActive := rooms + 2 ^ 24 * (s.pwr.wasActive / 2 ^ 24) }, fab := { s.fab with pllLocked := 0 } }
  let s1 := (s0.roomsSleep target).lanesOff 0
  let s2 := s1.domOff 28
  let s3 := if target ≠ 2 ∨ s.pd29Sleeps = true then ((s2.lanesOff 16).domOff 29).set TWN_STAT_LANES_UP 0 else s2
  if target = 2 then s3
  else
    let s4 := (((s3.domOff 25).domOff 27).trigsOff).npStart
    let s5 := { s4 with wch := { s4.wch with pos := List.replicate 24 0, passLeft := 0, reloads := [], forced := none } }
    if target = 3 then s5
    else
      let s6 := ((s5.hostFundamental).domOff 26).debugClose
      let s7 := { s6 with
        boot := { s6.boot with opened := false }
        hlk := { s6.hlk with timeline := none }
        tick := { s6.tick with tickOpen := false, firstDue := true, rest := false } }
      (((s7.set TCK_CTRL_EN 0).set TCK_STATUS_STATE 0).set DMC_STAT_TRAINED 0).set KMI_CTRL_FW_READY 0

/-- Elements of a BIST scope, lowest first. -/
def bistElements (scope : Nat) : List Nat := [0, 1, 2, 3, 4, 8, 9, 10, 11, 12].filter (fun e => bitB scope e)

/-- ENTRY_COMMIT (R483): the last participant has answered STOPPED. An armed BIST runs before any domain is switched off (R568). -/
def execEntryCommit (t : Nat) (s : State) : Host.Outcome State Fault Refusal :=
  let s := s.setNow t
  match s.pwr.vote with
  | some (target, 11) =>
    let s1 := ({ s with pwr := { s.pwr with vote := none, entering := some target } }.luggageSave target).set PWR_VOTE_UNDO_CNT 0
    if target = 4 ∧ s1.get BST_ARM_SCOPE ≠ 0 then
      ok ({ s1 with bist := { s1.bist with todo := bistElements (s1.get BST_ARM_SCOPE), onCommand := false } }.set BST_STAT_STATE 1)
    else ok (s1.domainsOff target)
  | _ => ok s

end Sys2Proof.Machine
end

