-- ==== Sys2Proof/Machine/LedgerBist.lean ====
section
/-! DEFINITION. Built-in self-test (R563 to R575) and the Ledger's commands: events, buckets, archive, reading (R577 to R584). -/

namespace Sys2Proof.Machine

open Reg

/-! ### Ledger -/

/-- An event reaches the Ledger (R577). -/
def execLedgerEvent (code detail t : Nat) (s : State) : Host.Outcome State Fault Refusal :=
  let s := s.setNow t
  ok (s.ledger (code % 2 ^ 16) (detail % 2 ^ 64))

/-- A write of LDG_FW_CODE (R577): 0x0000 is ignored; DETAIL comes from LDG_FW_D. -/
def State.ledgerFw (s : State) (code : Nat) : State :=
  if code % 2 ^ 16 = 0 then s else s.ledger (code % 2 ^ 16) (s.get LDG_FW_D_LO + 2 ^ 32 * s.get LDG_FW_D_HI)

/-- LEDGER_FW_CODE (R577). -/
def execLedgerFwCode (code : Nat) (s : State) : Host.Outcome State Fault Refusal := ok (s.ledgerFw code)

/-- The token interval of a class: PERIOD_MS, 0 acting as 1 (R580). -/
def State.tokenPeriod (s : State) (cls : Nat) : Nat :=
  msUnits (max 1 (if cls = 1 then s.get LDG_CLASS1_PERIOD_MS else s.get LDG_CLASS2_PERIOD_MS))

/-- A bucket gains a token, up to BURST, PERIOD_MS after its last gain, where the time counter then stands at least (R580). -/
def execTokenRefill (code : Nat) (s : State) : Host.Outcome State Fault Refusal :=
  let c := code % 2 ^ 16
  let cls := ledgerClass c
  if cls = 0 then ok s
  else
    let at_ := ((Assoc.find? c s.ldg.tokenAt).getD s.boot.time0 + s.tokenPeriod cls) % 2 ^ 64
    ok ({ s with ldg := { s.ldg with
      tokens := Assoc.put c (min (s.burst cls) (s.tokensOf c + 1)) s.ldg.tokens
      tokenAt := Assoc.put c at_ s.ldg.tokenAt } }.reach at_)

/-- A write of BURST cuts any bucket of the class that holds more (R580). -/
def State.burstCut (s : State) : State :=
  { s with ldg := { s.ldg with
      full1 := min s.ldg.full1 (s.burst 1)
      full2 := min s.ldg.full2 (s.burst 2)
      tokens := s.ldg.tokens.map (fun e => (e.1, min e.2 (s.burst (ledgerClass e.1)))) } }

/-- The 32 bytes of a record (Table 19-5). -/
def recordImage (r : LedgerRec) : List Nat :=
  leBytes 4 r.seq ++ leBytes 2 r.code ++ [r.flags, 0] ++ leBytes 6 r.tick ++ leBytes 2 r.suppressed ++ leBytes 8 r.time ++ leBytes 8 r.detail

/-- Pantry address of an archive page of the half in use: that of the bank not holding the running copy (R582). -/
def State.archAddr (s : State) (p : Nat) : Nat := 2 ^ 24 * (1 - s.kmi.copy) + 0x500000 + 256 * p

/-- An archive page of records (Table 19-7). -/
def archivePage (rs : List LedgerRec) : List Nat :=
  let h := leBytes 4 0x4843524C ++ leBytes 4 ((rs.map (·.seq)).headD 0) ++ [rs.length] ++ List.replicate 19 0
  let body := rs.flatMap recordImage ++ List.replicate (224 - 32 * rs.length) 0xFF
  h ++ leBytes 4 (crc32 (h ++ body)) ++ body

/-- The next page of the half is used: the sector after the current one is erased once the current one's first page is programmed
(R583). -/
def State.archAdvance (s : State) : State :=
  let p := s.ldg.archPage
  let s1 := if p % 16 = 0 then s.pErase (s.archAddr ((p + 16) % 12288)) 4096 else s
  { s1 with ldg := { s1.ldg with archPage := (p + 1) % 12288 } }

/-- When the next page program may start: MIN_MS after the previous one, 0 acting as 1 (R583). -/
def State.archNext (s : State) : Option Nat :=
  s.ldg.archAt.map (fun a => (a + msUnits (max 1 (s.get LDG_ARCH_MIN_MS))) % 2 ^ 64)

/-- One archive page program (R581, R583): up to 7 records leave the buffer; a failed page leaves them, and is retried at the next page. -/
def State.archiveOne (s : State) (progOk : Bool) : State :=
  let s := { s with ldg := { s.ldg with archAt := some s.now } }
  let a := s.archAddr s.ldg.archPage
  let rs := s.ldg.buf.take 7
  if progOk then
    let s1 := ((s.pWrite a (archivePage rs)).pMark a 256).archAdvance
    let rest := s1.ldg.buf.drop 7
    let next := (rest.map (·.seq)).headD (s1.get LDG_HEAD_SEQ)
    ((({ s1 with ldg := { s1.ldg with buf := rest } }.set LDG_ARCH_SEQ next).set LDG_TAIL_SEQ next).set LDG_STAT_HELD rest.length)
  else
    let (b, s1) := s.freshBytes 256
    (((s1.pWrite a b).pMark a 256).archAdvance).ledger 0x0804 a

/-- Archiving can write: Kilax runs and the archive region is not protected. -/
def State.archReady (s : State) : Bool :=
  s.flag KMI_CTRL_FW_READY && s.domOn 25 && !s.partStopped 8 && !(s.marked (s.archAddr s.ldg.archPage) 256 && !s.pnt.nvwp)

/-- An archive page falls due: 7 records wait, or the oldest is AGE_MS old; its program starts no sooner than MIN_MS after the previous one, where the
time counter then stands at least (R583). -/
def execArchivePage (progOk : Bool) (s : State) : Host.Outcome State Fault Refusal :=
  let old := match s.ldg.buf with
    | [] => false
    | r :: _ => decide (msUnits (s.get LDG_ARCH_AGE_MS) ≤ elapsed s.now r.time)
  if s.flag LDG_CTRL_ARCH_EN && s.archReady && (decide (7 ≤ s.ldg.buf.length) || old) then
    ok ((match s.archNext with | some n => s.reach n | none => s).archiveOne progOk)
  else ok s

/-- Every waiting record is archived. -/
def archiveAll : Nat → State → State
  | 0, s => s
  | n + 1, s => if s.ldg.buf.isEmpty then s else archiveAll n (s.archiveOne true)

/-- LEDGER_ARCHIVE (R583): BUSY while another archive write runs. -/
def execLedgerArchive (m : Nat) (s : State) : Host.Outcome State Fault Refusal :=
  kmiCommand 0x0821 m (fun _ s =>
    if s.flag LDG_STAT_ARCH_BUSY then .fin s stBusy 0 [] []
    else if !s.archReady then .fin s stHwFault 0 [0] []
    else .fin (archiveAll s.ldg.buf.length s) stOk 0 [s.ldg.buf.length] []) s

/-- The records of an archive page that checks, as (SEQ, bytes). -/
def State.archRecords (s : State) (p : Nat) : List (Nat × List Nat) :=
  let a := s.archAddr p
  if s.pByte a = 0x4C ∧ s.pByte (a + 3) = 0x48 then
    let b := s.pBytes a 256
    if leField b 0 4 = 0x4843524C ∧ crc32 (b.take 28 ++ b.drop 32) = leField b 28 4 then
      (List.range (min 7 (b.getD 8 0))).map (fun i => (leField b (32 + 32 * i) 4, sliceBytes b (32 + 32 * i) 32))
    else []
  else []

/-- The longest run of records, up to the newest, without a gap in SEQ. -/
def seqRun : List (Nat × List Nat) → List (Nat × List Nat)
  | [] => []
  | x :: t =>
    let r := seqRun t
    match r with
    | [] => [x]
    | y :: _ => if r.length = t.length ∧ y.1 = (x.1 + 1) % 2 ^ 32 then x :: r else r

/-- LEDGER_READ (R584). -/
def execLedgerRead (m : Nat) (s : State) : Host.Outcome State Fault Refusal :=
  kmiCommand 0x0820 m (fun cmd s =>
    let a0 := cmd.a0 % 2 ^ 32
    let n := cmd.a1 % 2 ^ 16
    let arch := (List.range 12288).flatMap (fun i => s.archRecords ((s.ldg.archPage + i) % 12288))
    let all := seqRun (arch ++ s.ldg.buf.map (fun r => (r.seq, recordImage r)))
    let pick := (all.filter (fun r => r.1 == a0 || seqAbove r.1 a0)).take n
    let c0 := (pick.map (·.1)).headD a0
    let c1 := ((pick.map (·.1)).getLast?).getD ((c0 + 2 ^ 32 - 1) % 2 ^ 32)
    .fin s stOk 0 [c0, c1] (pick.flatMap (·.2))) s

/-! ### BIST -/

/-- Elements allowed on command (Table 19-1). -/
def bistOnCommand : Nat := 2 ^ 4 + 2 ^ 8 + 2 ^ 9 + 2 ^ 10

/-- Bits of a scope that Table 19-1 reserves. -/
def bistReserved : Nat := 0xE0E0

/-- A logic element. -/
def bistLogic (e : Nat) : Bool := decide (e ≤ 4)

/-- Room blocks can be tested in some Room: its domain is on and its active bank is not ACTIVE (R570). -/
def State.bistRoom (s : State) : Bool := (List.range 24).any (fun r => s.roomOn r && !s.roomActive r)

/-- BIST_RUN (R568, R570): armed for the next entry into OFF, or at once, where the conditions of R566 decide next (BIST_GO). -/
def execBistRun (m : Nat) (s : State) : Host.Outcome State Fault Refusal :=
  kmiCommand 0x0828 m (fun cmd s =>
    let scope := bits cmd.a0 15 0
    if scope = 0 ∨ scope &&& bistReserved ≠ 0 then .fin s stBadArg 0 [] []
    else if !bitB cmd.a0 16 then .fin (s.set BST_ARM_SCOPE scope) stOk 0 [] []
    else if scope &&& bistOnCommand ≠ scope then .fin s stBadArg 0 [] []
    else if s.loaderBusy || s.get BST_STAT_STATE != 0 then .fin s stBadState 0 [] []
    else .run ((s.set BST_SCOPE scope).set BST_STAT_STATE 1) true scope) s

/-- A run begins with its first phase. -/
def State.bistBegin (s : State) (scope : Nat) : State :=
  let es := bistElements scope
  let s1 := { s with bist := { s.bist with todo := es, onCommand := true } }
  (((s1.set BST_STAT_STATE (if es.any bistLogic then 2 else 3)).set BST_STAT_ELEMENT (es.headD 0)).set BST_STAT_ABORTED 0).set BST_STAT_FAIL 0

/-- What follows a run: on command its command completes; at shut-down the entry goes on (R568, R569). -/
def State.bistAfter (s : State) : State :=
  let s1 := { s with bist := { s.bist with todo := [] } }.set BST_STAT_STATE 0
  if s.bist.onCommand then ({ s1 with bist := { s1.bist with onCommand := false } }).kmiResolve (runOp 0x0828) stOk 0 [] []
  else match s1.pwr.entering with
    | some t => s1.domainsOff t
    | none => s1

/-- BST_CTRL.GO (R566, R570): the run of BST_SCOPE starts where the conditions hold. In an entry into OFF it is the check of an armed run: where a
condition fails, nothing runs and BST_ARM is kept (R568, R569). -/
def execBistGo (vcoreOk clkOk : Bool) (s : State) : Host.Outcome State Fault Refusal :=
  if !s.domOn 25 || decide (2 ≤ s.get BST_STAT_STATE) || (s.pwr.entering.isSome && s.bist.todo.isEmpty) then ok s
  else
    let s1 := (s.set BST_STAT_VCORE_OK (b2n vcoreOk)).set BST_STAT_CLK_OK (b2n clkOk)
    if s.pwr.entering.isSome then
      if vcoreOk && clkOk then
        ok ((s1.set BST_STAT_STATE (if s.bist.todo.any bistLogic then 2 else 3)).set BST_STAT_ELEMENT (s.bist.todo.headD 0))
      else ok s1.bistAfter
    else
    let scope := s.get BST_SCOPE
    if vcoreOk && clkOk && !s.loaderBusy && scope != 0 && scope &&& bistOnCommand == scope then ok (s1.bistBegin scope)
    else ok ((s1.set BST_STAT_STATE 0).kmiResolve (runOp 0x0828) stBadState 0 [] [])

/-- A repair entry (Table 19-4). -/
def repairEntry (kind inst type spare addr bit_ unrep : Nat) : Nat :=
  kind + 2 ^ 4 * inst + 2 ^ 16 * type + 2 ^ 17 * spare + 2 ^ 19 * addr + 2 ^ 35 * bit_ + 2 ^ 43 * unrep

/-- The repair kind of an element and its instance (Table 19-4); the mailboxes of element 11 are instances 16 and up (DEDUCED, log entry 20). -/
def repairKind (e inst : Nat) : Nat × Nat :=
  match e with
  | 8 => (1, inst)
  | 9 => (2, inst)
  | 10 => (3, inst)
  | 11 => if inst < 16 then (4, inst) else (5, inst - 16)
  | _ => (6, inst)

/-- The lowest spare of a type that no entry of the instance has taken (R574). -/
def freeSpare (entries : List Nat) (kind inst type : Nat) : Option Nat :=
  (List.range 2).find? (fun sp => !entries.any (fun e =>
    bits e 3 0 == kind && bits e 15 4 == inst && bits e 16 16 == type && bits e 18 17 == sp && !bitB e 43))

/-- Repair entries for the failing rows of an instance, one spare row each. -/
def rowRepairs (kind inst bit_ : Nat) : List Nat → List Nat → List Nat
  | [], _ => []
  | r :: t, taken =>
    match freeSpare taken kind inst 0 with
    | some sp =>
      let e := repairEntry kind inst 0 sp r bit_ 0
      e :: rowRepairs kind inst bit_ t (taken ++ [e])
    | none => repairEntry kind inst 0 0 r bit_ 1 :: rowRepairs kind inst bit_ t taken

/-- The repair entries of a failing memory instance (R574). -/
def repairsFor (entries : List Nat) (f : BistFail) : List Nat :=
  let (kind, inst) := repairKind f.element f.inst
  let rows := (f.cells.map (·.1)).eraseDups
  let cols := (f.cells.map (·.2)).eraseDups
  let bit_ := f.data1 % 256
  if 2 ≤ rows.length ∧ cols.length = 1 ∧ kind ≤ 2 then
    match freeSpare entries kind inst 1 with
    | some sp => [repairEntry kind inst 1 sp (cols.headD 0) bit_ 0]
    | none => [repairEntry kind inst 0 0 (cols.headD 0) bit_ 1]
  else rowRepairs kind inst bit_ rows entries

/-- Entries and per-instance outcomes of the failing instances of a run. -/
def repairAll (fails : List BistFail) (taken : List Nat) : List Nat × List (BistFail × Nat) :=
  fails.foldl (fun (p : List Nat × List (BistFail × Nat)) f =>
    if bistLogic f.element then (p.1, p.2 ++ [(f, 3)])
    else
      let es := repairsFor (taken ++ p.1) f
      (p.1 ++ es, p.2 ++ [(f, if es.any (fun e => bitB e 43) then 2 else 1)])) ([], [])

/-- The factory repair of OTP rows 48 to 55, read as entries of Table 19-4 (DEDUCED, log entry 20). -/
def State.factoryRepair (s : State) : List Nat :=
  ((List.range 8).flatMap (fun r =>
    let row := s.shadowRow (48 + r)
    (List.range 15).map (fun i => leField row (8 * i) 8))).filter (fun e => bits e 3 0 != 0)

/-- A page of the repair table (Table 19-3). -/
def bistPage (kind count run seq : Nat) (body : List Nat) : List Nat :=
  let h := leBytes 4 0x54525042 ++ [kind, count] ++ leBytes 2 run ++ leBytes 4 seq
  let b := body ++ List.replicate (240 - body.length) 0xFF
  h ++ leBytes 4 (crc32 (h ++ b)) ++ b

/-- Append a page to both copies of the repair table. -/
def State.appendPage (s : State) (kind count : Nat) (body : List Nat) : State :=
  (List.range 2).foldl (fun st c =>
    let n := st.bist.pages.getD c 0
    let a := 2 ^ 24 * c + 0x410000
    let s1 := if n = 0 then (st.pWrite a (bistPage 0 0 0 (st.bist.gens.getD c 0) [])).pMark a 256 else st
    let n1 := max 1 n
    if 256 ≤ n1 then s1
    else
      let s2 := (s1.pWrite (a + 256 * n1) (bistPage kind count st.bist.run n1 body)).pMark (a + 256 * n1) 256
      { s2 with bist := { s2.bist with pages := setAt s2.bist.pages c (n1 + 1) } }) s

/-- Split a list into runs of `n`. -/
def chunks {α : Type} (n : Nat) : Nat → List α → List (List α)
  | 0, _ => []
  | _ + 1, [] => []
  | k + 1, l => l.take n :: chunks n k (l.drop n)

/-- A result record (Table 19-2). -/
def resultImage (run : Nat) (r : List Nat) : List Nat :=
  leBytes 2 run ++ [r.getD 0 0, r.getD 1 0] ++ leBytes 2 (r.getD 2 0) ++ leBytes 2 (r.getD 3 0) ++ leBytes 4 (r.getD 4 0) ++ leBytes 4 (r.getD 5 0)

/-- The result records of a run (R571): element, outcome, instance, failing cells, data; at most 60 of failing instances. -/
def State.bistResults (s : State) (outs : List (BistFail × Nat)) (other : Nat → Option Nat) : List (List Nat) :=
  let sums := s.bist.todo.map (fun e =>
    let mine := outs.filter (fun o => o.1.element == e)
    let room := e == 4 || e == 8 || e == 9
    let oc := match other e with
      | some c => c
      | none => if s.bist.onCommand && room && !s.bistRoom then 4
          else if mine.isEmpty then 0 else if mine.any (fun o => o.2 == 3) then 3 else if mine.any (fun o => o.2 == 2) then 2 else 1
    [e, oc, 0xFFFF, min 0xFFFF mine.length, 0, 0])
  sums ++ (outs.take 60).map (fun o => [o.1.element, o.2, o.1.inst, min 0xFFFF o.1.failBits, o.1.data0, o.1.data1])

/-- A run ends (R569, R571, R572): `other` names the elements that were aborted or not run. Where NVWP_N protects the repair table the
run is discarded. -/
def State.bistEnd (s : State) (fails : List BistFail) (other : Nat → Option Nat) (t10us : Nat) : State :=
  let ran := fails.filter (fun f => s.bist.todo.contains f.element && (other f.element).isNone)
  let (es, outs) := repairAll ran (s.factoryRepair ++ s.bist.entries)
  let res := s.bistResults outs other
  let incomplete := s.bist.todo.any (fun e => (other e).isSome)
  let keepArm := s.bist.onCommand || incomplete
  let s0 := if keepArm then s else s.set BST_ARM_SCOPE 0
  if s.marked 0x410000 256 && !s.pnt.nvwp then s0.bistAfter
  else
    let run := (s.bist.run + 1) % 2 ^ 16
    let s1 := { s0 with bist := { s0.bist with run := run, results := res, entries := s0.bist.entries ++ es, unreported := true } }
    let s2 := (((((s1.set BST_STAT_RUN run).set BST_STAT_FAIL (b2n (!outs.isEmpty))).set BST_STAT_ABORTED
      (b2n (s.bist.todo.any (fun e => other e == some 5)))).set BST_TIME t10us).set BST_CNT_REPAIRS (es.filter (fun e => !bitB e 43)).length).set
      BST_CNT_UNREPAIRED (es.filter (fun e => bitB e 43)).length
    let s3 := (chunks 30 es.length es).foldl (fun st c => st.appendPage 1 c.length (c.flatMap (leBytes 8))) s2
    let s4 := (chunks 15 res.length res).foldl (fun st c => st.appendPage 2 c.length (c.flatMap (resultImage run))) s3
    s4.bistAfter

/-- A run ends (R572). With a wake held, the run stopped after its first phase and later elements record NOT_RUN (R569). -/
def execBistRunDone (fails : List BistFail) (wakeHeld : Bool) (t10us : Nat) (s : State) : Host.Outcome State Fault Refusal :=
  if s.get BST_STAT_STATE = 0 ∨ s.bist.todo = [] then ok s
  else
    let logic := s.bist.todo.any bistLogic
    ok (s.bistEnd fails (fun e => if wakeHeld && logic && !bistLogic e then some 6 else none) t10us)

/-- BST_CTRL.ABORT, or a condition of R566 that fails (R566, R569): at the check nothing runs and no page is written; during the run the
element in progress and every later one record ABORTED. -/
def execBistAbort (s : State) : Host.Outcome State Fault Refusal :=
  match s.get BST_STAT_STATE with
  | 0 => ok s
  | 1 =>
    if s.bist.todo = [] then ok ((s.set BST_STAT_STATE 0).kmiResolve (runOp 0x0828) stBadState 0 [] [])
    else ok s.bistAfter
  | _ => ok (s.bistEnd [] (fun _ => some 5) 0)

/-- BIST_RESULT (R571). -/
def execBistResult (m : Nat) (s : State) : Host.Outcome State Fault Refusal :=
  kmiCommand 0x0829 m (fun _ s => .fin s stOk 0 [] (s.bist.results.flatMap (resultImage s.bist.run))) s

/-- Compaction of a copy with fewer than 8 erased pages, after Opening (R575): its sectors are erased, the live entries programmed, and page
0 with the next generation last. -/
def execRepairCompact (copy : Nat) (s : State) : Host.Outcome State Fault Refusal :=
  if 2 ≤ copy then .fault .noSuchUnit
  else if !s.boot.opened || !s.flag KMI_CTRL_FW_READY || decide (s.bist.pages.getD copy 0 ≤ 248) || (s.marked 0x410000 256 && !s.pnt.nvwp) then ok s
  else
    let a := 2 ^ 24 * copy + 0x410000
    let cs := chunks 30 s.bist.entries.length s.bist.entries
    let s1 := s.pErase a 0x10000
    let s2 := (List.range cs.length).foldl (fun st i =>
      let c := cs.getD i []
      (st.pWrite (a + 256 * (i + 1)) (bistPage 1 c.length st.bist.run (i + 1) (c.flatMap (leBytes 8)))).pMark (a + 256 * (i + 1)) 256) s1
    let gen := s.bist.gens.getD copy 0 + 1
    let s3 := (s2.pWrite a (bistPage 0 0 s.bist.run gen [])).pMark a 256
    ok { s3 with bist := { s3.bist with pages := setAt s3.bist.pages copy (cs.length + 1), gens := setAt s3.bist.gens copy gen } }

end Sys2Proof.Machine
end

