-- ==== Sys2Proof/Machine/Milestone.lean ====
section
/-! DEFINITION. The Milestone Unit (03): encoder counting (R70 to R76), the line-pitch divider (R77 to R80), the time base (R81 to R84)
and the timed triggers (R85 to R87). Quotients are taken toward minus infinity in the units of the register they show in (DESIGN CHOICE, log entry 16). -/

namespace Sys2Proof.Machine

open Reg

/-- Time `a` less time `b` on the 64-bit counter (R81). -/
def timeSub (a b : Nat) : Nat := (a + (2 ^ 64 - b % 2 ^ 64)) % 2 ^ 64

/-- An encoder channel's state. -/
def State.encSt (s : State) (ch : Nat) : EncSt := s.msu.enc.getD ch EncSt.init

/-- Replace it. -/
def State.setEnc (s : State) (ch : Nat) (e : EncSt) : State := { s with msu := { s.msu with enc := setAt s.msu.enc ch e } }

/-- Counts of one filtered transition of A and B under a count mode, and whether it is a quadrature error (R70, R71). Forward is A
leading B (DEDUCED, log entry 21). -/
def encCount (mode : Nat) (a0 b0 a1 b1 : Bool) : Int × Bool :=
  let up : Int := 1
  let da := a0 != a1
  let db := b0 != b1
  let riseA := !a0 && a1
  let riseB := !b0 && b1
  match mode with
  | 1 => if da && db then (0, true) else if da then (if a1 != b1 then up else -up, false)
         else if db then (if a1 == b1 then up else -up, false) else (0, false)
  | 2 => if da && db then (0, true) else if da then (if a1 != b1 then up else -up, false) else (0, false)
  | 3 => if da && db then (0, true) else if riseA then (if b1 then -up else up, false) else (0, false)
  | 4 => if riseA then (if b1 then up else -up, false) else (0, false)
  | 5 => ((if riseA then up else 0) - (if riseB then up else 0), false)
  | 6 => if riseA then (up, false) else (0, false)
  | _ => (0, false)

/-- τ as the stamp difference over `m` intervals and `m` (R75): none while STOPPED or with fewer than two edges in the run. -/
def State.tau (s : State) (ch : Nat) : Option (Nat × Nat) :=
  let e := s.encSt ch
  if s.flagi MSU_ENC_STAT_STOPPED ch || decide (e.k < 2) then none
  else
    let m := min (2 ^ min 4 (s.geti MSU_ENC_CTRL_AVG ch)) (e.k - 1)
    some (timeSub (e.stamps.getD 0 0) (e.stamps.getD m 0), m)

/-- The interpolated position at time `t`, in 2⁻¹⁰ counts (R74, R75). -/
def State.pos1024 (s : State) (ch t : Nat) : Int :=
  let e := s.encSt ch
  match s.tau ch with
  | none => e.p * 1024
  | some (d, m) =>
    let z := e.stamps.getD 0 0
    let f : Nat := if timeGe t z then min 1023 (timeSub t z * 1024 * m / d) else 0
    if s.flagi MSU_ENC_STAT_DIR ch then e.p * 1024 - f else e.p * 1024 + f

/-- A 58-bit register pair takes a position (Table 03-12). -/
def State.setPos (s : State) (lo hi : Fld) (ch : Nat) (p : Int) : State :=
  let v := encodeInt 58 p
  (s.seti lo ch v).seti hi ch (v / 2 ^ 32)

/-- MSU_ENC*n*_POS and PER show the channel at the time counter's value. -/
def State.showPos (s : State) (ch : Nat) : State :=
  let s1 := s.setPos MSU_ENC_POS_LO MSU_ENC_POS_HI ch (s.pos1024 ch s.now)
  s1.seti MSU_ENC_PER_TAU ch (match s.tau ch with
    | none => 0xFFFFFFFF
    | some (d, m) => min 0xFFFFFFFF (d / m))

/-! ### The divider -/

/-- The active pitch in force, in 2⁻¹⁶ counts; below 1.0 it acts as 1.0 (R77). -/
def State.pitch (s : State) : Nat :=
  let v := if s.inForce MSU_DIV_CTRL_SET = 1 then s.inForce MSU_DIV_PITCH_B_PITCH else s.inForce MSU_DIV_PITCH_A_PITCH
  if v < 65536 then 65536 else v

/-- θ (R78). -/
def State.theta (s : State) : Nat := s.get MSU_DIV_NEXT_LO + 2 ^ 32 * s.get MSU_DIV_NEXT_HI

/-- θ becomes `v`, modulo 2⁶⁴. -/
def State.setTheta (s : State) (v : Int) : State :=
  let u := encodeInt 64 v
  (s.set MSU_DIV_NEXT_LO u).set MSU_DIV_NEXT_HI (u / 2 ^ 32)

/-- The channel of the divider. -/
def State.divCh (s : State) : Nat := s.get MSU_DIV_CTRL_CH

/-- The channel feeds an enabled divider. -/
def State.divFeeds (s : State) (ch : Nat) : Bool := s.flag MSU_DIV_CTRL_EN && s.divCh == ch

/-- The forward position q at time `t`, with 16 fractional bits (R78). -/
def State.divQ (s : State) (t : Nat) : Int :=
  let p := s.pos1024 s.divCh t * 64
  if s.flag MSU_DIV_CTRL_FWD then -p else p

/-- The schedule is within 48 ns of its time, and so frozen (R79). -/
def State.divFrozen (s : State) : Bool :=
  match s.msu.sched with
  | some t => timeGe (s.now + nsUnits 48) t
  | none => false

/-- The distance of θ beyond the whole forward position of the newest edge, in 2⁻¹⁶ counts. -/
def State.divAhead (s : State) : Int :=
  let p := (s.encSt s.divCh).p * 65536
  signed 64 (encodeInt 64 ((s.theta : Int) - (if s.flag MSU_DIV_CTRL_FWD then -p else p)))

/-- The time R79 gives for the next threshold, if it can be scheduled: none while STOPPED, while the position moves against FWD
(R78), or where the threshold lies beyond reach. While MSU_DIV_CTRL.EN is 0 nothing is scheduled and θ stands (DESIGN CHOICE, log entry 21). -/
def State.divTime (s : State) : Option Nat :=
  let ch := s.divCh
  let e := s.encSt ch
  let d := s.divAhead
  let soonest := s.now + nsUnits 48
  if !s.flag MSU_DIV_CTRL_EN || s.flagi MSU_ENC_STAT_STOPPED ch || decide (e.k = 0)
      || s.get MSU_DIV_CTRL_FWD != s.geti MSU_ENC_STAT_DIR ch then none
  else
    match s.tau ch with
    | some (dt, m) =>
      if d ≤ 65536 then
        let tc := encodeInt 64 ((e.stamps.getD 0 0 : Int) + d * dt / (m * 65536 : Nat))
        some (if timeGe tc soonest then tc else soonest % 2 ^ 64)
      else none
    | none => if d ≤ 0 then some (soonest % 2 ^ 64) else none

/-- Scheduling of the next ENCODER event (R79): a frozen schedule stands. It runs at each counted edge and after each event, and also at LOAD, at
a write of MSU_DIV_CTRL or MSU_ENCn_CTRL and when a new pitch takes effect (DEDUCED, log entry 21). -/
def State.divSched (s : State) : State :=
  if s.divFrozen then s else { s with msu := { s.msu with sched := s.divTime } }

/-- The threshold is crossed: θ increases by the active pitch (R78). -/
def State.divCross (s : State) : State :=
  let s1 := s.setTheta ((s.theta : Int) + s.pitch)
  { s1 with msu := { s1.msu with crossed := true, sched := none } }

/-- A new pitch takes effect after pitch `old` (R80): the pending threshold is the one last crossed plus the new pitch. -/
def State.rePitch (s : State) (old : Nat) : State :=
  if s.msu.crossed && s.pitch != old then (s.setTheta ((s.theta : Int) - old + s.pitch)).divSched else s

/-- TCK_PRED as the divider supplies it (R80), in whole ns. -/
def State.divPred (s : State) : Option Nat :=
  match s.tau s.divCh with
  | some (d, m) => some (s.pitch * d / (m * 65536 * 256))
  | none => none

/-- Thresholds passed while the channel counted in low-power mode are skipped (R493): how many. -/
def State.divSkip (s : State) : Nat × State :=
  if s.flag MSU_DIV_CTRL_EN then
    let d := s.divAhead
    if d ≤ 0 then
      let n := (-d).toNat / s.pitch + 1
      let s1 := s.setTheta ((s.theta : Int) + (n * s.pitch : Nat))
      (n, { s1 with msu := { s1.msu with crossed := true, sched := none } })
    else (0, s)
  else (0, s)

/-! ### Encoder channels -/

/-- A counted edge of direction `d` (1 or −1) with its stamp (R73 to R75). -/
def State.encEdge (s : State) (ch : Nat) (d : Int) (stamp : Nat) : State :=
  let e := s.encSt ch
  let rev := decide (d < 0)
  let fresh := s.flagi MSU_ENC_STAT_STOPPED ch || (s.flagi MSU_ENC_STAT_DIR ch != rev) || decide (e.k = 0)
  let e1 : EncSt := { e with
    p := signed 48 (encodeInt 48 (e.p + d))
    k := if fresh then 1 else e.k + 1
    stamps := if fresh then [stamp] else (stamp :: e.stamps).take 17
    since := stamp
    sinceZ := e.sinceZ.map (fun (z : Int) => z + d) }
  let s1 := ((s.setEnc ch e1).seti MSU_ENC_STAT_STOPPED ch 0).seti MSU_ENC_STAT_DIR ch (b2n rev)
  (if s1.divCh == ch then s1.divSched else s1).showPos ch

/-- The filter of an input lets a transition through (R69): the new level, `stamp` being the TDC stamp of its beginning, has persisted for FILT ns
at time `t`, and it began at least FILT + 4 ns after the input's last transition. -/
def State.filtered (s : State) (ch stamp t : Nat) (last : Option Nat) : Bool :=
  let filt := s.geti MSU_ENC_CTRL_FILT ch
  timeGe t (stamp + nsUnits filt) && (match last with
    | some l => timeGe stamp (l + nsUnits (filt + 4))
    | none => true)

/-- A transition of A, B or both (R69 to R71): the channel's levels, `stamp` the TDC stamp of the transition and `t` the time at which it is
available. What the filter does not resolve changes nothing. SWAP exchanges A and B. -/
def execEncoderEdge (ch : Nat) (a b : Bool) (stamp t : Nat) (s : State) : Host.Outcome State Fault Refusal :=
  if ch < 8 then
    let s := s.setNow t
    let e := s.encSt ch
    let sw := s.flagi MSU_ENC_CTRL_SWAP ch
    let (ain, bin) := if sw then (b, a) else (a, b)
    let goA := ain != e.a && s.filtered ch stamp t e.stampA
    let goB := bin != e.b && s.filtered ch stamp t e.stampB
    let a1 := if goA then ain else e.a
    let b1 := if goB then bin else e.b
    let s1 := s.setEnc ch { e with
      a := a1, b := b1, stampA := if goA then some stamp else e.stampA, stampB := if goB then some stamp else e.stampB }
    if s.flagi MSU_ENC_CTRL_EN ch then
      let (d, err) := encCount (s.geti MSU_ENC_CTRL_MODE ch) e.a e.b a1 b1
      let d := if s.flagi MSU_ENC_CTRL_INV ch then -d else d
      if err then ok ((s1.seti MSU_ENC_STAT_QERR ch 1).ledger 0x0304 ch)
      else if d = 0 then ok s1
      else ok (s1.encEdge ch d stamp)
    else ok s1
  else .fault .noSuchUnit

/-- A rising Z edge (R72), acting while A = B = 1: LATCH, CHECK and ZERO; ZERO acts as LATCH while the channel feeds the divider.
ZERO sets the whole count to 0 and leaves the run and its stamps, so the interpolated fraction goes on (DESIGN CHOICE, log entry 21). -/
def execIndexEdge (ch t : Nat) (s : State) : Host.Outcome State Fault Refusal :=
  if ch < 8 then
    let s := s.setNow t
    let e := s.encSt ch
    if s.flagi MSU_ENC_CTRL_EN ch && e.a && e.b then
      let zm := s.geti MSU_ENC_CTRL_ZMODE ch
      let zm := if zm = 3 ∧ s.divFeeds ch then 1 else zm
      let s1 := if zm == 2 && (match e.sinceZ with
                    | some z => z.natAbs != s.geti MSU_ENC_CPR ch
                    | none => false)
                then s.seti MSU_ENC_STAT_ZERR ch 1 else s
      let s2 := if zm = 1 ∨ zm = 2 then s1.setPos MSU_ENC_ZPOS_LO MSU_ENC_ZPOS_HI ch (s.pos1024 ch t) else s1
      ok ((s2.setEnc ch { e with p := if zm = 3 then 0 else e.p, sinceZ := some 0, zStamp := if zm = 1 ∨ zm = 2 then t else e.zStamp }).showPos ch)
    else ok s
  else .fault .noSuchUnit

/-- A channel has counted no edge for STOP × 8 ms (R73). -/
def execEncoderStopped (ch t : Nat) (s : State) : Host.Outcome State Fault Refusal :=
  if ch < 8 then
    let s := s.setNow t
    let e := s.encSt ch
    if !s.flagi MSU_ENC_STAT_STOPPED ch
        && timeGe t (e.since + nsUnits (8000000 * max 1 (s.geti MSU_ENC_CTRL_STOP ch))) then
      ok ((s.seti MSU_ENC_STAT_STOPPED ch 1).showPos ch)
    else ok s
  else .fault .noSuchUnit

/-- MSU_DIV_CTRL.LOAD (R78): θ is the current forward position plus PHASE. -/
def State.divLoad (s : State) : State :=
  let s1 := s.setTheta (s.divQ s.now + signed 32 (s.get MSU_DIV_PHASE))
  ({ s1 with msu := { s1.msu with crossed := false } }).divSched

/-- DIV_LOAD (R78). -/
def execDivLoad (t : Nat) (s : State) : Host.Outcome State Fault Refusal := ok (s.setNow t).divLoad

/-! ### Time base -/

/-- The discipline selected; reserved codes act as XTAL (Table 03-3). -/
def State.tbSrc (s : State) : Nat := if 4 < s.get MSU_TB_CTRL_SRC then 0 else s.get MSU_TB_CTRL_SRC

/-- The lock criterion of Table 03-3 as far as the part's own record shows it: under CHAIN and TWIN the offset measured by the CAL messages has
stayed below ±20 ps for 10 ms, under REF10_PPS the PPS edges have met the whole second for 3 s. Under XTAL and REF10 the phase comparison is the
row's (log entry 29). -/
def State.tbCriterion (s : State) (t : Nat) : Bool :=
  if s.tbSrc = 2 then (match s.msu.ppsSince with
    | some x => timeGe t (x + nsUnits 3000000000)
    | none => false)
  else if 3 ≤ s.tbSrc then (match s.msu.critSince with
    | some x => timeGe t (x + nsUnits 10000000)
    | none => false)
  else true

/-- Under REF10_PPS the counter is stepped so that the last PPS edge came at a whole second nearest to the value given (R82). -/
def State.ppsAlign (s : State) (t value : Nat) : Nat :=
  let sec := nsUnits 1000000000
  let d := timeSub t s.msu.ppsAt
  if s.tbSrc = 2 then ((timeSub value d + sec / 2) / sec * sec + d) % 2 ^ 64 else value

/-- The time base meets its lock criterion (R82): HOLDOVER clears, and at first lock, while TCK_CTRL.EN is 0, a source that carries
the time steps the counter to `value` (R84). The first lock is the first since reset under whichever source: XTAL's uses it up, and a change of SRC
does not renew it (DESIGN CHOICE, log entry 21). MSU_TB_FREQ is 0 under XTAL and measured otherwise. -/
def execTbLock (t value : Nat) (s : State) : Host.Outcome State Fault Refusal :=
  let s := s.setNow t
  if s.tbCriterion t then
    let s1 := (s.set MSU_TB_STAT_LOCKED 1).set MSU_TB_STAT_HOLDOVER 0
    let s2 := { s1 with msu := { s1.msu with everLocked := true } }
    let s3 := if 2 ≤ s.tbSrc ∧ !s.msu.everLocked ∧ !s.flag TCK_CTRL_EN then s2.setNow (s.ppsAlign t value) else s2
    if s.tbSrc = 0 then ok (s3.set MSU_TB_FREQ 0)
    else
      let (f, s4) := s3.fresh
      ok (s4.set MSU_TB_FREQ f)
  else ok s

/-- The selected reference is lost (R83). -/
def State.tbLost (s : State) : State :=
  if s.flag MSU_TB_STAT_HOLDOVER then s
  else ((((({ s with msu := { s.msu with critSince := none, ppsSince := none } }).set MSU_TB_STAT_REF_LOST 1)).set MSU_TB_STAT_HOLDOVER 1).set MSU_TB_STAT_LOCKED 0).ledger 0x0305 s.tbSrc

/-- A reference is lost (R83): TIMEREF_IN under REF10 and REF10_PPS, PPS_IN under REF10_PPS, the chain and the twin under their own
sources; a missing PPS edge sets PPS_LOST under both. -/
def execTbRefLost (cause : RefLoss) (t : Nat) (s : State) : Host.Outcome State Fault Refusal :=
  let s := s.setNow t
  match cause with
  | .timeref => if s.tbSrc = 1 ∨ s.tbSrc = 2 then ok s.tbLost else ok s
  | .pps =>
    if s.tbSrc = 1 then ok (s.set MSU_TB_STAT_PPS_LOST 1)
    else if s.tbSrc = 2 then ok (s.set MSU_TB_STAT_PPS_LOST 1).tbLost
    else ok s
  | .chain => if s.tbSrc = 3 then ok s.tbLost else ok s
  | .twin => if s.tbSrc = 4 then ok s.tbLost else ok s

/-- The time counter takes MSU_TIME_SET. -/
def State.tbStep (s : State) : State := s.setNow (s.get MSU_TIME_SET_LO + 2 ^ 32 * s.get MSU_TIME_SET_HI)

/-- MSU_TB_CTRL.SET (R84): no step while TCK_CTRL.EN is 1; with SET_AT_PPS the value waits for the next PPS_IN edge. -/
def execTbSet (t : Nat) (s : State) : Host.Outcome State Fault Refusal :=
  let s := s.setNow t
  if s.flag TCK_CTRL_EN then ok s
  else if s.flag MSU_TB_CTRL_SET_AT_PPS then ok { s with msu := { s.msu with setAtPps := true } }
  else ok s.tbStep

/-- A PPS edge lies within ±50 ps of a whole second of the time counter (R82). -/
def ppsWhole (t : Nat) : Bool :=
  let sec := nsUnits 1000000000
  decide (t % sec ≤ 12) || decide (sec - 12 ≤ t % sec)

/-- A rising PPS_IN edge (R82, R84): a waiting value is loaded while TCK_CTRL.EN is 0, and lost where it is 1 (DESIGN CHOICE, log entry 21). Under
REF10_PPS an edge outside ±50 ps of the whole second ends the lock criterion: `inWindow` is the comparison before the counter has been stepped, the
counter itself tells afterwards. -/
def execPpsEdge (t : Nat) (inWindow : Bool) (s : State) : Host.Outcome State Fault Refusal :=
  let s := s.setNow t
  let good := inWindow && (!s.msu.everLocked || s.msu.setAtPps || ppsWhole t)
  let s1 := { s with msu := { s.msu with
    setAtPps := false, ppsAt := t, ppsSince := if good then (match s.msu.ppsSince with
      | some x => some x
      | none => some t) else none } }
  let s2 := if s.msu.setAtPps && !s.flag TCK_CTRL_EN then
      let s2 := s1.tbStep
      { s2 with msu := { s2.msu with ppsAt := s2.now, ppsSince := some s2.now } }
    else s1
  ok (if s.tbSrc == 2 && !good then s2.set MSU_TB_STAT_LOCKED 0 else s2)

/-! ### Triggers -/

/-- A trigger output's state. -/
def State.trigSt (s : State) (n : Nat) : TrigSt := s.msu.trig.getD n ⟨[], none⟩

/-- Replace it. -/
def State.setTrig (s : State) (n : Nat) (k : TrigSt) : State := { s with msu := { s.msu with trig := setAt s.msu.trig n k } }

/-- The trigger fires for tick `T` (R87). -/
def State.trigFires (s : State) (n tick : Nat) : Bool :=
  s.inForcei MSU_TRIG_CTRL_EN n == 1
    && ((tick : Int) - s.inForcei MSU_TRIG_CTRL_PHASE n) % ((s.inForcei MSU_TRIG_CTRL_DIV n + 1 : Nat) : Int) == 0

/-- One trigger's pulse for tick `T`, known now: queued, or skipped as LATE, COLLIDE or OVERFLOW, the first that holds (R85, R87).
`tor` is the unit's own time of record and `master` the chain master's. -/
def State.trigOne (s : State) (n tick tor master : Nat) (merged : Bool) : State :=
  if s.trigFires n tick then
    let k := s.trigSt n
    let ofs := if s.inForce MSU_DIV_CTRL_SET = 1 then s.inForcei MSU_TRIG_OFS_B_OFS n else s.inForcei MSU_TRIG_OFS_A_OFS n
    let ref := if s.inForcei MSU_TRIG_CTRL_REF n = 1 then master else tor
    let rise := encodeInt 64 ((ref : Int) + ofs + signed 8 (s.geti MSU_TRIG_WIDTH_TRIM n))
    let fall := (rise + nsUnits (max 1 (s.inForcei MSU_TRIG_WIDTH n))) % 2 ^ 64
    if !timeGe rise (s.now + nsUnits 16) then s.orBit MSU_TRIG_STAT_LATE n
    else if (match k.lastFall with
             | some f => !timeGe rise f
             | none => false) then s.orBit MSU_TRIG_STAT_COLLIDE n
    else if 4 ≤ k.pend.length then s.orBit MSU_TRIG_STAT2_OVERFLOW n
    else s.setTrig n ⟨k.pend ++ [⟨rise, fall, tick, merged⟩], some fall⟩
  else s

/-- Every trigger is scheduled for an accepted tick (R85, R87). -/
def State.trigSchedule (s : State) (tick tor master : Nat) (merged : Bool) : State :=
  (List.range 16).foldl (fun st n => st.trigOne n tick tor master merged) s

/-- The TRIG drivers of a Companion are high-impedance under TRIG_SHARE (Table 17-2). -/
def State.trigDriven (s : State) : Bool := !((s.flag TWN_STAT_ROLE || s.twn.trigHiZ) && s.flag TWN_CTRL_TRIG_SHARE)

/-- The oldest pending pulse of a trigger rises (R85): the output pulses (an output number from 200 up is an inverted one, POL), the
fan-outs repeat it (R469) and the Line Assemblers' queues take it (R205). -/
def execTrigPulse (n : Nat) (s : State) : Host.Outcome State Fault Refusal :=
  if n < 16 then
    let k := s.trigSt n
    match k.pend with
    | [] => ok s
    | p :: rest =>
      let s1 := (s.setNow p.rise).setTrig n { k with pend := rest }
      let s2 := if s1.trigDriven then s1.emit (.trig (n + 200 * s.geti MSU_TRIG_CTRL_POL n) p.rise p.fall) else s1
      ok ((s2.fanOut n p.rise p.fall).trigPush n p.tick p.merged p.rise)
  else .fault .noSuchUnit

end Sys2Proof.Machine
end

