-- ==== Sys2Proof/Machine/ModeChange.lean ====
section
/-! DEFINITION. The mode change that the Sync Chain and the twin share (R101 to R109, R535): readiness, the master's decisions, what a
unit does at each slot of its boundaries, and what a member takes from a message. `tw` is false for the chain, true for the twin. -/

namespace Sys2Proof.Machine

open Reg

/-! ### Roles and settings -/

/-- This unit is the Companion of its twin, or will be once a pairing or a role swap takes effect (R519, R537); while a detach is being
decided, the role it was done in. -/
def State.twinCompanion (s : State) : Bool :=
  if s.get TWN_STAT_MODE = 0 then
    match s.twn.undo with
    | some (mode, role, _, _) => if mode = 0 then s.flag TWN_CTRL_ROLE_REQ else role == 1
    | none => s.flag TWN_CTRL_ROLE_REQ
  else s.flag TWN_STAT_ROLE != s.twn.swapDue

/-- The mode change of the chain or of the twin. -/
def State.mc (s : State) (tw : Bool) : McSt := if tw then s.twn.mc else s.syc.mc

/-- Replace it. -/
def State.setMc (s : State) (tw : Bool) (m : McSt) : State :=
  if tw then { s with twn := { s.twn with mc := m } } else { s with syc := { s.syc with mc := m } }

/-- The unit is the master: the chain's, or the twin's Lead (R89, R535). -/
def State.mcMaster (s : State) (tw : Bool) : Bool :=
  if tw then s.flag TWN_CTRL_EN && !s.twinCompanion else s.flag SYC_CTRL_EN && s.get SYC_CTRL_ROLE == 1

/-- The unit is a member: the chain's, or the twin's Companion. -/
def State.mcMember (s : State) (tw : Bool) : Bool :=
  if tw then s.flag TWN_CTRL_EN && s.twinCompanion else s.flag SYC_CTRL_EN && s.get SYC_CTRL_ROLE == 2

/-- LAG. -/
def State.mcLag (s : State) (tw : Bool) : Nat := if tw then s.get TWN_MC_CTRL_LAG else s.get SYC_MC_CTRL_LAG

/-- K; values below LAG + 2 act as LAG + 2 (Table 03-17). -/
def State.mcK (s : State) (tw : Bool) : Nat := max (s.mcLag tw + 2) (if tw then s.get TWN_MC_CTRL_K else s.get SYC_MC_CTRL_K)

/-- RECOVER = ROLLBACK. -/
def State.mcRecover (s : State) (tw : Bool) : Bool := if tw then s.flag TWN_MC_CTRL_RECOVER else s.flag SYC_MC_CTRL_RECOVER

/-- Units of the chain; two for a twin. -/
def State.mcExpect (s : State) (tw : Bool) : Nat := if tw then 2 else s.get SYC_UNITS_EXPECT

/-- The unit's hop number (R90, R516). -/
def State.mcHop (s : State) (tw : Bool) : Nat := if tw then b2n s.twinCompanion else s.get SYC_STAT_HOP

/-- The unit's state of Table 03-8. -/
def State.mcCode (s : State) (tw : Bool) : Nat := if tw then s.get TWN_MC_STAT_STATE else s.get SYC_MC_STAT_STATE

/-- The unit enters a state. -/
def State.setMcCode (s : State) (tw : Bool) (c : Nat) : State := if tw then s.set TWN_MC_STAT_STATE c else s.set SYC_MC_STAT_STATE c

/-! ### Readiness (R101) -/

/-- The unit is armed for a proposal's identifier. A detach and a role swap need a paired twin, a pairing the accepted TWIN_PAIR
(R535, R536; DEDUCED, log entry 23). -/
def State.mcArmed (s : State) (tw : Bool) (mode : Nat) : Bool :=
  if !tw then s.flag SYC_MC_ARM_VALID && s.get SYC_MC_ARM_MODE == mode
  else if mode = 0xFF00 ∨ mode = 0xFF03 then s.get TWN_STAT_MODE != 0
  else if 0xFF00 < mode then s.twn.pairMode == mode
  else s.twn.mc.armMask != 0 && s.twn.mc.armMode == mode

/-- The state a unit reports for a proposal before COMMIT: READY, WAIT or REFUSED. -/
def State.mcReady (s : State) (tw : Bool) (mode : Nat) : Nat :=
  if !s.mcArmed tw mode || !s.flag MSU_TB_STAT_LOCKED then 5
  else if tw && decide (0xFF00 < mode) && mode != 0xFF03 then (if s.twn.pairReady then 3 else 4)
  else if tw && decide (0xFF00 ≤ mode) then 3
  else if s.coCauses (s.mc tw).armMask == 0 then 3
  else 4

/-! ### Opening and closing a proposal -/

/-- A proposal opens on this unit. Its changeover slot shows T. -/
def State.mcOpen (s : State) (tw : Bool) (seq mode t : Nat) (phase : Nat) : State :=
  let m := s.mc tw
  let s1 := s.setMc tw { m with
    isOpen := true, t := t, mode := mode, seq := seq, committed := false, acted := false, switched := false, flipped := false
    recommitted := false, decision := 0, decTarget := 0, atTick := none, phase := phase }
  let s2 := match m.armSlot with
    | some j => (s1.seti CFG_CO_TICK_LO_T_LO j t).seti CFG_CO_TICK_HI_T_HI j (t / 2 ^ 32)
    | none => s1
  (if tw then s2 else s2.set SYC_MC_STAT_SEQ seq).setMcCode tw (s2.mcReady tw mode)

/-- A master's proposal with the next MC_SEQ: PROPOSE goes into every tick message up to tick T − 2 (R102). -/
def State.mcPropose (s : State) (tw : Bool) (mode t : Nat) : State :=
  let s1 := s.mcOpen tw (((s.mc tw).seq + 1) % 16) mode t 1
  let s2 := s1.setMc tw { s1.mc tw with op := 1, opTarget := t, opUntil := tickAdd t (tickMod - 2), watch := none }
  if tw then s2.set TWN_MC_STAT_OUTCOME 0 else
    ((s2.set SYC_MC_STAT_OUTCOME 0).set SYC_MC_TICK_LO_T_LO t).set SYC_MC_TICK_HI_T_HI (t / 2 ^ 32)

/-- Nothing is armed any more: the slot held is freed (R101, R109, R345). -/
def State.mcDisarm (s : State) (tw : Bool) : State :=
  let m := s.mc tw
  let s1 := match m.armSlot with
    | some j => s.coRelease j
    | none => s
  let s2 := s1.setMc tw { m with armMask := 0, armSwitch := false, armSlot := none, armMode := 0 }
  if tw then s2 else s2.set SYC_MC_ARM_VALID 0

/-- A proposal ends on this unit in a state: the unit is disarmed. What the master still sends, and what it watches, stays. -/
def State.mcFinal (s : State) (tw : Bool) (code : Nat) : State :=
  let s1 := s.mcDisarm tw
  let s2 := s1.setMc tw { s1.mc tw with isOpen := false, phase := 0, decision := 0, localReq := 0, clamp := 0 }
  (if tw then { s2 with twn := { s2.twn with pairMode := 0, undo := none } } else s2).setMcCode tw code

/-- The twin commands that wait for a mode change. -/
def twinRun (c : RunCmd) : Bool := runOp 0x0B03 c || runOp 0x0B04 c || runOp 0x0B05 c

/-- A twin command completes as its mode change ended (R535): `out` is an outcome code of SYC_MC_STAT. -/
def State.twinResult (s : State) (out : Nat) : State :=
  if out = 1 ∨ out = 3 then s.kmiResolve twinRun stOk 0 [(s.mc true).t] []
  else if out = 2 then s.kmiResolve twinRun stDeadline 0 [] []
  else s.kmiResolve twinRun stBadState out [] []

/-- KMI status of a chain outcome (R109). -/
def chainStatus (out : Nat) : Nat :=
  match out with
  | 2 => 0x0301
  | 4 => 0x0302
  | 5 => 0x0303
  | _ => stOk

/-- The master's outcome: 1 DONE, 2 ABORTED, 3 RECOMMITTED, 4 ROLLED_BACK, 5 SPLIT, with the state, hop and units it rests on (R109,
R409, R535). A proposal that is SPLIT stays so (R108). -/
def State.mcOutcome (s : State) (tw : Bool) (out state hop units : Nat) : State :=
  if (if tw then s.get TWN_MC_STAT_OUTCOME else s.get SYC_MC_STAT_OUTCOME) = 5 then s
  else
  let s0 := if out = 5 then s.ledger 0x0309 (hop + 2 ^ 8 * (s.mc tw).seq) else s
  if tw then (s0.set TWN_MC_STAT_OUTCOME out).twinResult out
  else
    let c0 := out + 2 ^ 4 * (state % 16) + 2 ^ 8 * (hop % 64) + 2 ^ 16 * (units % 128)
    let s1 := (s0.set SYC_MC_STAT_OUTCOME out).set SYC_MC_STAT_CHAIN_STATE state
    (s1.kmiResolve (runOp 0x0324) (chainStatus out) 0 [c0, s1.tickno] []).event 0x0004 0x03 c0 s1.tickno

/-! ### The master's decisions -/

/-- The aggregated STATUS of tick T: of the tick that the master's boundary T opened (R32, R106). -/
def State.mcStatus (s : State) (tw : Bool) : Option StatusRec :=
  let m := s.mc tw
  m.stats.find? (fun r => r.seq == m.seq && m.atTick == some r.tick)

/-- The decision at T − 1 (R103). An UNRESOLVED STATUS is watched for from here up to tick T + 2k, then up to the decision's target + k (R108 gives no
limit; DESIGN CHOICE, log entry 23). -/
def State.mcCommitOrAbort (s : State) (tw : Bool) : State :=
  let m := s.mc tw
  let own := s.mcReady tw m.mode
  let st := m.stats.head?.filter (fun r => r.seq == m.seq)
  let (count, state, hop) := match st with
    | some r => (r.count, r.state, r.firstHop)
    | none => (0, own, 0)
  let k := s.mcK tw
  let sent : McSt := { m with opTarget := m.t, opUntil := s.tickno, watch := some (m.seq, tickAdd m.t (2 * k)) }
  if own = 3 ∧ state = 3 ∧ count + 1 = s.mcExpect tw then
    (s.setMc tw { sent with op := 2, committed := true, phase := 2 }).setMcCode tw 3
  else ((s.setMc tw { sent with op := 3 }).mcOutcome tw 2 (max own state) hop (count + 1)).mcFinal tw 0

/-- The decision at T + 1 + LAG (R106, R107). -/
def State.mcDecideEnd (s : State) (tw : Bool) : State :=
  let m := s.mc tw
  let own := s.mcCode tw
  let (count, state, hop) := match s.mcStatus tw with
    | some r => (r.count, r.state, r.firstHop)
    | none => (0, own, 0)
  let worst := max own state
  let full := count + 1 == s.mcExpect tw
  let target := tickAdd m.t (s.mcK tw)
  let sent : McSt := { m with opTarget := target, opUntil := tickAdd target (tickMod - 1), watch := some (m.seq, tickAdd target (s.mcK tw)) }
  if full && own == 2 && state == 2 then
    (s.setMc tw { sent with op := 4, decision := 4, decTarget := target, phase := 3 }).mcOutcome tw (if m.recommitted then 3 else 1) worst hop (count + 1)
  else if full && worst == 6 && !m.recommitted && !s.mcRecover tw then
    s.setMc tw { sent with op := 5, decision := 5, decTarget := target }
  else (s.setMc tw { sent with op := 6, decision := 6, decTarget := target, phase := 3 }).mcOutcome tw 4 worst hop (count + 1)

/-- The master's step of slot 0. -/
def State.mcDecide (s : State) (tw : Bool) : State :=
  let m := s.mc tw
  if m.phase = 1 ∧ tickGe s.tickno (tickAdd m.t (tickMod - 1)) = true then s.mcCommitOrAbort tw
  else if m.phase = 2 ∧ m.decision = 0 ∧ tickGe s.tickno (tickAdd m.t (1 + s.mcLag tw)) = true then s.mcDecideEnd tw
  else s

/-- MC_OP, MC_SEQ, MC_MODE and MC_REL of a message of the master (Table 03-4): PROPOSE, COMMIT and ABORT travel in TICK messages only. A
target more than 255 ticks ahead is sent as MC_REL 0, and members pass such a PROPOSE over until it comes within reach (R94, R102; DESIGN CHOICE, log
entry 23). -/
def State.mcFields (s : State) (tw merge : Bool) : Nat × Nat × Nat × Nat :=
  let m := s.mc tw
  if m.op ≠ 0 ∧ tickGe m.opUntil s.tickno = true ∧ (merge = false ∨ 4 ≤ m.op) then
    let d := (m.opTarget + (tickMod - s.tickno % tickMod)) % tickMod
    (m.op, m.seq, m.mode, if m.op = 4 ∨ 255 < d then 0 else d)
  else (0, 0, 0, 0)

/-! ### What a unit does at its boundaries -/

/-- Outbound Doors of Rooms changed their clamps: pins and window requests follow (R458, R234). -/
def State.clampSync (s : State) (rooms : Nat) : State :=
  if rooms = 0 then s else ((bitList rooms 24).foldl (fun st r => st.roomPinsUpdate r) s).winSweep

/-- The clamps of a mode change become those of a mask. -/
def State.mcClampSet (s : State) (tw : Bool) (mask : Nat) : State :=
  let m := s.mc tw
  (s.setMc tw { m with clamp := mask }).clampSync (m.clamp ||| mask)

/-- Boundary T or later has come. -/
def State.mcAt (s : State) (tw : Bool) : Bool := tickGe s.tickno (s.mc tw).t

/-- The target of the decision in force has come; an UNRESOLVED unit waits for its host instead (R108). -/
def State.mcDue (s : State) (tw : Bool) (d : Nat) : Bool :=
  let m := s.mc tw
  m.isOpen && m.decision == d && s.mcCode tw != 8 && tickGe s.tickno m.decTarget

/-- Boundary T of a committed proposal has come, and the unit still has its local actions to do (R105). -/
def State.mcGo (s : State) (tw : Bool) : Bool :=
  let m := s.mc tw
  m.isOpen && m.committed && !m.acted && s.mcCode tw != 8 && s.mcAt tw

/-- Slot 0: readiness is brought up to date; a member without COMMIT at T − 1 is MISSED, one without a decision at T + k UNRESOLVED
(R104, R108). -/
def State.mcLapse (s : State) (tw : Bool) : State :=
  let m := s.mc tw
  let c := s.mcCode tw
  if !m.isOpen then s
  else if s.mcMember tw && !m.committed && !m.recommitted && c != 6 && c != 8 && tickGe s.tickno (tickAdd m.t (tickMod - 1)) then s.setMcCode tw 6
  else if s.mcMember tw && m.decision == 0 && c != 8 && tickGe s.tickno (tickAdd m.t (s.mcK tw)) then s.setMcCode tw 8
  else if !m.committed && decide (3 ≤ c) && decide (c ≤ 5) then s.setMcCode tw (s.mcReady tw m.mode)
  else s

/-- Slot 0: the loader's check of the armed slot at T − 1 once COMMIT is in force (R342). -/
def State.mcCheck (s : State) (tw : Bool) : State :=
  let m := s.mc tw
  match m.armSlot with
  | none => s
  | some j =>
    if m.committed && !m.acted && s.mcCode tw != 8 && s.geti CFG_CO_STAT_STATE j == 1 && tickGe s.tickno (tickAdd m.t (tickMod - 1)) then
      let c := s.coCauses (s.geti CFG_CO_MASK_ROOMS j)
      if c = 0 then s.seti CFG_CO_STAT_STATE j 2 else s.coCancel j c
    else s

/-- Slot 0: the armed switch of MSU_DIV_CTRL.SET takes effect, or is taken back (R80, R101, R107). -/
def State.mcSwitch (s : State) (tw : Bool) : State :=
  let m := s.mc tw
  let apply := s.mcGo tw || (s.mcDue tw 5 && s.mcCode tw == 6) || m.localReq == 2
  let back := s.mcDue tw 6 || m.localReq == 1
  if m.armSwitch && ((apply && !m.switched) || (back && m.switched)) then
    (s.set MSU_DIV_CTRL_SET (1 - s.get MSU_DIV_CTRL_SET)).setMc tw { m with switched := !m.switched }
  else s

/-- Slot 0: the tick opened by boundary T is noted (R106); at T + k an APPLIED unit that has DONE is IDLE again (R107, Table 03-10; DEDUCED, log
entry 23). -/
def State.mcNote (s : State) (tw : Bool) : State :=
  let m := s.mc tw
  let s1 := if m.isOpen && m.atTick.isNone && s.mcAt tw then s.setMc tw { m with atTick := some s.tickno } else s
  if s1.mcDue tw 4 && s1.mcCode tw == 2 then s1.mcFinal tw 0 else s1

/-- Slot 0 of a mode change. -/
def State.mcSlot0 (s : State) (tw : Bool) : State :=
  let s1 := s.mcNote tw
  let s2 := if s1.mcMaster tw then s1.mcDecide tw else s1
  ((s2.mcLapse tw).mcCheck tw).mcSwitch tw

/-- The changeover of a mode change is cancelled already, or will be at slot 3 (R105, R343). -/
def State.mcFails (s : State) (tw : Bool) : Bool :=
  match (s.mc tw).armSlot with
  | none => false
  | some j => s.geti CFG_CO_STAT_STATE j == 4 || s.coCauses (s.geti CFG_CO_MASK_ROOMS j) != 0

/-- COMMIT was accepted and the changeover is cancelled at T: the unit is FAILED and clamps (R105). -/
def State.mcFail (s : State) (tw : Bool) : State :=
  let s1 := match (s.mc tw).armSlot with
    | some j => if s.geti CFG_CO_STAT_STATE j = 4 then s else s.coCancel j (s.coCauses (s.geti CFG_CO_MASK_ROOMS j))
    | none => s
  let m := s1.mc tw
  (((s1.setMc tw { m with acted := true }).setMcCode tw 7).mcClampSet tw m.armMask).ledger 0x0308 (s1.mcHop tw + 2 ^ 8 * m.seq)

/-- Slot 1: a MISSED or FAILED unit clamps from boundary T, an UNRESOLVED one at once (R105, R108). -/
def State.mcSlot1 (s : State) (tw : Bool) : State :=
  let m := s.mc tw
  let c := s.mcCode tw
  if m.isOpen && c == 6 && !m.acted && s.mcAt tw then
    ((s.setMc tw { m with acted := true }).mcClampSet tw m.armMask).ledger 0x0307 (s.mcHop tw + 2 ^ 8 * m.seq)
  else if s.mcGo tw && s.mcFails tw then s.mcFail tw
  else if m.isOpen && c == 8 && m.localReq == 0 then
    let s1 := if m.clamp != m.armMask then s.mcClampSet tw m.armMask else s
    if tw && s.mcMember true then s1.twinResult 5 else s1
  else s

/-- The changeover of a mode change at slot 3 (R105). -/
def State.mcFlip (s : State) (tw : Bool) : State :=
  let m := s.mc tw
  match m.armSlot with
  | none => s
  | some j =>
    let s1 := (s.flipMask (s.geti CFG_CO_MASK_ROOMS j) m.t false).coDone j
    s1.setMc tw { s1.mc tw with flipped := true }

/-- Local actions: APPLIED, or FAILED with clamps and a Ledger entry. -/
def State.mcApply (s : State) (tw : Bool) : State :=
  if s.mcFails tw then s.mcFail tw
  else
    let s1 := s.mcFlip tw
    (s1.setMc tw { s1.mc tw with acted := true }).setMcCode tw 2

/-- A flip that stands applied is rolled back as ROLLBACK does it, in the slot that holds it (R107, R348): checked, flipped and DONE, or cancelled
where a Room is not eligible. -/
def State.mcRevert (s : State) (tw : Bool) : State :=
  let m := s.mc tw
  match m.armSlot with
  | none => s
  | some j =>
    if m.flipped then
      let s1 := ((((s.seti CFG_CO_MASK_ROLLBACK j 1).seti CFG_CO_TICK_LO_T_LO j s.tickno).seti CFG_CO_TICK_HI_T_HI j (s.tickno / 2 ^ 32)).seti
        CFG_CO_STAT_STATE j 2).seti CFG_CO_STAT_CAUSE j 0
      let c := s1.coCauses m.armMask
      if c = 0 then
        let s2 := (s1.flipMask m.armMask s1.tickno false).coDone j
        s2.setMc tw { s2.mc tw with flipped := false }
      else s1.coCancel j c
    else s

/-- The state a unit ends in when its local actions are taken back: RESTORED, or FAILED where the rollback of its changeover was cancelled (DEDUCED,
log entry 23). -/
def State.mcRestored (s : State) (tw : Bool) : Nat := if (s.mc tw).flipped then 7 else 1

/-- Slot 3 (R105, R107, R108). -/
def State.mcSlot3 (s : State) (tw : Bool) : State :=
  let m := s.mc tw
  if m.localReq ≠ 0 then
    let s1 := s.mcClampSet tw 0
    let s2 := if m.localReq = 1 then
        let s3 := s1.mcRevert tw
        s3.mcFinal tw (s3.mcRestored tw)
      else
        let s3 := if m.flipped then s1.setMcCode tw 2 else s1.mcApply tw
        (s3.mcClampSet tw 0).mcFinal tw (s3.mcCode tw)
    s2.kmiResolve (runOp 0x0325) stOk 0 [s2.tickno] []
  else
    let s1 := if s.mcGo tw then s.mcApply tw else s
    if s1.mcDue tw 5 then
      let s2 := if s1.mcCode tw = 6 then (s1.mcClampSet tw 0).mcApply tw else s1
      let k := s2.mc tw
      s2.setMc tw { k with t := k.decTarget, recommitted := true, committed := true, acted := true, decision := 0, atTick := some s2.tickno }
    else if s1.mcDue tw 6 then
      let s3 := (s1.mcRevert tw).mcClampSet tw 0
      let s2 := s3.mcFinal tw (s3.mcRestored tw)
      if tw && s2.mcMember tw then s2.twinResult 4 else s2
    else s1

/-- A member loses its link with a proposal open (R108). -/
def State.mcLinkLost (s : State) (tw : Bool) : State :=
  let m := s.mc tw
  if m.isOpen && s.mcCode tw != 8 then
    let s1 := (s.setMcCode tw 8).mcClampSet tw m.armMask
    if tw then s1.twinResult 5 else s1
  else s

/-- A master's link fails while its proposal is undecided: the outcome is SPLIT (R108). What it still sends and does at its boundaries stays. -/
def State.mcMasterLost (s : State) (tw : Bool) : State :=
  let m := s.mc tw
  if m.isOpen && m.phase == 2 then
    (s.setMc tw { m with watch := none }).mcOutcome tw 5 (s.mcCode tw) (s.mcHop tw) 1
  else s

/-! ### Messages -/

/-- What a member takes from the mode-change fields of a message (R103 to R107): `target` is none where MC_REL is 0. -/
def State.mcTake (s : State) (tw : Bool) (op seq mode : Nat) (target : Option Nat) : State :=
  let m := s.mc tw
  let c := s.mcCode tw
  match op with
  | 1 =>
    match target with
    | none => s
    | some t =>
      if !m.isOpen || (m.seq != seq && c != 8) then s.mcOpen tw seq mode t 0
      else if m.seq == seq && !m.committed && c != 6 && c != 8 then s.setMcCode tw (s.mcReady tw m.mode)
      else s
  | 2 => if m.isOpen && m.seq == seq && c != 6 && c != 8 then s.setMc tw { m with committed := true } else s
  | 3 =>
    if m.isOpen && m.seq == seq && !m.committed && c != 8 then
      let s1 := s.mcFinal tw 0
      if tw then s1.twinResult 2 else s1
    else s
  | 4 =>
    if m.isOpen && m.seq == seq && m.decision == 0 && c != 8 then
      let s1 := s.setMc tw { m with decision := 4, decTarget := tickAdd m.t (s.mcK tw) }
      if tw && c == 2 then s1.twinResult 1 else s1
    else s
  | 5 =>
    match target with
    | some t => if m.isOpen && m.seq == seq && m.decision == 0 && !m.recommitted && c != 8 then s.setMc tw { m with decision := 5, decTarget := t } else s
    | none => s
  | 6 =>
    match target with
    | some t => if m.isOpen && m.seq == seq && m.decision == 0 && c != 8 then s.setMc tw { m with decision := 6, decTarget := t } else s
    | none => s
  | _ => s

/-- The master takes a STATUS (R103, R106, R108): UNRESOLVED in a watched proposal makes the outcome SPLIT. -/
def State.mcTakeStatus (s : State) (tw : Bool) (r : StatusRec) : State :=
  let m := s.mc tw
  let s1 := s.setMc tw { m with stats := (r :: m.stats).take 32 }
  let s2 := if tw then s1.set TWN_MC_STAT_PARTNER r.state
    else (s1.set SYC_MC_STAT_CHAIN_STATE (max (s1.mcCode tw) r.state)).set SYC_MC_STAT_FIRST_HOP r.firstHop
  match m.watch with
  | some (q, until_) =>
    if r.seq = q ∧ r.state = 8 ∧ tickGe until_ r.tick = true then
      (s2.setMc tw { s2.mc tw with watch := none }).mcOutcome tw 5 8 r.firstHop (r.count + 1)
    else s2
  | none => s2

end Sys2Proof.Machine
end

