-- ==== Sys2Proof/Machine/StartCore.lean ====
section
/-! DEFINITION. The steps of Table 16-4 that a start shares with a cold start of one domain (R499): register blocks at reset, the AON queue,
the boot journal and the choice of a firmware copy (R511 to R513), the repair table (R575), DRAM training (step 5), the Itinerary record (step
7, R514). -/

namespace Sys2Proof.Machine

open Reg

/-! ### Registers at reset -/

/-- Register blocks of 64 KiB by the top bits of their IAS address (R25). -/
def blkMgmt : List Nat := [0x50, 0x51, 0x60, 0x61, 0x62, 0x63, 0x64, 0x70, 0x71]

/-- Per-Room fields that show non-volatile state: planes, their metadata, select words, write counters (R319, Table 10-5). -/
def nvRoomFlds : List Fld :=
  [CFG_ROOM_STAT_PLANE_A, CFG_ROOM_STAT_PLANE_B, CFG_ROOM_STAT_ACT_PLANE, CFG_ROOM_STAT_WORN, CFG_ROOM_VER_A_VERSION, CFG_ROOM_VER_B_VERSION,
   CFG_ROOM_ITIN_A_ITIN_ID, CFG_ROOM_ITIN_B_ITIN_ID, WCH_ROOM_WEAR_A_MAX, WCH_ROOM_WEAR_B_MAX]

/-- Other fields that show non-volatile state, or a pin. -/
def nvFlds : List Fld := [BST_STAT_RUN, LDG_ARCH_SEQ, PNT_PROT_NVWP_N]

/-- The registers whose IAS address a test names take their reset values; what shows non-volatile state stays. -/
def State.regReset (s : State) (hit : Nat → Bool) : State :=
  let regs := resetRegs.foldl (fun m e => if hit (e.1 / 32) then Assoc.put e.1 e.2 m else m) (s.regs.filter (fun e => !hit (e.1 / 32)))
  let s1 := { s with
    regs := regs, held := s.held.filter (fun e => !hit (e.1 / 32)), hiLatch := s.hiLatch.filter (fun e => !hit e.1) }
  let s2 := nvFlds.foldl (fun st f => if hit (f.at 0 0) then st.set f (s.get f) else st) s1
  (List.range 24).foldl (fun st r => nvRoomFlds.foldl (fun st f => if hit (f.at 0 0) then st.seti f r (s.geti f r) else st) st) s2

/-- The registers of some blocks take their reset values; LDG_AONQ lies in PD24 (R578). -/
def State.blockReset (s : State) (blocks : List Nat) : State :=
  s.regReset (fun a => blocks.contains (a / 65536) && a != LDG_AONQ_HELD.at 0 0)

/-- What PD25 holds is at reset; Pantry, OTP, planes and select words hold. Command mailboxes are cleared. -/
def State.mgmtReset (s : State) : State :=
  let z := State.reset
  let s1 := s.blockReset blkMgmt
  { s1 with
    cfg := { z.cfg with
      planeFr := s.cfg.planeFr, planeBad := s.cfg.planeBad, planeCnt := s.cfg.planeCnt, planeHand := s.cfg.planeHand
      refreshing := s.cfg.refreshing, sel := s.cfg.sel }
    fab := { s1.fab with ownTbl := [], ownStg := [], ownStgRooms := 0 }
    wch := z.wch
    kmi := z.kmi
    pnt := { z.pnt with programmed := s.pnt.programmed, nvwp := s.pnt.nvwp }
    io := z.io
    bist := { s.bist with todo := [], onCommand := false }
    ldg := { z.ldg with aonQ := s.ldg.aonQ, archPage := s.ldg.archPage } }

/-- Events that waited in AON while PD25 was off are taken first, DELAYED, with their own TICKNO and TIME (R578). -/
def State.aonDrain (s : State) : State :=
  let q := s.ldg.aonQ
  let s1 := ({ s with ldg := { s.ldg with aonQ := [] } }).set LDG_AONQ_HELD 0
  if s.flag LDG_CTRL_EN then q.foldl (fun st e => st.ledgerTake e.code 1 e.tick e.time e.detail) s1 else s1

/-! ### Boot journal -/

/-- START_SEQ of a journal entry. -/
def jSeq (e : List Nat) : Nat := leField e 4 4

/-- STEP, METHOD, RESULT, KIND, DETAIL of an entry (Table 16-3). -/
def jStep (e : List Nat) : Nat := e.getD 8 0
/-- METHOD. -/
def jMethod (e : List Nat) : Nat := e.getD 9 0
/-- RESULT. -/
def jResult (e : List Nat) : Nat := e.getD 10 0
/-- KIND. -/
def jKind (e : List Nat) : Nat := e.getD 11 0
/-- DETAIL. -/
def jDetail (e : List Nat) : Nat := leField e 12 4

/-- The highest START_SEQ of a list of entries. -/
def topSeq (l : List (List Nat)) : Option Nat := l.foldl (fun m e => match m with
  | some q => some (max q (jSeq e))
  | none => some (jSeq e)) none

/-- The journal of starts: entries of a DOMAIN_COLD belong to no start (Table 16-1). -/
def State.starts (s : State) : List (List Nat) := s.journal.filter (fun e => jKind e != 6)

/-- The firmware copy a start used: that of its step 4 entry, the one that passed where there are two. -/
def copyOf (l : List (List Nat)) (q : Nat) : Option Nat :=
  let mine := l.filter (fun e => jSeq e == q && jStep e == 4)
  match mine.find? (fun e => jResult e == 1) with
  | some e => some (jDetail e % 2)
  | none => mine.getLast?.map (fun e => jDetail e % 2)

/-- A start has its closing entry. -/
def closedStart (l : List (List Nat)) (q : Nat) : Bool := l.any (fun e => jSeq e == q && jStep e == 0 && jResult e != 0)

/-- The firmware copy a start tries first (Table 16-4 step 4): the copy of the last closed start, or the other copy where the two most recent
starts both used one copy and neither closed; copy 0 where the journal tells nothing (DEDUCED, log entry 25). -/
def State.fwFirst (s : State) : Nat :=
  let l := s.starts
  let lastClosed := (topSeq (l.filter (fun e => closedStart l (jSeq e)))).bind (copyOf l)
  let stuck := (topSeq l).bind (fun a => (topSeq (l.filter (fun e => jSeq e != a))).bind (fun b =>
    if !closedStart l a && !closedStart l b && copyOf l a == copyOf l b then copyOf l a else none))
  match stuck with
  | some c => 1 - c
  | none => lastClosed.getD 0

/-- The journal page after the newest entry of a half (R512). -/
def State.journalNext (s : State) (half : Nat) : Nat :=
  let l := (List.range 1024).filterMap (fun p => (s.journalEntry half p).map (fun e => (p, jSeq e)))
  match topSeq (l.map (fun e => [0, 0, 0, 0] ++ leBytes 4 e.2)) with
  | none => 0
  | some q =>
    let ps := (l.filter (fun e => e.2 == q)).map (·.1)
    (((ps.find? (fun p => !ps.contains ((p + 1) % 1024))).getD 0) + 1) % 1024

/-- A start, or a cold domain, opens its journal in the half that does not hold its firmware copy, with a step 0 entry (R511, R512). -/
def State.journalOpen (s : State) (kind copy : Nat) : State :=
  let seq := ((topSeq s.journal).map (· + 1)).getD 0 % 2 ^ 32
  let half := 1 - copy
  ({ s with boot := { s.boot with seq := seq, half := half, page := s.journalNext half, kind := kind } }).journalWrite 0 0 0 0 0xFF 0xFF

/-! ### Steps 1, 2 and 4 -/

/-- A failed step of a start is noted; START_DONE names the first in the order of Table 16-4 (R509). -/
def State.noteFail (s : State) (step : Nat) : State :=
  if s.boot.failStep = 0 ∨ step < s.boot.failStep then { s with boot := { s.boot with failStep := step } } else s

/-- Step 1: the OTP shadow load; a row that is neither valid nor blank fails it (R445). -/
def State.stepShadow (s : State) : State :=
  let s1 := s.shadowLoad
  if s1.get OTP_LOAD_BAD = 0 then s1.journalWrite 1 0 1 0 0xFF 0xFF else (s1.noteFail 1).journalWrite 1 0 2 0 0xFF 0xFF

/-- A page of copy `c` of the repair table, where it is valid (Table 19-3). -/
def State.repairPage (s : State) (c p : Nat) : Option (List Nat) :=
  let b := s.pBytes (2 ^ 24 * c + 0x410000 + 256 * p) 256
  if leField b 0 4 = 0x54525042 ∧ crc32 (b.take 12 ++ b.drop 16) = leField b 12 4 then some b else none

/-- The generation of a copy whose page 0 is valid. -/
def State.repairGen (s : State) (c : Nat) : Option Nat :=
  (s.repairPage c 0).bind (fun b => if b.getD 4 0 = 0 then some (leField b 8 4) else none)

/-- The repair entries of a copy in page order. -/
def State.repairEntries (s : State) (c : Nat) : List Nat :=
  (List.range 255).flatMap (fun i => match s.repairPage c (i + 1) with
    | some b => if b.getD 4 0 = 1 then (List.range (min 30 (b.getD 5 0))).map (fun n => leField b (16 + 8 * n) 8) else []
    | none => [])

/-- Entries in the order applied, and those that name a spare already assigned (R575); an UNREPAIRED entry takes no spare. -/
def applyRepairs (l : List Nat) : List Nat × List Nat :=
  l.foldl (fun (p : List Nat × List Nat) e =>
    if !bitB e 43 && p.1.any (fun x => !bitB x 43 && x % 2 ^ 19 == e % 2 ^ 19) then (p.1, p.2 ++ [e]) else (p.1 ++ [e], p.2)) ([], [])

/-- Step 2: the repair table (R575). -/
def State.stepRepair (s : State) : State :=
  let g0 := s.repairGen 0
  let g1 := s.repairGen 1
  let used := match g0, g1 with
    | none, none => none
    | some _, none => some 0
    | none, some _ => some 1
    | some a, some b => if a < b then some 1 else some 0
  let fact := s.factoryRepair
  let (good, bad) := applyRepairs (fact ++ (used.map s.repairEntries).getD [])
  let s1 := ((s.set BST_REPAIR_COPY0 (b2n g0.isSome)).set BST_REPAIR_COPY1 (b2n g1.isSome)).set BST_REPAIR_USED (used.getD 0)
  let s2 := s1.set BST_REPAIR_APPLIED (good.filter (fun e => !bitB e 43)).length
  let s3 := { s2 with bist := { s2.bist with entries := good.drop (min fact.length good.length) } }
  let s4 := bad.foldl (fun st e => st.ledger 0x080B (bits e 15 4)) s3
  if used.isSome then s4.journalWrite 2 0 1 0 0xFF 0xFF else (s4.noteFail 2).journalWrite 2 0 2 0 0xFF 0xFF

/-- Step 4: a firmware copy is verified, the other one where it fails; the copy that runs, or none: the Innkeeper halts in the boot ROM and
CFG_ERR_N is driven low (R510). -/
def State.stepFirmware (s : State) (first : Nat) (ok0 ok1 : Bool) : Option Nat × State :=
  let good := fun (c : Nat) => if c = 0 then ok0 else ok1
  if good first then (some first, s.journalWrite 4 0 1 first 0xFF 0xFF)
  else
    let s1 := s.journalWrite 4 0 2 first 0xFF 0xFF
    let c := 1 - first
    if good c then (some c, s1.journalWrite 4 1 1 c 0xFF 0xFF)
    else (none, (s1.journalWrite 4 1 2 c 0xFF 0xFF).emit (.pin pinCfgErr 0))

/-- The copy a start will run, known before its journal is opened. -/
def fwCopy (first : Nat) (ok0 ok1 : Bool) : Nat :=
  if (if first = 0 then ok0 else ok1) || !(if first = 0 then ok1 else ok0) then first else 1 - first

/-- Firmware of a copy runs (R389, R511): FW_READY, the bank it executes from, mailboxes IDLE. Its first fetch from the copy fills a cache line, which
one is a free value (R383). -/
def State.fwRuns (s : State) (c : Nat) : State :=
  let s1 := { s with kmi := { s.kmi with copy := c, wdogAt := s.now } }
  let (v, s1) := s1.fresh
  let s1 := s1.icacheFetch (xipBase c + 64 * (v % 65536))
  let s2 := ((s1.set KMI_CTRL_FW_READY 1).set PNT_XBANK_BANK c).set PNT_XBANK_VALID 1
  (List.range 15).foldl (fun st m => st.seti KMI_MBX_STATE m 1) s2

/-! ### Step 5: DRAM -/

/-- RATE as it acts (Table 09-11). -/
def rateActs (r : Nat) : Nat := min 2 r

/-- How step 5 trains: the training mode, METHOD, RATE and CH_EN (Table 16-4). -/
def State.dramPlan (s : State) : Nat × Nat × Nat × Nat :=
  let rec_ := s.settingsRead 3
  let rate := match rec_ with
    | some b => rateActs (b.getD 14 0 % 4)
    | none => 0
  let ch := match rec_ with
    | some b => if b.getD 15 0 % 4 = 0 then 3 else b.getD 15 0 % 4
    | none => 3
  let l := s.starts.filter (fun e => jStep e == 5)
  let last := (topSeq l).bind (fun q => (l.filter (fun e => jSeq e == q)).foldl (fun (m : Option (List Nat)) e => match m with
    | some x => if jMethod x ≤ jMethod e then some e else some x
    | none => some e) none)
  match last with
  | some e =>
    if jResult e != 2 then (if rec_.isSome then (2, 0, rate, ch) else (1, 1, rate, ch))
    else if jMethod e = 0 then (1, 1, rate, ch)
    else if rate < 2 then (1, 2, rate + 1, ch)
    else
      let bad := 2 ^ (bits (jDetail e) 13 8 / 20)
      if ch = 3 then (1, 3, 2, clrMask 3 bad) else (1, 1, 2, ch)
  | none => if rec_.isSome then (2, 0, rate, ch) else (1, 1, rate, ch)

/-- Lane words and DFE taps come from the training record (R307). -/
def State.loadLanes (s : State) : State :=
  match s.settingsRead 3 with
  | none => s
  | some b =>
    let s1 := s.setLanes ((List.range 40).map (fun n => leField b (16 + 4 * n) 4))
    { s1 with dmc := { s1.dmc with dfe := (List.range 40).map (fun n => leField b (176 + 4 * n) 4) } }

/-- Step 5 begins; a lowered rate or channel mask goes into the training record (R513). -/
def State.stepDram (s : State) : State :=
  let (mode, method, rate, ch) := s.dramPlan
  let old := (s.settingsRead 3).getD (List.replicate 336 0)
  let s0 := if 2 ≤ method then s.settingsWrite 3 (sliceBytes old 0 14 ++ [rate, ch] ++ old.drop 16) else s
  let s1 := ((s0.set DMC_CFG_RATE rate).set DMC_CFG_CH_EN ch).set DMC_TRAIN_CTRL_MODE (mode - 1)
  let s2 := (if mode = 2 then s1.loadLanes else s1).trainStart mode
  { s2 with boot := { s2.boot with dram := 16 + method } }

/-- A training or a restore ends (R305 to R308, R499, Table 16-4 step 5): a start journals it, enables the controller or takes the
alternative; a DRAM_TRAIN command completes. -/
def State.dramDone (s : State) (res : TrainRes) : State :=
  let mode := s.dmc.training
  let s1 := s.trainEnd res
  let good := s1.flag DMC_TRAIN_STAT_PASS
  let s2 :=
    if s.boot.dram = 32 then
      ({ s1 with boot := { s1.boot with dram := if good then 3 else 4 } }).journalWrite 5 0 (if good then 1 else 2) s1.trainStat 0xFF 0xFF
    else if 16 ≤ s.boot.dram ∧ mode ≠ 3 then
      let method := s.boot.dram - 16
      let j := s1.journalWrite 5 method (if good then 1 else 2) s1.trainStat 0xFF 0xFF
      if good then ({ j with boot := { j.boot with dram := 3 } }).loadMasks.dmcEnable
      else if method = 0 then
        let k := (j.set DMC_TRAIN_CTRL_MODE 0).trainStart 1
        { k with boot := { k.boot with dram := 17 } }
      else ({ j with boot := { j.boot with dram := 4 } }).noteFail 5
    else s1
  s2.kmiResolve (runIs 0x0606 0) (if good then stOk else stHwFault) 0 [s2.trainStat] []

/-- DRAM_TRAIN_DONE. -/
def execDramTrainDone (res : TrainRes) (s : State) : Host.Outcome State Fault Refusal :=
  ok (if s.dmc.training = 0 then s else s.dramDone res)

/-! ### Step 7: the Itinerary record -/

/-- The body of the Itinerary record where a copy is valid and of its length (R514). -/
def State.itinRecord (s : State) : Option (List Nat) := (s.settingsRead 4).filter (fun b => b.length == 7968)

/-- A register of fields takes a word. -/
def State.setWord (s : State) (l : List Fld) (i v : Nat) : State := l.foldl (fun st f => st.seti f i (bits v f.top f.lo)) s

/-- Saved pin settings and functions go to the registers (R453, R502). -/
def State.itinPins (s : State) (b : List Nat) : State :=
  let s1 := (List.range 13).foldl (fun st k => st.setWord [IOB_BANK_VIO_SEL, IOB_BANK_VREF] k (leField b (4768 + 4 * k) 4)) s
  let s2 := (List.range 624).foldl (fun st n =>
    st.setWord [IOB_PIN_STD, IOB_PIN_OD, IOB_PIN_PULL, IOB_PIN_DRIVE, IOB_PIN_SLEW, IOB_PIN_TERM] n (leField b (4832 + 4 * n) 4)) s1
  (List.range 624).foldl (fun st n =>
    let f := b.getD (7328 + n) 0
    if f ≠ 0 ∧ funcListed f = true ∧ st.funcFree f = true then (st.funcTake n f).seti GPIO_PIN_FUNC n f else st) s2

/-- Step 7 (Table 16-4): Door table, fabric PLLs, REQUIRED, DRAM_REQUIRED and pins of the record; a record that is missing is treated as
empty. -/
def State.stepItin (s : State) : State :=
  match s.itinRecord with
  | none =>
    let s1 := { s with
      boot := { s.boot with itin := 2, required := 0, dramReq := false }
      fab := { s.fab with pllCtl := List.replicate 16 0, pllOut := List.replicate 16 0 } }
    (s1.noteFail 7).journalWrite 7 0 2 0 0xFF 0xFF
  | some b =>
    let flags := leField b 4 4
    let s1 := { s with
      boot := { s.boot with itin := 1, required := leField b 8 4 % 2 ^ 24, dramReq := bitB flags 2 }
      fab := { s.fab with
        ownTbl := if bitB flags 0 then Assoc.writeRun 0 0 (sliceBytes b 416 3840) [] else s.fab.ownTbl
        pllCtl := (List.range 16).map (fun p => leField b (4512 + 16 * p) 4)
        pllOut := (List.range 16).map (fun p => leField b (4516 + 16 * p) 8) }
      cfg := { s.cfg with tblForce := bitB flags 0 } }
    (if bitB flags 1 then s1.itinPins b else s1).journalWrite 7 0 1 0 0xFF 0xFF

end Sys2Proof.Machine
end

