-- ==== Sys2Proof/Machine/Wake.lean ====
section
/-! DEFINITION. Waking (15): wake sources (R488, R480), the checks of the Luggage list and cold domains (R487, R499), the wake sequence
(R489, R490) and the Night Porter (R491 to R493). -/

namespace Sys2Proof.Machine

open Reg

/-! ### Sources -/

/-- A wake event of a cause wakes from state `st` (Table 15-6): causes 0 to 4 and 16 to 31 as the bits of PWR_WAKE_SRC; 32 a port word, 33 a
Room window access, 34 a KMI POST, which always wake from IDLE and have no bit. -/
def State.wakeOn (s : State) (st cause : Nat) : Bool :=
  let src := s.get PWR_WAKE_SRC
  if cause = 0 then bitB src 0 && decide (2 ≤ st)
  else if cause = 1 then bitB src 1 && decide (3 ≤ st)
  else if cause = 2 ∨ cause = 3 then bitB src cause && (st == 2 || st == 3)
  else if cause = 4 then st == 1 || (bitB src 4 && decide (2 ≤ st))
  else if 16 ≤ cause ∧ cause < 32 then bitB (s.get PWR_WAKE_SRC_GPIO) (cause - 16) && (st == 1 || st == 2)
  else decide (32 ≤ cause) && st == 1

/-- PWR_WAKE_CAUSE records the source; a cause without a bit records nothing. -/
def State.wakeCause (s : State) (cause : Nat) : State := if cause < 32 then s.orBit PWR_WAKE_CAUSE cause else s

/-! ### Luggage and cold domains -/

/-- Domains that a failed bank cold-starts (Table 15-5). -/
def coldOf (bank : Nat) : List Nat :=
  if bank = 3 ∨ bank = 4 then [27] else if bank = 5 then [28, 29] else if bank = 6 then [29] else [25]

/-- PD25 restarts cold: steps 1, 2, 4 and 7 of Table 16-4 under a journal of kind DOMAIN_COLD; mailboxes are IDLE with GEN advanced (R487,
R499). Whether each firmware copy verifies is a free value. -/
def State.coldMgmt (s : State) : State :=
  let gens := (List.range 15).map (fun m => (s.geti KMI_MBX_GEN m + 1) % 16)
  let (v0, s0) := s.fresh
  let (v1, s1) := s0.fresh
  let ok0 := v0 % 2 == 1
  let ok1 := v1 % 2 == 1
  let first := s1.fwFirst
  let s2 := ((s1.mgmtReset).journalOpen 6 (fwCopy first ok0 ok1)).stepShadow.stepRepair
  let s3 := (List.range 15).foldl (fun st m => st.seti KMI_MBX_GEN m (gens.getD m 0)) s2
  let (copy, s4) := s3.stepFirmware first ok0 ok1
  match copy with
  | some c => (s4.fwRuns c).stepItin
  | none => s4

/-- PD27 restarts cold: registers at reset, RATE, CH_EN and delays of the training record, a restore from self-refresh (R487, R499). -/
def State.coldMem (s : State) : State :=
  let s1 := s.blockReset [0x40]
  let s2 := { s1 with dmc := { s1.dmc with subs := List.replicate 4 SubSt.init } }
  let (_, _, rate, ch) := s2.dramPlan
  let s3 := (((s2.set DMC_CFG_RATE rate).set DMC_CFG_CH_EN ch).loadLanes).trainStart 3
  { s3 with boot := { s3.boot with dram := 32 } }

/-- An ingest domain restarts cold (R487): PD28 has lanes 0 to 15 and Line Assemblers 0 to 7, PD29 lanes 16 to 31, Line Assemblers 8 to 15
and the Twin Link (Table 01-5). Its Line Assemblers come back disabled. -/
def State.coldIngest (s : State) (east : Nat) : State :=
  let s1 := s.regReset (fun a => (a / 65536 == 0x20 && decide (a % 65536 < 2048) && a % 65536 / 1024 == east) ||
    (a / 65536 == 0x21 && decide (a % 65536 < 2048) && a % 65536 / 1024 == east) || (east == 1 && a / 65536 == 0x90))
  { s1 with
    ing := { s1.ing with las := (List.range 16).map (fun j => if j / 8 = east then LasSt.init else s1.las j), lanes := s1.ing.lanes.filter (fun e => e.1 / 16 != east) }
    pwr := { s1.pwr with wasActive := clrMask s1.pwr.wasActive (255 * 2 ^ (24 + 8 * east)) }
    twn := if east = 1 then TwnSt.init else s1.twn }

/-- The saved banks whose check fails (R487): the banks of `bad` have an uncorrectable word or a bad signature; a signature word that does not
match SAVE_SEQ, its bank and the state left fails too. -/
def State.luggageBad (s : State) (bad : Nat) : Nat :=
  maskOf ((List.range 8).filter (fun b => bitB (s.get PWR_LUG_STAT_SAVED) b &&
    (bitB bad b || s.pwr.sig.getD b 0 != luggageSig (s.get PWR_LUG_STAT_SAVE_SEQ) b (s.get PWR_STATE_CUR))))

/-- The saved banks that fail their check (R487): FAILED, Ledger entries, the report, and the cold starts. -/
def State.luggageCheck (s : State) (bad : Nat) : State :=
  let b := s.luggageBad bad
  let banks := bitList b 8
  let cold := banks.flatMap coldOf
  let mgmt := banks.any (fun k => k < 3 || k == 7)
  let s1 := if mgmt then s.coldMgmt else s
  let s2 := if cold.contains 27 then s1.coldMem else s1
  let s3 := if cold.contains 28 then s2.coldIngest 0 else s2
  let s4 := if cold.contains 29 then s3.coldIngest 1 else s3
  let s5 := s4.set PWR_LUG_STAT_FAILED (s4.get PWR_LUG_STAT_FAILED ||| b)
  banks.foldl (fun st k => st.ledger 0x0902 k) { s5 with pwr := { s5.pwr with repFailed := b, repCold := maskOf cold } }

/-! ### The Night Porter's resume (R493) -/

/-- Thresholds passed in low-power mode are skipped and recorded; every channel starts a new run. -/
def State.npResume (s : State) : State :=
  let (n, s1) := s.divSkip
  let s2 := { s1 with msu := { s1.msu with enc := s1.msu.enc.map (fun (e : EncSt) => { e with k := 0, stamps := [], since := s1.now }) } }
  let s3 := (s2.set PWR_NP_STAT_SKIPPED (min 0xFFFF n)).set PWR_NP_STAT_ACTIVE 0
  s3.ledger 0x0903 n

/-! ### The wake -/

/-- The mailbox areas that no retention bank holds come back undefined after DEEP SLEEP (Table 15-5, bank 2). -/
def State.areasLost (s : State) : State :=
  (List.range 15).foldl (fun st m =>
    match (st.mbx m).compl with
    | none => st
    | some c =>
      let (l, st1) := st.freshBytes c.dataOut.length
      st1.setMbx m { st1.mbx m with compl := some { c with dataOut := l } }) s

/-- A wake from SLEEP or DEEP SLEEP begins (R489): domains on, Luggage checked, DRAM out of self-refresh, Rooms that were on at entry fill. -/
def State.wakeStart (s : State) (cause t bad : Nat) : State :=
  let st := s.get PWR_STATE_CUR
  let rooms := (bitList s.pwr.wasActive 24).filter (fun r => !bitB (s.get PWR_ROOM_OFF_ROOMS) r && !s.roomOn r)
  let s1 := { s with pwr := { s.pwr with waking := some (cause, t, st), schedWake := none, repState := st, repTime := t, repFailed := 0, repCold := 0 } }
  let s2 := (s1.wakeCause cause).set PWR_DOM_ON (s1.get PWR_DOM_ON ||| 0x3F000000)
  let s3 := if st = 3 then s2.areasLost else s2
  let s4 := s3.luggageCheck bad
  let s5 := if st = 2 then s4.srExit else if s4.dmc.ready && s4.dmc.training == 0 then s4.trainStart 3 else s4
  let s6 := rooms.foldl (fun x r => x.roomPower r) s5.aonDrain
  let s7 := if st == 3 && s6.flag PWR_NP_STAT_ACTIVE then s6.npResume else s6
  if st == 3 && s7.hlk.pmeEn then { s7 with hlk := { s7.hlk with wakeN := true } }.emit (.pin pinWake 0) else s7

/-- A wake from IDLE (R476, R488). -/
def State.wakeIdle (s : State) (cause t : Nat) : State :=
  let s1 := ((s.wakeCause cause).set PWR_WAKE_LAT_LAT_US 0).idleExit
  { s1 with pwr := { s1.pwr with repState := 1, repTime := t, repFailed := 0, repCold := 0 } }

/-- A wake event takes effect in the state in force (R482, R483, R488): a late refusal of a vote, held while an entry has committed. In OFF
it records its cause and asserts WAKE_N; the start follows as OFF_WAKE (R490, R492). -/
def State.wake (s : State) (cause t bad : Nat) : State :=
  match s.pwr.vote, s.pwr.entering with
  | some (target, _), _ => if s.wakeOn target cause then s.voteUndo 0 else s
  | none, some target => if s.wakeOn target cause then { s with pwr := { s.pwr with held := some cause } } else s
  | none, none =>
    let st := s.get PWR_STATE_CUR
    if !s.wakeOn st cause || s.pwr.waking.isSome then s
    else if st = 1 then s.wakeIdle cause t
    else if st = 4 then
      let s1 := { s.wakeCause cause with pwr := { s.pwr with waking := some (cause, t, 4), schedWake := none } }
      if s1.hlk.pmeEn then { s1 with hlk := { s1.hlk with wakeN := true } }.emit (.pin pinWake 0) else s1
    else s.wakeStart cause t bad

/-- A wake whose Luggage check no command has observed: the banks that fail are a free value. -/
def State.wakeFree (s : State) (cause t : Nat) : State :=
  let (v, s1) := s.fresh
  s1.wake cause t (v % 256)

/-- An accepted tick event of source `src` wakes from IDLE and SLEEP always, one from the chain under SYNC (R488); it is a late refusal in a
vote (R482). Code 35 is a tick event that has no bit in PWR_WAKE_CAUSE. -/
def State.wakeTick (s : State) (src t : Nat) : State :=
  let cause := fun (st : Nat) => if src == 1 && s.wakeOn st 2 then 2 else 35
  match s.pwr.vote, s.pwr.entering with
  | some _, _ => s.voteUndo 0
  | none, some target =>
    if target = 2 ∨ cause target = 2 then { s with pwr := { s.pwr with held := some (cause target) } } else s
  | none, none =>
    let st := s.get PWR_STATE_CUR
    if s.pwr.waking.isSome then s
    else if st = 1 then s.wakeIdle 35 t
    else if st = 2 ∨ (st = 3 ∧ cause 3 = 2) then
      let (v, s1) := s.fresh
      s1.wakeStart (cause st) t (v % 256)
    else s

/-! ### Meanings -/

/-- WAKE (R488): `badBanks` are the retention banks whose check fails. -/
def execWake (cause t badBanks : Nat) (s : State) : Host.Outcome State Fault Refusal := ok ((s.setNow t).wake cause t badBanks)

/-- The scheduled wake arrives (R480). -/
def execScheduledWake (t : Nat) (s : State) : Host.Outcome State Fault Refusal :=
  let s := s.setNow t
  match s.pwr.schedWake with
  | none => ok s
  | some w => ok (if timeGe t w then ({ s with pwr := { s.pwr with schedWake := none } }).wakeFree 4 t else s)

/-- ENTRY_COMPLETE (R483): the state is entered; a wake held since the commit acts, timed from here. -/
def execEntryComplete (t : Nat) (s : State) : Host.Outcome State Fault Refusal :=
  let s := s.setNow t
  match s.pwr.entering with
  | none => ok s
  | some target =>
    if s.get BST_STAT_STATE ≠ 0 then ok s
    else
      let s1 := { s with pwr := { s.pwr with entering := none, held := none } }.set PWR_STATE_CUR target
      match s.pwr.held with
      | none => ok s1
      | some cause => ok (if cause = 35 then s1.wakeTick 0 t else s1.wakeFree cause t)

/-- WAKE_COMPLETE (R489, R490): Rooms and DRAM are back; participants restart in reverse STOP order, the state is RUN, WAKE is posted. -/
def execWakeComplete (t : Nat) (s : State) : Host.Outcome State Fault Refusal :=
  let s := s.setNow t
  match s.pwr.waking with
  | none => ok s
  | some (_, t0, st) =>
    if st = 4 ∨ s.cfg.filling ≠ 0 ∨ s.dmc.training ≠ 0 then ok s
    else
      let s1 := ({ s with pwr := { s.pwr with waking := none } }.set PWR_STATE_CUR 0).set PWR_WAKE_LAT_LAT_US (elapsed t t0 / 256000)
      let s2 := ({ s1 with pwr := { s1.pwr with padHold := none } }.partsRestart 11).restartTrees.handReleaseAll
      let s3 := (List.range 24).foldl (fun x r => x.roomPinsUpdate r) s2
      ok (s3.event 0x0002 0x09 s3.wakeC0 s3.pwr.repCold)

/-- A sample of the Night Porter, PERIOD_MS after the last (R492): `pos` are the whole positions of the channels as they have counted in low-power mode. MOVED starts
the wake. -/
def execNightPorterSample (t : Nat) (pos : List Int) (s : State) : Host.Outcome State Fault Refusal :=
  let s := s.setNow t
  if s.get PWR_NP_STAT_ACTIVE = 0 ∨ s.get PWR_STATE_CUR < 3 ∨
      timeGe t (s.pwr.npAt + msUnits (max 1 (s.get PWR_NP_CTRL_PERIOD_MS))) = false then ok s
  else
    let s1 := { s with pwr := { s.pwr with npAt := t }, msu := { s.msu with enc := (List.range 8).map (fun ch =>
      let e := s.msu.enc.getD ch EncSt.init
      if s.flagi MSU_ENC_CTRL_EN ch then { e with p := signed 48 (encodeInt 48 (pos.getD ch e.p)) } else e) } }
    let ch := s.get PWR_NP_CTRL_CH
    let d := ((s1.msu.enc.getD ch EncSt.init).p - s.pwr.npRef).natAbs
    if max 1 (s.get PWR_NP_THRESH_COUNTS) ≤ d then ok ((s1.set PWR_NP_STAT_MOVED 1).wakeFree 1 t) else ok s1

end Sys2Proof.Machine
end

