-- ==== Sys2Proof/Machine/HostAccess.lean ====
section
/-! DEFINITION. Host accesses that may wake the part (07, 15): doorbells, Room windows and D-states by device power state (Table 07-7, R244,
Table 15-6). -/

namespace Sys2Proof.Machine

open Reg

/-- PD26 serves memory requests: in DEEP SLEEP and OFF it does not (Table 07-7). -/
def State.hostServed (s : State) : Bool := s.domOn 26 && !s.hlk.perstLow && decide (s.get PWR_STATE_CUR < 3)

/-- A host access is a wake event of some causes (Table 15-6): in RUN with no vote and no entry there is nothing to wake. -/
def State.hostWake (s : State) (causes : List Nat) (t : Nat) : State :=
  if s.get PWR_STATE_CUR = 0 ∧ s.pwr.vote.isNone = true ∧ s.pwr.entering.isNone = true then s
  else causes.foldl (fun st c => if st.wakeOn ((st.pwr.vote.map (·.1)).getD (st.pwr.entering.getD (st.get PWR_STATE_CUR))) c then st.wakeFree c t else st) s

/-- A doorbell write (R267), accepted in SLEEP too, where it starts a device wake (R244); a read is a BAR access and does so likewise. -/
def execDoorbell (fn idx : Nat) (sqPi cqWord : Option Nat) (t : Nat) (s : State) : Host.Outcome State Fault Refusal :=
  if 64 ≤ fn then .fault .noSuchUnit
  else
    let s := s.setNow t
    if !s.hostServed then ok s else ok (((s.touchSleep).hostWake [0] t).doorbell fn idx sqPi cqWord)

/-- A host access to BAR4 (R233, R234): it wakes from IDLE, and from SLEEP as a BAR access (R488). -/
def execWindowRequest (offset len : Nat) (read : Bool) (data : List Nat) (tag : Nat) (s : State) : Host.Outcome State Fault Refusal :=
  if !s.hostServed || len == 0 then ok s else ok ((s.hostWake [0, 33] s.now).windowAccess offset len read data tag)

/-- A function changes its D-state (R244): a transition to D0 in DEEP SLEEP starts a device wake. -/
def execDStateChange (fn : Nat) (d3hot : Bool) (s : State) : Host.Outcome State Fault Refusal :=
  if 65 ≤ fn then .fault .noSuchUnit
  else
    let s1 := s.dState fn d3hot
    ok (if bitB s.hlk.d3 fn && !d3hot && s.get PWR_STATE_CUR == 3 then s1.hostWake [0] s1.now else s1)

/-- A POST doorbell (R390): it wakes from IDLE always, and from SLEEP as a BAR access (R488). -/
def execMbxPost (m : Nat) (cmd : KmiCmd) (s : State) : Host.Outcome State Fault Refusal :=
  if 15 ≤ m then .fault .noSuchUnit
  else if s.pf0Reach = false then ok s
  else ok (((s.touchSleep).hostWake [0, 34] s.now).mbxPost m cmd)

/-- PERST_N rises (R228); in OFF it is a wake event (Table 15-6). -/
def execPerstNRelease (t : Nat) (s : State) : Host.Outcome State Fault Refusal :=
  let s := s.setNow t
  let s1 := s.perstRelease t
  ok (if s.hlk.perstLow && s.get PWR_STATE_CUR == 4 then s1.hostWake [0] t else s1)

/-- A level on an interrupt line's pin, held for a count of CD89 cycles (R467): it counts once it has held FILT of them; a line with no port
or a disabled input sees nothing. A new PEND is a wake event (R488). -/
def execGpioIrq (q : Nat) (x : IrqLevel) (s : State) : Host.Outcome State Fault Refusal :=
  if 16 ≤ q then .fault .noSuchUnit
  else if !s.irqOn q then ok s
  else
    let s1 := s.seeLevel (s.irqPin q) x.level
    let s2 := if s.geti GPIO_IRQ_FILT q ≤ x.cycles then s1.irqInput q x.level else s1
    ok (if bitB (s2.get GPIO_IRQ_STAT_PEND) q && !bitB (s.get GPIO_IRQ_STAT_PEND) q then s2.hostWake [16 + q] s2.now else s2)

end Sys2Proof.Machine
end

