-- ==== Sys2Proof/Machine/Link.lean ====
section
/-! DEFINITION. Messages of the Sync Chain and of TWIN_SYNC: their bytes (R94, R95), what a unit puts into them, and where they
leave. `tw` is false for the chain, true for the twin (R516). K28.5 and K28.1 stand as the bytes 0xBC and 0x3C, and multi-byte fields are
little-endian (DEDUCED, log entry 24). -/

namespace Sys2Proof.Machine

open Reg

/-! ### Downstream messages (R94) -/

/-- A downstream message of 20 symbols; `tail` is offsets 14 to 17. -/
def downMsg (type flags hop tick time : Nat) (tail : List Nat) : List Nat :=
  let b := [type % 16 + 16 * (flags % 16), hop % 64] ++ leBytes 6 tick ++ leBytes 5 time ++ sliceBytes tail 0 4
  0xBC :: b ++ leBytes 2 (crc16 b)

/-- The mode-change fields at offsets 14 to 17. -/
def mcTail (f : Nat × Nat × Nat × Nat) : List Nat := [f.1 % 16 + 16 * (f.2.1 % 16)] ++ leBytes 2 f.2.2.1 ++ [f.2.2.2 % 256]

/-- A downstream message arrived whole and its CRC checks. -/
def downGood (msg : List Nat) : Bool :=
  msg.length == 20 && msg.headD 0 == 0xBC && crc16 (sliceBytes msg 1 17) == leField msg 18 2

/-- TYPE. -/
def downType (msg : List Nat) : Nat := bits (msg.getD 1 0) 3 0

/-- FLAGS.RESTART. -/
def downRestart (msg : List Nat) : Bool := bitB (msg.getD 1 0) 4

/-- HOP. -/
def downHop (msg : List Nat) : Nat := bits (msg.getD 2 0) 5 0

/-- TICKNO. -/
def downTick (msg : List Nat) : Nat := leField msg 3 6

/-- TIME. -/
def downTime (msg : List Nat) : Nat := leField msg 9 5

/-- DELAY of a CAL message. -/
def downDelay (msg : List Nat) : Nat := leField msg 14 4

/-- The time nearest to the time counter whose bits [39:0] are `v`. -/
def State.wholeTime (s : State) (v : Nat) : Nat :=
  let d := (v + (2 ^ 40 - s.now % 2 ^ 40)) % 2 ^ 40
  if d < 2 ^ 39 then (s.now + d) % 2 ^ 64 else (s.now + 2 ^ 64 - (2 ^ 40 - d)) % 2 ^ 64

/-- The message as the forwarder sends it: HOP rewritten and the CRC regenerated, inverted where the incoming CRC failed (R91). -/
def downForward (msg : List Nat) (hop : Nat) : List Nat :=
  let b := [msg.getD 1 0, 64 * bits (msg.getD 2 0) 7 6 + hop % 64] ++ sliceBytes msg 3 15
  0xBC :: b ++ leBytes 2 (if downGood msg then crc16 b else 0xFFFF - crc16 b)

/-! ### Upstream messages (R95) -/

/-- An upstream message of 14 symbols; `tick` is TICKNO or TURN. -/
def upMsg (type count tick state seq hop alarm : Nat) : List Nat :=
  let b := [type % 16, count % 128] ++ leBytes 6 tick ++ [state % 16 + 16 * (seq % 16), hop % 64, alarm % 8]
  0x3C :: b ++ leBytes 2 (crc16 b)

/-- An upstream message arrived whole and its CRC checks. -/
def upGood (msg : List Nat) : Bool :=
  msg.length == 14 && msg.headD 0 == 0x3C && crc16 (sliceBytes msg 1 11) == leField msg 12 2

/-- TYPE. -/
def upType (msg : List Nat) : Nat := bits (msg.getD 1 0) 3 0

/-- COUNT. -/
def upCount (msg : List Nat) : Nat := bits (msg.getD 2 0) 6 0

/-- TICKNO or TURN. -/
def upTick (msg : List Nat) : Nat := leField msg 3 6

/-- What a STATUS message reports. -/
def upStatus (msg : List Nat) : StatusRec :=
  ⟨upTick msg, upCount msg, bits (msg.getD 9 0) 3 0, bits (msg.getD 9 0) 7 4, bits (msg.getD 10 0) 5 0, bits (msg.getD 11 0) 2 0⟩

/-! ### What a unit sends -/

/-- The port is on. -/
def State.linkOn (s : State) (tw : Bool) : Bool := if tw then s.flag TWN_CTRL_EN else s.flag SYC_CTRL_EN

/-- The unit receives from an upstream unit: a member, or the twin's Companion. -/
def State.linkMember (s : State) (tw : Bool) : Bool := s.mcMember tw

/-- The unit transmits downstream: the master, a member that is not END, or the twin's Lead (R88, R516). -/
def State.linkDown (s : State) (tw : Bool) : Bool := s.mcMaster tw || (!tw && s.mcMember false && !s.flag SYC_CTRL_END)

/-- A message leaves downstream. -/
def State.sendDown (s : State) (tw : Bool) (msg : List Nat) : State :=
  if s.linkDown tw then s.emit (if tw then .twin 0 msg else .sync false msg) else s

/-- A message leaves upstream. -/
def State.sendUp (s : State) (tw : Bool) (msg : List Nat) : State := s.emit (if tw then .twin 0 msg else .sync true msg)

/-- A CAL message still leaves: its 20 symbols take 160 ns (R93, R94). -/
def State.calRuns (s : State) (tw : Bool) : Bool :=
  match (if tw then s.twn.calAt else s.syc.calAt) with
  | some a => timeGe s.now a && !timeGe s.now (a + nsUnits 160)
  | none => false

/-- A tick or merge message leaves downstream: a CAL message in progress ends with the K30.7 abort symbol, here 0xFE (R93). -/
def State.sendTick (s : State) (tw : Bool) (msg : List Nat) : State :=
  let s1 := if s.calRuns tw then
      let s0 := s.sendDown tw [0xFE]
      if tw then { s0 with twn := { s0.twn with calAt := none } } else { s0 with syc := { s0.syc with calAt := none } }
    else s
  s1.sendDown tw msg

/-- A message of the master with its flags and mode-change fields: TYPE 0 TICK, 1 MERGE, 3 ENUM, 4 STOP (R94, R106). Only a master originates
one; a member forwards (R91). -/
def State.masterMsg (s : State) (tw : Bool) (type : Nat) (restart : Bool) (tick time : Nat) : State :=
  if s.mcMaster tw then
    let msg := downMsg type (b2n restart + 2 * s.get MSU_TB_STAT_HOLDOVER) (s.mcHop tw) tick time (mcTail (s.mcFields tw (type != 0)))
    if type < 2 then s.sendTick tw msg else s.sendDown tw msg
  else s

/-- The unit's own alarm bits (Table 03-5); a CRC error is one since the last STATUS sent (DEDUCED, log entry 24). -/
def State.linkAlarm (s : State) (tw : Bool) : Nat :=
  (if tw then s.get TWN_STAT_LATE_MSG else s.get SYC_STAT_LATE_MSG) +
  2 * b2n (if tw then s.twn.crcSeen else s.syc.crcSeen) + 4 * b2n (!s.flag MSU_TB_STAT_LOCKED)

/-- The unit's own status of a tick, COUNT = 1 (R96). -/
def State.ownStatus (s : State) (tw : Bool) (tick : Nat) : StatusRec :=
  ⟨tick, 1, s.mcCode tw, (s.mc tw).seq, s.mcHop tw, s.linkAlarm tw⟩

/-- A STATUS leaves upstream. -/
def State.sendStatus (s : State) (tw : Bool) (r : StatusRec) : State :=
  (if tw then { s with twn := { s.twn with crcSeen := false } } else { s with syc := { s.syc with crcSeen := false } }).sendUp tw (upMsg 0 r.count r.tick r.state r.seq r.firstHop r.alarm)

/-- A member's STATUS built on the one from downstream (R96). -/
def State.addStatus (s : State) (d : StatusRec) : StatusRec :=
  let o := s.ownStatus false d.tick
  ⟨d.tick, d.count + 1, max o.state d.state, o.seq, if d.state ≤ o.state then o.firstHop else d.firstHop, o.alarm ||| d.alarm⟩

/-- Slot 6 on a member: END sends the STATUS of the tick accepted, any other member owes it until downstream has reported (R96). On the
Companion of a twin, as END. -/
def State.memberStatus (s : State) (tw : Bool) (tick : Nat) : State :=
  if !s.mcMember tw then s
  else if tw || s.flag SYC_CTRL_END then s.sendStatus tw (s.ownStatus tw tick)
  else { s with syc := { s.syc with owed := some tick } }

/-- Slot 0 of the next boundary: a STATUS still owed goes out with COUNT = 1 (R96). -/
def State.owedStatus (s : State) : State :=
  match s.syc.owed with
  | some t => ({ s with syc := { s.syc with owed := none } }).sendStatus false (s.ownStatus false t)
  | none => s

end Sys2Proof.Machine
end

