-- ==== Sys2Proof/Machine/TwinCore.lean ====
section
/-! DEFINITION. The twin inside a boundary (17): mode and role, the header page (R529), takeover and detach (R532, R533, R535), the role
swap (R537), tick digests and records (R524 to R526), checkpoints (R527, R528) and held completions (R534). -/

namespace Sys2Proof.Machine

open Reg

/-- What a boundary knows: the tick opened, its times of record (the unit's own and the master's), whether it is the first after enable
(R34), the ticks it closes, the Rooms that took part in them, overran, or had both trees running at slot 1, whether it ends a stopped tick,
and whether its event was substituted. -/
structure Bd where
  tick : Nat
  tor : Nat
  master : Nat
  first : Bool
  closed : List Nat
  part : Nat
  ovr : Nat
  ran : Nat
  restart : Bool
  subst : Bool
  deriving DecidableEq, Repr

/-- The tick source becomes `v` (R36): TCK_EVENTS.SRC_SWITCHED; TIMER times its first event from `t` (R606); TICKNO_LOAD reads 0 under CHAIN
and TWIN (R37). -/
def State.srcTo (s : State) (v t : Nat) : State :=
  let s1 := (s.set TCK_SRC_ACTIVE v).set TCK_EVENTS_SRC_SWITCHED 1
  let s2 := if v = 1 ∨ v = 4 then s1.set TCK_CTRL_TICKNO_LOAD 0 else s1
  { s2 with tick := { s2.tick with timerAnchor := if v = 2 then some t else none, timerWrite := none } }

/-! ### Mode, role, header page -/

/-- The mode and the role of the twin; each change is posted as TWIN_ROLE, and the TWIN_ROLE pin follows the role (R518, R519). -/
def State.twinSet (s : State) (mode role : Nat) : State :=
  let s1 := (s.set TWN_STAT_MODE mode).set TWN_STAT_ROLE role
  let s2 := if s.get TWN_STAT_ROLE = role then s1 else s1.emit (.pin pinTwinRole role)
  let s3 := if mode = 0 then s2.set TWN_STAT_DIV_ALIGNED 0 else s2
  if s.get TWN_STAT_MODE = mode ∧ s.get TWN_STAT_ROLE = role then s3 else s3.event 0x0005 0x0B (mode + 4 * role) 0

/-- TWN_CKPT_BASE (R527). -/
def State.ckptBase (s : State) : Nat := s.get TWN_CKPT_BASE_LO + 2 ^ 32 * s.get TWN_CKPT_BASE_HI

/-- The slot of tick `n` (R527). -/
def State.ckptSlot (s : State) (n : Nat) : Nat :=
  s.ckptBase + 4096 + n % max 1 (s.get TWN_CKPT_GEOM_SLOTS) * (64 * s.get TWN_CKPT_GEOM_LINES)

/-- Size of the checkpoint region. -/
def State.ckptSize (s : State) : Nat := 4096 + max 1 (s.get TWN_CKPT_GEOM_SLOTS) * (64 * s.get TWN_CKPT_GEOM_LINES)

/-- The unit writes its own header page (R529). -/
def State.headerPage (s : State) : State :=
  let role := if s.get TWN_STAT_MODE = 0 then 2 else s.get TWN_STAT_ROLE
  let page := leBytes 4 (s.get TWN_CKPT_TICK_LO_TICK) ++ leBytes 2 (s.get TWN_CKPT_TICK_HI_TICK) ++ [role, 0]
    ++ leBytes 4 (s.get TWN_TAKE_TICK_LO_TICK) ++ leBytes 2 (s.get TWN_TAKE_TICK_HI_TICK)
  if s.dpaOk s.ckptBase 4096 then s.dramWrite 210 s.ckptBase (sliceBytes page 0 4096) false else s

/-! ### Takeover, loss, role swap -/

/-- A new Lead's time base continues in holdover where it was locked to the twin (R83, R532). -/
def State.twinHoldover (s : State) : State := if s.tbSrc = 4 then s.tbLost else s

/-- What the unit held of its partner is forgotten. -/
def State.twinForget (s : State) : State :=
  { s with twn := { s.twn with
      recTick := none, substRun := 0, syncLost := false, deadline := none, shadowTick := none, own := [], theirs := [], misRun := 0, takeDue := false, swapDue := false
      ckpt := none, ckptWait := [], leadPos := [] } }

/-- A Companion becomes ALONE as at a takeover, in the boundary that opens `tick` (R532, Table 17-6). -/
def State.twinTakeover (s : State) (tick tor : Nat) : State :=
  let s1 := (((s.srcTo 0 tor).twinHoldover).twinForget).twinSet 0 0
  let s2 := ((s1.set TWN_STAT_TOOK_OVER 1).set TWN_TAKE_TICK_LO_TICK tick).set TWN_TAKE_TICK_HI_TICK (tick / 2 ^ 32)
  (s2.ledger 0x0B06 tick).headerPage

/-- The unit becomes ALONE with its outputs, tick source and rings unchanged (R533). -/
def State.twinAlone (s : State) : State := (s.twinForget).twinSet 0 0

/-- R38 on a Companion whose TWIN source has lost its link, which is when the Lead is declared lost (R523). -/
def State.twinSrcLost (s : State) : State := (s.set TCK_STATUS_SRC_LOST 1).set TCK_EVENTS_SRC_LOST 1

/-- TRIG drivers of a unit that detaches as Companion stay high-impedance under TRIG_SHARE (Table 17-6). -/
def State.twinHiZ (s : State) : State := { s with twn := { s.twn with trigHiZ := s.flag TWN_CTRL_TRIG_SHARE } }

/-- Slot 0 of the boundary after a role swap's T: the roles change and the mode change ends (R537; DEDUCED, log entry 23). -/
def State.twinSwap (s : State) : State :=
  if s.twn.swapDue then
    let role := 1 - s.get TWN_STAT_ROLE
    let s1 := { s with twn := { s.twn with swapDue := false, trigHiZ := false } }
    let s2 := (if role = 0 then s1.twinHoldover else s1).twinSet (s.get TWN_STAT_MODE) role
    ((s2.set TWN_MC_STAT_OUTCOME 1).twinResult 1).mcFinal true 0
  else s

/-- A loss declared earlier takes effect at slot 0 (R532, R533). -/
def State.twinLoss (s : State) (b : Bd) : State :=
  if s.twn.takeDue then
    if s.flag TWN_STAT_ROLE then
      if s.flag TWN_CTRL_TAKEOVER then s.twinTakeover b.tick b.tor else s.twinAlone
    else s.twinAlone
  else s

/-! ### Local actions of twin mode changes (Table 17-6) -/

/-- What an action can be taken back to: mode, role, tick source, engine enable. -/
def State.twinUndoRec (s : State) : Nat × Nat × Nat × Nat :=
  (s.get TWN_STAT_MODE, s.get TWN_STAT_ROLE, s.get TCK_SRC_ACTIVE, s.get TCK_CTRL_EN)

/-- The action of a mode identifier at slot 0 of boundary T. -/
def State.twinAct (s : State) (b : Bd) : State :=
  let m := s.mc true
  let u := s.twinUndoRec
  let s1 :=
    if m.mode = 0xFF00 then
      if s.flag TWN_STAT_ROLE then (s.twinTakeover b.tick b.tor).twinHiZ else s.twinAlone
    else if m.mode = 0xFF03 then s
    else
      let s2 := if s.get TWN_STAT_MODE = 0 then s.twinForget else s
      let s3 := s2.twinSet (m.mode - 0xFF00) (b2n s.twinCompanion)
      { s3 with twn := { s3.twn with from_ := m.t, trigHiZ := false } }
  let k := s1.mc true
  { s1 with twn := { s1.twn with mc := { k with acted := true }, undo := some u } }.setMcCode true 2

/-- A twin action is taken back (R107). -/
def State.twinUndo (s : State) : State :=
  match s.twn.undo with
  | none => s
  | some (mode, role, src, en) =>
    let s1 := { s with twn := { s.twn with undo := none, swapDue := false } }.twinSet mode role
    let s2 := if s1.get TCK_SRC_ACTIVE = src then s1 else s1.srcTo src s1.now
    if en = 0 then s2.set TCK_CTRL_EN 0 else s2

/-- Slot 0 of twin mode changes that are not changeovers. -/
def State.twinMode (s : State) (b : Bd) : State :=
  let m := s.mc true
  if decide (m.mode < 0xFF00) || !m.isOpen then s
  else if (m.committed && !m.acted && s.mcAt true) || (s.mcDue true 5 && s.mcCode true == 6) || (m.localReq == 2 && s.twn.undo.isNone) then s.twinAct b
  else if s.mcDue true 6 || m.localReq == 1 then s.twinUndo
  else s

/-- Slot 0 of the twin. -/
def State.twinSlot0 (s : State) (b : Bd) : State := (((s.twinSwap).twinLoss b).mcSlot0 true).twinMode b

/-- The end of boundary T of a role swap: the event that starts tick T + 1 comes from the new Lead's divider, and from the twin on the new
Companion (R537). -/
def State.twinSwapArm (s : State) : State :=
  let m := s.mc true
  if m.isOpen && m.mode == 0xFF03 && m.acted && s.mcCode true == 2 && s.twn.undo.isSome && !s.twn.swapDue then
    let s1 := s.srcTo (if s.flag TWN_STAT_ROLE then 0 else 4) s.now
    { s1 with twn := { s1.twn with swapDue := true, undo := none } }
  else s

/-! ### Digests and records (R524 to R526) -/

/-- Bytes of the marked Doors of a Room, packed from bit 0 (R525). -/
def State.digestDoors (s : State) (r : Nat) : List Nat :=
  let ds := ((List.range 1024).filter (fun g => bitB (s.doorRec r g) 8)).flatMap (fun g => [4 * g, 4 * g + 1, 4 * g + 2, 4 * g + 3])
  let v := ds.map (fun d => if bitB (s.doorRec r (d / 4)) 1 then s.doorLink r d else Assoc.get 0 (4096 * r + d) s.fab.door)
  (List.range ((v.length + 7) / 8)).map (fun i => maskOf ((List.range 8).filter (fun k => v.getD (8 * i + k) 0 == 1)))

/-- The digest of a Room for a tick (R525). -/
def State.digest (s : State) (r tick : Nat) : Nat := crc32 (leBytes 6 tick ++ s.digestDoors r)

/-- A position noted for a tick (R521, R524). -/
def State.posAt (s : State) (tick : Nat) : Option Int := (s.twn.leadPos.find? (fun e => e.1 == tick)).map (·.2)

/-- The forward position at the Lead's time of record of the tick opened is noted (R521, Table 17-3). -/
def State.notePos (s : State) (b : Bd) : State :=
  if s.get TWN_STAT_MODE = 0 then s
  else { s with twn := { s.twn with leadPos := ((b.tick, s.divQ b.master) :: s.twn.leadPos).take 16 } }

/-- A checkpoint follows the record: STANDBY, on the Lead, LINES ≠ 0 (Table 17-1, R527). -/
def State.ckptOn (s : State) : Bool :=
  s.get TWN_STAT_MODE == 2 && !s.flag TWN_STAT_ROLE && s.get TWN_CKPT_GEOM_LINES != 0

/-- The record of the ticks a boundary closed (Table 17-3). -/
def State.ownRecord (s : State) (b : Bd) : TwnRec :=
  let tick := b.closed.getLastD 0
  let part := b.part &&& b.ran
  let ck := s.ckptOn
  let divofs := if s.flag TWN_STAT_ROLE then 0 else match s.posAt tick with
    | some p => encodeInt 64 ((s.theta : Int) - p)
    | none => 0
  ⟨tick, min 7 b.closed.length, b2n ck + 2 * b2n b.subst, part, b.ovr, divofs,
    (List.range 24).map (fun r => if bitB part r then s.digest r tick else 0), if ck then 64 * s.get TWN_CKPT_GEOM_LINES else 0⟩

/-- The 128 bytes of a record. -/
def twnBytes (r : TwnRec) : List Nat :=
  let b := leBytes 6 r.tick ++ [r.closed, r.flags] ++ leBytes 4 r.part ++ leBytes 4 r.ovr ++ leBytes 8 r.divofs
    ++ r.digest.flatMap (leBytes 4) ++ leBytes 4 r.ckpt
  b ++ leBytes 4 (crc32 b)

/-- A record received whole; none where its CRC fails. -/
def twnRecord (b : List Nat) : Option TwnRec :=
  if b.length = 128 ∧ crc32 (b.take 124) = leField b 124 4 then
    some ⟨leField b 0 6, b.getD 6 0, b.getD 7 0, leField b 8 4 % 2 ^ 24, leField b 12 4 % 2 ^ 24, leField b 16 8,
      (List.range 24).map (fun n => leField b (24 + 4 * n) 4), leField b 120 4⟩
  else none

/-- Two records of one tick are compared (R526). -/
def State.recCompare (s : State) (x y : TwnRec) : State :=
  let mis := roomMask (fun r => bitB x.part r != bitB y.part r || x.digest.getD r 0 != y.digest.getD r 0)
  let s1 := ((s.set TWN_DIG_MIS_ROOMS (s.get TWN_DIG_MIS_ROOMS ||| mis)).set TWN_DIG_OVR_ROOMS (s.get TWN_DIG_OVR_ROOMS ||| (x.ovr ^^^ y.ovr)))
  let s2 := (s1.set TWN_DIG_TICK_LO_TICK x.tick).set TWN_DIG_TICK_HI_TICK (x.tick / 2 ^ 32)
  let s3 := if mis = 0 then s2 else s2.inc TWN_CNT_MISMATCH
  let s4 := ((bitList mis 24).filter (fun r => !bitB s.twn.misRun r)).foldl (fun st r => st.ledger 0x0B02 (r + 2 ^ 8 * x.tick)) s3
  { s4 with twn := { s4.twn with misRun := mis } }

/-- The own record of a tick meets the partner's where that one is here, and waits for it otherwise. -/
def State.recOwn (s : State) (x : TwnRec) : State :=
  match s.twn.theirs.find? (fun y => y.tick == x.tick) with
  | some y => ({ s with twn := { s.twn with theirs := s.twn.theirs.filter (fun z => !tickGe x.tick z.tick) } }).recCompare x y
  | none => { s with twn := { s.twn with own := s.twn.own ++ [x] } }

/-- Own records that the partner has not answered in time are not compared (R526). -/
def State.recLate (s : State) : State :=
  if s.twn.own.isEmpty then s
  else ({ s with twn := { s.twn with own := [], misRun := 0 } }).addi TWN_CNT2_DIG_LATE 0 s.twn.own.length

/-! ### Checkpoints (R527, R528) -/

/-- A checkpoint starts: the Lead reads the slot of tick `n` line by line and sends it. -/
def State.ckptStart (s : State) (n : Nat) : State :=
  let base := s.ckptSlot n
  let (data, s1) := (List.range (s.get TWN_CKPT_GEOM_LINES)).foldl (fun (p : List Nat × State) i =>
      let (d, bad, st) := p.2.dramRead 210 (base + 64 * i) 64
      (p.1 ++ d, match bad with
        | some l => (st.inc TWN_CNT2_CKPT_UE).ledger 0x0B03 (64 * l)
        | none => st)) ([], s)
  { s1.emit (.twin 3 data) with twn := { s1.twn with ckpt := some n } }

/-- A checkpoint is due: at once, or behind the one that still runs. -/
def State.ckptDue (s : State) (n : Nat) : State :=
  if s.twn.ckpt.isSome then { s with twn := { s.twn with ckptWait := s.twn.ckptWait ++ [n] } } else s.ckptStart n

/-- Slot 5: the digest latches; the record of the closed ticks is made, compared and sent, with its checkpoint (R524). The Twin Link sends no
record once it has stopped in a vote (R538). -/
def State.twinSlot5 (s : State) (b : Bd) : State :=
  if s.get TWN_STAT_MODE = 0 ∨ b.first = true ∨ s.partStopped 2 = true ∨ tickGe (b.closed.getLastD 0) s.twn.from_ = false then s
  else
    let x := s.ownRecord b
    let s1 := (List.range 24).foldl (fun st r => st.seti TWN_DIG_CRC r (x.digest.getD r 0)) s
    let s2 := if s.get TWN_STAT_MODE = 1 then (s1.recLate).recOwn x else s1
    let s3 := s2.emit (.twin 1 (twnBytes x))
    if s.ckptOn then s3.ckptDue x.tick else s3

/-! ### Held completions (R534) -/

/-- The unit holds the completions of Rooms in a digest past slot 4: a STANDBY Companion, but not in the boundary at which its role ends. -/
def State.standby (s : State) : Bool :=
  s.get TWN_STAT_MODE == 2 && s.flag TWN_STAT_ROLE && !((s.mc true).isOpen && (s.mc true).mode == 0xFF03 && (s.mc true).acted)

/-- The ticks of a list of completions, oldest first, each once. -/
def complTicks (l : List RingCompl) : List Nat := l.foldl (fun acc c => if acc.contains c.tick then acc else acc ++ [c.tick]) []

/-- Completions of one ring that a STANDBY Companion discards: those the Lead has posted, then the oldest beyond HOLD_TICKS. -/
def State.standbyKeep (s : State) (l : List RingCompl) : List RingCompl :=
  let l1 := match s.twn.recTick with
    | some n => l.filter (fun c => !tickGe n c.tick)
    | none => l
  let ticks := complTicks l1
  let kept := ticks.drop (ticks.length - max 1 (s.get TWN_HOLD_HOLD_TICKS))
  l1.filter (fun c => kept.contains c.tick)

/-- Held completions are discarded as R534 says. -/
def State.standbyTrim (s : State) : State :=
  s.boundRings.foldl (fun st r =>
    let l := (st.ring r).stby
    if l.isEmpty then st
    else
      let k := st.standbyKeep l
      (st.setRing r { st.ring r with stby := k }).addi TWN_CNT3_HELD_DROP 0 (l.length - k.length)) s

/-- Every held completion is posted, in tick order (R534, Table 17-5). -/
def State.standbyPost (s : State) : State :=
  s.boundRings.foldl (fun st r =>
    let k := st.ring r
    if k.stby.isEmpty then st
    else
      (((st.setRing r { k with stby := [], due := k.due ++ k.stby, pendFence := true }).addi TWN_CNT3_HELD_POSTED 0 k.stby.length).pumpRing r).ringIrq r) s

/-- Slot 4: held completions post where the unit holds none any more; `keep` names the Rooms whose rings hold theirs. -/
def State.twinSlot4 (s : State) (b : Bd) : Nat × State :=
  if s.standby then (b.part &&& b.ran, s) else (0, s.standbyPost)

end Sys2Proof.Machine
end

