-- ==== Sys2Proof/Machine/Boundary.lean ====
section
/-! DEFINITION. The tick boundary (02): how an event of a source is judged (R60 to R63), merged events (R61, Table 02-7), and the eight slots of
the boundary sequence (R49, Table 02-4) in their order. -/

namespace Sys2Proof.Machine

open Reg

/-! ### Ticks -/

/-- The source follows a master or a partner: CHAIN or TWIN (R37). -/
def State.follows (s : State) : Bool := s.get TCK_SRC_ACTIVE == 1 || s.get TCK_SRC_ACTIVE == 4

/-- The tick the unit's own source opens next (R31, R34). -/
def State.nextTick (s : State) : Nat :=
  if s.flag TCK_CTRL_TICKNO_LOAD then s.get TCK_TICKNO_SET_LO + 2 ^ 32 * s.get TCK_TICKNO_SET_HI else tickAdd s.tickno 1

/-- The ticks that a boundary opening `tick` closes (R34, R37): the open tick with its merged ones; under CHAIN and TWIN every tick up to the
one opened. -/
def State.closedBy (s : State) (tick : Nat) : List Nat :=
  let o := s.tick.opened
  let d := (tick + (tickMod - o % tickMod)) % tickMod
  let n := if s.follows then (if 1 ≤ d ∧ d < 2 ^ 47 then d else 1) else (s.tickno + (tickMod - o % tickMod)) % tickMod + 1
  if s.tick.firstDue then [] else (List.range n).map (tickAdd o)

/-! ### Slot 0 -/

/-- Completion outcomes of the closed ticks, judged once (R44, R55, R59): the Rooms that overran, and the records. -/
def State.outcomes (s : State) (closed : List Nat) : Nat × State :=
  if closed.isEmpty then (0, s)
  else
    let ovr := clrMask s.tick.part (s.get TCK_DONE_ROOMS)
    let late := s.tick.part &&& s.tick.lateDone
    let s1 := (s.set TCK_OVR_ROOMS (s.get TCK_OVR_ROOMS ||| ovr)).set TCK_LATE_ROOMS (s.get TCK_LATE_ROOMS ||| late)
    let s2 := if ovr = 0 then s1 else s1.set TCK_EVENTS_OVERRUN 1
    let s3 := if late = 0 then s2 else s2.set TCK_EVENTS_LATE 1
    let s4 := (bitList late 24).foldl (fun st r => st.inci TCK_ROOM_CNT_LATE_CNT r) s3
    (ovr, (bitList ovr 24).foldl (fun st r => (st.inci TCK_ROOM_CNT_OVR_CNT r).ledger 0x0301 (r + 2 ^ 8 * closed.getLastD 0)) s4)

/-- TCK_PRED of the tick opened, 0x3FFFFFFF where there is none (Table 02-1, R65, R80). Under TIMER a write of TCK_TIMER_PER during the open tick
does not change it (DESIGN CHOICE, log entry 33). -/
def State.predOf (s : State) (tor : Nat) (first restart : Bool) : Nat :=
  let none_ := 0x3FFFFFFF
  if restart then none_
  else match s.get TCK_SRC_ACTIVE with
    | 0 => match s.divPred with
      | some p => min none_ p
      | none => none_
    | 2 => max 2500 (min 1000000000 (s.get TCK_TIMER_PER_PERIOD_NS))
    | 3 => none_
    | _ => match s.tick.prevStamp with
      | some t0 => if first then none_ else min none_ (elapsed tor t0 / 256)
      | none => none_

/-- The Curfew offset (R40). -/
def State.curfewOf (s : State) (pred : Nat) : Nat :=
  let c :=
    if s.inForce TCK_CTRL_CURFEW_MODE = 0 then s.inForce TCK_CURFEW_ABS_NS
    else
      let v := if pred = 0x3FFFFFFF then s.inForce TCK_CURFEW_MAX_MAX_NS else s.inForce TCK_CURFEW_PROP_FRAC * pred / 65536
      min (max v (s.inForce TCK_CURFEW_MIN_MIN_NS)) (s.inForce TCK_CURFEW_MAX_MAX_NS)
  max 32 (c / 4 * 4)

/-- Curfew is in force (R39). -/
def State.curfewOn (s : State) : Bool := s.inForce TCK_CTRL_CURFEW_EN == 1

/-- TCK_CURFEW_CUR shows the offset of the open tick, and 0 while CURFEW_EN is 0 (Table 02-26). -/
def State.curfewShow (s : State) : State := s.set TCK_CURFEW_CUR_OFFSET_NS (if s.curfewOn then s.tick.curfew else 0)

/-- Rooms that take part in the Curfew check of the tick opened (R43). -/
def State.partOf (s : State) : Nat := roomMask (fun r => bitB (s.inForce TCK_ROOM_MASK_ROOMS) r && s.roomOn r && s.roomActive r)

/-- A pending source switch takes effect (R36). -/
def State.switchNow (s : State) (t : Nat) : State :=
  if s.flag TCK_SRC_SWITCH then (s.srcTo (s.get TCK_SRC_NEXT) t).set TCK_SRC_SWITCH 0 else s

/-- A refresh that runs past the boundary in tick-aligned mode (Table 02-3). -/
def State.refSpill (s : State) : State :=
  if s.dmc.refActive && s.refTick then (s.set TCK_EVENTS_REST_SPILL 1).inc TCK_REF_CNT_SPILL_CNT else s

/-- What a boundary that opens `tick` knows before it starts. -/
def State.boundaryOf (s : State) (tick tor master : Nat) : Bd :=
  { tick := tick, tor := tor, master := master, first := s.tick.firstDue, closed := s.closedBy tick, part := s.tick.part
    ovr := (s.outcomes (s.closedBy tick)).1, ran := roomMask (fun r => s.treeRuns r 0 && s.treeRuns r 1)
    restart := s.get TCK_STATUS_STATE == 4, subst := s.twn.substNow }

/-- Slot 0, first part: TICKNO, outcomes, RDONE latches, flags. -/
def State.slot0Tick (s : State) (b : Bd) (skew : Nat) : State :=
  let s1 := ((((s.reach b.tor).setTickno b.tick).set TCK_CTRL_TICKNO_LOAD 0).set TCK_STATUS_MERGED 0).set TCK_STATUS_SRC_LOST 0
  let s2 := if b.restart then s1.set TCK_EVENTS_RESTART 1 else s1
  let s3 := (s2.outcomes b.closed).2.set TCK_DONE_ROOMS 0
  let bt := (b.tor + min skew 1024) % 2 ^ 64
  { s3 with
    tick := { s3.tick with
      firstDue := false, tickOpen := true, b := bt, lastAccepted := bt, opened := b.tick
      prior := if s.tick.tickOpen then some s.tick.opened else none
      lateDone := 0, rest := false, closed := min 7 b.closed.length, ovrPrev := b.ovr }
    twn := { s3.twn with deadline := s3.twn.deadline.filter (fun d => !tickGe b.tick d.1) } }

/-- Slot 0, second part: source, Boundary settings, mode changes, changeover checks, pins, captures. -/
def State.slot0Settings (s : State) (b : Bd) : State :=
  let old := s.pitch
  let s1 := ((s.owedStatus).switchNow b.tor).boundaryCommit
  ((((((s1.twinSlot0 b).mcSlot0 false).rePitch old).coCheck).pinsBoundary).takeCaptures).notePos b

/-- Slot 0, last part: prediction, Curfew, participation, triggers. -/
def State.slot0Open (s : State) (b : Bd) : State :=
  let pred := s.predOf b.tor b.first b.restart
  let s1 := ((s.set TCK_PRED_PERIOD_NS pred).set TCK_STAMP_LO b.tor).set TCK_STAMP_HI (b.tor / 2 ^ 32)
  let s2 := { s1 with tick := { s1.tick with part := s1.partOf, prevStamp := some b.tor, curfew := s1.curfewOf pred } }
  ((s2.curfewShow).refSpill).trigSchedule b.tick b.tor b.master false

/-! ### Slots 1 to 7 -/

/-- Slot 1: tick-bound state commits; overrun clamps are applied or released (R56, R57); mode-change clamps. -/
def State.slot1 (s : State) (b : Bd) : State :=
  let s1 := s.tickCommit
  let was := s1.get TCK_CLAMPED_ROOMS
  let now := if b.first then was else b.ovr &&& (was ||| s1.inForce TCK_OVR_CLAMP)
  let s2 := s1.set TCK_CLAMPED_ROOMS now
  let s3 := (bitList (clrMask now was) 24).foldl (fun st r => st.ringsClamp r (b.closed.getLastD 0)) s2
  ((s3.clampSync (was ^^^ now)).mcSlot1 false).mcSlot1 true

/-- Slot 2: ping-pong halves swap; the Line Assemblers' fill windows move (R171, R214). -/
def State.slot2 (s : State) (b : Bd) : State := (s.pingpongSwap).lasBoundary (max 1 b.closed.length)

/-- Slot 3: changeovers (R346) and mode changes (R105, R107). -/
def State.slot3 (s : State) : State := ((s.coFlip).mcSlot3 false).mcSlot3 true

/-- Slot 4: fences release the closed ticks (R270 to R272); `marked` are the Rooms that overran or were clamped. Rings with CO_POL STOP of
flipped Rooms stop (R273). -/
def State.slot4 (s : State) (b : Bd) (marked flipped : Nat) : State :=
  let (keep, s1) := s.twinSlot4 b
  let s2 := if b.closed.isEmpty then s1 else s1.ringsFence b.closed marked keep
  (bitList flipped 24).foldl (fun st r => st.ringsCoStop r) s2.standbyTrim

/-- Slot 6: the Sync Chain and TWIN_SYNC messages of a master for the tick opened; a member's slot 6 sends nothing of its own (R91), and a member that
followed a message reports its status (R94 to R96). -/
def State.slot6 (s : State) (b : Bd) (src : Nat) : State :=
  let s1 := if s.mcMaster false then (s.set SYC_CTREC_LO b.tor).set SYC_CTREC_HI (b.tor / 2 ^ 32) else s
  let s2 := (s1.masterMsg false 0 b.restart b.tick b.tor).masterMsg true 0 b.restart b.tick b.tor
  if src = 1 then s2.memberStatus false b.tick else if src = 4 then s2.memberStatus true b.tick else s2

/-- Slot 7: TICK_SAMPLE Doors capture and LTICK pulses (R53, R141). -/
def State.slot7 (s : State) (b : Bd) : State := (s.tickSample).emit (.ltick (b.tick % 65536) (min 7 b.closed.length))

/-- B + 32 ns: the work window opens; without Curfew and with no Room taking part, the rest window at once (R39, R45). -/
def State.workOpen (s : State) : State :=
  if !s.flag TCK_CTRL_EN then s.set TCK_STATUS_STATE 0
  else if s.inForce TCK_CTRL_CURFEW_EN = 0 ∧ s.tick.part = 0 then
    ({ s with tick := { s.tick with rest := true } }.set TCK_STATUS_STATE 3).touchIdle.refHeld
  else (s.set TCK_STATUS_STATE 2).refHeld

/-- An accepted event resets the time without an event (R479) and wakes (R482, R488). -/
def State.eventSeen (s : State) (src t : Nat) : State :=
  ({ s with pwr := { s.pwr with evSince := t } }).wakeTick src t

/-- A boundary that opens `tick`: `tor` is the unit's own time of record, `master` that of the chain master or Lead, `skew` the time from
`tor` to B. -/
def State.boundary (s : State) (tick tor master skew : Nat) : State :=
  let src := s.get TCK_SRC_ACTIVE
  let b := s.boundaryOf tick tor master
  let clamped := s.get TCK_CLAMPED_ROOMS
  let s0 := ((s.slot0Tick b skew).slot0Settings b).slot0Open b
  let s2 := (s0.slot1 b).slot2 b
  let s3 := s2.slot3
  let s5 := (s3.slot4 b (b.ovr ||| clamped) (s2.cfg.actBank ^^^ s3.cfg.actBank)).twinSlot5 b
  let s7 := (s5.slot6 b src).slot7 b
  (((s7.twinSwapArm).handReleaseAll).workOpen).eventSeen src tor

/-! ### Events of a source -/

/-- A merged event (Table 02-7): no boundary; triggers fire, the masters send MERGE. -/
def State.mergedEvent (s : State) (tick tor master : Nat) : State :=
  let src := s.get TCK_SRC_ACTIVE
  let s1 := ((((s.reach tor).setTickno tick).set TCK_STATUS_MERGED (min 3 (s.get TCK_STATUS_MERGED + 1))).set TCK_EVENTS_MERGED 1).inc
    TCK_EARLY_CNT_MERGED_CNT
  let s2 := (({ s1 with
      tick := { s1.tick with lastAccepted := tor }
      twn := { s1.twn with deadline := s1.twn.deadline.filter (fun d => !tickGe tick d.1) } }.set TCK_STATUS_SRC_LOST 0).ledger 0x0302 0).mergedPulse
  let s3 := s2.trigSchedule tick tor master true
  ((s3.masterMsg false 1 false tick tor).masterMsg true 1 false tick tor).eventSeen src tor

/-- A dropped event (R62, R63). -/
def State.dropEvent (s : State) (tor : Nat) (burst : Bool) : State :=
  let s1 := (((s.reach tor).set TCK_EVENTS_DROPPED 1).inc TCK_EARLY_CNT_DROPPED_CNT).ledger 0x0302 1
  if burst then s1.set TCK_EVENTS_BURST 1 else s1

/-- TICK_MIN as it acts (R60). -/
def State.tickMin (s : State) : Nat := max 2500 (s.inForce TCK_TICK_MIN_MIN_NS)

/-- The event is early (R60): less than TICK_MIN after B of the open tick; the first after enable never is. -/
def State.isEarly (s : State) (tor : Nat) : Bool := !s.tick.firstDue && !timeGe tor (s.tick.b + nsUnits s.tickMin)

/-- An event of the unit's own source ENCODER, TIMER or HOST (R60 to R64): only the active source's events count, and none while EN is 0. -/
def State.tickEvent (s : State) (src tor skew : Nat) : State :=
  if !s.flag TCK_CTRL_EN || s.get TCK_SRC_ACTIVE != src then s
  else if !s.isEarly tor then s.boundary s.nextTick tor tor skew
  else if s.inForce TCK_CTRL_EARLY_POL = 1 then s.dropEvent tor false
  else if max 1 (s.inForce TCK_CTRL_MERGE_MAX) ≤ s.get TCK_STATUS_MERGED then s.dropEvent tor true
  else s.mergedEvent (tickAdd s.tickno 1) tor tor

end Sys2Proof.Machine
end

