-- ==== Sys2Proof/Machine/Tick.lean ====
section
/-! DEFINITION. The commands of the tick engine (02): Curfew, RDONE, a stopped line, the sources' events, source switches, enable and
disable, and the divider's events (R79). -/

namespace Sys2Proof.Machine

open Reg

/-- The rest window opens (R45); STATE shows it where it showed the work window. -/
def State.restOpen (s : State) : State :=
  let s1 := { s with tick := { s.tick with rest := true } }
  ((if s.get TCK_STATUS_STATE = 2 then s1.set TCK_STATUS_STATE 3 else s1).touchIdle).refHeld

/-- The Curfew offset of the open tick passes (R39, R40, R45). -/
def execCurfew (t : Nat) (s : State) : Host.Outcome State Fault Refusal :=
  let s := s.setNow t
  if s.tick.tickOpen && !s.tick.rest && s.curfewOn && timeGe t (s.tick.b + nsUnits s.tick.curfew) then ok s.restOpen
  else ok s

/-- Every Room taking part in the open tick has counted RDONE. -/
def State.allRoomsDone (s : State) : Bool := clrMask s.tick.part (s.get TCK_DONE_ROOMS) == 0

/-- A pulse on a Room's RDONE (R42): the first in the open tick counts; at or after Curfew it is late (R44). Without Curfew the last one
opens the rest window (R45). -/
def execRdone (room t : Nat) (s : State) : Host.Outcome State Fault Refusal :=
  if room < 24 then
    let s := s.setNow t
    if s.tick.tickOpen && s.roomOn room && s.roomActive room && s.treeRuns room 0 && !bitB (s.get TCK_DONE_ROOMS) room then
      let curfew := s.curfewOn
      let late := curfew && timeGe t (s.tick.b + nsUnits s.tick.curfew)
      let s1 := s.orBit TCK_DONE_ROOMS room
      let s2 := if late then { s1 with tick := { s1.tick with lateDone := setBit s1.tick.lateDone room } } else s1
      if !curfew && !s2.tick.rest && s2.allRoomsDone then ok s2.restOpen
      else ok (s2.touchIdle).refHeld
    else ok s
  else .fault .noSuchUnit

/-- 1.0 s without an accepted event (R65): STOPPED, with its flag, its Ledger entry and no prediction; the masters report it (R94). -/
def execTickStopped (t : Nat) (s : State) : Host.Outcome State Fault Refusal :=
  let s := s.setNow t
  if s.flag TCK_CTRL_EN && s.tick.tickOpen && !s.tick.firstDue && s.get TCK_STATUS_STATE != 4
      && timeGe t (s.tick.lastAccepted + nsUnits 1000000000) then
    let s1 := (((s.set TCK_STATUS_STATE 4).set TCK_EVENTS_STOPPED 1).set TCK_PRED_PERIOD_NS 0x3FFFFFFF).ledger 0x0303 0
    ok ((s1.masterMsg false 4 false s.tickno t).masterMsg true 4 false s.tickno t)
  else ok s

/-- TCK_TIMER_PER as it acts (Table 02-12). -/
def State.timerPeriod (s : State) : Nat := max 2500 (min 1000000000 (s.get TCK_TIMER_PER_PERIOD_NS))

/-- The scheduled time of the next TIMER event (R606): PERIOD_NS after `a`, or the write of TCK_TIMER_PER that found that time already past
(DEDUCED, log entry 33). -/
def State.timerDue (s : State) (a : Nat) : Nat :=
  let due := (a + nsUnits s.timerPeriod) % 2 ^ 64
  match s.tick.timerWrite with
  | some w => if timeGe w due then w else due
  | none => due

/-- A TIMER event falls due (R606): its time of record is its scheduled time. -/
def execTimerEvent (t skew : Nat) (s : State) : Host.Outcome State Fault Refusal :=
  let s := s.setNow t
  match s.tick.timerAnchor with
  | none => ok s
  | some a =>
    let due := s.timerDue a
    if s.flag TCK_CTRL_EN && s.get TCK_SRC_ACTIVE == 2 && timeGe t due then
      ok ({ s with tick := { s.tick with timerAnchor := some due, timerWrite := none } }.tickEvent 2 due skew)
    else ok s

/-- TCK_HOST_TICK.GO (R35): one event while the source is HOST. -/
def execHostTick (t skew : Nat) (s : State) : Host.Outcome State Fault Refusal := ok ((s.setNow t).tickEvent 3 t skew)

/-- TCK_SRC.SWITCH (R36): at slot 0 of the next boundary while the engine is enabled, and at once otherwise. -/
def execSourceSwitch (t : Nat) (s : State) : Host.Outcome State Fault Refusal :=
  let s := s.setNow t
  if s.flag TCK_CTRL_EN then ok (s.set TCK_SRC_SWITCH 1) else ok (s.srcTo (s.get TCK_SRC_NEXT) t)

/-- TCK_CTRL.EN is written to 1 (R34, R60, R606): the next event starts the first boundary. -/
def State.engineOn (s : State) (t : Nat) : State :=
  if s.flag TCK_CTRL_EN then s
  else
    ({ (s.set TCK_CTRL_EN 1) with tick := { s.tick with
      firstDue := true, timerAnchor := if s.get TCK_SRC_ACTIVE = 2 then some t else none, timerWrite := none } }).refDemand

/-- TICK_ENGINE_ENABLE. -/
def execTickEngineEnable (t : Nat) (s : State) : Host.Outcome State Fault Refusal := ok ((s.setNow t).engineOn t)

/-- A change of CURFEW_EN has taken effect outside a boundary (R54): TCK_CURFEW_CUR shows it, and without Curfew the rest window opens where every
Room that takes part has counted RDONE (R45). -/
def State.curfewChange (s : State) : State :=
  let s1 := s.curfewShow
  if s1.tick.tickOpen && !s1.tick.rest && !s1.curfewOn && s1.allRoomsDone then s1.restOpen else s1

/-- TCK_CTRL.EN is written to 0 (R36, R54): Boundary settings and a source switch that wait take effect at once; no event acts until the
engine is enabled again, and the open tick stays open (R60). -/
def State.engineOff (s : State) (t : Nat) : State :=
  if s.flag TCK_CTRL_EN then
    let old := s.pitch
    let s1 := ((s.set TCK_CTRL_EN 0).boundaryCommit).switchNow t
    let s2 := (((s1.rePitch old).pinsBoundary).set TCK_STATUS_STATE 0).curfewChange
    ({ s2 with tick := { s2.tick with firstDue := true, prevStamp := none } }).refDemand
  else s

/-- TICK_ENGINE_DISABLE. -/
def execTickEngineDisable (t : Nat) (s : State) : Host.Outcome State Fault Refusal := ok ((s.setNow t).engineOff t)

/-- The shadow divider's event of a Companion goes to the Twin Link (R521): the tick whose threshold it crossed has its deadline DELAY_NS later,
unless its message has been accepted (R522). Before the first record a crossing belongs to the next tick (DEDUCED, log entry 34). -/
def State.shadowCross (s : State) (t : Nat) : State :=
  let x := s.twn.shadowTick.getD (tickAdd s.tickno 1)
  let next := if s.twn.shadowTick.isSome then some (tickAdd x 1) else none
  let due := (t + nsUnits (s.inForce TWN_DELAY_DELAY_NS)) % 2 ^ 64
  { s with twn := { s.twn with shadowTick := next, deadline := if tickGe s.tickno x then s.twn.deadline else some (x, due) } }

/-- The scheduled time of the next threshold crossing arrives (R78, R79): θ advances and the event goes to the tick engine, which takes it
under ENCODER; on a Companion it is the shadow divider's (R521). -/
def execEncoderEventDue (skew : Nat) (s : State) : Host.Outcome State Fault Refusal :=
  match s.msu.sched with
  | none => ok s
  | some t =>
    if s.get PWR_STATE_CUR < 3 then
      let s1 := (s.setNow t).divCross
      let s2 := if s1.get TWN_STAT_MODE != 0 && s1.flag TWN_STAT_ROLE then s1.shadowCross t else s1.tickEvent 0 t skew
      ok s2.divSched
    else ok s

/-- TICK_NOW (R409): TICKNO, TCK_STAMP and the time counter. -/
def execTickNow (m : Nat) (s : State) : Host.Outcome State Fault Refusal :=
  kmiCommand 0x0303 m (fun _ st => .fin st stOk 0
    [st.tickno, st.get TCK_STAMP_LO + 2 ^ 32 * st.get TCK_STAMP_HI, st.now] []) s

end Sys2Proof.Machine
end

