-- ==== Sys2Proof/Machine/Sync.lean ====
section
/-! DEFINITION. The commands of the Sync Chain and of TWIN_SYNC (03, R516): enumeration, tick and merge messages, calibration, STOP, STATUS,
link loss, and the host's commands for mode changes (R409). `tw` is false for the chain, true for the twin. A command of an arriving message
stands for its acceptance and for the delivery of its event (DEDUCED, log entry 24). -/

namespace Sys2Proof.Machine

open Reg

/-! ### The link (R93) -/

/-- A valid message has arrived. -/
def State.linkSeen (s : State) (tw : Bool) (t : Nat) : State :=
  if tw then { s.set TWN_STAT_SYNC_UP 1 with twn := { s.twn with crcRun := 0, lastSync := t } }
  else
    let s1 := { s with syc := { s.syc with crcRun := 0, lastMsg := t } }
    if s.mcMember false then s1.set SYC_STAT_LINK_UP 1 else s1

/-- The link is valid. -/
def State.linkUp (s : State) (tw : Bool) : Bool := if tw then s.flag TWN_STAT_SYNC_UP else s.flag SYC_STAT_LINK_UP

/-- The link is declared lost: R38 for the chain (under TWIN, R523), the time base (R83) and an open proposal (R108). The master of a chain shows
no LINK_UP; its loss of the return path makes an undecided proposal SPLIT. -/
def State.linkLost (s : State) (tw : Bool) : State :=
  if !tw && s.mcMaster false then s.mcMasterLost false
  else if !s.linkUp tw then s
  else
    let s1 := if tw then s.set TWN_STAT_SYNC_UP 0 else (s.set SYC_STAT_LINK_UP 0).inc SYC_ERR_CNT_LOST_CNT
    let s2 := if !tw && s.get TCK_SRC_ACTIVE == 1 then (s1.set TCK_STATUS_SRC_LOST 1).set TCK_EVENTS_SRC_LOST 1 else s1
    let s3 := if s.tbSrc = (if tw then 4 else 3) then s2.tbLost else s2
    if s.mcMember tw then s3.mcLinkLost tw else s3.mcMasterLost tw

/-- A downstream message has failed its CRC: the third in a row loses the link. -/
def State.linkBad (s : State) (tw : Bool) : State :=
  if tw then
    let s1 := { s with twn := { s.twn with crcRun := s.twn.crcRun + 1, crcSeen := true } }
    if 3 ≤ s1.twn.crcRun then s1.linkLost true else s1
  else
    let s1 := { s.inc SYC_ERR_CNT_CRC_CNT with syc := { s.syc with crcRun := s.syc.crcRun + 1, crcSeen := true } }
    if 3 ≤ s1.syc.crcRun then s1.linkLost false else s1

/-- An upstream message has failed its CRC (SYC_ERR_CNT, Table 03-5). -/
def State.upBad (s : State) (tw : Bool) : State :=
  if tw then { s with twn := { s.twn with crcSeen := true } }
  else if s.mcMaster false then s.linkBad false
  else { s.inc SYC_ERR_CNT_CRC_CNT with syc := { s.syc with crcSeen := true } }

/-- Cut-through forwarding (R91): a member of the chain that is not END. A tick or merge message pre-empts the member's own CAL message (R93). -/
def State.forward (s : State) (tw : Bool) (msg : List Nat) : State :=
  if !tw && s.mcMember false then
    let m := downForward msg (s.get SYC_STAT_HOP)
    if downType msg < 2 then s.sendTick false m else s.sendDown false m
  else s

/-- A valid downstream message tells whether the master's time base is in holdover (Table 03-4). -/
def State.noteMaster (s : State) (tw : Bool) (msg : List Nat) : State :=
  if tw then s else { s with syc := { s.syc with masterHold := bitB (msg.getD 1 0) 5 } }

/-- The mode-change fields of a message are taken (R103 to R107): MC_REL counts from the message's TICKNO. -/
def State.takeMc (s : State) (tw : Bool) (msg : List Nat) : State :=
  let rel := msg.getD 17 0
  s.mcTake tw (bits (msg.getD 14 0) 3 0) (bits (msg.getD 14 0) 7 4) (leField msg 15 2)
    (if rel = 0 then none else some (tickAdd (downTick msg) rel))

/-- A member receives a downstream message of a type at time `t`: it is forwarded; one whose CRC fails counts; a valid one keeps the link up
and its mode-change fields are taken. True where the message acts further. -/
def State.receive (s : State) (tw : Bool) (type : Nat) (msg : List Nat) (t : Nat) : Bool × State :=
  let s := s.setNow t
  if !s.mcMember tw then (false, s)
  else
    let s1 := s.forward tw msg
    if !downGood msg then (false, s1.linkBad tw)
    else (downType msg == type, (s1.linkSeen tw t).noteMaster tw msg)

/-! ### Enumeration (R90) -/

/-- SYC_CTRL.ENUM at the master. -/
def execSyncEnum (s : State) : Host.Outcome State Fault Refusal :=
  if s.mcMaster false then ok (s.masterMsg false 3 false s.tickno 0) else ok s

/-- An ENUM message arrives: the member takes its hop number before it forwards; END replies with COUNT = 1. -/
def execEnumMessage (msg : List Nat) (s : State) : Host.Outcome State Fault Refusal :=
  let s := if s.mcMember false && downGood msg && downType msg == 3 then s.set SYC_STAT_HOP (downHop msg + 1) else s
  match s.receive false 3 msg s.now with
  | (true, s1) =>
    let s2 := s1.takeMc false msg
    let o := s2.ownStatus false 0
    ok (if s2.flag SYC_CTRL_END then s2.sendUp false (upMsg 2 1 0 o.state o.seq o.firstHop o.alarm) else s2)
  | (false, s1) => ok s1

/-- An ENUM_REPLY arrives: a member adds itself as to a STATUS (R95, R96); the master sets SEEN, COUNT_ERR and HOP_ERR. -/
def execEnumReply (msg : List Nat) (s : State) : Host.Outcome State Fault Refusal :=
  if !upGood msg then ok (if s.linkOn false then s.upBad false else s)
  else if upType msg != 2 then ok s
  else if s.mcMaster false then
    let s := s.linkSeen false s.now
    let seen := upCount msg + 1
    let s1 := (s.set SYC_UNITS_SEEN seen).set SYC_STAT_COUNT_ERR (b2n (seen != s.get SYC_UNITS_EXPECT))
    ok (if 64 ≤ upCount msg then s1.set SYC_STAT_HOP_ERR 1 else s1)
  else if s.mcMember false && !s.flag SYC_CTRL_END then
    let r := s.addStatus (upStatus msg)
    ok (s.sendUp false (upMsg 2 r.count 0 r.state r.seq r.firstHop r.alarm))
  else ok s

/-! ### Tick and merge messages (R92, R520, R522) -/

/-- SYC_DELAY or TWN_DELAY in force, in units of the time counter. -/
def State.linkDelay (s : State) (tw : Bool) : Nat :=
  nsUnits (if tw then s.inForce TWN_DELAY_DELAY_NS else s.inForce SYC_DELAY_DELAY_NS)

/-- The unit's time of record for a message, the master's plus the delay, and whether the message was accepted less than 8 ns before it, so that
the event is delivered at once (R92). -/
def State.linkTor (s : State) (tw : Bool) (msg : List Nat) (t : Nat) : Nat × Bool :=
  let due := (s.wholeTime (downTime msg) + s.linkDelay tw) % 2 ^ 64
  (due, !timeGe due (t + nsUnits 8))

/-- A message accepted late (R92, R520). -/
def State.lateMsg (s : State) (tw : Bool) : State :=
  (if tw then s.set TWN_STAT_LATE_MSG 1 else s.set SYC_STAT_LATE_MSG 1).ledger 0x0306 (s.mcHop tw)

/-- The tick engine runs on events of this link. -/
def State.linkRuns (s : State) (tw : Bool) : Bool := s.flag TCK_CTRL_EN && s.get TCK_SRC_ACTIVE == (if tw then 4 else 1)

/-- A Companion whose tick source is not TWIN yet follows a mode change on the messages alone, as if each opened its tick here (R536). -/
def State.joinLapse (s : State) (tick : Nat) : State :=
  let n := s.tickno
  let s1 := ((s.setTickno tick).mcSlot0 true).mcSlot1 true
  (if s1.mcDue true 6 || (s1.mc true).localReq != 0 then s1.mcSlot3 true else s1).setTickno n

/-- The joining unit's boundary T is due: COMMIT is in force, or RECOMMIT reaches a unit that missed it (R536, R107). -/
def State.joinDue (s : State) (tick : Nat) : Bool :=
  let m := s.mc true
  m.isOpen && (m.mode == 0xFF01 || m.mode == 0xFF02) &&
    ((m.committed && !m.acted && tickGe tick m.t) || (m.decision == 5 && tickGe tick m.decTarget && s.mcCode true == 6))

/-- At T the joining unit takes TCK_SRC TWIN and TCK_CTRL.EN = 1, and runs its first boundary (R536). -/
def State.joinStart (s : State) (tick tor master skew : Nat) : State :=
  let src := s.get TCK_SRC_ACTIVE
  let s1 := ((s.srcTo 4 tor).engineOff tor |>.engineOn tor).boundary tick tor master skew
  { s1 with twn := { s1.twn with undo := s1.twn.undo.map (fun (u : Nat × Nat × Nat × Nat) => (u.1, u.2.1, src, 0)) } }

/-- A TICK message accepted at time `t` acts. SYC_CTREC takes the master's time of record at boundaries, not at merged ticks (DESIGN CHOICE, log
entry 24). -/
def State.linkTick (s : State) (tw : Bool) (msg : List Nat) (t skew : Nat) : State :=
  let tick := downTick msg
  let master := s.wholeTime (downTime msg)
  if tw && s.linkRuns true && !s.tick.firstDue && tickGe s.tickno tick then s
  else
    let s1 := s.takeMc tw msg
    let (tor, late) := s1.linkTor tw msg t
    let s2 := if late then s1.lateMsg tw else s1
    if s2.linkRuns tw then
      let s3 := if tw then { s2 with twn := { s2.twn with substRun := 0, syncLost := false } }
        else (s2.set SYC_CTREC_LO master).set SYC_CTREC_HI (master / 2 ^ 32)
      s3.boundary tick tor master skew
    else if tw && s2.joinDue tick then s2.joinStart tick tor master skew
    else (if tw then s2.joinLapse tick else s2).memberStatus tw tick

/-- SYNC_TICK_MESSAGE (R92, R520). -/
def execSyncTickMessage (twin : Bool) (msg : List Nat) (t skew : Nat) (s : State) : Host.Outcome State Fault Refusal :=
  match s.receive twin 0 msg t with
  | (true, s1) => ok (s1.linkTick twin msg t skew)
  | (false, s1) => ok s1

/-- A MERGE message acts: a merged event at the master's merge time plus the delay. -/
def State.linkMerge (s : State) (tw : Bool) (msg : List Nat) (t : Nat) : State :=
  let tick := downTick msg
  if !s.linkRuns tw then s.takeMc tw msg
  else if tw && tickGe s.tickno tick then s
  else
    let s1 := s.takeMc tw msg
    if s1.tick.firstDue then s1
    else
      let (tor, late) := s1.linkTor tw msg t
      let s2 := if late then s1.lateMsg tw else s1
      let s3 := if tw then { s2 with twn := { s2.twn with substRun := 0, syncLost := false } } else s2
      s3.mergedEvent tick tor (s.wholeTime (downTime msg))

/-- SYNC_MERGE_MESSAGE (R92). -/
def execSyncMergeMessage (twin : Bool) (msg : List Nat) (t : Nat) (s : State) : Host.Outcome State Fault Refusal :=
  match s.receive twin 1 msg t with
  | (true, s1) => ok (s1.linkMerge twin msg t)
  | (false, s1) => ok s1

/-- A STOP message of the master (R94): received and forwarded. -/
def execSyncStopMessage (twin : Bool) (msg : List Nat) (t : Nat) (s : State) : Host.Outcome State Fault Refusal :=
  match s.receive twin 4 msg t with
  | (true, s1) => ok (s1.takeMc twin msg)
  | (false, s1) => ok s1

/-! ### Calibration (R97 to R99) -/

/-- The receiver's asymmetry correction, in units of the time counter. -/
def State.asym (s : State) (tw : Bool) : Int := signed 16 (if tw then s.get TWN_ASYM_ASYM_PS else s.get SYC_ASYM_ASYM_PS) * 256 / 1000

/-- The offset of a receiver from its sender (R98): SYC_OFFSET. The receiver's asymmetry, which the sender cannot know, enters here and not in the
DELAY sent (R97; DEDUCED, log entry 24). -/
def State.calOffset (s : State) (tw : Bool) (msg : List Nat) (arrival : Nat) : Int :=
  signed 64 (encodeInt 64 ((arrival : Int) - (s.wholeTime (downTime msg) + downDelay msg : Nat) - s.asym tw))

/-- The hop's calibration is complete: its 256 round trips are made, the counter steps once while TCK_CTRL.EN is 0 (R84, R99). -/
def State.calDone (s : State) (tw : Bool) (ofs : Int) : State :=
  let s1 := if s.flag TCK_CTRL_EN then s else s.setNow (encodeInt 64 ((s.now : Int) - ofs))
  if tw then s1.set TWN_STAT_CAL_DONE 1 else s1.set SYC_STAT_CAL_DONE 1

/-- The lock criterion of a time base that follows this link (R82): a hop offset below ±20 ps, at most 5 units, continues it; any other ends it
and LOCKED with it. -/
def State.calCriterion (s : State) (tw : Bool) (ofs : Int) (t : Nat) : State :=
  if s.tbSrc ≠ (if tw then 4 else 3) then s
  else if ofs.natAbs ≤ 5 then
    { s with msu := { s.msu with critSince := match s.msu.critSince with
      | some x => some x
      | none => some t } }
  else { s with msu := { s.msu with critSince := none } }.set MSU_TB_STAT_LOCKED 0

/-- A CAL message used by the receiver: offset, count, and the echo with its turnaround. -/
def State.calTake (s : State) (tw : Bool) (msg : List Nat) (arrival echoAt : Nat) : State :=
  let ofs := s.calOffset tw msg arrival
  let s1 := if tw then { s with twn := { s.twn with calSeen := s.twn.calSeen + 1 } }
    else { s.set SYC_OFFSET_OFS (encodeInt 32 ofs) with syc := { s.syc with calSeen := s.syc.calSeen + 1 } }
  let s1 := s1.calCriterion tw ofs arrival
  let seen : Nat := if tw then s1.twn.calSeen else s1.syc.calSeen
  let o := s1.ownStatus tw 0
  let s2 := s1.sendUp tw (upMsg 1 1 (timeSub echoAt arrival) o.state o.seq o.firstHop o.alarm)
  if seen == 257 then s2.calDone tw ofs else s2

/-- CAL_MESSAGE (R98): a CAL message ends at its receiver, which sends its own downstream. One that an abort symbol cut off is no message (R93). -/
def execCalMessage (twin : Bool) (msg : List Nat) (arrival echoAt : Nat) (s : State) : Host.Outcome State Fault Refusal :=
  let s := s.setNow arrival
  if !s.mcMember twin then ok s
  else if decide (msg.length < 20) && msg.getLast? == some 0xFE then ok s
  else if !downGood msg then ok (s.linkBad twin)
  else if downType msg == 2 then ok (((s.linkSeen twin arrival).noteMaster twin msg).calTake twin msg arrival echoAt)
  else ok (s.linkSeen twin arrival)

/-- CAL_ECHO (R97): the round trip, and the one-way delay as half the mean of the last 256. -/
def execCalEcho (twin : Bool) (msg : List Nat) (launch arrival : Nat) (s : State) : Host.Outcome State Fault Refusal :=
  let s := s.setNow arrival
  if !s.linkDown twin then ok s
  else if !upGood msg then ok (s.upBad twin)
  else if upType msg != 1 then ok s
  else
    let s := if twin || s.mcMaster false then s.linkSeen twin arrival else s
    let trips := ((timeSub arrival launch - upTick msg) :: (if twin then s.twn.trips else s.syc.trips)).take 256
    let d := trips.sum / (2 * trips.length)
    ok (if twin then
          let s1 := { s with twn := { s.twn with trips := trips, hopDly := d } }
          if trips.length == 256 then s1.set TWN_STAT_CAL_DONE 1 else s1
        else { s with syc := { s.syc with trips := trips } }.set SYC_HOPDLY_D d)

/-- CAL_SEND (R93): the master and every forwarder; DELAY is the hop delay measured, and FLAGS tell of the master's time base. -/
def execCalSend (twin : Bool) (t : Nat) (s : State) : Host.Outcome State Fault Refusal :=
  let s := s.setNow t
  if s.linkDown twin then
    let s1 := if twin then { s with twn := { s.twn with calAt := some t } } else { s with syc := { s.syc with calAt := some t } }
    let hold := if s.mcMaster twin then s.get MSU_TB_STAT_HOLDOVER else b2n s.syc.masterHold
    ok (s1.sendDown twin (downMsg 2 (2 * hold) (s.mcHop twin) s.tickno t
      (leBytes 4 (if twin then s.twn.hopDly else s.get SYC_HOPDLY_D))))
  else ok s

/-! ### STATUS and link loss -/

/-- A STATUS arrives from downstream (R96, R103): the master takes it; a member that owes the STATUS of its tick adds itself, and one that has
already sent its own for that tick drops it (DESIGN CHOICE, log entry 24). -/
def execStatusMessage (twin : Bool) (msg : List Nat) (t : Nat) (s : State) : Host.Outcome State Fault Refusal :=
  let s := s.setNow t
  if !s.linkOn twin then ok s
  else if !upGood msg then ok (s.upBad twin)
  else if upType msg != 0 then ok s
  else if s.mcMaster twin then ok ((s.linkSeen twin t).mcTakeStatus twin (upStatus msg))
  else if !twin && s.mcMember false && s.syc.owed == some (upTick msg) then
    ok ({ s with syc := { s.syc with owed := none } }.sendStatus false (s.addStatus (upStatus msg)))
  else ok s

/-- SYNC_LINK_LOST (R93): 64 µs without a valid message, three CRC failures in a row, or symbol lock lost. -/
def execSyncLinkLost (twin : Bool) (cause : LinkLoss) (t : Nat) (s : State) : Host.Outcome State Fault Refusal :=
  let s := s.setNow t
  let holds := match cause with
    | .silence => timeGe t ((if twin then s.twn.lastSync else s.syc.lastMsg) + nsUnits 64000)
    | .crc => decide (3 ≤ (if twin then s.twn.crcRun else s.syc.crcRun))
    | .symbol => true
  if s.linkOn twin && holds then ok (s.linkLost twin) else ok s

/-! ### Commands of the host (R409) -/

/-- SYNC_ARM (R101): a mode identifier, a Room mask with its changeover slot, and the switch of MSU_DIV_CTRL.SET. -/
def execSyncArm (m : Nat) (s : State) : Host.Outcome State Fault Refusal :=
  kmiCommand 0x0322 m (fun cmd st =>
    let mask := cmd.a1
    if decide (2 ^ 17 ≤ cmd.a0) || decide (2 ^ 24 ≤ mask) then .fin st stBadArg 0 [] []
    else if st.syc.mc.isOpen then .fin st stBadState 0 [] []
    else
      let s0 := st.mcDisarm false
      if (bitList mask 24).any (fun r => s0.geti CFG_ROOM_STAT_CO_PENDING r == 1 || bitB s0.armedRooms r) then .fin st stBadState 0 [] []
      else
        let mode := bits cmd.a0 15 0
        let armed (x : State) (slot : Option Nat) : State :=
          ((x.setMc false { x.mc false with armMask := mask, armSwitch := bitB cmd.a0 16, armSlot := slot, armMode := mode }).set
            SYC_MC_ARM_MODE mode).set SYC_MC_ARM_VALID 1
        if mask = 0 then .fin (armed s0 none) stOk 0 [] []
        else match s0.coFree with
          | none => .fin st stHeld 0 [] []
          | some j => .fin (armed (s0.coTake j 2 mask 0 0 false) (some j)) stOk 0 [j] []) s

/-- SYNC_DISARM (R409). -/
def execSyncDisarm (m : Nat) (s : State) : Host.Outcome State Fault Refusal :=
  kmiCommand 0x0323 m (fun _ st => if st.syc.mc.isOpen then .fin st stBadState 0 [] [] else .fin (st.mcDisarm false) stOk 0 [] []) s

/-- SYNC_PROPOSE (R102): the master's proposal for tick T; the command completes with the outcome (R109). -/
def execSyncPropose (m : Nat) (s : State) : Host.Outcome State Fault Refusal :=
  kmiCommand 0x0324 m (fun cmd st =>
    if decide (2 ^ 16 ≤ cmd.a0) || decide (2 ^ 48 ≤ cmd.a1) then .fin st stBadArg 0 [] []
    else if !st.mcMaster false || st.syc.mc.isOpen then .fin st stBadState 0 [] []
    else if !tickGe cmd.a1 (tickAdd st.tickno (3 + st.mcLag false)) then .fin st stDeadline 0 [] []
    else .run (st.mcPropose false cmd.a0 cmd.a1) true 0) s

/-- SYNC_LOCAL (R108): rollback or re-apply on an UNRESOLVED unit at its next boundary. -/
def execSyncLocal (m : Nat) (s : State) : Host.Outcome State Fault Refusal :=
  kmiCommand 0x0325 m (fun cmd st =>
    let tw := st.mcCode false != 8
    if decide (2 ≤ cmd.a0) then .fin st stBadArg 0 [] []
    else if st.mcCode tw != 8 then .fin st stBadState 0 [] []
    else .run (st.setMc tw { st.mc tw with localReq := 1 + cmd.a0 }) true 0) s

end Sys2Proof.Machine
end

