-- ==== Sys2Proof/Machine/Twin.lean ====
section
/-! DEFINITION. The commands of the twin (17): the Twin Link's lanes, tick records, status frames, substituted events, checkpoints and
catch-up, loss of the partner, and the host's commands (R535, R536). -/

namespace Sys2Proof.Machine

open Reg

/-- The Twin Link carries messages (R515). -/
def State.twinLinkUp (s : State) : Bool := s.flag TWN_CTRL_EN && s.flag TWN_STAT_LANES_UP && s.domOn 29

/-- LANES_UP (R515). -/
def execLanesUp (t : Nat) (s : State) : Host.Outcome State Fault Refusal :=
  let s := s.setNow t
  if s.flag TWN_CTRL_EN && s.domOn 29 then ok (s.set TWN_STAT_LANES_UP 1) else ok s

/-- The unit is a paired Companion. -/
def State.isCompanion (s : State) : Bool := s.get TWN_STAT_MODE != 0 && s.flag TWN_STAT_ROLE

/-! ### Losing the partner (R531 to R533) -/

/-- TWIN_SYNC has failed, `n` substituted events in a row counted. -/
def State.syncFailed (s : State) (n : Nat) : Bool := decide (2 ≤ n) || !s.flag TWN_STAT_SYNC_UP

/-- No record has arrived for the last two of the ticks up to `tick`. -/
def State.recOld (s : State) (tick : Nat) : Bool :=
  match s.twn.recTick with
  | none => true
  | some n => !tickGe n (tickAdd tick (tickMod - 2))

/-- The partner is declared lost: a Companion takes over, a Lead becomes ALONE, at slot 0 of the next boundary. On the Companion the TWIN
source has lost its link (R38, R523). -/
def State.partnerLost (s : State) : State :=
  let s1 := ((s.set TWN_STAT_PARTNER_LOST 1).inc TWN_CNT2_LOSS).ledger 0x0B05 0
  let s2 := if s.flag TWN_STAT_ROLE && s.get TCK_SRC_ACTIVE == 4 then s1.twinSrcLost else s1
  { s2 with twn := { s2.twn with takeDue := true } }

/-- TWN_PARTNER_LOST, between boundaries (R531). -/
def execTwnPartnerLost (t : Nat) (s : State) : Host.Outcome State Fault Refusal :=
  let s := s.setNow t
  let silent (a : Nat) : Bool := timeGe t (a + nsUnits 64000)
  if s.get TWN_STAT_MODE = 0 ∨ s.twn.takeDue = true then ok s
  else if s.flag TWN_STAT_ROLE then
    if s.syncFailed s.twn.substRun && ((silent s.tick.b && silent s.twn.lastStat) || s.recOld s.tickno) then
      if s.flag TWN_CTRL_TAKEOVER then ok s.partnerLost else ok s.partnerLost.twinAlone
    else ok s
  else if silent s.twn.lastSync && silent s.twn.lastRec && silent s.twn.lastStat then ok s.partnerLost
  else ok s

/-- A substituted event (R522): the deadline of the tick passes without its message, and the event comes at the deadline. The second in a row
without records is the boundary of a takeover (R531, R532). -/
def execTwnSubst (t skew : Nat) (s : State) : Host.Outcome State Fault Refusal :=
  let s := s.setNow t
  let tick := tickAdd s.tickno 1
  match s.twn.deadline with
  | none => ok s
  | some (x, due) =>
    if s.isCompanion && s.linkRuns true && !s.tick.firstDue && s.flag MSU_DIV_CTRL_EN && !s.flagi MSU_ENC_STAT_STOPPED s.divCh
        && tickGe x tick && timeGe t due then
      let run := s.twn.substRun + 1
      let s1 := (s.inc TWN_CNT_SUBST).ledger 0x0B01 tick
      let s2 := { s1 with twn := { s1.twn with substRun := run, substNow := true, deadline := none } }
      let lost := !s2.twn.takeDue && s2.syncFailed run && s2.recOld tick
      let s3 := if lost then s2.partnerLost else s2
      let master := encodeInt 64 ((due : Int) - s3.linkDelay true)
      let s4 := s3.boundary tick due master skew
      let s5 := { s4 with twn := { s4.twn with substNow := false } }
      if s3.twn.takeDue && !s3.flag TWN_CTRL_TAKEOVER then ok s5.twinSrcLost else ok s5
    else ok s

/-! ### Records and status frames (R521, R524, R526, R538) -/

/-- DIVOFS of the Lead's record aligns the shadow divider (R521). -/
def State.divAlign (s : State) (r : TwnRec) : State :=
  if s.isCompanion then
    match s.posAt r.tick with
    | some p =>
      let s1 := (s.setTheta (p + signed 64 r.divofs)).set TWN_STAT_DIV_ALIGNED 1
      ({ s1 with msu := { s1.msu with crossed := true }, twn := { s1.twn with shadowTick := some (tickAdd r.tick 2) } }).divSched
    | none => s
  else s

/-- A record of the partner is noted, and compared in MIRROR (R526) once the own record of its tick exists. -/
def State.recTake (s : State) (r : TwnRec) : State :=
  let newer := match s.twn.recTick with
    | none => true
    | some n => tickGe r.tick n
  let s1 := if newer then { s with twn := { s.twn with recTick := some r.tick } } else s
  if s1.get TWN_STAT_MODE = 1 then
    match s1.twn.own.find? (fun x => x.tick == r.tick) with
    | some x => ({ s1 with twn := { s1.twn with own := s1.twn.own.filter (fun z => z.tick != r.tick) } }).recCompare x r
    | none => if tickGe r.tick s1.tickno then { s1 with twn := { s1.twn with theirs := s1.twn.theirs ++ [r] } } else s1
  else if s1.standby then s1.standbyTrim
  else s1

/-- TWN_SYNC_LOST: TWIN_SYNC has failed and records still arrive (R531). -/
def State.syncLostNote (s : State) : State :=
  if s.isCompanion && s.syncFailed s.twn.substRun && !s.twn.syncLost then
    { s.ledger 0x0B04 0 with twn := { (s.ledger 0x0B04 0).twn with syncLost := true } }
  else s

/-- TICK_RECORD: one that fails its CRC is discarded. -/
def execTickRecord (bytes : List Nat) (t : Nat) (s : State) : Host.Outcome State Fault Refusal :=
  let s := s.setNow t
  match twnRecord bytes with
  | none => ok s
  | some r =>
    if s.twinLinkUp && s.get TWN_STAT_MODE != 0 then
      let s1 := { s with twn := { s.twn with lastRec := t } }
      ok (((s1.divAlign r).recTake r).syncLostNote)
    else ok s

/-- STATUS_FRAME_SEND (R524). -/
def execStatusFrameSend (t : Nat) (s : State) : Host.Outcome State Fault Refusal :=
  let s := s.setNow t
  if s.twinLinkUp then ok (s.emit (.twin 2 [s.get PWR_STATE_CUR, 0, 0, 0, 0, 0, 0, 0])) else ok s

/-- STATUS_FRAME (R538): TWN_PART_PWR; the Lead's RUN wakes a sleeping Companion. -/
def execStatusFrame (bytes : List Nat) (t : Nat) (s : State) : Host.Outcome State Fault Refusal :=
  let s := s.setNow t
  if s.twinLinkUp && bytes.length == 8 then
    let st := bits (bytes.getD 0 0) 2 0
    let s1 := (({ s with twn := { s.twn with lastStat := t } }.set TWN_PART_PWR_STATE st).set TWN_PART_PWR_VALID 1).pwrShow
    let asleep := s1.get PWR_STATE_CUR != 0 || s1.pwr.vote.isSome || s1.pwr.entering.isSome
    ok (if s1.isCompanion && st == 0 && asleep then s1.wakeFree 3 t else s1)
  else ok s

/-! ### Checkpoints and catch-up (R527 to R530) -/

/-- One line of a checkpoint is written on the Companion: poisoned where the Lead read it uncorrectable; a write that fails is counted. -/
def State.ckptLine (s : State) (base i : Nat) (data : List Nat) (ue failed : Bool) : State :=
  if !s.dpaOk (base + 64 * i) 64 then s
  else if failed then (s.inc TWN_CNT2_CKPT_UE).ledger 0x0B03 (base + 64 * i)
  else s.dramWrite 210 (base + 64 * i) (sliceBytes data (64 * i) 64) ue

/-- A checkpoint is complete on this unit. -/
def State.ckptComplete (s : State) (tick : Nat) : State :=
  ((s.set TWN_CKPT_TICK_LO_TICK tick).set TWN_CKPT_TICK_HI_TICK (tick / 2 ^ 32)).headerPage

/-- CHECKPOINT_DONE (R527, R528): `data` is the slot as it crossed the link, `ue` and `failed` the lines the Lead read uncorrectable and
those the Companion failed to write. On the Lead a checkpoint that waited starts. -/
def execCheckpointDone (tick : Nat) (data : List Nat) (ue failed : List Nat) (t : Nat) (s : State) : Host.Outcome State Fault Refusal :=
  let s := s.setNow t
  if s.isCompanion && s.get TWN_STAT_MODE == 2 then
    let base := s.ckptSlot tick
    let s1 := (List.range (s.get TWN_CKPT_GEOM_LINES)).foldl (fun st i => st.ckptLine base i data (ue.contains i) (failed.contains i)) s
    ok (s1.ckptComplete tick)
  else
    match s.twn.ckpt with
    | none => ok s
    | some n =>
      let s1 := if tickGe s.tick.opened (tickAdd n 2) then s.inc TWN_CNT2_CKPT_LATE else s
      let s2 := { s1 with twn := { s1.twn with ckpt := none } }.ckptComplete n
      match s2.twn.ckptWait with
      | [] => ok s2
      | k :: rest => ok ({ s2 with twn := { s2.twn with ckptWait := rest } }.ckptStart k)

/-- CATCHUP_DONE (R530): the joining unit holds the region of the Lead; the pairing's step 5 is done. -/
def execCatchupDone (data : List Nat) (t : Nat) (s : State) : Host.Outcome State Fault Refusal :=
  let s := s.setNow t
  if s.flag TWN_STAT_CATCHUP then
    let n := s.ckptSize - 4096
    let s1 := if s.twinCompanion && s.dpaOk (s.ckptBase + 4096) n then s.dramWrite 210 (s.ckptBase + 4096) (sliceBytes data 0 n) false else s
    ok { s1.set TWN_STAT_CATCHUP 0 with twn := { s1.twn with pairReady := true } }
  else ok s

/-! ### Commands of the host (R535, R536) -/

/-- A proposal of the Lead for tick T: refused with DEADLINE where T is too near (R102). -/
def State.twinPropose (s : State) (mode t : Nat) : KmiRes :=
  if s.twn.mc.isOpen then .fin s stBadState 0 [] []
  else if !tickGe t (tickAdd s.tickno (3 + s.mcLag true)) then .fin s stDeadline 0 [] []
  else .run (s.mcPropose true mode t) true 0

/-- TWIN_DETACH on the Lead of a pair. -/
def State.twinDetach (s : State) (t : Nat) : KmiRes :=
  if s.get TWN_STAT_MODE = 0 ∨ s.mcMaster true = false then .fin s stBadState 0 [] [] else s.twinPropose 0xFF00 t

/-- The checks of step 4 on this unit: its Itinerary, its checkpoint region, and on a joining unit SYC_CTRL.ROLE and TCK_CTRL.EN. -/
def State.pairChecks (s : State) : Bool :=
  let joining := s.get TWN_STAT_MODE == 0 && s.twinCompanion
  let itin := s.get CFG_ITIN_ITIN_ID
  itin != 0 && itin != 0xFFFFFFFF
    && (s.get TWN_CKPT_GEOM_LINES == 0 || s.dpaOk s.ckptBase s.ckptSize)
    && !(joining && (s.get SYC_CTRL_ROLE == 1 || s.get SYC_CTRL_ROLE == 2))
    && !(joining && s.flag TCK_CTRL_EN)

/-- TWIN_PAIR for MIRROR or STANDBY (R536, Table 17-7). -/
def State.twinPair (s : State) (mode t : Nat) (authOk peerOk : Bool) : KmiRes :=
  let slot := s.get TWN_AUTH_CA_SLOT
  if !s.flag TWN_CTRL_EN || !s.flag TWN_STAT_LANES_UP || !s.flag TWN_STAT_CAL_DONE || s.twn.mc.isOpen then .fin s stBadState 0 [] []
  else if !(s.slotHolds slot 2 && s.lcStates.all (slotCa slot)) then .fin s stRefusedLc 0 [] []
  else if s.mcMaster true && !tickGe t (tickAdd s.tickno (3 + s.mcLag true)) then .fin s stDeadline 0 [] []
  else if !authOk then .fin ((s.set TWN_STAT_AUTH_FAIL 1).ledger 0x0B07 0) stAuthFail 0 [] []
  else if !peerOk || !s.pairChecks then .fin s stBadState 0 [] []
  else
    let now := s.get TWN_CKPT_GEOM_LINES == 0
    let s1 := { s with twn := { s.twn with pairMode := 0xFF00 + mode, pairReady := now } }
    let s2 := if now then s1 else s1.set TWN_STAT_CATCHUP 1
    .run (if s2.mcMaster true then s2.mcPropose true (0xFF00 + mode) t else s2) true 0

/-- TWIN_PAIR (R536): mode ALONE detaches. `authOk` is the outcome of step 3, `peerOk` the partner's side of steps 2 and 4. -/
def execTwinPair (m : Nat) (authOk peerOk : Bool) (s : State) : Host.Outcome State Fault Refusal :=
  kmiCommand 0x0B03 m (fun cmd st =>
    if decide (3 ≤ cmd.a0) || decide (2 ^ 48 ≤ cmd.a1) then .fin st stBadArg 0 [] []
    else if cmd.a0 = 0 then st.twinDetach cmd.a1
    else st.twinPair cmd.a0 cmd.a1 authOk peerOk) s

/-- TWIN_DETACH (R535). -/
def execTwinDetach (m : Nat) (s : State) : Host.Outcome State Fault Refusal :=
  kmiCommand 0x0B04 m (fun cmd st => if decide (2 ^ 48 ≤ cmd.a1) then .fin st stBadArg 0 [] [] else st.twinDetach cmd.a1) s

/-- TWIN_ROLE (R537): asked of the Lead, the role Companion proposes a swap; the role it has completes at once. -/
def execTwinRole (m : Nat) (s : State) : Host.Outcome State Fault Refusal :=
  kmiCommand 0x0B05 m (fun cmd st =>
    if decide (2 ≤ cmd.a0) || decide (2 ^ 48 ≤ cmd.a1) then .fin st stBadArg 0 [] []
    else if st.get TWN_STAT_MODE = 0 ∨ st.mcMaster true = false then .fin st stBadState 0 [] []
    else if cmd.a0 = 0 then .fin st stOk 0 [st.tickno] []
    else st.twinPropose 0xFF03 cmd.a1) s

/-- TWIN_ARM (R535): the identifier is ITIN_ID[15:0] of the inactive planes; an empty mask disarms. -/
def execTwinArm (m : Nat) (s : State) : Host.Outcome State Fault Refusal :=
  kmiCommand 0x0B06 m (fun cmd st =>
    let mask := cmd.a0
    let ids := (bitList mask 24).map (fun r => st.planeItin r (st.inactPlane r) % 65536)
    if decide (2 ^ 24 ≤ mask) || ids.any (fun i => decide (0xFF00 ≤ i)) || ids.any (fun i => i != ids.headD 0) then .fin st stBadArg 0 [] []
    else if st.twn.mc.isOpen then .fin st stBadState 0 [] []
    else
      let s0 := st.mcDisarm true
      if (bitList mask 24).any (fun r => s0.geti CFG_ROOM_STAT_CO_PENDING r == 1 || bitB s0.armedRooms r) then .fin st stBadState 0 [] []
      else if mask = 0 then .fin s0 stOk 0 [] []
      else match s0.coFree with
        | none => .fin st stHeld 0 [] []
        | some j =>
          let s1 := s0.coTake j 3 mask 0 (st.planeItin ((bitList mask 24).headD 0) (st.inactPlane ((bitList mask 24).headD 0))) false
          .fin (s1.setMc true { s1.mc true with armMask := mask, armSlot := some j, armMode := ids.headD 0 }) stOk 0 [j] []) s

/-- TWN_MC_CTRL.GO on the Lead (R535): a changeover of the armed Rooms is proposed for TWN_MC_TICK. -/
def execTwinMcGo (s : State) : Host.Outcome State Fault Refusal :=
  let t := s.get TWN_MC_TICK_LO_T_LO + 2 ^ 32 * s.get TWN_MC_TICK_HI_T_HI
  if s.mcMaster true && s.get TWN_STAT_MODE != 0 && !s.twn.mc.isOpen && tickGe t (tickAdd s.tickno (3 + s.mcLag true)) then
    ok (s.mcPropose true s.twn.mc.armMode t)
  else ok s

end Sys2Proof.Machine
end

