-- ==== Sys2Proof/Machine/Start.lean ====
section
/-! DEFINITION. Starts (16, R592, R593): POWER_ON, SUPPLY and OFF_WAKE, fills of active banks (R355, R503, R505), the check against the Itinerary
record (R504), Opening (R507, R508) and a start that fails (R509), power loss, and the watchdog (R385). -/

namespace Sys2Proof.Machine

open Reg

/-! ### Resets -/

/-- Reset kinds of Table 16-1. -/
def kindPowerOn : Nat := 1
/-- SUPPLY. -/
def kindSupply : Nat := 2
/-- OFF_WAKE. -/
def kindOffWake : Nat := 3

/-- Register blocks that a kind of reset leaves: those of PD24 (Table 01-5), of which OFF_WAKE restarts the Milestone Unit and the tick
engine (R498). -/
def blkKept (kind : Nat) : List Nat :=
  if kind = kindSupply then [0x10, 0x11, 0x12, 0x80, 0xA0] else if kind = kindOffWake then [0x12, 0x80, 0xA0] else []

/-- A program or erase in the Pantry that is cut off leaves undefined bytes (R439); an OTP program leaves any of its bits (R441). -/
def State.cutStores (s : State) : State :=
  let s1 := (List.range 2).foldl (fun st b =>
    let x := st.geti PNT_B_STAT_STATE b
    let k := st.pBank b
    let s1 := if x = 1 ∨ x = 4 then
        let (l, s0) := st.freshBytes 256
        (s0.pWrite (2 ^ 24 * b + k.prog) l).pMark (2 ^ 24 * b + k.prog) 256
      else st
    if (2 ≤ x ∧ x ≤ 4) ∧ k.erLeft ≠ 0 then
      let (l, s0) := s1.freshBytes 4096
      s0.pWrite (2 ^ 24 * b + 4096 * k.er) l
    else s1) s
  match s1.pnt.otp with
  | none => s1
  | some (row, data, _) =>
    let (u, s2) := s1.freshBytes 128
    s2.otpSet row ((List.range 128).map (fun i => data.getD i 0 &&& u.getD i 0))

/-- Planes found WRITING or VERIFYING at a start are INVALID (R320). -/
def State.planesAtStart (s : State) : State :=
  (List.range 48).foldl (fun st i =>
    let x := st.plane (i / 2) (i % 2)
    if x = 1 ∨ x = 2 then st.setPlane (i / 2) (i % 2) 4 else st) s

/-- Every domain that a kind resets is at reset (Table 16-1, R498): the non-volatile stores hold, and PD24 as the kind says. DRAM contents
are lost. Only the domains of `dom` are powered. -/
def State.startReset (s : State) (kind dom : Nat) : State :=
  let z := State.reset
  let kept := blkKept kind
  let r := s.regReset (fun a => !kept.contains (a / 65536) && (kind == kindPowerOn || a != LDG_AONQ_HELD.at 0 0))
  let p24 := kind != kindPowerOn
  let live := kind == kindSupply
  let s1 : State := { z with
    pending := s.pending, out := s.out, freeCount := s.freeCount, regs := r.regs
    held := r.held, hiLatch := r.hiLatch
    tick := if live then s.tick else z.tick
    msu := if live then s.msu else z.msu
    syc := if p24 then s.syc else z.syc
    hlk := { z.hlk with perstLow := s.hlk.perstLow, wakeN := p24 && s.hlk.wakeN }
    cfg := { z.cfg with
      planeFr := s.cfg.planeFr, planeBad := s.cfg.planeBad, planeCnt := s.cfg.planeCnt, planeHand := s.cfg.planeHand
      refreshing := s.cfg.refreshing, sel := s.cfg.sel }
    pantry := s.pantry, otp := s.otp
    pnt := { z.pnt with programmed := s.pnt.programmed, nvwp := s.pnt.nvwp }
    pwr := if p24 then { s.pwr with
        schedWake := none, vote := none, backoff := none, entering := none, held := none, waking := none, padHold := none, wasActive := 0 }
      else z.pwr
    lc := if p24 then { z.lc with ir := s.lc.ir, bsr := s.lc.bsr, dr := s.lc.dr } else z.lc
    bist := { s.bist with todo := [], onCommand := false }
    ldg := { z.ldg with archPage := s.ldg.archPage, aonQ := if p24 then s.ldg.aonQ else [] }
    boot := { z.boot with kind := kind } }
  let s2 := ((s1.planesAtStart).set PWR_DOM_ON dom).set PWR_STATE_CUR 0
  let s3 := if p24 then s2.debugClose else s2
  if s.flag TWN_STAT_ROLE then s3.emit (.pin pinTwinRole 0) else s3

/-- OPEN falls where it was high. -/
def State.openFalls (s : State) : State := if s.boot.opened then s.emit (.pin pinOpen 0) else s

/-! ### The start -/

/-- What time 0 samples (R501, R500): PUDC_N, PERST_N, the VIO of each bank. -/
def State.startPins (s : State) (o : StartObs) : State :=
  let s1 := (List.range 13).foldl (fun st k => st.setVio k (bitB o.vioOk k)) s
  { s1 with
    boot := { s1.boot with time0 := s1.now, pudc := if o.pudc0 == o.pudc1 then o.pudc0 else true }
    hlk := { s1.hlk with perstLow := !o.perst, timeline := if o.perst then some s1.now else none } }

/-- Rooms whose select word has OFF clear power on and fill; PWR_ROOM_OFF shows the others (R500, Table 10-5). -/
def State.startRooms (s : State) : State :=
  let off := roomMask (fun r => bitB (s.sel r) 2)
  (List.range 24).foldl (fun st r => if bitB off r then st.seti CFG_ROOM_STAT_ACT_PLANE r (bits (st.sel r) 0 0) else st.roomPower r)
    (s.set PWR_ROOM_OFF_ROOMS off)

/-- Step 3: life-cycle completion (R548): fails where the state is not readable or SCRAPPED (R507). -/
def State.lcGood (s : State) : Bool := s.get TGT_LC_STATE != 5 && !s.flag TGT_LC_LC_BAD

/-- Step 3. -/
def State.stepLc (s : State) : State :=
  let s1 := (if s.boot.kind = kindOffWake then s else s.lcDecode).lcComplete
  if s1.lcGood then s1.journalWrite 3 0 1 0 0xFF 0xFF else (s1.noteFail 3).journalWrite 3 0 2 0 0xFF 0xFF

/-- The Ledger entries of the last BIST run (R575). -/
def State.bistReport (s : State) : State :=
  if s.bist.unreported then
    let run := s.bist.run % 65536
    let s1 := { s with bist := { s.bist with unreported := false } }.ledger 0x0809 run
    (s.bist.results.filter (fun l => l.getD 2 0 != 0xFFFF)).foldl
      (fun st l => st.ledger 0x080A (run + 2 ^ 16 * l.getD 0 0 + 2 ^ 24 * l.getD 2 0)) s1
  else s

/-- Everything a start does up to the point where Kilax waits for fills, training and locks (Table 16-2). -/
def State.startRun (s : State) (o : StartObs) : State :=
  let s1 := (s.startPins o).startRooms
  let first := s1.fwFirst
  let s2 := (s1.journalOpen s1.boot.kind (fwCopy first o.fw0 o.fw1)).stepShadow.stepRepair
  let s3 := s2.stepLc.stepDram
  match s3.stepFirmware first o.fw0 o.fw1 with
  | (none, s4) => (({ s4 with boot := { s4.boot with failed := true } }).noteFail 4)
  | (some c, s4) =>
    let s5 := (s4.fwRuns c).aonDrain
    let s6 := if o.pudc0 == o.pudc1 then s5 else s5.ledger 0x0C04 (b2n o.pudc0 + 2 * b2n o.pudc1)
    s6.bistReport

/-- POWER_ON (R497): VAON rises into range. -/
def execPowerOn (o : StartObs) (s : State) : Host.Outcome State Fault Refusal :=
  ok (((s.openFalls).startReset kindPowerOn 0x3F000000).startRun o)

/-- SUPPLY_RESET (R593): every domain except PD24 is held in reset until the supplies are good (R592). -/
def execSupplyReset (t : Nat) (s : State) : Host.Outcome State Fault Refusal :=
  if !s.boot.powered || s.boot.supplyBad || s.get PWR_STATE_CUR == 4 then ok s
  else
    let s := s.setNow t
    let s1 := (((s.engineOff t).cutStores).openFalls).startReset kindSupply (2 ^ 24)
    ok { s1 with boot := { s1.boot with supplyBad := true } }

/-- A wake from OFF (R490): every domain except PD24 starts afresh; with rails removed, once they are good again (R592). -/
def execOffWake (o : StartObs) (railsUp : Bool) (s : State) : Host.Outcome State Fault Refusal :=
  if s.get PWR_STATE_CUR != 4 || s.pwr.waking.isNone then ok s
  else
    let s1 := s.startReset kindOffWake (if railsUp then 0x3F000000 else 2 ^ 24)
    let s2 := { s1 with pwr := { s1.pwr with repState := 4, repFailed := 0, repCold := 0, repTime := 0 } }
    if railsUp then ok (s2.startRun o) else ok { s2 with boot := { s2.boot with supplyBad := true } }

/-- SUPPLY_GOOD (R592): time 0 of a start that waited for its supplies. -/
def execSupplyGood (o : StartObs) (t : Nat) (s : State) : Host.Outcome State Fault Refusal :=
  if s.boot.supplyBad then
    let s1 := (if s.boot.kind = kindSupply then s.setNow t else s).set PWR_DOM_ON 0x3F000000
    ok ({ s1 with boot := { s1.boot with supplyBad := false } }.startRun o)
  else ok s

/-- POWER_LOSS (R593): all activity ends; the non-volatile stores hold, but for what was being written. -/
def execPowerLoss (s : State) : Host.Outcome State Fault Refusal :=
  let s1 := ((s.cutStores).openFalls).startReset kindPowerOn 0
  ok { s1 with boot := { s1.boot with powered := false } }

/-! ### Fills (R355, R503, R505) -/

/-- Step 9 ends for a Room: its journal entry, none for a Room that is not REQUIRED and has no VALID plane; one that came up on its other
plane goes into a rewritten Itinerary record (R513). -/
def State.roomStep (s : State) (r : Nat) : State :=
  let alt := bitB s.boot.alt r
  let p := s.actPlane r
  if s.roomActive r then
    let s1 := s.journalWrite 9 (b2n alt) 1 (2 ^ r) r p
    if alt then s1.itinWrite false else s1
  else if bitB s.boot.required r || s.plane r 0 == 3 || s.plane r 1 == 3 then
    let s1 := { s with boot := { s.boot with fillFail := setBit s.boot.fillFail r } }
    (s1.noteFail 9).journalWrite 9 (b2n alt) 2 (2 ^ r) r p
  else s

/-- A Room takes the alternative of step 9: its other plane, where VALID, with the select word reprogrammed; else it has failed. -/
def State.roomAlt (s : State) (r : Nat) : State :=
  let q := s.inactPlane r
  if !bitB s.boot.alt r && s.plane r q == 3 then
    let s1 := (s.setSel r (q + 4 * bits (s.sel r) 2 2)).seti CFG_ROOM_STAT_ACT_PLANE r q
    { s1 with
      boot := { s1.boot with alt := setBit s1.boot.alt r }
      cfg := { s1.cfg with filling := setBit s1.cfg.filling r } }.ledger 0x0705 r
  else s.roomStep r

/-- The checks of R503 on a filled bank: frame 0 against the fabric PLLs, Door records against the Door table. -/
def State.roomChecks (s : State) (r : Nat) : Bool :=
  s.clocksMatch r (s.actFrame r 0) && (doorFault s.tblNow r (s.actFrame r)).isNone

/-- Kilax checks a filled Room of a start; one that fails returns to EMPTY and takes the alternative. -/
def State.roomCheck (s : State) (r : Nat) : State :=
  if s.roomChecks r then s.roomStep r else ((s.emptyAct r).roomSync r).roomAlt r

/-- A fill passes: the bank becomes ACTIVE, PREV follows the select word, a VALID inactive plane is staged again (R355). -/
def State.fillPass (s : State) (r : Nat) : State :=
  let p := s.actPlane r
  let s1 := ((s.fillBank r (s.actBankIx r) p).seti CFG_ROOM_STAT_ACT_BANK r 3).seti CFG_ROOM_STAT_PREV r (bits (s.sel r) 1 1)
  let s2 := (s1.firstInit r).roomSync r
  let s3 := if s2.plane r (s2.inactPlane r) = 3 then s2.startStage [r] else s2
  s3.restartTrees.roomsDone

/-- A fill fails: before Opening the bank stays EMPTY, afterwards it is FAULT (R355, R507). -/
def State.fillBad (s : State) (r : Nat) : State :=
  if s.boot.opened then ((s.seti CFG_ROOM_STAT_ACT_BANK r 4).roomSync r).roomsDone
  else s.emptyAct r

/-- A frame recorded as under refresh is read at the fill: the plane is INVALID where it fails, and the record is cleared where it passes
(R505). -/
def State.fillRefresh (s : State) (r : Nat) (bad : Option Nat) : State :=
  let key := 2 * r + s.actPlane r
  let f := Assoc.get 0 key s.cfg.refreshing
  if f = 0 then s
  else
    let s1 := { s with cfg := { s.cfg with refreshing := Assoc.write 0 key 0 s.cfg.refreshing } }
    if bad = some (f - 1) then (s1.setPlane r (s1.actPlane r) 4).ledger 0x0715 (wchDetail r 0 (s1.actPlane r) (f - 1) + 2 ^ 24) else s1

/-- ACTIVE_BANK_FILL_DONE: `bad` is the first frame that fails its check; a frame that the plane holds as PLANE_UE fails (R373). A fill that ends before Kilax has read the Itinerary record is judged
with it (R504). -/
def execActiveBankFillDone (room : Nat) (bad : Option Nat) (s : State) : Host.Outcome State Fault Refusal :=
  if 24 ≤ room then .fault .noSuchUnit
  else if !bitB s.cfg.filling room then ok s
  else
    let bad := s.fillFault room (s.actPlane room) 0 7680 bad
    let s1 := { s with cfg := { s.cfg with filling := clrBit s.cfg.filling room } }.fillRefresh room bad
    let s2 := if bad.isNone then s1.fillPass room else s1.fillBad room
    if s2.boot.opened || s2.boot.itin == 0 then ok s2
    else if bad.isNone then ok (s2.roomCheck room)
    else ok (s2.roomAlt room)

/-! ### Itinerary record, Opening, failure -/

/-- The record's entry for a Room: VERSION, ITIN_ID, ACT_PLANE, PREV (Table 16-5). -/
def itinEntry (b : List Nat) (r : Nat) : Nat × Nat × Nat × Nat :=
  (leField b (32 + 16 * r) 4, leField b (36 + 16 * r) 4, bits (b.getD (40 + 16 * r) 0) 0 0, bits (b.getD (40 + 16 * r) 0) 1 1)

/-- The OFF mask of the record governs (R504). -/
def State.itinOff (s : State) (off r : Nat) : State :=
  let o := bitB off r
  let s1 := if bitB (s.sel r) 2 == o then s else s.setSel r (s.sel r % 4 + 4 * b2n o)
  if o && s1.roomOn r then s1.roomOff r else if !o && !s1.roomOn r then s1.roomPower r else s1

/-- The plane of the record governs a Room that is on (R504): a match refills it from there; where the record's plane does not match, the Room
takes the alternative, which is the plane its select word named. -/
def State.itinPlane (s : State) (b : List Nat) (r : Nat) : State :=
  let (ver, itin, a, prev) := itinEntry b r
  if a = s.actPlane r ∨ s.roomOn r = false then s
  else if s.plane r a = 3 ∧ s.planeVer r a = ver ∧ s.planeItin r a = itin then
    let s1 := (s.setSel r (a + 2 * prev + 4 * bits (s.sel r) 2 2)).seti CFG_ROOM_STAT_ACT_PLANE r a
    let s2 := ((s1.emptyAct r).roomSync r).ledger 0x0704 r
    { s2 with cfg := { s2.cfg with filling := setBit s2.cfg.filling r } }
  else { s with boot := { s.boot with alt := setBit s.boot.alt r } }.ledger 0x0705 r

/-- Fabric PLLs that trees of a Room's active bank use. -/
def State.roomPlls (s : State) (r : Nat) : List Nat := [s.treeCode r 0, s.treeCode r 1].filterMap (pllOf r)

/-- REQUIRED Rooms' PLLs are locked. -/
def State.pllsGood (s : State) (required : Nat) : Bool :=
  (bitList required 24).all (fun r => (s.roomPlls r).all (fun p => bitB s.fab.pllLocked p))

/-- Step 8, where a REQUIRED Room uses a PLL. -/
def State.stepPll (s : State) : State :=
  if (bitList s.boot.required 24).all (fun r => (s.roomPlls r).isEmpty) then s
  else if s.pllsGood s.boot.required then s.journalWrite 8 0 1 0 0xFF 0xFF
  else (s.noteFail 8).journalWrite 8 0 2 0 0xFF 0xFF

/-- ITINERARY_CHECK (R504): `locks` are the fabric PLLs that lock under the record's settings. It runs once in a start, when the first fills
have ended. -/
def execItineraryCheck (t locks : Nat) (s : State) : Host.Outcome State Fault Refusal :=
  if !s.flag KMI_CTRL_FW_READY || s.boot.opened || s.boot.itin != 0 || s.cfg.filling != 0 then ok s
  else
    let s := s.setNow t
    let rec_ := s.itinRecord.getD (List.replicate 7968 0)
    let s1 := s.stepItin
    let on := roomMask s1.roomOn
    let off := leField rec_ 12 4 % 2 ^ 24
    let s2 := { s1 with fab := { s1.fab with pllLocked := locks % 65536 } }.set PWR_ROOM_OFF_ROOMS off
    let s3 := (List.range 24).foldl (fun st r => st.itinOff off r) s2
    let s4 := if s1.boot.itin = 1 then (List.range 24).foldl (fun st r => st.itinPlane rec_ r) s3 else s3
    let judged := (bitList on 24).filter (fun r => s4.roomOn r && !bitB s4.cfg.filling r)
    ok ((judged.foldl (fun st r => if st.roomActive r then st.roomCheck r else st.roomAlt r) s4).stepPll)

/-- REQUIRED and DRAM_REQUIRED of the Itinerary record as it stands. -/
def State.openNeeds (s : State) : Nat × Bool :=
  match s.itinRecord with
  | some b => (leField b 8 4 % 2 ^ 24, bitB (leField b 4 4) 2)
  | none => (0, false)

/-- The conditions of Opening (R507). -/
def State.openReady (s : State) : Bool :=
  let (req, dram) := s.openNeeds
  s.flag KMI_CTRL_FW_READY && s.boot.itin != 0 && s.lcGood && !s.flag TGT_LC_INCOMPLETE
    && (!dram || (s.flag DMC_STAT_TRAINED && s.flag DMC_CFG_EN))
    && (bitList req 24).all (fun r => s.roomOn r && s.roomActive r) && s.pllsGood req

/-- Opening (R508). -/
def State.openNow (s : State) : State :=
  let s1 := { s with
    boot := { s.boot with opened := true, failed := false, closed := true }
    wch := { s.wch with marginLast := some s.now, marginRan := false, passStart := s.now }
    pwr := { s.pwr with idleSince := s.now, sleepSince := s.now } }
  let s2 := if s.boot.failed then s1.emit (.pin pinCfgErr 1) else s1
  let s3 := ((List.range 24).foldl (fun st r => st.roomSync r) s2).emit (.pin pinOpen 1)
  let s4 := ((s3.restartTrees).journalWrite 10 0 1 0 0xFF 0xFF).journalWrite 0 0 1 0 0xFF 0xFF
  let s5 := s4.event 0x0001 0x08 (s4.boot.failStep + 2 ^ 16) 0
  if s5.boot.kind = kindOffWake ∧ s.boot.closed = false then
    let s6 := s5.set PWR_WAKE_LAT_LAT_US (elapsed s5.now s5.boot.time0 / 256000)
    s6.event 0x0002 0x09 s6.wakeC0 s6.pwr.repCold
  else s5

/-- OPENING: nothing happens while a condition of R507 is open. After a failed start it is the re-evaluation of R510. -/
def execOpening (t : Nat) (s : State) : Host.Outcome State Fault Refusal :=
  let s := s.setNow t
  if !s.boot.opened && s.openReady then ok s.openNow else ok s

/-- No work of this start is still running. -/
def State.startIdle (s : State) : Bool := s.boot.itin != 0 && s.cfg.filling == 0 && s.dmc.training == 0

/-- START_FAIL (R509): a mandatory step has failed and nothing is left to try. -/
def execStartFail (t : Nat) (s : State) : Host.Outcome State Fault Refusal :=
  let s := s.setNow t
  if s.boot.opened || s.boot.failed || !s.flag KMI_CTRL_FW_READY || s.openReady || !s.startIdle then ok s
  else
    let s1 := { s with boot := { s.boot with failed := true, closed := true } }.emit (.pin pinCfgErr 0)
    ok (((s1.journalWrite 10 0 2 0 0xFF 0xFF).journalWrite 0 0 2 0 0xFF 0xFF).event 0x0001 0x08 s1.boot.failStep 0)

/-! ### The watchdog (R385, R386) -/

/-- The watchdog's count restarts (R385). -/
def State.wdogKick (s : State) : State := { s with kmi := { s.kmi with wdogAt := s.now } }

/-- WATCHDOG_EXPIRY: TIMEOUT_MS, 0 acting as 1, after the count last restarted, where the time counter stands at least, the Innkeeper core alone restarts, unless it is halted under D2 (R558); a command that was posted or executing ends with HW_FAULT, an open load session ends; SRAM and what firmware was carrying on are lost. -/
def execWatchdogExpiry (s : State) : Host.Outcome State Fault Refusal :=
  if !s.flag KMI_CTRL_FW_READY || !s.flag KMI_WDOG_EN || !s.domOn 25 || s.flag TGT_DBG_HALTED then ok s
  else
    let s := s.reach ((s.kmi.wdogAt + 256000000 * max 1 (s.get KMI_WDOG_TIMEOUT_MS)) % 2 ^ 64)
    let posted := (List.range 15).filter (fun m => s.geti KMI_MBX_STATE m == 2)
    let s1 := posted.foldl (fun st m => match (st.mbx m).cmd with
      | some c => (st.kmiUnpost m).kmiFinish m c stHwFault 2 0 [] []
      | none => st) s
    let runs := s1.kmi.running
    let s2 := runs.foldl (fun st r => if r.abandoned then st.kmiStale r.mbx r.cmd else st.kmiFinish r.mbx r.cmd stHwFault 2 0 [] [])
      { s1 with kmi := { s1.kmi with running := [] } }
    let s3 := s2.endLoadReset
    let s5 := { s3 with kmi := { s3.kmi with sram := [], icache := [], wdogAt := s3.now }, pnt := { s3.pnt with jobs := [] } }
    ok (((s5.set KMI_STAT_WDOG_RST 1).ledger 0x0801 0).event 0x0008 0x08 0 0)

/-- WATCHDOG_KICK (R385). -/
def execWatchdogKick (s : State) : Host.Outcome State Fault Refusal := ok s.wdogKick

end Sys2Proof.Machine
end

