-- ==== Sys2Proof/Machine/IasWrite.lean ====
section
/-! DEFINITION. Reads and writes of registers by IAS address (R25, R54, R403): the register at an address, its value as a read returns it, the
writes that rules of other chapters refuse, and what a write starts. REGISTER_WRITE and DBG_IAS. -/

namespace Sys2Proof.Machine

open Reg

/-! ### The register map by address -/

/-- A register found at an address: its row of the map and its indices. -/
structure RegHit where
  row : RegRow
  i : Nat
  j : Nat
  deriving DecidableEq, Repr

/-- The indices with which a field's register lies at an address. -/
def fldHit (f : Fld) (addr : Nat) : Option (Nat × Nat) :=
  if addr < f.addr then none
  else
    let d := addr - f.addr
    let i := if f.s1 = 0 then 0 else d / f.s1
    let e := if f.s1 = 0 then d else d % f.s1
    let j := if f.s2 = 0 then 0 else e / f.s2
    let r := if f.s2 = 0 then e else e % f.s2
    if r = 0 ∧ i < f.n1 ∧ j < f.n2 then some (i, j) else none

/-- The register map of the 64 KiB window that holds an address (Table 01-7). -/
def windowMap (addr : Nat) : List RegRow :=
  match addr / 65536 with
  | 0x10 => mapMSU | 0x11 => mapTCK | 0x12 => mapSYC | 0x20 => mapING | 0x21 => mapLAS | 0x30 => mapHLK | 0x40 => mapDMC
  | 0x50 => mapCFG | 0x51 => mapWCH | 0x60 => mapKMI | 0x61 => mapPNT | 0x62 => mapOTP | 0x63 => mapLDG | 0x64 => mapBST
  | 0x70 => mapGPIO | 0x71 => mapIOB | 0x80 => mapPWR | 0x90 => mapTWN | 0xA0 => mapTGT
  | b => if 0x400 ≤ b ∧ b < 0x440 then mapDRG else []

/-- The register at an IAS address, if any. -/
def regAt (addr : Nat) : Option RegHit :=
  (windowMap addr).findSome? (fun row =>
    match row.flds with
    | [] => none
    | f :: _ => (fldHit f addr).map (fun ij => ⟨row, ij.1, ij.2⟩))

/-- An address inside a window of Table 01-7. -/
def inWindow (addr : Nat) : Bool := !(windowMap addr).isEmpty

/-- An address inside a memory of the Innkeeper: SRAM, ROM, mailbox memory, the Pantry window (Table 12-1). -/
def inInnkeeper (addr : Nat) : Bool :=
  decide (addr < 0x88000) || (decide (0xC0000 ≤ addr) && decide (addr < 0xD0000)) ||
  (decide (0x10000000 ≤ addr) && decide (addr < 0x12000000))

/-- The KMI opcode group of a block (Tables 12-10 to 12-21, Table 19-6). -/
def regGroup (addr : Nat) : Nat :=
  match addr / 65536 with
  | 0x10 | 0x11 | 0x12 => 3
  | 0x20 | 0x21 => 4
  | 0x30 => 5
  | 0x40 => 6
  | 0x50 | 0x51 => 7
  | 0x60 | 0x61 | 0x62 | 0x63 | 0x64 => 8
  | 0x80 => 9
  | 0xA0 => 0x0A
  | 0x90 => 0x0B
  | 0x70 | 0x71 => 0x0C
  | _ => 5

/-! ### Reading -/

/-- The fields of a register as one word: WO fields and reserved bits read 0. -/
def State.regWord (s : State) (h : RegHit) : Nat :=
  h.row.flds.foldl (fun v f => if f.acc = .wo then v else v + 2 ^ f.lo * s.get2 f h.i h.j) 0

/-- Status fields that follow other state are brought up to date before their register is read. -/
def State.regShow (s : State) (addr : Nat) : State :=
  if 0x100000 ≤ addr ∧ addr < 0x100100 then s.showPos ((addr - 0x100000) / 32)
  else if addr = 0x300024 then s.biasShow
  else if addr / 65536 = 0x51 then s.wchShow
  else if 0x701000 ≤ addr ∧ addr < 0x7011A0 then s.inShow ((addr - 0x701000) / 32)
  else if addr = 0x800030 then s.pwrShow
  else if addr = 0x900054 then
    s.set TWN_PART_PWR_VALID (b2n (s.flag TWN_PART_PWR_VALID && timeGe (s.twn.lastStat + nsUnits 64000) s.now))
  else if addr = 0x600040 then
    match s.kmi.unread with
    | [] => (s.set KMI_POST_Q_MBX 0).set KMI_POST_Q_VALID 0
    | m :: _ => (s.set KMI_POST_Q_MBX m).set KMI_POST_Q_VALID 1
  else s

/-- A DRAM lane of a channel, rank or subchannel that is not fitted reads 0 (R317). -/
def State.laneAbsent (s : State) (addr : Nat) : Bool :=
  decide (0x400100 ≤ addr) && decide (addr < 0x4001A0) && bitB s.dmc.absent ((addr - 0x400100) / 20)

/-- The value of a register, and the state in which its status is up to date; nothing is cleared. -/
def State.regPeek (s : State) (addr : Nat) (h : RegHit) : Nat × State :=
  let s1 := s.regShow addr
  (if s1.laneAbsent addr then 0 else s1.regWord h, s1)

/-- The TCK_ and MSU_ registers named _LO with a matching _HI (R67, R110). -/
def isLoReg (addr : Nat) : Bool :=
  [0x110030, 0x110038, 0x110040, 0x100110, 0x100208, 0x100210].contains addr ||
  (decide (0x100000 ≤ addr) && decide (addr < 0x100100) && (addr % 32 == 4 || addr % 32 == 12))

/-- Read a register: RC fields are cleared (R403), a read of a TCK_ or MSU_ _LO register latches the matching _HI register, which the next
read of that _HI register returns (R67, R110), and a read of KMI_POST_Q removes the post it shows (Table 12-22). -/
def State.regRead (s : State) (addr : Nat) (h : RegHit) : Nat × State :=
  let (v, s1) := s.regPeek addr h
  let s2 := h.row.flds.foldl (fun st f => if f.acc = .rc then st.set2 f h.i h.j 0 else st) s1
  let s3 := if addr = 0x600040 then { s2 with kmi := { s2.kmi with unread := s2.kmi.unread.drop 1 } } else s2
  if isLoReg addr then
    match regAt (addr + 4) with
    | some hi => (v, { s3 with hiLatch := Assoc.put (addr + 4) (s3.regWord hi) s3.hiLatch })
    | none => (v, s3)
  else match Assoc.find? addr s3.hiLatch with
    | some x => (x, { s3 with hiLatch := Assoc.del addr s3.hiLatch })
    | none => (v, s3)

/-- An access outside every window and every memory of the Innkeeper is recorded (R25). -/
def State.iasUnmapped (s : State) (addr : Nat) (write : Bool) : State := s.ledger 0x0102 (addr + 2 ^ 40 * b2n write)

/-- Read an IAS word (R25, R404): an address inside a window that names no register reads 0 (DEDUCED, log entry 27). -/
def State.iasRead (s : State) (addr : Nat) : Nat × State :=
  match regAt addr with
  | some h => s.regRead addr h
  | none => if inWindow addr || inInnkeeper addr then (0, s) else (0, s.iasUnmapped addr false)

/-! ### Writing -/

/-- The part of a write that falls on a field: its value bits under the mask. -/
def wrBits (f : Fld) (value mask : Nat) : Nat := bits (value &&& mask) (f.lo + f.width - 1) f.lo

/-- A write names a field: its mask covers some of it. -/
def wrNames (f : Fld) (mask : Nat) : Bool := bits mask (f.lo + f.width - 1) f.lo != 0

/-- The value an RW field takes: (old AND NOT mask) OR (value AND mask) (R403). -/
def State.wrNew (s : State) (h : RegHit) (f : Fld) (value mask : Nat) : Nat :=
  clrMask (s.get2 f h.i h.j) (bits mask (f.lo + f.width - 1) f.lo) + wrBits f value mask

/-- A write changes an RW field. -/
def State.wrChanges (s : State) (h : RegHit) (f : Fld) (value mask : Nat) : Bool :=
  f.acc == .rw && s.wrNew h f value mask != s.get2 f h.i h.j

/-- A write that a rule of another chapter refuses (R36, R111, R191, R224, R235, R241, R279, R287, R317, R356, R472); it is refused whole (DEDUCED, log
entry 27). -/
def State.wrRefused (s : State) (addr : Nat) (h : RegHit) (value mask : Nat) : Bool :=
  let named := h.row.flds.any (fun f => f.acc == .rw && wrNames f mask)
  if 0x120030 ≤ addr ∧ addr ≤ 0x12003C then named && s.syc.mc.isOpen
  else if addr = 0x110004 then wrNames TCK_SRC_NEXT mask && decide (5 ≤ s.wrNew h TCK_SRC_NEXT value mask)
  else match addr / 65536 with
  | 0x20 =>
    (addr - 0x200000) % 64 == 0 && decide (addr < 0x200800) && s.wrChanges h ING_LANE_CTRL_MUL value mask &&
    (s.flagi ING_LANE_CTRL_RX_EN h.i || s.flagi ING_LANE_CTRL_TX_EN h.i)
  | 0x21 => s.flagi LAS_CTRL_EN ((addr - 0x210000) / 128) && !((addr - 0x210000) % 128 == 0 && wrNames LAS_CTRL_EN mask)
  | 0x40 =>
    if 0x400010 ≤ addr ∧ addr < 0x400050 then named && s.flag DMC_CFG_EN
    else if 0x400100 ≤ addr ∧ addr < 0x4001A0 then named && (s.flag DMC_CFG_EN || s.flag DMC_TRAIN_STAT_BUSY)
    else false
  | 0x50 =>
    decide (0x500040 ≤ addr) && decide (addr < 0x5000C0) && named && s.geti CFG_CO_STAT_STATE ((addr - 0x500040) / 32) != 0
  | 0x70 =>
    let t := (addr - 0x701300) / 16
    decide (0x701300 ≤ addr) && decide (addr < 0x701380) && named && s.geti GPIO_TIM_CTRL_MODE t != 0 && bitB (s.get GPIO_RES_TIM_HELD) t
  | 0x30 =>
    (decide (0x300010 ≤ addr) && decide (addr < 0x30001C) && named && s.flag HLK_STAT_HDM_COMMITTED) ||
    (addr == 0x300020 && wrBits HLK_BIAS_OP_GO value mask == 1 && s.hlk.flip.isSome)
  | 0x10 | 0x11 | 0x12 | 0x51 | 0x60 | 0x61 | 0x62 | 0x63 | 0x64 | 0x71 | 0x80 | 0x90 | 0xA0 => false
  | _ =>
    decide (0x4200000 ≤ addr) && addr % 64 != 12 && named && s.geti DRG_CTX_CTRL_STATE ((addr - 0x4200000) / 64) != 0 &&
    !(addr % 64 == 0 && wrNames DRG_CTX_CTRL_CMD mask)

/-- The value a register keeps of a written one, where the map says how other values read: TICK_MIN, TIMER_PER, addresses with low bits 0. -/
def wrNorm (f : Fld) (v : Nat) : Nat :=
  if f = TCK_TICK_MIN_MIN_NS then max 2500 v
  else if f = TCK_TIMER_PER_PERIOD_NS then min 1000000000 (max 2500 v)
  else if f = TCK_CURFEW_ABS_NS then v / 4 * 4
  else if f = LAS_DRAM_LO_BASE ∨ f = LAS_SPILL_LO_BASE ∨ f = LAS_STRIDE then v / 64 * 64
  else if f = HLK_HDM_DPA_BASE_LO then v / 2 ^ 28 * 2 ^ 28
  else if f = DRG_CTX_SQ_BASE_LO_BASE ∨ f = DRG_CTX_CQ_BASE_LO_BASE ∨ f = TWN_CKPT_BASE_LO then v / 4096 * 4096
  else v

/-- The RW fields that their own rules write: enables and requests. -/
def wrOwn : List Fld :=
  [TCK_CTRL_EN, TCK_SRC_SWITCH, ING_LANE_CTRL_RX_EN, ING_LANE_CTRL_TX_EN, LAS_CTRL_EN, DMC_CFG_EN, PNT_FLOCK_LOCK]

/-- Store a write in the fields of a register: RW under the mask, W1C cleared by ones; WO fields hold nothing (R403). -/
def State.wrStore (s : State) (h : RegHit) (value mask : Nat) : State :=
  h.row.flds.foldl (fun st f =>
    match f.acc with
    | .rw =>
      if wrNames f mask && !wrOwn.contains f then st.swWrite f h.i h.j (wrNorm f (st.wrNew h f value mask)) else st
    | .w1c => st.set2 f h.i h.j (clrMask (st.get2 f h.i h.j) (wrBits f value mask))
    | .ro | .wo | .rc => st) s

/-- The state a command leaves, for a command that a register write starts. -/
def after (s : State) (o : Host.Outcome State Fault Refusal) : State :=
  match o with
  | .next s1 => s1
  | .fault _ => s
  | .refused _ => s

/-- What a write to a TCK_ register starts (R34, R35, R36, R37, R54). -/
def State.wrTck (s : State) (addr value mask : Nat) : State :=
  if addr = 0x110000 then
    let follow := s.get TCK_SRC_ACTIVE == 1 || s.get TCK_SRC_ACTIVE == 4
    let s1 := if follow then s.set TCK_CTRL_TICKNO_LOAD 0 else s
    let s2 := if !wrNames TCK_CTRL_EN mask then s1 else if wrBits TCK_CTRL_EN value mask = 1 then s1.engineOn s1.now else s1.engineOff s1.now
    (s2.curfewChange).refDemand
  else if addr = 0x110008 then { s with tick := { s.tick with timerWrite := s.tick.timerAnchor.map (fun _ => s.now) } }
  else if addr = 0x110004 ∧ wrBits TCK_SRC_SWITCH value mask = 1 then after s (execSourceSwitch s.now s)
  else if addr = 0x11000C ∧ wrBits TCK_HOST_TICK_GO value mask = 1 then
    let (u, s1) := s.fresh
    s1.tickEvent 3 s1.now (u % 1025)
  else s

/-- What a write to an MSU_ register starts, `old` being the state before it (R72, R75, R78, R79, R80, R82, R84). -/
def State.wrMsu (s old : State) (addr value mask : Nat) : State :=
  if addr < 0x100100 ∧ addr % 32 = 0 then
    let ch := (addr - 0x100000) / 32
    let e := s.encSt ch
    let e1 := if wrBits MSU_ENC_CTRL_EN value mask = 1 then { e with k := 0, stamps := [], sinceZ := none, since := s.now } else e
    let e2 := if wrNames MSU_ENC_CTRL_ZMODE mask then { e1 with sinceZ := none } else e1
    let s1 := (s.setEnc ch e2).showPos ch
    if s1.divFeeds ch then s1.divSched else s1
  else if addr = 0x100100 then
    let moved := s.get MSU_DIV_CTRL_EN != old.get MSU_DIV_CTRL_EN || s.get MSU_DIV_CTRL_CH != old.get MSU_DIV_CTRL_CH ||
      s.get MSU_DIV_CTRL_FWD != old.get MSU_DIV_CTRL_FWD
    let s1 := if moved && !s.divFrozen then { s with msu := { s.msu with sched := none } }.divSched else s
    let s2 := s1.rePitch old.pitch
    if wrBits MSU_DIV_CTRL_LOAD value mask = 1 then s2.divLoad else s2
  else if addr = 0x100104 ∨ addr = 0x100108 then s.rePitch old.pitch
  else if addr = 0x100200 then
    let s1 := if s.tbSrc = old.tbSrc then s
      else
        let s0 := ({ s with msu := { s.msu with critSince := none, ppsSince := none } }).set MSU_TB_STAT_LOCKED 0
        if s.tbSrc = 0 then s0.set MSU_TB_FREQ 0 else s0
    if wrBits MSU_TB_CTRL_SET value mask = 1 then after s1 (execTbSet s1.now s1) else s1
  else s

/-- What a write to SYC_CTRL starts: ENUM (R90), and a port that is switched off loses its link (R93). -/
def State.wrSyc (s old : State) (addr value mask : Nat) : State :=
  if addr = 0x120000 then
    let s1 := if old.flag SYC_CTRL_EN && !s.flag SYC_CTRL_EN then
        (({ s with syc := { s.syc with calSeen := 0, trips := [], crcRun := 0, crcSeen := false, calAt := none, owed := none } }).set SYC_STAT_LINK_UP 0).set SYC_STAT_CAL_DONE 0
      else s
    if wrBits SYC_CTRL_ENUM value mask = 1 then after s1 (execSyncEnum s1) else s1
  else s

/-- What a write to a lane's or a Line Assembler's control register starts (R191, R192, R196): a lane whose PCS mode changed seeks its lock anew
(DESIGN CHOICE, log entry 40). -/
def State.wrIngest (s old : State) (addr value mask : Nat) : State :=
  if addr / 65536 = 0x20 then
    let k := (addr - 0x200000) / 64
    if (addr - 0x200000) % 64 = 0 ∧ k < 32 then
      let bit := fun (f : Fld) => if wrNames f mask then wrBits f value mask == 1 else s.flagi f k
      let s1 := if s.geti ING_LANE_CTRL_PCS k = old.geti ING_LANE_CTRL_PCS k then s else s.laneRxInit k
      if wrNames ING_LANE_CTRL_RX_EN mask || wrNames ING_LANE_CTRL_TX_EN mask then
        after s1 (execLaneEnable k (bit ING_LANE_CTRL_RX_EN) (bit ING_LANE_CTRL_TX_EN) s1)
      else s1
    else s
  else
    let j := (addr - 0x210000) / 128
    if (addr - 0x210000) % 128 = 0 ∧ wrNames LAS_CTRL_EN mask = true then
      if wrBits LAS_CTRL_EN value mask = 1 then after s (execLasEnable j s.now s)
      else if s.flagi LAS_CTRL_EN j then s.lasDisable j else s
    else s

/-- What a write to an HLK_ or DRG_ register starts (R227, R241, R253). -/
def State.wrHost (s : State) (addr value mask : Nat) : State :=
  if addr = 0x300000 ∧ wrBits HLK_CTRL_RETRAIN value mask = 1 then after s (execHlkRetrain s)
  else if addr = 0x300020 then
    let s1 := s.biasShow
    if wrBits HLK_BIAS_OP_GO value mask = 1 then after s1 (execBiasFlipStart (s1.get HLK_BIAS_OP_PAGE) s1) else s1
  else if 0x4200000 ≤ addr ∧ addr % 64 = 0 then
    let r := (addr - 0x4200000) / 64
    match wrBits DRG_CTX_CTRL_CMD value mask with
    | 1 => after s (execRingStart r s)
    | 2 => after s (execRingStop r s)
    | 3 => after s (execRingAbort r s)
    | 4 => after s (execRingDisable r s)
    | _ => s
  else s

/-- What a write to a DMC_ register starts (R286, R299, R305, R308). -/
def State.wrDmc (s : State) (addr value mask : Nat) : State :=
  if addr = 0x400000 ∧ wrNames DMC_CFG_EN mask = true then
    if wrBits DMC_CFG_EN value mask = 1 then after s (execDmcEnable s) else s.set DMC_CFG_EN 0
  else if addr = 0x400060 then s.refDemand
  else if addr = 0x400080 ∧ wrBits DMC_TRAIN_CTRL_GO value mask = 1 then after s (execDramTrainGo (s.get DMC_TRAIN_CTRL_MODE) s)
  else s

/-- What a write to a CFG_ or WCH_ register starts (R337, R339, R370, R376, R377). -/
def State.wrCfg (s : State) (addr value mask : Nat) : State :=
  if addr = 0x500010 then
    let rooms := wrBits CFG_STAGE_ROOMS value mask
    let (bad, notValid) := s.stageRefused rooms
    if bad.isEmpty && notValid.isEmpty then (s.startStage (bitList rooms 24)).stageDone else s
  else if 0x500040 ≤ addr ∧ addr < 0x5000C0 ∧ addr % 32 = 16 then
    let j := (addr - 0x500040) / 32
    let s1 := if wrBits CFG_CO_STAT_ARM value mask = 1 then after s (execCoSlotArm j s) else s
    if wrBits CFG_CO_STAT_FREE value mask = 1 then after s1 (execCoSlotFree j s1) else s1
  else if addr = 0x510000 ∧ wrBits WCH_CTRL_SOFT_RST value mask = 1 then s.softRst
  else if addr = 0x510008 ∧ wrBits WCH_MARGIN_GO value mask = 1 then after s (execMarginPassGo s)
  else if addr = 0x510030 then
    let s1 := if wrBits WCH_SAMPLE_GO value mask = 1 then
        let (u, s0) := ((s.set WCH_SAMPLE_DONE 0).set WCH_SAMPLE_PASS 0).fresh
        after s0 (execWatchmanSample (bitB u 0) s0)
      else s
    if wrBits WCH_SAMPLE_FORCE value mask = 1 then s1.sampleForce else s1
  else s

/-- What a write to a PNT_, OTP_, LDG_ or BST_ register starts (R428 to R435, R441, R447, R570, R577, R580). The supplies are taken as
good (DEDUCED, log entry 27). -/
def State.wrMgmt (s : State) (addr value mask : Nat) : State :=
  if addr = 0x610004 ∧ wrNames PNT_FLOCK_LOCK mask = true then after s (execFetchLockWrite (wrBits PNT_FLOCK_LOCK value mask == 1) s)
  else if addr = 0x610100 ∨ addr = 0x610140 then
    let b := (addr - 0x610100) / 64
    match wrBits PNT_B_CMD_OP value mask with
    | 1 => after s (execPntProgram b s.pnt.nvwp true s)
    | 2 => after s (execPntErase b s.pnt.nvwp true s)
    | 3 => after s (execPntSuspend b s)
    | 4 => after s (execPntResume b s.pnt.nvwp s)
    | _ => s
  else if addr = 0x620000 then
    let s1 := if wrBits OTP_CMD_READ value mask = 1 then after s (execOtpCmdRead (s.get OTP_CMD_ROW) s) else s
    if wrBits OTP_CMD_PROGRAM value mask = 1 then after s1 (execOtpCmdProgram (s1.get OTP_CMD_ROW) true s1) else s1
  else if addr = 0x630040 then s.ledgerFw (wrBits LDG_FW_CODE value mask)
  else if addr = 0x630020 ∨ addr = 0x630024 then s.burstCut
  else if addr = 0x640000 then
    let s1 := if wrBits BST_CTRL_GO value mask = 1 then after s (execBistGo true true s) else s
    if wrBits BST_CTRL_ABORT value mask = 1 then after s1 (execBistAbort s1) else s1
  else s

/-- What a write to an IOB_, PWR_, TWN_ or TGT_ register starts (R451, R453, R477, R519, R535, R549). -/
def State.wrEdge (s old : State) (addr value mask : Nat) : State :=
  match addr / 65536 with
  | 0x71 =>
    if addr < 0x710034 then s.stdCheck ((addr - 0x710000) / 4)
    else if addr = 0x710040 ∧ wrBits IOB_CTRL_SAVE value mask = 1 then after s (execIobSave s)
    else if 0x710100 ≤ addr ∧ addr < 0x710AC0 then
      let n := (addr - 0x710100) / 4
      ((s.stdCheck (n / 48)).pinUpdate n).pinUpdate (n + (if n % 2 = 0 then 1 else 0))
    else s
  | 0x80 => s.pwrShow
  | 0x90 =>
    if addr = 0x900000 then
      let s1 := if old.flag TWN_CTRL_EN && !s.flag TWN_CTRL_EN then
          ((s.set TWN_STAT_LANES_UP 0).set TWN_STAT_SYNC_UP 0).set TWN_STAT_CAL_DONE 0
        else s
      if s1.flag TWN_CTRL_TRIG_SHARE then s1 else { s1 with twn := { s1.twn with trigHiZ := false } }
    else if addr = 0x900024 ∧ wrBits TWN_MC_CTRL_GO value mask = 1 then after s (execTwinMcGo s)
    else s
  | _ => if addr = 0xA0000C ∧ wrBits TGT_DBG_LOCK value mask = 1 then s.debugLock else s

/-- What a stored write starts, by block. -/
def State.wrStart (s old : State) (addr value mask : Nat) : State :=
  match addr / 65536 with
  | 0x10 => s.wrMsu old addr value mask
  | 0x11 => s.wrTck addr value mask
  | 0x12 => s.wrSyc old addr value mask
  | 0x20 | 0x21 => s.wrIngest old addr value mask
  | 0x40 => s.wrDmc addr value mask
  | 0x50 | 0x51 => s.wrCfg addr value mask
  | 0x61 | 0x62 | 0x63 | 0x64 => s.wrMgmt addr value mask
  | 0x71 | 0x80 | 0x90 | 0xA0 => s.wrEdge old addr value mask
  | 0x60 =>
    if addr = 0x600044 ∧ wrBits KMI_CTRL_ICACHE_INV value mask = 1 then s.icacheClear
    else if addr = 0x600048 ∧ wrBits KMI_WDOG_KICK value mask = 1 then s.wdogKick
    else s
  | 0x70 => s.wrGpio old addr
  | _ => s.wrHost addr value mask

/-- A register of which only some bits may be written now: LAS_CTRL.EN of an enabled Line Assembler (R224), DRG_CTX_CTRL.CMD of a ring that is not
DISABLED (R279). -/
def State.onlyBits (s : State) (addr : Nat) : Option Nat :=
  if addr / 65536 = 0x21 ∧ (addr - 0x210000) % 128 = 0 ∧ s.flagi LAS_CTRL_EN ((addr - 0x210000) / 128) = true then some 1
  else if 0x4200000 ≤ addr ∧ addr < 0x4400000 ∧ addr % 64 = 0 ∧ s.geti DRG_CTX_CTRL_STATE ((addr - 0x4200000) / 64) ≠ 0 then some 0x70
  else none

/-- Write a register under a mask (R54, R403): true where a rule of another chapter refuses the write, which is then ignored and
recorded. -/
def State.regWrite (s : State) (addr : Nat) (h : RegHit) (value mask : Nat) : Bool × State :=
  if s.wrRefused addr h value mask then (true, s.regIgnored (regGroup addr) addr)
  else
    let s1 := { s with hiLatch := Assoc.del addr s.hiLatch }
    match s.onlyBits addr with
    | some m =>
      let s2 := if h.row.flds.any (fun f => s.wrChanges h f value (clrMask mask m)) then s1.regIgnored (regGroup addr) addr else s1
      (false, s2.wrStart s addr value (mask &&& m))
    | none => (false, (s1.wrStore h value mask).wrStart s addr value mask)

/-- Write an IAS word (R25, R54, R404): a write inside a window that names no register is discarded (DEDUCED, log entry 27). -/
def State.iasWrite (s : State) (addr value mask : Nat) : Bool × State :=
  match regAt addr with
  | some h => s.regWrite addr h value mask
  | none => if inWindow addr || inInnkeeper addr then (false, s) else (false, s.iasUnmapped addr true)

/-! ### Commands -/

/-- REGISTER_WRITE (R8, R54): an IAS write of a register under a mask. -/
def execRegisterWrite (addr value mask : Nat) (s : State) : Host.Outcome State Fault Refusal :=
  ok (s.iasWrite (addr % 2 ^ 32) (value % 2 ^ 32) (mask % 2 ^ 32)).2

/-- An address that RAW_READ, RAW_WRITE and DBG_IAS may reach (R404): word-aligned, outside the TGT_ and OTP_ blocks and the Innkeeper's
memories. -/
def rawAllowed (addr : Nat) : Bool :=
  addr % 4 == 0 && decide (addr < 2 ^ 32) && addr / 65536 != 0xA0 && addr / 65536 != 0x62 && !inInnkeeper addr

/-- DBG_IAS (R560, Table 18-9): at D2 one IAS word is read or written under the address rules of R404, and the data register shows address,
data, write and done; an address those rules refuse shows done 0. Below D2 it acts as BYPASS (DEDUCED, log entry 27). -/
def execDbgIas (addr data : Nat) (write : Bool) (s : State) : Host.Outcome State Fault Refusal :=
  let a := addr % 2 ^ 32
  let d := data % 2 ^ 32
  let dr := fun (x done : Nat) => a + 2 ^ 32 * x + 2 ^ 64 * b2n write + 2 ^ 65 * done
  if !s.jtagOn then ok s
  else if !s.d2 then ok (s.jtag 0xFF 0)
  else if !rawAllowed a then ok (s.jtag 0x20 (dr d 0))
  else if write then ok ((s.iasWrite a d (2 ^ 32 - 1)).2.jtag 0x20 (dr d 1))
  else
    let (v, s1) := s.iasRead a
    ok (s1.jtag 0x20 (dr v 1))

end Sys2Proof.Machine
end

