-- ==== Sys2Proof/Machine/KmiRegs.lean ====
section
/-! DEFINITION. The register commands of the KMI (R403), raw access (R404), KMI_INFO and KMI_ECHO (R414). -/

namespace Sys2Proof.Machine

open Reg

/-! ### REG_READ and REG_WRITE (R403) -/

/-- The block an address lies in: its 64 KiB window, or the first window of DRG_. -/
def regBlock (addr : Nat) : Nat := if 0x400 ≤ addr / 65536 ∧ addr / 65536 < 0x440 then 0x400 else addr / 65536

/-- A REG_READ of the block at `base`: its results. -/
def kmiRegRead (base : Nat) (cmd : KmiCmd) (s : State) : KmiRes :=
  match regAt (base + bits cmd.a0 23 0) with
  | none => .fin s stBadArg 0 [] []
  | some h =>
    if regBlock (base + bits cmd.a0 23 0) = regBlock base then
      let (v, s1) := s.regRead (base + bits cmd.a0 23 0) h
      .fin s1 stOk 0 [v] []
    else .fin s stBadArg 0 [] []

/-- Registers that REG_WRITE excludes (R409, R411, R413): SYC_MC_ARM and SYC_MC_TICK, HLK_HDM_ and HLK_BIAS_OP, WCH_SAMPLE. -/
def regExcluded (addr : Nat) : Bool :=
  [0x120030, 0x120038, 0x12003C, 0x300010, 0x300014, 0x300018, 0x300020, 0x510030].contains addr

/-- A REG_WRITE to the block at `base`: its results. -/
def kmiRegWrite (base : Nat) (cmd : KmiCmd) (s : State) : KmiRes :=
  let addr := base + bits cmd.a0 23 0
  match regAt addr with
  | none => .fin s stBadArg 0 [] []
  | some h =>
    if regBlock addr = regBlock base ∧ regExcluded addr = false then
      match s.regWrite addr h (bits cmd.a1 31 0) (bits cmd.a1 63 32) with
      | (true, s1) => .fin s1 stBadState 0 [] []
      | (false, s1) =>
        let (v, s2) := s1.regPeek addr h
        .fin s2 stOk 0 [v] []
    else .fin s stBadArg 0 [] []

/-- A read of a TCK_ register. -/
def execTickRegRead (m : Nat) (s : State) : Host.Outcome State Fault Refusal := kmiCommand 0x0301 m (kmiRegRead 0x110000) s

/-- A write to a TCK_ register. -/
def execTickRegWrite (m : Nat) (s : State) : Host.Outcome State Fault Refusal := kmiCommand 0x0302 m (kmiRegWrite 0x110000) s

/-- A read of a MSU_ register. -/
def execMsuRegRead (m : Nat) (s : State) : Host.Outcome State Fault Refusal := kmiCommand 0x0310 m (kmiRegRead 0x100000) s

/-- A write to a MSU_ register. -/
def execMsuRegWrite (m : Nat) (s : State) : Host.Outcome State Fault Refusal := kmiCommand 0x0311 m (kmiRegWrite 0x100000) s

/-- A read of a SYC_ register. -/
def execSycRegRead (m : Nat) (s : State) : Host.Outcome State Fault Refusal := kmiCommand 0x0320 m (kmiRegRead 0x120000) s

/-- A write to a SYC_ register. -/
def execSycRegWrite (m : Nat) (s : State) : Host.Outcome State Fault Refusal := kmiCommand 0x0321 m (kmiRegWrite 0x120000) s

/-- A read of a ING_ register. -/
def execIngRegRead (m : Nat) (s : State) : Host.Outcome State Fault Refusal := kmiCommand 0x0401 m (kmiRegRead 0x200000) s

/-- A write to a ING_ register. -/
def execIngRegWrite (m : Nat) (s : State) : Host.Outcome State Fault Refusal := kmiCommand 0x0402 m (kmiRegWrite 0x200000) s

/-- A read of a LAS_ register. -/
def execLasRegRead (m : Nat) (s : State) : Host.Outcome State Fault Refusal := kmiCommand 0x0403 m (kmiRegRead 0x210000) s

/-- A write to a LAS_ register. -/
def execLasRegWrite (m : Nat) (s : State) : Host.Outcome State Fault Refusal := kmiCommand 0x0404 m (kmiRegWrite 0x210000) s

/-- A read of a HLK_ register. -/
def execHlkRegRead (m : Nat) (s : State) : Host.Outcome State Fault Refusal := kmiCommand 0x0501 m (kmiRegRead 0x300000) s

/-- A write to a HLK_ register. -/
def execHlkRegWrite (m : Nat) (s : State) : Host.Outcome State Fault Refusal := kmiCommand 0x0502 m (kmiRegWrite 0x300000) s

/-- A read of a DRG_ register. -/
def execDrgRegRead (m : Nat) (s : State) : Host.Outcome State Fault Refusal := kmiCommand 0x0507 m (kmiRegRead 0x4000000) s

/-- A write to a DRG_ register. -/
def execDrgRegWrite (m : Nat) (s : State) : Host.Outcome State Fault Refusal := kmiCommand 0x0508 m (kmiRegWrite 0x4000000) s

/-- A read of a DMC_ register. -/
def execDmcRegRead (m : Nat) (s : State) : Host.Outcome State Fault Refusal := kmiCommand 0x0601 m (kmiRegRead 0x400000) s

/-- A write to a DMC_ register. -/
def execDmcRegWrite (m : Nat) (s : State) : Host.Outcome State Fault Refusal := kmiCommand 0x0602 m (kmiRegWrite 0x400000) s

/-- A read of a WCH_ register. -/
def execWchRegRead (m : Nat) (s : State) : Host.Outcome State Fault Refusal := kmiCommand 0x0710 m (kmiRegRead 0x510000) s

/-- A write to a WCH_ register. -/
def execWchRegWrite (m : Nat) (s : State) : Host.Outcome State Fault Refusal := kmiCommand 0x0711 m (kmiRegWrite 0x510000) s

/-- A read of a PWR_ register. -/
def execPwrRegRead (m : Nat) (s : State) : Host.Outcome State Fault Refusal := kmiCommand 0x0901 m (kmiRegRead 0x800000) s

/-- A write to a PWR_ register. -/
def execPwrRegWrite (m : Nat) (s : State) : Host.Outcome State Fault Refusal := kmiCommand 0x0902 m (kmiRegWrite 0x800000) s

/-- A read of a TWN_ register. -/
def execTwnRegRead (m : Nat) (s : State) : Host.Outcome State Fault Refusal := kmiCommand 0x0B01 m (kmiRegRead 0x900000) s

/-- A write to a TWN_ register. -/
def execTwnRegWrite (m : Nat) (s : State) : Host.Outcome State Fault Refusal := kmiCommand 0x0B02 m (kmiRegWrite 0x900000) s

/-- A read of a GPIO_ register. -/
def execGpioRegRead (m : Nat) (s : State) : Host.Outcome State Fault Refusal := kmiCommand 0x0C01 m (kmiRegRead 0x700000) s

/-- A write to a GPIO_ register. -/
def execGpioRegWrite (m : Nat) (s : State) : Host.Outcome State Fault Refusal := kmiCommand 0x0C02 m (kmiRegWrite 0x700000) s

/-- A read of a IOB_ register. -/
def execIobRegRead (m : Nat) (s : State) : Host.Outcome State Fault Refusal := kmiCommand 0x0C03 m (kmiRegRead 0x710000) s

/-- A write to a IOB_ register. -/
def execIobRegWrite (m : Nat) (s : State) : Host.Outcome State Fault Refusal := kmiCommand 0x0C04 m (kmiRegWrite 0x710000) s

/-! ### Raw access (R404) -/

/-- The words of a raw access all lie at addresses it may reach. -/
def rawRange (addr n : Nat) : Bool := (List.range n).all (fun i => rawAllowed (addr + 4 * i))

/-- RAW_READ: 1 to 960 IAS words, each read as R25 and R403 say. -/
def execRawRead (m : Nat) (s : State) : Host.Outcome State Fault Refusal :=
  kmiCommand 0x0803 m (fun cmd s =>
    let addr := bits cmd.a0 31 0
    let n := bits cmd.a0 47 32
    if n = 0 ∨ 960 < n ∨ rawRange addr n = false then .fin s stBadArg 0 [] []
    else
      let r := (List.range n).foldl (fun (x : List Nat × State) i =>
        let (v, s1) := x.2.iasRead (addr + 4 * i)
        (x.1 ++ leBytes 4 v, s1)) ([], s)
      .fin r.2 stOk 0 [] r.1) s

/-- The Pantry bank whose operation a raw write of a word has asked for and been refused because it runs the firmware (R404, R434):
PNT_B*b*_STAT.ERR is SELF_BANK (Table 13-5). -/
def State.rawSelfBank (s : State) (addr : Nat) : Bool :=
  (addr == 0x610100 && s.geti PNT_B_STAT_ERR 0 == 1) || (addr == 0x610140 && s.geti PNT_B_STAT_ERR 1 == 1)

/-- RAW_WRITE: whole words, each written as R25 and R54 say; one Ledger entry per command; SELF_BANK where a Pantry operation it starts is
refused on the executing bank. -/
def execRawWrite (m : Nat) (s : State) : Host.Outcome State Fault Refusal :=
  kmiCommand 0x0804 m (fun cmd s =>
    let addr := bits cmd.a0 31 0
    let n := cmd.dataIn.length / 4
    if cmd.dataIn = [] ∨ cmd.dataIn.length % 4 ≠ 0 ∨ rawRange addr n = false then .fin s stBadArg 0 [] []
    else
      let r := (List.range n).foldl (fun (x : Bool × State) i =>
        let v := leField cmd.dataIn (4 * i) 4
        let s1 := (x.2.iasWrite (addr + 4 * i) v (2 ^ 32 - 1)).2
        (x.1 || (decide (1 ≤ v % 8) && decide (v % 8 ≤ 2) && s1.rawSelfBank (addr + 4 * i)), s1)) (false, s.ledger 0x0802 addr)
      .fin r.2 (if r.1 then stSelfBank else stOk) 0 [] []) s

/-! ### KMI_INFO and KMI_ECHO (R414) -/

/-- KMI_INFO: KMI and firmware versions, stepping B1, the running copy; the serial number; life-cycle state and debug level. -/
def execKmiInfo (m : Nat) (s : State) : Host.Outcome State Fault Refusal :=
  kmiCommand 0x0801 m (fun _ s =>
    .fin s stOk 0 [0x0204 + 2 ^ 16 * 0x0204 + 2 ^ 32 * 0xB1 + 2 ^ 40 * s.kmi.copy, leField s.serial 0 8, leField s.serial 8 8,
      s.get TGT_LC_STATE + 2 ^ 4 * s.get TGT_DBG_LEVEL] []) s

/-- KMI_ECHO: the four argument words. -/
def execKmiEcho (m : Nat) (s : State) : Host.Outcome State Fault Refusal :=
  kmiCommand 0x0802 m (fun cmd s => .fin s stOk 0 [cmd.a0, cmd.a1, cmd.a2, cmd.a3] []) s

end Sys2Proof.Machine
end

