-- ==== Sys2Proof/Machine/Dispatch.lean ====
section
/-! DEFINITION. The dispatcher: one arm per command, each a direct call of its meaning. -/

namespace Sys2Proof.Machine

def exec (i : Instr) (s : State) : Host.Outcome State Fault Refusal :=
  match i with
  | .curfew t => Sys2Proof.Machine.execCurfew t s
  | .rdone room t => Sys2Proof.Machine.execRdone room t s
  | .tickStopped t => Sys2Proof.Machine.execTickStopped t s
  | .timerEvent t skew => Sys2Proof.Machine.execTimerEvent t skew s
  | .hostTick t skew => Sys2Proof.Machine.execHostTick t skew s
  | .sourceSwitch t => Sys2Proof.Machine.execSourceSwitch t s
  | .tickEngineEnable t => Sys2Proof.Machine.execTickEngineEnable t s
  | .tickEngineDisable t => Sys2Proof.Machine.execTickEngineDisable t s
  | .registerWrite addr value mask => Sys2Proof.Machine.execRegisterWrite addr value mask s
  | .encoderEdge ch a b stamp t => Sys2Proof.Machine.execEncoderEdge ch a b stamp t s
  | .indexEdge ch t => Sys2Proof.Machine.execIndexEdge ch t s
  | .encoderStopped ch t => Sys2Proof.Machine.execEncoderStopped ch t s
  | .encoderEventDue skew => Sys2Proof.Machine.execEncoderEventDue skew s
  | .divLoad t => Sys2Proof.Machine.execDivLoad t s
  | .tbLock t value => Sys2Proof.Machine.execTbLock t value s
  | .tbRefLost cause t => Sys2Proof.Machine.execTbRefLost cause t s
  | .tbSet t => Sys2Proof.Machine.execTbSet t s
  | .ppsEdge t inWindow => Sys2Proof.Machine.execPpsEdge t inWindow s
  | .trigPulse n => Sys2Proof.Machine.execTrigPulse n s
  | .syncEnum => Sys2Proof.Machine.execSyncEnum s
  | .enumMessage msg => Sys2Proof.Machine.execEnumMessage msg s
  | .enumReply msg => Sys2Proof.Machine.execEnumReply msg s
  | .syncTickMessage twin msg t skew => Sys2Proof.Machine.execSyncTickMessage twin msg t skew s
  | .syncMergeMessage twin msg t => Sys2Proof.Machine.execSyncMergeMessage twin msg t s
  | .calMessage twin msg arrival echoAt => Sys2Proof.Machine.execCalMessage twin msg arrival echoAt s
  | .calEcho twin msg launch arrival => Sys2Proof.Machine.execCalEcho twin msg launch arrival s
  | .calSend twin t => Sys2Proof.Machine.execCalSend twin t s
  | .syncStopMessage twin msg t => Sys2Proof.Machine.execSyncStopMessage twin msg t s
  | .statusMessage twin msg t => Sys2Proof.Machine.execStatusMessage twin msg t s
  | .syncLinkLost twin cause t => Sys2Proof.Machine.execSyncLinkLost twin cause t s
  | .fpllLockLoss pll => Sys2Proof.Machine.execFpllLockLoss pll s
  | .fpllRelock pll us => Sys2Proof.Machine.execFpllRelock pll us s
  | .distributedRamWrite room tile slice inp => Sys2Proof.Machine.execDistributedRamWrite room tile slice inp s
  | .blockPortAccess room larder idx pa pb window aFirst => Sys2Proof.Machine.execBlockPortAccess room larder idx pa pb window aFirst s
  | .pabCycle room inp => Sys2Proof.Machine.execPabCycle room inp s
  | .pabClearStat room pab => Sys2Proof.Machine.execPabClearStat room pab s
  | .laneEnable lane rx tx => Sys2Proof.Machine.execLaneEnable lane rx tx s
  | .cdrLock lane => Sys2Proof.Machine.execCdrLock lane s
  | .wordLock rx => Sys2Proof.Machine.execWordLock rx s
  | .ingLaneDown rx refPresent => Sys2Proof.Machine.execIngLaneDown rx refPresent s
  | .lasEnable la t => Sys2Proof.Machine.execLasEnable la t s
  | .deskewMarker la lane mark => Sys2Proof.Machine.execDeskewMarker la lane mark s
  | .ingestPacket la lanes t tEnd => Sys2Proof.Machine.execIngestPacket la lanes t tEnd s
  | .lineFill la rowsInTime => Sys2Proof.Machine.execLineFill la rowsInTime s
  | .recordBlockPoll la => Sys2Proof.Machine.execRecordBlockPoll la s
  | .transmitPacket la => Sys2Proof.Machine.execTransmitPacket la s
  | .perstNRelease t => Sys2Proof.Machine.execPerstNRelease t s
  | .cfgReady t us readBad => Sys2Proof.Machine.execCfgReady t us readBad s
  | .linkTrained rate width flit enum vfEnable pmeEn => Sys2Proof.Machine.execLinkTrained rate width flit enum vfEnable pmeEn s
  | .hlkRetrain => Sys2Proof.Machine.execHlkRetrain s
  | .fundamentalReset => Sys2Proof.Machine.execFundamentalReset s
  | .hotReset => Sys2Proof.Machine.execHotReset s
  | .cxlReset => Sys2Proof.Machine.execCxlReset s
  | .flrPf0 => Sys2Proof.Machine.execFlrPf0 s
  | .flrPf1 => Sys2Proof.Machine.execFlrPf1 s
  | .flrVf v => Sys2Proof.Machine.execFlrVf v s
  | .busMasterDisable fn => Sys2Proof.Machine.execBusMasterDisable fn s
  | .dStateChange fn d3hot => Sys2Proof.Machine.execDStateChange fn d3hot s
  | .pmeTurnOff => Sys2Proof.Machine.execPmeTurnOff s
  | .windowRequest offset len read data tag => Sys2Proof.Machine.execWindowRequest offset len read data tag s
  | .windowAnswer room rid data => Sys2Proof.Machine.execWindowAnswer room rid data s
  | .hlkWinTmo tmo => Sys2Proof.Machine.execHlkWinTmo tmo s
  | .hdmCommit base size ways skip => Sys2Proof.Machine.execHdmCommit base size ways skip s
  | .cxlMemRequest hpa write poison readErr tag => Sys2Proof.Machine.execCxlMemRequest hpa write poison readErr tag s
  | .h2dSnoop kind addr => Sys2Proof.Machine.execH2dSnoop kind addr s
  | .biasFlipStart page => Sys2Proof.Machine.execBiasFlipStart page s
  | .biasFlipDone => Sys2Proof.Machine.execBiasFlipDone s
  | .ringStart r => Sys2Proof.Machine.execRingStart r s
  | .ringStop r => Sys2Proof.Machine.execRingStop r s
  | .ringAbort r => Sys2Proof.Machine.execRingAbort r s
  | .ringAbortDone r => Sys2Proof.Machine.execRingAbortDone r s
  | .ringDisable r => Sys2Proof.Machine.execRingDisable r s
  | .doorbell fn idx sqPi cqWord t => Sys2Proof.Machine.execDoorbell fn idx sqPi cqWord t s
  | .descriptorFetch r err bytes => Sys2Proof.Machine.execDescriptorFetch r err bytes s
  | .f2hTransfer room port slot words last writesDone => Sys2Proof.Machine.execF2hTransfer room port slot words last writesDone s
  | .dramCopyTransfer room port slot word readErr writesDone => Sys2Proof.Machine.execDramCopyTransfer room port slot word readErr writesDone s
  | .h2fTransfer r => Sys2Proof.Machine.execH2fTransfer r s
  | .hostReadCompletion r kind data => Sys2Proof.Machine.execHostReadCompletion r kind data s
  | .delayedPost r => Sys2Proof.Machine.execDelayedPost r s
  | .ringIrqAge r t => Sys2Proof.Machine.execRingIrqAge r t s
  | .roomGone room => Sys2Proof.Machine.execRoomGone room s
  | .dramWriteTransfer room port stream header words t => Sys2Proof.Machine.execDramWriteTransfer room port stream header words t s
  | .dramReadRequest room port stream word t => Sys2Proof.Machine.execDramReadRequest room port stream word t s
  | .dramAck room port => Sys2Proof.Machine.execDramAck room port s
  | .dmcCommandSelect sc t colOk ceBeats ue => Sys2Proof.Machine.execDmcCommandSelect sc t colOk ceBeats ue s
  | .pageTimeout sc bank t => Sys2Proof.Machine.execPageTimeout sc bank t s
  | .refreshInterval t => Sys2Proof.Machine.execRefreshInterval t s
  | .refreshStart t => Sys2Proof.Machine.execRefreshStart t s
  | .refreshEnd t => Sys2Proof.Machine.execRefreshEnd t s
  | .mr4Poll doubled => Sys2Proof.Machine.execMr4Poll doubled s
  | .zqCalibration => Sys2Proof.Machine.execZqCalibration s
  | .rankPowerDown sc rank t => Sys2Proof.Machine.execRankPowerDown sc rank t s
  | .dramTrainGo mode => Sys2Proof.Machine.execDramTrainGo mode s
  | .dramTrainDone res => Sys2Proof.Machine.execDramTrainDone res s
  | .dmcEnable => Sys2Proof.Machine.execDmcEnable s
  | .dramInitPass lines => Sys2Proof.Machine.execDramInitPass lines s
  | .writeCrcAlert sc lines replayed => Sys2Proof.Machine.execWriteCrcAlert sc lines replayed s
  | .loadOpen m => Sys2Proof.Machine.execLoadOpen m s
  | .loadData m => Sys2Proof.Machine.execLoadData m s
  | .frameGroupProgrammed room prog => Sys2Proof.Machine.execFrameGroupProgrammed room prog s
  | .loadClose m => Sys2Proof.Machine.execLoadClose m s
  | .readbackDone bad => Sys2Proof.Machine.execReadbackDone bad s
  | .loadAbort m => Sys2Proof.Machine.execLoadAbort m s
  | .loadTimeout => Sys2Proof.Machine.execLoadTimeout s
  | .stage m => Sys2Proof.Machine.execStage m s
  | .stagingGroup room t bad => Sys2Proof.Machine.execStagingGroup room t bad s
  | .changeover m => Sys2Proof.Machine.execChangeover m s
  | .rollback m => Sys2Proof.Machine.execRollback m s
  | .cancelCo m => Sys2Proof.Machine.execCancelCo m s
  | .coSlotArm j => Sys2Proof.Machine.execCoSlotArm j s
  | .coSlotFree j => Sys2Proof.Machine.execCoSlotFree j s
  | .handoverBlockWorkDone room work => Sys2Proof.Machine.execHandoverBlockWorkDone room work s
  | .selectWordProgram t => Sys2Proof.Machine.execSelectWordProgram t s
  | .roomPowerOff room => Sys2Proof.Machine.execRoomPowerOff room s
  | .roomPowerOn room => Sys2Proof.Machine.execRoomPowerOn room s
  | .watchmanFrameOp room t f => Sys2Proof.Machine.execWatchmanFrameOp room t f s
  | .reloadPlaneRead room => Sys2Proof.Machine.execReloadPlaneRead room s
  | .reloadWrite room t => Sys2Proof.Machine.execReloadWrite room t s
  | .pacingCredit room t => Sys2Proof.Machine.execPacingCredit room t s
  | .wchStarved room t => Sys2Proof.Machine.execWchStarved room t s
  | .marginPassPeriodic t => Sys2Proof.Machine.execMarginPassPeriodic t s
  | .marginPassGo => Sys2Proof.Machine.execMarginPassGo s
  | .watchmanTmrScrub fixes => Sys2Proof.Machine.execWatchmanTmrScrub fixes s
  | .ramMapRebuild room bank ended => Sys2Proof.Machine.execRamMapRebuild room bank ended s
  | .heartbeatCheck t => Sys2Proof.Machine.execHeartbeatCheck t s
  | .watchmanSoftRst => Sys2Proof.Machine.execWatchmanSoftRst s
  | .watchmanSample pass => Sys2Proof.Machine.execWatchmanSample pass s
  | .watchmanForce => Sys2Proof.Machine.execWatchmanForce s
  | .mbxPost m cmd => Sys2Proof.Machine.execMbxPost m cmd s
  | .mbxAck m => Sys2Proof.Machine.execMbxAck m s
  | .mbxAbort m => Sys2Proof.Machine.execMbxAbort m s
  | .mbxEvtAck n => Sys2Proof.Machine.execMbxEvtAck n s
  | .watchdogExpiry => Sys2Proof.Machine.execWatchdogExpiry s
  | .watchdogKick => Sys2Proof.Machine.execWatchdogKick s
  | .fabMgmtRead m => Sys2Proof.Machine.execFabMgmtRead m s
  | .fabMgmtWrite m => Sys2Proof.Machine.execFabMgmtWrite m s
  | .fpllRead m => Sys2Proof.Machine.execFpllRead m s
  | .fpllWrite m => Sys2Proof.Machine.execFpllWrite m s
  | .bramSbe m => Sys2Proof.Machine.execBramSbe m s
  | .tickRegRead m => Sys2Proof.Machine.execTickRegRead m s
  | .tickRegWrite m => Sys2Proof.Machine.execTickRegWrite m s
  | .tickNow m => Sys2Proof.Machine.execTickNow m s
  | .msuRegRead m => Sys2Proof.Machine.execMsuRegRead m s
  | .msuRegWrite m => Sys2Proof.Machine.execMsuRegWrite m s
  | .sycRegRead m => Sys2Proof.Machine.execSycRegRead m s
  | .sycRegWrite m => Sys2Proof.Machine.execSycRegWrite m s
  | .syncArm m => Sys2Proof.Machine.execSyncArm m s
  | .syncDisarm m => Sys2Proof.Machine.execSyncDisarm m s
  | .syncPropose m => Sys2Proof.Machine.execSyncPropose m s
  | .syncLocal m => Sys2Proof.Machine.execSyncLocal m s
  | .ingRegRead m => Sys2Proof.Machine.execIngRegRead m s
  | .ingRegWrite m => Sys2Proof.Machine.execIngRegWrite m s
  | .lasRegRead m => Sys2Proof.Machine.execLasRegRead m s
  | .lasRegWrite m => Sys2Proof.Machine.execLasRegWrite m s
  | .sideRecv m => Sys2Proof.Machine.execSideRecv m s
  | .sideSend m => Sys2Proof.Machine.execSideSend m s
  | .hlkRegRead m => Sys2Proof.Machine.execHlkRegRead m s
  | .hlkRegWrite m => Sys2Proof.Machine.execHlkRegWrite m s
  | .hdmSet m => Sys2Proof.Machine.execHdmSet m s
  | .biasFlip m => Sys2Proof.Machine.execBiasFlip m s
  | .hostSettings m => Sys2Proof.Machine.execHostSettings m s
  | .ringCmd m => Sys2Proof.Machine.execRingCmd m s
  | .drgRegRead m => Sys2Proof.Machine.execDrgRegRead m s
  | .drgRegWrite m => Sys2Proof.Machine.execDrgRegWrite m s
  | .dmcRegRead m => Sys2Proof.Machine.execDmcRegRead m s
  | .dmcRegWrite m => Sys2Proof.Machine.execDmcRegWrite m s
  | .memSettings m => Sys2Proof.Machine.execMemSettings m s
  | .dramRead m => Sys2Proof.Machine.execDramRead m s
  | .dramWrite m => Sys2Proof.Machine.execDramWrite m s
  | .dramTrain m => Sys2Proof.Machine.execDramTrain m s
  | .configStatus m => Sys2Proof.Machine.execConfigStatus m s
  | .wchRegRead m => Sys2Proof.Machine.execWchRegRead m s
  | .wchRegWrite m => Sys2Proof.Machine.execWchRegWrite m s
  | .kmiInfo m => Sys2Proof.Machine.execKmiInfo m s
  | .kmiEcho m => Sys2Proof.Machine.execKmiEcho m s
  | .rawRead m => Sys2Proof.Machine.execRawRead m s
  | .rawWrite m => Sys2Proof.Machine.execRawWrite m s
  | .pantryRead m retryAt ueAt => Sys2Proof.Machine.execPantryRead m retryAt ueAt s
  | .pantryProgram m => Sys2Proof.Machine.execPantryProgram m s
  | .pantryErase m => Sys2Proof.Machine.execPantryErase m s
  | .fwUpdate m => Sys2Proof.Machine.execFwUpdate m s
  | .otpRead m => Sys2Proof.Machine.execOtpRead m s
  | .otpProgram m => Sys2Proof.Machine.execOtpProgram m s
  | .ledgerRead m => Sys2Proof.Machine.execLedgerRead m s
  | .ledgerArchive m => Sys2Proof.Machine.execLedgerArchive m s
  | .bistRun m => Sys2Proof.Machine.execBistRun m s
  | .bistResult m => Sys2Proof.Machine.execBistResult m s
  | .pwrRegRead m => Sys2Proof.Machine.execPwrRegRead m s
  | .pwrRegWrite m => Sys2Proof.Machine.execPwrRegWrite m s
  | .pwrLimit m => Sys2Proof.Machine.execPwrLimit m s
  | .pwrRooms m => Sys2Proof.Machine.execPwrRooms m s
  | .pwrWakeReport m => Sys2Proof.Machine.execPwrWakeReport m s
  | .lcStatus m => Sys2Proof.Machine.execLcStatus m s
  | .lcAdvance m => Sys2Proof.Machine.execLcAdvance m s
  | .debugChallenge m => Sys2Proof.Machine.execDebugChallenge m s
  | .debugUnlock m => Sys2Proof.Machine.execDebugUnlock m s
  | .debugLock m => Sys2Proof.Machine.execDebugLock m s
  | .keyProvision m => Sys2Proof.Machine.execKeyProvision m s
  | .scrap m => Sys2Proof.Machine.execScrap m s
  | .ffCapture m => Sys2Proof.Machine.execFfCapture m s
  | .twnRegRead m => Sys2Proof.Machine.execTwnRegRead m s
  | .twnRegWrite m => Sys2Proof.Machine.execTwnRegWrite m s
  | .twinPair m authOk peerOk => Sys2Proof.Machine.execTwinPair m authOk peerOk s
  | .twinDetach m => Sys2Proof.Machine.execTwinDetach m s
  | .twinRole m => Sys2Proof.Machine.execTwinRole m s
  | .twinArm m => Sys2Proof.Machine.execTwinArm m s
  | .gpioRegRead m => Sys2Proof.Machine.execGpioRegRead m s
  | .gpioRegWrite m => Sys2Proof.Machine.execGpioRegWrite m s
  | .iobRegRead m => Sys2Proof.Machine.execIobRegRead m s
  | .iobRegWrite m => Sys2Proof.Machine.execIobRegWrite m s
  | .pinAssign m => Sys2Proof.Machine.execPinAssign m s
  | .periphXfer m => Sys2Proof.Machine.execPeriphXfer m s
  | .periphXferDone c rx nack => Sys2Proof.Machine.execPeriphXferDone c rx nack s
  | .pntProgram b nvwp vaux => Sys2Proof.Machine.execPntProgram b nvwp vaux s
  | .pntErase b nvwp vaux => Sys2Proof.Machine.execPntErase b nvwp vaux s
  | .pntSuspend b => Sys2Proof.Machine.execPntSuspend b s
  | .pntResume b nvwp => Sys2Proof.Machine.execPntResume b nvwp s
  | .pntProgramDone b verified => Sys2Proof.Machine.execPntProgramDone b verified s
  | .pntSectorErased b verified => Sys2Proof.Machine.execPntSectorErased b verified s
  | .fetchLockWrite lock => Sys2Proof.Machine.execFetchLockWrite lock s
  | .otpCmdRead row => Sys2Proof.Machine.execOtpCmdRead row s
  | .otpCmdProgram row vaux => Sys2Proof.Machine.execOtpCmdProgram row vaux s
  | .otpProgramDone verified => Sys2Proof.Machine.execOtpProgramDone verified s
  | .otpShadowLoad => Sys2Proof.Machine.execOtpShadowLoad s
  | .vioFault bank => Sys2Proof.Machine.execVioFault bank s
  | .gpioIrq q x => Sys2Proof.Machine.execGpioIrq q x s
  | .timerPulse tim t => Sys2Proof.Machine.execTimerPulse tim t s
  | .timerCapture tim t rising => Sys2Proof.Machine.execTimerCapture tim t rising s
  | .iobSave => Sys2Proof.Machine.execIobSave s
  | .powerDecision t portsIdle => Sys2Proof.Machine.execPowerDecision t portsIdle s
  | .scheduledWake t => Sys2Proof.Machine.execScheduledWake t s
  | .voteStop t busy => Sys2Proof.Machine.execVoteStop t busy s
  | .voteBackoffEnd t => Sys2Proof.Machine.execVoteBackoffEnd t s
  | .entryCommit t => Sys2Proof.Machine.execEntryCommit t s
  | .wake cause t badBanks => Sys2Proof.Machine.execWake cause t badBanks s
  | .nightPorterSample t pos => Sys2Proof.Machine.execNightPorterSample t pos s
  | .powerOn o => Sys2Proof.Machine.execPowerOn o s
  | .supplyReset t => Sys2Proof.Machine.execSupplyReset t s
  | .offWake o railsUp => Sys2Proof.Machine.execOffWake o railsUp s
  | .itineraryCheck t locks => Sys2Proof.Machine.execItineraryCheck t locks s
  | .opening t => Sys2Proof.Machine.execOpening t s
  | .startFail t => Sys2Proof.Machine.execStartFail t s
  | .lanesUp t => Sys2Proof.Machine.execLanesUp t s
  | .tickRecord bytes t => Sys2Proof.Machine.execTickRecord bytes t s
  | .statusFrameSend t => Sys2Proof.Machine.execStatusFrameSend t s
  | .statusFrame bytes t => Sys2Proof.Machine.execStatusFrame bytes t s
  | .twnSubst t skew => Sys2Proof.Machine.execTwnSubst t skew s
  | .checkpointDone tick data ue failed t => Sys2Proof.Machine.execCheckpointDone tick data ue failed t s
  | .catchupDone data t => Sys2Proof.Machine.execCatchupDone data t s
  | .twnPartnerLost t => Sys2Proof.Machine.execTwnPartnerLost t s
  | .twinMcGo => Sys2Proof.Machine.execTwinMcGo s
  | .ledgerEvent code detail t => Sys2Proof.Machine.execLedgerEvent code detail t s
  | .ledgerFwCode code => Sys2Proof.Machine.execLedgerFwCode code s
  | .tokenRefill code => Sys2Proof.Machine.execTokenRefill code s
  | .archivePage progOk => Sys2Proof.Machine.execArchivePage progOk s
  | .bistGo vcoreOk clkOk => Sys2Proof.Machine.execBistGo vcoreOk clkOk s
  | .bistAbort => Sys2Proof.Machine.execBistAbort s
  | .bistRunDone fails wakeHeld t10us => Sys2Proof.Machine.execBistRunDone fails wakeHeld t10us s
  | .repairCompact copy => Sys2Proof.Machine.execRepairCompact copy s
  | .challengeExpiry => Sys2Proof.Machine.execChallengeExpiry s
  | .extest => Sys2Proof.Machine.execExtest s
  | .idcode => Sys2Proof.Machine.execIdcode s
  | .samplePreload pins => Sys2Proof.Machine.execSamplePreload pins s
  | .jtagClamp => Sys2Proof.Machine.execJtagClamp s
  | .highz => Sys2Proof.Machine.execHighz s
  | .tgtStatus => Sys2Proof.Machine.execTgtStatus s
  | .tgtChallenge level => Sys2Proof.Machine.execTgtChallenge level s
  | .tgtResponse level resp => Sys2Proof.Machine.execTgtResponse level resp s
  | .dbgIas addr data write => Sys2Proof.Machine.execDbgIas addr data write s
  | .dbgHalt halt => Sys2Proof.Machine.execDbgHalt halt s
  | .ffRead room tile => Sys2Proof.Machine.execFfRead room tile s
  | .factoryTest code => Sys2Proof.Machine.execFactoryTest code s
  | .bypass code => Sys2Proof.Machine.execBypass code s
  | .trstN => Sys2Proof.Machine.execTrstN s
  | .powerLoss => Sys2Proof.Machine.execPowerLoss s
  | .supplyGood o t => Sys2Proof.Machine.execSupplyGood o t s
  | .vioOk bank => Sys2Proof.Machine.execVioOk bank s
  | .linkPowerState lpm => Sys2Proof.Machine.execLinkPowerState lpm s
  | .exclusiveStartTimeout m => Sys2Proof.Machine.execExclusiveStartTimeout m s
  | .hostLinkStepFail => Sys2Proof.Machine.execHostLinkStepFail s
  | .marginReadGroup room finds => Sys2Proof.Machine.execMarginReadGroup room finds s
  | .activeBankFillDone room bad => Sys2Proof.Machine.execActiveBankFillDone room bad s
  | .wakeComplete t => Sys2Proof.Machine.execWakeComplete t s
  | .entryComplete t => Sys2Proof.Machine.execEntryComplete t s

end Sys2Proof.Machine
end

