-- ==== Sys2Proof/WellFormed.lean ====
section
/-! DEFINITION. Well-formedness of commands: every unit an operand names is one the spec gives the part (01, R16; the
counts of units of each chapter). A meaning faults on a command that is not well formed and on no other. -/

namespace Sys2Proof

/-- One of the 24 Rooms (R16). -/
def isRoom (r : Nat) : Bool := decide (r < 24)
/-- One of the 32 ingest lanes (R190). -/
def isLane (l : Nat) : Bool := decide (l < 32)
/-- One of the 16 Line Assemblers (R196). -/
def isLa (j : Nat) : Bool := decide (j < 16)
/-- One of the 16 fabric PLLs (R150). -/
def isPll (p : Nat) : Bool := decide (p < 16)
/-- One of the 8 encoder channels (R68). -/
def isEnc (c : Nat) : Bool := decide (c < 8)
/-- One of the 16 trigger outputs (R85). -/
def isTrig (n : Nat) : Bool := decide (n < 16)
/-- One of the 15 command mailboxes (R388). -/
def isMbx (m : Nat) : Bool := decide (m < 15)
/-- One of the 32,768 rings (R250). -/
def isRing (r : Nat) : Bool := decide (r < 32768)
/-- One of the 8 ports of a Room (R13). -/
def isPort (p : Nat) : Bool := decide (p < 8)
/-- One of the four DRAM subchannels (R280). -/
def isSub (c : Nat) : Bool := decide (c < 4)
/-- One of the 8 timers (R468). -/
def isTimer (t : Nat) : Bool := decide (t < 8)
/-- One of the 16 interrupt lines (R467). -/
def isIrq (q : Nat) : Bool := decide (q < 16)
/-- One of the four changeover slots (R339). -/
def isSlot (j : Nat) : Bool := decide (j < 4)
/-- One of the 13 I/O banks (R448). -/
def isIoBank (k : Nat) : Bool := decide (k < 13)
/-- One of the six management controllers (R470). -/
def isCtl (c : Nat) : Bool := decide (c < 6)
/-- One of the two Pantry banks (R420). -/
def isPantry (b : Nat) : Bool := decide (b < 2)
/-- One of the 64 OTP rows (R441). -/
def isOtpRow (r : Nat) : Bool := decide (r < 64)
/-- One of the 3,200 logic Tiles of a Room (R324). -/
def isTile (t : Nat) : Bool := decide (t < 3200)
/-- One of the 160 Cellar or 16 Larder blocks of a Room (05). -/
def isBlock (larder : Bool) (b : Nat) : Bool := if larder then decide (b < 16) else decide (b < 160)
/-- One of the 96 PABs of a Room (05). -/
def isPab (p : Nat) : Bool := decide (p < 96)
/-- One of the host functions: PF0, PF1 and VF0 to VF62 (R226). -/
def isFn (f : Nat) : Bool := decide (f < 65)

/-- A command names only units the part has. -/
def wellFormed (i : Instr) : Bool :=
  match i with
  | .curfew _ => true
  | .rdone room _ => isRoom room
  | .tickStopped _ => true
  | .timerEvent _ _ => true
  | .hostTick _ _ => true
  | .sourceSwitch _ => true
  | .tickEngineEnable _ => true
  | .tickEngineDisable _ => true
  | .registerWrite _ _ _ => true
  | .encoderEdge ch _ _ _ _ => isEnc ch
  | .indexEdge ch _ => isEnc ch
  | .encoderStopped ch _ => isEnc ch
  | .encoderEventDue _ => true
  | .divLoad _ => true
  | .tbLock _ _ => true
  | .tbRefLost _ _ => true
  | .tbSet _ => true
  | .ppsEdge _ _ => true
  | .trigPulse n => isTrig n
  | .syncEnum => true
  | .enumMessage _ => true
  | .enumReply _ => true
  | .syncTickMessage _ _ _ _ => true
  | .syncMergeMessage _ _ _ => true
  | .calMessage _ _ _ _ => true
  | .calEcho _ _ _ _ => true
  | .calSend _ _ => true
  | .syncStopMessage _ _ _ => true
  | .statusMessage _ _ _ => true
  | .syncLinkLost _ _ _ => true
  | .fpllLockLoss pll => isPll pll
  | .fpllRelock pll _ => isPll pll
  | .distributedRamWrite room tile slice _ => isRoom room && isTile tile && decide (slice < 8)
  | .blockPortAccess room larder idx _ _ _ _ => isRoom room && isBlock larder idx
  | .pabCycle room inp => isRoom room && inp.all (fun i => isPab i.pab)
  | .pabClearStat room pab => isRoom room && isPab pab
  | .laneEnable lane _ _ => isLane lane
  | .cdrLock lane => isLane lane
  | .wordLock rx => isLane rx.lane
  | .ingLaneDown rx _ => isLane rx.lane
  | .lasEnable la _ => isLa la
  | .deskewMarker la lane _ => isLa la && decide (lane < 16)
  | .ingestPacket la _ _ _ => isLa la
  | .lineFill la _ => isLa la
  | .recordBlockPoll la => isLa la
  | .transmitPacket la => isLa la
  | .perstNRelease _ => true
  | .cfgReady _ _ _ => true
  | .linkTrained _ _ _ _ _ _ => true
  | .hlkRetrain => true
  | .fundamentalReset => true
  | .hotReset => true
  | .cxlReset => true
  | .flrPf0 => true
  | .flrPf1 => true
  | .flrVf v => decide (1 ≤ v) && decide (v < 64)
  | .busMasterDisable fn => isFn fn
  | .dStateChange fn _ => isFn fn
  | .pmeTurnOff => true
  | .windowRequest _ _ _ _ _ => true
  | .windowAnswer room _ _ => isRoom room
  | .hlkWinTmo _ => true
  | .hdmCommit _ _ _ _ => true
  | .cxlMemRequest _ _ _ _ _ => true
  | .h2dSnoop _ _ => true
  | .biasFlipStart _ => true
  | .biasFlipDone => true
  | .ringStart r => isRing r
  | .ringStop r => isRing r
  | .ringAbort r => isRing r
  | .ringAbortDone r => isRing r
  | .ringDisable r => isRing r
  | .doorbell fn _ _ _ _ => decide (fn < 64)
  | .descriptorFetch r _ _ => isRing r
  | .f2hTransfer room port slot _ _ _ => isRoom room && isPort port && decide (slot < 256)
  | .dramCopyTransfer room port slot _ _ _ => isRoom room && isPort port && decide (slot < 256)
  | .h2fTransfer r => isRing r
  | .hostReadCompletion r _ _ => isRing r
  | .delayedPost r => isRing r
  | .ringIrqAge r _ => isRing r
  | .roomGone room => isRoom room
  | .dramWriteTransfer room port stream _ _ _ => isRoom room && isPort port && decide (stream < 256)
  | .dramReadRequest room port stream _ _ => isRoom room && isPort port && decide (stream < 256)
  | .dramAck room port => isRoom room && isPort port
  | .dmcCommandSelect sc _ _ _ _ => isSub sc
  | .pageTimeout sc bank _ => isSub sc && decide (bank < 64)
  | .refreshInterval _ => true
  | .refreshStart _ => true
  | .refreshEnd _ => true
  | .mr4Poll _ => true
  | .zqCalibration => true
  | .rankPowerDown sc rank _ => isSub sc && decide (rank < 2)
  | .dramTrainGo _ => true
  | .dramTrainDone _ => true
  | .dmcEnable => true
  | .dramInitPass _ => true
  | .writeCrcAlert sc _ _ => isSub sc
  | .loadOpen m => isMbx m
  | .loadData m => isMbx m
  | .frameGroupProgrammed room _ => isRoom room
  | .loadClose m => isMbx m
  | .readbackDone _ => true
  | .loadAbort m => isMbx m
  | .loadTimeout => true
  | .stage m => isMbx m
  | .stagingGroup room _ _ => isRoom room
  | .changeover m => isMbx m
  | .rollback m => isMbx m
  | .cancelCo m => isMbx m
  | .coSlotArm j => isSlot j
  | .coSlotFree j => isSlot j
  | .handoverBlockWorkDone room work => isRoom room && decide (work < 3)
  | .selectWordProgram _ => true
  | .roomPowerOff room => isRoom room
  | .roomPowerOn room => isRoom room
  | .watchmanFrameOp room _ _ => isRoom room
  | .reloadPlaneRead room => isRoom room
  | .reloadWrite room _ => isRoom room
  | .pacingCredit room _ => isRoom room
  | .wchStarved room _ => isRoom room
  | .marginPassPeriodic _ => true
  | .marginPassGo => true
  | .watchmanTmrScrub _ => true
  | .ramMapRebuild room bank _ => isRoom room && decide (bank < 2)
  | .heartbeatCheck _ => true
  | .watchmanSoftRst => true
  | .watchmanSample _ => true
  | .watchmanForce => true
  | .mbxPost m _ => isMbx m
  | .mbxAck m => isMbx m
  | .mbxAbort m => isMbx m
  | .mbxEvtAck _ => true
  | .watchdogExpiry => true
  | .watchdogKick => true
  | .fabMgmtRead m => isMbx m
  | .fabMgmtWrite m => isMbx m
  | .fpllRead m => isMbx m
  | .fpllWrite m => isMbx m
  | .bramSbe m => isMbx m
  | .tickRegRead m => isMbx m
  | .tickRegWrite m => isMbx m
  | .tickNow m => isMbx m
  | .msuRegRead m => isMbx m
  | .msuRegWrite m => isMbx m
  | .sycRegRead m => isMbx m
  | .sycRegWrite m => isMbx m
  | .syncArm m => isMbx m
  | .syncDisarm m => isMbx m
  | .syncPropose m => isMbx m
  | .syncLocal m => isMbx m
  | .ingRegRead m => isMbx m
  | .ingRegWrite m => isMbx m
  | .lasRegRead m => isMbx m
  | .lasRegWrite m => isMbx m
  | .sideRecv m => isMbx m
  | .sideSend m => isMbx m
  | .hlkRegRead m => isMbx m
  | .hlkRegWrite m => isMbx m
  | .hdmSet m => isMbx m
  | .biasFlip m => isMbx m
  | .hostSettings m => isMbx m
  | .ringCmd m => isMbx m
  | .drgRegRead m => isMbx m
  | .drgRegWrite m => isMbx m
  | .dmcRegRead m => isMbx m
  | .dmcRegWrite m => isMbx m
  | .memSettings m => isMbx m
  | .dramRead m => isMbx m
  | .dramWrite m => isMbx m
  | .dramTrain m => isMbx m
  | .configStatus m => isMbx m
  | .wchRegRead m => isMbx m
  | .wchRegWrite m => isMbx m
  | .kmiInfo m => isMbx m
  | .kmiEcho m => isMbx m
  | .rawRead m => isMbx m
  | .rawWrite m => isMbx m
  | .pantryRead m _ _ => isMbx m
  | .pantryProgram m => isMbx m
  | .pantryErase m => isMbx m
  | .fwUpdate m => isMbx m
  | .otpRead m => isMbx m
  | .otpProgram m => isMbx m
  | .ledgerRead m => isMbx m
  | .ledgerArchive m => isMbx m
  | .bistRun m => isMbx m
  | .bistResult m => isMbx m
  | .pwrRegRead m => isMbx m
  | .pwrRegWrite m => isMbx m
  | .pwrLimit m => isMbx m
  | .pwrRooms m => isMbx m
  | .pwrWakeReport m => isMbx m
  | .lcStatus m => isMbx m
  | .lcAdvance m => isMbx m
  | .debugChallenge m => isMbx m
  | .debugUnlock m => isMbx m
  | .debugLock m => isMbx m
  | .keyProvision m => isMbx m
  | .scrap m => isMbx m
  | .ffCapture m => isMbx m
  | .twnRegRead m => isMbx m
  | .twnRegWrite m => isMbx m
  | .twinPair m _ _ => isMbx m
  | .twinDetach m => isMbx m
  | .twinRole m => isMbx m
  | .twinArm m => isMbx m
  | .gpioRegRead m => isMbx m
  | .gpioRegWrite m => isMbx m
  | .iobRegRead m => isMbx m
  | .iobRegWrite m => isMbx m
  | .pinAssign m => isMbx m
  | .periphXfer m => isMbx m
  | .periphXferDone c _ _ => isCtl c
  | .pntProgram b _ _ => isPantry b
  | .pntErase b _ _ => isPantry b
  | .pntSuspend b => isPantry b
  | .pntResume b _ => isPantry b
  | .pntProgramDone b _ => isPantry b
  | .pntSectorErased b _ => isPantry b
  | .fetchLockWrite _ => true
  | .otpCmdRead row => isOtpRow row
  | .otpCmdProgram row _ => isOtpRow row
  | .otpProgramDone _ => true
  | .otpShadowLoad => true
  | .vioFault bank => isIoBank bank
  | .gpioIrq q _ => isIrq q
  | .timerPulse tim _ => isTimer tim
  | .timerCapture tim _ _ => isTimer tim
  | .iobSave => true
  | .powerDecision _ _ => true
  | .scheduledWake _ => true
  | .voteStop _ _ => true
  | .voteBackoffEnd _ => true
  | .entryCommit _ => true
  | .wake _ _ _ => true
  | .nightPorterSample _ _ => true
  | .powerOn _ => true
  | .supplyReset _ => true
  | .offWake _ _ => true
  | .itineraryCheck _ _ => true
  | .opening _ => true
  | .startFail _ => true
  | .lanesUp _ => true
  | .tickRecord _ _ => true
  | .statusFrameSend _ => true
  | .statusFrame _ _ => true
  | .twnSubst _ _ => true
  | .checkpointDone _ _ _ _ _ => true
  | .catchupDone _ _ => true
  | .twnPartnerLost _ => true
  | .twinMcGo => true
  | .ledgerEvent _ _ _ => true
  | .ledgerFwCode _ => true
  | .tokenRefill _ => true
  | .archivePage _ => true
  | .bistGo _ _ => true
  | .bistAbort => true
  | .bistRunDone _ _ _ => true
  | .repairCompact copy => isPantry copy
  | .challengeExpiry => true
  | .extest => true
  | .idcode => true
  | .samplePreload _ => true
  | .jtagClamp => true
  | .highz => true
  | .tgtStatus => true
  | .tgtChallenge _ => true
  | .tgtResponse _ _ => true
  | .dbgIas _ _ _ => true
  | .dbgHalt _ => true
  | .ffRead room tile => isRoom room && isTile tile
  | .factoryTest code => decide (0x30 ≤ code) && decide (code ≤ 0x3F)
  | .bypass _ => true
  | .trstN => true
  | .powerLoss => true
  | .supplyGood _ _ => true
  | .vioOk bank => isIoBank bank
  | .linkPowerState _ => true
  | .exclusiveStartTimeout m => isMbx m
  | .hostLinkStepFail => true
  | .marginReadGroup room _ => isRoom room
  | .activeBankFillDone room _ => isRoom room
  | .wakeComplete _ => true
  | .entryComplete _ => true

end Sys2Proof
end

