-- ==== Sys2Proof/Safety.lean ====
section
/-! DEFINITION. The terms in which claims about the part are stated: what a command leaves unchanged (frames), how a KMI command starts and what
its completion says, the canonical form of the stores, and when the waiting commands can run. -/

namespace Sys2Proof.Machine

open Reg

/-! ### Frames -/

/-- The components of State; the pending bits of MSI-X are one of their own, beside the rest of the host link. -/
inductive Part where
  | pending | regs | held | hiLatch | out | freeCount | tick | msu | syc | fab | ing | hlk | pba | rings | dmc | dram | dramBad | cfg | wch | kmi
  | pantry | otp | pnt | io | pwr | boot | twn | lc | bist | ldg
  deriving DecidableEq, Repr

/-- A component is the same in two states. -/
def Part.same (p : Part) (s t : State) : Prop :=
  match p with
  | .pending => t.pending = s.pending
  | .regs => t.regs = s.regs
  | .held => t.held = s.held
  | .hiLatch => t.hiLatch = s.hiLatch
  | .out => t.out = s.out
  | .freeCount => t.freeCount = s.freeCount
  | .tick => t.tick = s.tick
  | .msu => t.msu = s.msu
  | .syc => t.syc = s.syc
  | .fab => t.fab = s.fab
  | .ing => t.ing = s.ing
  | .hlk => { t.hlk with pba := s.hlk.pba } = s.hlk
  | .pba => t.hlk.pba = s.hlk.pba
  | .rings => t.rings = s.rings
  | .dmc => t.dmc = s.dmc
  | .dram => t.dram = s.dram
  | .dramBad => t.dramBad = s.dramBad
  | .cfg => t.cfg = s.cfg
  | .wch => t.wch = s.wch
  | .kmi => t.kmi = s.kmi
  | .pantry => t.pantry = s.pantry
  | .otp => t.otp = s.otp
  | .pnt => t.pnt = s.pnt
  | .io => t.io = s.io
  | .pwr => t.pwr = s.pwr
  | .boot => t.boot = s.boot
  | .twn => t.twn = s.twn
  | .lc => t.lc = s.lc
  | .bist => t.bist = s.bist
  | .ldg => t.ldg = s.ldg

/-- Only the components of `l` may differ. -/
def SameBut (l : List Part) (s t : State) : Prop := ∀ p, p ∉ l → p.same s t

/-- Only the register fields of `l` may differ; a field of an indexed register stands for that field of every register of its row. -/
def RegsBut (l : List Fld) (s t : State) : Prop :=
  ∀ k, (∀ f ∈ l, ∀ i j, k ≠ f.key i j) → Assoc.find? k t.regs = Assoc.find? k s.regs

/-- Only register fields at IAS addresses for which `ok` holds may differ. -/
def RegsWithin (ok : Nat → Bool) (s t : State) : Prop := ∀ k, ok (k / 32) = false → Assoc.find? k t.regs = Assoc.find? k s.regs

/-- The IAS address lies in one of the 64 KiB windows `l` (Table 01-7); DRG_ is window 0x400 onward. -/
def inBlocks (l : List Nat) (addr : Nat) : Bool := l.contains (addr / 65536)

/-- A saturating counter of an indexed register has counted one. -/
def Counts (s t : State) (f : Fld) (i : Nat) : Prop := t.geti f i = satInc f.top (s.geti f i) % 2 ^ f.width

/-! ### Outcomes -/

/-- The command answers a next state with a property. -/
def Answers (i : Instr) (s : State) (p : State → Prop) : Prop := ∃ t, exec i s = .next t ∧ p t

/-! ### KMI commands (12) -/

/-- Firmware may start the command `c` of mailbox `m`, it carries opcode `op`, and its permissions are given (R398, R399, R557). -/
abbrev KmiReady (s : State) (op m : Nat) (c : KmiCmd) : Prop := m < 15 ∧ s.kmiStartable m op = some c ∧ s.kmiAccess c = stOk

/-- The mailbox is DONE and its completion carries a status, result words and a length of data out (R392, R394). -/
def KmiDone (t : State) (m st : Nat) (c : List Nat) (len : Nat) : Prop :=
  t.geti KMI_MBX_STATE m = 4 ∧ ∃ r, (t.mbx m).compl = some r ∧ r.status = st ∧ r.c = c ∧ r.resLen = len

/-- The mailbox is RUNNING and its command is among those executing (Table 12-3). -/
def KmiRuns (t : State) (m : Nat) (c : KmiCmd) : Prop := t.geti KMI_MBX_STATE m = 3 ∧ ∃ r ∈ t.kmi.running, r.mbx = m ∧ r.cmd = c

/-- The completion's data out: the command's output up to its limit (R393). -/
def KmiData (t : State) (m : Nat) (c : KmiCmd) (data : List Nat) : Prop :=
  ∃ r, (t.mbx m).compl = some r ∧ r.dataOut = data.take (if c.hostBuf then c.hostLen else c.resMax)

/-- The register reads of the KMI: command, opcode and block base (Tables 12-10 to 12-21). -/
def regReadCmds : List ((Nat → Instr) × Nat × Nat) :=
  [(.tickRegRead, 0x0301, 0x110000), (.msuRegRead, 0x0310, 0x100000), (.sycRegRead, 0x0320, 0x120000), (.ingRegRead, 0x0401, 0x200000),
   (.lasRegRead, 0x0403, 0x210000), (.hlkRegRead, 0x0501, 0x300000), (.drgRegRead, 0x0507, 0x4000000), (.dmcRegRead, 0x0601, 0x400000),
   (.wchRegRead, 0x0710, 0x510000), (.pwrRegRead, 0x0901, 0x800000), (.twnRegRead, 0x0B01, 0x900000), (.gpioRegRead, 0x0C01, 0x700000),
   (.iobRegRead, 0x0C03, 0x710000)]

/-- The register writes of the KMI: command, opcode and block base (Tables 12-10 to 12-21). -/
def regWriteCmds : List ((Nat → Instr) × Nat × Nat) :=
  [(.tickRegWrite, 0x0302, 0x110000), (.msuRegWrite, 0x0311, 0x100000), (.sycRegWrite, 0x0321, 0x120000), (.ingRegWrite, 0x0402, 0x200000),
   (.lasRegWrite, 0x0404, 0x210000), (.hlkRegWrite, 0x0502, 0x300000), (.drgRegWrite, 0x0508, 0x4000000), (.dmcRegWrite, 0x0602, 0x400000),
   (.wchRegWrite, 0x0711, 0x510000), (.pwrRegWrite, 0x0902, 0x800000), (.twnRegWrite, 0x0B02, 0x900000), (.gpioRegWrite, 0x0C02, 0x700000),
   (.iobRegWrite, 0x0C04, 0x710000)]

/-! ### Ticks (02) -/

/-- A boundary has opened a tick with a time of record (R31, R39, R49, R54): TICKNO, TCK_STAMP, B, and every Boundary setting in force. -/
def TickOpened (u : State) (tick tor skew : Nat) : Prop :=
  u.tickno = tick % 2 ^ 48 ∧ u.get TCK_STAMP_LO + 2 ^ 32 * u.get TCK_STAMP_HI = tor % 2 ^ 64 ∧ u.tick.opened = tick ∧
  u.tick.b = (tor + min skew 1024) % 2 ^ 64 ∧ u.tick.tickOpen = true ∧ u.tick.firstDue = false ∧ u.held = []

/-- Only what a Ledger entry writes may differ, beside some register fields (R576 to R581). -/
def LedgerBut (l : List Fld) (s t : State) : Prop :=
  SameBut [.kmi, .ldg, .regs, .out, .pba] s t ∧
  RegsBut (l ++ [LDG_HEAD_SEQ, LDG_TAIL_SEQ, LDG_STAT_HELD, LDG_STAT_FULL, LDG_CNT_SUPPRESSED, LDG_CNT_DROPPED, LDG_AONQ_HELD, LDG_AONQ_LOST]) s t

/-! ### Sensor words (06) -/

/-- Line Assembler `j` is enabled, aligned and receives on lane `k` alone, a RAW32 lane with its locks and no bit to shift or invert, between two
packets (R194 to R199). -/
abbrev RawReady (s : State) (j k : Nat) : Prop :=
  j < 16 ∧ k < 32 ∧ s.ing.las.length = 16 ∧ s.flagi LAS_CTRL_EN j = true ∧ s.flagi LAS_STAT_ALIGNED j = true ∧ s.domOn (28 + j / 8) = true ∧
  s.lasBond j = [k] ∧ s.laneOwner k = some j ∧ s.geti ING_LANE_CTRL_PCS k = 1 ∧ s.flagi ING_LANE_STAT_CDR_LOCK k = true ∧
  s.flagi ING_LANE_STAT_WORD_LOCK k = true ∧ s.flagi ING_LANE_CTRL_RX_INV k = false ∧ s.flagi ING_LANE_CTRL_LOOP k = false ∧
  (s.lane k).sh = 0 ∧ (s.lane k).rxQ = [] ∧ (s.las j).pkt = none

/-! ### Stores -/

/-- DRAM, the Pantry and the OTP are in their canonical form: keys strictly rising, and no entry equal to what an unlisted one reads as
(DESIGN CHOICE, log entry 2; R425; R441). -/
def State.storesOk (s : State) : Bool := Assoc.wf 0 s.dram && Assoc.wf 0xFF s.pantry && Assoc.wf 0 s.otp

/-- A bit of the OTP is 1. -/
def State.otpBit (s : State) (byte bit_ : Nat) : Bool := bitB (Assoc.get 0 byte s.otp) bit_

/-- The units of State are those of the part: 16 mailboxes, 8 encoder channels, 16 triggers, 16 Line Assemblers, 4 subchannels, 4 changeover
slots, 24 Rooms, 2 Pantry banks, 8 timers, 8 retention banks, 2 copies of the repair table, 16 fabric PLLs. -/
def State.shapeOk (s : State) : Bool :=
  s.kmi.mbx.length == 16 && s.msu.enc.length == 8 && s.msu.trig.length == 16 && s.ing.las.length == 16 && s.dmc.subs.length == 4 &&
  s.cfg.coOwner.length == 4 && s.cfg.coTick.length == 4 && s.wch.pos.length == 24 && s.wch.capSince.length == 24 &&
  s.wch.marginGrp.length == 24 && s.pnt.banks.length == 2 && s.io.timEnd.length == 8 && s.io.timRise.length == 8 && s.pwr.sig.length == 8 && s.bist.pages.length == 2 &&
  s.bist.gens.length == 2 && s.fab.pllCtl.length == 16 && s.fab.pllOut.length == 16

/-! ### Queues -/

/-- Every waiting command names units that the part has. -/
def State.queueOk (s : State) : Bool := s.pending.all wellFormed

end Sys2Proof.Machine
end

