-- ==== Sys2Proof/Certificates/Slice0/Obligations.lean ====
section
/-! DEFINITION. The statements about the part: for every family of commands where they complete and what they leave, and what every step keeps. A
log entry is a row of notes/assumptions; a clause that names one rests on the model's choice there. -/

open Sys2Proof Sys2Proof.Machine Sys2Proof.Machine.Reg

/-- One step takes the command at the front of the queue and runs it on the state with the queue's rest. On an empty queue every
clock tree that runs takes one cycle, and with none running the block idles (the model's choice, log entry 1). -/
def Obligations.StepRunsFront : Prop :=
  (∀ (c : Instr) (rest : List Instr) (s : State), s.pending = c :: rest → step s = exec c { s with pending := rest }) ∧
  (∀ s : State, s.pending = [] → step s = .next s.clockCycle) ∧
  (∀ s : State, s.pending = [] → (∀ r, r < 24 → ∀ t, t < 2 → s.treeRuns r t = false) → step s = .next s)

/-- The mailbox doorbells (R389, R390, R395, R396, R399, R401): where PF0 is reached and the part is in RUN, a POST in IDLE or DONE
takes the command and posts it, or completes it at once with STALE_TAG, BAD_ARG or BAD_STATE; in POSTED and RUNNING it is counted
and discarded; in a low-power state or a vote it wakes and then does the same. An ACK frees a DONE mailbox and does nothing
otherwise; an ABORT discards a posted command, abandons a running one and advances GEN, and in IDLE and DONE does nothing; EVT_ACK
is kept; where PF0 is not reached a doorbell does nothing; an exclusive command not started in time ends BUSY. -/
def Obligations.MailboxDoorbells : Prop :=
  (∀ (s : State) (m : Nat) (c : KmiCmd), m < s.kmi.mbx.length → m < 15 → s.pf0Reach = true →
    s.get PWR_STATE_CUR = 0 → s.pwr.vote = none → s.pwr.entering = none →
    (s.geti KMI_MBX_STATE m = 1 ∨ s.geti KMI_MBX_STATE m = 4) →
    (c.gen = s.geti KMI_MBX_GEN m → kmiWellFormed c = true → (c.hostBuf = true → bitB s.hlk.bme 0 = true) →
      Answers (.mbxPost m c) s (fun t => t.geti KMI_MBX_STATE m = 2 ∧ (t.mbx m).cmd = some c ∧ (t.mbx m).compl = none ∧
        t.kmi.postQ = s.kmi.postQ ++ [m] ∧ SameBut [.kmi, .regs, .pwr] s t ∧ RegsBut [KMI_MBX_STATE] s t)) ∧
    (c.gen ≠ s.geti KMI_MBX_GEN m → Answers (.mbxPost m c) s (fun t => KmiDone t m stStale [] 0 ∧ t.kmi.postQ = s.kmi.postQ)) ∧
    (c.gen = s.geti KMI_MBX_GEN m → kmiWellFormed c = false →
      Answers (.mbxPost m c) s (fun t => KmiDone t m stBadArg [] 0 ∧ t.kmi.postQ = s.kmi.postQ)) ∧
    (c.gen = s.geti KMI_MBX_GEN m → kmiWellFormed c = true → c.hostBuf = true → bitB s.hlk.bme 0 = false →
      Answers (.mbxPost m c) s (fun t => KmiDone t m stBadState [] 0 ∧ t.kmi.postQ = s.kmi.postQ))) ∧
  (∀ (s : State) (m : Nat) (c : KmiCmd), m < 15 → s.pf0Reach = true →
    s.get PWR_STATE_CUR = 0 → s.pwr.vote = none → s.pwr.entering = none →
    (s.geti KMI_MBX_STATE m = 2 ∨ s.geti KMI_MBX_STATE m = 3) →
    Answers (.mbxPost m c) s (fun t => Counts s t KMI_CNT_WR_DISCARD 0 ∧
      t.kmi = s.kmi ∧ SameBut [.regs, .pwr] s t ∧ RegsBut [KMI_CNT_WR_DISCARD] s t)) ∧
  (∀ (s : State) (m : Nat) (c : KmiCmd), m < 15 → s.pf0Reach = true →
    exec (.mbxPost m c) s = .next (((s.touchSleep).hostWake [0, 34] s.now).mbxPost m c)) ∧
  (∀ (s : State) (m : Nat), m < 15 → s.pf0Reach = true →
    (s.geti KMI_MBX_STATE m = 4 → Answers (.mbxAck m) s (fun t => t.geti KMI_MBX_STATE m = 1 ∧ SameBut [.regs] s t ∧
      RegsBut [KMI_MBX_STATE] s t)) ∧
    (s.geti KMI_MBX_STATE m ≠ 4 → exec (.mbxAck m) s = .next s)) ∧
  (∀ (s : State) (m g : Nat), m < s.kmi.mbx.length → m < 15 → s.pf0Reach = true →
    (s.geti KMI_MBX_STATE m = 2 ∨ s.geti KMI_MBX_STATE m = 3) → s.nextGen m = some g →
    Answers (.mbxAbort m) s (fun t => t.geti KMI_MBX_STATE m = 1 ∧ t.geti KMI_MBX_GEN m = g % 16 ∧ (t.mbx m).cmd = none ∧
      m ∉ t.kmi.postQ ∧ (∀ r ∈ t.kmi.running, r.mbx = m → r.abandoned = true) ∧ SameBut [.kmi, .regs] s t ∧
      RegsBut [KMI_MBX_STATE, KMI_MBX_GEN] s t)) ∧
  (∀ (s : State) (m : Nat), m < 15 → s.pf0Reach = true → s.geti KMI_MBX_STATE m ≠ 2 → s.geti KMI_MBX_STATE m ≠ 3 →
    exec (.mbxAbort m) s = .next s) ∧
  (∀ (s : State) (m g : Nat), s.nextGen m = some g →
    g < 16 ∧ ∀ r ∈ s.kmi.running, r.mbx = m → r.cmd.gen ≠ g) ∧
  (∀ (s : State) (n : Nat), s.pf0Reach = true →
    Answers (.mbxEvtAck n) s (fun t => t.kmi.evtAck = n % 2 ^ 32 ∧ SameBut [.kmi] s t)) ∧
  (∀ (s : State) (m n : Nat) (c : KmiCmd), m < 15 → s.pf0Reach = false →
    exec (.mbxPost m c) s = .next s ∧ exec (.mbxAck m) s = .next s ∧ exec (.mbxAbort m) s = .next s ∧
    exec (.mbxEvtAck n) s = .next s) ∧
  (∀ (s : State) (m : Nat) (c : KmiCmd), m < 15 → (s.mbx m).cmd = some c → s.geti KMI_MBX_STATE m = 2 → kmiExclusive c = true →
    s.flag KMI_CTRL_FW_READY = true → m < s.kmi.mbx.length →
    Answers (.exclusiveStartTimeout m) s (fun t => KmiDone t m stBusy [] 0 ∧ m ∉ t.kmi.postQ))

/-- REG_READ of every block (R403): a register of the block's own window completes OK with what a read of it returns; an address of
no register, or of another block, ends BAD_ARG. A read returns the register's fields as one word, brought up to date first, or 0 for
an absent DRAM lane; it clears RC fields and changes no other field than those it brings up to date. The commands (regReadCmds):
tickRegRead, msuRegRead, sycRegRead, ingRegRead, lasRegRead, hlkRegRead, drgRegRead, dmcRegRead, wchRegRead, pwrRegRead, twnRegRead,
gpioRegRead, iobRegRead. -/
def Obligations.RegisterReads : Prop :=
  (∀ row ∈ regReadCmds, ∀ (s : State) (m : Nat) (c : KmiCmd), KmiReady s row.2.1 m c →
    (∀ h : RegHit, regAt (row.2.2 + bits c.a0 23 0) = some h → regBlock (row.2.2 + bits c.a0 23 0) = regBlock row.2.2 →
      exec (row.1 m) s = .next (((s.kmiUnpost m).regRead (row.2.2 + bits c.a0 23 0) h).2.kmiFinish m c stOk 0 0
        [((s.kmiUnpost m).regRead (row.2.2 + bits c.a0 23 0) h).1] [])) ∧
    (regAt (row.2.2 + bits c.a0 23 0) = none → Answers (row.1 m) s (fun t => KmiDone t m stBadArg [] 0 ∧ RegsBut [KMI_MBX_STATE] s t)) ∧
    (regBlock (row.2.2 + bits c.a0 23 0) ≠ regBlock row.2.2 →
      Answers (row.1 m) s (fun t => KmiDone t m stBadArg [] 0 ∧ RegsBut [KMI_MBX_STATE] s t))) ∧
  (∀ (s : State) (a : Nat) (h : RegHit), regAt a = some h →
    (isLoReg a = true ∨ Assoc.find? a (s.regShow a).hiLatch = none →
      (s.regRead a h).1 = if (s.regShow a).laneAbsent a then 0 else (s.regShow a).regWord h) ∧
    (∀ f ∈ h.row.flds, f.acc = .rc → (s.regRead a h).2.get2 f h.i h.j = 0) ∧
    (∀ k, (∀ f ∈ h.row.flds, f.acc = .rc → k ≠ f.key h.i h.j) →
      Assoc.find? k (s.regRead a h).2.regs = Assoc.find? k (s.regShow a).regs) ∧
    SameBut [.kmi, .regs, .hiLatch] (s.regShow a) (s.regRead a h).2)

/-- The fields a write stores (R403): an RW field takes (old AND NOT mask) OR (value AND mask), in the value the map gives it; a W1C
field loses the bits written 1; RO, RC and WO fields and every other field stay. Enables and requests (`wrOwn`) are written by their
own rules. A Boundary field written while TCK_CTRL.EN is 1 keeps its old value in force until slot 0 of the next boundary commits
it; any other field, and every field while EN is 0, is in force at once (R54). A read of a _LO register latches the _HI register,
and the next read of that _HI register returns the latched value (R67, R110). -/
def Obligations.RegisterStoresAndBoundarySettings : Prop :=
  (∀ (s : State) (row : RegRow) (i j value mask : Nat), row ∈ mapAll →
    let t := s.wrStore ⟨row, i, j⟩ value mask
    (∀ f ∈ row.flds, f.acc = .rw → wrNames f mask = true → wrOwn.contains f = false →
      t.get2 f i j = wrNorm f (s.wrNew ⟨row, i, j⟩ f value mask) % 2 ^ f.width) ∧
    (∀ f ∈ row.flds, f.acc = .w1c → t.get2 f i j = clrMask (s.get2 f i j) (wrBits f value mask) % 2 ^ f.width) ∧
    (∀ k, (∀ f ∈ row.flds, k = f.key i j → ¬ (f.acc = .w1c) ∧ ¬ (f.acc = .rw ∧ wrNames f mask = true)) →
      Assoc.find? k t.regs = Assoc.find? k s.regs) ∧
    SameBut [.regs, .held] s t) ∧
  ((∀ (s : State) (f : Fld) (i v : Nat), f.boundary = true → s.flag TCK_CTRL_EN = true →
    (s.swWrite f i 0 v).inForcei f i = s.inForcei f i ∧ (s.swWrite f i 0 v).geti f i = v % 2 ^ f.width ∧
    ((s.swWrite f i 0 v).boundaryCommit).inForcei f i = v % 2 ^ f.width) ∧
  (∀ (s : State) (f : Fld) (i v : Nat), f.boundary = false ∨ s.flag TCK_CTRL_EN = false → Assoc.find? (f.key i 0) s.held = none →
    (s.swWrite f i 0 v).inForcei f i = v % 2 ^ f.width)) ∧
  ((∀ (s : State) (a : Nat) (h hi : RegHit), isLoReg a = true → regAt a = some h → regAt (a + 4) = some hi →
    (s.regRead a h).1 = (s.regPeek a h).1 ∧ Assoc.find? (a + 4) (s.regRead a h).2.hiLatch = some ((s.regRead a h).2.regWord hi)) ∧
  (∀ (s : State) (a v : Nat) (h : RegHit), isLoReg a = false → regAt a = some h → (s.regShow a).hiLatch = s.hiLatch →
    Assoc.find? a s.hiLatch = some v → (s.regRead a h).1 = v ∧ Assoc.find? a (s.regRead a h).2.hiLatch = none))

/-- REG_WRITE of every block (R224, R279, R403): a write that no rule refuses is made and completes OK with the register's value
after it; a refused one changes nothing but the Ledger's record of it and completes BAD_STATE; an address of no register, of another
block, or excluded from REG_WRITE ends BAD_ARG and writes nothing. A write made is stored and starts what it starts; of a Line
Assembler that is enabled, or a ring that is not DISABLED, only EN, or CMD, acts, and a change of another field is ignored with a
Ledger record. The commands (regWriteCmds): tickRegWrite, msuRegWrite, sycRegWrite, ingRegWrite, lasRegWrite, hlkRegWrite,
drgRegWrite, dmcRegWrite, wchRegWrite, pwrRegWrite, twnRegWrite, gpioRegWrite, iobRegWrite. -/
def Obligations.RegisterWrites : Prop :=
  (∀ row ∈ regWriteCmds, ∀ (s : State) (m : Nat) (c : KmiCmd), KmiReady s row.2.1 m c →
    (∀ h : RegHit, regAt (row.2.2 + bits c.a0 23 0) = some h → regBlock (row.2.2 + bits c.a0 23 0) = regBlock row.2.2 →
      regExcluded (row.2.2 + bits c.a0 23 0) = false →
      (s.wrRefused (row.2.2 + bits c.a0 23 0) h (bits c.a1 31 0) (bits c.a1 63 32) = false →
        exec (row.1 m) s = .next ((((s.kmiUnpost m).regWrite (row.2.2 + bits c.a0 23 0) h (bits c.a1 31 0) (bits c.a1 63 32)).2.regPeek
            (row.2.2 + bits c.a0 23 0) h).2.kmiFinish m c stOk 0 0
          [(((s.kmiUnpost m).regWrite (row.2.2 + bits c.a0 23 0) h (bits c.a1 31 0) (bits c.a1 63 32)).2.regPeek
            (row.2.2 + bits c.a0 23 0) h).1] [])) ∧
      (s.wrRefused (row.2.2 + bits c.a0 23 0) h (bits c.a1 31 0) (bits c.a1 63 32) = true →
        Answers (row.1 m) s (fun t => KmiDone t m stBadState [] 0 ∧ SameBut [.kmi, .ldg, .regs, .out, .pba] s t ∧
          RegsBut [KMI_MBX_STATE, LDG_HEAD_SEQ, LDG_TAIL_SEQ, LDG_STAT_HELD, LDG_STAT_FULL, LDG_CNT_SUPPRESSED, LDG_CNT_DROPPED,
            LDG_AONQ_HELD, LDG_AONQ_LOST] s t))) ∧
    (regAt (row.2.2 + bits c.a0 23 0) = none → Answers (row.1 m) s (fun t => KmiDone t m stBadArg [] 0 ∧ RegsBut [KMI_MBX_STATE] s t)) ∧
    (regBlock (row.2.2 + bits c.a0 23 0) ≠ regBlock row.2.2 ∨ regExcluded (row.2.2 + bits c.a0 23 0) = true →
      Answers (row.1 m) s (fun t => KmiDone t m stBadArg [] 0 ∧ RegsBut [KMI_MBX_STATE] s t))) ∧
  (∀ (s : State) (a v k : Nat) (h : RegHit), regAt a = some h → s.wrRefused a h v k = false →
    (s.onlyBits a = none →
      s.regWrite a h v k = (false, (({ s with hiLatch := Assoc.del a s.hiLatch }).wrStore h v k).wrStart s a v k)) ∧
    (∀ m, s.onlyBits a = some m → (∀ f ∈ h.row.flds, s.wrChanges h f v (clrMask k m) = false) →
      s.regWrite a h v k = (false, ({ s with hiLatch := Assoc.del a s.hiLatch }).wrStart s a v (k &&& m))) ∧
    (∀ m, s.onlyBits a = some m → (∃ f ∈ h.row.flds, s.wrChanges h f v (clrMask k m) = true) →
      s.regWrite a h v k = (false, (({ s with hiLatch := Assoc.del a s.hiLatch }).regIgnored (regGroup a) a).wrStart s a v (k &&& m))))

/-- IAS accesses (R25, R54, R404, R560): REGISTER_WRITE stores a register and starts what the write starts; a refused write is only
recorded; an address outside every window and memory is recorded as IAS_UNMAPPED; one that names no register inside a window is
discarded. DBG_IAS reads or writes one word at D2 under the address rules of R404, and acts as BYPASS below it. RAW_READ, RAW_WRITE,
KMI_INFO and KMI_ECHO (R404, R414): lengths and addresses outside R404 end BAD_ARG; a raw read returns four bytes for each word; a
raw write makes one Ledger entry and writes its words in order. -/
def Obligations.RawAndJtagAccesses : Prop :=
  ((∀ (s : State) (a v k : Nat) (h : RegHit), a < 2 ^ 32 → v < 2 ^ 32 → k < 2 ^ 32 → regAt a = some h →
    (s.wrRefused a h v k = false → s.onlyBits a = none →
      exec (.registerWrite a v k) s = .next ((({ s with hiLatch := Assoc.del a s.hiLatch }).wrStore h v k).wrStart s a v k)) ∧
    (s.wrRefused a h v k = false → exec (.registerWrite a v k) s = .next (s.regWrite a h v k).2) ∧
    (s.wrRefused a h v k = true →
      exec (.registerWrite a v k) s = .next (s.ledger (regGroup a * 256 + 255) a))) ∧
  (∀ (s : State) (a v k : Nat), a < 2 ^ 32 → regAt a = none →
    ((inWindow a || inInnkeeper a) = true → exec (.registerWrite a v k) s = .next s) ∧
    ((inWindow a || inInnkeeper a) = false → exec (.registerWrite a v k) s = .next (s.ledger 0x0102 (a + 2 ^ 40)))) ∧
  (∀ (s : State) (a d : Nat), a < 2 ^ 32 → d < 2 ^ 32 → s.jtagOn = true →
    (s.d2 = true → rawAllowed a = true →
      Answers (.dbgIas a d true) s (fun t => t.lc.dr = a + 2 ^ 32 * d + 2 ^ 64 + 2 ^ 65 ∧ t.regs = (s.iasWrite a d (2 ^ 32 - 1)).2.regs) ∧
      Answers (.dbgIas a d false) s (fun t => t.lc.dr = a + 2 ^ 32 * (s.iasRead a).1 + 2 ^ 65 ∧ t.regs = (s.iasRead a).2.regs)) ∧
    (s.d2 = false → Answers (.dbgIas a d true) s (fun t => SameBut [.lc, .out] s t ∧ t.lc.ir = 0xFF)))) ∧
  ((∀ (s : State) (m : Nat) (c : KmiCmd), KmiReady s 0x0803 m c →
    (1 ≤ bits c.a0 47 32 → bits c.a0 47 32 ≤ 960 → rawRange (bits c.a0 31 0) (bits c.a0 47 32) = true →
      Answers (.rawRead m) s (fun t => KmiDone t m stOk [] (4 * bits c.a0 47 32) ∧
        (bits c.a0 47 32 = 1 → KmiData t m c (leBytes 4 ((s.kmiUnpost m).iasRead (bits c.a0 31 0)).1)))) ∧
    (bits c.a0 47 32 = 0 ∨ 960 < bits c.a0 47 32 ∨ rawRange (bits c.a0 31 0) (bits c.a0 47 32) = false →
      Answers (.rawRead m) s (fun t => KmiDone t m stBadArg [] 0 ∧ RegsBut [KMI_MBX_STATE] s t))) ∧
  (∀ (s : State) (m : Nat) (c : KmiCmd), KmiReady s 0x0804 m c →
    (c.dataIn.length = 4 → rawAllowed (bits c.a0 31 0) = true →
      let w := (((s.kmiUnpost m).ledger 0x0802 (bits c.a0 31 0)).iasWrite (bits c.a0 31 0) (leField c.dataIn 0 4) (2 ^ 32 - 1)).2
      exec (.rawWrite m) s = .next (w.kmiFinish m c stOk 0 0 [] []) ∨
        (exec (.rawWrite m) s = .next (w.kmiFinish m c stSelfBank 0 0 [] []) ∧ w.rawSelfBank (bits c.a0 31 0) = true)) ∧
    (c.dataIn = [] ∨ c.dataIn.length % 4 ≠ 0 ∨ rawRange (bits c.a0 31 0) (c.dataIn.length / 4) = false →
      Answers (.rawWrite m) s (fun t => KmiDone t m stBadArg [] 0 ∧ t.ldg = s.ldg))) ∧
  (∀ (s : State) (m : Nat) (c : KmiCmd), KmiReady s 0x0801 m c →
    Answers (.kmiInfo m) s (fun t => ∃ w0 w1 w2 w3, KmiDone t m stOk [w0, w1, w2, w3] 0 ∧ bits w0 15 0 = 0x0204 ∧ bits w0 39 32 = 0xB1 ∧
      w1 = leField s.serial 0 8 ∧ w2 = leField s.serial 8 8 ∧ w3 = s.get TGT_LC_STATE + 16 * s.get TGT_DBG_LEVEL ∧
      SameBut [.kmi, .regs, .out, .pba] s t ∧ RegsBut [KMI_MBX_STATE] s t)) ∧
  (∀ (s : State) (m : Nat) (c : KmiCmd), KmiReady s 0x0802 m c →
    Answers (.kmiEcho m) s (fun t => KmiDone t m stOk [c.a0, c.a1, c.a2, c.a3] 0 ∧ SameBut [.kmi, .regs, .out, .pba] s t ∧
      RegsBut [KMI_MBX_STATE] s t)))

/-- The fabric commands of the KMI (R149, R151, R407, R408): a management status word shows Doors 4,032 to 4,063 as their links
carry them; a control word is kept for its Room alone; FPLL_READ gives control, outputs and lock; FPLL_WRITE is BAD_ARG outside
Table 04-14, RESOURCE_HELD while a tree of a VALID Room uses the PLL, and otherwise sets and unlocks the PLL and is RUNNING;
BRAM_SBE gives a Room's count and clears it where A0[8] is 1. A fabric PLL that loses lock (R153): it reads unlocked and no other
PLL's lock or setting changes; its trees have stopped, and one loss is recorded for each clock domain it fed, with its number, in
their order; trees that stand high fall first. -/
def Obligations.FabricCommandsAndPlls : Prop :=
  ((∀ (s : State) (m : Nat) (c : KmiCmd), KmiReady s 0x0101 m c →
    (bits c.a0 4 0 < 24 → Answers (.fabMgmtRead m) s (fun t => ∃ w, KmiDone t m stOk [w] 0 ∧
      (∀ i < 32, bitB w i = decide (s.doorLink (bits c.a0 4 0) (4032 + i) = 1)) ∧ w < 2 ^ 32 ∧
      SameBut [.kmi, .regs, .out, .pba] s t ∧ RegsBut [KMI_MBX_STATE] s t)) ∧
    (24 ≤ bits c.a0 4 0 → Answers (.fabMgmtRead m) s (fun t => KmiDone t m stBadArg [] 0))) ∧
  (∀ (s : State) (m : Nat) (c : KmiCmd), KmiReady s 0x0102 m c →
    (bits c.a0 4 0 < 24 → Answers (.fabMgmtWrite m) s (fun t => KmiDone t m stOk [] 0 ∧
      Assoc.get 0 (bits c.a0 4 0) t.fab.mgmtCtl = c.a1 % 2 ^ 32 ∧
      (∀ r, r ≠ bits c.a0 4 0 → Assoc.get 0 r t.fab.mgmtCtl = Assoc.get 0 r s.fab.mgmtCtl) ∧
      SameBut [.kmi, .regs, .out, .fab, .pba] s t ∧ RegsBut [KMI_MBX_STATE] s t)) ∧
    (24 ≤ bits c.a0 4 0 → Answers (.fabMgmtWrite m) s (fun t => KmiDone t m stBadArg [] 0 ∧ t.fab = s.fab))) ∧
  (∀ (s : State) (m : Nat) (c : KmiCmd), KmiReady s 0x0103 m c →
    Answers (.fpllRead m) s (fun t => KmiDone t m stOk [s.fab.pllCtl.getD (bits c.a0 3 0) 0, s.fab.pllOut.getD (bits c.a0 3 0) 0,
      b2n (bitB s.fab.pllLocked (bits c.a0 3 0))] 0 ∧ SameBut [.kmi, .regs, .out, .pba] s t ∧ RegsBut [KMI_MBX_STATE] s t)) ∧
  (∀ (s : State) (m : Nat) (c : KmiCmd), KmiReady s 0x0104 m c →
    (pllCtlOk c.a1 = true → pllOutOk c.a2 = true → s.treesOf (bits c.a0 3 0) = [] → s.fab.pllCtl.length = 16 → s.fab.pllOut.length = 16 →
      Answers (.fpllWrite m) s (fun t => KmiRuns t m c ∧ t.fab.pllCtl.getD (bits c.a0 3 0) 0 = c.a1 % 2 ^ 13 ∧
        t.fab.pllOut.getD (bits c.a0 3 0) 0 = c.a2 % 2 ^ 64 ∧ bitB t.fab.pllLocked (bits c.a0 3 0) = false ∧
        (∀ p, p ≠ bits c.a0 3 0 → bitB t.fab.pllLocked p = bitB s.fab.pllLocked p ∧ t.fab.pllCtl.getD p 0 = s.fab.pllCtl.getD p 0) ∧
        SameBut [.kmi, .regs, .fab] s t ∧ RegsBut [KMI_MBX_STATE] s t)) ∧
    (pllCtlOk c.a1 = false ∨ pllOutOk c.a2 = false → Answers (.fpllWrite m) s (fun t => KmiDone t m stBadArg [] 0 ∧ t.fab = s.fab)) ∧
    (pllCtlOk c.a1 = true → pllOutOk c.a2 = true → s.treesOf (bits c.a0 3 0) ≠ [] →
      Answers (.fpllWrite m) s (fun t => KmiDone t m stHeld [] 0 ∧ t.fab = s.fab))) ∧
  (∀ (s : State) (m : Nat) (c : KmiCmd), KmiReady s 0x0201 m c →
    (bits c.a0 4 0 < 24 → Answers (.bramSbe m) s (fun t => KmiDone t m stOk [Assoc.get 0 (bits c.a0 4 0) s.fab.sbe] 0 ∧
      (bitB c.a0 8 = true → Assoc.get 0 (bits c.a0 4 0) t.fab.sbe = 0) ∧ (bitB c.a0 8 = false → t.fab = s.fab) ∧
      (∀ r, r ≠ bits c.a0 4 0 → Assoc.get 0 r t.fab.sbe = Assoc.get 0 r s.fab.sbe) ∧
      SameBut [.kmi, .regs, .out, .fab, .pba] s t ∧ RegsBut [KMI_MBX_STATE] s t)) ∧
    (24 ≤ bits c.a0 4 0 → Answers (.bramSbe m) s (fun t => KmiDone t m stBadArg [] 0 ∧ t.fab = s.fab)))) ∧
  ((∀ (s : State) (p : Nat), p < 16 → (∀ k ∈ s.treesOf p, bitB s.fab.clk k = false) →
    exec (.fpllLockLoss p) s = .next ((s.treesOf p).foldl (fun st cd => st.ledger 0x0101 cd)
      { s with fab := { s.fab with pllLocked := clrBit s.fab.pllLocked p } })) ∧
  (∀ (s : State) (p : Nat), p < 16 →
    Answers (.fpllLockLoss p) s (fun t => bitB t.fab.pllLocked p = false ∧ (∀ q, q ≠ p → bitB t.fab.pllLocked q = bitB s.fab.pllLocked q) ∧
      t.fab.pllCtl = s.fab.pllCtl ∧ t.fab.pllOut = s.fab.pllOut ∧ SameBut [.fab, .cfg, .kmi, .ldg, .regs, .out, .pba] s t ∧
      (∀ k ∈ s.treesOf p, t.treeRuns (k / 2) (k % 2) = false))))

/-- Distributed RAM (R119, R125, R126, R127): an active edge on a running clock of control set 0. The enabled write enters the
Slice's LUT words in the active latch bank: a 16 x 4 write stores bit j of X at the address of A to D in LUT j. The flip-flops of
every control set on that edge take it, the inputs being those given and the chained carry. Other Rooms' Slices, and block contents,
stay. On a stopped clock nothing happens. The logic of a Slice (R114, R116, R120, R123, R124): a LUT is addressed by 8D + 4C + 2B +
A, the carry runs from bit to bit as p ? c : g, the sum is p XOR c, an enabled reset wins over a set, and a set over the clock
enable; a tick commit moves the hidden stage of TICK pairs whose tree runs and no other bit. -/
def Obligations.SlicesAndDistributedRam : Prop :=
  ((∀ (s : State) (r tile sl : Nat) (i : SliceIn), r < 24 → tile < 3200 → sl < 8 →
    (s.treeRuns r (setTree (s.sliceCfg r tile sl) 0) = true →
      Answers (.distributedRamWrite r tile sl i) s (fun t =>
        (ramWrites (s.sliceCfg r tile sl) i = true → t.sliceCfg r tile sl = ramWrite (s.sliceCfg r tile sl) i % 2 ^ 128) ∧
        (ramWrites (s.sliceCfg r tile sl) i = false → t.sliceCfg r tile sl = s.sliceCfg r tile sl) ∧
        (bitB s.fab.clk (2 * r + setTree (s.sliceCfg r tile sl) 0) = bitB (s.sliceCfg r tile sl) 111 →
          t.ffs r tile sl = sliceEdge (s.sliceCfg r tile sl) (activeSet (fun j => if j = 2 * r + setTree (s.sliceCfg r tile sl) 0 then
              some (!bitB (s.sliceCfg r tile sl) 111) else none) r (s.sliceCfg r tile sl))
            (s.setHigh r (s.sliceCfg r tile sl)) { i with cin := s.cinOf r tile sl } (s.ffs r tile sl)) ∧
        (∀ r' tile' sl', r' ≠ r → tile' < 3200 → sl' < 8 →
          t.ffs r' tile' sl' = s.ffs r' tile' sl' ∧ t.sliceCfg r' tile' sl' = s.sliceCfg r' tile' sl') ∧
        t.fab.cellar = s.fab.cellar ∧ t.fab.larder = s.fab.larder ∧ t.fab.pab = s.fab.pab ∧ SameBut [.fab, .cfg, .freeCount, .out] s t)) ∧
    (s.treeRuns r (setTree (s.sliceCfg r tile sl) 0) = false → exec (.distributedRamWrite r tile sl i) s = .next s)) ∧
  (∀ (cfg : Nat) (i : SliceIn) (n : Nat), ramMode cfg = 0 →
    bitB (ramWrite cfg i) n = if n < 64 ∧ n % 16 = lutAddr i 0 then bitB i.x (n / 16) else bitB cfg n)) ∧
  ((∀ (cfg : Nat) (i : SliceIn) (j : Nat), bits cfg 64 64 = 0 → lutOut cfg i j = bitB cfg (16 * j +
    (8 * bits i.d j j + 4 * bits i.c j j + 2 * bits i.b j j + bits i.a j j))) ∧
  (∀ (cfg : Nat) (i : SliceIn) (j : Nat), sumOut cfg i j = (lutOut cfg i j ^^ carryAt cfg i j) ∧
    carryAt cfg i (j + 1) = (if lutOut cfg i j then carryAt cfg i j else genOut cfg i j)) ∧
  (∀ (cfg k : Nat) (set ce old d : Bool), ffNext cfg k true set ce old d =
    (if bitB cfg (110 + 5 * k + 2) then false else if set && bitB cfg (110 + 5 * k + 3) then true else false)) ∧
  (∀ (cfg k : Nat) (ce old d : Bool), ffNext cfg k false true ce old d = true) ∧
  (∀ (cfg k : Nat) (old d : Bool), ffNext cfg k false false false old d = (if bitB cfg (110 + 5 * k + 4) then old else d) ∧
    ffNext cfg k false false true old d = d) ∧
  (∀ (cfg ff m : Nat) (runs : Nat → Bool), m < 8 → bitB (commitFf cfg runs ff) m =
    (if m % 2 = 0 ∧ pairMode cfg (m / 2) = 2 ∧ runs (setTree cfg (m / 4)) = true then bitB ff (m + 1) else bitB ff m)))

/-- Cellar and Larder port accesses (R157, R161 to R166, R168, R170, R175 to R177). A TDP or PINGPONG write stores the enabled bytes
of the word addressed, each with its ninth bit, or below a byte the word's bits, and no other cell of any block; a read shows the
stored word at the port's latch and stores nothing; an SDP write stores bytes of 64 bits, with ECC the whole word and its check
bits; a Larder write stores the merged 72-bit word, and of two writes in one collision window port B's bytes win; a request on a
stopped tree, or on a port A that belongs to a fill path, does nothing; while ports are disabled the outputs are 0 and nothing is
written. PAB cycles (R157, R182 to R189): the PABs named that run on a 1:1 tree take one array cycle, all on the state before it,
and one at 5:4 takes two in the first tree cycle of a group of four and one in each other; a PAB not named, or on a stopped tree,
keeps everything. In an array cycle each lane's accumulator holds, loads, adds or subtracts its product with the cascade input, kept
to 80 bits modulo 2^80; CWE writes the coefficient banks; CE 0 holds accumulators and banks; the sticky flags gather until CLR_STAT;
the result enters the pipeline. CLR_STAT clears both flags; a Room with ports disabled does nothing. -/
def Obligations.BlockPortsAndPabs : Prop :=
  ((∀ (s : State) (r b p : Nat) (q : PortReq) (w a : Bool) (d base : Nat), r < 24 → b < 160 → p < 2 → s.blockOff r false b = false →
    s.portClock r false b p = true → cellarMode (s.cellarRec r b) ≠ 1 → q.en = true →
    d = cellarWidth (cellarWcode (s.cellarRec r b) p) → 8 ≤ d →
    base = cellarKey r b + halfBase (s.cellarRec r b) p (Assoc.get false (160 * r + b) s.fab.ppSel != q.pre) +
      q.addr % cellarDepth (s.cellarRec r b) d * d / 8 →
    Answers (.blockPortAccess r false b (if p = 0 then some q else none) (if p = 1 then some q else none) w a) s (fun t =>
      (∀ k, k < d / 8 → bitB q.we k = true →
        Assoc.get 0 (base + k) t.fab.cellar = bits q.data (8 * k + 7) (8 * k) + 256 * bits q.data (d + k) (d + k)) ∧
      (∀ x, (∀ k, k < d / 8 → bitB q.we k = true → x ≠ base + k) → Assoc.get 0 x t.fab.cellar = Assoc.get 0 x s.fab.cellar) ∧
      t.fab.larder = s.fab.larder ∧ t.fab.pab = s.fab.pab ∧ SameBut [.fab] s t)) ∧
  (∀ (s : State) (r b p : Nat) (q : PortReq) (w a : Bool) (d base : Nat), r < 24 → b < 160 → p < 2 → s.blockOff r false b = false →
    s.portClock r false b p = true → cellarMode (s.cellarRec r b) ≠ 1 → q.en = true → bitB q.we 0 = true →
    d = cellarWidth (cellarWcode (s.cellarRec r b) p) → d < 8 →
    base = cellarKey r b + halfBase (s.cellarRec r b) p (Assoc.get false (160 * r + b) s.fab.ppSel != q.pre) →
    Answers (.blockPortAccess r false b (if p = 0 then some q else none) (if p = 1 then some q else none) w a) s (fun t =>
      (∀ n, n / 8 < 4096 → bitB (Assoc.get 0 (base + n / 8) t.fab.cellar) (n % 8) =
        if n / d = q.addr % cellarDepth (s.cellarRec r b) d then bitB q.data (n % d) else bitB (Assoc.get 0 (base + n / 8) s.fab.cellar) (n % 8)) ∧
      (∀ x, x ≠ base + q.addr % cellarDepth (s.cellarRec r b) d * d / 8 → Assoc.get 0 x t.fab.cellar = Assoc.get 0 x s.fab.cellar) ∧
      t.fab.larder = s.fab.larder ∧ t.fab.pab = s.fab.pab ∧ SameBut [.fab] s t)) ∧
  (∀ (s : State) (r b p : Nat) (q : PortReq) (w a : Bool), r < 24 → b < 160 → p < 2 → s.blockOff r false b = false →
    s.portClock r false b p = true → cellarMode (s.cellarRec r b) ≠ 1 → q.en = true → q.orst = false →
    effWe (cellarWidth (cellarWcode (s.cellarRec r b) p)) q.we = 0 →
    Answers (.blockPortAccess r false b (if p = 0 then some q else none) (if p = 1 then some q else none) w a) s (fun t =>
      (t.port (portKey false r b p)).latch = cellarRead s.fab.cellar
        (cellarKey r b + halfBase (s.cellarRec r b) p (Assoc.get false (160 * r + b) s.fab.ppSel != q.pre))
        (cellarWidth (cellarWcode (s.cellarRec r b) p))
        (q.addr % cellarDepth (s.cellarRec r b) (cellarWidth (cellarWcode (s.cellarRec r b) p))) ∧
      (bitB (s.cellarRec r b) (12 + p) = true → (t.port (portKey false r b p)).oreg = (s.port (portKey false r b p)).latch) ∧
      t.fab.cellar = s.fab.cellar ∧ t.fab.larder = s.fab.larder ∧ t.fab.pab = s.fab.pab ∧ SameBut [.fab] s t)) ∧
  (∀ (s : State) (r b : Nat) (qa qb : PortReq) (w a : Bool) (we : Nat), r < 24 → b < 160 → s.blockOff r false b = false →
    s.portClock r false b 0 = true → s.portClock r false b 1 = true → cellarMode (s.cellarRec r b) = 1 → qa.en = true → qb.en = false →
    we = qa.we % 16 + 16 * (qb.we % 16) →
    Answers (.blockPortAccess r false b (some qa) (some qb) w a) s (fun t =>
      (bitB (s.cellarRec r b) 14 = false →
        (∀ k, k < 8 → bitB we k = true → Assoc.get 0 (cellarKey r b + qa.addr % 512 * 64 / 8 + k) t.fab.cellar =
          bits qa.data (8 * k + 7) (8 * k) + 256 * bits qa.data (64 + k) (64 + k)) ∧
        (∀ x, (∀ k, k < 8 → bitB we k = true → x ≠ cellarKey r b + qa.addr % 512 * 64 / 8 + k) →
          Assoc.get 0 x t.fab.cellar = Assoc.get 0 x s.fab.cellar)) ∧
      (bitB (s.cellarRec r b) 14 = true → we ≠ 0 →
        (∀ k, k < 8 → Assoc.get 0 (cellarKey r b + qa.addr % 512 * 64 / 8 + k) t.fab.cellar =
          bits qa.data (8 * k + 7) (8 * k) + 256 * bits (Config.ecc72 (qa.data % 2 ^ 64)) k k)) ∧
      t.fab.larder = s.fab.larder ∧ t.fab.pab = s.fab.pab ∧ SameBut [.fab] s t)) ∧
  (∀ (s : State) (r b : Nat) (q : PortReq) (w a : Bool), r < 24 → b < 160 → s.blockOff r false b = false →
    s.portClock r false b 1 = true → cellarMode (s.cellarRec r b) = 1 → q.en = true → q.orst = false →
    Answers (.blockPortAccess r false b none (some q) w a) s (fun t =>
      (bitB (s.cellarRec r b) 14 = false → (t.port (portKey false r b 1)).latch = cellarRead s.fab.cellar (cellarKey r b) 64 (q.addr % 512)) ∧
      (bitB (s.cellarRec r b) 14 = true →
        ((t.port (portKey false r b 1)).sbe = (q.err == 1)) ∧ ((t.port (portKey false r b 1)).dbe = (q.err == 2)) ∧
        (q.err ≠ 2 → (t.port (portKey false r b 1)).latch = cellarRead s.fab.cellar (cellarKey r b) 64 (q.addr % 512) % 2 ^ 64)) ∧
      t.fab.cellar = s.fab.cellar ∧ SameBut [.fab, .kmi, .ldg, .regs, .out, .pba] s t)) ∧
  (∀ (s : State) (r b p : Nat) (q : PortReq) (w a : Bool) (k : Nat), r < 24 → b < 16 → p < 2 → s.blockOff r true b = false →
    s.portClock r true b p = true → q.en = true → k = 4096 * (16 * r + b) + q.addr % 4096 →
    Answers (.blockPortAccess r true b (if p = 0 then some q else none) (if p = 1 then some q else none) w a) s (fun t =>
      (q.we ≠ 0 → larderWord (bitB (s.larderRec r b) 0) k t.fab.larder =
        larderMerge (bitB (s.larderRec r b) 0) q.we (larderWord (bitB (s.larderRec r b) 0) k s.fab.larder) q.data) ∧
      (q.we = 0 → t.fab.larder = s.fab.larder) ∧
      (q.we = 0 → q.orst = false → bitB (s.larderRec r b) 0 = false →
        (t.port (portKey true r b p)).latch = larderWord false k s.fab.larder) ∧
      (∀ x, x ≠ k → Assoc.get 0 x t.fab.larder = Assoc.get 0 x s.fab.larder) ∧
      t.fab.cellar = s.fab.cellar ∧ SameBut [.fab, .kmi, .ldg, .regs, .out, .pba] s t)) ∧
  (∀ (s : State) (r b : Nat) (qa qb : PortReq) (a : Bool) (k : Nat), r < 24 → b < 16 → s.blockOff r true b = false →
    s.portClock r true b 0 = true → s.portClock r true b 1 = true → bitB (s.larderRec r b) 0 = false →
    qa.en = true → qb.en = true → qa.we ≠ 0 → qb.we ≠ 0 → k = 4096 * (16 * r + b) + qa.addr % 4096 → qb.addr % 4096 = qa.addr % 4096 →
    Answers (.blockPortAccess r true b (some qa) (some qb) true a) s (fun t =>
      Assoc.get 0 k t.fab.larder = larderMerge false qb.we (larderMerge false qa.we (Assoc.get 0 k s.fab.larder) qa.data) qb.data ∧
      (∀ x, x ≠ k → Assoc.get 0 x t.fab.larder = Assoc.get 0 x s.fab.larder) ∧ t.fab.cellar = s.fab.cellar ∧ SameBut [.fab] s t)) ∧
  (∀ (s : State) (r b : Nat) (l : Bool) (qa qb : PortReq) (w a : Bool), r < 24 → b < (if l then 16 else 160) →
    s.blockOff r l b = false → s.portClock r l b 0 = false → s.portClock r l b 1 = false →
    Answers (.blockPortAccess r l b (some qa) (some qb) w a) s (fun t => t.fab.cellar = s.fab.cellar ∧ t.fab.larder = s.fab.larder ∧
      t.fab.ppHalf = s.fab.ppHalf ∧ (t.port (portKey l r b 0)).latch = (s.port (portKey l r b 0)).latch ∧
      (t.port (portKey l r b 1)).latch = (s.port (portKey l r b 1)).latch ∧ SameBut [.fab] s t)) ∧
  (∀ (s : State) (r b : Nat) (l : Bool) (pa pb : Option PortReq) (w a : Bool), r < 24 → b < (if l then 16 else 160) →
    s.blockOff r l b = true →
    Answers (.blockPortAccess r l b pa pb w a) s (fun t => t.port (portKey l r b 0) = ⟨0, 0, false, false, false, false⟩ ∧
      t.port (portKey l r b 1) = ⟨0, 0, false, false, false, false⟩ ∧ t.fab.cellar = s.fab.cellar ∧ t.fab.larder = s.fab.larder ∧
      SameBut [.fab] s t))) ∧
  ((∀ (s : State) (r : Nat) (inp : List PabIn), r < 24 → inp.all (fun i => decide (i.pab < 96)) = true → (inp.map (fun i => i.pab)).Nodup →
    bitB s.fab.portsOn r = true → s.blockWork r 2 = false →
    Answers (.pabCycle r inp) s (fun t =>
      (∀ i ∈ inp, s.pabRuns r i.pab = true → s.pabRatio r i.pab = false → t.pabSt r i.pab = s.pabCycle r i) ∧
      (∀ i ∈ inp, s.pabRuns r i.pab = false → t.pabSt r i.pab = s.pabSt r i.pab) ∧
      (∀ p, (∀ i ∈ inp, p ≠ i.pab) → t.pabSt r p = s.pabSt r p) ∧ t.fab.cellar = s.fab.cellar ∧ t.fab.larder = s.fab.larder ∧
      SameBut [.fab] s t)) ∧
  (∀ (s : State) (r : Nat) (i : PabIn), r < 24 → i.pab < 96 → bitB s.fab.portsOn r = true → s.blockWork r 2 = false →
    s.pabRuns r i.pab = true → s.pabRatio r i.pab = true →
    Answers (.pabCycle r [i]) s (fun t =>
      ((s.pabSt r i.pab).phase ≠ 0 → t.pabSt r i.pab = gearStep (s.pabGear r i ((s.pabSt r i.pab).phase + 1)) i.a) ∧
      ((s.pabSt r i.pab).phase = 0 → t.pabSt r i.pab = gearStep ((s.pabPut r [(i.pab, s.pabGear r i 0)]).pabGear r i 1) i.a) ∧
      SameBut [.fab] s t)) ∧
  (∀ (s : State) (r : Nat) (inp : List PabIn), r < 24 → inp.any (fun i => decide (96 ≤ i.pab)) = false →
    bitB s.fab.portsOn r = false ∨ s.blockWork r 2 = true → exec (.pabCycle r inp) s = .next s) ∧
  (∀ (s : State) (r : Nat) (i : PabIn) (k : Nat) (c : Int), i.ce = true → k < 16 → k < pabLanes (s.pabRec r i.pab) →
    c = (if bitB (s.pabRec r i.pab) 11 then signed 80 ((if i.pab % 32 = 0 then [] else (s.pabSt r (i.pab - 1)).acc).getD k 0) else 0) →
    (i.opc % 4 = 0 → (s.pabCycle r i).acc.getD k 0 = (s.pabSt r i.pab).acc.getD k 0) ∧
    (i.opc % 4 = 1 → (s.pabCycle r i).acc.getD k 0 =
      encodeInt 80 ((pabProducts (s.pabRec r i.pab) (s.pabSt r i.pab) i).1.getD k 0 + c)) ∧
    (i.opc % 4 = 2 → (s.pabCycle r i).acc.getD k 0 = encodeInt 80 (signed 80 ((s.pabSt r i.pab).acc.getD k 0) +
      (pabProducts (s.pabRec r i.pab) (s.pabSt r i.pab) i).1.getD k 0 + c)) ∧
    (i.opc % 4 = 3 → (s.pabCycle r i).acc.getD k 0 = encodeInt 80 (signed 80 ((s.pabSt r i.pab).acc.getD k 0) -
      (pabProducts (s.pabRec r i.pab) (s.pabSt r i.pab) i).1.getD k 0 + c))) ∧
  (∀ (s : State) (r : Nat) (i : PabIn) (k : Nat), i.ce = true → i.cwe = true → k < pabLanes (s.pabRec r i.pab) →
    (s.pabSt r i.pab).bank.length = 256 →
    (s.pabCycle r i).bank.getD (16 * k + i.cidx % 16) 0 = laneOp i.b (pabWb (s.pabRec r i.pab)) k) ∧
  (∀ (s : State) (r : Nat) (i : PabIn), i.ce = false → (s.pabCycle r i).acc = (s.pabSt r i.pab).acc ∧
    (s.pabCycle r i).bank = (s.pabSt r i.pab).bank) ∧
  (∀ (s : State) (r : Nat) (i : PabIn),
    ((s.pabSt r i.pab).preOvf = true → i.clrStat = false → (s.pabCycle r i).preOvf = true) ∧
    ((s.pabSt r i.pab).accOvf = true → i.clrStat = false → (s.pabCycle r i).accOvf = true) ∧
    (i.ce = true → (pabProducts (s.pabRec r i.pab) (s.pabSt r i.pab) i).2 = true → (s.pabCycle r i).preOvf = true) ∧
    (i.ce = false → i.clrStat = true → (s.pabCycle r i).preOvf = false ∧ (s.pabCycle r i).accOvf = false) ∧
    (s.pabCycle r i).pipe = (pabPort (s.pabRec r i.pab) (s.pabCycle r i).acc (i.rbase % 16) :: (s.pabSt r i.pab).pipe).take 5) ∧
  (∀ (s : State) (r p : Nat), r < 24 → p < 96 →
    (s.pabRuns r p = true →
      Answers (.pabClearStat r p) s (fun t => (t.pabSt r p).preOvf = false ∧ (t.pabSt r p).accOvf = false ∧
        (t.pabSt r p).acc = (s.pabSt r p).acc ∧ (t.pabSt r p).bank = (s.pabSt r p).bank ∧ (t.pabSt r p).pipe = (s.pabSt r p).pipe ∧
        (∀ q, q ≠ p → t.pabSt r q = s.pabSt r q) ∧ SameBut [.fab] s t)) ∧
    (s.pabRuns r p = false → exec (.pabClearStat r p) s = .next s)))

/-- Starting Pantry operations (R428, R431, R433, R434, R436): an accepted PROGRAM or ERASE clears ERR and moves the bank's STATE, a
refused one sets ERR to the first code of Table 13-5 that holds and starts nothing; neither writes the flash; the bank that runs the
firmware refuses with SELF_BANK unless the fetch-lock is set, and a marked range is refused while NVWP_N is low. The fetch-lock
(R433, R435): setting it takes effect at once and drops a held clear; a clear takes effect at once while both banks are IDLE, and is
held otherwise. -/
def Obligations.PantryStartsAndFetchLock : Prop :=
  ((∀ (s : State) (b : Nat) (nvwp vaux : Bool), b < 2 → s.pnt.banks.length = 2 →
    ((s.setNvwp nvwp).progRefusal b ((s.setNvwp nvwp).geti PNT_B_ADDR_OFFSET b) vaux = 0 →
      Answers (.pntProgram b nvwp vaux) s (fun t =>
        t.geti PNT_B_STAT_STATE b = (if s.geti PNT_B_STAT_STATE b = 3 then 4 else 1) ∧ t.geti PNT_B_STAT_ERR b = 0 ∧
        (t.pBank b).prog = s.geti PNT_B_ADDR_OFFSET b ∧ (t.pBank b).data = s.pageBuf b ∧ SameBut [.pnt, .regs] s t ∧
        RegsBut [PNT_PROT_NVWP_N, PNT_B_STAT_STATE, PNT_B_STAT_ERR] s t)) ∧
    (∀ e, e ≠ 0 → (s.setNvwp nvwp).progRefusal b ((s.setNvwp nvwp).geti PNT_B_ADDR_OFFSET b) vaux = e →
      Answers (.pntProgram b nvwp vaux) s (fun t => t.geti PNT_B_STAT_ERR b = e ∧ t.geti PNT_B_STAT_STATE b = s.geti PNT_B_STAT_STATE b ∧
        t.pBank b = s.pBank b ∧ SameBut [.pnt, .regs] s t)) ∧
    ((s.setNvwp nvwp).eraseRefusal b ((s.setNvwp nvwp).geti PNT_B_ADDR_OFFSET b)
        (max 1 ((s.setNvwp nvwp).geti PNT_B_COUNT_SECTORS b)) vaux = 0 →
      Answers (.pntErase b nvwp vaux) s (fun t => t.geti PNT_B_STAT_STATE b = 2 ∧ t.geti PNT_B_STAT_ERR b = 0 ∧
        t.geti PNT_B_STAT_SUSP_CNT b = 0 ∧ t.geti PNT_B_STAT_ERASED b = 0 ∧ (t.pBank b).er = s.geti PNT_B_ADDR_OFFSET b / 4096 ∧
        (t.pBank b).erLeft = max 1 (s.geti PNT_B_COUNT_SECTORS b) ∧ SameBut [.pnt, .regs] s t)) ∧
    (∀ e, e ≠ 0 → (s.setNvwp nvwp).eraseRefusal b ((s.setNvwp nvwp).geti PNT_B_ADDR_OFFSET b)
        (max 1 ((s.setNvwp nvwp).geti PNT_B_COUNT_SECTORS b)) vaux = e →
      Answers (.pntErase b nvwp vaux) s (fun t => t.geti PNT_B_STAT_ERR b = e ∧ t.geti PNT_B_STAT_STATE b = s.geti PNT_B_STAT_STATE b ∧
        t.pBank b = s.pBank b ∧ SameBut [.pnt, .regs] s t))) ∧
  (∀ (s : State) (b off n : Nat) (vaux : Bool), s.flag PNT_XBANK_VALID = true → s.get PNT_XBANK_BANK = b → s.flag PNT_FLOCK_LOCK = false →
    s.progRefusal b off vaux = 1 ∧ s.eraseRefusal b off n vaux = 1) ∧
  (∀ (s : State) (b off n : Nat) (vaux : Bool), (s.flag PNT_XBANK_VALID && s.get PNT_XBANK_BANK == b && !s.flag PNT_FLOCK_LOCK) = false →
    s.pnt.nvwp = false →
    (s.marked (2 ^ 24 * b + off) 256 = true → s.progRefusal b off vaux = 2) ∧
    (s.marked (2 ^ 24 * b + off) (4096 * n) = true → s.eraseRefusal b off n vaux = 2))) ∧
  (∀ s : State,
    Answers (.fetchLockWrite true) s (fun t => t.get PNT_FLOCK_LOCK = 1 ∧ t.get PNT_FLOCK_CLR_PENDING = 0 ∧ SameBut [.regs] s t ∧
      RegsBut [PNT_FLOCK_LOCK, PNT_FLOCK_CLR_PENDING] s t) ∧
    (s.geti PNT_B_STAT_STATE 0 = 0 → s.geti PNT_B_STAT_STATE 1 = 0 → Answers (.fetchLockWrite false) s (fun t =>
      t.get PNT_FLOCK_LOCK = 0 ∧ SameBut [.regs] s t ∧ RegsBut [PNT_FLOCK_LOCK] s t)) ∧
    ((s.geti PNT_B_STAT_STATE 0 ≠ 0 ∨ s.geti PNT_B_STAT_STATE 1 ≠ 0) → s.get PNT_FLOCK_LOCK = 1 → Answers (.fetchLockWrite false) s (fun t =>
      t.get PNT_FLOCK_LOCK = 1 ∧ t.get PNT_FLOCK_CLR_PENDING = 1 ∧ SameBut [.regs] s t ∧ RegsBut [PNT_FLOCK_CLR_PENDING] s t)))

/-- What ends a Pantry operation writes (R425, R428, R429): a verified program leaves its bytes in its page and marks it programmed;
a verified sector of an erase reads 0xFF and may be programmed again; every other byte of the flash stays. Suspend and resume of an
erase (R427, R432, R436, Table 13-6): an erasing bank suspends up to 64 times and resumes; a read that waited for the bank completes
at the suspend; the 65th suspend, a suspend of a program and a resume that a mark now protects set ERR and change no state; neither
writes the flash. -/
def Obligations.PantryWritesAndSuspend : Prop :=
  ((∀ (s : State) (b : Nat), b < 2 → (s.geti PNT_B_STAT_STATE b = 1 ∨ s.geti PNT_B_STAT_STATE b = 4) → (s.pBank b).data.length = 256 →
    Answers (.pntProgramDone b true) s (fun t =>
      (∀ i, i < 256 → t.pByte (2 ^ 24 * b + (s.pBank b).prog + i) = (s.pBank b).data.getD i 0 % 256) ∧
      (∀ x, x < 2 ^ 24 * b + (s.pBank b).prog ∨ 2 ^ 24 * b + (s.pBank b).prog + 256 ≤ x → t.pByte x = s.pByte x) ∧
      Assoc.get false ((2 ^ 24 * b + (s.pBank b).prog) / 256) t.pnt.programmed = true ∧
      SameBut [.pantry, .pnt, .regs, .kmi, .ldg, .out, .pba] s t)) ∧
  (∀ (s : State) (b : Nat), b < 2 → (s.geti PNT_B_STAT_STATE b = 1 ∨ s.geti PNT_B_STAT_STATE b = 4) →
    (s.pnt.jobs.find? (fun j => j.bank == b)) = none →
    Answers (.pntProgramDone b true) s (fun t => t.geti PNT_B_STAT_STATE b = (if s.geti PNT_B_STAT_STATE b = 4 then 3 else 0) ∧
      t.geti PNT_B_STAT_DONE b = 1)) ∧
  (∀ (s : State) (b : Nat), b < 2 → s.geti PNT_B_STAT_STATE b = 2 →
    Answers (.pntSectorErased b true) s (fun t =>
      (∀ x, 2 ^ 24 * b + 4096 * (s.pBank b).er ≤ x → x < 2 ^ 24 * b + 4096 * (s.pBank b).er + 4096 → t.pByte x = 0xFF ∧
        Assoc.get false (x / 256) t.pnt.programmed = false) ∧
      (∀ x, x < 2 ^ 24 * b + 4096 * (s.pBank b).er ∨ 2 ^ 24 * b + 4096 * (s.pBank b).er + 4096 ≤ x → t.pByte x = s.pByte x) ∧
      SameBut [.pantry, .pnt, .regs, .kmi, .ldg, .out, .pba] s t)) ∧
  (∀ (s : State) (b : Nat), b < 2 → s.geti PNT_B_STAT_STATE b = 2 → s.pnt.banks.length = 2 → 2 ≤ (s.pBank b).erLeft →
    Answers (.pntSectorErased b true) s (fun t => t.geti PNT_B_STAT_STATE b = 2 ∧ Counts s t PNT_B_STAT_ERASED b ∧
      (t.pBank b).er = (s.pBank b).er + 1 ∧ (t.pBank b).erLeft = (s.pBank b).erLeft - 1)) ∧
  (∀ (s : State) (b : Nat), b < 2 → s.geti PNT_B_STAT_STATE b = 2 → (s.pBank b).erLeft ≤ 1 →
    (s.pnt.jobs.find? (fun j => j.bank == b)) = none →
    Answers (.pntSectorErased b true) s (fun t => t.geti PNT_B_STAT_STATE b = 0 ∧ t.geti PNT_B_STAT_DONE b = 1))) ∧
  ((∀ (s : State) (b : Nat), b < 2 → s.kmi.running.find? (runIs 0x0810 (b + 1)) = none →
    (s.geti PNT_B_STAT_STATE b = 2 → s.geti PNT_B_STAT_SUSP_CNT b < 64 → Answers (.pntSuspend b) s (fun t =>
      t.geti PNT_B_STAT_STATE b = 3 ∧ t.geti PNT_B_STAT_SUSP_CNT b = s.geti PNT_B_STAT_SUSP_CNT b + 1 ∧ t.geti PNT_B_STAT_ERR b = 0 ∧
      SameBut [.regs] s t ∧ RegsBut [PNT_B_STAT_STATE, PNT_B_STAT_SUSP_CNT, PNT_B_STAT_ERR] s t)) ∧
    (s.geti PNT_B_STAT_STATE b = 2 → s.geti PNT_B_STAT_SUSP_CNT b = 64 → Answers (.pntSuspend b) s (fun t =>
      t.geti PNT_B_STAT_STATE b = 2 ∧ t.geti PNT_B_STAT_ERR b = 7 ∧ RegsBut [PNT_B_STAT_ERR] s t ∧ SameBut [.regs] s t)) ∧
    (s.geti PNT_B_STAT_STATE b = 1 ∨ s.geti PNT_B_STAT_STATE b = 4 → Answers (.pntSuspend b) s (fun t =>
      t.geti PNT_B_STAT_ERR b = 7 ∧ RegsBut [PNT_B_STAT_ERR] s t ∧ SameBut [.regs] s t)) ∧
    (s.geti PNT_B_STAT_STATE b = 0 ∨ s.geti PNT_B_STAT_STATE b = 3 → exec (.pntSuspend b) s = .next s)) ∧
  (∀ (s : State) (b : Nat) (q : RunCmd), b < 2 → s.kmi.running.filter (runIs 0x0810 (b + 1)) = [q] → q.abandoned = false →
    q.mbx < s.kmi.mbx.length → s.geti PNT_B_STAT_STATE b = 2 → s.geti PNT_B_STAT_SUSP_CNT b < 64 →
    Answers (.pntSuspend b) s (fun t => t.geti PNT_B_STAT_STATE b = 3 ∧ KmiDone t q.mbx stOk [] (q.cmd.a1 % 2 ^ 24) ∧ t.pantry = s.pantry)) ∧
  (∀ (s : State) (b : Nat) (nvwp : Bool), b < 2 → s.geti PNT_B_STAT_STATE b = 3 →
    ((nvwp || !s.marked (2 ^ 24 * b + 4096 * (s.pBank b).er) (4096 * (s.pBank b).erLeft)) = true → Answers (.pntResume b nvwp) s (fun t =>
      t.geti PNT_B_STAT_STATE b = 2 ∧ t.geti PNT_B_STAT_ERR b = 0 ∧ t.pnt.banks = s.pnt.banks ∧ SameBut [.pnt, .regs] s t)) ∧
    ((nvwp || !s.marked (2 ^ 24 * b + 4096 * (s.pBank b).er) (4096 * (s.pBank b).erLeft)) = false → Answers (.pntResume b nvwp) s (fun t =>
      t.geti PNT_B_STAT_STATE b = 3 ∧ t.geti PNT_B_STAT_ERR b = 2 ∧ SameBut [.pnt, .regs] s t))))

/-- The OTP operations (R441, R442, R443, R444, R445, R447): READ loads OTP_BUF with the row as shown, withheld rows as zeros;
PROGRAM is refused where it would clear a bit, where the single-write row is valid, or without its supply, and otherwise runs; its
end sets the bits that are 1 in the data and clears none; the shadow load copies the rows whose CRC checks. -/
def Obligations.OtpOperations : Prop :=
  (∀ (s : State) (r : Nat), r < 64 → s.flag OTP_STAT_BUSY = false →
    Answers (.otpCmdRead r) s (fun t =>
      (∀ w, w < 32 → t.geti OTP_BUF w = leField (otpShown r (s.otpRow r)) (4 * w) 4 % 2 ^ 32) ∧
      t.get OTP_STAT_ROW_VALID = b2n (otpSingle r && rowValid (s.otpRow r)) ∧ t.get OTP_STAT_ERR = 0 ∧ SameBut [.regs] s t ∧
      RegsBut [OTP_CMD_ROW, OTP_BUF, OTP_STAT_ROW_VALID, OTP_STAT_ERR] s t) ∧
    (∀ i, i < 128 → (r = 5 ∨ r = 6 ∨ (12 ≤ r ∧ r ≤ 15) ∨ (39 ≤ r ∧ r ≤ 47)) → (otpShown r (s.otpRow r)).getD i 1 = 0)) ∧
  (∀ (s : State) (r : Nat) (vaux : Bool), r < 64 → s.flag OTP_STAT_BUSY = false →
    (s.otpRefusal r s.otpBuf vaux = 0 → Answers (.otpCmdProgram r vaux) s (fun t => t.flag OTP_STAT_BUSY = true ∧
      t.pnt.otp = some (r, s.otpBuf, 0) ∧ t.get OTP_STAT_ERR = 0 ∧ SameBut [.regs, .pnt] s t)) ∧
    (∀ e, e ≠ 0 → s.otpRefusal r s.otpBuf vaux = e → Answers (.otpCmdProgram r vaux) s (fun t => t.get OTP_STAT_ERR = e ∧
      SameBut [.regs] s t ∧ RegsBut [OTP_CMD_ROW, OTP_STAT_ERR] s t)) ∧
    ((¬ ∀ i < 128, ((s.otpRow r).getD i 0 ||| s.otpBuf.getD i 0) = s.otpBuf.getD i 0) → s.otpRefusal r s.otpBuf vaux = 1)) ∧
  (∀ (s : State) (r mb : Nat) (d : List Nat), s.pnt.otp = some (r, d, mb) →
    Answers (.otpProgramDone true) s (fun t =>
      (∀ i, i < 128 → Assoc.get 0 (128 * r + i) t.otp = Assoc.get 0 (128 * r + i) s.otp ||| d.getD i 0 % 256) ∧
      (∀ x, x < 128 * r ∨ 128 * r + 128 ≤ x → Assoc.get 0 x t.otp = Assoc.get 0 x s.otp) ∧ t.pnt.otp = none ∧
      SameBut [.otp, .pnt, .regs, .kmi, .ldg, .out, .pba] s t)) ∧
  (∀ s : State, Answers .otpShadowLoad s (fun t => t.get OTP_LOAD_DONE = 1 ∧
    (∀ r ∈ shadowRows, (otpSingle r = false ∨ rowValid (s.otpRow r) = true) → t.shadowRow r = s.otpRow r) ∧
    SameBut [.pnt, .regs, .ldg, .kmi, .out, .pba] s t))

/-- The Pantry and OTP commands of the KMI (R414, R426, R427, R428, R434, R437, R443, R444, R545): a read of a bank in use waits;
any other returns the bytes, 0xFF in a sector whose erase is suspended, counts the words that needed retry, and ends HW_FAULT at an
uncorrectable word, which it records; a program, an erase or an update that the bank accepts runs until its last operation ends, and
one it refuses ends with the status of Table 13-5; an update takes the bank of the copy that is not running, and an image whose
signature fails ends AUTH_FAIL; an OTP program runs, or is refused. -/
def Obligations.PantryCommands : Prop :=
  (∀ (s : State) (m : Nat) (c : KmiCmd) (ra : List Nat) (w : Nat), KmiReady s 0x0810 m c →
    (2 ^ 25 < c.a0 % 2 ^ 25 + c.a1 % 2 ^ 24 → Answers (.pantryRead m ra none) s (fun t => KmiDone t m stBadArg [] 0 ∧ t.pantry = s.pantry)) ∧
    (c.a0 % 2 ^ 25 + c.a1 % 2 ^ 24 ≤ 2 ^ 25 → s.pReadable (c.a0 % 2 ^ 25 / 2 ^ 24) = false →
      Answers (.pantryRead m ra none) s (fun t => KmiRuns t m c ∧ SameBut [.kmi, .regs] s t ∧ RegsBut [KMI_MBX_STATE] s t)) ∧
    (c.a0 % 2 ^ 25 + c.a1 % 2 ^ 24 ≤ 2 ^ 25 → s.pReadable (c.a0 % 2 ^ 25 / 2 ^ 24) = true →
      (s.flag PNT_CTRL_RETRY_EN = true ∨ ra = [] →
        Answers (.pantryRead m ra none) s (fun t => KmiDone t m stOk [] (c.a1 % 2 ^ 24) ∧
          KmiData t m c (s.pantryData (c.a0 % 2 ^ 25) (c.a1 % 2 ^ 24)).1 ∧
          (s.flag PNT_CTRL_RETRY_EN = true → t.get PNT_ERR_CNT_RETRY = satAdd PNT_ERR_CNT_RETRY.top (s.get PNT_ERR_CNT_RETRY) ra.length % 2 ^ 16) ∧
          SameBut [.kmi, .regs, .out, .pba] s t ∧ RegsBut [KMI_MBX_STATE, PNT_B_STAT_SUSP_READ, PNT_ERR_CNT_RETRY] s t)) ∧
      (s.flag PNT_CTRL_RETRY_EN = true →
        Answers (.pantryRead m ra (some w)) s (fun t => KmiDone t m stHwFault [] (c.a1 % 2 ^ 24) ∧ Counts s t PNT_ERR_CNT_UE 0 ∧
          t.get PNT_LAST_UE_ADDR = w % 2 ^ PNT_LAST_UE_ADDR.width ∧ t.get PNT_LAST_UE_VALID = 1 ∧ t.pantry = s.pantry)))) ∧
  (∀ (s : State) (m : Nat) (c : KmiCmd), KmiReady s 0x0811 m c →
    (c.a0 % 2 ^ 25 % 256 ≠ 0 ∨ c.dataIn.length % 256 ≠ 0 ∨ c.dataIn = [] ∨ 2 ^ 24 < c.a0 % 2 ^ 25 % 2 ^ 24 + c.dataIn.length →
      Answers (.pantryProgram m) s (fun t => KmiDone t m stBadArg [] 0 ∧ t.pnt = s.pnt ∧ t.pantry = s.pantry)) ∧
    (c.a0 % 2 ^ 25 % 256 = 0 → c.dataIn.length % 256 = 0 → c.dataIn ≠ [] → c.a0 % 2 ^ 25 % 2 ^ 24 + c.dataIn.length ≤ 2 ^ 24 →
      (s.pnt.nvwp || !s.marked (c.a0 % 2 ^ 25) c.dataIn.length) = true → s.pnt.banks.length = 2 →
      (s.progRefusal (c.a0 % 2 ^ 25 / 2 ^ 24) (c.a0 % 2 ^ 25 % 2 ^ 24) true = 0 →
        Answers (.pantryProgram m) s (fun t => KmiRuns t m c ∧ (t.pBank (c.a0 % 2 ^ 25 / 2 ^ 24)).data = c.dataIn.take 256 ∧
          (t.pBank (c.a0 % 2 ^ 25 / 2 ^ 24)).prog = c.a0 % 2 ^ 25 % 2 ^ 24 ∧ SameBut [.kmi, .regs, .pnt] s t)) ∧
      (∀ e, e ≠ 0 → s.progRefusal (c.a0 % 2 ^ 25 / 2 ^ 24) (c.a0 % 2 ^ 25 % 2 ^ 24) true = e →
        Answers (.pantryProgram m) s (fun t => KmiDone t m (pntStatus e) [] 0 ∧ t.pnt = s.pnt ∧ t.pantry = s.pantry))) ∧
    (c.a0 % 2 ^ 25 % 256 = 0 → c.dataIn.length % 256 = 0 → c.dataIn ≠ [] → c.a0 % 2 ^ 25 % 2 ^ 24 + c.dataIn.length ≤ 2 ^ 24 →
      s.pnt.nvwp = false → s.marked (c.a0 % 2 ^ 25) c.dataIn.length = true →
      Answers (.pantryProgram m) s (fun t => KmiDone t m stBadState [] 0 ∧ t.pnt = s.pnt ∧ t.pantry = s.pantry))) ∧
  (∀ (s : State) (m : Nat) (c : KmiCmd), KmiReady s 0x0812 m c → s.pnt.banks.length = 2 →
    (s.eraseRefusal (c.a0 % 2 ^ 25 / 2 ^ 24) (c.a0 % 2 ^ 25 % 2 ^ 24) (max 1 (c.a1 % 2 ^ 13)) true = 0 →
      Answers (.pantryErase m) s (fun t => KmiRuns t m c ∧ t.geti PNT_B_STAT_STATE (c.a0 % 2 ^ 25 / 2 ^ 24) = 2 ∧
        (t.pBank (c.a0 % 2 ^ 25 / 2 ^ 24)).er = c.a0 % 2 ^ 25 % 2 ^ 24 / 4096 ∧
        (t.pBank (c.a0 % 2 ^ 25 / 2 ^ 24)).erLeft = max 1 (c.a1 % 2 ^ 13) ∧ SameBut [.kmi, .regs, .pnt] s t)) ∧
    (∀ e, e ≠ 0 → s.eraseRefusal (c.a0 % 2 ^ 25 / 2 ^ 24) (c.a0 % 2 ^ 25 % 2 ^ 24) (max 1 (c.a1 % 2 ^ 13)) true = e →
      Answers (.pantryErase m) s (fun t => KmiDone t m (pntStatus e) [] 0 ∧ t.pnt = s.pnt ∧ t.pantry = s.pantry))) ∧
  (∀ (s : State) (m : Nat) (c : KmiCmd), KmiReady s 0x0813 m c →
    (c.dataIn = [] ∨ 0x400000 < c.dataIn.length →
      Answers (.fwUpdate m) s (fun t => KmiDone t m stBadArg [] 0 ∧ SameBut [.kmi, .regs, .out, .pba] s t)) ∧
    (c.dataIn ≠ [] → c.dataIn.length ≤ 0x400000 →
      (Config.fwOk c.dataIn = true → s.pnt.banks.length = 2 → s.kmi.copy < 2 →
        s.eraseRefusal (1 - s.kmi.copy) 0 (ceilDiv c.dataIn.length 4096) true = 0 →
        Answers (.fwUpdate m) s (fun t => KmiRuns t m c ∧ t.geti PNT_B_STAT_STATE (1 - s.kmi.copy) = 2 ∧
          t.pBank s.kmi.copy = s.pBank s.kmi.copy ∧ SameBut [.kmi, .regs, .pnt] s t)) ∧
      (∀ e, e ≠ 0 → Config.fwOk c.dataIn = true → s.eraseRefusal (1 - s.kmi.copy) 0 (ceilDiv c.dataIn.length 4096) true = e →
        Answers (.fwUpdate m) s (fun t => KmiDone t m (pntStatus e) [] 0 ∧ t.pnt = s.pnt)) ∧
      (Config.fwOk c.dataIn = false → Answers (.fwUpdate m) s (fun t => KmiDone t m stAuthFail [] 0 ∧ SameBut [.kmi, .regs, .out, .pba] s t)))) ∧
  (∀ (s : State) (m : Nat) (c : KmiCmd), KmiReady s 0x0818 m c →
    Answers (.otpRead m) s (fun t => KmiDone t m stOk [] (otpShown (bits c.a0 5 0) (s.otpRow (bits c.a0 5 0))).length ∧
      KmiData t m c (otpShown (bits c.a0 5 0) (s.otpRow (bits c.a0 5 0))) ∧ SameBut [.kmi, .regs, .out, .pba] s t ∧ RegsBut [KMI_MBX_STATE] s t)) ∧
  (∀ (s : State) (m : Nat) (c : KmiCmd), KmiReady s 0x0819 m c →
    (c.dataIn.length = 128 → s.flag OTP_STAT_BUSY = false → s.otpRefusal (bits c.a0 5 0) c.dataIn true = 0 →
      Answers (.otpProgram m) s (fun t => KmiRuns t m c ∧ t.pnt.otp = some (bits c.a0 5 0, c.dataIn, m + 1) ∧ t.flag OTP_STAT_BUSY = true ∧
        SameBut [.kmi, .regs, .pnt] s t)) ∧
    (c.dataIn.length = 128 → s.flag OTP_STAT_BUSY = false → s.otpRefusal (bits c.a0 5 0) c.dataIn true ≠ 0 →
      Answers (.otpProgram m) s (fun t => KmiDone t m stBadArg [] 0 ∧ t.otp = s.otp ∧ t.pnt = s.pnt)) ∧
    (c.dataIn.length = 128 → s.flag OTP_STAT_BUSY = true →
      Answers (.otpProgram m) s (fun t => KmiDone t m stBusy [] 0 ∧ t.otp = s.otp ∧ t.pnt = s.pnt)) ∧
    (c.dataIn.length ≠ 128 → Answers (.otpProgram m) s (fun t => KmiDone t m stBadArg [] 0 ∧ t.otp = s.otp ∧ t.pnt = s.pnt)))

/-- Room writes to DRAM (R147, R289, R290, R292): a transfer through a disabled or not write-enabled stream is discarded and
acknowledged with status 2, a misaligned one, one past its window or past the installed capacity with status 1; an accepted one
waits for its lines; the transfer itself stores nothing; at a port that does not move words, only time moves. `hs` and `ws` are the
words as the port's used Doors carry them. -/
def Obligations.DramWriteTransfers : Prop :=
  ∀ (s : State) (r p i h t hs : Nat) (w ws : List (Nat × Nat)), r < 24 → p < 8 → i < 256 →
    hs = (s.seenWord r p (h, 0)).1 → ws = w.map (s.seenWord r p) →
    (s.portMoves r p = false ∨ s.seenStream r p i ≠ i → exec (.dramWriteTransfer r p i h w t) s = .next (s.setNow t)) ∧
    (s.portMoves r p = true → s.seenStream r p i = i →
      (∀ st, ((s.stream r i = none ∧ st = 2) ∨ (∃ base size, s.stream r i = some (base, size) ∧
          ((s.get2 DMC_STR_HI_WR r i = 0 ∧ st = 2) ∨ (s.get2 DMC_STR_HI_WR r i ≠ 0 ∧ st = 1 ∧ (bits hs 36 0 % 16 ≠ 0 ∨
            size < bits hs 36 0 + 16 * w.length ∨ 256 < w.length ∨ s.dpaOk (base + bits hs 36 0) (16 * w.length) = false))))) →
        Answers (.dramWriteTransfer r p i h w t) s (fun u =>
          (bitB hs 48 = true → u.dmc.acks = s.dmc.acks ++ [⟨s.dmc.nextId, r, p, i, bits hs 47 40, true, st, 0, []⟩]) ∧
          (bitB hs 48 = false → u.dmc.acks = s.dmc.acks) ∧ u.dmc.subs = s.dmc.subs ∧ u.dmc.wait = s.dmc.wait ∧
          u.fab.portQ = s.fab.portQ ∧ SameBut [.regs, .pwr, .dmc, .fab] s u)) ∧
      (∀ base size, s.stream r i = some (base, size) → s.get2 DMC_STR_HI_WR r i ≠ 0 → bits hs 36 0 % 16 = 0 →
        bits hs 36 0 + 16 * w.length ≤ size → w.length ≤ 256 → s.dpaOk (base + bits hs 36 0) (16 * w.length) = true →
        Answers (.dramWriteTransfer r p i h w t) s (fun u => u.dmc.nextId = s.dmc.nextId + 1 ∧
          (bitB hs 48 = true → ∃ a ∈ u.dmc.acks, a.id = s.dmc.nextId ∧ a.room = r ∧ a.port = p ∧ a.stream = i ∧ a.atag = bits hs 47 40 ∧
            a.status = 0 ∧ a.left = a.lines.length ∧
            a.lines = ((roomWriteLines (base + bits hs 36 0) ws).filter (fun l => l.2.1 != 0)).map (fun l => l.1)) ∧
          SameBut [.regs, .pwr, .dmc, .out, .fab] s u)))

/-- Room reads and write acknowledgements (R147, R291, R292): a refused read returns one zero word with I_ERR and I_LAST and asks
the DRAM nothing; a port with 64 reads outstanding holds the request; an accepted read takes the next identifier; the oldest
acknowledgement whose lines are done is sent with its ATAG and status. A word for the Room is delivered where the Room accepts it,
and else held by the port. None of them stores to DRAM. -/
def Obligations.DramReadsAndAcks : Prop :=
  (∀ (s : State) (r p i w t ws : Nat), r < 24 → p < 8 → i < 256 → s.portMoves r p = true → s.seenStream r p i = i →
    ws = (s.seenWord r p (w, 0)).1 → s.readsOut r p < 64 →
    ((s.stream r i = none ∨ (∃ base size, s.stream r i = some (base, size) ∧ (s.get2 DMC_STR_HI_RD r i = 0 ∨ bits ws 36 0 % 16 ≠ 0 ∨
        size < bits ws 36 0 + 16 * (bits ws 47 40 + 1) ∨ s.dpaOk (base + bits ws 36 0) (16 * (bits ws 47 40 + 1)) = false))) →
      Answers (.dramReadRequest r p i w t) s (fun u => u.dmc = s.dmc ∧
        (s.iReady r p = true → Assoc.get [] (portKey' r p) s.fab.portQ = [] →
          u.out = s.out ++ [.roomWord r p 1 i true true (List.replicate 16 0)]) ∧
        (s.iReady r p = false → u.out = s.out ∧ Assoc.get [] (portKey' r p) u.fab.portQ =
          Assoc.get [] (portKey' r p) s.fab.portQ ++ [⟨1, i, true, true, List.replicate 16 0⟩]) ∧
        SameBut [.regs, .pwr, .out, .fab] s u)) ∧
    (∀ base size, s.stream r i = some (base, size) → s.get2 DMC_STR_HI_RD r i ≠ 0 → bits ws 36 0 % 16 = 0 →
      bits ws 36 0 + 16 * (bits ws 47 40 + 1) ≤ size → s.dpaOk (base + bits ws 36 0) (16 * (bits ws 47 40 + 1)) = true →
      Answers (.dramReadRequest r p i w t) s (fun u => u.dmc.nextId = s.dmc.nextId + 1 ∧
        SameBut [.regs, .pwr, .dmc, .out, .fab, .freeCount] s u))) ∧
  (∀ (s : State) (r p i w t : Nat), r < 24 → p < 8 → i < 256 → s.portMoves r p = true → s.seenStream r p i = i → 64 ≤ s.readsOut r p →
    Answers (.dramReadRequest r p i w t) s (fun u => u.dmc = { s.dmc with readHold := u.dmc.readHold } ∧
      Assoc.find? (8 * r + p) u.dmc.readHold = some (i, (s.seenWord r p (w, 0)).1) ∧ u.portStalled r p = true ∧
      SameBut [.regs, .pwr, .dmc, .fab] s u)) ∧
  (∀ (s : State) (r p i w t : Nat), r < 24 → p < 8 → i < 256 → (s.portMoves r p = false ∨ s.seenStream r p i ≠ i) →
    exec (.dramReadRequest r p i w t) s = .next (s.setNow t)) ∧
  (∀ (s : State) (r p : Nat) (a : AckSt), r < 24 → p < 8 →
    s.dmc.acks.find? (fun x => x.room == r && x.port == p && x.want && x.left == 0) = some a →
    Answers (.dramAck r p) s (fun u => a ∉ u.dmc.acks ∧
      (s.iReady r p = true → Assoc.get [] (portKey' r p) s.fab.portQ = [] → u.out = s.out ++ [.roomWord r p 2 a.stream true false
        (leBytes 16 (a.atag + 2 ^ 8 * a.status + 2 ^ 127))]) ∧
      (s.iReady r p = false → u.out = s.out ∧ Assoc.get [] (portKey' r p) u.fab.portQ =
        Assoc.get [] (portKey' r p) s.fab.portQ ++ [⟨2, a.stream, true, false, leBytes 16 (a.atag + 2 ^ 8 * a.status + 2 ^ 127)⟩]) ∧
      SameBut [.dmc, .out, .fab] s u)) ∧
  (∀ (s : State) (r p : Nat), r < 24 → p < 8 →
    s.dmc.acks.find? (fun x => x.room == r && x.port == p && x.want && x.left == 0) = none → exec (.dramAck r p) s = .next s)

/-- DRAM contents (R285, R293, R295): a scheduling step changes no byte outside the device lines of the subchannel's queued
requests; a single queued write whose row is open is written over the bytes of its mask; while a refresh, self-refresh or a training
holds the channel only time moves. Page time-out and rank power-down (R296, R304): an open row with no access for PAGE_TMO cycles
closes, and no other bank changes; an idle rank with nothing queued is precharged and enters power-down; otherwise only time moves.
Refresh (R298, R299, R300, R301): each interval that has passed adds one to the debt and each completed refresh takes one off,
within −4 to +4; before its time nothing happens; under FIXED a refresh starts at once when one is owed, under TICK at +4, or when
it is admitted; the doubled rate is entered with its record; ZQ calibration latches with the next refresh. No refresh command writes
DRAM contents. -/
def Obligations.DramSchedulingAndRefresh : Prop :=
  ((∀ (s : State) (sc t ce : Nat) (col ue : Bool), sc < 4 → Answers (.dmcCommandSelect sc t col ce ue) s (fun u =>
    (∀ x, (∀ q ∈ (s.sub sc).rq ++ (s.sub sc).wq, x < 64 * s.devLine q.line ∨ 64 * s.devLine q.line + 64 ≤ x) →
      Assoc.get 0 x u.dram = Assoc.get 0 x s.dram) ∧
    SameBut [.regs, .dmc, .dram, .dramBad, .out, .freeCount, .ldg, .kmi, .pba, .fab] s u)) ∧
  (∀ (s : State) (sc t ce : Nat) (ue : Bool) (q : DReq), sc < 4 → s.dmc.refActive = false → s.flag DMC_STAT_SR = false → s.dmc.training = 0 →
    s.dmc.ready = true → (s.sub sc).rq = [] → (s.sub sc).wq = [q] → (s.sub sc).nr = [] → q.write = true →
    ((s.sub sc).bank (s.bankOf (s.devLine q.line))).row = some (s.rowOf (s.devLine q.line)) → bitB (s.get DMC_STAT_FAULT) sc = false →
    Answers (.dmcCommandSelect sc t true ce ue) s (fun u =>
      u.devData (s.devLine q.line) = mergeBytes q.mask (s.devData (s.devLine q.line)) q.data)) ∧
  (∀ (s : State) (sc t ce : Nat) (col ue : Bool), sc < 4 →
    (s.dmc.refActive = true ∨ s.flag DMC_STAT_SR = true ∨ s.dmc.training ≠ 0 ∨ s.dmc.ready = false) →
    exec (.dmcCommandSelect sc t col ce ue) s = .next (s.setNow t))) ∧
  ((∀ (s : State) (sc b t row : Nat), sc < 4 → b < 64 → s.dmc.subs.length = 4 → ((s.sub sc).bank b).row = some row →
    timeGe t (((s.sub sc).bank b).lastUse + 320 * s.get DMC_SCHED_PAGE_TMO) = true →
    Answers (.pageTimeout sc b t) s (fun u => ((u.sub sc).bank b).row = none ∧
      (∀ b', b' ≠ b → (u.sub sc).bank b' = (s.sub sc).bank b') ∧ (u.sub sc).rq = (s.sub sc).rq ∧ (u.sub sc).wq = (s.sub sc).wq ∧
      SameBut [.regs, .dmc, .out] s u)) ∧
  (∀ (s : State) (sc b t : Nat), sc < 4 → b < 64 →
    (((s.sub sc).bank b).row = none ∨ timeGe t (((s.sub sc).bank b).lastUse + 320 * s.get DMC_SCHED_PAGE_TMO) = false) →
    exec (.pageTimeout sc b t) s = .next (s.setNow t)) ∧
  (∀ (s : State) (sc k t : Nat), sc < 4 → k < 2 → s.dmc.subs.length = 4 → s.flag DMC_PD_EN = true → s.dmc.ready = true →
    ((s.sub sc).rq ++ (s.sub sc).wq).any (fun q => s.rankOf (s.devLine q.line) == k) = false → bitB (s.sub sc).pd k = false →
    timeGe t ((s.sub sc).rankUse.getD k 0 + 320 * s.get DMC_PD_IDLE) = true →
    Answers (.rankPowerDown sc k t) s (fun u => bitB (u.sub sc).pd k = true ∧
      (∀ e ∈ (u.sub sc).banks, e.1 / 32 = k → e.2.row = none) ∧ SameBut [.regs, .dmc, .out] s u)) ∧
  (∀ (s : State) (sc k t : Nat), sc < 4 → k < 2 → (s.flag DMC_PD_EN = false ∨ s.dmc.ready = false ∨
      ((s.sub sc).rq ++ (s.sub sc).wq).any (fun q => s.rankOf (s.devLine q.line) == k) = true ∨ bitB (s.sub sc).pd k = true ∨
      timeGe t ((s.sub sc).rankUse.getD k 0 + 320 * s.get DMC_PD_IDLE) = false) →
    exec (.rankPowerDown sc k t) s = .next (s.setNow t))) ∧
  ((∀ (s : State) (t : Nat), s.dmc.ready = true → s.flag DMC_STAT_SR = false → s.dmc.training = 0 →
    (timeGe t (s.dmc.refAt + s.refInterval) = true →
      Answers (.refreshInterval t) s (fun u => u.debt = max (-4) (min 4 (s.debt + 1)) ∧
        (s.refTick = false → s.dmc.refActive = false → 1 ≤ max (-4) (min 4 (s.debt + 1)) → u.dmc.refActive = true) ∧
        (s.refTick = true → s.dmc.refActive = false → 3 ≤ s.debt → u.dmc.refActive = true) ∧
        (s.refTick = true → s.dmc.refActive = false → s.debt < 3 → u.dmc.refActive = false ∧
          u.get DMC_REF_STAT_PENDING = b2n (decide (-4 < max (-4) (s.debt + 1)))) ∧
        SameBut [.regs, .dmc, .out] s u)) ∧
    (timeGe t (s.dmc.refAt + s.refInterval) = false → exec (.refreshInterval t) s = .next (s.setNow t))) ∧
  (∀ (s : State) (t : Nat), s.dmc.ready = true → s.flag DMC_STAT_SR = false → s.dmc.training = 0 → s.dmc.refActive = false →
    ((s.refTick = false ∧ 1 ≤ s.debt) ∨ (s.refTick = true ∧ s.debt = 4) ∨
      (s.refTick = true ∧ -4 < s.debt ∧ (s.setNow t).refAdmit = true)) →
    Answers (.refreshStart t) s (fun u => u.dmc.refActive = true ∧ u.dmc.zqDue = false ∧ u.debt = s.debt ∧
      (∀ k ∈ u.dmc.subs, k.pd = 0 ∧ ∀ e ∈ k.banks, e.2.row = none) ∧ SameBut [.regs, .dmc, .out] s u)) ∧
  (∀ (s : State) (t : Nat), s.dmc.refActive = true →
    Answers (.refreshEnd t) s (fun u => u.debt = max (-4) (min 4 (s.debt - 1)) ∧
      (s.refTick = false → s.debt ≤ 1 → u.dmc.refActive = false) ∧ (s.refTick = false → 1 < s.debt → u.dmc.refActive = true) ∧
      SameBut [.regs, .dmc, .out] s u)) ∧
  (∀ (s : State) (d : Bool), s.dmc.ready = true → Answers (.mr4Poll d) s (fun u => u.get DMC_STAT_REF2X = b2n d ∧
    SameBut [.regs, .ldg, .kmi, .out, .pba] s u ∧ ((d = false ∨ s.flag DMC_STAT_REF2X = true) → u.ldg = s.ldg) ∧
    (d = true → s.flag DMC_STAT_REF2X = false → u = (s.set DMC_STAT_REF2X 1).ledger 0x0602 0))) ∧
  (∀ s : State, s.dmc.ready = true → Answers .zqCalibration s (fun u => u.dmc.zqDue = true ∧ u.out = s.out ++ [.dram 0 9 0 0] ∧
    SameBut [.dmc, .out] s u)))

/-- The address mapping with allowed masks loses no line: two DPA lines never share a device line (R285, R286). -/
def Obligations.DramMappingInjective : Prop :=
  ∀ (s : State) (a b : Nat), s.masksOk s.mapMask = true → s.devLine a = s.devLine b → a = b

/-- Training and enabling (R286, R305, R308, R309, R314): GO is ignored while EN is 1 or a training runs, and otherwise starts a
training that loses the contents; EN is taken only with allowed masks; the background initialisation moves its mark up to the top; a
write that fails its replays enters the bad-line table, and a full table puts the subchannel into FAULT. -/
def Obligations.DramTrainingAndErrors : Prop :=
  (∀ (s : State) (mode : Nat), (s.flag DMC_CFG_EN = true ∨ s.flag DMC_TRAIN_STAT_BUSY = true) →
    Answers (.dramTrainGo mode) s (fun u => SameBut [.regs] s u ∧ RegsBut [DMC_TRAIN_CTRL_MODE] s u)) ∧
  (∀ (s : State) (mode : Nat), s.flag DMC_CFG_EN = false → s.flag DMC_TRAIN_STAT_BUSY = false →
    Answers (.dramTrainGo mode) s (fun u => u.flag DMC_TRAIN_STAT_BUSY = true ∧ u.get DMC_STAT_TRAINED = 0 ∧ u.dram = [] ∧ u.dramBad = [] ∧
      u.dmc.training = (if mode % 2 = 1 then 2 else 1) ∧ u.get DMC_STAT_FAULT = 0 ∧ u.get DMC_INIT_MARK = 0 ∧ u.dmc.ready = false ∧
      SameBut [.regs, .dmc, .dram, .dramBad] s u)) ∧
  (∀ s : State, s.flag DMC_CFG_EN = false →
    (s.masksOk s.mapMask = true → Answers .dmcEnable s (fun u => u.flag DMC_CFG_EN = true ∧
      (s.flag DMC_TRAIN_STAT_PASS = true → s.dmc.training = 0 → u.flag DMC_STAT_TRAINED = true ∧ u.flag HLK_STAT_MEM_ACTIVE = true) ∧
      SameBut [.regs, .dmc, .out, .fab, .kmi, .freeCount, .ldg, .pba] s u)) ∧
    (s.masksOk s.mapMask = false → Answers .dmcEnable s (fun u => u.flag DMC_CFG_EN = false ∧ u.flag DMC_STAT_MAP_ERR = true ∧
      SameBut [.regs] s u ∧ RegsBut [DMC_CFG_EN, DMC_STAT_MAP_ERR] s u))) ∧
  (∀ (s : State) (n : Nat), s.flag DMC_CFG_INIT = true → s.dmc.ready = true → s.flag DMC_STAT_INIT_DONE = false → s.flag DMC_CFG_EN = true →
    Answers (.dramInitPass n) s (fun u =>
      u.get DMC_INIT_MARK = min (s.dmcCap / 64) (s.get DMC_INIT_MARK + n) % 2 ^ DMC_INIT_MARK.width ∧
      (s.dmcCap / 64 ≤ s.get DMC_INIT_MARK + n → u.flag DMC_STAT_INIT_DONE = true) ∧
      (s.get DMC_INIT_MARK + n < s.dmcCap / 64 → u.flag DMC_STAT_INIT_DONE = false) ∧ u.dram = s.dram ∧ SameBut [.regs, .dmc, .out] s u)) ∧
  (∀ (s : State) (sc l : Nat), sc < 4 → s.dmc.subs.length = 4 → s.flag DMC_CFG_WCRC = true → (s.sub sc).bad.contains l = false →
    ((s.sub sc).bad.length < 16 → Answers (.writeCrcAlert sc [l] false) s (fun u => (u.sub sc).bad = (s.sub sc).bad ++ [l] ∧
      Counts s u DMC_BADLINE_CMD_ERR 0 ∧ u.dram = s.dram)) ∧
    (16 ≤ (s.sub sc).bad.length → Answers (.writeCrcAlert sc [l] false) s (fun u => bitB (u.get DMC_STAT_FAULT) sc = true ∧
      (u.sub sc).bad = (s.sub sc).bad ∧ u.dram = s.dram))) ∧
  (∀ (s : State) (sc : Nat) (l : List Nat), sc < 4 → exec (.writeCrcAlert sc l true) s = .next s)

/-- The DRAM commands of the KMI (R287, R308, R312, R412): allowed masks go to the memory settings record; reads and writes need a
trained memory and a range below the installed capacity; a read returns the bytes as their readers see them, and ends HW_FAULT
before an uncorrectable line; while the controller takes no requests it waits; DRAM_TRAIN runs until the training ends, and is
refused while EN is 1 or a training runs. -/
def Obligations.MemoryCommands : Prop :=
  (∀ (s : State) (m : Nat) (c : KmiCmd), KmiReady s 0x0603 m c →
    (c.dataIn.length = 64 → s.masksOk (fun b => leField c.dataIn (8 * b) 8) = true →
      Answers (.memSettings m) s (fun t => KmiDone t m stOk [] 0 ∧ t.pantry = (s.settingsWrite 2 c.dataIn).pantry ∧
        SameBut [.kmi, .regs, .out, .pantry, .pnt, .pba] s t ∧ RegsBut [KMI_MBX_STATE] s t)) ∧
    (c.dataIn.length ≠ 64 ∨ s.masksOk (fun b => leField c.dataIn (8 * b) 8) = false →
      Answers (.memSettings m) s (fun t => KmiDone t m stBadArg [] 0 ∧ t.pantry = s.pantry))) ∧
  (∀ (s : State) (m : Nat) (c : KmiCmd), KmiReady s 0x0604 m c →
    (s.flag DMC_STAT_TRAINED = false → Answers (.dramRead m) s (fun t => KmiDone t m stBadState [] 0)) ∧
    (s.flag DMC_STAT_TRAINED = true → s.dpaOk (bits c.a0 36 0) (bits c.a1 23 0) = false →
      Answers (.dramRead m) s (fun t => KmiDone t m stBadArg [] 0)) ∧
    (s.flag DMC_STAT_TRAINED = true → s.dpaOk (bits c.a0 36 0) (bits c.a1 23 0) = true → s.dmcTakes = false →
      Answers (.dramRead m) s (fun t => KmiRuns t m c ∧ SameBut [.kmi, .regs] s t ∧ RegsBut [KMI_MBX_STATE] s t)) ∧
    (s.dmcTakes = true → s.dpaOk (bits c.a0 36 0) (bits c.a1 23 0) = true →
      ((rangeLines (bits c.a0 36 0) (bits c.a1 23 0)).find? (fun l => (s.lineView l.1).2)) = none → s.flag HLK_STAT_HDM_COMMITTED = false →
      Answers (.dramRead m) s (fun t => KmiDone t m stOk [] (bits c.a1 23 0) ∧
        KmiData t m c ((List.range (bits c.a1 23 0)).map (fun i =>
          bits (s.lineView ((bits c.a0 36 0 + i) / 64)).1 (8 * ((bits c.a0 36 0 + i) % 64) + 7) (8 * ((bits c.a0 36 0 + i) % 64)))) ∧
        SameBut [.kmi, .regs, .out, .pba] s t ∧ RegsBut [KMI_MBX_STATE] s t)) ∧
    (s.dmcTakes = true → s.dpaOk (bits c.a0 36 0) (bits c.a1 23 0) = true →
      exec (.dramRead m) s = .next (((s.kmiUnpost m).kmiDramRead c).2.2.2.kmiFinish m c ((s.kmiUnpost m).kmiDramRead c).1 0
        ((s.kmiUnpost m).kmiDramRead c).2.1 [] ((s.kmiUnpost m).kmiDramRead c).2.2.1)) ∧
    (∀ x, (s.dramRead 211 (bits c.a0 36 0) (bits c.a1 23 0)).2.1 = some x → (s.kmiDramRead c).1 = stHwFault ∧
      (s.kmiDramRead c).2.2.1 = (s.dramRead 211 (bits c.a0 36 0) (bits c.a1 23 0)).1.take (64 * x - bits c.a0 36 0))) ∧
  (∀ (s : State) (m : Nat) (c : KmiCmd), KmiReady s 0x0605 m c →
    (s.flag DMC_STAT_TRAINED = false → Answers (.dramWrite m) s (fun t => KmiDone t m stBadState [] 0 ∧ t.dmc = s.dmc)) ∧
    (s.flag DMC_STAT_TRAINED = true → s.dpaOk (bits c.a0 36 0) c.dataIn.length = false →
      Answers (.dramWrite m) s (fun t => KmiDone t m stBadArg [] 0 ∧ t.dmc = s.dmc)) ∧
    (s.flag DMC_STAT_TRAINED = true → s.dpaOk (bits c.a0 36 0) c.dataIn.length = true →
      Answers (.dramWrite m) s (fun t => KmiDone t m stOk [] 0 ∧ t.dram = s.dram ∧ SameBut [.kmi, .regs, .out, .dmc, .fab, .pba] s t ∧
        RegsBut [KMI_MBX_STATE] s t))) ∧
  (∀ (s : State) (m : Nat) (c : KmiCmd), KmiReady s 0x0606 m c →
    (s.flag DMC_CFG_EN = false → s.flag DMC_TRAIN_STAT_BUSY = false →
      Answers (.dramTrain m) s (fun t => KmiRuns t m c ∧ t.dmc.training = (if bitB c.a0 0 then 2 else 1) ∧ t.dram = [] ∧
        t.flag DMC_TRAIN_STAT_BUSY = true)) ∧
    (s.flag DMC_CFG_EN = true ∨ s.flag DMC_TRAIN_STAT_BUSY = true →
      Answers (.dramTrain m) s (fun t => KmiDone t m stBadState [] 0 ∧ t.dram = s.dram)))

/-- A settings record written by firmware is the one read back, whichever copy was older (R422, R423), unless a mark protects a copy
while NVWP_N is low. -/
def Obligations.SettingsRecords : Prop :=
  ∀ (s : State) (kind : Nat) (body : List Nat), 1 ≤ kind → kind ≤ 4 → body.length + 256 ≤ (settingsSpan kind).2 → (∀ b ∈ body, b < 256) →
    s.pnt.nvwp = true → (s.settingsWrite kind body).settingsRead kind = some body

/-- Ring commands (R250, R253 to R255): START of a DISABLED ring that meets R250 enables it at index 0, and is otherwise refused
with CFG_ERR; a STOPPED ring continues; STOP ends the open transfer FLUSHED with the length moved and leaves its completion and
every held one to be posted; ABORT advances GEN, zeroes the indices and is refused while the new GEN is in flight; DISABLE releases
a STOPPED or ERROR ring. In every other state a command does nothing. RING_CMD (R411): the command named by A0[18:16] acts on ring
A0[14:0]; the first result word is STATE and GEN after it; a command that its ring state ignores, and another code, complete OK with
no effect; ABORT runs until the ring's writes have left, is BUSY while the new GEN is in flight, and START of a ring outside R250 is
BAD_ARG. -/
def Obligations.RingCommands : Prop :=
  ((∀ (s : State) (r : Nat), r < 32768 →
    (s.ringState r = 0 → s.startOk r = true → Answers (.ringStart r) s (fun t => t.ringState r = 1 ∧ t.geti DRG_CTX_SQ_PI r = 0 ∧
      t.geti DRG_CTX_SQ_CI r = 0 ∧ t.geti DRG_CTX_CQ_PI r = 0 ∧ t.geti DRG_CTX_CQ_CI r = 0 ∧ (t.ring r).cur = none ∧ (t.ring r).descs = [] ∧
      (∀ q, q ≠ r → t.ring q = s.ring q) ∧ SameBut [.regs, .rings] s t ∧
      RegsBut [DRG_CTX_CTRL_STATE, DRG_CTX_SQ_PI, DRG_CTX_SQ_CI, DRG_CTX_CQ_PI, DRG_CTX_CQ_CI] s t)) ∧
    (s.ringState r = 0 → s.startOk r = false → Answers (.ringStart r) s (fun t => t.ringState r = 0 ∧ t.flag DRG_STAT_CFG_ERR = true ∧
      SameBut [.regs] s t ∧ RegsBut [DRG_STAT_CFG_ERR] s t)) ∧
    (s.ringState r = 2 → Answers (.ringStart r) s (fun t => t.ringState r = 1 ∧ SameBut [.regs] s t ∧ RegsBut [DRG_CTX_CTRL_STATE] s t)) ∧
    (s.ringState r = 1 ∨ s.ringState r = 3 → exec (.ringStart r) s = .next s)) ∧
  (∀ (s : State) (r : Nat), r < 32768 →
    (s.ringState r = 1 → Answers (.ringStop r) s (fun t => t.ringState r = 2 ∧ (t.ring r).cur = none ∧ (t.ring r).held = [] ∧
      (t.ring r).stby = [] ∧ (t.ring r).descs = (s.ring r).descs ∧ SameBut [.regs, .rings, .hlk, .pba, .out, .ldg, .kmi, .fab] s t)) ∧
    (s.ringState r ≠ 1 → exec (.ringStop r) s = .next s)) ∧
  (∀ (s : State) (r : Nat) (x : Xfer), r < 32768 → s.ringState r = 1 → (s.ring r).cur = some x →
    s.flagi DRG_CTX_CTRL_FENCE_EN r = true → s.cqFull r = true →
    ((s.ring r).due ++ (s.ring r).stby ++ (s.ring r).held).all (fun c => c.gen == s.geti DRG_CTX_CTRL_GEN r) = true →
    x.gen = s.geti DRG_CTX_CTRL_GEN r →
    Answers (.ringStop r) s (fun t => ∃ c : RingCompl, (t.ring r).due = (s.ring r).due ++ (s.ring r).stby ++ (s.ring r).held ++ [c] ∧
      c.tag = x.tag ∧ c.len = x.moved ∧ c.status = 5)) ∧
  (∀ (s : State) (r : Nat), r < 32768 →
    (s.ringState r ≠ 0 → (s.ring r).inflight.contains ((s.geti DRG_CTX_CTRL_GEN r + 1) % 16) = false →
      Answers (.ringAbort r) s (fun t => t.ringState r = 2 ∧ t.geti DRG_CTX_CTRL_GEN r = (s.geti DRG_CTX_CTRL_GEN r + 1) % 16 ∧
        t.geti DRG_CTX_SQ_PI r = 0 ∧ t.geti DRG_CTX_SQ_CI r = 0 ∧ t.geti DRG_CTX_CQ_PI r = 0 ∧ t.geti DRG_CTX_CQ_CI r = 0 ∧
        (t.ring r).cur = none ∧ (t.ring r).held = [] ∧ (t.ring r).stby = [] ∧ (t.ring r).due = [] ∧ (t.ring r).descs = [] ∧
        (t.ring r).inflight = (s.ring r).inflight ++ [s.geti DRG_CTX_CTRL_GEN r] ∧ SameBut [.regs, .rings, .hlk, .pba, .out, .ldg, .kmi] s t)) ∧
    (s.ringState r = 0 ∨ (s.ring r).inflight.contains ((s.geti DRG_CTX_CTRL_GEN r + 1) % 16) = true → exec (.ringAbort r) s = .next s)) ∧
  (∀ (s : State) (r : Nat), r < 32768 → Answers (.ringAbortDone r) s (fun t => (t.ring r).inflight = [] ∧ (t.ring r).descs = (s.ring r).descs ∧
    SameBut [.regs, .rings, .out, .ldg, .kmi, .pba] s t)) ∧
  (∀ (s : State) (r : Nat), r < 32768 →
    (s.ringState r = 2 ∨ s.ringState r = 3 → Answers (.ringDisable r) s (fun t => t.ringState r = 0 ∧ (t.ring r).cur = none ∧
      (t.ring r).held = [] ∧ SameBut [.regs, .rings] s t ∧ RegsBut [DRG_CTX_CTRL_STATE] s t)) ∧
    (s.ringState r = 0 ∨ s.ringState r = 1 → exec (.ringDisable r) s = .next s))) ∧
  (∀ (s : State) (m : Nat) (c : KmiCmd), KmiReady s 0x0506 m c →
    (bits c.a0 18 16 = 1 → s.ringState (bits c.a0 14 0) = 2 →
      Answers (.ringCmd m) s (fun t => KmiDone t m stOk [1 + 4 * s.geti DRG_CTX_CTRL_GEN (bits c.a0 14 0)] 0 ∧ t.ringState (bits c.a0 14 0) = 1)) ∧
    (bits c.a0 18 16 = 1 → s.ringState (bits c.a0 14 0) = 0 → s.startOk (bits c.a0 14 0) = true →
      Answers (.ringCmd m) s (fun t => KmiDone t m stOk [1 + 4 * s.geti DRG_CTX_CTRL_GEN (bits c.a0 14 0)] 0 ∧ t.ringState (bits c.a0 14 0) = 1 ∧
        t.geti DRG_CTX_SQ_PI (bits c.a0 14 0) = 0 ∧ t.geti DRG_CTX_CQ_PI (bits c.a0 14 0) = 0)) ∧
    (bits c.a0 18 16 = 1 → s.ringState (bits c.a0 14 0) = 0 → s.startOk (bits c.a0 14 0) = false →
      Answers (.ringCmd m) s (fun t => KmiDone t m stBadArg [4 * s.geti DRG_CTX_CTRL_GEN (bits c.a0 14 0)] 0)) ∧
    ((bits c.a0 18 16 = 1 ∧ s.ringState (bits c.a0 14 0) % 2 = 1) ∨ (bits c.a0 18 16 = 2 ∧ s.ringState (bits c.a0 14 0) ≠ 1) ∨
      (bits c.a0 18 16 = 3 ∧ s.ringState (bits c.a0 14 0) = 0) ∨ (bits c.a0 18 16 = 4 ∧ s.ringState (bits c.a0 14 0) < 2) ∨
      bits c.a0 18 16 = 0 ∨ 4 < bits c.a0 18 16 →
      Answers (.ringCmd m) s (fun t => KmiDone t m stOk [s.ringState (bits c.a0 14 0) + 4 * s.geti DRG_CTX_CTRL_GEN (bits c.a0 14 0)] 0 ∧
        t.rings = s.rings ∧ RegsBut [KMI_MBX_STATE] s t)) ∧
    (bits c.a0 18 16 = 2 → s.ringState (bits c.a0 14 0) = 1 →
      Answers (.ringCmd m) s (fun t => KmiDone t m stOk [2 + 4 * s.geti DRG_CTX_CTRL_GEN (bits c.a0 14 0)] 0 ∧ t.ringState (bits c.a0 14 0) = 2 ∧
        (t.ring (bits c.a0 14 0)).cur = none ∧ (t.ring (bits c.a0 14 0)).held = [])) ∧
    (bits c.a0 18 16 = 3 → s.ringState (bits c.a0 14 0) ≠ 0 →
      ((s.ring (bits c.a0 14 0)).inflight.contains ((s.geti DRG_CTX_CTRL_GEN (bits c.a0 14 0) + 1) % 16) = false →
        Answers (.ringCmd m) s (fun t => KmiRuns t m c ∧ t.ringState (bits c.a0 14 0) = 2 ∧
          t.geti DRG_CTX_CTRL_GEN (bits c.a0 14 0) = (s.geti DRG_CTX_CTRL_GEN (bits c.a0 14 0) + 1) % 16)) ∧
      ((s.ring (bits c.a0 14 0)).inflight.contains ((s.geti DRG_CTX_CTRL_GEN (bits c.a0 14 0) + 1) % 16) = true →
        Answers (.ringCmd m) s (fun t => KmiDone t m stBusy
          [s.ringState (bits c.a0 14 0) + 4 * s.geti DRG_CTX_CTRL_GEN (bits c.a0 14 0)] 0))) ∧
    (bits c.a0 18 16 = 4 → 2 ≤ s.ringState (bits c.a0 14 0) →
      Answers (.ringCmd m) s (fun t => KmiDone t m stOk [4 * s.geti DRG_CTX_CTRL_GEN (bits c.a0 14 0)] 0 ∧ t.ringState (bits c.a0 14 0) = 0)))

/-- Doorbells and descriptors (R256, R257, R267): in RUN a producer index in range is taken; one past the queue puts the ring into
ERROR with INDEX; a CQ doorbell moves the consumer index and arms; a doorbell of a ring that is not running sets DB_ERR; one of no
ring is discarded; a read returns the doorbell's fields; an index past the BAR is an Unsupported Request. A fetched descriptor is
taken in order, and words its port holds follow; one with bad fields or a stale generation completes with status 6 or 7; a failed
fetch puts the ring into ERROR. -/
def Obligations.RingQueues : Prop :=
  (∀ (s : State) (fn idx v t r : Nat), fn < 64 → s.hostServed = true → s.get PWR_STATE_CUR = 0 → s.pwr.vote = none → s.pwr.entering = none →
    idx < doorbellCount fn → s.doorbellRing fn idx = some r →
    ((s.ringState r = 1 ∨ s.ringState r = 2) → v % 2 ^ 16 < 2 ^ s.geti DRG_CTX_SIZE_SQ_LOG2 r →
      Answers (.doorbell fn idx (some v) none t) s (fun u => u.geti DRG_CTX_SQ_PI r = v % 2 ^ 16 ∧ u.ringState r = s.ringState r ∧
        SameBut [.regs, .rings, .pwr, .out, .pba] s u)) ∧
    ((s.ringState r = 1 ∨ s.ringState r = 2) → v % 2 ^ 16 < 2 ^ s.geti DRG_CTX_SIZE_CQ_LOG2 r → (s.ring r).due = [] →
      Answers (.doorbell fn idx none (some v) t) s (fun u => u.geti DRG_CTX_CQ_CI r = v % 2 ^ 16 ∧ u.ringState r = s.ringState r ∧
        u.geti DRG_CTX_SQ_PI r = s.geti DRG_CTX_SQ_PI r ∧
        (bitB v 16 = true → (s.ring r).pending = 0 → u.flagi DRG_CTX_IRQ_ARMED r = true) ∧
        SameBut [.regs, .rings, .pwr, .out, .pba] s u)) ∧
    ((s.ringState r = 1 ∨ s.ringState r = 2) → 2 ^ s.geti DRG_CTX_SIZE_SQ_LOG2 r ≤ v % 2 ^ 16 →
      Answers (.doorbell fn idx (some v) none t) s (fun u => u.ringState r = 3 ∧ u.geti DRG_CTX_CTRL_ERR_CODE r = 3 ∧ (u.ring r).cur = none ∧
        u.geti DRG_CTX_SQ_PI r = s.geti DRG_CTX_SQ_PI r)) ∧
    ((s.ringState r = 1 ∨ s.ringState r = 2) → 2 ^ s.geti DRG_CTX_SIZE_CQ_LOG2 r ≤ v % 2 ^ 16 →
      Answers (.doorbell fn idx none (some v) t) s (fun u => u.ringState r = 3 ∧ u.geti DRG_CTX_CTRL_ERR_CODE r = 3 ∧ (u.ring r).cur = none ∧
        u.geti DRG_CTX_CQ_CI r = s.geti DRG_CTX_CQ_CI r)) ∧
    (s.ringState r = 3 → Answers (.doorbell fn idx (some v) none t) s (fun u => u.flag DRG_STAT_DB_ERR = true ∧
      RegsBut [DRG_STAT_DB_ERR, MSU_TIME_LO, MSU_TIME_HI] s u ∧
      SameBut [.regs, .pwr] s u))) ∧
  (∀ (s : State) (fn idx t : Nat), fn < 64 → s.hostServed = true → s.get PWR_STATE_CUR = 0 → s.pwr.vote = none → s.pwr.entering = none →
    (idx < doorbellCount fn → Answers (.doorbell fn idx none none t) s (fun u =>
      u.out = s.out ++ [.hostCompl (65536 * fn + idx) 0 (s.doorbellRead fn idx)] ∧
      SameBut [.out, .pwr, .regs] s u ∧ RegsBut [MSU_TIME_LO, MSU_TIME_HI] s u)) ∧
    (doorbellCount fn ≤ idx → Answers (.doorbell fn idx none none t) s (fun u =>
      .hostCompl (65536 * fn + idx) 1 [] ∈ u.out ∧ u.rings = s.rings)) ∧
    (∀ a b : Option Nat, (a ≠ none ∨ b ≠ none) → idx < doorbellCount fn → s.doorbellRing fn idx = none →
      Answers (.doorbell fn idx a b t) s (fun u => SameBut [.pwr, .regs] s u ∧ RegsBut [MSU_TIME_LO, MSU_TIME_HI] s u)) ∧
    (∀ r, s.doorbellRing fn idx = some r → s.doorbellRead fn idx =
      leBytes 4 (s.geti DRG_CTX_SQ_CI r + 2 ^ 16 * s.ringState r) ++ leBytes 4 (s.geti DRG_CTX_CQ_PI r + 2 ^ 16 * s.geti DRG_CTX_IRQ_ARMED r)) ∧
    (s.doorbellRing fn idx = none → s.doorbellRead fn idx = List.replicate 8 0)) ∧
  (∀ (s : State) (fn idx t : Nat) (a b : Option Nat), fn < 64 →
    (s.hostServed = false → exec (.doorbell fn idx a b t) s = .next (s.setNow t)) ∧
    (s.hostServed = true → exec (.doorbell fn idx a b t) s = .next ((((s.setNow t).touchSleep).hostWake [0] t).doorbell fn idx a b))) ∧
  (∀ (s : State) (r err : Nat) (b : List Nat), r < 32768 → s.ringState r = 1 → s.geti DRG_CTX_SQ_PI r ≠ s.geti DRG_CTX_SQ_CI r →
    s.ringBme r = true →
    (err ≠ 0 → Answers (.descriptorFetch r err b) s (fun u => u.ringState r = 3 ∧ u.geti DRG_CTX_CTRL_ERR_CODE r = (if err = 1 then 1 else 5) ∧
      u.geti DRG_CTX_SQ_CI r = s.geti DRG_CTX_SQ_CI r ∧ (u.ring r).cur = none)) ∧
    (descBad b = false → (parseDesc b).tag / 4096 = s.geti DRG_CTX_CTRL_GEN r →
      exec (.descriptorFetch r 0 b) s = .next ((((s.emit (s.descRead r)).seti DRG_CTX_SQ_CI r ((s.geti DRG_CTX_SQ_CI r + 1) % 2 ^ s.geti DRG_CTX_SIZE_SQ_LOG2 r)).setRing r
        { s.ring r with descs := (s.ring r).descs ++ [parseDesc b] }).portDrain (s.geti DRG_CTX_BIND_ROOM r) (s.geti DRG_CTX_BIND_PORT r)) ∧
      (Assoc.find? (8 * s.geti DRG_CTX_BIND_ROOM r + s.geti DRG_CTX_BIND_PORT r) s.fab.portSkid = none →
        Answers (.descriptorFetch r 0 b) s (fun u => (u.ring r).descs = (s.ring r).descs ++ [parseDesc b] ∧
          u.geti DRG_CTX_SQ_CI r = (s.geti DRG_CTX_SQ_CI r + 1) % 2 ^ s.geti DRG_CTX_SIZE_SQ_LOG2 r % 2 ^ 16 ∧
          u.out = s.out ++ [s.descRead r] ∧ SameBut [.regs, .rings, .out] s u ∧ RegsBut [DRG_CTX_SQ_CI] s u))) ∧
    (s.flagi DRG_CTX_CTRL_FENCE_EN r = true → (descBad b = true ∨ (parseDesc b).tag / 4096 ≠ s.geti DRG_CTX_CTRL_GEN r) →
      Answers (.descriptorFetch r 0 b) s (fun u => (∃ x : RingCompl, (u.ring r).held = (s.ring r).held ++ [x] ∧ x.tag = (parseDesc b).tag ∧
        x.len = 0 ∧ x.status = (if descBad b then 6 else 7)) ∧ (u.ring r).descs = (s.ring r).descs ∧
        u.out = s.out ++ [s.descRead r] ∧ SameBut [.regs, .rings, .out] s u ∧ RegsBut [DRG_CTX_SQ_CI] s u))) ∧
  (∀ (s : State) (r e : Nat) (b : List Nat), r < 32768 →
    (s.ringState r ≠ 1 ∨ s.geti DRG_CTX_SQ_PI r = s.geti DRG_CTX_SQ_CI r ∨ s.ringBme r = false) → exec (.descriptorFetch r e b) s = .next s)

/-- Transfers from Rooms (R147, R258, R262, R263, R264, R269): the enabled bytes of the words, as the port's used Doors carry them,
go to rising addresses of the descriptor's buffer and the completion carries their number; a chained descriptor goes on into the
next; bytes past the buffer end the transfer with TRUNCATED; META is the first word; without a last word the transfer stays open.
With no descriptor the port waits under STALL and the transfer is dropped under DROP; a slot with no ring counts as unbound; a
stalled port takes at most two words; a port that does not carry words changes nothing. A DRAM_COPY past the installed capacity
completes with status 12, one within it copies the device's bytes, and with a read error the writes leave with EP and status 11. -/
def Obligations.RoomToHost : Prop :=
  (∀ (s : State) (room port slot r : Nat) (ws : List (Nat × Nat)) (bs : List Nat) (d : Desc) (ds : List Desc) (wd : Bool),
    room < 24 → port < 8 → slot < 256 →
    s.partStopped 3 = false → s.outOpen room port slot = true → (slot == 255 && s.windowPort room == some port) = false →
    s.portStalled room port = false → Assoc.find? (8 * room + port) s.fab.portSkid = none →
    Assoc.get false (slotKey room port slot) s.hlk.discard = false →
    s.findRing room port slot 0 = some r → s.ringState r = 1 → s.geti DRG_CTX_CTRL_KIND r = 0 → s.flagi DRG_CTX_CTRL_META_EN r = false →
    s.flagi DRG_CTX_CTRL_FENCE_EN r = true → (s.ring r).cur = none → (s.ring r).descs = d :: ds → s.cqFull r = false → ws ≠ [] →
    bs = (ws.map (s.seenWord room port)).flatMap wordBytes →
    (d.chain = false → bs.length ≤ d.len →
      Answers (.f2hTransfer room port slot ws true wd) s (fun u =>
        u.out = s.out ++ (if bs = [] then [] else [.hostWrite (s.ringFn r) d.addr false bs]) ∧ (u.ring r).cur = none ∧
        (u.ring r).descs = ds ∧ (∃ x : RingCompl, (u.ring r).held = (s.ring r).held ++ [x] ∧ x.tag = d.tag ∧ x.len = bs.length ∧
          x.status = 0 ∧ x.tick = s.portTick ∧ x.done = wd ∧ x.ndesc = 0) ∧
        (∀ q, q ≠ r → u.ring q = s.ring q) ∧ u.fab = { s.fab with door := u.fab.door } ∧ SameBut [.out, .rings, .pwr, .fab] s u) ∧
      Answers (.f2hTransfer room port slot ws false wd) s (fun u =>
        u.out = s.out ++ (if bs = [] then [] else [.hostWrite (s.ringFn r) d.addr false bs]) ∧
        (∃ x, (u.ring r).cur = some x ∧ x.tag = d.tag ∧ x.addr = d.addr + bs.length ∧ x.left = d.len - bs.length ∧ x.moved = bs.length) ∧
        (u.ring r).descs = ds ∧ (u.ring r).held = (s.ring r).held ∧ SameBut [.out, .rings, .pwr, .fab] s u)) ∧
    (d.chain = false → d.len < bs.length →
      Answers (.f2hTransfer room port slot ws true wd) s (fun u =>
        u.out = s.out ++ (if d.len = 0 then [] else [.hostWrite (s.ringFn r) d.addr false (bs.take d.len)]) ∧ (u.ring r).descs = ds ∧
        ∃ x : RingCompl, (u.ring r).held = (s.ring r).held ++ [x] ∧ x.tag = d.tag ∧ x.len = d.len ∧ x.status = 2)) ∧
    (∀ d2 ds2, d.chain = true → ds = d2 :: ds2 → d2.chain = false → d.len < bs.length → bs.length ≤ d.len + d2.len →
      Answers (.f2hTransfer room port slot ws true wd) s (fun u => (u.ring r).cur = none ∧ (u.ring r).descs = ds2 ∧
        ∃ x : RingCompl, (u.ring r).held = (s.ring r).held ++ [x] ∧ x.tag = d.tag ∧ x.len = bs.length ∧ x.status = 0 ∧ x.ndesc = 1))) ∧
  (∀ (s : State) (room port slot r : Nat) (m w : Nat × Nat) (d : Desc) (ds : List Desc) (wd : Bool), room < 24 → port < 8 → slot < 256 →
    s.partStopped 3 = false → s.outOpen room port slot = true → (slot == 255 && s.windowPort room == some port) = false →
    s.portStalled room port = false → Assoc.find? (8 * room + port) s.fab.portSkid = none →
    Assoc.get false (slotKey room port slot) s.hlk.discard = false →
    s.findRing room port slot 0 = some r → s.ringState r = 1 → s.geti DRG_CTX_CTRL_KIND r = 0 → s.flagi DRG_CTX_CTRL_META_EN r = true →
    s.flagi DRG_CTX_CTRL_FENCE_EN r = true → (s.ring r).cur = none → (s.ring r).descs = d :: ds → s.cqFull r = false → d.chain = false →
    16 ≤ d.len →
    Answers (.f2hTransfer room port slot [m, w] true wd) s (fun u => (u.ring r).cur = none ∧ ∃ x : RingCompl,
      (u.ring r).held = (s.ring r).held ++ [x] ∧ x.user = leBytes 16 (s.seenWord room port m).1 ∧
      x.len = (wordBytes (s.seenWord room port w)).length ∧ x.status = 0)) ∧
  (∀ (s : State) (room port slot : Nat) (w : Nat × Nat) (wd : Bool), room < 24 → port < 8 → slot < 256 →
    s.partStopped 3 = false → s.outOpen room port slot = true → (slot == 255 && s.windowPort room == some port) = false →
    s.portStalled room port = false → Assoc.find? (8 * room + port) s.fab.portSkid = none →
    Assoc.get false (slotKey room port slot) s.hlk.discard = false →
    (s.findRing room port slot 0 = none →
      Answers (.f2hTransfer room port slot [w] true wd) s (fun u => Counts s u DRG_DISCARD_CNT_UNBOUND 0 ∧ u.rings = s.rings ∧ u.out = s.out)) ∧
    (∀ r, s.findRing room port slot 0 = some r → s.ringState r = 1 → s.geti DRG_CTX_CTRL_KIND r = 0 → (s.ring r).cur = none →
      ((s.ring r).descs = [] ∨ s.cqFull r = true) →
      (s.flagi DRG_CTX_CTRL_FULL_POL r = true → Answers (.f2hTransfer room port slot [w] true wd) s (fun u => (u.ring r).stalled = true ∧
        u.skidOf room port = [(slot, (s.seenWord room port w).1, (s.seenWord room port w).2, true)] ∧ u.portStalled room port = true ∧
        u.out = s.out ∧ SameBut [.rings, .pwr, .fab] s u)) ∧
      (s.flagi DRG_CTX_CTRL_FULL_POL r = false → Answers (.f2hTransfer room port slot [w] true wd) s (fun u => Counts s u DRG_CTX_CNT_DROP r ∧
        u.rings = s.rings ∧ SameBut [.regs, .pwr, .fab, .out, .hlk] s u))) ∧
    (∀ r, s.findRing room port slot 0 = some r → s.ringState r ≠ 1 → Answers (.f2hTransfer room port slot [w] true wd) s (fun u =>
      Counts s u DRG_CTX_CNT_DROP r ∧ u.rings = s.rings))) ∧
  (∀ (s : State) (room port slot word : Nat) (ws : List (Nat × Nat)) (last e wd : Bool), room < 24 → port < 8 → slot < 256 →
    (s.partStopped 3 = true ∨ s.outOpen room port slot = false →
      exec (.f2hTransfer room port slot ws last wd) s = .next s ∧ exec (.dramCopyTransfer room port slot word e wd) s = .next s) ∧
    (s.partStopped 3 = false → s.outOpen room port slot = true → (slot == 255 && s.windowPort room == some port) = false → ws ≠ [] →
      s.portStalled room port = true → Assoc.find? (8 * room + port) s.fab.portSkid = none →
      exec (.f2hTransfer room port slot ws last wd) s = .next (s.skid room port slot (ws.map (s.seenWord room port)) last))) ∧
  (∀ (s : State) (room port slot r word v : Nat) (d : Desc) (ds : List Desc) (wd : Bool), room < 24 → port < 8 → slot < 256 →
    s.partStopped 3 = false → s.outOpen room port slot = true → s.portStalled room port = false →
    Assoc.find? (8 * room + port) s.fab.portSkid = none →
    s.findRing room port slot 0 = some r → s.ringState r = 1 → s.geti DRG_CTX_CTRL_KIND r = 1 → s.flagi DRG_CTX_CTRL_FENCE_EN r = true →
    (s.ring r).descs = d :: ds → s.cqFull r = false → d.chain = false → v = (s.seenWord room port (word, 2 ^ 16 - 1)).1 →
    (s.dpaOk (bits v 36 0) (bits v 63 40) = false → Answers (.dramCopyTransfer room port slot word false wd) s (fun u =>
      u.out = s.out ∧ (u.ring r).descs = ds ∧
      ∃ x : RingCompl, (u.ring r).held = (s.ring r).held ++ [x] ∧ x.tag = d.tag ∧ x.len = 0 ∧ x.status = 12)) ∧
    (s.dpaOk (bits v 36 0) (bits v 63 40) = true → bits v 63 40 ≤ d.len → s.flag HLK_STAT_HDM_COMMITTED = false → s.dmcTakes = true →
      ((s.dramRead 209 (bits v 36 0) (bits v 63 40)).2.1 = none →
        Answers (.dramCopyTransfer room port slot word false wd) s (fun u =>
          u.out = s.out ++ (if bits v 63 40 = 0 then [] else
            [.hostWrite (s.ringFn r) d.addr false (s.dramRead 209 (bits v 36 0) (bits v 63 40)).1]) ∧ (u.ring r).descs = ds ∧
          (∃ x : RingCompl, (u.ring r).held = (s.ring r).held ++ [x] ∧ x.tag = d.tag ∧ x.len = bits v 63 40 ∧ x.status = 0 ∧
            x.user = leBytes 8 (bits v 127 64) ++ List.replicate 8 0) ∧
          SameBut [.out, .rings, .pwr, .fab] s u)) ∧
      (bits v 63 40 ≠ 0 → Answers (.dramCopyTransfer room port slot word true wd) s (fun u =>
        .hostWrite (s.ringFn r) d.addr true (s.dramRead 209 (bits v 36 0) (bits v 63 40)).1 ∈ u.out ∧
        Counts s u HLK_POISON_CNT_POISON_TX 0 ∧
        ∃ x : RingCompl, (u.ring r).held = (s.ring r).held ++ [x] ∧ x.tag = d.tag ∧ x.len = bits v 63 40 ∧ x.status = 11))))

/-- Transfers to Rooms and what ends them (R147, R256, R260, R265, R270, R274, R276): a completed read fills the open transfer; a
poisoned one is counted and has status 8; a timed-out or refused one fails it with status 9 or 10; the delivered transfer completes
with the bytes read, and is delivered only while the Room takes words; the oldest completion with writes outstanding becomes done,
and one that is due is posted at the CQ producer; a Room that has gone leaves no transfer open; an armed, due ring signals its
vector once and disarms. -/
def Obligations.HostToRoom : Prop :=
  (∀ (s : State) (r : Nat) (data : List Nat) (d : Desc) (ds : List Desc), r < 32768 → s.ringState r = 1 → s.geti DRG_CTX_CTRL_DIR r ≠ 0 →
    (s.ring r).cur = none → (s.ring r).descs = d :: ds →
    Answers (.hostReadCompletion r 0 data) s (fun u => (∃ x, (u.ring r).cur = some x ∧ x.tag = d.tag ∧
      x.rd = (sliceBytes data 0 d.len).map (fun b => (b, false)) ∧ x.status = 0 ∧ x.complete = !d.chain) ∧ (u.ring r).descs = ds ∧
      (∀ q, q ≠ r → u.ring q = s.ring q) ∧ u.out = s.out ++ [.hostRead (s.ringFn r) d.addr d.len] ∧ SameBut [.rings, .out] s u) ∧
    Answers (.hostReadCompletion r 1 data) s (fun u => (∃ x, (u.ring r).cur = some x ∧ x.tag = d.tag ∧
      x.rd = (sliceBytes data 0 d.len).map (fun b => (b, true)) ∧ x.status = 8) ∧ Counts s u HLK_POISON_CNT_POISON_RX 0 ∧
      SameBut [.rings, .regs, .hlk, .ldg, .kmi, .out, .pba] s u) ∧
    Answers (.hostReadCompletion r 2 data) s (fun u => (∃ x, (u.ring r).cur = some x ∧ x.tag = d.tag ∧ x.status = 9 ∧ x.complete = true) ∧
      SameBut [.rings, .regs, .hlk, .ldg, .kmi, .out, .pba] s u) ∧
    Answers (.hostReadCompletion r 3 data) s (fun u => (∃ x, (u.ring r).cur = some x ∧ x.tag = d.tag ∧ x.status = 10 ∧ x.complete = true) ∧
      SameBut [.rings, .out] s u)) ∧
  (∀ (s : State) (r k : Nat) (data : List Nat), r < 32768 → (s.ringState r ≠ 1 ∨ s.geti DRG_CTX_CTRL_DIR r = 0 ∨ (s.ring r).descs = []) →
    exec (.hostReadCompletion r k data) s = .next s) ∧
  (∀ (s : State) (r : Nat) (x : Xfer), r < 32768 → s.ringState r = 1 → s.geti DRG_CTX_CTRL_DIR r ≠ 0 → (s.ring r).cur = some x →
    (x.complete = true → s.iReady (s.geti DRG_CTX_BIND_ROOM r) (s.geti DRG_CTX_BIND_PORT r) = true →
      Assoc.get [] (portKey' (s.geti DRG_CTX_BIND_ROOM r) (s.geti DRG_CTX_BIND_PORT r)) s.fab.portQ = [] →
      s.flagi DRG_CTX_CTRL_FENCE_EN r = true →
      Answers (.h2fTransfer r) s (fun u => (u.ring r).cur = none ∧
        u.out = s.out ++ (List.range (h2fWords (s.flagi DRG_CTX_CTRL_META_EN r) x).length).map (fun i =>
          .roomWord (s.geti DRG_CTX_BIND_ROOM r) (s.geti DRG_CTX_BIND_PORT r) 0 (s.geti DRG_CTX_BIND_SLOT r)
            (i + 1 == (h2fWords (s.flagi DRG_CTX_CTRL_META_EN r) x).length)
            ((h2fWords (s.flagi DRG_CTX_CTRL_META_EN r) x).getD i (false, [])).1
            ((h2fWords (s.flagi DRG_CTX_CTRL_META_EN r) x).getD i (false, [])).2) ∧
        (∃ c : RingCompl, (u.ring r).held = (s.ring r).held ++ [c] ∧ c.tag = x.tag ∧ c.len = x.rd.length ∧ c.status = x.status ∧
          c.tick = s.portTick) ∧ SameBut [.rings, .out, .pwr, .fab] s u)) ∧
    (x.complete = false ∨ s.iReady (s.geti DRG_CTX_BIND_ROOM r) (s.geti DRG_CTX_BIND_PORT r) = false → exec (.h2fTransfer r) s = .next s)) ∧
  (∀ (s : State) (r : Nat), r < 32768 → ((s.ring r).cur = none ∨ s.ringState r ≠ 1 ∨ s.geti DRG_CTX_CTRL_DIR r = 0) →
    exec (.h2fTransfer r) s = .next s) ∧
  (∀ (s : State) (r : Nat) (c : RingCompl) (rest : List RingCompl), r < 32768 → c.done = false →
    ((s.ring r).due = [] → (s.ring r).held = c :: rest →
      Answers (.delayedPost r) s (fun u => (u.ring r).held = { c with done := true } :: rest ∧ u.out = s.out ∧ SameBut [.rings] s u)) ∧
    ((s.ring r).due = [c] → s.cqFull r = false → c.gen = s.geti DRG_CTX_CTRL_GEN r →
      Answers (.delayedPost r) s (fun u => (u.ring r).due = [] ∧
        .hostWrite (s.ringFn r) (s.geti DRG_CTX_CQ_BASE_LO_BASE r + 2 ^ 32 * s.geti DRG_CTX_CQ_BASE_HI_BASE r + 32 * s.geti DRG_CTX_CQ_PI r)
          false (complBytes { c with done := true } (!(s.ring r).wrapped)) ∈ u.out ∧
        u.geti DRG_CTX_CQ_PI r = (s.geti DRG_CTX_CQ_PI r + 1) % 2 ^ s.geti DRG_CTX_SIZE_CQ_LOG2 r % 2 ^ 16 ∧
        (u.ring r).wrapped = (if s.geti DRG_CTX_CQ_PI r + 1 = 2 ^ s.geti DRG_CTX_SIZE_CQ_LOG2 r then !(s.ring r).wrapped else (s.ring r).wrapped) ∧
        SameBut [.regs, .rings, .out, .pba, .fab] s u))) ∧
  (∀ (s : State) (r : Nat), r < 32768 → (s.ring r).due.all (fun c => c.done) = true → (s.ring r).held.all (fun c => c.done) = true →
    exec (.delayedPost r) s = .next s) ∧
  (∀ (s : State) (room : Nat), room < 24 →
    (s.roomGoneClamp room = true → Answers (.roomGone room) s (fun u =>
      (∀ r ∈ s.boundRings, s.geti DRG_CTX_BIND_ROOM r = room → (u.ring r).cur = none) ∧
      SameBut [.regs, .rings, .out, .pba, .fab, .ldg, .kmi] s u)) ∧
    (s.roomGoneClamp room = false → exec (.roomGone room) s = .next s)) ∧
  (∀ (s : State) (r t : Nat), r < 32768 →
    ((s.setNow t).irqDue r = true → s.flagi DRG_CTX_IRQ_ARMED r = true → (s.ring r).pending ≠ 0 →
      Answers (.ringIrqAge r t) s (fun u => u.out = (s.msix (s.ringFn r) (s.geti DRG_CTX_IRQ_VEC r)).out ∧
        u.hlk.pba = (s.msix (s.ringFn r) (s.geti DRG_CTX_IRQ_VEC r)).hlk.pba ∧
        u.flagi DRG_CTX_IRQ_ARMED r = false ∧ (u.ring r).pending = 0 ∧ SameBut [.regs, .rings, .out, .pba] s u ∧
        RegsBut [DRG_CTX_IRQ_ARMED, MSU_TIME_LO, MSU_TIME_HI] s u)) ∧
    (s.flagi DRG_CTX_IRQ_ARMED r = false ∨ (s.ring r).pending = 0 ∨ (s.setNow t).irqDue r = false →
      exec (.ringIrqAge r t) s = .next (s.setNow t)))

/-- Room windows (R147, R233, R234): in RUN an access past the last window reads 0, and one past the BAR is an Unsupported Request;
a write of an available window is delivered on slot 255 of the window port, and a read waits there for its answer; while the Room
takes no words the piece waits; a write of an unavailable window is discarded, and a read of it returns all ones, counted once; an
answer completes its read with its data, and a read not answered in TMO_US completes with all ones, counted and recorded; one that
waits for less goes on. -/
def Obligations.RoomWindows : Prop :=
  (∀ (s : State) (off len tag : Nat) (data : List Nat), s.hostServed = true → s.get PWR_STATE_CUR = 0 → s.pwr.vote = none →
    s.pwr.entering = none → len ≠ 0 →
    (24 * 2 ^ 25 ≤ off → off < 2 ^ 30 →
      Answers (.windowRequest off len true data tag) s (fun u => u.out = s.out ++ [.hostCompl tag 0 (List.replicate len 0)] ∧ SameBut [.out] s u) ∧
      exec (.windowRequest off len false data tag) s = .next s) ∧
    (2 ^ 30 ≤ off → Answers (.windowRequest off len true data tag) s (fun u => .hostCompl tag 1 [] ∈ u.out ∧ u.hlk.win = s.hlk.win) ∧
      Answers (.windowRequest off len false data tag) s (fun u => u.hlk.win = s.hlk.win))) ∧
  (∀ (s : State) (off len tag room rid : Nat) (data : List Nat), s.hostServed = true → s.get PWR_STATE_CUR = 0 → s.pwr.vote = none →
    s.pwr.entering = none → len ≠ 0 → off < 24 * 2 ^ 25 → off % 64 + len ≤ 64 → s.hlk.win = [] → room = off / 2 ^ 25 →
    rid = s.hlk.ridNext % 256 →
    (∀ p, s.winPort room = some p → s.iReady room p = true → Assoc.get [] (portKey' room p) s.fab.portQ = [] →
      Answers (.windowRequest off len false data tag) s (fun u => u.hlk.win = [] ∧
        u.out = s.out ++ (winWords ⟨room, rid, tag, off % 2 ^ 25, len, false, sliceBytes data 0 len, false, none, s.now⟩).map
          (fun w => .roomWord room p 0 255 w.last false w.data) ∧
        SameBut [.out, .hlk, .pwr, .fab] s u) ∧
      Answers (.windowRequest off len true data tag) s (fun u =>
        u.hlk.win = [⟨room, rid, tag, off % 2 ^ 25, len, true, [], true, none, s.now⟩] ∧
        u.out = s.out ++ [.roomWord room p 0 255 true false
          (leBytes 16 (off % 2 ^ 25 + 2 ^ 32 * (len - 1) + 2 ^ 39 + 2 ^ 40 * rid))] ∧
        SameBut [.out, .hlk, .pwr, .fab] s u)) ∧
    (∀ p, s.winPort room = some p → s.iReady room p = false → Answers (.windowRequest off len false data tag) s (fun u =>
      u.hlk.win = [⟨room, rid, tag, off % 2 ^ 25, len, false, sliceBytes data 0 len, false, none, s.now⟩] ∧
      u.out = s.out ∧ SameBut [.hlk, .pwr] s u)) ∧
    (s.winPort room = none →
      Answers (.windowRequest off len true data tag) s (fun u => u.out = s.out ++ [.hostCompl tag 0 (List.replicate len 0xFF)] ∧
        u.get HLK_WIN_CNT_UNAVAIL = satAdd HLK_WIN_CNT_UNAVAIL.top (s.get HLK_WIN_CNT_UNAVAIL) 1 % 2 ^ HLK_WIN_CNT_UNAVAIL.width ∧
        u.hlk.win = [] ∧ SameBut [.out, .hlk, .pwr, .regs] s u ∧ RegsBut [HLK_WIN_CNT_UNAVAIL] s u) ∧
      Answers (.windowRequest off len false data tag) s (fun u => u.out = s.out ∧ u.hlk.win = [] ∧
        u.get HLK_WIN_CNT_UNAVAIL = satAdd HLK_WIN_CNT_UNAVAIL.top (s.get HLK_WIN_CNT_UNAVAIL) 1 % 2 ^ HLK_WIN_CNT_UNAVAIL.width ∧
        SameBut [.hlk, .pwr, .regs] s u ∧ RegsBut [HLK_WIN_CNT_UNAVAIL] s u))) ∧
  (∀ (s : State) (off len tag : Nat) (rd : Bool) (data : List Nat),
    (s.hostServed = false ∨ len = 0 → exec (.windowRequest off len rd data tag) s = .next s) ∧
    (s.hostServed = true → len ≠ 0 → exec (.windowRequest off len rd data tag) s =
      .next ((s.hostWake [0, 33] s.now).windowAccess off len rd data tag))) ∧
  (∀ (s : State) (p : WinPiece) (port t : Nat) (data : List Nat), p.room < 24 → s.winPort p.room = some port → s.hlk.win = [p] →
    p.read = true → p.sent = true → p.answer = none → p.rid < 256 →
    Answers (.windowAnswer p.room p.rid data) s (fun u =>
      u.out = s.out ++ [.hostCompl p.tag 0 (sliceBytes data 0 p.len)] ∧ u.hlk.win = [] ∧ SameBut [.out, .hlk] s u) ∧
    (timeGe t (p.at_ + s.winTmo) = true → Answers (.hlkWinTmo ⟨p.rid, t⟩) s (fun u =>
      .hostCompl p.tag 0 (List.replicate p.len 0xFF) ∈ u.out ∧ u.hlk.win = [] ∧
      Counts s u HLK_WIN_CNT_TIMEOUT 0)) ∧
    (timeGe t (p.at_ + s.winTmo) = false → exec (.hlkWinTmo ⟨p.rid, t⟩) s = .next (s.reach t))) ∧
  (∀ (s : State) (room rid t : Nat) (data : List Nat), room < 24 →
    (s.winPort room = none → exec (.windowAnswer room rid data) s = .next s) ∧
    (s.hlk.win = [] → exec (.hlkWinTmo ⟨rid, t⟩) s = .next (s.reach t)))

/-- Line Assemblers and their alignment (R196, R198, R210): EN is taken with a legal bond, format and Room and starts with an empty
queue, and otherwise reads back 0 with CFG_ERR and its record; a marker in a received word is kept until the bond's other lane has
shown one; then the bond is aligned where their spread is at most 48 words, and a larger spread drops the alignment; a word that
holds no marker is only received. Sensor lanes (R190 to R195, R198, R218): a write of 1 to RX_EN or TX_EN is taken only at a MUL
from 8 to the maximum of the PCS mode, and else the bit reads back 0 with RATE_ERR; a receiver switched off loses its locks; clock
recovery shows the group's reference present; a word received without lock takes the lock where the mode's rule says so (the comma
in 8B10B, SYNC twice within 65,536 words at one alignment of a raw lane, 64 valid sync headers in 64B66B), and a single lane's Line
Assembler is then aligned; a word received with lock adds its code errors, and where it loses the lock LOCK_LOSS counts, and the
Line Assembler that holds the lane loses ALIGNED and its open line; without a reference the locks fall. -/
def Obligations.LanesAndLineAssemblers : Prop :=
  ((∀ (s : State) (j t : Nat), j < 16 → s.ing.las.length = 16 →
    (s.flagi LAS_CTRL_EN j = false → (s.setNow t).lasEnOk j = true → Answers (.lasEnable j t) s (fun u => u.flagi LAS_CTRL_EN j = true ∧
      u.flagi LAS_STAT_ACTIVE j = true ∧ u.flagi LAS_STAT_CFG_ERR j = false ∧ (u.las j).queue = [] ∧ (u.las j).cur = none ∧ (u.las j).buf = [] ∧
      (∀ i, i ≠ j → u.las i = s.las i) ∧ SameBut [.regs, .ing, .fab] s u)) ∧
    (s.flagi LAS_CTRL_EN j = false → (s.setNow t).lasEnOk j = false → Answers (.lasEnable j t) s (fun u => u.flagi LAS_CTRL_EN j = false ∧
      u.flagi LAS_STAT_CFG_ERR j = true ∧ u.ing = s.ing)) ∧
    (s.flagi LAS_CTRL_EN j = true → exec (.lasEnable j t) s = .next (s.setNow t))) ∧
  (∀ (s : State) (j lane w0 dev : Nat) (m : MarkRx), j < 16 → s.ing.las.length = 16 → s.flagi LAS_CTRL_EN j = true → s.lasLanes j = 2 →
    lane < 2 → dev = 16 * (j / 8) + s.geti LAS_CTRL_FIRST j + lane →
    ((s.rxWord dev m.word).2.head? = some .marker ∨ (s.rxWord dev m.word).2.head? = some .sync) →
    ((s.las j).marks = [(1 - lane, w0)] → s.flagi ING_LANE_STAT_WORD_LOCK (16 * (j / 8) + s.geti LAS_CTRL_FIRST j) = true →
      s.flagi ING_LANE_STAT_WORD_LOCK (16 * (j / 8) + s.geti LAS_CTRL_FIRST j + 1) = true →
      (max w0 m.index - min w0 m.index ≤ 48 → Answers (.deskewMarker j lane m) s (fun u => u.flagi LAS_STAT_ALIGNED j = true ∧
        u.geti LAS_SKEW j = (max w0 m.index - min w0 m.index) % 2 ^ 16 ∧ (u.las j).marks = [] ∧ SameBut [.regs, .ing] s u)) ∧
      (48 < max w0 m.index - min w0 m.index → s.flagi LAS_STAT_ALIGNED j = true → Answers (.deskewMarker j lane m) s (fun u =>
        u.flagi LAS_STAT_ALIGNED j = false ∧ (u.las j).cur = none ∧ (u.las j).marks = []))) ∧
    ((s.las j).marks = [] → Answers (.deskewMarker j lane m) s (fun u => (u.las j).marks = [(lane, m.index)] ∧
      u.geti LAS_STAT_ALIGNED j = s.geti LAS_STAT_ALIGNED j ∧ SameBut [.regs, .ing] s u))) ∧
  (∀ (s : State) (j lane : Nat) (m : MarkRx), j < 16 → lane < 16 →
    (s.flagi LAS_CTRL_EN j = false ∨ s.lasLanes j = 1 ∨ s.lasLanes j ≤ lane → exec (.deskewMarker j lane m) s = .next s) ∧
    (s.flagi LAS_CTRL_EN j = true → 1 < s.lasLanes j → lane < s.lasLanes j →
      (s.rxWord (16 * (j / 8) + s.geti LAS_CTRL_FIRST j + lane) m.word).2.head? ≠ some .marker →
      (s.rxWord (16 * (j / 8) + s.geti LAS_CTRL_FIRST j + lane) m.word).2.head? ≠ some .sync →
      exec (.deskewMarker j lane m) s = .next (s.rxWord (16 * (j / 8) + s.geti LAS_CTRL_FIRST j + lane) m.word).1))) ∧
  ((∀ (s : State) (k : Nat) (rx tx : Bool), k < 32 →
    s.laneOk k = decide (8 ≤ s.geti ING_LANE_CTRL_MUL k ∧ s.geti ING_LANE_CTRL_MUL k ≤ (if s.geti ING_LANE_CTRL_PCS k = 1 then 92
      else if s.geti ING_LANE_CTRL_PCS k = 2 ∨ s.geti ING_LANE_CTRL_PCS k = 3 then 115 else 180)) ∧
    Answers (.laneEnable k rx tx) s (fun t => t.flagi ING_LANE_CTRL_RX_EN k = (rx && s.laneOk k) ∧
      t.flagi ING_LANE_CTRL_TX_EN k = (tx && s.laneOk k) ∧
      t.flagi ING_LANE_STAT_RATE_ERR k = (s.flagi ING_LANE_STAT_RATE_ERR k || ((rx || tx) && !s.laneOk k)) ∧
      (s.flagi ING_LANE_CTRL_RX_EN k = false ∨ (rx && s.laneOk k) = true → SameBut [.regs] s t ∧
        RegsBut [ING_LANE_CTRL_RX_EN, ING_LANE_CTRL_TX_EN, ING_LANE_STAT_RATE_ERR] s t) ∧
      (s.flagi ING_LANE_CTRL_RX_EN k = true → (rx && s.laneOk k) = false →
        t.flagi ING_LANE_STAT_CDR_LOCK k = false ∧ t.flagi ING_LANE_STAT_WORD_LOCK k = false))) ∧
  (∀ (s : State) (k : Nat), k < 32 →
    (s.flagi ING_LANE_CTRL_RX_EN k = true → s.domOn (28 + k / 16) = true → Answers (.cdrLock k) s (fun t =>
      t.flagi ING_LANE_STAT_CDR_LOCK k = true ∧ t.flag (if k < 16 then ING_REF_REF_W_OK else ING_REF_REF_E_OK) = true ∧
      SameBut [.regs] s t ∧ RegsBut [ING_LANE_STAT_CDR_LOCK, ING_REF_REF_W_OK, ING_REF_REF_E_OK] s t)) ∧
    (s.flagi ING_LANE_CTRL_RX_EN k = false ∨ s.domOn (28 + k / 16) = false → exec (.cdrLock k) s = .next s)) ∧
  (∀ (s : State) (k w : Nat) (l : Bool × LaneSt), k < 32 → s.flagi ING_LANE_CTRL_LOOP k = false → (s.lane k).rxQ = [] →
    l = lockStep (s.laneCfg k) (s.lane k) (polar (s.flagi ING_LANE_CTRL_RX_INV k) (s.geti ING_LANE_CTRL_PCS k) w) →
    (s.flagi ING_LANE_STAT_CDR_LOCK k = true → s.flagi ING_LANE_STAT_WORD_LOCK k = false → 1 ≤ s.geti ING_LANE_CTRL_PCS k →
      s.geti ING_LANE_CTRL_PCS k ≤ 4 →
      Answers (.wordLock ⟨k, [w]⟩) s (fun t => t.flagi ING_LANE_STAT_WORD_LOCK k = l.1 ∧ t.lane k = l.2 ∧
        (∀ j, l.1 = true → s.laneOwner k = some j → s.lasLanes j = 1 → t.flagi LAS_STAT_ALIGNED j = true) ∧
        (∀ i, t.las i = s.las i) ∧ SameBut [.regs, .ing] s t ∧ RegsBut [ING_LANE_STAT_WORD_LOCK, LAS_STAT_ALIGNED] s t)) ∧
    (s.flagi ING_LANE_STAT_CDR_LOCK k = false ∨ s.geti ING_LANE_CTRL_PCS k = 0 ∨ 4 < s.geti ING_LANE_CTRL_PCS k →
      exec (.wordLock ⟨k, [w]⟩) s = .next s)) ∧
  (∀ (rx : LaneRx) (s : State), rx.lane < 32 → exec (.wordLock rx) s = .next (s.wordsIn [(rx.lane, rx.words)] s.now)) ∧
  (∀ (c : LaneCfg) (l : LaneSt) (w : Nat),
    (c.pcs = 4 → (lockStep c l w).1 = decide ((w % 4 = 1 ∨ w % 4 = 2) ∧ 63 ≤ l.good)) ∧
    (c.pcs = 3 → (lockStep c l w).1 = (List.range 40).any (fun sh =>
      [(enc10 false true (commaOf c.comma)).1, (enc10 true true (commaOf c.comma)).1].contains (alignedWord 40 l.prev w sh % 1024))) ∧
    (c.pcs = 1 → (lockStep c l w).1 = (List.range 32).any (fun sh => alignedWord 32 l.prev w sh == c.sync &&
      (match Assoc.find? sh l.cand with | some m => decide (l.count + 1 - m ≤ 65536) | none => false)))) ∧
  (∀ (s : State) (k w : Nat) (x : WordRes), k < 32 → s.ing.las.length = 16 → s.flagi ING_LANE_CTRL_LOOP k = false → (s.lane k).rxQ = [] →
    s.flagi ING_LANE_STAT_CDR_LOCK k = true → s.flagi ING_LANE_STAT_WORD_LOCK k = true → 1 ≤ s.geti ING_LANE_CTRL_PCS k →
    s.geti ING_LANE_CTRL_PCS k ≤ 4 →
    x = lockedStep (s.laneCfg k) (s.lane k) (polar (s.flagi ING_LANE_CTRL_RX_INV k) (s.geti ING_LANE_CTRL_PCS k) w) →
    (x.lost = false → s.laneOwner k = none → Answers (.ingLaneDown ⟨k, [w]⟩ true) s (fun t =>
      t.flagi ING_LANE_STAT_WORD_LOCK k = true ∧
      t.geti ING_LANE_ERR_CODE_ERR k = satAdd ING_LANE_ERR_CODE_ERR.top (s.geti ING_LANE_ERR_CODE_ERR k) x.bad % 2 ^ ING_LANE_ERR_CODE_ERR.width ∧
      SameBut [.regs, .ing] s t ∧ RegsBut [ING_LANE_ERR_CODE_ERR, ING_LANE_STAT_HI_BER, ING_REF_REF_W_OK, ING_REF_REF_E_OK] s t)) ∧
    (x.lost = true → Answers (.ingLaneDown ⟨k, [w]⟩ true) s (fun t => t.flagi ING_LANE_STAT_WORD_LOCK k = false ∧
      Counts s t ING_LANE_ERR_LOCK_LOSS k ∧ (∀ j, s.laneOwner k = some j → t.flagi ING_LANE_STAT_LOST k = true ∧
        t.flagi LAS_STAT_ALIGNED j = false ∧ (t.las j).cur = none ∧ (t.las j).marks = []))) ∧
    Answers (.ingLaneDown ⟨k, [w]⟩ false) s (fun t => t.flagi ING_LANE_STAT_CDR_LOCK k = false ∧ t.flagi ING_LANE_STAT_WORD_LOCK k = false ∧
      t.flag (if k < 16 then ING_REF_REF_W_OK else ING_REF_REF_E_OK) = false ∧ Counts s t ING_LANE_ERR_LOCK_LOSS k ∧
      (∀ j, s.laneOwner k = some j → t.flagi ING_LANE_STAT_LOST k = true ∧ t.flagi LAS_STAT_ALIGNED j = false ∧ (t.las j).cur = none))) ∧
  (∀ (rx : LaneRx) (s : State), rx.lane < 32 → exec (.ingLaneDown rx true) s =
    .next ((s.refSeen rx.lane true).wordsIn [(rx.lane, rx.words)] s.now)) ∧
  (∀ (c : LaneCfg) (l : LaneSt) (w : Nat),
    (c.pcs = 4 → (lockedStep c l w).lost = decide (16 ≤ l.win + b2n (!(w % 4 == 1 || w % 4 == 2)))) ∧
    (c.pcs = 1 ∨ c.pcs = 2 → (lockedStep c l w).lost = true → 65535 ≤ l.noSync)))

/-- Received packets (R197, R199 to R203, R205 to R207, R219, R220, R222): the words of a bond are received in their order, word i
from lane i mod n. On a single RAW32 lane that is ready, the words after SYNC make one packet of HDR_LEN and LINE_BYTES: one that
fails its CRC is counted and dropped; a line packet fills a line that takes the tick of the trigger it matches and leaves that
trigger's entry, and one that matches none is an orphan; a side packet for which the record block is unavailable waits in the KMI
buffer. A packet with a code error is counted and dropped; one that does not fit the line buffer is dropped with OVFL; of an open
line, the packet at its position goes on, one further on marks it SHORT, and one behind it is dropped with ERR. -/
def Obligations.SensorPackets : Prop :=
  (∀ (s : State) (j t tEnd : Nat) (lanes : List (List Nat)), j < 16 →
    (s.flagi LAS_CTRL_EN j = false ∨ s.domOn (28 + j / 8) = false → exec (.ingestPacket j lanes t tEnd) s = .next s) ∧
    (s.flagi LAS_CTRL_EN j = true → s.domOn (28 + j / 8) = true →
      exec (.ingestPacket j lanes t tEnd) s = .next ((s.reach tEnd).wordsIn ((s.lasBond j).zip lanes) t))) ∧
  (∀ (s : State) (j k t tEnd n : Nat) (ws b : List Nat), RawReady s j k → n = s.geti LAS_HDR_HDR_LEN j + s.lineBytes j → 0 < n →
    n ≤ 4 * ws.length → 4 * ws.length < n + 4 → ws.length < 65536 → b = (ws.flatMap (leBytes 4)).take n →
    (s.flagi LAS_CTRL_CRC j = true → (n < 4 ∨ crc32 (b.take (n - 4)) ≠ leField b (n - 4) 4) →
      Answers (.ingestPacket j [s.geti ING_LANE_SYNC k :: ws] t tEnd) s (fun u => Counts s u LAS_CNT_PKT_CRC_ERR j ∧ (u.las j).cur = (s.las j).cur ∧
        (u.las j).buf = (s.las j).buf ∧ (u.las j).queue = (s.las j).queue ∧ SameBut [.regs, .ing] s u)) ∧
    (s.flagi LAS_CTRL_CRC j = false → s.geti LAS_MASK_LO_MASK j = 0 → s.geti LAS_MASK_HI_MASK j = 0 →
      8 ≤ n → (s.las j).cur = none → s.flagi LAS_HDR_POS_EN j = false → s.geti LAS_HDR_ID_W j = 0 →
      (s.las j).held + s.lineBytes j ≤ 131072 → 0 < s.lineBytes j →
      (∀ e : TrigEnt, (s.las j).queue = [e] → timeGe t (e.rise + nsUnits (s.geti LAS_TLAT_LAT_MIN_NS j)) = true → e.missing = false →
        s.fillWindow j e.tick ≠ 2 →
        Answers (.ingestPacket j [s.geti ING_LANE_SYNC k :: ws] t tEnd) s (fun u => (u.las j).queue = [] ∧ (u.las j).cur = none ∧
          ∃ l : LineSt, (u.las j).buf = (s.las j).buf ++ [l] ∧ l.tag = e.tick ∧ l.merged = e.merged ∧ l.orphan = false ∧ l.late = false ∧
            l.short = false ∧ l.bytes = s.lineBytes j ∧ l.err = false)) ∧
      ((s.las j).queue = [] → Answers (.ingestPacket j [s.geti ING_LANE_SYNC k :: ws] t tEnd) s (fun u => Counts s u LAS_CNT_ERR_ORPHAN j ∧
        ∃ l : LineSt, (u.las j).buf = (s.las j).buf ++ [l] ∧ l.orphan = true))) ∧
    (s.flagi LAS_CTRL_CRC j = false → n < 8 → s.geti LAS_STAT_KMI_SIDE j = 1 → (s.las j).kmiBuf = [] →
      Answers (.ingestPacket j [s.geti ING_LANE_SYNC k :: ws] t tEnd) s (fun u =>
        (u.las j).kmiBuf = [(sideWords (s.las j).sideCount b).flatMap (leBytes 4)] ∧
        (u.las j).sideCount = (s.las j).sideCount + 1 ∧ u.fab = s.fab))) ∧
  (∀ (s : State) (j : Nat) (p : PktSt), p.bad = true → s.packet j p = s.inci LAS_CNT_PKT_CRC_ERR j) ∧
  (∀ (s : State) (j t n : Nat) (l : LineSt) (b d : List Nat), j < 16 → s.ing.las.length = 16 → (s.las j).cur = some l →
    d = b.drop (s.geti LAS_HDR_HDR_LEN j) → n = beNat (sliceBytes b (s.geti LAS_HDR_POS_OFS j) 4) →
    (131072 < (s.las j).held + d.length → Counts s (s.linePacket j b t) LAS_CNT_PKT_OVFL j ∧
      (∃ x, ((s.linePacket j b t).las j).cur = some x ∧ x.short = true ∧ x.payload = l.payload) ∧ ((s.linePacket j b t).las j).buf = (s.las j).buf) ∧
    ((s.las j).held + d.length ≤ 131072 → s.geti LAS_HDR_ID_W j = 0 → l.camId = 0 → l.orphan = false → s.flagi LAS_HDR_POS_EN j = true →
      s.flagi LAS_HDR_POS_BE j = true → n ≠ 0 →
      (n = l.pos → n + d.length < s.lineBytes j → ∃ x, ((s.linePacket j b t).las j).cur = some x ∧ x.pos = l.pos + d.length ∧
        x.bytes = l.bytes + d.length ∧ x.short = l.short ∧ x.err = l.err) ∧
      (l.pos < n → n + d.length < s.lineBytes j → ∃ x, ((s.linePacket j b t).las j).cur = some x ∧ x.pos = n + d.length ∧
        x.short = true ∧ x.err = l.err) ∧
      (n < l.pos → ∃ x, ((s.linePacket j b t).las j).cur = some x ∧ x.pos = l.pos ∧ x.payload = l.payload ∧ x.err = true)))

/-- Record block polls, transmissions and fills (R192, R208, R211 to R213, R215, R219, R221, R222): the poll takes the fabric's
pointers; a waiting packet leaves on its lane, framed as its PCS mode has it, while the lane sends; a complete line goes to its DRAM
target, or by rows to its blocks inside its window, and is counted; with fewer rows in time than it has left it is LATE; one that
cannot go yet waits; an orphan is dropped or spilled; the open line's completed rows go before it; the fill port of a Room serves
its Line Assemblers in turn. Side packets through the KMI (R222, R410): while the record block is unavailable, SIDE_RECV hands over
the oldest packets that fit and SIDE_SEND queues a packet of 1 to 2,044 bytes; while it is available both end BAD_STATE. -/
def Obligations.LineDeliveryAndSidePackets : Prop :=
  ((∀ (s : State) (j : Nat), j < 16 → s.ing.las.length = 16 →
    (s.recAvail j = true → Answers (.recordBlockPoll j) s (fun u => (u.las j).sideRd = s.recRead j 1020 % 512 ∧
      (u.las j).txWr = s.recRead j 1021 % 252 ∧
      (u.las j).queue = (s.las j).queue ∧ (∀ i, i ≠ j → u.las i = s.las i) ∧ SameBut [.ing, .regs] s u ∧ RegsBut [LAS_STAT_LINE_OPEN] s u)) ∧
    (s.recAvail j = false → exec (.recordBlockPoll j) s = .next s)) ∧
  (∀ (s : State) (j lane : Nat) (p : List Nat) (rest : List (List Nat)), j < 16 → s.ing.las.length = 16 →
    lane = 16 * (j / 8) + (s.geti LAS_CTRL_FIRST j + s.geti LAS_CTRL_TX_LANE j) →
    (s.flagi LAS_CTRL_EN j = true → s.lasBond j = [lane] → s.flagi ING_LANE_CTRL_TX_EN lane = true → s.pcsOn lane = true →
      s.flagi ING_LANE_CTRL_LOOP lane = false → s.recAvail j = false → (s.las j).kmiTx = p :: rest →
      Answers (.transmitPacket j) s (fun u => (u.las j).kmiTx = rest ∧ u.out = s.out ++
        [.laneTx lane (((s.txWords j lane p).1).map (polar (s.flagi ING_LANE_CTRL_TX_INV lane) (s.geti ING_LANE_CTRL_PCS lane)))] ∧
        SameBut [.ing, .out, .regs, .freeCount] s u)) ∧
    (s.flagi LAS_CTRL_EN j = true → s.lasBond j = [lane] → s.flagi ING_LANE_CTRL_TX_EN lane = true → s.pcsOn lane = true →
      s.flagi ING_LANE_CTRL_LOOP lane = false → s.recAvail j = true → (s.las j).txRd < 252 → (s.las j).txRd ≠ (s.las j).txWr →
      s.recRead j (768 + (s.las j).txRd) % 65536 = p.length →
      p = ((List.range (ceilDiv p.length 4)).flatMap (fun i => leBytes 4 (s.recRead j (768 + ((s.las j).txRd + (1 + i)) % 252)))).take p.length →
      Answers (.transmitPacket j) s (fun u => (u.las j).txRd = ((s.las j).txRd + 1 + ceilDiv p.length 4) % 252 ∧ u.out = s.out ++
        [.laneTx lane (((s.txWords j lane p).1).map (polar (s.flagi ING_LANE_CTRL_TX_INV lane) (s.geti ING_LANE_CTRL_PCS lane)))] ∧
        u.recRead j 1023 = (u.las j).txRd ∧ SameBut [.ing, .out, .regs, .freeCount, .fab] s u)) ∧
    (s.flagi LAS_CTRL_EN j = false ∨ s.lasLanes j ≤ s.geti LAS_CTRL_TX_LANE j ∨ s.flagi ING_LANE_CTRL_TX_EN lane = false ∨
      s.pcsOn lane = false ∨ (s.recAvail j = true ∧ (s.las j).txRd = (s.las j).txWr) ∨ (s.recAvail j = false ∧ (s.las j).kmiTx = []) →
      exec (.transmitPacket j) s = .next s) ∧
    (s.geti ING_LANE_CTRL_PCS lane = 1 → s.flagi LAS_CTRL_TX_CRC j = false →
      (s.txWords j lane p).1.length = 1 + ceilDiv p.length 4 + 3 ∧ (s.txWords j lane p).1.headD 0 = s.geti ING_LANE_SYNC lane ∧
      (p.all (fun x => decide (x < 256)) = true → (((s.txWords j lane p).1.drop 1).flatMap (leBytes 4)).take p.length = p)) ∧
    (s.geti ING_LANE_CTRL_PCS lane = 3 → s.flagi LAS_CTRL_TX_CRC j = true → (s.txWords j lane p).1 = (words8b (s.lane lane).txRd
      ((true, 0xFB) :: (p ++ leBytes 4 (crc32 p)).map (fun x => (false, x % 256)) ++ (true, 0xFD) :: List.replicate 12 (true, 0xBC))).1) ∧
    (s.geti ING_LANE_CTRL_PCS lane = 4 → s.flagi LAS_CTRL_TX_CRC j = false → (s.txWords j lane p).1 =
      (words66 (s.flagi ING_LANE_CTRL_DESCR lane) (s.lane lane).txHist (blocks66 p ++ [idle66, idle66])).1)) ∧
  (∀ (s : State) (j n : Nat), j < 16 →
    (s.flagi LAS_CTRL_EN j = false → exec (.lineFill j n) s = .next s) ∧
    (s.flagi LAS_CTRL_EN j = true → exec (.lineFill j n) s = exec (.lineFill (s.fillTurn j) n) s)) ∧
  (∀ (s : State) (j n : Nat) (l : LineSt), j < 16 → s.ing.las.length = 16 → s.flagi LAS_CTRL_EN j = true → s.fillTurn j = j →
    ((s.las j).buf = [l] →
      (l.orphan = false → l.late = false → l.short = false → s.geti LAS_CTRL_TGT j = 2 →
        Answers (.lineFill j n) s (fun u => (u.las j).buf = [] ∧ Counts s u LAS_CNT_LINE_LINES j ∧ u.dram = s.dram)) ∧
      (l.short = false → s.lineAction j l = 1 → s.geti LAS_CTRL_TGT j ≠ 2 → s.fillRows j ≤ l.rows + n →
        Answers (.lineFill j n) s (fun u => (u.las j).buf = [] ∧ Counts s u LAS_CNT_LINE_LINES j ∧ (u.las j).taken = some s.tick.opened ∧
          u.dram = s.dram ∧ u.dmc = s.dmc ∧ (∀ i, i ≠ j → u.las i = s.las i))) ∧
      (s.lineAction j l = 1 → s.geti LAS_CTRL_TGT j ≠ 2 → l.rows + n < s.fillRows j → s.flagi LAS_CTRL_SPILL_EN j = false →
        Answers (.lineFill j n) s (fun u => (u.las j).buf = [] ∧ Counts s u LAS_CNT_LINE_LATE j)) ∧
      (s.lineAction j l = 0 → (s.las j).cur = none → exec (.lineFill j n) s = .next s) ∧
      (l.orphan = true → s.flagi LAS_CTRL_SPILL_EN j = false →
        Answers (.lineFill j n) s (fun u => (u.las j).buf = [] ∧ u.dram = s.dram ∧ u.dmc = s.dmc)) ∧
      (l.orphan = true → s.flagi LAS_CTRL_SPILL_EN j = true →
        Answers (.lineFill j n) s (fun u => (u.las j).buf = [] ∧
          (u.las j).spillNext = ((s.las j).spillNext + 1) % max 1 (s.geti LAS_SPILL_SLOT_SLOTS j) ∧ u.dram = s.dram))) ∧
    ((s.las j).buf = [] → (s.las j).cur = some l → s.openFill j = true → s.geti LAS_CTRL_TGT j ≠ 2 →
      (s.rowsHeld j l (s.fillR j) ≤ l.rows + n → Answers (.lineFill j n) s (fun u =>
        (u.las j).cur = some { l with rows := s.rowsHeld j l (s.fillR j), own := true } ∧ (u.las j).taken = some s.tick.opened)) ∧
      (l.rows + n < s.rowsHeld j l (s.fillR j) → Answers (.lineFill j n) s (fun u =>
        (u.las j).cur = some { l with late := true } ∧ Counts s u LAS_CNT_LINE_LATE j))))) ∧
  ((∀ (s : State) (m : Nat) (c : KmiCmd), KmiReady s 0x0405 m c →
    (∀ p, s.geti LAS_STAT_KMI_SIDE (bits c.a0 3 0) = 1 → s.ing.las.length = 16 → (s.las (bits c.a0 3 0)).kmiBuf = [p] →
      p.length ≤ (if c.hostBuf then c.hostLen else c.resMax) →
      Answers (.sideRecv m) s (fun t => KmiDone t m stOk [p.length, 1] p.length ∧ KmiData t m c p ∧ (t.las (bits c.a0 3 0)).kmiBuf = [])) ∧
    (∀ p q rest, s.geti LAS_STAT_KMI_SIDE (bits c.a0 3 0) = 1 → s.ing.las.length = 16 → (s.las (bits c.a0 3 0)).kmiBuf = p :: q :: rest →
      p.length ≤ (if c.hostBuf then c.hostLen else c.resMax) → (if c.hostBuf then c.hostLen else c.resMax) < p.length + q.length →
      Answers (.sideRecv m) s (fun t => KmiDone t m stOk [p.length, 1] p.length ∧ KmiData t m c p ∧
        (t.las (bits c.a0 3 0)).kmiBuf = q :: rest)) ∧
    (∀ p q, s.geti LAS_STAT_KMI_SIDE (bits c.a0 3 0) = 1 → s.ing.las.length = 16 → (s.las (bits c.a0 3 0)).kmiBuf = [p, q] →
      p.length + q.length ≤ (if c.hostBuf then c.hostLen else c.resMax) →
      Answers (.sideRecv m) s (fun t => KmiDone t m stOk [p.length + q.length, 2] (p.length + q.length) ∧ KmiData t m c (p ++ q) ∧
        (t.las (bits c.a0 3 0)).kmiBuf = [])) ∧
    (s.geti LAS_STAT_KMI_SIDE (bits c.a0 3 0) = 0 → Answers (.sideRecv m) s (fun t => KmiDone t m stBadState [] 0 ∧ t.ing = s.ing))) ∧
  (∀ (s : State) (m : Nat) (c : KmiCmd), KmiReady s 0x0406 m c →
    (s.geti LAS_STAT_KMI_SIDE (bits c.a0 3 0) = 1 → s.ing.las.length = 16 → (s.las (bits c.a0 3 0)).kmiTx = [] → c.dataIn ≠ [] → c.dataIn.length ≤ 2044 →
      Answers (.sideSend m) s (fun t => KmiDone t m stOk [] 0 ∧ (t.las (bits c.a0 3 0)).kmiTx = [c.dataIn] ∧
        (∀ i, i ≠ bits c.a0 3 0 → t.las i = s.las i))) ∧
    (s.geti LAS_STAT_KMI_SIDE (bits c.a0 3 0) = 1 → (c.dataIn = [] ∨ 2044 < c.dataIn.length) →
      Answers (.sideSend m) s (fun t => KmiDone t m stBadArg [] 0 ∧ t.ing = s.ing)) ∧
    (s.geti LAS_STAT_KMI_SIDE (bits c.a0 3 0) = 0 → Answers (.sideSend m) s (fun t => KmiDone t m stBadState [] 0 ∧ t.ing = s.ing))))

/-- PIN_ASSIGN (R459 to R463): with its resources free, those of the pin's own pending function counted free, and the pin not
fabric-owned, the pin takes the function at once, or, with AT_BOUNDARY while the tick engine is enabled, holds it as pending;
otherwise the command ends RESOURCE_HELD, BAD_STATE or BAD_ARG and the pin keeps its function. -/
def Obligations.PinAssignment : Prop :=
  ∀ (s : State) (m n f : Nat) (c : KmiCmd), KmiReady s 0x0C05 m c → bits c.a0 9 0 = n → bits c.a0 23 16 = f →
    (n < 624 → funcListed f = true →
      ((s.dropPending n).funcFree f = true → (f = 0 ∨ s.pinFabric n = false) →
        (bitB c.a0 24 = false ∨ s.flag TCK_CTRL_EN = false →
          Answers (.pinAssign m) s (fun t => KmiDone t m stOk [] 0 ∧ t.geti GPIO_PIN_FUNC n = f ∧ t.flagi GPIO_PIN_PENDING n = false ∧
            (∀ n', n' < 624 → n' ≠ n → t.geti GPIO_PIN_FUNC n' = s.geti GPIO_PIN_FUNC n') ∧ SameBut [.kmi, .regs, .out, .io, .ldg] s t)) ∧
        (bitB c.a0 24 = true → s.flag TCK_CTRL_EN = true →
          Answers (.pinAssign m) s (fun t => KmiDone t m stOk [] 0 ∧ t.geti GPIO_PIN_PEND_FUNC n = f ∧ t.flagi GPIO_PIN_PENDING n = true ∧
            (∀ n', n' < 624 → t.geti GPIO_PIN_FUNC n' = s.geti GPIO_PIN_FUNC n') ∧ SameBut [.kmi, .regs, .out, .io] s t))) ∧
      ((s.dropPending n).funcFree f = false → Answers (.pinAssign m) s (fun t => KmiDone t m stHeld [] 0 ∧ t.io = s.io ∧ RegsBut [KMI_MBX_STATE] s t)) ∧
      ((s.dropPending n).funcFree f = true → f ≠ 0 → s.pinFabric n = true →
        Answers (.pinAssign m) s (fun t => KmiDone t m stBadState [] 0 ∧ t.io = s.io ∧ RegsBut [KMI_MBX_STATE] s t))) ∧
    (624 ≤ n ∨ funcListed f = false →
      Answers (.pinAssign m) s (fun t => KmiDone t m stBadArg [] 0 ∧ t.io = s.io ∧ RegsBut [KMI_MBX_STATE] s t))

/-- Timers and management controllers (R468, R470): a pulse that is due is driven for WIDTH on the timer's pins unless it would
overlap the previous one; PERIODIC pulses follow each other by PERIOD, TICK pulses follow the time of record of the open tick; a
selected edge is captured; a controller's transfer sends the data in and ends with the bytes read, a UART's also short of them after
its time-out, or with HW_FAULT at the byte that an I²C device has not acknowledged. Interrupt inputs and bank supplies (R449, R467):
where the line's port exists and its pin's input is on, in RUN a level that has lasted FILT cycles shows in GPIO_P_IN and sets PEND
under SENSE, and a shorter one does not reach the line; a line that sees no pin does nothing; a bank that loses its VIO reads 0 on
every input until it returns. -/
def Obligations.PinsTimersAndControllers : Prop :=
  ((∀ (s : State) (i t r : Nat), i < 8 → s.io.timEnd.length = 8 → s.io.timRise.length = 8 → s.timDue i t = some r → timeGe t r = true →
    ((s.io.timEnd.getD i none).all (fun e => timeGe r e) = true → Answers (.timerPulse i t) s (fun u =>
      u.io.timEnd.getD i none = some ((r + nsUnits (s.geti GPIO_TIM_WIDTH i)) % 2 ^ 64) ∧ u.io.timRise.getD i none = some r ∧
      (∀ n ∈ s.pinsOf (0x40 + i), s.canDrive n = true →
        .pulse n r ((r + nsUnits (s.geti GPIO_TIM_WIDTH i)) % 2 ^ 64) (!s.flagi GPIO_TIM_CTRL_POL i) ∈ u.out) ∧
      (∀ k, k ≠ i → u.io.timEnd.getD k none = s.io.timEnd.getD k none) ∧ SameBut [.io, .out] s u)) ∧
    ((s.io.timEnd.getD i none).all (fun e => timeGe r e) = false → Answers (.timerPulse i t) s (fun u =>
      u.io.timEnd = s.io.timEnd ∧ u.io.timRise.getD i none = some r ∧ SameBut [.io] s u))) ∧
  (∀ (s : State) (i t : Nat), i < 8 → (s.timDue i t).all (fun r => timeGe t r) = false → exec (.timerPulse i t) s = .next s) ∧
  (∀ (s : State) (i t : Nat), i < 8 → s.timDue i t = none → exec (.timerPulse i t) s = .next s) ∧
  (∀ (s : State) (i t : Nat), i < 8 →
    (s.geti GPIO_TIM_CTRL_MODE i = 1 → s.io.timRise.getD i none = none → s.timDue i t = some t) ∧
    (∀ r, s.geti GPIO_TIM_CTRL_MODE i = 1 → s.io.timRise.getD i none = some r → s.timDue i t = some ((r + nsUnits (s.geti GPIO_TIM_PERIOD i)) % 2 ^ 64)) ∧
    (s.geti GPIO_TIM_CTRL_MODE i = 2 → s.tick.tickOpen = true → s.io.timRise.getD i none = none →
      s.timDue i t = some ((s.get TCK_STAMP_LO + 2 ^ 32 * s.get TCK_STAMP_HI + nsUnits (s.geti GPIO_TIM_PERIOD i)) % 2 ^ 64)) ∧
    (s.geti GPIO_TIM_CTRL_MODE i = 0 ∨ s.geti GPIO_TIM_CTRL_MODE i = 3 → s.timDue i t = none)) ∧
  (∀ (s : State) (i t : Nat) (r : Bool), i < 8 →
    (s.geti GPIO_TIM_CTRL_MODE i = 3 → s.pinsOf (0x48 + i) ≠ [] → (s.geti GPIO_TIM_CTRL_CAP_EDGE i == 0) = r →
      Answers (.timerCapture i t r) s (fun u => u.geti GPIO_TIM_CAPT i = bits t 39 8 ∧ SameBut [.regs] s u ∧ RegsBut [GPIO_TIM_CAPT] s u)) ∧
    (s.geti GPIO_TIM_CTRL_MODE i ≠ 3 ∨ s.pinsOf (0x48 + i) = [] ∨ (s.geti GPIO_TIM_CTRL_CAP_EDGE i == 0) ≠ r →
      exec (.timerCapture i t r) s = .next s)) ∧
  (∀ (s : State) (m k : Nat) (c : KmiCmd), KmiReady s 0x0C06 m c → bits c.a0 3 0 = k →
    (k < 6 → s.flagi GPIO_PER_CFG_EN k = true →
      (∀ f ∈ s.perSignals k (!c.dataIn.isEmpty) (bits c.a0 31 16 != 0), s.pinsOf f ≠ []) →
      (bitB s.io.busy k = false → Answers (.periphXfer m) s (fun t => KmiRuns t m c ∧ bitB t.io.busy k = true ∧
        t.out = s.out ++ [.periph k (s.geti GPIO_PER_CFG_SPI_MODE k) (s.geti GPIO_PER_CFG_CS k) (s.geti GPIO_PER_CFG_DIV k) c.dataIn] ∧
        SameBut [.kmi, .regs, .io, .out] s t ∧ RegsBut [KMI_MBX_STATE] s t)) ∧
      (bitB s.io.busy k = true → Answers (.periphXfer m) s (fun t => KmiDone t m stBusy [] 0 ∧ t.io = s.io))) ∧
    (k < 6 → s.flagi GPIO_PER_CFG_EN k = false ∨ (∃ f ∈ s.perSignals k (!c.dataIn.isEmpty) (bits c.a0 31 16 != 0), s.pinsOf f = []) →
      Answers (.periphXfer m) s (fun t => KmiDone t m stBadState [] 0 ∧ t.io = s.io)) ∧
    (6 ≤ k → Answers (.periphXfer m) s (fun t => KmiDone t m stBadArg [] 0 ∧ t.io = s.io))) ∧
  (∀ (s : State) (k n : Nat) (rx : List Nat) (nk : Option Nat) (r : RunCmd), k < 6 → s.kmi.running = [r] → runIs 0x0C06 k r = true → r.abandoned = false →
    r.mbx < s.kmi.mbx.length → n = bits r.cmd.a0 31 16 →
    (k < 4 ∨ nk = none → n ≤ rx.length → Answers (.periphXferDone k rx nk) s (fun t =>
      KmiDone t r.mbx stOk [(r.cmd.dataIn.length + n) % 2 ^ 16] n ∧
      KmiData t r.mbx r.cmd (rx.take n) ∧ t.kmi.running = [] ∧ bitB t.io.busy k = false)) ∧
    (k < 2 → rx.length < n → Answers (.periphXferDone k rx nk) s (fun t => KmiDone t r.mbx stOk [(r.cmd.dataIn.length + rx.length) % 2 ^ 16] rx.length ∧
      KmiData t r.mbx r.cmd rx ∧ t.kmi.running = [] ∧ bitB t.io.busy k = false)) ∧
    (2 ≤ k → k < 4 ∨ nk = none → rx.length < n → exec (.periphXferDone k rx nk) s = .next s) ∧
    (∀ i, 4 ≤ k → nk = some i → Answers (.periphXferDone k rx nk) s (fun t => KmiDone t r.mbx stHwFault [] 0 ∧ t.kmi.running = [] ∧
      bitB t.io.busy k = false))) ∧
  (∀ (s : State) (k : Nat) (rx : List Nat) (nk : Option Nat), k < 6 → s.kmi.running.find? (runIs 0x0C06 k) = none →
    exec (.periphXferDone k rx nk) s = .next s)) ∧
  ((∀ (s : State) (q : Nat) (x : IrqLevel) (v old pend : Bool), q < 16 → s.irqOn q = true → s.get PWR_STATE_CUR = 0 → s.pwr.vote = none → s.pwr.entering = none →
    v = x.level → old = bitB s.io.line q → pend = bitB (s.get GPIO_IRQ_STAT_PEND) q →
    (s.geti GPIO_IRQ_FILT q ≤ x.cycles → Answers (.gpioIrq q x) s (fun t => bitB (t.geti GPIO_P_IN_LO_IN (s.geti GPIO_IRQ_PORT q)) q = v ∧
      bitB t.io.line q = v ∧
      (s.geti GPIO_IRQ_SENSE q = 1 → bitB (t.get GPIO_IRQ_STAT_PEND) q = (pend || (!old && v))) ∧
      (s.geti GPIO_IRQ_SENSE q = 2 → bitB (t.get GPIO_IRQ_STAT_PEND) q = (pend || (old && !v))) ∧
      (s.geti GPIO_IRQ_SENSE q = 3 → bitB (t.get GPIO_IRQ_STAT_PEND) q = (pend || old != v)) ∧
      (s.geti GPIO_IRQ_SENSE q = 4 → bitB (t.get GPIO_IRQ_STAT_PEND) q = v) ∧
      (s.geti GPIO_IRQ_SENSE q = 5 → bitB (t.get GPIO_IRQ_STAT_PEND) q = !v) ∧
      (s.geti GPIO_IRQ_SENSE q = 0 ∨ 5 < s.geti GPIO_IRQ_SENSE q → bitB (t.get GPIO_IRQ_STAT_PEND) q = pend) ∧
      (∀ i, i < 16 → i ≠ q → bitB (t.get GPIO_IRQ_STAT_PEND) i = bitB (s.get GPIO_IRQ_STAT_PEND) i) ∧
      SameBut [.regs, .io, .ldg, .kmi, .out, .pba] s t)) ∧
    (x.cycles < s.geti GPIO_IRQ_FILT q → Answers (.gpioIrq q x) s (fun t => t.get GPIO_IRQ_STAT_PEND = s.get GPIO_IRQ_STAT_PEND ∧
      t.io.line = s.io.line ∧ SameBut [.regs, .io] s t))) ∧
  (∀ (s : State) (q : Nat) (x : IrqLevel), q < 16 → s.irqOn q = false → exec (.gpioIrq q x) s = .next s) ∧
  (∀ (s : State) (k : Nat), k < 13 →
    (s.vioOk k = true → Answers (.vioFault k) s (fun t => t.vioOk k = false ∧ t.geti GPIO_P_IN_LO_IN k = 0 ∧ t.geti GPIO_P_IN_HI_IN k = 0 ∧
      SameBut [.regs, .io, .ldg, .kmi, .out, .pba] s t)) ∧
    (s.vioOk k = false → exec (.vioFault k) s = .next s) ∧
    Answers (.vioOk k) s (fun t => t.vioOk k = true ∧ (∀ i, i < 13 → i ≠ k → t.vioOk i = s.vioOk i) ∧
      SameBut [.regs, .io, .ldg, .kmi, .out, .pba] s t)))

/-- Encoder counting and the line-pitch divider's load (R69 to R75, R78): a transition that its filter resolves reaches the channel,
a counted edge moves the position by its direction, takes its stamp and clears STOPPED; a quadrature error counts nothing and sets
QERR; a Z edge at A = B = 1 latches, checks or zeroes the position, and acts as LATCH under ZERO while the channel feeds the divider
(what ZERO leaves of the run is the model's choice, log entry 21); STOPPED is set after the stop time; LOAD sets θ to the forward
position plus PHASE. A trigger's oldest pending pulse (R85, R205, R469): it leaves the queue, the output pulses unless its driver is
off, its fan-out repeats it, every Line Assembler that it feeds takes it, and the time counter stands at its rise. -/
def Obligations.EncoderChannelsAndTriggers : Prop :=
  ((∀ (s : State) (ch stamp t : Nat) (a b ain bin a1 b1 : Bool), ch < 8 → s.msu.enc.length = 8 →
    ain = (if s.flagi MSU_ENC_CTRL_SWAP ch then b else a) → bin = (if s.flagi MSU_ENC_CTRL_SWAP ch then a else b) →
    a1 = (if s.filtered ch stamp t (s.encSt ch).stampA then ain else (s.encSt ch).a) →
    b1 = (if s.filtered ch stamp t (s.encSt ch).stampB then bin else (s.encSt ch).b) →
    Answers (.encoderEdge ch a b stamp t) s (fun u => (u.encSt ch).a = a1 ∧ (u.encSt ch).b = b1 ∧ (∀ i, i ≠ ch → u.encSt i = s.encSt i) ∧
      (a1 ≠ (s.encSt ch).a → (u.encSt ch).stampA = some stamp) ∧
      (s.flagi MSU_ENC_CTRL_EN ch = false → (u.encSt ch).p = (s.encSt ch).p ∧ (u.encSt ch).k = (s.encSt ch).k) ∧
      (s.flagi MSU_ENC_CTRL_EN ch = true →
        (∀ d : Int, encCount (s.geti MSU_ENC_CTRL_MODE ch) (s.encSt ch).a (s.encSt ch).b a1 b1 = (d, false) →
          (u.encSt ch).p = signed 48 (encodeInt 48 ((s.encSt ch).p + (if s.flagi MSU_ENC_CTRL_INV ch then -d else d))) ∨
            (d = 0 ∧ (u.encSt ch).p = (s.encSt ch).p)) ∧
        (∀ d : Int, encCount (s.geti MSU_ENC_CTRL_MODE ch) (s.encSt ch).a (s.encSt ch).b a1 b1 = (d, false) → d ≠ 0 →
          (u.encSt ch).p = signed 48 (encodeInt 48 ((s.encSt ch).p + (if s.flagi MSU_ENC_CTRL_INV ch then -d else d))) ∧
          (u.encSt ch).stamps.head? = some stamp ∧ u.flagi MSU_ENC_STAT_STOPPED ch = false ∧
          (u.flagi MSU_ENC_STAT_DIR ch = true ↔ (if s.flagi MSU_ENC_CTRL_INV ch then -d else d) < 0)) ∧
        (∀ d : Int, encCount (s.geti MSU_ENC_CTRL_MODE ch) (s.encSt ch).a (s.encSt ch).b a1 b1 = (d, true) →
          u.flagi MSU_ENC_STAT_QERR ch = true ∧ (u.encSt ch).p = (s.encSt ch).p)) ∧
      SameBut [.regs, .msu, .kmi, .ldg, .out, .pba] s u)) ∧
  (∀ (s : State) (ch stamp t : Nat) (last : Option Nat), s.filtered ch stamp t last =
    (timeGe t (stamp + nsUnits (s.geti MSU_ENC_CTRL_FILT ch)) && last.all (fun l => timeGe stamp (l + nsUnits (s.geti MSU_ENC_CTRL_FILT ch + 4))))) ∧
  (∀ (s : State) (ch t : Nat), ch < 8 → s.msu.enc.length = 8 →
    (s.flagi MSU_ENC_CTRL_EN ch = true → (s.encSt ch).a = true → (s.encSt ch).b = true →
      Answers (.indexEdge ch t) s (fun u => (u.encSt ch).sinceZ = some 0 ∧
        (s.geti MSU_ENC_CTRL_ZMODE ch = 3 → s.divFeeds ch = false → (u.encSt ch).p = 0) ∧
        (s.geti MSU_ENC_CTRL_ZMODE ch ≠ 3 ∨ s.divFeeds ch = true → (u.encSt ch).p = (s.encSt ch).p) ∧
        (s.geti MSU_ENC_CTRL_ZMODE ch = 1 ∨ s.geti MSU_ENC_CTRL_ZMODE ch = 2 ∨ (s.geti MSU_ENC_CTRL_ZMODE ch = 3 ∧ s.divFeeds ch = true) →
          u.geti MSU_ENC_ZPOS_LO ch = encodeInt 58 (s.pos1024 ch t) % 2 ^ 32 ∧
          u.geti MSU_ENC_ZPOS_HI ch = encodeInt 58 (s.pos1024 ch t) / 2 ^ 32 % 2 ^ 26) ∧
        (∀ z : Int, s.geti MSU_ENC_CTRL_ZMODE ch = 2 → (s.encSt ch).sinceZ = some z → z.natAbs ≠ s.geti MSU_ENC_CPR ch →
          u.flagi MSU_ENC_STAT_ZERR ch = true) ∧
        (∀ i, i ≠ ch → u.encSt i = s.encSt i) ∧ SameBut [.regs, .msu] s u)) ∧
    (s.flagi MSU_ENC_CTRL_EN ch = false ∨ (s.encSt ch).a = false ∨ (s.encSt ch).b = false → exec (.indexEdge ch t) s = .next (s.setNow t)) ∧
    (s.flagi MSU_ENC_STAT_STOPPED ch = false →
      timeGe t ((s.encSt ch).since + nsUnits (8000000 * max 1 (s.geti MSU_ENC_CTRL_STOP ch))) = true →
      Answers (.encoderStopped ch t) s (fun u => u.flagi MSU_ENC_STAT_STOPPED ch = true ∧ u.msu = s.msu ∧ SameBut [.regs] s u)) ∧
    (s.flagi MSU_ENC_STAT_STOPPED ch = true ∨
      timeGe t ((s.encSt ch).since + nsUnits (8000000 * max 1 (s.geti MSU_ENC_CTRL_STOP ch))) = false →
      exec (.encoderStopped ch t) s = .next (s.setNow t))) ∧
  (∀ (s : State) (t : Nat), Answers (.divLoad t) s (fun u =>
    u.theta = encodeInt 64 ((s.setNow t).divQ (t % 2 ^ 64) + signed 32 (s.get MSU_DIV_PHASE)) ∧ u.msu.crossed = false ∧ u.msu.enc = s.msu.enc ∧
    SameBut [.regs, .msu] s u))) ∧
  ((∀ (s : State) (n : Nat) (p : Pulse) (rest : List Pulse), n < 16 → s.msu.trig.length = 16 → (s.trigSt n).pend = p :: rest →
    Answers (.trigPulse n) s (fun t => (t.trigSt n).pend = rest ∧ (t.trigSt n).lastFall = (s.trigSt n).lastFall ∧
      (∀ i, i ≠ n → t.trigSt i = s.trigSt i) ∧ t.now = p.rise % 2 ^ 64 ∧
      (Assoc.find? n t.io.fan = some ((p.rise + nsUnits (s.geti GPIO_FAN_DELAY_NS n) + 128) / 256 * 256 % 2 ^ 64,
        ((p.rise + nsUnits (s.geti GPIO_FAN_DELAY_NS n) + 128) / 256 * 256 % 2 ^ 64 + (p.fall + 2 ^ 64 - p.rise)) % 2 ^ 64)) ∧
      (∀ j, j < 16 → s.ing.las.length = 16 → s.flagi LAS_CTRL_EN j = true → s.geti LAS_TRIG j = n → (s.las j).queue.length < 64 →
        (t.las j).queue = (s.las j).queue ++ [⟨(s.las j).pulses, p.tick, p.merged, p.rise, false, 0⟩]) ∧
      (s.trigDriven = true → .trig (n + 200 * s.geti MSU_TRIG_CTRL_POL n) p.rise p.fall ∈ t.out) ∧ SameBut [.regs, .msu, .out, .ing, .io] s t)) ∧
  (∀ (s : State) (n : Nat), n < 16 → (s.trigSt n).pend = [] → exec (.trigPulse n) s = .next s))

/-- The time base (R82 to R84): lock, where the source's criterion is met, clears HOLDOVER and, under a source that carries the
time, steps the counter at the first lock while the tick engine is disabled, under REF10_PPS to the whole second; before it is met
nothing happens; losing the selected reference sets REF_LOST and HOLDOVER, and another changes nothing; SET steps the counter to
MSU_TIME_SET only while the tick engine is disabled, at the next PPS edge with SET_AT_PPS; a PPS edge off the whole second clears
LOCKED. Which lock is the first, and that a value waiting for PPS is lost while EN is 1, are the model's choices (log entry 21). -/
def Obligations.TimeBase : Prop :=
  (∀ (s : State) (t v : Nat),
    (s.tbCriterion t = true → Answers (.tbLock t v) s (fun u => u.flag MSU_TB_STAT_LOCKED = true ∧ u.flag MSU_TB_STAT_HOLDOVER = false ∧
      u.msu.everLocked = true ∧ (s.tbSrc = 0 → u.get MSU_TB_FREQ = 0) ∧
      (2 ≤ s.tbSrc → s.msu.everLocked = false → s.flag TCK_CTRL_EN = false → u.now = (s.ppsAlign t v) % 2 ^ 64) ∧
      ((s.tbSrc < 2 ∨ s.msu.everLocked = true ∨ s.flag TCK_CTRL_EN = true) → u.now = t % 2 ^ 64) ∧
      SameBut [.regs, .msu, .freeCount] s u ∧
      RegsBut [MSU_TB_STAT_LOCKED, MSU_TB_STAT_HOLDOVER, MSU_TB_FREQ, MSU_TIME_LO, MSU_TIME_HI] s u)) ∧
    (s.tbCriterion t = false → exec (.tbLock t v) s = .next (s.setNow t)) ∧
    (s.tbSrc ≠ 2 → s.ppsAlign t v = v) ∧
    (s.tbSrc < 2 → s.tbCriterion t = true) ∧
    (∀ x, s.tbSrc = 2 → s.msu.ppsSince = some x → s.tbCriterion t = timeGe t (x + nsUnits 3000000000)) ∧
    (∀ x, 3 ≤ s.tbSrc → s.msu.critSince = some x → s.tbCriterion t = timeGe t (x + nsUnits 10000000))) ∧
  (∀ (s : State) (cause : RefLoss) (t : Nat),
    (s.flag MSU_TB_STAT_HOLDOVER = false →
      ((cause = .timeref ∧ (s.tbSrc = 1 ∨ s.tbSrc = 2)) ∨ (cause = .pps ∧ s.tbSrc = 2) ∨ (cause = .chain ∧ s.tbSrc = 3) ∨ (cause = .twin ∧ s.tbSrc = 4)) →
      Answers (.tbRefLost cause t) s (fun u => u.flag MSU_TB_STAT_REF_LOST = true ∧ u.flag MSU_TB_STAT_HOLDOVER = true ∧
        u.flag MSU_TB_STAT_LOCKED = false ∧ (cause = .pps → u.flag MSU_TB_STAT_PPS_LOST = true) ∧
        u.msu = { s.msu with critSince := none, ppsSince := none } ∧ SameBut [.regs, .msu, .kmi, .ldg, .out, .pba] s u)) ∧
    ((cause = .timeref ∧ s.tbSrc ≠ 1 ∧ s.tbSrc ≠ 2) ∨ (cause = .pps ∧ s.tbSrc ≠ 1 ∧ s.tbSrc ≠ 2) ∨ (cause = .chain ∧ s.tbSrc ≠ 3) ∨
      (cause = .twin ∧ s.tbSrc ≠ 4) ∨ (cause ≠ .pps ∧ s.flag MSU_TB_STAT_HOLDOVER = true) →
      exec (.tbRefLost cause t) s = .next (s.setNow t))) ∧
  (∀ (s : State) (t : Nat), (s.tbSrc = 1 ∨ (s.tbSrc = 2 ∧ s.flag MSU_TB_STAT_HOLDOVER = true)) →
    Answers (.tbRefLost .pps t) s (fun u => u.flag MSU_TB_STAT_PPS_LOST = true ∧ SameBut [.regs] s u ∧
      RegsBut [MSU_TB_STAT_PPS_LOST, MSU_TIME_LO, MSU_TIME_HI] s u)) ∧
  (∀ (s : State) (t : Nat),
    (s.flag TCK_CTRL_EN = true → exec (.tbSet t) s = .next (s.setNow t)) ∧
    (s.flag TCK_CTRL_EN = false → s.flag MSU_TB_CTRL_SET_AT_PPS = false → Answers (.tbSet t) s (fun u =>
      u.now = (s.get MSU_TIME_SET_LO + 2 ^ 32 * s.get MSU_TIME_SET_HI) % 2 ^ 64 ∧ SameBut [.regs] s u ∧ RegsBut [MSU_TIME_LO, MSU_TIME_HI] s u)) ∧
    (s.flag TCK_CTRL_EN = false → s.flag MSU_TB_CTRL_SET_AT_PPS = true → Answers (.tbSet t) s (fun u => u.msu.setAtPps = true ∧ u.now = t % 2 ^ 64 ∧
      SameBut [.regs, .msu] s u ∧ RegsBut [MSU_TIME_LO, MSU_TIME_HI] s u))) ∧
  (∀ (s : State) (t : Nat) (w : Bool), Answers (.ppsEdge t w) s (fun u => u.msu.setAtPps = false ∧
    (s.msu.setAtPps = true → s.flag TCK_CTRL_EN = false → u.now = (s.get MSU_TIME_SET_LO + 2 ^ 32 * s.get MSU_TIME_SET_HI) % 2 ^ 64) ∧
    (s.msu.setAtPps = false ∨ s.flag TCK_CTRL_EN = true → u.now = t % 2 ^ 64) ∧
    (s.tbSrc = 2 → (w = false ∨ (s.msu.everLocked = true ∧ s.msu.setAtPps = false ∧ ppsWhole t = false)) → u.flag MSU_TB_STAT_LOCKED = false) ∧
    (s.tbSrc ≠ 2 ∨ (w = true ∧ (s.msu.everLocked = false ∨ s.msu.setAtPps = true ∨ ppsWhole t = true)) →
      u.get MSU_TB_STAT_LOCKED = s.get MSU_TB_STAT_LOCKED) ∧
    SameBut [.regs, .msu] s u ∧ RegsBut [MSU_TB_STAT_LOCKED, MSU_TIME_LO, MSU_TIME_HI] s u))

/-- Load sessions (R331 to R336, R413): OPEN starts the one session; a piece out of place ends BAD_ARG and a piece of the header is
taken in; a programmed group's frames stand in the plane; CLOSE of a whole, signed image starts read-back, which makes its planes
VALID and, where asked, starts their staging; an error, an abort or a timeout ends the session with its ERR code. Staging (R48,
R337, R338, R373): STAGE of Rooms that may be staged makes their staged banks STAGING, and completes once all are STAGED; a group
moves 8 frames of the inactive plane; the last makes the bank STAGED, a frame failing twice, or one the plane holds as
uncorrectable, makes it FAULT; while the bank does not admit a group, another operation runs on it or a reload write waits for it,
the group does not start. -/
def Obligations.LoadSessionsAndStaging : Prop :=
  ((∀ (s : State) (m : Nat) (c : KmiCmd), KmiReady s 0x0701 m c →
    (s.cfg.load = none → Answers (.loadOpen m) s (fun t => KmiDone t m stOk [] 0 ∧
      t.cfg.load = some ⟨c.a0, [], [], false, [], false, false, false, false, s.now⟩ ∧ t.get CFG_LOAD_STAT_STATE = 1 ∧ t.get CFG_LOAD_BYTES = 0 ∧
      (bits c.a1 15 0 ≠ 0 → t.get CFG_LOAD_TMO_TMO_MS = bits c.a1 15 0) ∧
      (bits c.a1 15 0 = 0 → t.get CFG_LOAD_TMO_TMO_MS = s.get CFG_LOAD_TMO_TMO_MS) ∧ SameBut [.kmi, .regs, .out, .cfg] s t)) ∧
    (s.cfg.load ≠ none → Answers (.loadOpen m) s (fun t => KmiDone t m stBusy [] 0 ∧ t.cfg = s.cfg ∧ RegsBut [KMI_MBX_STATE] s t))) ∧
  (∀ (s : State) (m : Nat) (c : KmiCmd), KmiReady s 0x0702 m c →
    (s.cfg.load = none → Answers (.loadData m) s (fun t => KmiDone t m stBadState [] 0 ∧ t.cfg = s.cfg ∧ RegsBut [KMI_MBX_STATE] s t)) ∧
    (∀ l : LoadSt, s.cfg.load = some l → s.kmi.running = [] → l.inq = [] → l.rooms = [] → l.closing = false →
      (c.a0 ≠ l.img.length → Answers (.loadData m) s (fun t => KmiDone t m stBadArg [] 0 ∧ t.cfg.load = some { l with since := s.now } ∧
        t.cfg.planeFr = s.cfg.planeFr ∧ t.cfg.bankFr = s.cfg.bankFr)) ∧
      (c.a0 = 0 → l.img = [] → l.headerOk = false → c.dataIn ≠ [] → c.dataIn.length < 512 → Answers (.loadData m) s (fun t =>
        KmiDone t m stOk [c.dataIn.length] 0 ∧ t.cfg.load = some { l with img := c.dataIn, since := s.now } ∧ t.get CFG_LOAD_BYTES = c.dataIn.length)))) ∧
  (∀ (s : State) (room : Nat) (l : LoadSt) (x : LoadRoom), room < 24 → s.cfg.load = some l → l.roomOf room = some x →
    (x.ready = true →
      (∀ ue, Answers (.frameGroupProgrammed room ⟨none, ue⟩) s (fun t => ∀ j < 8,
        t.planeFrame room x.plane (8 * x.progd + j) = leField (x.bufs.headD []) (520 * j) 512)) ∧
      (∀ j ue, Answers (.frameGroupProgrammed room ⟨some j, ue⟩) s (fun t => t.cfg.load = none ∧ t.get CFG_LOAD_STAT_STATE = 6 ∧
        t.get CFG_LOAD_STAT_ERR = 24))) ∧
    (∀ g : GroupProg, x.ready = false → exec (.frameGroupProgrammed room g) s = .next s)) ∧
  (∀ (s : State) (room : Nat) (g : GroupProg), room < 24 → room ∉ s.sessionRooms → exec (.frameGroupProgrammed room g) s = .next s) ∧
  (∀ (s : State) (m : Nat) (c : KmiCmd), KmiReady s 0x0703 m c →
    (s.cfg.load = none → Answers (.loadClose m) s (fun t => KmiDone t m stBadState [] 0 ∧ t.cfg = s.cfg)) ∧
    (∀ l : LoadSt, s.cfg.load = some l → l.closing = true → l.verifying = true →
      Answers (.loadClose m) s (fun t => KmiDone t m stBadState [] 0 ∧ t.cfg = s.cfg)) ∧
    (∀ l : LoadSt, s.cfg.load = some l → s.kmi.running = [] → l.closing = false → l.verifying = false →
      (l.headerOk = true → l.img.length = wbTotal (l.img.take 512) → s.signatureOk l.img (l.img.take 512) = true →
        (∀ x ∈ l.rooms, x.room < 24) → Answers (.loadClose m) s (fun t => KmiRuns t m c ∧ t.get CFG_LOAD_STAT_STATE = 4 ∧
          t.cfg.load = some { l with closing := true, stage := bitB c.a0 0, verifying := true })) ∧
      (l.headerOk = false ∨ l.img.length ≠ wbTotal (l.img.take 512) → Answers (.loadClose m) s (fun t => KmiDone t m 0x0704 [] 0 ∧
        t.cfg.load = none ∧ t.get CFG_LOAD_STAT_STATE = 6 ∧ t.get CFG_LOAD_STAT_ERR = 22)) ∧
      (l.headerOk = true → l.img.length = wbTotal (l.img.take 512) → s.signatureOk l.img (l.img.take 512) = false →
        Answers (.loadClose m) s (fun t => KmiDone t m stAuthFail [] 0 ∧ t.cfg.load = none ∧ t.get CFG_LOAD_STAT_ERR = 21)))) ∧
  (∀ (s : State) (m : Nat) (c : KmiCmd), KmiReady s 0x0704 m c →
    (s.cfg.load ≠ none → Answers (.loadAbort m) s (fun t => KmiDone t m stOk [] 0 ∧ t.cfg.load = none ∧ t.get CFG_LOAD_STAT_STATE = 6 ∧
      t.get CFG_LOAD_STAT_ERR = 25)) ∧
    (s.cfg.load = none → Answers (.loadAbort m) s (fun t => KmiDone t m stBadState [] 0 ∧ t.cfg = s.cfg))) ∧
  (∀ (s : State) (l : LoadSt), s.cfg.load = some l →
    (l.closing = false → s.kmi.running.any (runOp 0x0702) = false →
      Answers .loadTimeout s (fun t => t.cfg.load = none ∧ t.get CFG_LOAD_STAT_STATE = 6 ∧ t.get CFG_LOAD_STAT_ERR = 23)) ∧
    (l.closing = true ∨ s.kmi.running.any (runOp 0x0702) = true → exec .loadTimeout s = .next s)) ∧
  (∀ s : State, s.cfg.load = none → exec .loadTimeout s = .next s ∧ exec (.readbackDone none) s = .next s) ∧
  (∀ (s : State) (l : LoadSt) (b : Option (Nat × Nat)), s.cfg.load = some l → l.verifying = false → exec (.readbackDone b) s = .next s) ∧
  (∀ (s : State) (l : LoadSt), s.cfg.load = some l → l.verifying = true →
    (∀ r f, Answers (.readbackDone (some (r, f))) s (fun t => t.cfg.load = none ∧ t.get CFG_LOAD_STAT_STATE = 6 ∧ t.get CFG_LOAD_STAT_ERR = 24)) ∧
    (∀ r : RunCmd, l.stage = false → s.kmi.running = [r] → runIs 0x0703 0 r = true → r.abandoned = false → r.mbx < s.kmi.mbx.length →
      (∀ x ∈ l.rooms, x.room < 24) →
      Answers (.readbackDone none) s (fun t => KmiDone t r.mbx (if l.worn then stWorn else stOk) [leField (l.img.take 512) 16 4] 0 ∧
        (∀ x ∈ l.rooms, t.plane x.room x.plane = 3) ∧ t.cfg.load = none ∧ t.get CFG_LOAD_STAT_STATE = 5)) ∧
    (∀ k, l.stage = true → s.kmi.running = [] → (∀ x ∈ l.rooms, x.room < 24) → k < 24 → bitB (leField (l.img.take 512) 16 4) k = true →
      s.roomOn k = true → s.stagedFresh k = false → Answers (.readbackDone none) s (fun t => t.stgBank k = 1 ∧ t.cfg.load = none)))) ∧
  ((∀ (s : State) (m : Nat) (c : KmiCmd), KmiReady s 0x0705 m c → (∀ r ∈ s.kmi.running, stageRun r = false) →
    (s.stageRefused (bits c.a0 23 0) = ([], []) →
      (∀ r, r ∈ bitList (bits c.a0 23 0) 24 → s.stagedFresh r = false → Answers (.stage m) s (fun t => KmiRuns t m c ∧ t.stgBank r = 1 ∧
        t.geti CFG_ROOM_STG_CNT_FRAMES r = 0)) ∧
      ((∀ r ∈ bitList (bits c.a0 23 0) 24, s.stagedFresh r = true) → Answers (.stage m) s (fun t => KmiDone t m stOk [0] 0 ∧ t.cfg = s.cfg))) ∧
    ((s.stageRefused (bits c.a0 23 0)).1 ≠ [] → Answers (.stage m) s (fun t => t.cfg = s.cfg ∧ ∃ x, KmiDone t m stBadState [x] 0)) ∧
    ((s.stageRefused (bits c.a0 23 0)).1 = [] → (s.stageRefused (bits c.a0 23 0)).2 ≠ [] →
      Answers (.stage m) s (fun t => t.cfg = s.cfg ∧ ∃ x, KmiDone t m stNotValid [x] 0))) ∧
  (∀ (s : State) (room t n : Nat), room < 24 → s.geti CFG_ROOM_STG_CNT_FRAMES room = n → s.stgBank room = 1 → s.roomOn room = true →
    (s.setNow t).bankAdmits room 80000 = true → (s.setNow t).bankFree room (s.stgBankIx room) = true →
    (s.setNow t).reloadWaits room (s.stgBankIx room) = false → s.fillFault room (s.inactPlane room) n 8 none = none → n + 8 ≤ 7680 →
    (n + 8 < 7680 → Answers (.stagingGroup room t none) s (fun u => u.geti CFG_ROOM_STG_CNT_FRAMES room = n + 8 ∧ u.stgBank room = 1 ∧
      (∀ j < 8, u.stgFrame room (n + j) = s.planeFrame room (s.inactPlane room) (n + j)) ∧ SameBut [.regs, .cfg] s u)) ∧
    (n + 8 = 7680 → Answers (.stagingGroup room t none) s (fun u => u.stgBank room = 2)) ∧
    (∀ j, Answers (.stagingGroup room t (some j)) s (fun u => u.stgBank room = 4 ∧ u.geti CFG_ROOM_STG_CNT_FRAMES room = n + j % 8))) ∧
  (∀ (s : State) (room t n : Nat), room < 24 → s.geti CFG_ROOM_STG_CNT_FRAMES room = n → s.stgBank room = 1 → s.roomOn room = true →
    (s.setNow t).bankAdmits room 80000 = true → (s.setNow t).bankFree room (s.stgBankIx room) = true →
    (s.setNow t).reloadWaits room (s.stgBankIx room) = false → s.fillFault room (s.inactPlane room) n 8 none ≠ none →
    Answers (.stagingGroup room t none) s (fun u => u.stgBank room = 4)) ∧
  (∀ (s : State) (room t : Nat) (b : Option Nat), room < 24 → (s.stgBank room ≠ 1 ∨ s.roomOn room = false ∨
      (s.setNow t).bankAdmits room 80000 = false ∨ (s.setNow t).bankFree room (s.stgBankIx room) = false ∨
      (s.setNow t).reloadWaits room (s.stgBankIx room) = true) → exec (.stagingGroup room t b) s = .next (s.setNow t)))

/-- Changeover scheduling (R339, R340, R342 to R345, R348, R350, R351, R356): an accepted CHANGEOVER or ROLLBACK takes a free slot
and waits; with T = 0 and the tick engine disabled the Rooms flip, or the changeover is cancelled, at once; a cancelled slot names
its cause; DONE and CANCELLED slots are freed by software; a Room's handover ends with the last of its block work, where nothing
else holds its clamp. -/
def Obligations.Changeovers : Prop :=
  (∀ (s : State) (m j : Nat) (c : KmiCmd), KmiReady s 0x0706 m c → s.flag TCK_CTRL_EN = true →
    (c.a0 ≠ 0 → c.a0 < 2 ^ 24 → s.coFree = some j →
      (s.coRefusal c.a0 (c.a1 % 2 ^ 48) (c.a2 % 2 ^ 32) false = stOk →
        Answers (.changeover m) s (fun t => KmiRuns t m c ∧ t.geti CFG_CO_STAT_STATE j = 1 ∧ t.coT j = c.a1 % 2 ^ 48 ∧
          t.geti CFG_CO_MASK_ROOMS j = c.a0 ∧ (∀ r ∈ bitList c.a0 24, t.geti CFG_ROOM_STAT_CO_PENDING r = 1) ∧
          SameBut [.kmi, .regs, .cfg] s t)) ∧
      (s.coRefusal c.a0 (c.a1 % 2 ^ 48) (c.a2 % 2 ^ 32) false ≠ stOk →
        Answers (.changeover m) s (fun t => KmiDone t m (s.coRefusal c.a0 (c.a1 % 2 ^ 48) (c.a2 % 2 ^ 32) false) [] 0 ∧ t.cfg = s.cfg ∧
          RegsBut [KMI_MBX_STATE] s t))) ∧
    (c.a0 = 0 ∨ 2 ^ 24 ≤ c.a0 → Answers (.changeover m) s (fun t => KmiDone t m stBadArg [] 0 ∧ t.cfg = s.cfg)) ∧
    (c.a0 ≠ 0 → c.a0 < 2 ^ 24 → s.coFree = none → Answers (.changeover m) s (fun t => KmiDone t m stHeld [] 0 ∧ t.cfg = s.cfg))) ∧
  (∀ (s : State) (m : Nat) (c : KmiCmd), KmiReady s 0x0706 m c → s.flag TCK_CTRL_EN = false → (∀ j < 4, s.geti CFG_CO_STAT_STATE j ≠ 1) →
    (c.a0 = 0 ∨ 2 ^ 24 ≤ c.a0 → Answers (.changeover m) s (fun t => KmiDone t m stBadArg [] 0 ∧ t.cfg = s.cfg)) ∧
    (c.a0 ≠ 0 → c.a0 < 2 ^ 24 → s.coFree = none → Answers (.changeover m) s (fun t => KmiDone t m stHeld [] 0 ∧ t.cfg = s.cfg)) ∧
    (c.a0 ≠ 0 → c.a0 < 2 ^ 24 → s.coFree ≠ none → s.coRefusal c.a0 (c.a1 % 2 ^ 48) (c.a2 % 2 ^ 32) false ≠ stOk →
      Answers (.changeover m) s (fun t => KmiDone t m (s.coRefusal c.a0 (c.a1 % 2 ^ 48) (c.a2 % 2 ^ 32) false) [] 0 ∧ t.cfg = s.cfg)) ∧
    (c.a0 ≠ 0 → c.a0 < 2 ^ 24 → c.a1 % 2 ^ 48 ≠ 0 → s.coRefusal c.a0 (c.a1 % 2 ^ 48) (c.a2 % 2 ^ 32) false = stBadState)) ∧
  (∀ (s : State) (m : Nat) (c : KmiCmd), KmiReady s 0x0706 m c → s.flag TCK_CTRL_EN = false → c.a0 ≠ 0 → c.a0 < 2 ^ 24 → c.a1 % 2 ^ 48 = 0 →
    s.cfg.coOwner.length = 4 → (∀ j < 4, s.geti CFG_CO_STAT_STATE j = 0) → s.kmi.running = [] →
    s.coRefusal c.a0 0 (c.a2 % 2 ^ 32) false = stOk →
    (s.coCauses c.a0 = 0 → Answers (.changeover m) s (fun t => KmiDone t m stOk [0, s.tickno] 0 ∧ t.geti CFG_CO_STAT_STATE 0 = 3 ∧
      ∀ r ∈ bitList c.a0 24, t.geti CFG_ROOM_STAT_ACT_BANK r = 3 ∧ t.geti CFG_ROOM_STAT_CO_PENDING r = 0)) ∧
    (s.coCauses c.a0 ≠ 0 → Answers (.changeover m) s (fun t => KmiDone t m stNotStaged [256 * s.coCauses c.a0, 0] 0 ∧
      t.geti CFG_CO_STAT_STATE 0 = 4 ∧ t.geti CFG_CO_STAT_CAUSE 0 = s.coCauses c.a0 ∧
      ∀ r < 24, t.geti CFG_ROOM_STAT_ACT_BANK r = s.geti CFG_ROOM_STAT_ACT_BANK r))) ∧
  (∀ (s : State) (m : Nat) (c : KmiCmd), KmiReady s 0x0707 m c → s.flag TCK_CTRL_EN = false → c.a0 ≠ 0 → c.a0 < 2 ^ 24 → c.a1 % 2 ^ 48 = 0 →
    s.cfg.coOwner.length = 4 → (∀ j < 4, s.geti CFG_CO_STAT_STATE j = 0) → s.kmi.running = [] →
    s.coRefusal c.a0 0 0 true = stOk → s.coCauses c.a0 = 0 →
    Answers (.rollback m) s (fun t => KmiDone t m stOk [0, s.tickno] 0 ∧ t.geti CFG_CO_STAT_STATE 0 = 3 ∧
      ∀ r ∈ bitList c.a0 24, t.geti CFG_ROOM_STAT_ACT_BANK r = 3 ∧ t.actPlane r = Assoc.get 0 (2 * r + s.stgBankIx r) s.cfg.bankSrc)) ∧
  (∀ (s : State) (m j : Nat) (c : KmiCmd), KmiReady s 0x0707 m c → s.flag TCK_CTRL_EN = true → c.a0 ≠ 0 → c.a0 < 2 ^ 24 → s.coFree = some j →
    (s.coRefusal c.a0 (c.a1 % 2 ^ 48) 0 true = stOk → Answers (.rollback m) s (fun t => KmiRuns t m c ∧ t.geti CFG_CO_STAT_STATE j = 1 ∧
      t.coT j = c.a1 % 2 ^ 48 ∧ t.geti CFG_CO_MASK_ROLLBACK j = 1)) ∧
    (s.coRefusal c.a0 (c.a1 % 2 ^ 48) 0 true ≠ stOk →
      Answers (.rollback m) s (fun t => KmiDone t m (s.coRefusal c.a0 (c.a1 % 2 ^ 48) 0 true) [] 0 ∧ t.cfg = s.cfg))) ∧
  (∀ (s : State) (m j : Nat) (c : KmiCmd), KmiReady s 0x0708 m c → bits c.a0 1 0 = j →
    (s.flagi CFG_CO_MASK_CHAIN j = false → s.geti CFG_CO_STAT_STATE j = 1 →
      Answers (.cancelCo m) s (fun t => KmiDone t m stOk [] 0 ∧ t.geti CFG_CO_STAT_STATE j = 4 ∧ t.geti CFG_CO_STAT_CAUSE j = 6 ∧
        Counts s t CFG_CO_CNT_CANCELLED 0)) ∧
    (s.flagi CFG_CO_MASK_CHAIN j = false → s.geti CFG_CO_STAT_STATE j = 2 →
      Answers (.cancelCo m) s (fun t => KmiDone t m stDeadline [] 0 ∧ t.cfg = s.cfg ∧ RegsBut [KMI_MBX_STATE] s t)) ∧
    (s.flagi CFG_CO_MASK_CHAIN j = true ∨ (s.geti CFG_CO_STAT_STATE j ≠ 1 ∧ s.geti CFG_CO_STAT_STATE j ≠ 2) →
      Answers (.cancelCo m) s (fun t => KmiDone t m stBadState [] 0 ∧ t.cfg = s.cfg ∧ RegsBut [KMI_MBX_STATE] s t))) ∧
  (∀ (s : State) (j : Nat), j < 4 → s.flag TCK_CTRL_EN = true →
    (s.geti CFG_CO_STAT_STATE j = 0 → s.geti CFG_CO_MASK_ROOMS j ≠ 0 →
      s.coRefusal (s.geti CFG_CO_MASK_ROOMS j) (s.coT j) (s.geti CFG_CO_ITIN_ITIN_ID j) (s.flagi CFG_CO_MASK_ROLLBACK j) = stOk →
      Answers (.coSlotArm j) s (fun t => t.geti CFG_CO_STAT_STATE j = 1 ∧ SameBut [.regs, .cfg] s t)) ∧
    (s.geti CFG_CO_STAT_STATE j = 0 → s.geti CFG_CO_MASK_ROOMS j = 0 → exec (.coSlotArm j) s = .next s)) ∧
  (∀ (s : State) (j : Nat), j < 4 →
    (s.geti CFG_CO_STAT_STATE j ≠ 0 → exec (.coSlotArm j) s = .next (s.regIgnored 7 (CFG_CO_STAT_ARM.at j 0))) ∧
    (s.geti CFG_CO_STAT_STATE j = 0 →
      s.coRefusal (s.geti CFG_CO_MASK_ROOMS j) (s.coT j) (s.geti CFG_CO_ITIN_ITIN_ID j) (s.flagi CFG_CO_MASK_ROLLBACK j) ≠ stOk →
      exec (.coSlotArm j) s = .next s) ∧
    (s.geti CFG_CO_STAT_STATE j = 0 → s.flag TCK_CTRL_EN = false → s.cfg.coOwner.length = 4 → s.geti CFG_CO_MASK_ROOMS j ≠ 0 →
      (∀ i < 4, i ≠ j → s.geti CFG_CO_STAT_STATE i ≠ 1) →
      s.coRefusal (s.geti CFG_CO_MASK_ROOMS j) (s.coT j) (s.geti CFG_CO_ITIN_ITIN_ID j) (s.flagi CFG_CO_MASK_ROLLBACK j) = stOk →
      Answers (.coSlotArm j) s (fun t => t.geti CFG_CO_STAT_STATE j = (if s.coCauses (s.geti CFG_CO_MASK_ROOMS j) = 0 then 3 else 4)))) ∧
  (∀ (s : State) (j : Nat), j < 4 →
    (s.geti CFG_CO_STAT_STATE j = 3 ∨ s.geti CFG_CO_STAT_STATE j = 4 → Answers (.coSlotFree j) s (fun t => t.geti CFG_CO_STAT_STATE j = 0 ∧
      SameBut [.regs, .cfg] s t)) ∧
    (s.geti CFG_CO_STAT_STATE j ≠ 3 → s.geti CFG_CO_STAT_STATE j ≠ 4 → exec (.coSlotFree j) s = .next s)) ∧
  (∀ (s : State) (room w : Nat) (h : HandSt), room < 24 → w < 3 → Assoc.find? room s.cfg.hand = some h →
    (bitB h.work w = true → clrBit h.work w ≠ 0 → Answers (.handoverBlockWorkDone room w) s (fun t =>
      Assoc.find? room t.cfg.hand = some { h with work := clrBit h.work w } ∧ SameBut [.fab, .cfg] s t)) ∧
    (bitB h.work w = true → clrBit h.work w = 0 → h.rel = none → (∀ k ∈ List.range 2, bitB h.trees k = true → s.treeRuns room k = true) →
      Answers (.handoverBlockWorkDone room w) s (fun t => Assoc.find? room t.cfg.hand = none)) ∧
    (bitB h.work w = false → exec (.handoverBlockWorkDone room w) s = .next s)) ∧
  (∀ (s : State) (room w : Nat), room < 24 → w < 3 → Assoc.find? room s.cfg.hand = none → exec (.handoverBlockWorkDone room w) s = .next s)

/-- Select words, the Itinerary record, relocking and Room power (R52, R153, R347, R355, R413, R453): due select words are
programmed with the Room's active plane where nothing runs in the way, and wait otherwise; a fabric PLL that relocks is locked; a
Room that loses power loses both banks, and one that gains it takes the plane its select word names; CONFIG_STATUS reports a Room or
the device. -/
def Obligations.RoomsAndPower : Prop :=
  (∀ (s : State) (t : Nat),
    (s.cfg.selDue ≠ 0 → (s.flag TCK_CTRL_EN = false ∨ (s.setNow t).admits 512000 = true) →
      Answers (.selectWordProgram t) s (fun u => u.cfg.selDue = 0 ∧ (∀ r ∈ bitList s.cfg.selDue 24, u.sel r = s.selWord r ∧
        u.geti CFG_ROOM_STAT_SEL_PENDING r = 0) ∧ SameBut [.regs, .cfg, .pantry, .pnt, .ldg, .kmi, .out, .pba] s u)) ∧
    (s.cfg.selDue = 0 ∨ (s.flag TCK_CTRL_EN = true ∧ (s.setNow t).admits 512000 = false) →
      exec (.selectWordProgram t) s = .next (s.setNow t))) ∧
  (∀ s : State, exec .iobSave s = .next (s.settingsWrite 4 (s.itinBody true))) ∧
  (∀ (s : State) (p us : Nat), p < 16 → Answers (.fpllRelock p us) s (fun t => bitB t.fab.pllLocked p = true)) ∧
  (∀ (s : State) (r : RunCmd) (p us : Nat), p < 16 → s.kmi.running = [r] → runIs 0x0104 p r = true → r.abandoned = false → r.mbx < s.kmi.mbx.length →
    Answers (.fpllRelock p us) s (fun t => KmiDone t r.mbx (if us ≤ 1000 then stOk else stHwFault) [us % 2 ^ 16] 0)) ∧
  (∀ (s : State) (r : Nat), r < 24 →
    (s.roomOn r = true → Answers (.roomPowerOff r) s (fun t => t.roomOn r = false ∧ t.geti CFG_ROOM_STAT_ACT_BANK r = 0 ∧ t.stgBank r = 0 ∧
      (∀ r', r' ≠ r → t.roomOn r' = (decide (r' < 30) && s.roomOn r')) ∧ t.sel r = s.sel r ∧ t.cfg.planeFr = s.cfg.planeFr)) ∧
    (s.roomOn r = false → exec (.roomPowerOff r) s = .next s ∧
      Answers (.roomPowerOn r) s (fun t => t.roomOn r = true ∧ t.actPlane r = bits (s.sel r) 0 0 ∧
        (s.plane r (bits (s.sel r) 0 0) = 3 → bitB t.cfg.filling r = true) ∧ SameBut [.regs, .cfg] s t ∧
        RegsBut [PWR_DOM_ON, CFG_ROOM_STAT_ACT_PLANE] s t)) ∧
    (s.roomOn r = true → exec (.roomPowerOn r) s = .next s)) ∧
  (∀ (s : State) (m : Nat) (c : KmiCmd), KmiReady s 0x0709 m c →
    (bits c.a0 4 0 = 31 → Answers (.configStatus m) s (fun t => (∃ w1 w2 w3, KmiDone t m stOk [w1, w2, s.get CFG_DOOR_TBL_STAGED, w3] 0) ∧
      SameBut [.kmi, .regs, .out] s t ∧ RegsBut [KMI_MBX_STATE] s t)) ∧
    (bits c.a0 4 0 < 24 → Answers (.configStatus m) s (fun t => (∃ w0 w3 w4, KmiDone t m stOk [w0,
        s.planeVer (bits c.a0 4 0) 0 + 2 ^ 32 * s.planeVer (bits c.a0 4 0) 1, s.planeItin (bits c.a0 4 0) 0 + 2 ^ 32 * s.planeItin (bits c.a0 4 0) 1,
        w3, w4] 0) ∧ SameBut [.kmi, .regs, .out] s t ∧ RegsBut [KMI_MBX_STATE] s t)) ∧
    (24 ≤ bits c.a0 4 0 → bits c.a0 4 0 ≠ 31 → Answers (.configStatus m) s (fun t => KmiDone t m stBadArg [] 0 ∧ RegsBut [KMI_MBX_STATE] s t)))

/-- Scrubbing (R358 to R369, R375 to R377): where the bank admits it, a frame operation spends one credit, a forced one none, and
the pass moves on; a clean frame changes no frame, a correctable error is counted, a bad frame waits to be reloaded from its plane,
one whose plane is bad too is UNREPAIRED; a reload writes the plane's data and is counted; credit grows to 256; a Room that stays
there starves; a RAM map being rebuilt takes its active bank out of scrubbing; SOFT_RST restarts every pass; the self-check counts,
samples and forces. A command out of its turn only takes its time. Margin passes (R370 to R373): a periodic pass begins when it is
due and none runs, and is owed while a GO pass runs; GO begins one, and is ignored while one runs; a group of clean frames only
advances the Room; a frame of class WARN is counted, left as it is with REFRESH_EN at 0, and rewritten from a good latch bank with
REFRESH_EN at 1; one of class PLANE_UE that stays bad makes an inactive plane INVALID and marks an active one. -/
def Obligations.ScrubbingAndMargin : Prop :=
  ((∀ (s w : State) (room t role fr n k ram : Nat) (f : FrameFind), w = s.setNow t → room < 24 → s.wch.pos.length = 24 → s.flag WCH_CTRL_EN = true →
    s.domOn 25 = true → s.partStopped 4 = false → s.get BST_STAT_STATE = 0 → w.bankAdmits room 40960 = true →
    s.wch.forced.filter (fun x => x.1 == room) = none → s.wchNext room = some (role, fr) → w.frameTurn room role = true →
    s.geti WCH_ROOM_STAT_CREDIT room = n + 1 → k = s.roleBank room role →
    ram = f.ramBad &&& Assoc.get 0 (bankKey room k fr) s.cfg.ramMap →
    (f.bad = false → ram = 0 → Answers (.watchmanFrameOp room t f) s (fun u => u.geti WCH_ROOM_STAT_CREDIT room = n ∧
      u.flagi WCH_ROOM_STAT_STARVED room = false ∧ u.cfg.bankFr = s.cfg.bankFr ∧ u.wch.reloads = s.wch.reloads ∧
      (fr < 7679 → u.wch.pos.getD room 0 = 7680 * role + fr + 1) ∧
      (f.corrected = true → Counts s u WCH_CNT_FIX_CORRECTED 0) ∧ (f.corrected = false → u.get WCH_CNT_FIX_CORRECTED = s.get WCH_CNT_FIX_CORRECTED) ∧
      SameBut [.regs, .wch, .cfg] s u)) ∧
    (f.bad = true ∨ ram ≠ 0 → f.planeBad = false → Assoc.get false (bankKey room (Assoc.get 0 (2 * room + k) s.cfg.bankSrc) fr) s.cfg.planeBad = false →
      Answers (.watchmanFrameOp room t f) s (fun u => u.geti WCH_ROOM_STAT_CREDIT room = n ∧ u.wch.reloads = s.wch.reloads ++ [⟨room, k, fr, f.bad, ram, false⟩] ∧
        SameBut [.regs, .wch, .cfg] s u)) ∧
    (f.bad = true ∨ ram ≠ 0 → f.planeBad = true ∨ Assoc.get false (bankKey room (Assoc.get 0 (2 * room + k) s.cfg.bankSrc) fr) s.cfg.planeBad = true →
      Answers (.watchmanFrameOp room t f) s (fun u => u.geti WCH_ROOM_STAT_CREDIT room = n ∧ u.wch.reloads = s.wch.reloads ∧
        Counts s u WCH_CNT_ERR_UNREPAIRED 0 ∧ u.get WCH_LAST_CODE = 3 ∧ u.get WCH_LAST_ROOM = room ∧ u.get WCH_LAST_FRAME = fr ∧
        (role = 1 → u.geti CFG_ROOM_STAT_STG_BANK room = 4) ∧
        (role = 0 → s.flag WCH_CTRL_ACT_POL = true → u.flagi WCH_ROOM_STAT_UNREP_ACT room = true) ∧
        (role = 0 → s.flag WCH_CTRL_ACT_POL = false → u.geti CFG_ROOM_STAT_ACT_BANK room = 4)))) ∧
  (∀ (s w : State) (room t role fr : Nat) (f : FrameFind), w = s.setNow t → room < 24 → s.flag WCH_CTRL_EN = true → s.domOn 25 = true →
    s.partStopped 4 = false → s.get BST_STAT_STATE = 0 → w.bankAdmits room 40960 = true → s.wch.forced = some (room, role, fr) →
    (if role = 0 then s.scrubAct room else s.scrubStg room) = true → w.frameTurn room role = true → f.bad = false → f.ramBad = 0 →
    Answers (.watchmanFrameOp room t f) s (fun u => u.wch.forced = none ∧ u.geti WCH_ROOM_STAT_CREDIT room = s.geti WCH_ROOM_STAT_CREDIT room ∧
      u.wch.pos = s.wch.pos ∧ u.cfg.bankFr = s.cfg.bankFr ∧ SameBut [.regs, .wch, .cfg] s u)) ∧
  (∀ (s w : State) (room t : Nat) (f : FrameFind), w = s.setNow t → room < 24 →
    s.flag WCH_CTRL_EN = false ∨ w.bankAdmits room 40960 = false ∨
      (s.wch.forced.filter (fun x => x.1 == room) = none ∧ (s.wchNext room = none ∨ s.geti WCH_ROOM_STAT_CREDIT room = 0)) →
    exec (.watchmanFrameOp room t f) s = .next w) ∧
  (∀ (s : State) (room : Nat) (x : Reload), room < 24 → s.wch.reloads = [x] →
    (x.room = room → Answers (.reloadPlaneRead room) s (fun t => t.wch.reloads = [{ x with read := true }] ∧ SameBut [.wch] s t)) ∧
    (x.room ≠ room → exec (.reloadPlaneRead room) s = .next s)) ∧
  (∀ (s w : State) (room t key : Nat) (x : Reload), w = s.setNow t → room < 24 → s.wch.reloads = [x] → x.room = room → x.read = true →
    key = bankKey room x.bank x.frame →
    (w.bankAdmits room 16384 = true → w.bankFree room x.bank = true → Answers (.reloadWrite room t) s (fun u => u.wch.reloads = [] ∧
      (x.whole = true → Counts s u WCH_CNT_FIX_RELOADED 0 ∧
        Assoc.get 0 key u.cfg.bankFr = keepWords (clrMask (Assoc.get 0 key s.cfg.ramMap) x.words) (Assoc.get 0 key s.cfg.bankFr)
          (s.planeFrame room (Assoc.get 0 (2 * room + x.bank) s.cfg.bankSrc) x.frame)) ∧
      (x.whole = false → u.get WCH_CNT_FIX_RELOADED = s.get WCH_CNT_FIX_RELOADED ∧
        Assoc.get 0 key u.cfg.bankFr = keepWords x.words (s.planeFrame room (Assoc.get 0 (2 * room + x.bank) s.cfg.bankSrc) x.frame)
          (Assoc.get 0 key s.cfg.bankFr)) ∧
      u.get WCH_CNT_ERR_RAM_UE = (if x.words = 0 then s.get WCH_CNT_ERR_RAM_UE else satAdd 0xFFFF (s.get WCH_CNT_ERR_RAM_UE) (popcount x.words 8)) ∧
      ∀ k, k ≠ key → Assoc.get 0 k u.cfg.bankFr = Assoc.get 0 k s.cfg.bankFr)) ∧
    (w.bankAdmits room 16384 = false ∨ w.bankFree room x.bank = false → exec (.reloadWrite room t) s = .next w)) ∧
  (∀ (s w : State) (room t : Nat), w = s.setNow t → room < 24 →
    (timeGe w.now (s.wch.creditAt.getD room 0 + s.creditTime) = true → Answers (.pacingCredit room t) s (fun u =>
      u.geti WCH_ROOM_STAT_CREDIT room = min 256 (s.geti WCH_ROOM_STAT_CREDIT room + 1) ∧ SameBut [.regs, .wch] s u ∧
      RegsBut [WCH_ROOM_STAT_CREDIT, MSU_TIME_LO, MSU_TIME_HI] s u)) ∧
    (timeGe w.now (s.wch.creditAt.getD room 0 + s.creditTime) = false → exec (.pacingCredit room t) s = .next w)) ∧
  (∀ (s : State) (room t t0 : Nat), room < 24 → s.wch.capSince.getD room none = some t0 → bitB s.scrubRooms room = true →
    s.flagi WCH_ROOM_STAT_STARVED room = false → s.geti WCH_ROOM_STAT_CREDIT room = 256 →
    (msUnits (s.get WCH_PACE_STARVE_MS) ≤ elapsed t t0 → Answers (.wchStarved room t) s (fun u => u.flag WCH_STAT_STARVED = true ∧
      u.flagi WCH_ROOM_STAT_STARVED room = true)) ∧
    (elapsed t t0 < msUnits (s.get WCH_PACE_STARVE_MS) → exec (.wchStarved room t) s = .next (s.setNow t))) ∧
  (∀ (s : State) (room t : Nat), room < 24 → s.wch.capSince.getD room none = none ∨ s.flagi WCH_ROOM_STAT_STARVED room = true →
    exec (.wchStarved room t) s = .next (s.setNow t)) ∧
  (∀ (s : State) (n : Nat), Answers (.watchmanTmrScrub n) s (fun t =>
    t.get WCH_STAT_HEARTBEAT = (s.get WCH_STAT_HEARTBEAT + 1) % 2 ^ 16 ∧ t.get WCH_TMR_FIXES = satAdd 0xFFFF (s.get WCH_TMR_FIXES) n ∧
    SameBut [.regs] s t ∧ RegsBut [WCH_STAT_HEARTBEAT, WCH_TMR_FIXES] s t)) ∧
  (∀ (s : State) (room bank : Nat), room < 24 → bank < 2 →
    Answers (.ramMapRebuild room bank false) s (fun t => bitB t.wch.rebuilding (2 * room + bank) = true ∧ t.flag WCH_STAT_MAP_REBUILD = true ∧
      t.cfg = s.cfg ∧ (bank = s.actBankIx room → t.scrubAct room = false) ∧ SameBut [.regs, .wch] s t) ∧
    (bitB s.wch.rebuilding (2 * room + bank) = true → Answers (.ramMapRebuild room bank true) s (fun t =>
      bitB t.wch.rebuilding (2 * room + bank) = false ∧ t.cfg.bankFr = s.cfg.bankFr ∧ SameBut [.regs, .wch, .cfg] s t)) ∧
    (bitB s.wch.rebuilding (2 * room + bank) = false → exec (.ramMapRebuild room bank true) s = .next s)) ∧
  (∀ (s : State) (t : Nat), s.flag KMI_CTRL_FW_READY = true → s.domOn 25 = true → s.partStopped 8 = false → s.get BST_STAT_STATE = 0 →
    (s.get WCH_STAT_HEARTBEAT ≠ s.wch.hbSeen ∨ s.flag WCH_CTRL_EN = false → Answers (.heartbeatCheck t) s (fun u =>
      u.wch.hbSeen = s.get WCH_STAT_HEARTBEAT ∧ u.wch.hbAt = t ∧ u.wch.pos = s.wch.pos ∧ SameBut [.regs, .wch] s u)) ∧
    (s.get WCH_STAT_HEARTBEAT = s.wch.hbSeen → s.flag WCH_CTRL_EN = true → elapsed t s.wch.hbAt < msUnits 5 →
      exec (.heartbeatCheck t) s = .next (s.setNow t)) ∧
    (s.get WCH_STAT_HEARTBEAT = s.wch.hbSeen → s.flag WCH_CTRL_EN = true → msUnits 5 ≤ elapsed t s.wch.hbAt →
      Answers (.heartbeatCheck t) s (fun u => u.wch.pos = List.replicate 24 0 ∧ u.wch.hbAt = t))) ∧
  (∀ (s : State) (t : Nat), s.flag KMI_CTRL_FW_READY = false → exec (.heartbeatCheck t) s = .next (s.setNow t)) ∧
  (∀ s : State, Answers .watchmanSoftRst s (fun t => t.wch.pos = List.replicate 24 0 ∧ SameBut [.wch] s t)) ∧
  (∀ (s : State) (p : Bool) (r k : Nat), r = s.get WCH_SAMPLE_ROOM → k = s.roleBank r (s.get WCH_SAMPLE_BANK) →
    (r < 24 → s.get WCH_SAMPLE_FRAME < 7680 → s.bankAdmits r 24576 = true → s.bankFree r k = true → s.reloadWaits r k = false → s.stagingWaits r k = false →
      Answers (.watchmanSample p) s (fun t => t.flag WCH_SAMPLE_DONE = true ∧ t.flag WCH_SAMPLE_PASS = p ∧
        (p = true ∨ Assoc.get false (bankKey r k (s.get WCH_SAMPLE_FRAME)) s.wch.notClean = true → t.wch = s.wch) ∧
        (p = false → Assoc.get false (bankKey r k (s.get WCH_SAMPLE_FRAME)) s.wch.notClean = false →
          t.wch.forced = some (r, s.get WCH_SAMPLE_BANK, s.get WCH_SAMPLE_FRAME)))) ∧
    (24 ≤ r ∨ 7680 ≤ s.get WCH_SAMPLE_FRAME ∨ s.bankAdmits r 24576 = false ∨ s.bankFree r k = false → exec (.watchmanSample p) s = .next s)) ∧
  (∀ s : State,
    (s.get WCH_SAMPLE_ROOM < 24 → s.get WCH_SAMPLE_FRAME < 7680 → Answers .watchmanForce s (fun t =>
      t.wch.forced = some (s.get WCH_SAMPLE_ROOM, s.get WCH_SAMPLE_BANK, s.get WCH_SAMPLE_FRAME) ∧ SameBut [.wch] s t)) ∧
    (24 ≤ s.get WCH_SAMPLE_ROOM ∨ 7680 ≤ s.get WCH_SAMPLE_FRAME → exec .watchmanForce s = .next s))) ∧
  ((∀ (s : State) (t t0 : Nat), s.wch.marginLast = some t0 → s.get WCH_MARGIN_HOURS ≠ 0 →
    (if s.wch.marginRan then msUnits (3600000 * s.get WCH_MARGIN_HOURS) else msUnits 60000) ≤ elapsed t t0 →
    (s.flag WCH_MARGIN_BUSY = false → Answers (.marginPassPeriodic t) s (fun u => u.wch.marginRan = true ∧ u.wch.marginLast = some (t % 2 ^ 64) ∧
      u.wch.marginGo = false ∧ (s.plane 0 0 = 3 → u.flag WCH_MARGIN_BUSY = true) ∧ SameBut [.regs, .wch, .cfg] s u)) ∧
    (s.flag WCH_MARGIN_BUSY = true → s.wch.marginGo = true → Answers (.marginPassPeriodic t) s (fun u => u.wch.marginDue = true ∧
      u.wch.marginGrp = s.wch.marginGrp ∧ SameBut [.regs, .wch] s u)) ∧
    (s.flag WCH_MARGIN_BUSY = true → s.wch.marginGo = false → exec (.marginPassPeriodic t) s = .next (s.setNow t))) ∧
  (∀ (s : State) (t : Nat), s.get WCH_MARGIN_HOURS = 0 ∨ s.wch.marginLast = none → exec (.marginPassPeriodic t) s = .next (s.setNow t)) ∧
  (∀ s : State,
    (s.flag WCH_MARGIN_BUSY = true → exec .marginPassGo s = .next s) ∧
    (∀ r, s.flag WCH_MARGIN_BUSY = false → r < 24 → s.plane r 0 = 3 → Answers .marginPassGo s (fun t => t.flag WCH_MARGIN_BUSY = true ∧
      t.wch.marginGo = true ∧ t.wch.marginGrp = List.replicate 24 0 ∧ SameBut [.regs, .wch] s t))) ∧
  (∀ (s : State) (room g : Nat) (l : List MarginFind), room < 24 → s.wch.marginGrp.length = 24 → s.wch.marginDue = false →
    s.flag WCH_MARGIN_BUSY = true → s.marginNext room (s.wch.marginGrp.getD room 0) = g → g ≠ 1920 → s.sessionRooms.contains room = false →
    s.stgBank room ≠ 1 →
    ((∀ x ∈ l, x.cls = 0) → Answers (.marginReadGroup room l) s (fun t => t.wch.marginGrp.getD room 0 = g + 1 ∧ t.cfg.planeFr = s.cfg.planeFr ∧
      t.cfg.bankFr = s.cfg.bankFr ∧ SameBut [.regs, .wch, .cfg] s t)) ∧
    (∀ x, l = [x] → x.cls = 1 → s.flag WCH_CTRL_REFRESH_EN = false → Answers (.marginReadGroup room l) s (fun t =>
      t.wch.marginGrp.getD room 0 = g + 1 ∧ Counts s t WCH_CNT_MARGIN_WARN 0 ∧ t.cfg.planeFr = s.cfg.planeFr)) ∧
    (∀ x k, l = [x] → x.cls = 1 → s.flag WCH_CTRL_REFRESH_EN = true → x.bankOk = true → s.bankFrom room (g / 960) = some k →
      Assoc.get 0 (bankKey room k (8 * (g % 960))) s.cfg.ramMap = 0 → Answers (.marginReadGroup room l) s (fun t =>
        t.wch.marginGrp.getD room 0 = g + 1 ∧ Counts s t WCH_CNT_MARGIN_REFRESHED 0 ∧
        t.planeFrame room (g / 960) (8 * (g % 960)) = Assoc.get 0 (bankKey room k (8 * (g % 960))) s.cfg.bankFr)) ∧
    (∀ x, l = [x] → x.cls = 2 → s.flag WCH_CTRL_REFRESH_EN = false → Answers (.marginReadGroup room l) s (fun t =>
      Counts s t WCH_CNT_ERR_PLANE_UE 0 ∧ t.cfg.planeFr = s.cfg.planeFr ∧
      (g / 960 ≠ s.actPlane room → t.plane room (g / 960) = 4) ∧
      (g / 960 = s.actPlane room → t.flagi (if g / 960 = 0 then WCH_ROOM_STAT_PLANE_BAD_A else WCH_ROOM_STAT_PLANE_BAD_B) room = true)))) ∧
  (∀ (s : State) (room : Nat) (l : List MarginFind), room < 24 → s.flag WCH_MARGIN_BUSY = false ∨ s.sessionRooms.contains room = true ∨ s.stgBank room = 1 →
    exec (.marginReadGroup room l) s = .next s))

/-- Readiness, training and link power (R225 to R230, R244 to R246): PERST_N high starts the timeline, and in OFF a wake; at
configuration readiness the host settings are taken; the link trains no faster and no wider than the caps, and DRS is sent once
where enabled; retraining lowers the link; a failed step lowers MAX_RATE; L1 substates need a pin that carries CLKREQ_N; D0 in DEEP
SLEEP starts a wake; HOST_SETTINGS writes the record, or nothing where its vectors exceed 2,048. What the host's enumeration gives
is the model's choice (log entry 18). Resets of the Host Link (R242, R243, R397): fundamental reset, hot reset, CXL Reset,
function-level resets and the loss of Bus Master Enable each clear what Table 07-6 gives them and leave the components that it does
not name. -/
def Obligations.HostLinkTrainingAndResets : Prop :=
  ((∀ (s : State) (t : Nat),
    (s.hlk.perstLow = true → s.get PWR_STATE_CUR ≠ 4 → Answers (.perstNRelease t) s (fun u => u.hlk.perstLow = false ∧
      u.hlk.timeline = (if s.domOn 26 then some t else none) ∧ u.hlk.drsSent = false ∧ SameBut [.regs, .hlk] s u ∧ RegsBut [MSU_TIME_LO, MSU_TIME_HI] s u)) ∧
    (s.hlk.perstLow = true → s.get PWR_STATE_CUR = 4 → s.pwr.vote = none → s.pwr.entering = none → s.pwr.waking = none →
      bitB (s.get PWR_WAKE_SRC) 0 = true → Answers (.perstNRelease t) s (fun u => u.hlk.perstLow = false ∧ u.pwr.waking = some (0, t, 4) ∧
        bitB (u.get PWR_WAKE_CAUSE) 0 = true)) ∧
    (s.hlk.perstLow = false → s.hlk.timeline.isSome = true → exec (.perstNRelease t) s = .next (s.setNow t))) ∧
  (∀ (s : State) (t us : Nat) (bad : Bool),
    (s.hlk.timeline.isSome = true → s.hlk.perstLow = false → s.domOn 26 = true →
    s.flag HLK_STAT_CFG_READY = false → Answers (.cfgReady t us bad) s (fun u => u.flag HLK_STAT_CFG_READY = true ∧
      u.get HLK_READY_CFG_READY_US = us % 2 ^ 16 ∧ u.get HLK_STAT_MEM_ACTIVE = s.get DMC_STAT_TRAINED % 2 ∧ u.hlk.memInfo = true ∧
      (bad = true → u.flag HLK_STAT_SETTINGS_DEF = true) ∧ u.get HLK_CTRL_MAX_RATE = (s.hostBody bad).1.getD 6 0 % 8 ∧
      u.get HLK_CTRL_MAX_WIDTH = (s.hostBody bad).1.getD 6 0 / 8 % 8 ∧
      u.hlk.vecPf1 = leField (s.hostBody bad).1 8 2 ∧ u.hlk.vecVf = leField (s.hostBody bad).1 10 2)) ∧
    (s.flag HLK_STAT_CFG_READY = true ∨ s.hlk.perstLow = true ∨ s.hlk.timeline = none → exec (.cfgReady t us bad) s = .next (s.setNow t))) ∧
  (∀ (s : State) (rate width : Nat) (e : HostEnum) (flit vf pme : Bool), s.flag HLK_STAT_CFG_READY = true → s.domOn 26 = true →
    Answers (.linkTrained rate width flit e vf pme) s (fun t => t.flag HLK_STAT_LINK_UP = true ∧
      t.get HLK_STAT_RATE = min rate (min 5 (s.get HLK_CTRL_MAX_RATE)) ∧
      t.get HLK_STAT_WIDTH = min width (min 4 (s.get HLK_CTRL_MAX_WIDTH)) ∧ t.get HLK_STAT_LPM = 0 ∧
      (t.flag HLK_STAT_FLIT = (flit || min rate (min 5 (s.get HLK_CTRL_MAX_RATE)) == 5)) ∧
      (t.flag HLK_STAT_CXL_MEM = true ↔ s.flag HLK_CTRL_CXL_EN = true ∧ 2 ≤ min rate (min 5 (s.get HLK_CTRL_MAX_RATE))) ∧
      t.flag HLK_STAT_CXL_CACHE = t.flag HLK_STAT_CXL_MEM ∧
      (s.flag HLK_CTRL_DRS_EN = true → s.hlk.drsSent = false → .drs ∈ t.out) ∧
      t.hlk.bme = e.bme % 2 ^ 65 ∧ t.hlk.msixEn = e.msixEn % 2 ^ 65 ∧ t.hlk.vfEnable = vf ∧ t.hlk.pmeEn = pme)) ∧
  (∀ (s : State) (rate width : Nat) (e : HostEnum) (flit vf pme : Bool), s.flag HLK_STAT_CFG_READY = false ∨ s.domOn 26 = false →
    exec (.linkTrained rate width flit e vf pme) s = .next s) ∧
  (∀ s : State, (s.flag HLK_STAT_LINK_UP = true → Answers .hlkRetrain s (fun t => t.flag HLK_STAT_LINK_UP = false ∧ SameBut [.regs] s t ∧
    RegsBut [HLK_STAT_LINK_UP] s t)) ∧ (s.flag HLK_STAT_LINK_UP = false → exec .hlkRetrain s = .next s)) ∧
  (∀ s : State, s.flag HLK_STAT_CFG_READY = true → s.hlk.perstLow = false → s.flag KMI_CTRL_FW_READY = true →
    let w := s.journalWrite 6 0 2 0 0xFF 0xFF
    let b := (w.hostBody false).1;
      (min 5 (b.getD 6 0 % 8) ≤ 3 → exec .hostLinkStepFail s = .next (w.settingsWrite 1 (setAt b 6 (b.getD 6 0 / 8 * 8 + min 5 (b.getD 6 0 % 8))))) ∧
      (3 < min 5 (b.getD 6 0 % 8) →
        exec .hostLinkStepFail s = .next (w.settingsWrite 1 (setAt b 6 (b.getD 6 0 / 8 * 8 + min 5 (b.getD 6 0 % 8) - 1))))) ∧
  (∀ s : State, s.flag HLK_STAT_CFG_READY = false ∨ s.hlk.perstLow = true ∨ s.flag KMI_CTRL_FW_READY = false → exec .hostLinkStepFail s = .next s) ∧
  (∀ (s : State) (n : Nat),
    (s.flag HLK_STAT_LINK_UP = true → n ≤ 1 ∨ (n ≤ 3 ∧ s.clkreq = true) → Answers (.linkPowerState n) s (fun t => t.get HLK_STAT_LPM = n ∧
      SameBut [.regs] s t ∧ RegsBut [HLK_STAT_LPM] s t)) ∧
    (s.flag HLK_STAT_LINK_UP = false ∨ 3 < n ∨ (1 < n ∧ s.clkreq = false) → exec (.linkPowerState n) s = .next s)) ∧
  (∀ s : State, Answers .pmeTurnOff s (fun t => t.hlk.pmeDone = true ∧ (s.flag HLK_STAT_LINK_UP = true → t.get HLK_STAT_LPM = 4) ∧
    SameBut [.hlk, .regs] s t ∧ RegsBut [HLK_STAT_LPM] s t)) ∧
  (∀ (s : State) (fn : Nat) (d : Bool), fn < 65 →
    (d = true ∨ bitB s.hlk.d3 fn = false ∨ s.get PWR_STATE_CUR ≠ 3 → Answers (.dStateChange fn d) s (fun t => bitB t.hlk.d3 fn = d ∧
      (∀ k, k ≠ fn → bitB t.hlk.d3 k = bitB s.hlk.d3 k) ∧ SameBut [.hlk] s t)) ∧
    (d = false → bitB s.hlk.d3 fn = true → s.get PWR_STATE_CUR = 3 → s.pwr.vote = none → s.pwr.entering = none → s.pwr.waking = none →
      bitB (s.get PWR_WAKE_SRC) 0 = true → Answers (.dStateChange fn d) s (fun t => bitB t.hlk.d3 fn = d ∧ t.pwr.waking = some (0, s.now, 3)))) ∧
  (∀ (s : State) (m : Nat) (c : KmiCmd), KmiReady s 0x0505 m c →
    (32 + bits c.a1 26 16 + 63 * bits c.a1 42 32 ≤ 2048 → exec (.hostSettings m) s = .next (((s.kmiUnpost m).settingsWrite 1
      (leBytes 6 (c.a0 % 2 ^ 48) ++ [bits c.a1 5 0, 0] ++ leBytes 2 (bits c.a1 26 16) ++ leBytes 2 (bits c.a1 42 32) ++ [0, 0, 0, 0])).kmiFinish
        m c stOk 0 0 [] [])) ∧
    (2048 < 32 + bits c.a1 26 16 + 63 * bits c.a1 42 32 → Answers (.hostSettings m) s (fun t => KmiDone t m stBadArg [] 0 ∧ t.pantry = s.pantry ∧
      RegsBut [KMI_MBX_STATE] s t)))) ∧
  ((∀ s : State, Answers .fundamentalReset s (fun t => t.hlk.perstLow = true ∧ t.hlk.timeline = none ∧ t.hlk.bme = 0 ∧ t.hlk.d3 = 0 ∧
    t.hlk.vfEnable = false ∧ t.hlk.msixEn = 0 ∧ t.hlk.msixMask = [] ∧ t.hlk.pba = [] ∧ t.hlk.bars = List.replicate 7 0 ∧
    t.hlk.win = [] ∧ t.hlk.hdmSize = 0 ∧ t.hlk.bias = [] ∧ t.flag HLK_STAT_LINK_UP = false ∧
    t.flag HLK_STAT_CFG_READY = false ∧ t.flag HLK_STAT_HDM_COMMITTED = false ∧ t.cfg.load = none ∧
    SameBut [.cfg, .kmi, .rings, .ldg, .regs, .out, .hlk, .pba] s t)) ∧
  (∀ s : State, Answers .hotReset s (fun t => t.hlk.perstLow = s.hlk.perstLow ∧ t.hlk.timeline = s.hlk.timeline ∧ t.hlk.bme = 0 ∧ t.hlk.win = [] ∧
    t.hlk.msixEn = 0 ∧ t.hlk.bars = List.replicate 7 0 ∧
    t.hlk.bias = [] ∧ t.flag HLK_STAT_LINK_UP = false ∧ t.get HLK_STAT_CFG_READY = s.get HLK_STAT_CFG_READY ∧ t.cfg.load = none ∧
    t.get HLK_CTRL_MAX_RATE = s.hlk.setRate % 8 ∧ t.get HLK_CTRL_MAX_WIDTH = s.hlk.setRate / 8 % 8 ∧
    SameBut [.cfg, .kmi, .rings, .ldg, .regs, .out, .hlk, .pba] s t)) ∧
  (∀ s : State, Answers .cxlReset s (fun t => t.flag HLK_STAT_HDM_COMMITTED = false ∧ t.hlk.bias = [] ∧ t.hlk.flip = none ∧ t.hlk.bme = s.hlk.bme ∧
    t.hlk.win = s.hlk.win ∧ SameBut [.kmi, .ldg, .regs, .out, .hlk, .pba] s t)) ∧
  (∀ s : State, Answers .flrPf0 s (fun t => bitB t.hlk.bme 0 = false ∧ bitB t.hlk.d3 0 = false ∧ bitB t.hlk.msixEn 0 = false ∧ t.hlk.pmeEn = false ∧
    t.hlk.bars.take 2 = [0, 0] ∧ t.cfg.load = none ∧ t.hlk.vfEnable = s.hlk.vfEnable ∧
    SameBut [.cfg, .kmi, .ldg, .regs, .out, .hlk, .pba] s t)) ∧
  (∀ s : State, Answers .flrPf1 s (fun t => t.hlk.bme = s.hlk.bme % 2 ∧ t.hlk.d3 = s.hlk.d3 % 2 ∧ t.hlk.msixEn = s.hlk.msixEn % 2 ∧ t.hlk.vfEnable = false ∧
    SameBut [.rings, .regs, .hlk, .pba] s t)) ∧
  (∀ (s : State) (v : Nat), v ≠ 0 → v < 64 → Answers (.flrVf v) s (fun t => bitB t.hlk.bme (1 + v) = false ∧ bitB t.hlk.d3 (1 + v) = false ∧
    bitB t.hlk.msixEn (1 + v) = false ∧ t.hlk.vfEnable = s.hlk.vfEnable ∧ t.hlk.bars.take 7 = (s.hlk.bars ++ List.replicate 7 0).take 7 ∧
    SameBut [.rings, .regs, .hlk, .pba] s t)) ∧
  (∀ (s : State) (fn : Nat), fn < 65 → Answers (.busMasterDisable fn) s (fun t => bitB t.hlk.bme fn = false ∧
    (∀ k, k < 65 → k ≠ fn → bitB t.hlk.bme k = bitB s.hlk.bme k) ∧
    SameBut [.kmi, .rings, .ldg, .regs, .out, .hlk, .pba] s t)))

/-- CXL.mem, coherence and bias (R235 to R241): the decoder commits a legal range only; a host access is served at its DPA and flips
a DEVICE page to HOST, a read that meets an uncorrectable error being answered poisoned and counted; a snoop is answered RspIHitI; a
flip requests every line of its page and makes it DEVICE unless cancelled; BIAS_FLIP and HDM_SET by the decoder's state. -/
def Obligations.CoherentMemory : Prop :=
  (∀ (s : State) (b n w k : Nat),
    (s.flag HLK_STAT_HDM_COMMITTED = false → s.flag HLK_STAT_CFG_READY = true → s.domOn 26 = true →
      (w = 1 → k = 0 → n % 2 ^ 28 = 0 → n ≤ min 512 (s.get HLK_HDM_LIMIT) * 2 ^ 28 → s.hdmDpa + n ≤ s.dmcCap →
        Answers (.hdmCommit b n w k) s (fun t => t.flag HLK_STAT_HDM_COMMITTED = true ∧ t.hlk.hdmBase = b ∧ t.hlk.hdmSize = n ∧ t.hlk.hdmErr = false ∧
          SameBut [.regs, .hlk] s t ∧ RegsBut [HLK_STAT_HDM_COMMITTED] s t)) ∧
      (w ≠ 1 ∨ k ≠ 0 ∨ n % 2 ^ 28 ≠ 0 ∨ min 512 (s.get HLK_HDM_LIMIT) * 2 ^ 28 < n ∨ s.dmcCap < s.hdmDpa + n → Answers (.hdmCommit b n w k) s (fun t =>
        t.hlk.hdmErr = true ∧ SameBut [.hlk] s t))) ∧
    (s.flag HLK_STAT_HDM_COMMITTED = true ∨ s.flag HLK_STAT_CFG_READY = false ∨ s.domOn 26 = false → exec (.hdmCommit b n w k) s = .next s)) ∧
  (∀ (s : State) (a tag e dpa : Nat) (d : List Nat) (p : Bool), s.flag HLK_STAT_HDM_COMMITTED = true → s.flag HLK_STAT_CXL_MEM = true →
    s.domOn 26 = true → s.get PWR_STATE_CUR < 2 → e ≤ 1 → s.hlk.hdmBase ≤ a - a % 64 → a - a % 64 < s.hlk.hdmBase + s.hlk.hdmSize →
    dpa = s.hdmDpa + (a - a % 64 - s.hlk.hdmBase) →
    Answers (.cxlMemRequest a (some d) p e tag) s (fun t => .hostCompl tag 0 [] ∈ t.out ∧ t.hostBias ((a - a % 64 - s.hlk.hdmBase) / 65536) = true ∧
      (Assoc.get false ((a - a % 64 - s.hlk.hdmBase) / 65536) s.hlk.bias = true → Counts s t HLK_BIAS_CNT_AUTO_FLIP 0)) ∧
    (s.dmcTakes = true →
      (e = 0 → (s.lineView (dpa / 64)).2 = false → Answers (.cxlMemRequest a none p e tag) s (fun t => .hostCompl tag 0 (s.dramRead 208 dpa 64).1 ∈ t.out ∧
        t.hostBias ((a - a % 64 - s.hlk.hdmBase) / 65536) = true)) ∧
      (e = 1 ∨ (s.lineView (dpa / 64)).2 = true → Answers (.cxlMemRequest a none p e tag) s (fun t => .hostCompl tag 3 (s.dramRead 208 dpa 64).1 ∈ t.out ∧
        Counts s t HLK_POISON_CNT_POISON_TX 0 ∧ t.hostBias ((a - a % 64 - s.hlk.hdmBase) / 65536) = true)))) ∧
  (∀ (s : State) (a tag e : Nat) (d : Option (List Nat)) (p : Bool), s.flag HLK_STAT_CXL_MEM = false ∨ s.domOn 26 = false ∨ 3 ≤ s.get PWR_STATE_CUR →
    exec (.cxlMemRequest a d p e tag) s = .next s) ∧
  (∀ (s : State) (k a : Nat), (s.flag HLK_STAT_CXL_CACHE = true → Answers (.h2dSnoop k a) s (fun t => t.out = s.out ++ [.hostCompl a 4 []] ∧
    SameBut [.out] s t)) ∧ (s.flag HLK_STAT_CXL_CACHE = false → exec (.h2dSnoop k a) s = .next s)) ∧
  (∀ (s : State) (p : Nat),
    (s.hlk.flip = none → s.flag HLK_STAT_HDM_COMMITTED = true → 65536 * p < s.hlk.hdmSize → Answers (.biasFlipStart p) s (fun t => t.hlk.flip = some (p, false) ∧ t.flag HLK_BIAS_STAT_BUSY = true ∧
      t.out = s.out ++ (List.range 1024).map (fun i => Out.snoop 1 (s.hdmDpa + 65536 * p + 64 * i)) ∧ SameBut [.regs, .hlk, .out] s t)) ∧
    (s.hlk.flip ≠ none ∨ s.flag HLK_STAT_HDM_COMMITTED = false ∨ s.hlk.hdmSize ≤ 65536 * p → exec (.biasFlipStart p) s = .next s)) ∧
  (∀ (s : State) (p : Nat) (c : Bool), s.hlk.flip = some (p, c) → Answers .biasFlipDone s (fun t => t.hlk.flip = none ∧
    t.flag HLK_BIAS_STAT_BUSY = false ∧ (c = false → t.hostBias p = false ∧ Counts s t HLK_BIAS_CNT_DEV_FLIP 0) ∧
    (c = true → t.hlk.bias = s.hlk.bias) ∧ SameBut [.kmi, .ldg, .regs, .out, .hlk, .pba] s t)) ∧
  (∀ s : State, s.hlk.flip = none → exec .biasFlipDone s = .next s) ∧
  (∀ (s : State) (m : Nat) (c : KmiCmd), KmiReady s 0x0504 m c →
    (s.flag HLK_STAT_HDM_COMMITTED = false → Answers (.biasFlip m) s (fun t => KmiDone t m stBadState [] 0 ∧ t.hlk = s.hlk)) ∧
    (s.flag HLK_STAT_HDM_COMMITTED = true → s.hlk.flip ≠ none → Answers (.biasFlip m) s (fun t => KmiDone t m stBusy [] 0 ∧ t.hlk = s.hlk)) ∧
    (s.flag HLK_STAT_HDM_COMMITTED = true → s.hlk.flip = none → s.hlk.hdmSize ≤ 65536 * bits c.a0 20 0 →
      Answers (.biasFlip m) s (fun t => KmiDone t m stBadArg [] 0 ∧ t.hlk = s.hlk)) ∧
    (s.flag HLK_STAT_HDM_COMMITTED = true → s.hlk.flip = none → 65536 * bits c.a0 20 0 < s.hlk.hdmSize →
      Answers (.biasFlip m) s (fun t => KmiRuns t m c ∧ t.hlk.flip = some (bits c.a0 20 0, false) ∧ t.get HLK_BIAS_OP_PAGE = bits c.a0 20 0))) ∧
  (∀ (s : State) (m : Nat) (c : KmiCmd), KmiReady s 0x0503 m c →
    (s.flag HLK_STAT_HDM_COMMITTED = false → bits c.a0 36 0 % 2 ^ 28 = 0 → Answers (.hdmSet m) s (fun t => KmiDone t m stOk [] 0 ∧
      t.hdmDpa = bits c.a0 36 0 ∧ t.get HLK_HDM_LIMIT = bits c.a1 9 0 ∧ SameBut [.kmi, .regs, .out, .pba] s t ∧
      RegsBut [KMI_MBX_STATE, HLK_HDM_DPA_BASE_LO, HLK_HDM_DPA_BASE_HI, HLK_HDM_LIMIT] s t)) ∧
    (s.flag HLK_STAT_HDM_COMMITTED = true → Answers (.hdmSet m) s (fun t => KmiDone t m stBadState [] 0 ∧ RegsBut [KMI_MBX_STATE] s t)) ∧
    (s.flag HLK_STAT_HDM_COMMITTED = false → bits c.a0 36 0 % 2 ^ 28 ≠ 0 → Answers (.hdmSet m) s (fun t => KmiDone t m stBadArg [] 0 ∧
      RegsBut [KMI_MBX_STATE] s t)))

/-- The power controller (R477 to R484, R415, R495): a decision acts only in RUN with AUTO_EN, no vote, entry or wake under way, and
in the rest window while ticks run; a choice of IDLE is taken at once, a deeper one asks every participant, and a refusal begins a
back-off; STOP goes to the participants in order, and a refusal undoes the vote; the back-off ends when it is over; PWR_LIMIT;
PWR_ROOMS switches Rooms off at once, and on by filling their banks; PWR_WAKE_REPORT. -/
def Obligations.PowerControl : Prop :=
  (∀ (s w : State) (t : Nat) (p : Bool), w = (s.setNow t).pwrShow →
    (w.flag PWR_CTRL_AUTO_EN = false ∨ w.get PWR_STATE_CUR ≠ 0 ∨ w.pwr.vote.isSome = true ∨ w.pwr.entering.isSome = true ∨ w.pwr.waking.isSome = true ∨
      (w.flag TCK_CTRL_EN = true ∧ w.get TCK_STATUS_STATE ≠ 4 ∧ w.tick.tickOpen = true ∧ w.tick.rest = false) → exec (.powerDecision t p) s = .next w) ∧
    (w.flag PWR_CTRL_AUTO_EN = true → w.get PWR_STATE_CUR = 0 → w.pwr.vote = none → w.pwr.entering = none → w.pwr.waking = none →
      w.flag TCK_CTRL_EN = false ∨ w.get TCK_STATUS_STATE = 4 ∨ w.tick.tickOpen = false ∨ w.tick.rest = true →
      (w.pwrChoice p = 0 → exec (.powerDecision t p) s = .next w) ∧
      (w.pwrChoice p = 1 → Answers (.powerDecision t p) s (fun u => u.get PWR_STATE_CUR = 1 ∧ u.pwr.schedWake = w.schedFor 1 ∧
        SameBut [.regs, .pwr] s u)) ∧
      (∀ k, w.pwrChoice p = k → 2 ≤ k → (∀ i < 12, (w.refuses k i || (i == 3 && !p)) = false) → Answers (.powerDecision t p) s (fun u =>
        u.pwr.vote = some (k, 0) ∧ u.pwr.schedWake = w.schedFor k ∧ u.get PWR_STATE_CUR = 0)) ∧
      (∀ k i, w.pwrChoice p = k → 2 ≤ k → i < 12 → (w.refuses k i || (i == 3 && !p)) = true → (∀ j < i, (w.refuses k j || (j == 3 && !p)) = false) →
        Answers (.powerDecision t p) s (fun u => u.pwr.vote = none ∧ Counts w u PWR_VOTE_CNT_REFUSED 0 ∧
          u.get PWR_VOTE_LAST_REFUSER = i ∧ u.pwr.backoff.isSome = true)))) ∧
  (∀ (s : State) (t k n : Nat) (b : Bool), s.pwr.vote = some (k, n) →
    (n < 11 → (s.setNow t).refuses k (n + 1) = false → b = false → Answers (.voteStop t b) s (fun u => u.pwr.vote = some (k, n + 1))) ∧
    (n < 11 → ((s.setNow t).refuses k (n + 1) = true ∨ b = true) → Answers (.voteStop t b) s (fun u => u.pwr.vote = none ∧
      u.get PWR_VOTE_LAST_REFUSER = n + 1 ∧ u.pwr.backoff.isSome = true ∧ u.pwr.padHold = none)) ∧
    (11 ≤ n → exec (.voteStop t b) s = .next (s.setNow t))) ∧
  (∀ (s : State) (t : Nat) (b : Bool), s.pwr.vote = none → exec (.voteStop t b) s = .next (s.setNow t)) ∧
  (∀ (s : State) (t b : Nat), s.pwr.backoff = some b →
    (timeGe t b = true → Answers (.voteBackoffEnd t) s (fun u => u.pwr.backoff = none ∧ SameBut [.regs, .pwr] s u)) ∧
    (timeGe t b = false → exec (.voteBackoffEnd t) s = .next (s.setNow t))) ∧
  (∀ (s : State) (t : Nat), s.pwr.backoff = none → exec (.voteBackoffEnd t) s = .next (s.setNow t)) ∧
  (∀ (s : State) (m : Nat) (c : KmiCmd), KmiReady s 0x0903 m c → Answers (.pwrLimit m) s (fun t => KmiDone t m stOk [] 0 ∧
    t.get PWR_CTRL_LIMIT = bits c.a0 2 0 ∧ SameBut [.kmi, .regs, .out, .pba] s t)) ∧
  (∀ (s : State) (m : Nat) (c : KmiCmd), KmiReady s 0x0904 m c → c.a0 < 2 ^ 24 → c.a1 < 2 → (∀ r ∈ s.kmi.running, runOp 0x0904 r = false) →
    ((∀ r ∈ bitList c.a0 24, s.sessionRooms.contains r = false ∧ bitB s.slotRooms r = false) →
      (c.a1 = 0 → Answers (.pwrRooms m) s (fun t => KmiDone t m stOk [] 0 ∧
        ∀ r ∈ bitList c.a0 24, t.roomOn r = false ∧ bitB (t.get PWR_ROOM_OFF_ROOMS) r = true)) ∧
      (c.a1 = 1 → ∀ r ∈ bitList c.a0 24, s.roomOn r = false → s.plane r (bits (s.sel r) 0 0) = 3 → Answers (.pwrRooms m) s (fun t =>
        KmiRuns t m c ∧ t.roomOn r = true ∧ bitB t.cfg.filling r = true ∧ bitB (t.get PWR_ROOM_OFF_ROOMS) r = false)) ∧
      (c.a1 = 1 → (∀ r ∈ bitList c.a0 24, s.roomOn r = true ∧ bitB s.cfg.filling r = false) → Answers (.pwrRooms m) s (fun t => KmiDone t m stOk [] 0 ∧
        ∀ r ∈ bitList c.a0 24, t.roomOn r = true ∧ bitB (t.get PWR_ROOM_OFF_ROOMS) r = false))) ∧
    (∀ r ∈ bitList c.a0 24, s.sessionRooms.contains r = true → Answers (.pwrRooms m) s (fun t => KmiDone t m stBadState [] 0 ∧ t.cfg = s.cfg))) ∧
  (∀ (s : State) (m : Nat) (c : KmiCmd), KmiReady s 0x0904 m c → (2 ^ 24 ≤ c.a0 ∨ 2 ≤ c.a1) → (∀ r ∈ s.kmi.running, runOp 0x0904 r = false) →
    Answers (.pwrRooms m) s (fun t => KmiDone t m stBadArg [] 0 ∧ t.cfg = s.cfg)) ∧
  (∀ (s : State) (m : Nat) (c : KmiCmd), KmiReady s 0x0905 m c → Answers (.pwrWakeReport m) s (fun t =>
    KmiDone t m stOk [s.pwr.repState + 2 ^ 3 * s.pwr.repFailed + 2 ^ 16 * s.get PWR_WAKE_LAT_LAT_US, s.pwr.repCold, s.pwr.repTime] 0 ∧
    SameBut [.kmi, .regs, .out, .pba] s t ∧ RegsBut [KMI_MBX_STATE] s t))

/-- Life-cycle transitions (R541, R542, R546, R553, R416): LC_ADVANCE goes one state on with a token of the state's authority and
programs that transition's field; SCRAP programs F5 with the tokens that its state asks for; a wrong token is counted and changes no
state; keys go into blank slots only. -/
def Obligations.LifeCycleTransitions : Prop :=
  (∀ (s : State) (m : Nat) (c : KmiCmd), KmiReady s 0x0A01 m c → Answers (.lcStatus m) s (fun t =>
    KmiDone t m stOk [(if s.flag TGT_LC_INCOMPLETE = true ∧ s.get TGT_LC_STATE < 4 then s.get TGT_LC_STATE + 1 else s.get TGT_LC_STATE) +
      2 ^ 4 * s.get TGT_DBG_LEVEL + 2 ^ 6 * b2n (s.flag TGT_LC_INCOMPLETE)] 0 ∧ SameBut [.kmi, .regs, .out, .pba] s t ∧ RegsBut [KMI_MBX_STATE] s t)) ∧
  (∀ (s : State) (m k : Nat) (c : KmiCmd), KmiReady s 0x0A02 m c → s.get TGT_LC_STATE = k →
    (bits c.a0 2 0 = 5 ∨ c.dataIn.length ≠ 96 → Answers (.lcAdvance m) s (fun t => KmiDone t m stBadArg [] 0 ∧ RegsBut [KMI_MBX_STATE] s t)) ∧
    (bits c.a0 2 0 ≠ 5 → c.dataIn.length = 96 → (bits c.a0 2 0 ≠ k + 1 ∨ 3 < k ∨ s.flag TGT_LC_INCOMPLETE = true ∨ s.flag TGT_LC_LC_BAD = true) →
      Answers (.lcAdvance m) s (fun t => KmiDone t m stRefusedLc [] 0 ∧ RegsBut [KMI_MBX_STATE] s t)) ∧
    (bits c.a0 2 0 = k + 1 → k ≤ 3 → c.dataIn.length = 96 → s.flag TGT_LC_INCOMPLETE = false → s.flag TGT_LC_LC_BAD = false →
      (s.tokenOk (if k ≤ 1 then 1 else 2) (s.serial ++ [k, k + 1]) c.dataIn = false →
        Answers (.lcAdvance m) s (fun t => KmiDone t m stAuthFail [] 0 ∧ Counts s t TGT_CNT_AUTH_FAIL 0 ∧ t.pnt = s.pnt ∧
          t.get TGT_LC_STATE = k)) ∧
      (s.tokenOk (if k ≤ 1 then 1 else 2) (s.serial ++ [k, k + 1]) c.dataIn = true →
        (s.advanceOk k = false → Answers (.lcAdvance m) s (fun t => KmiDone t m stRefusedLc [] 0 ∧ t.pnt = s.pnt)) ∧
        (s.advanceOk k = true → Answers (.lcAdvance m) s (fun t => KmiRuns t m c ∧ t.pnt.otp = some (2, lcFieldData (k + 1), m + 1) ∧
          t.get TGT_DBG_LEVEL = 0 ∧ t.get BST_ARM_SCOPE = 0 ∧ t.flag OTP_STAT_BUSY = true ∧ t.otp = s.otp))))) ∧
  (∀ (s : State) (m k : Nat) (c : KmiCmd), KmiReady s 0x0A07 m c → s.get TGT_LC_STATE = k →
    (s.flag TGT_LC_INCOMPLETE = true ∨ 5 ≤ k → Answers (.scrap m) s (fun t => KmiDone t m stRefusedLc [] 0 ∧ t.pnt = s.pnt)) ∧
    (s.flag TGT_LC_INCOMPLETE = false → k < 5 → c.dataIn.length ≠ 96 → (k = 0 → c.dataIn ≠ []) →
      (k = 2 → rowValid (s.otpRow 11) = true → c.dataIn.length ≠ 192) → Answers (.scrap m) s (fun t => KmiDone t m stBadArg [] 0 ∧ t.pnt = s.pnt)) ∧
    (s.flag TGT_LC_INCOMPLETE = false → k = 0 → c.dataIn = [] ∨ c.dataIn.length = 96 → Answers (.scrap m) s (fun t => KmiRuns t m c ∧
      t.pnt.otp = some (2, lcFieldData 5, m + 1) ∧ t.get TGT_DBG_LEVEL = 0 ∧ t.otp = s.otp)) ∧
    (s.flag TGT_LC_INCOMPLETE = false → k = 1 ∨ k = 4 ∨ (k = 2 ∧ rowValid (s.otpRow 11) = false) → c.dataIn.length = 96 →
      (s.tokenOk 1 (s.serial ++ [k, 5]) c.dataIn = false →
        Answers (.scrap m) s (fun t => KmiDone t m stAuthFail [] 0 ∧ Counts s t TGT_CNT_AUTH_FAIL 0 ∧ t.pnt = s.pnt)) ∧
      (s.tokenOk 1 (s.serial ++ [k, 5]) c.dataIn = true → Answers (.scrap m) s (fun t => KmiRuns t m c ∧ t.pnt.otp = some (2, lcFieldData 5, m + 1)))) ∧
    (s.flag TGT_LC_INCOMPLETE = false → k = 2 → rowValid (s.otpRow 11) = true → c.dataIn.length = 192 →
      (s.tokenOk 1 (s.serial ++ [2, 5]) (c.dataIn.take 96) = true → s.tokenOk 2 (s.serial ++ [2, 5]) (c.dataIn.drop 96) = true →
        Answers (.scrap m) s (fun t => KmiRuns t m c ∧ t.pnt.otp = some (2, lcFieldData 5, m + 1))) ∧
      (s.tokenOk 1 (s.serial ++ [2, 5]) (c.dataIn.take 96) = false ∨ s.tokenOk 2 (s.serial ++ [2, 5]) (c.dataIn.drop 96) = false →
        Answers (.scrap m) s (fun t => KmiDone t m stAuthFail [] 0 ∧ Counts s t TGT_CNT_AUTH_FAIL 0 ∧ t.pnt = s.pnt))) ∧
    (s.flag TGT_LC_INCOMPLETE = false → k = 3 → c.dataIn.length = 96 →
      (s.tokenOk 2 (s.serial ++ [3, 5]) c.dataIn = false →
        Answers (.scrap m) s (fun t => KmiDone t m stAuthFail [] 0 ∧ Counts s t TGT_CNT_AUTH_FAIL 0 ∧ t.pnt = s.pnt)) ∧
      (s.tokenOk 2 (s.serial ++ [3, 5]) c.dataIn = true → Answers (.scrap m) s (fun t => KmiRuns t m c ∧ t.pnt.otp = some (2, lcFieldData 5, m + 1))))) ∧
  (∀ (s : State) (m : Nat) (c : KmiCmd), KmiReady s 0x0A06 m c →
    (bits c.a0 7 0 < 16 → (c.dataIn.length = 32 ∨ c.dataIn.length = 96) →
      ((s.otpRow (16 + bits c.a0 7 0)).all (· == 0) = true → s.flag OTP_STAT_BUSY = false → Answers (.keyProvision m) s (fun t => KmiRuns t m c ∧
        (∃ d, t.pnt.otp = some (16 + bits c.a0 7 0, d, m + 1) ∧ (d.drop 4).take c.dataIn.length = c.dataIn ∧ d.length = 128) ∧
        t.flag OTP_STAT_BUSY = true ∧ t.otp = s.otp)) ∧
      ((s.otpRow (16 + bits c.a0 7 0)).all (· == 0) = false → Answers (.keyProvision m) s (fun t => KmiDone t m stBadState [] 0 ∧ t.pnt = s.pnt)) ∧
      ((s.otpRow (16 + bits c.a0 7 0)).all (· == 0) = true → s.flag OTP_STAT_BUSY = true →
        Answers (.keyProvision m) s (fun t => KmiDone t m stBusy [] 0 ∧ t.pnt = s.pnt))) ∧
    (16 ≤ bits c.a0 7 0 ∨ (c.dataIn.length ≠ 32 ∧ c.dataIn.length ≠ 96) →
      Answers (.keyProvision m) s (fun t => KmiDone t m stBadArg [] 0 ∧ t.pnt = s.pnt)))

/-- Debug levels (R549, R551, R552, R556, R559, R560): a challenge carries its level and waits out a back-off; a response that
verifies before the challenge expires opens the level, any other is counted and spends the challenge, from the eighth in a row on
with a back-off; level 0 is always open and DEBUG_LOCK returns to it; flip-flop capture needs an authorised Room; the JTAG
instructions of the same names do the same. JTAG instructions (R560): each selects its register and presents it; EXTEST below D2
acts as SAMPLE/PRELOAD, and an instruction whose level is not open selects BYPASS; the TAP reset selects IDCODE; with VAON out of
range the port does nothing. -/
def Obligations.DebugLevelsAndJtag : Prop :=
  ((∀ (s : State) (m : Nat) (c : KmiCmd), KmiReady s 0x0A03 m c →
    (bits c.a0 1 0 ≠ 0 → s.debugAuth (bits c.a0 1 0) = [] → Answers (.debugChallenge m) s (fun t => KmiDone t m stRefusedLc [] 0 ∧ t.lc = s.lc)) ∧
    ((bits c.a0 1 0 = 0 ∨ s.debugAuth (bits c.a0 1 0) ≠ []) → (s.lc.backoff = 0 ∨ timeGe s.now s.lc.backoff = true) → Answers (.debugChallenge m) s (fun t =>
      (∃ w, w.length = 6 ∧ KmiDone t m stOk w 0) ∧ (∃ d, t.lc.chal = some d ∧ d.length = 48 ∧ d.getD 36 0 = bits c.a0 1 0) ∧
      t.flag TGT_DBG_CHAL_VALID = true ∧ t.freeCount = s.freeCount + 1)) ∧
    ((bits c.a0 1 0 = 0 ∨ s.debugAuth (bits c.a0 1 0) ≠ []) → s.lc.backoff ≠ 0 → timeGe s.now s.lc.backoff = false →
      Answers (.debugChallenge m) s (fun t => KmiDone t m stBusy [] 0 ∧ t.lc = s.lc))) ∧
  (∀ (s : State) (m n : Nat) (c : KmiCmd), KmiReady s 0x0A04 m c → bits c.a0 1 0 = n →
    (c.dataIn.length ≠ 96 → Answers (.debugUnlock m) s (fun t => KmiDone t m stBadArg [] 0 ∧ t.lc = s.lc)) ∧
    (c.dataIn.length = 96 →
      (n = 0 → Answers (.debugUnlock m) s (fun t => KmiDone t m stOk [] 0 ∧ t.get TGT_DBG_LEVEL = 0)) ∧
      (n ≠ 0 → s.debugAuth n = [] → Answers (.debugUnlock m) s (fun t => KmiDone t m stRefusedLc [] 0 ∧ t.lc = s.lc ∧ RegsBut [KMI_MBX_STATE] s t)) ∧
      (n ≠ 0 → 3 ∈ s.debugAuth n → Answers (.debugUnlock m) s (fun t => KmiDone t m stOk [] 0 ∧ t.get TGT_DBG_LEVEL = n ∧
        t.get TGT_DBG_AUTH = 3)) ∧
      (n ≠ 0 → 3 ∉ s.debugAuth n → ∀ d, s.lc.chal = some d → d.getD 36 0 = n → timeGe s.now s.chalEnd = false →
        ∀ a l, (s.debugAuth n).filter (fun x => s.tokenOk x (d ++ s.serial) c.dataIn) = a :: l → Answers (.debugUnlock m) s (fun t => KmiDone t m stOk [] 0 ∧
          t.get TGT_DBG_LEVEL = n ∧ t.get TGT_DBG_AUTH = a ∧ t.get TGT_CHAL_FAILS = 0 ∧ t.lc.chal = none ∧ t.lc.backoff = 0 ∧
          t.flag TGT_DBG_CHAL_VALID = false)) ∧
      (n ≠ 0 → 3 ∉ s.debugAuth n → s.debugAuth n ≠ [] → (s.lc.chal = none ∨ (s.lc.chal.getD []).getD 36 0 ≠ n ∨ timeGe s.now s.chalEnd = true ∨
        (s.debugAuth n).filter (fun a => s.tokenOk a (s.lc.chal.getD [] ++ s.serial) c.dataIn) = []) → Answers (.debugUnlock m) s (fun t =>
          KmiDone t m stAuthFail [] 0 ∧ t.get TGT_DBG_LEVEL = s.get TGT_DBG_LEVEL ∧ Counts s t TGT_CNT_AUTH_FAIL 0 ∧ Counts s t TGT_CHAL_FAILS 0 ∧
          t.lc.chal = none ∧ t.flag TGT_DBG_CHAL_VALID = false ∧
          (s.get TGT_CHAL_FAILS < 7 → t.lc.backoff = s.lc.backoff) ∧
          (7 ≤ s.get TGT_CHAL_FAILS → t.lc.backoff = (s.now + nsUnits (1000000000 * 2 ^ min 10 (s.get TGT_CHAL_FAILS - 7))) % 2 ^ 64))))) ∧
  (∀ (s : State) (m : Nat) (c : KmiCmd), KmiReady s 0x0A05 m c → Answers (.debugLock m) s (fun t => KmiDone t m stOk [] 0 ∧
    t.get TGT_DBG_LEVEL = 0 ∧ t.get TGT_DBG_AUTH = 0 ∧ t.flag TGT_DBG_HALTED = false ∧ SameBut [.kmi, .regs, .out, .pba] s t)) ∧
  (∀ s : State,
    (s.lc.chal ≠ none → Answers .challengeExpiry s (fun t => t.lc.chal = none ∧ t.flag TGT_DBG_CHAL_VALID = false ∧
      (timeGe s.chalEnd s.now = true → t.now = s.chalEnd) ∧ SameBut [.lc, .regs] s t ∧ RegsBut [TGT_DBG_CHAL_VALID, MSU_TIME_LO, MSU_TIME_HI] s t)) ∧
    (s.lc.chal = none → exec .challengeExpiry s = .next s)) ∧
  (∀ (s : State) (m : Nat) (c : KmiCmd), KmiReady s 0x0A08 m c →
    (bits c.a0 4 0 < 24 → bits c.a2 16 0 ≠ 0 → bits c.a1 16 0 + bits c.a2 16 0 ≤ 3200 →
      (s.roomActive (bits c.a0 4 0) = true → s.ffAllowed (bits c.a0 4 0) = true → Answers (.ffCapture m) s (fun t => KmiRuns t m c ∧
        t.lc.captures = s.lc.captures ++ [(m, bits c.a0 4 0, bits c.a1 16 0, bits c.a2 16 0)])) ∧
      (s.roomActive (bits c.a0 4 0) = true → s.ffAllowed (bits c.a0 4 0) = false →
        Answers (.ffCapture m) s (fun t => KmiDone t m stRefusedDebug [] 0 ∧ t.lc = s.lc)) ∧
      (s.roomActive (bits c.a0 4 0) = false → Answers (.ffCapture m) s (fun t => KmiDone t m stBadState [] 0 ∧ t.lc = s.lc))) ∧
    (24 ≤ bits c.a0 4 0 ∨ bits c.a2 16 0 = 0 ∨ 3200 < bits c.a1 16 0 + bits c.a2 16 0 →
      Answers (.ffCapture m) s (fun t => KmiDone t m stBadArg [] 0 ∧ t.lc = s.lc))) ∧
  (∀ (s : State) (n : Nat) (r : List Nat),
    (s.jtagOn = true → s.domOn 25 = true →
      (n % 4 = 0 ∨ s.debugAuth (n % 4) ≠ [] → s.lc.backoff = 0 ∨ timeGe s.now s.lc.backoff = true → Answers (.tgtChallenge n) s (fun t => t.lc.ir = 0x11 ∧
        ∃ d, t.lc.chal = some d ∧ t.lc.dr = leNat d)) ∧
      ((n % 4 ≠ 0 ∧ s.debugAuth (n % 4) = []) ∨ (s.lc.backoff ≠ 0 ∧ timeGe s.now s.lc.backoff = false) → Answers (.tgtChallenge n) s (fun t =>
        t.lc.ir = 0x11 ∧ t.lc.dr = 0 ∧ t.lc.chal = s.lc.chal ∧ SameBut [.lc, .out] s t)) ∧
      Answers (.tgtResponse n r) s (fun t => t.lc.ir = 0x12 ∧ t.regs = (s.unlock (n % 4) r 0x12).2.regs ∧
        t.lc.chal = (s.unlock (n % 4) r 0x12).2.lc.chal ∧ t.lc.backoff = (s.unlock (n % 4) r 0x12).2.lc.backoff)) ∧
    (s.jtagOn = false ∨ s.domOn 25 = false → exec (.tgtChallenge n) s = .next s ∧ exec (.tgtResponse n r) s = .next s))) ∧
  ((∀ s : State, s.jtagOn = true →
    Answers .idcode s (fun t => t.lc.ir = 1 ∧ t.lc.dr = 0x12400B47 ∧ SameBut [.lc, .out] s t) ∧
    (∀ p, Answers (.samplePreload p) s (fun t => t.lc.ir = 2 ∧ t.lc.bsr = p ∧ t.lc.dr = p ∧ SameBut [.lc, .out] s t)) ∧
    (∀ n, Answers (.bypass n) s (fun t => t.lc.ir = 0xFF ∧ t.lc.dr = 0 ∧ SameBut [.lc, .out] s t)) ∧
    Answers .tgtStatus s (fun t => t.lc.ir = 0x10 ∧ t.regs = s.regs ∧ t.lc.bsr = s.lc.bsr ∧ SameBut [.lc, .out] s t) ∧
    (s.d2 = true →
      Answers .extest s (fun t => t.lc.ir = 0 ∧ t.lc.dr = s.lc.bsr ∧ t.lc.bsr = s.lc.bsr ∧ SameBut [.lc, .out, .ldg, .regs, .kmi, .pba] s t) ∧
      Answers .jtagClamp s (fun t => t.lc.ir = 3 ∧ t.lc.bsr = s.lc.bsr ∧ SameBut [.lc, .out, .ldg, .regs, .kmi, .pba] s t) ∧
      Answers .highz s (fun t => t.lc.ir = 4 ∧ t.lc.bsr = s.lc.bsr ∧ SameBut [.lc, .out, .ldg, .regs, .kmi, .pba] s t) ∧
      (∀ h, Answers (.dbgHalt h) s (fun t => t.lc.ir = 0x21 ∧ t.flag TGT_DBG_HALTED = h ∧ SameBut [.lc, .out, .regs, .kmi] s t ∧
        RegsBut [TGT_DBG_HALTED] s t))) ∧
    (s.d2 = false →
      Answers .extest s (fun t => t.lc.ir = 2 ∧ t.lc.dr = s.lc.bsr ∧ SameBut [.lc, .out] s t) ∧
      Answers .jtagClamp s (fun t => t.lc.ir = 0xFF ∧ SameBut [.lc, .out] s t) ∧ Answers .highz s (fun t => t.lc.ir = 0xFF ∧ SameBut [.lc, .out] s t) ∧
      (∀ h, Answers (.dbgHalt h) s (fun t => t.lc.ir = 0xFF ∧ SameBut [.lc, .out] s t))) ∧
    (∀ room tile, room < 24 → tile < 3200 →
      (s.roomActive room = true → s.ffAllowed room = true → Answers (.ffRead room tile) s (fun t => t.lc.ir = 0x22 ∧ t.lc.dr = s.tileFfs room tile ∧
        SameBut [.lc, .out] s t)) ∧
      (s.roomActive room = false ∨ s.ffAllowed room = false → Answers (.ffRead room tile) s (fun t => t.lc.ir = 0xFF ∧ SameBut [.lc, .out] s t))) ∧
    (∀ n, 0x30 ≤ n → n ≤ 0x3F →
      (s.get TGT_DBG_LEVEL = 3 → Answers (.factoryTest n) s (fun t => t.lc.ir = n ∧ t.freeCount = s.freeCount + 1 ∧
        SameBut [.lc, .out, .freeCount] s t)) ∧
      (s.get TGT_DBG_LEVEL ≠ 3 → Answers (.factoryTest n) s (fun t => t.lc.ir = 0xFF ∧ SameBut [.lc, .out] s t)))) ∧
  (∀ s : State, Answers .trstN s (fun t => t.lc.ir = 1 ∧ t.lc.bsr = s.lc.bsr ∧ t.lc.chal = s.lc.chal ∧ SameBut [.lc] s t)) ∧
  (∀ s : State, s.jtagOn = false → exec .idcode s = .next s ∧ exec .extest s = .next s ∧ exec .highz s = .next s ∧ exec .jtagClamp s = .next s ∧
    exec .tgtStatus s = .next s ∧ (∀ h, exec (.dbgHalt h) s = .next s) ∧ (∀ p, exec (.samplePreload p) s = .next s) ∧ (∀ n, exec (.bypass n) s = .next s) ∧
    (∀ r k, r < 24 → k < 3200 → exec (.ffRead r k) s = .next s) ∧ (∀ n, 0x30 ≤ n → n ≤ 0x3F → exec (.factoryTest n) s = .next s)))

/-- The Ledger (R576 to R578, R580, R581, R583, R584): an event is recorded with the next SEQ and the count of those suppressed
before it, suppressed where its bucket is empty, dropped where the buffer is full, and queued in AON while PD25 is off; a bucket
refills up to BURST, one token in each period; an archived page takes its records out of the buffer, a failed one leaves them;
LEDGER_ARCHIVE and LEDGER_READ. -/
def Obligations.LedgerRecords : Prop :=
  (∀ (s : State) (code d t n q : Nat), code < 2 ^ 16 → d < 2 ^ 64 → s.domOn 25 = true →
    n = Assoc.get 0 code s.ldg.suppressed → q = s.get LDG_HEAD_SEQ →
    (s.flag LDG_CTRL_EN = false → exec (.ledgerEvent code d t) s = .next (s.setNow t)) ∧
    (s.flag LDG_CTRL_EN = true → ledgerClass code = 0 ∨ s.tokensOf code ≠ 0 →
      (s.ldg.buf.length < 1020 → s.ldg.droppedRun = 0 → Answers (.ledgerEvent code d t) s (fun u =>
        u.ldg.buf = s.ldg.buf ++ [⟨q, code, if n = 0 then 0 else 2, s.tickno, n, t % 2 ^ 64, d⟩] ∧
        u.get LDG_HEAD_SEQ = (q + 1) % 2 ^ 32 ∧ u.get LDG_STAT_HELD = s.ldg.buf.length + 1 ∧ Assoc.get 0 code u.ldg.suppressed = 0 ∧
        (ledgerClass code ≠ 0 → u.tokensOf code = s.tokensOf code - 1) ∧ SameBut [.ldg, .regs] s u)) ∧
      (s.ldg.buf.length < 1019 → s.ldg.droppedRun ≠ 0 → n = 0 → Answers (.ledgerEvent code d t) s (fun u =>
        u.ldg.buf = s.ldg.buf ++ [⟨q, 0x0808, 0, s.tickno, 0, t % 2 ^ 64, s.ldg.droppedRun⟩, ⟨(q + 1) % 2 ^ 32, code, 0, s.tickno, 0, t % 2 ^ 64, d⟩] ∧
        u.ldg.droppedRun = 0 ∧ u.flag LDG_STAT_FULL = false)) ∧
      (1020 ≤ s.ldg.buf.length → Answers (.ledgerEvent code d t) s (fun u => u.ldg.buf = s.ldg.buf ∧
        Counts s u LDG_CNT_DROPPED 0 ∧ u.ldg.droppedRun = s.ldg.droppedRun + 1 ∧ u.flag LDG_STAT_FULL = true ∧
        u.ldg.suppressed = s.ldg.suppressed))) ∧
    (s.flag LDG_CTRL_EN = true → ledgerClass code ≠ 0 → s.tokensOf code = 0 → Answers (.ledgerEvent code d t) s (fun u => u.ldg.buf = s.ldg.buf ∧
      Counts s u LDG_CNT_SUPPRESSED 0 ∧ Assoc.get 0 code u.ldg.suppressed = satInc 0xFFFF n ∧ SameBut [.ldg, .regs] s u))) ∧
  (∀ (s : State) (code d t : Nat), code < 2 ^ 16 → d < 2 ^ 64 → s.domOn 25 = false →
    (s.ldg.aonQ.length < 16 → Answers (.ledgerEvent code d t) s (fun u =>
      u.ldg.aonQ = s.ldg.aonQ ++ [⟨0, code, 1, s.tickno, 0, t % 2 ^ 64, d⟩] ∧ u.ldg.buf = s.ldg.buf ∧ SameBut [.ldg, .regs] s u)) ∧
    (16 ≤ s.ldg.aonQ.length → Answers (.ledgerEvent code d t) s (fun u => u.ldg = s.ldg ∧ Counts s u LDG_AONQ_LOST 0))) ∧
  (∀ (s : State) (code at_ : Nat), code < 2 ^ 16 →
    (code = 0 → exec (.ledgerFwCode code) s = .next s) ∧
    (code ≠ 0 → exec (.ledgerFwCode code) s = .next (s.ledger code (s.get LDG_FW_D_LO + 2 ^ 32 * s.get LDG_FW_D_HI))) ∧
    (ledgerClass code ≠ 0 → at_ = ((Assoc.find? code s.ldg.tokenAt).getD s.boot.time0 + s.tokenPeriod (ledgerClass code)) % 2 ^ 64 →
      Answers (.tokenRefill code) s (fun t => t.tokensOf code = min (s.burst (ledgerClass code)) (s.tokensOf code + 1) ∧
        (timeGe at_ s.now = true → t.now = at_) ∧ Assoc.find? code t.ldg.tokenAt = some at_ ∧
        (∀ k, k ≠ code → t.tokensOf k = s.tokensOf k) ∧ SameBut [.ldg, .regs] s t ∧ RegsBut [MSU_TIME_LO, MSU_TIME_HI] s t)) ∧
    (ledgerClass code = 0 → exec (.tokenRefill code) s = .next s)) ∧
  (∀ s : State, s.flag LDG_CTRL_ARCH_EN = true → s.archReady = true →
    7 ≤ s.ldg.buf.length ∨ (∃ r, s.ldg.buf.head? = some r ∧ msUnits (s.get LDG_ARCH_AGE_MS) ≤ elapsed s.now r.time) →
    Answers (.archivePage true) s (fun t => t.ldg.buf = s.ldg.buf.drop 7 ∧ t.get LDG_STAT_HELD = (s.ldg.buf.drop 7).length % 2 ^ 10 ∧
      (∀ n, s.archNext = some n → timeGe n s.now = true → t.now = n) ∧ SameBut [.ldg, .regs, .pantry, .pnt] s t) ∧
    Answers (.archivePage false) s (fun t => s.ldg.buf <+: t.ldg.buf)) ∧
  (∀ (s : State) (b : Bool), s.flag LDG_CTRL_ARCH_EN = false ∨ s.archReady = false ∨ s.ldg.buf = [] → exec (.archivePage b) s = .next s) ∧
  (∀ (s : State) (m : Nat) (c : KmiCmd), KmiReady s 0x0821 m c →
    (s.flag LDG_STAT_ARCH_BUSY = false → s.archReady = true → Answers (.ledgerArchive m) s (fun t => KmiDone t m stOk [s.ldg.buf.length] 0 ∧
      t.ldg.buf = [])) ∧
    (s.flag LDG_STAT_ARCH_BUSY = false → s.archReady = false → Answers (.ledgerArchive m) s (fun t => KmiDone t m stHwFault [0] 0 ∧ t.ldg = s.ldg)) ∧
    (s.flag LDG_STAT_ARCH_BUSY = true → Answers (.ledgerArchive m) s (fun t => KmiDone t m stBusy [] 0 ∧ t.ldg = s.ldg))) ∧
  (∀ (s : State) (m : Nat) (c : KmiCmd), KmiReady s 0x0820 m c → Answers (.ledgerRead m) s (fun t => (∃ a b n, KmiDone t m stOk [a, b] n) ∧
    KmiData t m c ((((seqRun ((List.range 12288).flatMap (fun i => s.archRecords ((s.ldg.archPage + i) % 12288)) ++
      s.ldg.buf.map (fun r => (r.seq, recordImage r)))).filter (fun r => r.1 == c.a0 % 2 ^ 32 || seqAbove r.1 (c.a0 % 2 ^ 32))).take
        (c.a1 % 2 ^ 16)).flatMap (·.2)) ∧
    SameBut [.kmi, .regs, .out, .pba] s t ∧ RegsBut [KMI_MBX_STATE] s t))

/-- Built-in self-test (R566, R568 to R572, R575) and the entry that runs it (R483, R485, R486): BIST_RUN arms or starts a scope
that Table 19-1 allows; GO begins it where the conditions hold, and else nothing runs; a clean run ends with the next run number,
and is discarded where NVWP_N protects the table; an aborted one records it; BIST_RESULT; compaction renews a copy; an entry
switches its domains off, or runs an armed test first. -/
def Obligations.SelfTestAndEntry : Prop :=
  (∀ (s : State) (m : Nat) (c : KmiCmd), KmiReady s 0x0828 m c →
    (bits c.a0 15 0 = 0 ∨ bits c.a0 15 0 &&& bistReserved ≠ 0 → Answers (.bistRun m) s (fun t => KmiDone t m stBadArg [] 0 ∧
      RegsBut [KMI_MBX_STATE] s t)) ∧
    (bits c.a0 15 0 ≠ 0 → bits c.a0 15 0 &&& bistReserved = 0 →
      (bitB c.a0 16 = false → Answers (.bistRun m) s (fun t => KmiDone t m stOk [] 0 ∧ t.get BST_ARM_SCOPE = bits c.a0 15 0 ∧
        RegsBut [KMI_MBX_STATE, BST_ARM_SCOPE] s t)) ∧
      (bitB c.a0 16 = true → bits c.a0 15 0 &&& bistOnCommand = bits c.a0 15 0 → s.loaderBusy = false → s.get BST_STAT_STATE = 0 →
        Answers (.bistRun m) s (fun t => KmiRuns t m c ∧ t.get BST_STAT_STATE = 1 ∧ t.get BST_SCOPE = bits c.a0 15 0)) ∧
      (bitB c.a0 16 = true → bits c.a0 15 0 &&& bistOnCommand = bits c.a0 15 0 → s.loaderBusy = true ∨ s.get BST_STAT_STATE ≠ 0 →
        Answers (.bistRun m) s (fun t => KmiDone t m stBadState [] 0 ∧ RegsBut [KMI_MBX_STATE] s t)) ∧
      (bitB c.a0 16 = true → bits c.a0 15 0 &&& bistOnCommand ≠ bits c.a0 15 0 →
        Answers (.bistRun m) s (fun t => KmiDone t m stBadArg [] 0 ∧ RegsBut [KMI_MBX_STATE] s t)))) ∧
  (∀ s : State, s.domOn 25 = true → s.get BST_STAT_STATE < 2 → s.pwr.entering = none →
    (s.loaderBusy = false → s.get BST_SCOPE ≠ 0 → s.get BST_SCOPE &&& bistOnCommand = s.get BST_SCOPE → Answers (.bistGo true true) s (fun t =>
      t.bist.todo = bistElements (s.get BST_SCOPE) ∧ (t.get BST_STAT_STATE = 2 ∨ t.get BST_STAT_STATE = 3) ∧ t.flag BST_STAT_FAIL = false ∧
      SameBut [.bist, .regs] s t)) ∧
    (∀ (r : RunCmd) (v k : Bool), s.kmi.running = [r] → runOp 0x0828 r = true → r.abandoned = false → r.mbx < s.kmi.mbx.length →
      v = false ∨ k = false ∨ s.loaderBusy = true ∨ s.get BST_SCOPE = 0 ∨ s.get BST_SCOPE &&& bistOnCommand ≠ s.get BST_SCOPE →
      Answers (.bistGo v k) s (fun t => KmiDone t r.mbx stBadState [] 0 ∧ t.get BST_STAT_STATE = 0 ∧ t.bist = s.bist))) ∧
  (∀ (s : State) (n : Nat), s.domOn 25 = true → s.get BST_STAT_STATE < 2 → s.pwr.entering = some n → s.bist.todo ≠ [] → s.bist.onCommand = false →
    Answers (.bistGo true true) s (fun t => t.bist = s.bist ∧ (t.get BST_STAT_STATE = 2 ∨ t.get BST_STAT_STATE = 3) ∧ SameBut [.regs] s t) ∧
    (∀ v k : Bool, v = false ∨ k = false → Answers (.bistGo v k) s (fun t => t.bist.todo = [] ∧ t.get BST_STAT_STATE = 0 ∧
      t.get BST_ARM_SCOPE = s.get BST_ARM_SCOPE ∧ t.pantry = s.pantry))) ∧
  (∀ (s : State) (v k : Bool), s.domOn 25 = false ∨ 2 ≤ s.get BST_STAT_STATE → exec (.bistGo v k) s = .next s) ∧
  (∀ (s : State) (n : Nat) (r : RunCmd), s.get BST_STAT_STATE ≠ 0 → s.bist.todo ≠ [] → s.bist.onCommand = true →
    s.kmi.running = [r] → runOp 0x0828 r = true → r.abandoned = false → r.mbx < s.kmi.mbx.length →
    (s.marked 0x410000 256 = true → s.pnt.nvwp = false → Answers (.bistRunDone [] false n) s (fun t => KmiDone t r.mbx stOk [] 0 ∧
      t.bist.run = s.bist.run ∧ t.bist.results = s.bist.results ∧ t.pantry = s.pantry)) ∧
    (s.marked 0x410000 256 = false ∨ s.pnt.nvwp = true → Answers (.bistRunDone [] false n) s (fun t => KmiDone t r.mbx stOk [] 0 ∧ t.get BST_STAT_STATE = 0 ∧ t.bist.todo = [] ∧
      t.bist.run = (s.bist.run + 1) % 2 ^ 16 ∧ t.flag BST_STAT_FAIL = false ∧ t.bist.entries = s.bist.entries))) ∧
  (∀ (s : State) (l : List BistFail) (w : Bool) (n : Nat), s.get BST_STAT_STATE = 0 ∨ s.bist.todo = [] → exec (.bistRunDone l w n) s = .next s) ∧
  (∀ s : State, 2 ≤ s.get BST_STAT_STATE → s.bist.todo ≠ [] → s.bist.onCommand = true → s.marked 0x410000 256 = false → Answers .bistAbort s (fun t =>
    t.flag BST_STAT_ABORTED = true ∧ t.get BST_STAT_STATE = 0 ∧ t.bist.run = (s.bist.run + 1) % 2 ^ 16 ∧ t.get BST_ARM_SCOPE = s.get BST_ARM_SCOPE)) ∧
  (∀ (s : State) (r : RunCmd), s.get BST_STAT_STATE = 1 → s.bist.todo = [] → s.kmi.running = [r] → runOp 0x0828 r = true → r.abandoned = false →
    r.mbx < s.kmi.mbx.length → Answers .bistAbort s (fun t => KmiDone t r.mbx stBadState [] 0 ∧ t.get BST_STAT_STATE = 0 ∧ t.pantry = s.pantry)) ∧
  (∀ s : State, s.get BST_STAT_STATE = 0 → exec .bistAbort s = .next s) ∧
  (∀ (s : State) (m : Nat) (c : KmiCmd), KmiReady s 0x0829 m c → Answers (.bistResult m) s (fun t =>
    KmiDone t m stOk [] (s.bist.results.flatMap (resultImage s.bist.run)).length ∧
    KmiData t m c (s.bist.results.flatMap (resultImage s.bist.run)) ∧ SameBut [.kmi, .regs, .out, .pba] s t)) ∧
  (∀ (s : State) (k : Nat), k < 2 → s.bist.pages.length = 2 → s.bist.gens.length = 2 → s.boot.opened = true → s.flag KMI_CTRL_FW_READY = true →
    248 < s.bist.pages.getD k 0 → s.marked 0x410000 256 = false → Answers (.repairCompact k) s (fun t =>
      t.bist.gens.getD k 0 = s.bist.gens.getD k 0 + 1 ∧ t.bist.entries = s.bist.entries ∧ SameBut [.bist, .pantry, .pnt] s t)) ∧
  (∀ (s : State) (k : Nat), k < 2 → s.boot.opened = false ∨ s.flag KMI_CTRL_FW_READY = false ∨ s.bist.pages.getD k 0 ≤ 248 ∨
    (s.marked 0x410000 256 = true ∧ s.pnt.nvwp = false) → exec (.repairCompact k) s = .next s) ∧
  (∀ (s : State) (t k : Nat), s.pwr.vote = some (k, 11) → 2 ≤ k → k ≤ 4 → k ≠ 4 ∨ s.get BST_ARM_SCOPE = 0 → Answers (.entryCommit t) s (fun u =>
    u.pwr.vote = none ∧ u.pwr.entering = some k ∧ u.domOn 28 = false ∧ (3 ≤ k → u.domOn 25 = false ∧ u.domOn 27 = false) ∧
    (k = 4 → u.domOn 26 = false) ∧ u.get PWR_LUG_STAT_SAVED = s.luggage k ∧ u.get PWR_VOTE_UNDO_CNT = 0)) ∧
  (∀ (s : State) (t : Nat), s.pwr.vote = some (4, 11) → s.get BST_ARM_SCOPE ≠ 0 → Answers (.entryCommit t) s (fun u => u.pwr.vote = none ∧
    u.pwr.entering = some 4 ∧ u.get BST_STAT_STATE = 1 ∧ u.bist.todo = bistElements (s.get BST_ARM_SCOPE) ∧ u.get PWR_DOM_ON = s.get PWR_DOM_ON)) ∧
  (∀ (s : State) (t k n : Nat), s.pwr.vote = none ∨ (s.pwr.vote = some (k, n) ∧ n ≠ 11) → exec (.entryCommit t) s = .next (s.setNow t))

/-- Starts (16, R497, R500, R507 to R510, R592, R593): POWER_ON starts every domain afresh, keeps the planes where no transition of
the life cycle has to be completed, and runs firmware from a copy that verifies, or halts where none does; supplies out of limits
hold every domain but PD24 in reset until they are good; a wake from OFF restarts the part; power loss ends all activity; the
Itinerary record is checked once; Opening opens the part where its conditions hold, and a start with nothing left to try fails. How
long each of these takes is not modelled. Fills of active banks and step 5 of a start (R355, R373, R499, R503, R513): a fill that
passes makes the bank ACTIVE; one that fails, or meets a frame that its plane holds as uncorrectable, makes it FAULT after Opening
and leaves it EMPTY before, where once the record is read the Room's other VALID plane is tried; a DRAM_TRAIN command that started
the training ends with its outcome; a training of a start is followed by full training where it fails first. The watchdog restarts
firmware alone unless it is halted (R385, R386, R558): commands posted or executing end HW_FAULT and SRAM is lost; a kick restarts
its count. -/
def Obligations.StartsFillsAndWatchdog : Prop :=
  ((∀ (s : State) (o : StartObs), Answers (.powerOn o) s (fun t => t.boot.kind = 1 ∧ t.boot.opened = false ∧ t.flag TCK_CTRL_EN = false ∧
    (s.lcDecode.flag TGT_LC_WIPE_PENDING = false → s.lcDecode.flag TGT_LC_INCOMPLETE = false → t.cfg.planeFr = s.cfg.planeFr) ∧
    t.pending = s.pending ∧ t.dram = [] ∧ (∀ d, 24 ≤ d → d < 30 → t.domOn d = true) ∧
    ((o.fw0 = true ∨ o.fw1 = true) → t.flag KMI_CTRL_FW_READY = true ∧ ∀ m, m < 15 → t.geti KMI_MBX_STATE m = 1) ∧
    (o.fw0 = false → o.fw1 = false → t.flag KMI_CTRL_FW_READY = false ∧ t.boot.failed = true))) ∧
  (∀ (s : State) (t : Nat), s.boot.powered = true → s.boot.supplyBad = false → s.get PWR_STATE_CUR ≠ 4 →
    Answers (.supplyReset t) s (fun u => u.boot.supplyBad = true ∧ u.get PWR_DOM_ON = 2 ^ 24 ∧ u.boot.opened = false ∧ u.cfg.load = none ∧
      u.cfg.planeFr = s.cfg.planeFr ∧ u.cfg.sel = s.cfg.sel ∧ u.now = t % 2 ^ 64 ∧ u.flag TCK_CTRL_EN = false)) ∧
  (∀ (s : State) (t : Nat), s.boot.powered = false ∨ s.boot.supplyBad = true ∨ s.get PWR_STATE_CUR = 4 → exec (.supplyReset t) s = .next s) ∧
  (∀ (s : State) (o : StartObs) (b : Bool), s.get PWR_STATE_CUR ≠ 4 ∨ s.pwr.waking = none → exec (.offWake o b) s = .next s) ∧
  (∀ (s : State) (o : StartObs) (t : Nat), s.boot.supplyBad = false → exec (.supplyGood o t) s = .next s) ∧
  (∀ (s : State) (o : StartObs), s.get PWR_STATE_CUR = 4 → s.pwr.waking.isSome = true →
    Answers (.offWake o false) s (fun t => t.boot.supplyBad = true ∧ t.get PWR_DOM_ON = 2 ^ 24 ∧ t.boot.kind = 3 ∧ t.boot.opened = false) ∧
    Answers (.offWake o true) s (fun t => t.boot.supplyBad = false ∧ t.boot.kind = 3 ∧ t.boot.opened = false ∧ t.get PWR_STATE_CUR = 0 ∧
      ∀ d, 24 ≤ d → d < 30 → t.domOn d = true)) ∧
  (∀ (s : State) (o : StartObs) (t : Nat), s.boot.supplyBad = true → Answers (.supplyGood o t) s (fun u => u.boot.supplyBad = false ∧
    (∀ d, 24 ≤ d → d < 30 → u.domOn d = true) ∧ ((o.fw0 = true ∨ o.fw1 = true) → u.flag KMI_CTRL_FW_READY = true))) ∧
  (∀ (s : State), Answers .powerLoss s (fun t => t.boot.powered = false ∧ t.boot.opened = false ∧ t.get PWR_DOM_ON = 0 ∧ t.dram = [] ∧
    t.cfg.planeFr = s.cfg.planeFr ∧ t.cfg.sel = s.cfg.sel ∧ t.kmi = State.reset.kmi)) ∧
  (∀ (s : State) (t locks : Nat), s.flag KMI_CTRL_FW_READY = true → s.boot.opened = false → s.boot.itin = 0 → s.cfg.filling = 0 →
    Answers (.itineraryCheck t locks) s (fun u => u.boot.itin ≠ 0 ∧ u.boot.opened = false ∧ u.fab.pllLocked = locks % 65536)) ∧
  (∀ (s : State) (t locks : Nat), s.flag KMI_CTRL_FW_READY = false ∨ s.boot.opened = true ∨ s.boot.itin ≠ 0 ∨ s.cfg.filling ≠ 0 →
    exec (.itineraryCheck t locks) s = .next s) ∧
  (∀ (s : State) (t : Nat), s.boot.opened = false →
    ((s.setNow t).openReady = true → Answers (.opening t) s (fun u => u.boot.opened = true ∧ u.boot.failed = false ∧ Out.pin pinOpen 1 ∈ u.out)) ∧
    ((s.setNow t).openReady = false → exec (.opening t) s = .next (s.setNow t))) ∧
  (∀ (s : State) (t : Nat), s.boot.opened = true → exec (.opening t) s = .next (s.setNow t)) ∧
  (∀ (s : State) (t : Nat), s.boot.opened = false → s.boot.failed = false → s.flag KMI_CTRL_FW_READY = true →
    (s.setNow t).openReady = false → s.startIdle = true →
    Answers (.startFail t) s (fun u => u.boot.failed = true ∧ u.boot.opened = false ∧ Out.pin pinCfgErr 0 ∈ u.out)) ∧
  (∀ (s : State) (t : Nat), s.boot.opened = true ∨ s.boot.failed = true ∨ s.flag KMI_CTRL_FW_READY = false ∨ (s.setNow t).openReady = true ∨
    s.startIdle = false → exec (.startFail t) s = .next (s.setNow t))) ∧
  ((∀ (s : State) (r : Nat) (bad f : Option Nat), r < 24 → f = s.fillFault r (s.actPlane r) 0 7680 bad →
    (bitB s.cfg.filling r = false → exec (.activeBankFillDone r bad) s = .next s) ∧
    (bitB s.cfg.filling r = true → s.boot.opened = true →
      (f = none → Answers (.activeBankFillDone r bad) s (fun t => t.geti CFG_ROOM_STAT_ACT_BANK r = 3 ∧ bitB t.cfg.filling r = false ∧
        t.boot.opened = true)) ∧
      (f ≠ none → Answers (.activeBankFillDone r bad) s (fun t => t.geti CFG_ROOM_STAT_ACT_BANK r = 4 ∧ bitB t.cfg.filling r = false ∧
        t.boot.opened = true))) ∧
    (bitB s.cfg.filling r = true → s.boot.opened = false →
      (s.boot.itin = 0 → f = none → Answers (.activeBankFillDone r bad) s (fun t => t.geti CFG_ROOM_STAT_ACT_BANK r = 3 ∧ bitB t.cfg.filling r = false)) ∧
      (s.boot.itin = 0 → f ≠ none → Answers (.activeBankFillDone r bad) s (fun t => t.geti CFG_ROOM_STAT_ACT_BANK r = 0 ∧ bitB t.cfg.filling r = false)) ∧
      (s.boot.itin ≠ 0 → f ≠ none → bitB s.boot.alt r = false → s.plane r (s.inactPlane r) = 3 → Answers (.activeBankFillDone r bad) s (fun t =>
        bitB t.cfg.filling r = true ∧ bitB t.boot.alt r = true ∧ t.actPlane r = s.inactPlane r)))) ∧
  (∀ (s : State) (res : TrainRes), (s.dmc.training = 0 → exec (.dramTrainDone res) s = .next s) ∧
    (s.dmc.training ≠ 0 → s.boot.dram < 16 → ∀ r : RunCmd, s.kmi.running = [r] → runIs 0x0606 0 r = true → r.abandoned = false →
      r.mbx < s.kmi.mbx.length → r.mbx < 15 → s.domOn 25 = true →
      Answers (.dramTrainDone res) s (fun t => t.dmc.training = 0 ∧ t.kmi.running = [] ∧
        ∃ w, KmiDone t r.mbx (if t.flag DMC_TRAIN_STAT_PASS then stOk else stHwFault) [w] 0)) ∧
    (s.dmc.training ≠ 0 → s.boot.dram < 16 → s.kmi.running = [] → Answers (.dramTrainDone res) s (fun t => t.dmc.training = 0 ∧
      t.flag DMC_TRAIN_STAT_BUSY = false)) ∧
    (s.dmc.training = 2 → s.boot.dram = 16 → s.kmi.running = [] →
      ((s.trainEnd res).flag DMC_TRAIN_STAT_PASS = true → Answers (.dramTrainDone res) s (fun t => t.boot.dram = 3)) ∧
      ((s.trainEnd res).flag DMC_TRAIN_STAT_PASS = false → Answers (.dramTrainDone res) s (fun t => t.boot.dram = 17 ∧ t.dmc.training = 1)))) ∧
  (∀ s : State, s.flag KMI_CTRL_FW_READY = true → s.flag KMI_WDOG_EN = true → s.domOn 25 = true → s.flag TGT_DBG_HALTED = false →
    Answers .watchdogExpiry s (fun t => t.get KMI_STAT_WDOG_RST = 1 ∧ t.kmi.sram = [] ∧ t.kmi.icache = [] ∧ t.kmi.running = [] ∧ t.pnt.jobs = [] ∧
      t.cfg.load = none ∧ (∀ r : RunCmd, s.kmi.running = [r] → s.kmi.postQ = [] → (∀ m, m < 15 → s.geti KMI_MBX_STATE m ≠ 2) →
        r.abandoned = false → r.mbx < 15 → r.mbx < s.kmi.mbx.length → s.cfg.load = none → KmiDone t r.mbx stHwFault [] 0))) ∧
  (∀ s : State, (s.flag KMI_CTRL_FW_READY = false ∨ s.flag KMI_WDOG_EN = false ∨ s.domOn 25 = false ∨ s.flag TGT_DBG_HALTED = true) →
    exec .watchdogExpiry s = .next s) ∧
  (∀ s : State, Answers .watchdogKick s (fun t => t.kmi = { s.kmi with wdogAt := s.now } ∧ SameBut [.kmi] s t)))

/-- Wakes (R479, R480, R482, R483, R487 to R493): a wake event counts in the state in force where Table 15-6 lists it; from IDLE it
leads to RUN at once; it is a late refusal of a vote and is held while an entry has committed, to act when that completes; from
SLEEP and DEEP SLEEP it switches the domains on and records the saved banks that fail their check; the sequence ends in RUN once
fills and training are done; the Night Porter's sample, a period after the last, wakes where its threshold is reached. Causes 32 to
35 are codes of the model (log entry 22). -/
def Obligations.Wakes : Prop :=
  (∀ (s : State) (cause t bad : Nat), s.pwr.entering = none →
    (s.pwr.vote = none → s.pwr.waking = none → s.wakeOn (s.get PWR_STATE_CUR) cause = true →
      (s.get PWR_STATE_CUR = 1 → Answers (.wake cause t bad) s (fun u => u.get PWR_STATE_CUR = 0 ∧
        (cause < 32 → bitB (u.get PWR_WAKE_CAUSE) cause = true) ∧ u.get PWR_WAKE_LAT_LAT_US = 0 ∧ u.pwr.repState = 1)) ∧
      (s.get PWR_STATE_CUR = 2 ∨ s.get PWR_STATE_CUR = 3 → Answers (.wake cause t bad) s (fun u =>
        u.pwr.waking = some (cause, t, s.get PWR_STATE_CUR) ∧ u.get PWR_STATE_CUR = s.get PWR_STATE_CUR ∧
        (∀ d, 24 ≤ d → d < 30 → u.domOn d = true) ∧ u.get PWR_LUG_STAT_FAILED = s.get PWR_LUG_STAT_FAILED ||| s.luggageBad bad)) ∧
      (s.get PWR_STATE_CUR = 4 → Answers (.wake cause t bad) s (fun u => u.pwr.waking = some (cause, t, 4) ∧ u.get PWR_STATE_CUR = 4))) ∧
    (∀ target n, s.pwr.vote = some (target, n) → s.wakeOn target cause = true → Answers (.wake cause t bad) s (fun u => u.pwr.vote = none ∧
      u.get PWR_VOTE_LAST_REFUSER = 0 ∧ u.pwr.backoff.isSome = true)) ∧
    (s.pwr.vote = none → s.wakeOn (s.get PWR_STATE_CUR) cause = false ∨ s.pwr.waking.isSome = true → exec (.wake cause t bad) s = .next (s.setNow t))) ∧
  (∀ (s : State) (cause t bad target : Nat), s.pwr.vote = none → s.pwr.entering = some target →
    (s.wakeOn target cause = true → Answers (.wake cause t bad) s (fun u => u.pwr.held = some cause ∧ u.pwr.entering = some target ∧
      SameBut [.pwr, .regs] s u)) ∧
    (s.wakeOn target cause = false → exec (.wake cause t bad) s = .next (s.setNow t))) ∧
  (∀ (s : State) (t w : Nat), s.pwr.schedWake = some w →
    (timeGe t w = false → exec (.scheduledWake t) s = .next (s.setNow t)) ∧
    (timeGe t w = true → s.pwr.vote = none → s.pwr.entering = none → s.pwr.waking = none → s.get PWR_STATE_CUR = 1 →
      Answers (.scheduledWake t) s (fun u => u.pwr.schedWake = none ∧ u.get PWR_STATE_CUR = 0 ∧ bitB (u.get PWR_WAKE_CAUSE) 4 = true))) ∧
  (∀ (s : State) (t : Nat), s.pwr.schedWake = none → exec (.scheduledWake t) s = .next (s.setNow t)) ∧
  (∀ (s : State) (t target : Nat), s.pwr.entering = some target → target < 8 →
    (s.get BST_STAT_STATE = 0 → s.pwr.held = none → Answers (.entryComplete t) s (fun u => u.get PWR_STATE_CUR = target ∧ u.pwr.entering = none ∧
      SameBut [.pwr, .regs] s u)) ∧
    (∀ c, s.get BST_STAT_STATE = 0 → s.pwr.held = some c → c ≠ 35 → target = 2 → s.pwr.vote = none → s.pwr.waking = none → s.wakeOn 2 c = true →
      Answers (.entryComplete t) s (fun u => u.pwr.waking = some (c, t, 2) ∧ u.pwr.entering = none ∧ u.pwr.held = none)) ∧
    (s.get BST_STAT_STATE ≠ 0 → exec (.entryComplete t) s = .next (s.setNow t))) ∧
  (∀ (s : State) (t : Nat), s.pwr.entering = none → exec (.entryComplete t) s = .next (s.setNow t)) ∧
  (∀ (s : State) (t c t0 st : Nat), s.pwr.waking = some (c, t0, st) →
    (st ≠ 4 → s.cfg.filling = 0 → s.dmc.training = 0 → Answers (.wakeComplete t) s (fun u => u.get PWR_STATE_CUR = 0 ∧ u.pwr.waking = none ∧
      u.get PWR_WAKE_LAT_LAT_US = elapsed t t0 / 256000 % 2 ^ PWR_WAKE_LAT_LAT_US.width)) ∧
    (st = 4 ∨ s.cfg.filling ≠ 0 ∨ s.dmc.training ≠ 0 → exec (.wakeComplete t) s = .next (s.setNow t))) ∧
  (∀ (s : State) (t : Nat), s.pwr.waking = none → exec (.wakeComplete t) s = .next (s.setNow t)) ∧
  (∀ (s : State) (t : Nat) (pos : List Int),
    (s.get PWR_NP_STAT_ACTIVE = 0 ∨ s.get PWR_STATE_CUR < 3 ∨ timeGe t (s.pwr.npAt + msUnits (max 1 (s.get PWR_NP_CTRL_PERIOD_MS))) = false →
      exec (.nightPorterSample t pos) s = .next (s.setNow t)) ∧
    (s.get PWR_NP_STAT_ACTIVE = 1 → 3 ≤ s.get PWR_STATE_CUR → timeGe t (s.pwr.npAt + msUnits (max 1 (s.get PWR_NP_CTRL_PERIOD_MS))) = true →
      s.msu.enc.length = 8 → s.get PWR_NP_CTRL_CH < 8 →
      s.flagi MSU_ENC_CTRL_EN (s.get PWR_NP_CTRL_CH) = true → ∀ p : Int, pos.getD (s.get PWR_NP_CTRL_CH) 0 = p → -2 ^ 46 < p → p < 2 ^ 46 →
      pos.length = 8 →
      ((p - s.pwr.npRef).natAbs < max 1 (s.get PWR_NP_THRESH_COUNTS) → Answers (.nightPorterSample t pos) s (fun u =>
        u.get PWR_STATE_CUR = s.get PWR_STATE_CUR ∧ (u.encSt (s.get PWR_NP_CTRL_CH)).p = p ∧ u.pwr = { s.pwr with npAt := t })) ∧
      (max 1 (s.get PWR_NP_THRESH_COUNTS) ≤ (p - s.pwr.npRef).natAbs → Answers (.nightPorterSample t pos) s (fun u => u.get PWR_NP_STAT_MOVED = 1 ∧
        (s.get PWR_STATE_CUR = 3 → s.pwr.vote = none → s.pwr.entering = none → s.pwr.waking = none → bitB (s.get PWR_WAKE_SRC) 1 = true →
          u.pwr.waking = some (1, t, 3))))))

/-- Events of the unit's own sources (R31, R34, R35, R36, R60 to R64, R606): an event of the active source that is not early opens
the next tick; an early one merges, or is dropped where the policy or MERGE_MAX says so, as stated of a HOST event; TIMER events
have their scheduled times, and an event of every source is taken by the same operation; the event of a source that is not active,
or of an engine that is disabled, does nothing to the engine. TICK_NOW reports TICKNO, the stamp and the time. -/
def Obligations.TickSources : Prop :=
  (∀ (s : State) (t skew : Nat), s.flag TCK_CTRL_EN = true → s.get TCK_SRC_ACTIVE = 3 →
    (s.isEarly t = false → Answers (.hostTick t skew) s (fun u => TickOpened u s.nextTick t skew)) ∧
    (s.isEarly t = true →
      (s.inForce TCK_CTRL_EARLY_POL = 1 → Answers (.hostTick t skew) s (fun u => u.tickno = s.tickno ∧ u.tick = s.tick ∧
        u.get TCK_EVENTS_DROPPED = 1 ∧ Counts s u TCK_EARLY_CNT_DROPPED_CNT 0 ∧
        LedgerBut [MSU_TIME_LO, MSU_TIME_HI, TCK_EVENTS_DROPPED, TCK_EARLY_CNT_DROPPED_CNT] s u)) ∧
      (s.inForce TCK_CTRL_EARLY_POL ≠ 1 → max 1 (s.inForce TCK_CTRL_MERGE_MAX) ≤ s.get TCK_STATUS_MERGED →
        Answers (.hostTick t skew) s (fun u => u.tick = s.tick ∧ u.get TCK_EVENTS_BURST = 1 ∧ Counts s u TCK_EARLY_CNT_DROPPED_CNT 0)) ∧
      (s.inForce TCK_CTRL_EARLY_POL ≠ 1 → s.get TCK_STATUS_MERGED < max 1 (s.inForce TCK_CTRL_MERGE_MAX) →
        Answers (.hostTick t skew) s (fun u => u.tickno = (s.tickno + 1) % 2 ^ 48 ∧ u.tick.opened = s.tick.opened ∧ u.tick.b = s.tick.b ∧
          u.get TCK_STATUS_MERGED = min 3 (s.get TCK_STATUS_MERGED + 1) ∧ u.get TCK_EVENTS_MERGED = 1 ∧
          Counts s u TCK_EARLY_CNT_MERGED_CNT 0 ∧ Out.merged ∈ u.out)))) ∧
  (∀ (s : State) (t skew : Nat), s.flag TCK_CTRL_EN = false ∨ s.get TCK_SRC_ACTIVE ≠ 3 → exec (.hostTick t skew) s = .next (s.setNow t)) ∧
  (∀ (s : State) (t skew : Nat), exec (.hostTick t skew) s = .next ((s.setNow t).tickEvent 3 t skew)) ∧
  (∀ (s : State) (t skew a d : Nat), s.tick.timerAnchor = some a → d = s.timerDue a →
    (s.tick.timerWrite = none → d = (a + nsUnits s.timerPeriod) % 2 ^ 64) ∧
    (s.flag TCK_CTRL_EN = true → s.get TCK_SRC_ACTIVE = 2 → timeGe t d = true →
      exec (.timerEvent t skew) s = .next (({ s with tick := { s.tick with timerAnchor := some d, timerWrite := none } }.setNow t).tickEvent 2 d skew) ∧
      (s.isEarly d = false → Answers (.timerEvent t skew) s (fun u => TickOpened u s.nextTick d skew ∧ u.tick.timerAnchor = some d))) ∧
    (s.flag TCK_CTRL_EN = false ∨ s.get TCK_SRC_ACTIVE ≠ 2 ∨ timeGe t d = false → exec (.timerEvent t skew) s = .next (s.setNow t))) ∧
  (∀ (s : State) (t skew : Nat), s.tick.timerAnchor = none → exec (.timerEvent t skew) s = .next (s.setNow t)) ∧
  (∀ (s : State) (t skew : Nat), s.msu.sched = some t → s.get PWR_STATE_CUR < 3 →
    (s.get TWN_STAT_MODE = 0 ∨ s.flag TWN_STAT_ROLE = false →
      exec (.encoderEventDue skew) s = .next ((((s.setNow t).divCross).tickEvent 0 t skew).divSched) ∧
      (s.flag TCK_CTRL_EN = true → s.get TCK_SRC_ACTIVE = 0 → s.isEarly t = false →
        Answers (.encoderEventDue skew) s (fun u => TickOpened u s.nextTick t skew)) ∧
      (s.flag TCK_CTRL_EN = false ∨ s.get TCK_SRC_ACTIVE ≠ 0 →
        Answers (.encoderEventDue skew) s (fun u => u.theta = (s.theta + s.pitch) % 2 ^ 64 ∧ u.msu.crossed = true ∧ u.tick = s.tick ∧
          SameBut [.regs, .msu] s u ∧ RegsBut [MSU_TIME_LO, MSU_TIME_HI, MSU_DIV_NEXT_LO, MSU_DIV_NEXT_HI] s u))) ∧
    (s.get TWN_STAT_MODE ≠ 0 → s.flag TWN_STAT_ROLE = true → Answers (.encoderEventDue skew) s (fun u => u.tick = s.tick ∧
      u.theta = (s.theta + s.pitch) % 2 ^ 64 ∧ SameBut [.regs, .msu, .twn] s u))) ∧
  (∀ (s : State) (skew : Nat), s.msu.sched = none ∨ 3 ≤ s.get PWR_STATE_CUR → exec (.encoderEventDue skew) s = .next s) ∧
  (∀ (s : State) (m : Nat) (c : KmiCmd), KmiReady s 0x0303 m c → Answers (.tickNow m) s (fun t =>
    KmiDone t m stOk [s.tickno, s.get TCK_STAMP_LO + 2 ^ 32 * s.get TCK_STAMP_HI, s.now] 0 ∧ SameBut [.kmi, .regs, .out, .pba] s t ∧
    RegsBut [KMI_MBX_STATE] s t))

/-- What a boundary judges (R44, R54 to R57, R59): a Room that took part and did not finish has overrun, one that finished at or
after Curfew is late; a Room that overran is clamped where it was clamped already or TCK_OVR_CLAMP names it, and any other Room is
released. Stated of a HOST event; the first event after enable judges nothing. -/
def Obligations.BoundaryOutcomes : Prop :=
  ∀ (s : State) (t skew : Nat), s.flag TCK_CTRL_EN = true → s.get TCK_SRC_ACTIVE = 3 → s.isEarly t = false → s.get PWR_STATE_CUR = 0 →
    s.pwr.vote = none → s.pwr.entering = none →
    (s.tick.firstDue = false → Answers (.hostTick t skew) s (fun u =>
      (∀ r, r < 24 → bitB (u.get TCK_OVR_ROOMS) r = (bitB (s.get TCK_OVR_ROOMS) r || (bitB s.tick.part r && !bitB (s.get TCK_DONE_ROOMS) r))) ∧
      (∀ r, r < 24 → bitB (u.get TCK_LATE_ROOMS) r = (bitB (s.get TCK_LATE_ROOMS) r || (bitB s.tick.part r && bitB s.tick.lateDone r))) ∧
      (∀ r, r < 24 → bitB (u.get TCK_CLAMPED_ROOMS) r = (bitB s.tick.part r && !bitB (s.get TCK_DONE_ROOMS) r &&
        (bitB (s.get TCK_CLAMPED_ROOMS) r || bitB (s.get TCK_OVR_CLAMP) r))) ∧
      u.get TCK_DONE_ROOMS = 0)) ∧
    (s.tick.firstDue = true → Answers (.hostTick t skew) s (fun u => u.get TCK_OVR_ROOMS = s.get TCK_OVR_ROOMS ∧
      u.get TCK_LATE_ROOMS = s.get TCK_LATE_ROOMS ∧ u.get TCK_DONE_ROOMS = 0))

/-- Curfew, RDONE, a stopped line, and the engine's enable (R34, R36, R39, R42, R44, R45, R54, R60, R65): Curfew opens the rest
window; the first RDONE of a Room in a tick counts, late at or after Curfew; 1.0 s without an event is STOPPED; a source switch
waits for the boundary while the engine runs; disabling it puts waiting settings in force. -/
def Obligations.TickEngine : Prop :=
  (∀ (s : State) (t : Nat),
    (s.tick.tickOpen = true → s.tick.rest = false → s.curfewOn = true → timeGe t (s.tick.b + nsUnits s.tick.curfew) = true →
      Answers (.curfew t) s (fun u => u.tick = { s.tick with rest := true } ∧
        (s.get TCK_STATUS_STATE = 2 → u.get TCK_STATUS_STATE = 3) ∧ SameBut [.tick, .regs, .pwr] s u)) ∧
    (s.tick.tickOpen = false ∨ s.tick.rest = true ∨ s.curfewOn = false ∨ timeGe t (s.tick.b + nsUnits s.tick.curfew) = false →
      exec (.curfew t) s = .next (s.setNow t))) ∧
  (∀ (s : State) (r t : Nat), r < 24 → s.tick.tickOpen = true → s.roomOn r = true → s.roomActive r = true → s.treeRuns r 0 = true →
    bitB (s.get TCK_DONE_ROOMS) r = false → Answers (.rdone r t) s (fun u => bitB (u.get TCK_DONE_ROOMS) r = true ∧
      (∀ k, k < 24 → k ≠ r → bitB (u.get TCK_DONE_ROOMS) k = bitB (s.get TCK_DONE_ROOMS) k) ∧
      bitB u.tick.lateDone r = (bitB s.tick.lateDone r || (s.curfewOn && timeGe t (s.tick.b + nsUnits s.tick.curfew))) ∧
      (s.curfewOn = true → u.tick.rest = s.tick.rest) ∧
      (s.curfewOn = false → u.tick.rest = (s.tick.rest || u.allRoomsDone)) ∧ SameBut [.tick, .regs, .pwr] s u)) ∧
  (∀ (s : State) (r t : Nat), r < 24 → (s.tick.tickOpen = false ∨ s.roomOn r = false ∨ s.roomActive r = false ∨ s.treeRuns r 0 = false ∨
    bitB (s.get TCK_DONE_ROOMS) r = true) → exec (.rdone r t) s = .next (s.setNow t)) ∧
  (∀ (s : State) (t : Nat), s.flag TCK_CTRL_EN = true → s.tick.tickOpen = true → s.tick.firstDue = false → s.get TCK_STATUS_STATE ≠ 4 →
    (timeGe t (s.tick.lastAccepted + nsUnits 1000000000) = true → Answers (.tickStopped t) s (fun u => u.get TCK_STATUS_STATE = 4 ∧
      u.get TCK_EVENTS_STOPPED = 1 ∧ u.get TCK_PRED_PERIOD_NS = 0x3FFFFFFF ∧ u.tick = s.tick ∧
      LedgerBut [MSU_TIME_LO, MSU_TIME_HI, TCK_STATUS_STATE, TCK_EVENTS_STOPPED, TCK_PRED_PERIOD_NS] s u)) ∧
    (timeGe t (s.tick.lastAccepted + nsUnits 1000000000) = false → exec (.tickStopped t) s = .next (s.setNow t))) ∧
  (∀ (s : State) (t : Nat), s.flag TCK_CTRL_EN = false ∨ s.tick.tickOpen = false ∨ s.tick.firstDue = true ∨ s.get TCK_STATUS_STATE = 4 →
    exec (.tickStopped t) s = .next (s.setNow t)) ∧
  (∀ (s : State) (t : Nat),
    (s.flag TCK_CTRL_EN = true → Answers (.sourceSwitch t) s (fun u => u.get TCK_SRC_SWITCH = 1 ∧ u.get TCK_SRC_ACTIVE = s.get TCK_SRC_ACTIVE ∧
      SameBut [.regs] s u ∧ RegsBut [MSU_TIME_LO, MSU_TIME_HI, TCK_SRC_SWITCH] s u)) ∧
    (s.flag TCK_CTRL_EN = false → Answers (.sourceSwitch t) s (fun u => u.get TCK_SRC_ACTIVE = s.get TCK_SRC_NEXT % 2 ^ TCK_SRC_ACTIVE.width ∧
      u.get TCK_EVENTS_SRC_SWITCHED = 1 ∧ u.tick.timerAnchor = (if s.get TCK_SRC_NEXT = 2 then some t else none) ∧ SameBut [.regs, .tick] s u))) ∧
  (∀ (s : State) (t : Nat),
    (s.flag TCK_CTRL_EN = true → exec (.tickEngineEnable t) s = .next (s.setNow t)) ∧
    (s.flag TCK_CTRL_EN = false → Answers (.tickEngineEnable t) s (fun u => u.get TCK_CTRL_EN = 1 ∧ u.tick.firstDue = true ∧
      u.tick.tickOpen = s.tick.tickOpen ∧ u.tick.timerAnchor = (if s.get TCK_SRC_ACTIVE = 2 then some t else none) ∧
      (s.dmc.ready = false → SameBut [.regs, .tick] s u ∧ RegsBut [MSU_TIME_LO, MSU_TIME_HI, TCK_CTRL_EN] s u))) ∧
    (s.flag TCK_CTRL_EN = false → exec (.tickEngineDisable t) s = .next (s.setNow t)) ∧
    (s.flag TCK_CTRL_EN = true → Answers (.tickEngineDisable t) s (fun u => u.get TCK_CTRL_EN = 0 ∧ u.held = [] ∧ u.get TCK_STATUS_STATE = 0 ∧
      u.tick.tickOpen = s.tick.tickOpen ∧ u.tick.opened = s.tick.opened ∧
      (s.get TCK_SRC_SWITCH = 1 → u.get TCK_SRC_ACTIVE = s.get TCK_SRC_NEXT % 2 ^ TCK_SRC_ACTIVE.width ∧ u.get TCK_SRC_SWITCH = 0))))

/-- Messages of the Sync Chain and of TWIN_SYNC (R90 to R92, R94 to R96, R520): a member follows a TICK message with a boundary that
opens the message's tick at the master's time plus the delay, a MERGE message with a merged event; a message that fails its CRC is
counted; ENUM numbers the members and its replies count them; a STATUS reaches the master, and a member that owes one adds itself; a
message that is not for the unit does nothing. Message bytes are in the reading of log entry 24. Calibration and loss of a link
(R38, R82, R83, R93, R97 to R99): a CAL message ends at its receiver, which echoes it with its turnaround; an echo's round trip
enters the mean of the last 256, half of which is the one-way delay; a CAL message sent carries the time of its launch, the delay of
its hop and the state of the master's time base; one that was cut off by an abort symbol is no message; a link is lost where one of
the three tests of R93 holds, and not otherwise. The abort symbol stands as the byte 0xFE (log entry 24). -/
def Obligations.SyncChainLink : Prop :=
  ((∀ s : State,
    (s.mcMaster false = true → ∃ msg, exec .syncEnum s = .next (s.emit (.sync false msg)) ∧ msg.length = 20 ∧ downType msg = 3) ∧
    (s.mcMaster false = false → exec .syncEnum s = .next s)) ∧
  (∀ (s : State) (msg : List Nat), s.mcMember false = true → downGood msg = true → downType msg = 3 →
    Answers (.enumMessage msg) s (fun u => u.get SYC_STAT_HOP = (downHop msg + 1) % 64 ∧ u.flag SYC_STAT_LINK_UP = true ∧ u.syc.crcRun = 0 ∧
      u.tick = s.tick ∧ (s.flag SYC_CTRL_END = true → ∃ r, Out.sync true r ∈ u.out ∧ upType r = 2 ∧ upCount r = 1))) ∧
  (∀ (s : State) (msg : List Nat), (s.mcMember false = false → exec (.enumMessage msg) s = .next (s.setNow s.now)) ∧
    (s.mcMember false = true → downGood msg = false →
      Answers (.enumMessage msg) s (fun u => u.get SYC_STAT_HOP = s.get SYC_STAT_HOP ∧ Counts s u SYC_ERR_CNT_CRC_CNT 0))) ∧
  (∀ (s : State) (msg : List Nat), upGood msg = true → upType msg = 2 →
    (s.mcMaster false = true → Answers (.enumReply msg) s (fun u => u.get SYC_UNITS_SEEN = (upCount msg + 1) % 2 ^ 7 ∧
      u.get SYC_STAT_COUNT_ERR = b2n (upCount msg + 1 != s.get SYC_UNITS_EXPECT) ∧ (64 ≤ upCount msg → u.flag SYC_STAT_HOP_ERR = true) ∧
      SameBut [.regs, .syc] s u ∧ RegsBut [SYC_UNITS_SEEN, SYC_STAT_COUNT_ERR, SYC_STAT_HOP_ERR] s u)) ∧
    (s.mcMaster false = false → s.mcMember false = true → s.flag SYC_CTRL_END = false →
      ∃ r, exec (.enumReply msg) s = .next (s.emit (.sync true r)) ∧ upType r = 2 ∧ upCount r = (upCount msg + 1) % 128) ∧
    (s.mcMaster false = false → s.mcMember false = false ∨ s.flag SYC_CTRL_END = true → exec (.enumReply msg) s = .next s)) ∧
  (∀ (s : State) (tw : Bool) (msg : List Nat) (t skew : Nat),
    (s.mcMember tw = true → downGood msg = true → downType msg = 0 → s.linkRuns tw = true →
      (tw = false ∨ s.tick.firstDue = true ∨ tickGe s.tickno (downTick msg) = false) →
      Answers (.syncTickMessage tw msg t skew) s (fun u => TickOpened u (downTick msg) ((s.setNow t).linkTor tw msg t).1 skew)) ∧
    (s.mcMember false = true → downGood msg = true → downType msg = 0 → s.linkRuns false = false →
      Answers (.syncTickMessage false msg t skew) s (fun u => u.tick = s.tick ∧ u.tickno = s.tickno ∧ u.flag SYC_STAT_LINK_UP = true)) ∧
    (s.mcMember tw = true → downGood msg = true → downType msg = 1 → s.linkRuns tw = true → s.tick.firstDue = false →
      (tw = false ∨ tickGe s.tickno (downTick msg) = false) →
      Answers (.syncMergeMessage tw msg t) s (fun u => u.tickno = downTick msg % 2 ^ 48 ∧ u.tick.opened = s.tick.opened ∧
        u.get TCK_STATUS_MERGED = min 3 (s.get TCK_STATUS_MERGED + 1) ∧ Out.merged ∈ u.out)) ∧
    (s.mcMember tw = true → downGood msg = true → downType msg = 4 →
      Answers (.syncStopMessage tw msg t) s (fun u => u.linkUp tw = true ∧ u.tick = s.tick ∧ u.tickno = s.tickno ∧
        (tw = false → s.flag SYC_CTRL_END = false → Out.sync false (downForward msg (s.get SYC_STAT_HOP)) ∈ u.out))) ∧
    (s.mcMember false = true → downGood msg = false →
      Answers (.syncTickMessage false msg t skew) s (fun u => Counts s u SYC_ERR_CNT_CRC_CNT 0 ∧ u.syc.crcRun = s.syc.crcRun + 1 ∧ u.tick = s.tick ∧
        (2 ≤ s.syc.crcRun → u.linkUp false = false)) ∧
      Answers (.syncMergeMessage false msg t) s (fun u => Counts s u SYC_ERR_CNT_CRC_CNT 0 ∧ u.tick = s.tick) ∧
      Answers (.syncStopMessage false msg t) s (fun u => Counts s u SYC_ERR_CNT_CRC_CNT 0 ∧ u.tick = s.tick)) ∧
    (s.mcMember tw = false → exec (.syncTickMessage tw msg t skew) s = .next (s.setNow t) ∧
      exec (.syncMergeMessage tw msg t) s = .next (s.setNow t) ∧ exec (.syncStopMessage tw msg t) s = .next (s.setNow t))) ∧
  (∀ (s : State) (tw : Bool) (msg : List Nat) (t : Nat), s.linkOn tw = true → upGood msg = true → upType msg = 0 →
    (s.mcMaster tw = true → Answers (.statusMessage tw msg t) s (fun u => (u.mc tw).stats.head? = some (upStatus msg) ∧ u.tick = s.tick)) ∧
    (tw = false → s.mcMaster false = false → s.mcMember false = true → s.syc.owed = some (upTick msg) →
      Answers (.statusMessage tw msg t) s (fun u => u.syc.owed = none ∧ (∃ r, Out.sync true r ∈ u.out ∧ upType r = 0 ∧
        upTick r = upTick msg ∧ upCount r = (upCount msg + 1) % 128) ∧ SameBut [.syc, .regs, .out] s u)) ∧
    (s.mcMaster tw = false → tw = true ∨ s.mcMember false = false ∨ s.syc.owed ≠ some (upTick msg) →
      exec (.statusMessage tw msg t) s = .next (s.setNow t))) ∧
  (∀ (s : State) (tw : Bool) (msg : List Nat) (t : Nat), (s.linkOn tw = false → exec (.statusMessage tw msg t) s = .next (s.setNow t)) ∧
    (s.linkOn false = true → upGood msg = false → Answers (.statusMessage false msg t) s (fun u => Counts s u SYC_ERR_CNT_CRC_CNT 0 ∧ u.tick = s.tick)))) ∧
  ((∀ (s : State) (tw : Bool) (msg : List Nat) (a e : Nat), s.mcMember tw = true → downGood msg = true → downType msg = 2 →
    Answers (.calMessage tw msg a e) s (fun u =>
      (∃ r, (Out.sync true r ∈ u.out ∨ Out.twin 0 r ∈ u.out) ∧ upType r = 1 ∧ upTick r = timeSub e a % 2 ^ 48) ∧
      (tw = false → u.syc.calSeen = s.syc.calSeen + 1 ∧ u.get SYC_OFFSET_OFS = encodeInt 32 ((s.setNow a).calOffset false msg a) ∧
        (s.syc.calSeen = 256 → u.get SYC_STAT_CAL_DONE = 1)) ∧
      (tw = true → u.twn.calSeen = s.twn.calSeen + 1 ∧ (s.twn.calSeen = 256 → u.get TWN_STAT_CAL_DONE = 1)) ∧
      (s.tbSrc = (if tw then 4 else 3) → 5 < ((s.setNow a).calOffset tw msg a).natAbs → u.flag MSU_TB_STAT_LOCKED = false ∧ u.msu.critSince = none) ∧
      SameBut [.syc, .twn, .msu, .regs, .out] s u)) ∧
  (∀ (s : State) (tw : Bool) (msg : List Nat) (a e : Nat), s.mcMember tw = false ∨ (msg.length < 20 ∧ msg.getLast? = some 0xFE) →
    exec (.calMessage tw msg a e) s = .next (s.setNow a)) ∧
  (∀ (s : State) (tw : Bool) (msg : List Nat) (l a : Nat),
    (s.linkDown tw = true → upGood msg = true → upType msg = 1 →
    ∃ trips, trips = (timeSub a l - upTick msg) :: (if tw then s.twn.trips else s.syc.trips) ∧
      Answers (.calEcho tw msg l a) s (fun u =>
        (tw = false → u.syc.trips = trips.take 256 ∧ u.get SYC_HOPDLY_D = (trips.take 256).sum / (2 * (trips.take 256).length) % 2 ^ 24) ∧
        (tw = true → u.twn.trips = trips.take 256 ∧ u.twn.hopDly = (trips.take 256).sum / (2 * (trips.take 256).length) ∧
          (256 ≤ trips.length → u.get TWN_STAT_CAL_DONE = 1)) ∧
        SameBut [.syc, .twn, .regs] s u)) ∧
    (s.linkDown tw = false ∨ (upGood msg = true ∧ upType msg ≠ 1) → exec (.calEcho tw msg l a) s = .next (s.setNow a))) ∧
  (∀ (s : State) (tw : Bool) (t : Nat),
    (s.linkDown tw = true → Answers (.calSend tw t) s (fun u =>
      u.out.length = s.out.length + 1 ∧
      (∃ r, (Out.sync false r ∈ u.out ∨ Out.twin 0 r ∈ u.out) ∧ downType r = 2 ∧ r.length = 20 ∧ downGood r = true ∧ downTime r = t % 2 ^ 40 ∧
        (tw = false → downDelay r = s.get SYC_HOPDLY_D) ∧
        bitB (r.getD 1 0) 5 = (if s.mcMaster tw then s.flag MSU_TB_STAT_HOLDOVER else s.syc.masterHold)) ∧
      SameBut [.syc, .twn, .regs, .out] s u ∧ RegsBut [MSU_TIME_LO, MSU_TIME_HI] s u)) ∧
    (s.linkDown tw = false → exec (.calSend tw t) s = .next (s.setNow t))) ∧
  (∀ (s : State) (tw : Bool) (t : Nat), s.linkOn tw = true → s.mcMember tw = true ∨ tw = true →
    Answers (.syncLinkLost tw .symbol t) s (fun u => u.linkUp tw = false) ∧
    (3 ≤ (if tw then s.twn.crcRun else s.syc.crcRun) → Answers (.syncLinkLost tw .crc t) s (fun u => u.linkUp tw = false)) ∧
    (timeGe t ((if tw then s.twn.lastSync else s.syc.lastMsg) + nsUnits 64000) = true →
      Answers (.syncLinkLost tw .silence t) s (fun u => u.linkUp tw = false ∧
        (tw = false → s.linkUp false = true → Counts s u SYC_ERR_CNT_LOST_CNT 0 ∧
          (s.get TCK_SRC_ACTIVE = 1 → u.get TCK_STATUS_SRC_LOST = 1 ∧ u.get TCK_EVENTS_SRC_LOST = 1))))) ∧
  (∀ (s : State) (t : Nat), s.mcMaster false = true → s.syc.mc.isOpen = true → s.syc.mc.phase = 2 →
    s.get SYC_MC_STAT_OUTCOME ≠ 5 → Answers (.syncLinkLost false .symbol t) s (fun u => u.get SYC_MC_STAT_OUTCOME = 5)) ∧
  (∀ (s : State) (tw : Bool) (t : Nat),
    (s.linkOn tw = false ∨ timeGe t ((if tw then s.twn.lastSync else s.syc.lastMsg) + nsUnits 64000) = false →
      exec (.syncLinkLost tw .silence t) s = .next (s.setNow t)) ∧
    (s.linkOn tw = false ∨ (if tw then s.twn.crcRun else s.syc.crcRun) < 3 → exec (.syncLinkLost tw .crc t) s = .next (s.setNow t)) ∧
    (s.linkOn tw = false → exec (.syncLinkLost tw .symbol t) s = .next (s.setNow t))))

/-- The chain's mode-change commands (R101, R102, R108, R409): SYNC_ARM arms an identifier and takes a changeover slot for its
Rooms, unless a changeover is set or armed for one of them or no slot is free; SYNC_DISARM frees it; SYNC_PROPOSE opens a proposal
at the master for a tick far enough ahead; SYNC_LOCAL acts on an UNRESOLVED unit. -/
def Obligations.ModeChangeCommands : Prop :=
  (∀ (s : State) (m : Nat) (c : KmiCmd), KmiReady s 0x0322 m c →
    (2 ^ 17 ≤ c.a0 ∨ 2 ^ 24 ≤ c.a1 → Answers (.syncArm m) s (fun t => KmiDone t m stBadArg [] 0 ∧ t.syc = s.syc)) ∧
    (c.a0 < 2 ^ 17 → c.a1 < 2 ^ 24 → s.syc.mc.isOpen = true →
      Answers (.syncArm m) s (fun t => KmiDone t m stBadState [] 0 ∧ t.syc = s.syc)) ∧
    (c.a0 < 2 ^ 17 → c.a1 = 0 → s.syc.mc.isOpen = false → Answers (.syncArm m) s (fun t => KmiDone t m stOk [] 0 ∧
      t.get SYC_MC_ARM_VALID = 1 ∧ t.get SYC_MC_ARM_MODE = c.a0 % 2 ^ 16 ∧ t.syc.mc.armMask = 0 ∧ t.syc.mc.armSlot = none ∧
      t.syc.mc.armSwitch = bitB c.a0 16)) ∧
    (c.a0 < 2 ^ 17 → c.a1 < 2 ^ 24 → s.syc.mc.isOpen = false → ∀ d : State, d = s.mcDisarm false →
      ((∃ r ∈ List.range 24, bitB c.a1 r = true ∧ (d.geti CFG_ROOM_STAT_CO_PENDING r = 1 ∨ bitB d.armedRooms r = true)) →
        Answers (.syncArm m) s (fun t => KmiDone t m stBadState [] 0 ∧ t.syc = s.syc ∧ t.cfg = s.cfg)) ∧
      ((∀ r, r < 24 → bitB c.a1 r = true → d.geti CFG_ROOM_STAT_CO_PENDING r ≠ 1 ∧ bitB d.armedRooms r = false) → c.a1 ≠ 0 →
        (∀ j, d.coFree = some j → Answers (.syncArm m) s (fun t => KmiDone t m stOk [j] 0 ∧ t.get SYC_MC_ARM_VALID = 1 ∧
          t.get SYC_MC_ARM_MODE = c.a0 % 2 ^ 16 ∧ t.syc.mc.armSwitch = bitB c.a0 16 ∧
          t.syc.mc.armMask = c.a1 ∧ t.syc.mc.armSlot = some j ∧ t.geti CFG_CO_STAT_STATE j = 1 ∧ t.geti CFG_CO_MASK_ROOMS j = c.a1)) ∧
        (d.coFree = none → Answers (.syncArm m) s (fun t => KmiDone t m stHeld [] 0 ∧ t.syc = s.syc ∧ t.cfg = s.cfg))))) ∧
  (∀ (s : State) (m : Nat) (c : KmiCmd), KmiReady s 0x0323 m c →
    (s.syc.mc.isOpen = true → Answers (.syncDisarm m) s (fun t => KmiDone t m stBadState [] 0 ∧ t.syc = s.syc)) ∧
    (s.syc.mc.isOpen = false → Answers (.syncDisarm m) s (fun t => KmiDone t m stOk [] 0 ∧ t.get SYC_MC_ARM_VALID = 0 ∧
      t.syc.mc.armMask = 0 ∧ t.syc.mc.armSlot = none ∧ ∀ j, j < 4 → s.syc.mc.armSlot = some j → t.geti CFG_CO_STAT_STATE j = 0))) ∧
  (∀ (s : State) (m : Nat) (c : KmiCmd), KmiReady s 0x0324 m c →
    (2 ^ 16 ≤ c.a0 ∨ 2 ^ 48 ≤ c.a1 → Answers (.syncPropose m) s (fun t => KmiDone t m stBadArg [] 0 ∧ t.syc = s.syc)) ∧
    (c.a0 < 2 ^ 16 → c.a1 < 2 ^ 48 →
      (s.mcMaster false = false ∨ s.syc.mc.isOpen = true →
        Answers (.syncPropose m) s (fun t => KmiDone t m stBadState [] 0 ∧ t.syc = s.syc)) ∧
      (s.mcMaster false = true → s.syc.mc.isOpen = false →
        (tickGe c.a1 (tickAdd s.tickno (3 + s.mcLag false)) = false →
          Answers (.syncPropose m) s (fun t => KmiDone t m stDeadline [] 0 ∧ t.syc = s.syc)) ∧
        (tickGe c.a1 (tickAdd s.tickno (3 + s.mcLag false)) = true → Answers (.syncPropose m) s (fun t => KmiRuns t m c ∧
          t.syc.mc.isOpen = true ∧ t.syc.mc.t = c.a1 ∧ t.syc.mc.mode = c.a0 ∧ t.syc.mc.seq = (s.syc.mc.seq + 1) % 16 ∧ t.syc.mc.op = 1 ∧
          t.syc.mc.committed = false))))) ∧
  (∀ (s : State) (m : Nat) (c : KmiCmd), KmiReady s 0x0325 m c →
    (2 ≤ c.a0 → Answers (.syncLocal m) s (fun t => KmiDone t m stBadArg [] 0 ∧ t.syc = s.syc ∧ t.twn = s.twn)) ∧
    (c.a0 < 2 → s.mcCode false ≠ 8 → s.mcCode true ≠ 8 →
      Answers (.syncLocal m) s (fun t => KmiDone t m stBadState [] 0 ∧ t.syc = s.syc ∧ t.twn = s.twn)) ∧
    (c.a0 < 2 → s.mcCode false = 8 → Answers (.syncLocal m) s (fun t => KmiRuns t m c ∧ t.syc.mc.localReq = 1 + c.a0 ∧ t.twn = s.twn)) ∧
    (c.a0 < 2 → s.mcCode false ≠ 8 → s.mcCode true = 8 →
      Answers (.syncLocal m) s (fun t => KmiRuns t m c ∧ t.twn.mc.localReq = 1 + c.a0 ∧ t.syc = s.syc)))

/-- The Twin Link and loss of the partner (R38, R515, R521, R522, R524, R526, R531 to R533, R538): records and status frames are
taken while the link is up; a substituted event opens the next tick at the deadline of a tick whose message has not come, where the
Companion's divider runs; a partner silent for 64 µs is lost, and a Companion without takeover becomes ALONE; on a Companion that
follows the twin its source is then lost; a RUN frame of the Lead wakes a sleeping Companion. -/
def Obligations.TwinLink : Prop :=
  (∀ (s : State) (t : Nat),
    (s.flag TWN_CTRL_EN = true → s.domOn 29 = true → Answers (.lanesUp t) s (fun u => u.get TWN_STAT_LANES_UP = 1 ∧ SameBut [.regs] s u ∧
      RegsBut [MSU_TIME_LO, MSU_TIME_HI, TWN_STAT_LANES_UP] s u)) ∧
    (s.flag TWN_CTRL_EN = false ∨ s.domOn 29 = false → exec (.lanesUp t) s = .next (s.setNow t)) ∧
    (s.twinLinkUp = true → exec (.statusFrameSend t) s = .next ((s.setNow t).emit (.twin 2 [s.get PWR_STATE_CUR, 0, 0, 0, 0, 0, 0, 0]))) ∧
    (s.twinLinkUp = false → exec (.statusFrameSend t) s = .next (s.setNow t))) ∧
  (∀ (s : State) (b : List Nat) (t : Nat) (r : TwnRec), twnRecord b = some r → s.twinLinkUp = true → s.get TWN_STAT_MODE ≠ 0 →
    Answers (.tickRecord b t) s (fun u => u.twn.lastRec = t ∧ (s.twn.recTick = none → u.twn.recTick = some r.tick) ∧
      (∀ n, s.twn.recTick = some n → u.twn.recTick = some (if tickGe r.tick n then r.tick else n)) ∧
      (s.get TWN_STAT_MODE = 1 → ∀ x k, s.twn.own.find? (fun y => y.tick == r.tick) = some x → k < 24 →
        bitB x.part k ≠ bitB r.part k ∨ x.digest.getD k 0 ≠ r.digest.getD k 0 →
        bitB (u.get TWN_DIG_MIS_ROOMS) k = true ∧
          Counts s u TWN_CNT_MISMATCH 0 ∧ u.get TWN_DIG_TICK_LO_TICK = x.tick % 2 ^ 32))) ∧
  (∀ (s : State) (b : List Nat) (t : Nat), twnRecord b = none ∨ s.twinLinkUp = false ∨ s.get TWN_STAT_MODE = 0 →
    exec (.tickRecord b t) s = .next (s.setNow t)) ∧
  (∀ (s : State) (b : List Nat) (t : Nat), s.twinLinkUp = true → b.length = 8 →
    (s.isCompanion = false ∨ b.getD 0 0 % 8 ≠ 0 → Answers (.statusFrame b t) s (fun u => u.get TWN_PART_PWR_STATE = b.getD 0 0 % 8 ∧
      u.get TWN_PART_PWR_VALID = 1 ∧ u.twn.lastStat = t ∧ SameBut [.regs, .twn] s u)) ∧
    (s.isCompanion = true → b.getD 0 0 % 8 = 0 → s.get PWR_STATE_CUR = 2 → bitB (s.get PWR_WAKE_SRC) 3 = true → s.pwr.vote = none →
      s.pwr.entering = none → s.pwr.waking = none → Answers (.statusFrame b t) s (fun u => u.pwr.waking = some (3, t, 2)))) ∧
  (∀ (s : State) (b : List Nat) (t : Nat), s.twinLinkUp = false ∨ b.length ≠ 8 → exec (.statusFrame b t) s = .next (s.setNow t)) ∧
  (∀ (s : State) (b : List Nat) (t : Nat), s.twinLinkUp = true → b.length = 8 → s.isCompanion = true → b.getD 0 0 % 8 = 0 →
    s.get PWR_STATE_CUR = 0 → s.pwr.vote = none → s.pwr.entering = none → Answers (.statusFrame b t) s (fun u => u.get TWN_PART_PWR_STATE = 0 ∧
      u.get TWN_PART_PWR_VALID = 1 ∧ u.twn.lastStat = t ∧ SameBut [.regs, .twn] s u)) ∧
  (∀ (s : State) (t skew x due : Nat), s.twn.deadline = some (x, due) →
    (s.isCompanion = true → s.linkRuns true = true → s.tick.firstDue = false → s.flag MSU_DIV_CTRL_EN = true →
      s.flagi MSU_ENC_STAT_STOPPED s.divCh = false → tickGe x (tickAdd s.tickno 1) = true → timeGe t due = true →
      Answers (.twnSubst t skew) s (fun u => TickOpened u (tickAdd s.tickno 1) due skew ∧ u.twn.substNow = false ∧ Counts s u TWN_CNT_SUBST 0)) ∧
    (s.isCompanion = false ∨ s.linkRuns true = false ∨ s.tick.firstDue = true ∨ s.flag MSU_DIV_CTRL_EN = false ∨
      s.flagi MSU_ENC_STAT_STOPPED s.divCh = true ∨ tickGe x (tickAdd s.tickno 1) = false ∨ timeGe t due = false →
      exec (.twnSubst t skew) s = .next (s.setNow t))) ∧
  (∀ (s : State) (t skew : Nat), s.twn.deadline = none → exec (.twnSubst t skew) s = .next (s.setNow t)) ∧
  (∀ (s : State) (t : Nat), (s.get TWN_STAT_MODE = 0 ∨ s.twn.takeDue = true → exec (.twnPartnerLost t) s = .next (s.setNow t)) ∧
   (s.get TWN_STAT_MODE ≠ 0 → s.twn.takeDue = false →
    (s.flag TWN_STAT_ROLE = false →
      (timeGe t (s.twn.lastSync + nsUnits 64000) = true → timeGe t (s.twn.lastRec + nsUnits 64000) = true →
        timeGe t (s.twn.lastStat + nsUnits 64000) = true → Answers (.twnPartnerLost t) s (fun u => u.get TWN_STAT_PARTNER_LOST = 1 ∧
          u.twn = { s.twn with takeDue := true } ∧ Counts s u TWN_CNT2_LOSS 0)) ∧
      (timeGe t (s.twn.lastSync + nsUnits 64000) = false ∨ timeGe t (s.twn.lastRec + nsUnits 64000) = false ∨
        timeGe t (s.twn.lastStat + nsUnits 64000) = false → exec (.twnPartnerLost t) s = .next (s.setNow t))) ∧
    (s.flag TWN_STAT_ROLE = true →
      (s.syncFailed s.twn.substRun = true → s.recOld s.tickno = true ∨
        (timeGe t (s.tick.b + nsUnits 64000) = true ∧ timeGe t (s.twn.lastStat + nsUnits 64000) = true) →
        Answers (.twnPartnerLost t) s (fun u => u.get TWN_STAT_PARTNER_LOST = 1 ∧ Counts s u TWN_CNT2_LOSS 0 ∧
          u.get TCK_SRC_ACTIVE = s.get TCK_SRC_ACTIVE ∧
          (s.flag TWN_CTRL_TAKEOVER = true → u.twn.takeDue = true ∧ u.get TWN_STAT_MODE = s.get TWN_STAT_MODE) ∧
          (s.flag TWN_CTRL_TAKEOVER = false → u.get TWN_STAT_MODE = 0) ∧
          (s.get TCK_SRC_ACTIVE = 4 → u.get TCK_STATUS_SRC_LOST = 1 ∧ u.get TCK_EVENTS_SRC_LOST = 1))) ∧
      (s.syncFailed s.twn.substRun = false ∨ (s.recOld s.tickno = false ∧
        (timeGe t (s.tick.b + nsUnits 64000) = false ∨ timeGe t (s.twn.lastStat + nsUnits 64000) = false)) →
        exec (.twnPartnerLost t) s = .next (s.setNow t)))))

/-- Checkpoints, catch-up and the twin's commands (R527 to R530, R535 to R537): a checkpoint that is done sets TWN_CKPT_TICK;
TWIN_DETACH, TWIN_ROLE and TWN_MC_CTRL.GO propose from the Lead of a pair for a tick far enough ahead; TWIN_PAIR runs the checks of
Table 17-7 first, and with mode ALONE detaches; TWIN_ARM arms Rooms of one identifier with a changeover slot, unless a changeover is
set or armed for one of them or no slot is free. The outcomes of authentication and of the partner's checks come with the command
(log entry 23). -/
def Obligations.TwinCommands : Prop :=
  (∀ (s : State) (tick t : Nat) (data ue failed : List Nat),
    (s.isCompanion = true → s.get TWN_STAT_MODE = 2 → Answers (.checkpointDone tick data ue failed t) s (fun u =>
      u.get TWN_CKPT_TICK_LO_TICK = tick % 2 ^ 32 ∧ u.get TWN_CKPT_TICK_HI_TICK = tick / 2 ^ 32 % 2 ^ 16)) ∧
    (s.isCompanion = false ∨ s.get TWN_STAT_MODE ≠ 2 → s.twn.ckpt = none → exec (.checkpointDone tick data ue failed t) s = .next (s.setNow t)) ∧
    (∀ n, s.isCompanion = false ∨ s.get TWN_STAT_MODE ≠ 2 → s.twn.ckpt = some n → Answers (.checkpointDone tick data ue failed t) s (fun u =>
      u.get TWN_CKPT_TICK_LO_TICK = n % 2 ^ 32 ∧ u.get TWN_CKPT_TICK_HI_TICK = n / 2 ^ 32 % 2 ^ 16 ∧ u.twn.ckpt = s.twn.ckptWait.head? ∧
      u.twn.ckptWait = s.twn.ckptWait.tail)) ∧
    (s.flag TWN_STAT_CATCHUP = true → Answers (.catchupDone data t) s (fun u => u.get TWN_STAT_CATCHUP = 0 ∧ u.twn = { s.twn with pairReady := true })) ∧
    (s.flag TWN_STAT_CATCHUP = false → exec (.catchupDone data t) s = .next (s.setNow t))) ∧
  (∀ (s : State) (m : Nat) (c : KmiCmd), KmiReady s 0x0B04 m c →
    (2 ^ 48 ≤ c.a1 → Answers (.twinDetach m) s (fun t => KmiDone t m stBadArg [] 0 ∧ t.twn = s.twn)) ∧
    (c.a1 < 2 ^ 48 → (s.get TWN_STAT_MODE = 0 ∨ s.mcMaster true = false ∨ s.twn.mc.isOpen = true) →
      Answers (.twinDetach m) s (fun t => KmiDone t m stBadState [] 0 ∧ t.twn = s.twn)) ∧
    (c.a1 < 2 ^ 48 → s.get TWN_STAT_MODE ≠ 0 → s.mcMaster true = true → s.twn.mc.isOpen = false →
      (tickGe c.a1 (tickAdd s.tickno (3 + s.mcLag true)) = false → Answers (.twinDetach m) s (fun t => KmiDone t m stDeadline [] 0 ∧ t.twn = s.twn)) ∧
      (tickGe c.a1 (tickAdd s.tickno (3 + s.mcLag true)) = true → Answers (.twinDetach m) s (fun t => KmiRuns t m c ∧ t.twn.mc.isOpen = true ∧
        t.twn.mc.mode = 0xFF00 ∧ t.twn.mc.t = c.a1 ∧ t.twn.mc.op = 1)))) ∧
  (∀ (s : State) (m : Nat) (c : KmiCmd), KmiReady s 0x0B05 m c →
    (2 ≤ c.a0 ∨ 2 ^ 48 ≤ c.a1 → Answers (.twinRole m) s (fun t => KmiDone t m stBadArg [] 0 ∧ t.twn = s.twn)) ∧
    (c.a0 < 2 → c.a1 < 2 ^ 48 →
      (s.get TWN_STAT_MODE = 0 ∨ s.mcMaster true = false → Answers (.twinRole m) s (fun t => KmiDone t m stBadState [] 0 ∧ t.twn = s.twn)) ∧
      (s.get TWN_STAT_MODE ≠ 0 → s.mcMaster true = true →
        (c.a0 = 0 → Answers (.twinRole m) s (fun t => KmiDone t m stOk [s.tickno] 0 ∧ t.twn = s.twn)) ∧
        (c.a0 = 1 → s.twn.mc.isOpen = true → Answers (.twinRole m) s (fun t => KmiDone t m stBadState [] 0 ∧ t.twn = s.twn)) ∧
        (c.a0 = 1 → s.twn.mc.isOpen = false →
          (tickGe c.a1 (tickAdd s.tickno (3 + s.mcLag true)) = false → Answers (.twinRole m) s (fun t => KmiDone t m stDeadline [] 0 ∧ t.twn = s.twn)) ∧
          (tickGe c.a1 (tickAdd s.tickno (3 + s.mcLag true)) = true →
            Answers (.twinRole m) s (fun t => KmiRuns t m c ∧ t.twn.mc.isOpen = true ∧ t.twn.mc.mode = 0xFF03 ∧ t.twn.mc.t = c.a1)))))) ∧
  (∀ (s : State) (t : Nat), t = s.get TWN_MC_TICK_LO_T_LO + 2 ^ 32 * s.get TWN_MC_TICK_HI_T_HI →
    (s.mcMaster true = true → s.get TWN_STAT_MODE ≠ 0 → s.twn.mc.isOpen = false → tickGe t (tickAdd s.tickno (3 + s.mcLag true)) = true →
      Answers .twinMcGo s (fun u => u.twn.mc.isOpen = true ∧ u.twn.mc.t = t ∧ u.twn.mc.mode = s.twn.mc.armMode ∧ u.twn.mc.op = 1)) ∧
    (tickGe t (tickAdd s.tickno (3 + s.mcLag true)) = false → exec .twinMcGo s = .next s)) ∧
  (∀ s : State, (s.mcMaster true = false ∨ s.get TWN_STAT_MODE = 0 ∨ s.twn.mc.isOpen = true) → exec .twinMcGo s = .next s) ∧
  (∀ (s : State) (m : Nat) (c : KmiCmd) (auth peer : Bool), KmiReady s 0x0B03 m c →
    (3 ≤ c.a0 ∨ 2 ^ 48 ≤ c.a1 → Answers (.twinPair m auth peer) s (fun t => KmiDone t m stBadArg [] 0 ∧ t.twn = s.twn)) ∧
    (c.a0 = 0 → c.a1 < 2 ^ 48 →
      (s.get TWN_STAT_MODE = 0 ∨ s.mcMaster true = false ∨ s.twn.mc.isOpen = true →
        Answers (.twinPair m auth peer) s (fun t => KmiDone t m stBadState [] 0 ∧ t.twn = s.twn)) ∧
      (s.get TWN_STAT_MODE ≠ 0 → s.mcMaster true = true → s.twn.mc.isOpen = false →
        (tickGe c.a1 (tickAdd s.tickno (3 + s.mcLag true)) = false → Answers (.twinPair m auth peer) s (fun t => KmiDone t m stDeadline [] 0 ∧
          t.twn = s.twn)) ∧
        (tickGe c.a1 (tickAdd s.tickno (3 + s.mcLag true)) = true → Answers (.twinPair m auth peer) s (fun t => KmiRuns t m c ∧
          t.twn.mc.isOpen = true ∧ t.twn.mc.mode = 0xFF00 ∧ t.twn.mc.t = c.a1)))) ∧
    (1 ≤ c.a0 → c.a0 < 3 → c.a1 < 2 ^ 48 →
      (s.flag TWN_CTRL_EN = false ∨ s.flag TWN_STAT_LANES_UP = false ∨ s.flag TWN_STAT_CAL_DONE = false ∨ s.twn.mc.isOpen = true →
        Answers (.twinPair m auth peer) s (fun t => KmiDone t m stBadState [] 0 ∧ t.twn = s.twn)) ∧
      (s.flag TWN_CTRL_EN = true → s.flag TWN_STAT_LANES_UP = true → s.flag TWN_STAT_CAL_DONE = true → s.twn.mc.isOpen = false →
        (s.slotHolds (s.get TWN_AUTH_CA_SLOT) 2 = false ∨ s.lcStates.all (slotCa (s.get TWN_AUTH_CA_SLOT)) = false →
          Answers (.twinPair m auth peer) s (fun t => KmiDone t m stRefusedLc [] 0 ∧ t.twn = s.twn)) ∧
        (s.slotHolds (s.get TWN_AUTH_CA_SLOT) 2 = true → s.lcStates.all (slotCa (s.get TWN_AUTH_CA_SLOT)) = true → s.mcMaster true = true →
          tickGe c.a1 (tickAdd s.tickno (3 + s.mcLag true)) = false →
          Answers (.twinPair m auth peer) s (fun t => KmiDone t m stDeadline [] 0 ∧ t.twn = s.twn)) ∧
        (s.slotHolds (s.get TWN_AUTH_CA_SLOT) 2 = true → s.lcStates.all (slotCa (s.get TWN_AUTH_CA_SLOT)) = true →
        (s.mcMaster true = true → tickGe c.a1 (tickAdd s.tickno (3 + s.mcLag true)) = true) →
        (auth = false → Answers (.twinPair m auth peer) s (fun t => KmiDone t m stAuthFail [] 0 ∧ t.twn = s.twn ∧ t.get TWN_STAT_AUTH_FAIL = 1)) ∧
        (auth = true → (peer = false ∨ s.pairChecks = false) → Answers (.twinPair m auth peer) s (fun t => KmiDone t m stBadState [] 0 ∧
          t.twn = s.twn)) ∧
        (auth = true → peer = true → s.pairChecks = true → Answers (.twinPair m auth peer) s (fun t => KmiRuns t m c ∧
          t.twn.pairMode = 0xFF00 + c.a0 ∧ t.twn.pairReady = (s.get TWN_CKPT_GEOM_LINES == 0) ∧
          (s.get TWN_CKPT_GEOM_LINES ≠ 0 → t.get TWN_STAT_CATCHUP = 1) ∧
          (s.mcMaster true = true → t.twn.mc.isOpen = true ∧ t.twn.mc.mode = 0xFF00 + c.a0 ∧ t.twn.mc.t = c.a1))))))) ∧
  (∀ (s : State) (m : Nat) (c : KmiCmd), KmiReady s 0x0B06 m c → ∀ d : State, d = s.mcDisarm true → ∀ ids : List Nat,
    ids = (bitList c.a0 24).map (fun r => s.planeItin r (s.inactPlane r) % 65536) →
    (2 ^ 24 ≤ c.a0 ∨ (∃ i ∈ ids, 0xFF00 ≤ i) ∨ (∃ i ∈ ids, i ≠ ids.headD 0) →
      Answers (.twinArm m) s (fun t => KmiDone t m stBadArg [] 0 ∧ t.twn = s.twn)) ∧
    (c.a0 < 2 ^ 24 → (∀ i ∈ ids, i < 0xFF00 ∧ i = ids.headD 0) →
      (s.twn.mc.isOpen = true → Answers (.twinArm m) s (fun t => KmiDone t m stBadState [] 0 ∧ t.twn = s.twn)) ∧
      (s.twn.mc.isOpen = false →
        (c.a0 = 0 → Answers (.twinArm m) s (fun t => KmiDone t m stOk [] 0 ∧ t.twn.mc.armMask = 0 ∧ t.twn.mc.armSlot = none)) ∧
        ((∃ r ∈ List.range 24, bitB c.a0 r = true ∧ (d.geti CFG_ROOM_STAT_CO_PENDING r = 1 ∨ bitB d.armedRooms r = true)) →
          Answers (.twinArm m) s (fun t => KmiDone t m stBadState [] 0 ∧ t.twn = s.twn ∧ t.cfg = s.cfg)) ∧
        ((∀ r, r < 24 → bitB c.a0 r = true → d.geti CFG_ROOM_STAT_CO_PENDING r ≠ 1 ∧ bitB d.armedRooms r = false) → c.a0 ≠ 0 →
          (∀ j, d.coFree = some j → Answers (.twinArm m) s (fun t => KmiDone t m stOk [j] 0 ∧ t.twn.mc.armMask = c.a0 ∧
            t.twn.mc.armSlot = some j ∧ t.twn.mc.armMode = ids.headD 0 ∧ t.geti CFG_CO_STAT_STATE j = 1 ∧ t.geti CFG_CO_MASK_ROOMS j = c.a0)) ∧
          (d.coFree = none → Answers (.twinArm m) s (fun t => KmiDone t m stHeld [] 0 ∧ t.twn = s.twn ∧ t.cfg = s.cfg))))))

/-- The state after reset (the model's log entries 1 and 8, and the reset values of the register maps): the queue is empty, the
stores are in their canonical form and read blank, the units are those of the part, nothing runs, every register field of the maps
reads its reset value, and no word of the table spells a command, since no row of it gives bits. -/
def Obligations.ResetState : Prop :=
  State.reset.pending = [] ∧ State.reset.queueOk = true ∧ State.reset.storesOk = true ∧ State.reset.shapeOk = true ∧ State.reset.out = [] ∧
  State.reset.kmi.running = [] ∧ State.reset.boot.opened = false ∧ State.reset.held = [] ∧
  (∀ a, Assoc.get 0xFF a State.reset.pantry = 0xFF ∧ Assoc.get 0 a State.reset.otp = 0 ∧ Assoc.get 0 a State.reset.dram = 0) ∧
  (∀ row ∈ mapAll, ∀ f ∈ row.flds, f.addr ≠ DMC_MAP_LO_MASK.addr → ∀ i j, i < f.n1 → j < f.n2 → State.reset.get2 f i j = f.reset) ∧
  (∀ n w, decodeTableWord n w = none) ∧ (∀ s n w, State.withFetchWord s n w = s)

/-- A queue whose commands name units of the part runs: every step answers a next state, takes exactly the front command, and leaves
such a queue; every command that names units of the part completes in every state and leaves the queue as it was; a command naming a
unit the part does not have is the one fault (the model's choice, log entry 28), and nothing is refused. -/
def Obligations.QueueRuns : Prop :=
  (∀ s : State, s.queueOk = true → ∃ t, step s = .next t ∧ t.pending = s.pending.tail ∧ t.queueOk = true) ∧
  (∀ (c : Instr) (s : State), wellFormed c = true → ∃ t, exec c s = .next t ∧ t.pending = s.pending) ∧
  (∀ (c : Instr) (rest : List Instr) (s : State), s.pending = c :: rest → wellFormed c = false → step s = .fault .noSuchUnit) ∧
  (∀ (s : State) (r : Refusal), step s ≠ .refused r)

/-- No step clears a bit of the OTP (R441). -/
def Obligations.OtpBitsStay : Prop :=
  ∀ s t : State, step s = .next t → ∀ byte bit_, s.otpBit byte bit_ = true → t.otpBit byte bit_ = true

/-- Every step keeps DRAM, the Pantry and the OTP in their canonical form (log entry 2). -/
def Obligations.StoresStayCanonical : Prop :=
  ∀ s t : State, s.storesOk = true → step s = .next t → t.storesOk = true

/-- Every step keeps the number of units of each kind that State holds. -/
def Obligations.UnitsStay : Prop :=
  ∀ s t : State, s.shapeOk = true → step s = .next t → t.shapeOk = true

/-- A command whose TAG generation is not the mailbox's completes at once with STALE_TAG and does nothing (R395), stated of a
mailbox that the host reaches in RUN: beside the mailbox itself, nothing that a command acts on changes, and the host identifier in
the TAG plays no part. GEN is a field of 4 bits. -/
def Obligations.StaleTags : Prop :=
  KMI_MBX_GEN.width = 4 ∧
  (∀ (s : State) (m : Nat) (c : KmiCmd), m < 15 → m < s.kmi.mbx.length → s.pf0Reach = true → s.get PWR_STATE_CUR = 0 → s.pwr.vote = none →
    s.pwr.entering = none →
    (s.geti KMI_MBX_STATE m = 1 ∨ s.geti KMI_MBX_STATE m = 4) →
    (c.gen ≠ s.geti KMI_MBX_GEN m → Answers (.mbxPost m c) s (fun t => KmiDone t m stStale [] 0 ∧ t.kmi.postQ = s.kmi.postQ ∧
      t.kmi.running = s.kmi.running ∧ SameBut [.kmi, .regs, .pwr, .out, .pba] s t ∧ RegsBut [KMI_MBX_STATE] s t)) ∧
    (∀ x, c.gen = s.geti KMI_MBX_GEN m → kmiWellFormed c = true → (c.hostBuf = true → bitB s.hlk.bme 0 = true) →
      Answers (.mbxPost m { c with tag := 4096 * c.gen + x % 4096 }) s (fun t => t.geti KMI_MBX_STATE m = 2 ∧
        t.kmi.postQ = s.kmi.postQ ++ [m])))

/-- A quadrature error (R71): in modes 1 to 3 a filtered sample in which both inputs change, taken after SWAP and through the filter
of each (R69), leaves the count, sets QERR and writes a Ledger entry ENC_QERR (code 0x0304), which the Ledger's rate limits govern. -/
def Obligations.QuadratureErrors : Prop :=
  ∀ (s : State) (ch stamp t : Nat) (a b : Bool), ch < 8 → s.msu.enc.length = 8 → s.flagi MSU_ENC_CTRL_EN ch = true →
    1 ≤ s.geti MSU_ENC_CTRL_MODE ch → s.geti MSU_ENC_CTRL_MODE ch ≤ 3 →
    (if s.flagi MSU_ENC_CTRL_SWAP ch then b else a) ≠ (s.encSt ch).a → (if s.flagi MSU_ENC_CTRL_SWAP ch then a else b) ≠ (s.encSt ch).b →
    s.filtered ch stamp t (s.encSt ch).stampA = true → s.filtered ch stamp t (s.encSt ch).stampB = true →
    ∃ u : State, exec (.encoderEdge ch a b stamp t) s = .next (u.ledger 0x0304 ch) ∧ u.flagi MSU_ENC_STAT_QERR ch = true ∧
      (∀ i, (u.encSt i).p = (s.encSt i).p ∧ (u.encSt i).k = (s.encSt i).k ∧ (u.encSt i).stamps = (s.encSt i).stamps) ∧
      SameBut [.regs, .msu] s u ∧ RegsBut [MSU_TIME_LO, MSU_TIME_HI, MSU_ENC_STAT_QERR] s u ∧
      Answers (.encoderEdge ch a b stamp t) s (fun v => v.msu = u.msu ∧ v.flagi MSU_ENC_STAT_QERR ch = true)

/-- A tick is never deferred (R64): an event of the active source that is not early opens its tick at once, in every state of the
Rooms, the rest window and housekeeping, whether it comes from the divider, the timer, the host, a chain or twin message, or the
substitution of a lost message. -/
def Obligations.NeverDeferred : Prop :=
  (∀ (s : State) (t skew : Nat), s.flag TCK_CTRL_EN = true → s.isEarly t = false →
    (s.get TCK_SRC_ACTIVE = 0 → s.msu.sched = some t → s.get PWR_STATE_CUR < 3 →
      Answers (.encoderEventDue skew) s (fun u => TickOpened u s.nextTick t skew)) ∧
    (s.get TCK_SRC_ACTIVE = 3 → Answers (.hostTick t skew) s (fun u => TickOpened u s.nextTick t skew))) ∧
  (∀ (s : State) (t skew a d : Nat), s.flag TCK_CTRL_EN = true → s.get TCK_SRC_ACTIVE = 2 → s.tick.timerAnchor = some a → d = s.timerDue a →
    s.isEarly d = false → timeGe t d = true → Answers (.timerEvent t skew) s (fun u => TickOpened u s.nextTick d skew)) ∧
  (∀ (s : State) (tw : Bool) (msg : List Nat) (t skew : Nat), s.mcMember tw = true → downGood msg = true → downType msg = 0 →
    s.linkRuns tw = true → (tw = false ∨ s.tick.firstDue = true ∨ tickGe s.tickno (downTick msg) = false) →
    Answers (.syncTickMessage tw msg t skew) s (fun u => TickOpened u (downTick msg) ((s.setNow t).linkTor tw msg t).1 skew)) ∧
  (∀ (s : State) (t skew x due : Nat), s.twn.deadline = some (x, due) → s.isCompanion = true → s.linkRuns true = true → s.tick.firstDue = false →
    s.flag MSU_DIV_CTRL_EN = true → s.flagi MSU_ENC_STAT_STOPPED s.divCh = false → tickGe x (tickAdd s.tickno 1) = true → timeGe t due = true →
    Answers (.twnSubst t skew) s (fun u => TickOpened u (tickAdd s.tickno 1) due skew))
end

