-- ==== Sys2Proof/Laws/Assoc.lean ====
section
/-! SUPPORT. Laws of the sparse maps: a read after a write, other keys, and that every write keeps the canonical form. -/

set_option Elab.async false

namespace Sys2Proof.Machine

variable {α : Type}

/-! ### Reads after writes -/

theorem Assoc.find?_put_self (k : Nat) (v : α) (m : Assoc α) : Assoc.find? k (Assoc.put k v m) = some v := by
  induction m with
  | nil => simp [Assoc.put, Assoc.find?]
  | cons e t ih =>
    obtain ⟨k', v'⟩ := e
    by_cases h : k' = k
    · simp [Assoc.put, h, Assoc.find?]
    · by_cases h2 : k < k'
      · simp [Assoc.put, h, h2, Assoc.find?]
      · simpa [Assoc.put, h, h2, Assoc.find?] using ih

theorem Assoc.find?_put_ne {k k' : Nat} (h : k' ≠ k) (v : α) (m : Assoc α) : Assoc.find? k' (Assoc.put k v m) = Assoc.find? k' m := by
  induction m with
  | nil => simp [Assoc.put, Assoc.find?, h.symm]
  | cons e t ih =>
    obtain ⟨a, b⟩ := e
    by_cases h1 : a = k
    · subst h1; simp [Assoc.put, Assoc.find?, h.symm]
    · by_cases h2 : k < a
      · simp [Assoc.put, h1, h2, Assoc.find?, h.symm]
      · simp only [Assoc.put, h1, h2, if_false, Assoc.find?]; split <;> simp_all

theorem Assoc.find?_del_self (k : Nat) (m : Assoc α) : Assoc.find? k (Assoc.del k m) = none := by
  induction m with
  | nil => rfl
  | cons e t ih =>
    obtain ⟨a, b⟩ := e
    by_cases h : a = k <;> simp [Assoc.del, h, Assoc.find?, ih]

theorem Assoc.find?_del_ne {k k' : Nat} (h : k' ≠ k) (m : Assoc α) : Assoc.find? k' (Assoc.del k m) = Assoc.find? k' m := by
  induction m with
  | nil => rfl
  | cons e t ih =>
    obtain ⟨a, b⟩ := e
    by_cases h1 : a = k
    · subst h1; simp [Assoc.del, Assoc.find?, h.symm, ih]
    · by_cases h2 : a = k'
      · subst h2; simp [Assoc.del, h1, Assoc.find?]
      · simp [Assoc.del, h1, Assoc.find?, h2, ih]

@[simp] theorem Assoc.get_put_self (d : α) (k : Nat) (v : α) (m : Assoc α) : Assoc.get d k (Assoc.put k v m) = v := by
  simp [Assoc.get, Assoc.find?_put_self]

theorem Assoc.get_put_ne {k k' : Nat} (h : k' ≠ k) (d v : α) (m : Assoc α) : Assoc.get d k' (Assoc.put k v m) = Assoc.get d k' m := by
  simp [Assoc.get, Assoc.find?_put_ne h]

variable [DecidableEq α]

theorem Assoc.find?_write_ne {k k' : Nat} (h : k' ≠ k) (d v : α) (m : Assoc α) :
    Assoc.find? k' (Assoc.write d k v m) = Assoc.find? k' m := by
  unfold Assoc.write; split
  · exact Assoc.find?_del_ne h m
  · exact Assoc.find?_put_ne h v m

@[simp] theorem Assoc.get_write_self (d : α) (k : Nat) (v : α) (m : Assoc α) : Assoc.get d k (Assoc.write d k v m) = v := by
  unfold Assoc.write Assoc.get; split
  · next h => simp [Assoc.find?_del_self, h]
  · simp [Assoc.find?_put_self]

theorem Assoc.get_write_ne {k k' : Nat} (h : k' ≠ k) (d d' v : α) (m : Assoc α) :
    Assoc.get d' k' (Assoc.write d k v m) = Assoc.get d' k' m := by
  simp [Assoc.get, Assoc.find?_write_ne h]

/-! ### The canonical form -/

omit [DecidableEq α] in
/-- A list is sorted where its tail is and its first key lies below every key of the tail. -/
theorem Assoc.sorted_cons {k : Nat} {v : α} {t : Assoc α} :
    Assoc.sorted ((k, v) :: t) = true ↔ (∀ e ∈ t, k < e.1) ∧ Assoc.sorted t = true := by
  induction t generalizing k v with
  | nil => simp [Assoc.sorted]
  | cons e t ih =>
    obtain ⟨a, b⟩ := e
    simp only [Assoc.sorted, Bool.and_eq_true, decide_eq_true_eq, List.mem_cons, forall_eq_or_imp]
    constructor
    · rintro ⟨h1, h2⟩
      exact ⟨⟨h1, fun e he => lt_trans h1 ((ih.mp h2).1 e he)⟩, h2⟩
    · rintro ⟨⟨h1, _⟩, h2⟩
      exact ⟨h1, h2⟩

omit [DecidableEq α] in
theorem Assoc.mem_put {k : Nat} {v : α} {m : Assoc α} {e : Nat × α} (h : e ∈ Assoc.put k v m) : e = (k, v) ∨ e ∈ m := by
  induction m with
  | nil => simpa [Assoc.put] using h
  | cons x t ih =>
    obtain ⟨a, b⟩ := x
    simp only [Assoc.put] at h
    split at h
    · simp only [List.mem_cons] at h ⊢; tauto
    · split at h
      · simp only [List.mem_cons] at h ⊢; tauto
      · simp only [List.mem_cons] at h ⊢
        rcases h with h | h
        · tauto
        · rcases ih h with h | h <;> tauto

omit [DecidableEq α] in
theorem Assoc.mem_del {k : Nat} {m : Assoc α} {e : Nat × α} (h : e ∈ Assoc.del k m) : e ∈ m := by
  induction m with
  | nil => simp [Assoc.del] at h
  | cons x t ih =>
    obtain ⟨a, b⟩ := x
    simp only [Assoc.del] at h
    split at h
    · exact List.mem_cons_of_mem _ (ih h)
    · simp only [List.mem_cons] at h ⊢
      rcases h with h | h
      · exact .inl h
      · exact .inr (ih h)

omit [DecidableEq α] in
theorem Assoc.sorted_put (k : Nat) (v : α) {m : Assoc α} (h : Assoc.sorted m = true) : Assoc.sorted (Assoc.put k v m) = true := by
  induction m with
  | nil => rfl
  | cons x t ih =>
    obtain ⟨a, b⟩ := x
    obtain ⟨h1, h2⟩ := Assoc.sorted_cons.mp h
    simp only [Assoc.put]
    split
    · next e => subst e; exact Assoc.sorted_cons.mpr ⟨h1, h2⟩
    · split
      · next e1 e2 =>
        refine Assoc.sorted_cons.mpr ⟨?_, h⟩
        intro e he
        rcases List.mem_cons.mp he with rfl | he
        · exact e2
        · exact lt_trans e2 (h1 e he)
      · next e1 e2 =>
        refine Assoc.sorted_cons.mpr ⟨?_, ih h2⟩
        intro e he
        rcases Assoc.mem_put he with rfl | he
        · show a < k
          omega
        · exact h1 e he

omit [DecidableEq α] in
theorem Assoc.sorted_del (k : Nat) {m : Assoc α} (h : Assoc.sorted m = true) : Assoc.sorted (Assoc.del k m) = true := by
  induction m with
  | nil => rfl
  | cons x t ih =>
    obtain ⟨a, b⟩ := x
    obtain ⟨h1, h2⟩ := Assoc.sorted_cons.mp h
    simp only [Assoc.del]
    split
    · exact ih h2
    · exact Assoc.sorted_cons.mpr ⟨fun e he => h1 e (Assoc.mem_del he), ih h2⟩

/-- Every write keeps the canonical form. -/
theorem Assoc.wf_write (d : α) (k : Nat) (v : α) {m : Assoc α} (h : Assoc.wf d m = true) : Assoc.wf d (Assoc.write d k v m) = true := by
  simp only [Assoc.wf, Bool.and_eq_true, List.all_eq_true, decide_eq_true_eq] at h ⊢
  unfold Assoc.write
  split
  · exact ⟨Assoc.sorted_del k h.1, fun e he => h.2 e (Assoc.mem_del he)⟩
  · next hv =>
    refine ⟨Assoc.sorted_put k v h.1, fun e he => ?_⟩
    rcases Assoc.mem_put he with rfl | he
    · exact hv
    · exact h.2 e he

/-- A run of writes keeps the canonical form. -/
theorem Assoc.wf_writeRun (d : α) (k : Nat) (l : List α) {m : Assoc α} (h : Assoc.wf d m = true) :
    Assoc.wf d (Assoc.writeRun d k l m) = true := by
  induction l generalizing k m with
  | nil => exact h
  | cons v vs ih => exact ih (k + 1) (Assoc.wf_write d k v h)

omit [DecidableEq α] in
theorem Assoc.sorted_filter (p : Nat × α → Bool) {m : Assoc α} (h : Assoc.sorted m = true) : Assoc.sorted (m.filter p) = true := by
  induction m with
  | nil => rfl
  | cons x t ih =>
    obtain ⟨a, b⟩ := x
    obtain ⟨h1, h2⟩ := Assoc.sorted_cons.mp h
    by_cases hp : p (a, b) = true
    · rw [List.filter_cons_of_pos hp]
      exact Assoc.sorted_cons.mpr ⟨fun e he => h1 e (List.mem_of_mem_filter he), ih h2⟩
    · rw [List.filter_cons_of_neg hp]; exact ih h2

/-- Clearing a run of keys keeps the canonical form. -/
theorem Assoc.wf_clearRun (d : α) (lo n : Nat) {m : Assoc α} (h : Assoc.wf d m = true) : Assoc.wf d (Assoc.clearRun lo n m) = true := by
  simp only [Assoc.wf, Bool.and_eq_true, List.all_eq_true, decide_eq_true_eq] at h ⊢
  exact ⟨Assoc.sorted_filter _ h.1, fun e he => h.2 e (List.mem_of_mem_filter he)⟩

/-- A byte outside a run of writes reads as before. -/
theorem Assoc.get_writeRun_out (d : α) (k : Nat) (l : List α) (m : Assoc α) {a : Nat} (h : a < k ∨ k + l.length ≤ a) :
    Assoc.get d a (Assoc.writeRun d k l m) = Assoc.get d a m := by
  induction l generalizing k m with
  | nil => rfl
  | cons v vs ih =>
    have hne : a ≠ k := by
      simp only [List.length_cons] at h
      omega
    rw [Assoc.writeRun, ih (k + 1) (Assoc.write d k v m) (by simp only [List.length_cons] at h; omega), Assoc.get_write_ne hne]

/-- A byte inside a run of writes reads as written. -/
theorem Assoc.get_writeRun_in (d : α) (k : Nat) (l : List α) (m : Assoc α) {i : Nat} (h : i < l.length) :
    Assoc.get d (k + i) (Assoc.writeRun d k l m) = l[i] := by
  induction l generalizing k m i with
  | nil => simp at h
  | cons v vs ih =>
    cases i with
    | zero =>
      rw [Assoc.writeRun, Assoc.get_writeRun_out _ _ _ _ (by omega)]
      simp
    | succ n =>
      have := ih (k + 1) (Assoc.write d k v m) (i := n) (by simpa using h)
      rw [Assoc.writeRun, show k + (n + 1) = k + 1 + n by omega, this]
      simp

end Sys2Proof.Machine
end

