-- ==== Sys2Proof/Laws/State.lean ====
section
/-! SUPPORT. What each named update of the state leaves as it was: one lemma per field, true by rfl. -/

set_option Elab.async false

namespace Sys2Proof.Machine

/-! ### set2 -/

@[simp] theorem State.set2_pending (s : State) (f : Fld) (i j v : Nat) : (s.set2 f i j v).pending = s.pending := rfl
@[simp] theorem State.set2_held (s : State) (f : Fld) (i j v : Nat) : (s.set2 f i j v).held = s.held := rfl
@[simp] theorem State.set2_hiLatch (s : State) (f : Fld) (i j v : Nat) : (s.set2 f i j v).hiLatch = s.hiLatch := rfl
@[simp] theorem State.set2_out (s : State) (f : Fld) (i j v : Nat) : (s.set2 f i j v).out = s.out := rfl
@[simp] theorem State.set2_freeCount (s : State) (f : Fld) (i j v : Nat) : (s.set2 f i j v).freeCount = s.freeCount := rfl
@[simp] theorem State.set2_tick (s : State) (f : Fld) (i j v : Nat) : (s.set2 f i j v).tick = s.tick := rfl
@[simp] theorem State.set2_msu (s : State) (f : Fld) (i j v : Nat) : (s.set2 f i j v).msu = s.msu := rfl
@[simp] theorem State.set2_syc (s : State) (f : Fld) (i j v : Nat) : (s.set2 f i j v).syc = s.syc := rfl
@[simp] theorem State.set2_fab (s : State) (f : Fld) (i j v : Nat) : (s.set2 f i j v).fab = s.fab := rfl
@[simp] theorem State.set2_ing (s : State) (f : Fld) (i j v : Nat) : (s.set2 f i j v).ing = s.ing := rfl
@[simp] theorem State.set2_hlk (s : State) (f : Fld) (i j v : Nat) : (s.set2 f i j v).hlk = s.hlk := rfl
@[simp] theorem State.set2_rings (s : State) (f : Fld) (i j v : Nat) : (s.set2 f i j v).rings = s.rings := rfl
@[simp] theorem State.set2_dmc (s : State) (f : Fld) (i j v : Nat) : (s.set2 f i j v).dmc = s.dmc := rfl
@[simp] theorem State.set2_dram (s : State) (f : Fld) (i j v : Nat) : (s.set2 f i j v).dram = s.dram := rfl
@[simp] theorem State.set2_dramBad (s : State) (f : Fld) (i j v : Nat) : (s.set2 f i j v).dramBad = s.dramBad := rfl
@[simp] theorem State.set2_cfg (s : State) (f : Fld) (i j v : Nat) : (s.set2 f i j v).cfg = s.cfg := rfl
@[simp] theorem State.set2_wch (s : State) (f : Fld) (i j v : Nat) : (s.set2 f i j v).wch = s.wch := rfl
@[simp] theorem State.set2_kmi (s : State) (f : Fld) (i j v : Nat) : (s.set2 f i j v).kmi = s.kmi := rfl
@[simp] theorem State.set2_pantry (s : State) (f : Fld) (i j v : Nat) : (s.set2 f i j v).pantry = s.pantry := rfl
@[simp] theorem State.set2_otp (s : State) (f : Fld) (i j v : Nat) : (s.set2 f i j v).otp = s.otp := rfl
@[simp] theorem State.set2_pnt (s : State) (f : Fld) (i j v : Nat) : (s.set2 f i j v).pnt = s.pnt := rfl
@[simp] theorem State.set2_io (s : State) (f : Fld) (i j v : Nat) : (s.set2 f i j v).io = s.io := rfl
@[simp] theorem State.set2_pwr (s : State) (f : Fld) (i j v : Nat) : (s.set2 f i j v).pwr = s.pwr := rfl
@[simp] theorem State.set2_boot (s : State) (f : Fld) (i j v : Nat) : (s.set2 f i j v).boot = s.boot := rfl
@[simp] theorem State.set2_twn (s : State) (f : Fld) (i j v : Nat) : (s.set2 f i j v).twn = s.twn := rfl
@[simp] theorem State.set2_lc (s : State) (f : Fld) (i j v : Nat) : (s.set2 f i j v).lc = s.lc := rfl
@[simp] theorem State.set2_bist (s : State) (f : Fld) (i j v : Nat) : (s.set2 f i j v).bist = s.bist := rfl
@[simp] theorem State.set2_ldg (s : State) (f : Fld) (i j v : Nat) : (s.set2 f i j v).ldg = s.ldg := rfl

/-! ### seti -/

@[simp] theorem State.seti_pending (s : State) (f : Fld) (i v : Nat) : (s.seti f i v).pending = s.pending := rfl
@[simp] theorem State.seti_held (s : State) (f : Fld) (i v : Nat) : (s.seti f i v).held = s.held := rfl
@[simp] theorem State.seti_hiLatch (s : State) (f : Fld) (i v : Nat) : (s.seti f i v).hiLatch = s.hiLatch := rfl
@[simp] theorem State.seti_out (s : State) (f : Fld) (i v : Nat) : (s.seti f i v).out = s.out := rfl
@[simp] theorem State.seti_freeCount (s : State) (f : Fld) (i v : Nat) : (s.seti f i v).freeCount = s.freeCount := rfl
@[simp] theorem State.seti_tick (s : State) (f : Fld) (i v : Nat) : (s.seti f i v).tick = s.tick := rfl
@[simp] theorem State.seti_msu (s : State) (f : Fld) (i v : Nat) : (s.seti f i v).msu = s.msu := rfl
@[simp] theorem State.seti_syc (s : State) (f : Fld) (i v : Nat) : (s.seti f i v).syc = s.syc := rfl
@[simp] theorem State.seti_fab (s : State) (f : Fld) (i v : Nat) : (s.seti f i v).fab = s.fab := rfl
@[simp] theorem State.seti_ing (s : State) (f : Fld) (i v : Nat) : (s.seti f i v).ing = s.ing := rfl
@[simp] theorem State.seti_hlk (s : State) (f : Fld) (i v : Nat) : (s.seti f i v).hlk = s.hlk := rfl
@[simp] theorem State.seti_rings (s : State) (f : Fld) (i v : Nat) : (s.seti f i v).rings = s.rings := rfl
@[simp] theorem State.seti_dmc (s : State) (f : Fld) (i v : Nat) : (s.seti f i v).dmc = s.dmc := rfl
@[simp] theorem State.seti_dram (s : State) (f : Fld) (i v : Nat) : (s.seti f i v).dram = s.dram := rfl
@[simp] theorem State.seti_dramBad (s : State) (f : Fld) (i v : Nat) : (s.seti f i v).dramBad = s.dramBad := rfl
@[simp] theorem State.seti_cfg (s : State) (f : Fld) (i v : Nat) : (s.seti f i v).cfg = s.cfg := rfl
@[simp] theorem State.seti_wch (s : State) (f : Fld) (i v : Nat) : (s.seti f i v).wch = s.wch := rfl
@[simp] theorem State.seti_kmi (s : State) (f : Fld) (i v : Nat) : (s.seti f i v).kmi = s.kmi := rfl
@[simp] theorem State.seti_pantry (s : State) (f : Fld) (i v : Nat) : (s.seti f i v).pantry = s.pantry := rfl
@[simp] theorem State.seti_otp (s : State) (f : Fld) (i v : Nat) : (s.seti f i v).otp = s.otp := rfl
@[simp] theorem State.seti_pnt (s : State) (f : Fld) (i v : Nat) : (s.seti f i v).pnt = s.pnt := rfl
@[simp] theorem State.seti_io (s : State) (f : Fld) (i v : Nat) : (s.seti f i v).io = s.io := rfl
@[simp] theorem State.seti_pwr (s : State) (f : Fld) (i v : Nat) : (s.seti f i v).pwr = s.pwr := rfl
@[simp] theorem State.seti_boot (s : State) (f : Fld) (i v : Nat) : (s.seti f i v).boot = s.boot := rfl
@[simp] theorem State.seti_twn (s : State) (f : Fld) (i v : Nat) : (s.seti f i v).twn = s.twn := rfl
@[simp] theorem State.seti_lc (s : State) (f : Fld) (i v : Nat) : (s.seti f i v).lc = s.lc := rfl
@[simp] theorem State.seti_bist (s : State) (f : Fld) (i v : Nat) : (s.seti f i v).bist = s.bist := rfl
@[simp] theorem State.seti_ldg (s : State) (f : Fld) (i v : Nat) : (s.seti f i v).ldg = s.ldg := rfl

/-! ### set -/

@[simp] theorem State.set_pending (s : State) (f : Fld) (v : Nat) : (s.set f v).pending = s.pending := rfl
@[simp] theorem State.set_held (s : State) (f : Fld) (v : Nat) : (s.set f v).held = s.held := rfl
@[simp] theorem State.set_hiLatch (s : State) (f : Fld) (v : Nat) : (s.set f v).hiLatch = s.hiLatch := rfl
@[simp] theorem State.set_out (s : State) (f : Fld) (v : Nat) : (s.set f v).out = s.out := rfl
@[simp] theorem State.set_freeCount (s : State) (f : Fld) (v : Nat) : (s.set f v).freeCount = s.freeCount := rfl
@[simp] theorem State.set_tick (s : State) (f : Fld) (v : Nat) : (s.set f v).tick = s.tick := rfl
@[simp] theorem State.set_msu (s : State) (f : Fld) (v : Nat) : (s.set f v).msu = s.msu := rfl
@[simp] theorem State.set_syc (s : State) (f : Fld) (v : Nat) : (s.set f v).syc = s.syc := rfl
@[simp] theorem State.set_fab (s : State) (f : Fld) (v : Nat) : (s.set f v).fab = s.fab := rfl
@[simp] theorem State.set_ing (s : State) (f : Fld) (v : Nat) : (s.set f v).ing = s.ing := rfl
@[simp] theorem State.set_hlk (s : State) (f : Fld) (v : Nat) : (s.set f v).hlk = s.hlk := rfl
@[simp] theorem State.set_rings (s : State) (f : Fld) (v : Nat) : (s.set f v).rings = s.rings := rfl
@[simp] theorem State.set_dmc (s : State) (f : Fld) (v : Nat) : (s.set f v).dmc = s.dmc := rfl
@[simp] theorem State.set_dram (s : State) (f : Fld) (v : Nat) : (s.set f v).dram = s.dram := rfl
@[simp] theorem State.set_dramBad (s : State) (f : Fld) (v : Nat) : (s.set f v).dramBad = s.dramBad := rfl
@[simp] theorem State.set_cfg (s : State) (f : Fld) (v : Nat) : (s.set f v).cfg = s.cfg := rfl
@[simp] theorem State.set_wch (s : State) (f : Fld) (v : Nat) : (s.set f v).wch = s.wch := rfl
@[simp] theorem State.set_kmi (s : State) (f : Fld) (v : Nat) : (s.set f v).kmi = s.kmi := rfl
@[simp] theorem State.set_pantry (s : State) (f : Fld) (v : Nat) : (s.set f v).pantry = s.pantry := rfl
@[simp] theorem State.set_otp (s : State) (f : Fld) (v : Nat) : (s.set f v).otp = s.otp := rfl
@[simp] theorem State.set_pnt (s : State) (f : Fld) (v : Nat) : (s.set f v).pnt = s.pnt := rfl
@[simp] theorem State.set_io (s : State) (f : Fld) (v : Nat) : (s.set f v).io = s.io := rfl
@[simp] theorem State.set_pwr (s : State) (f : Fld) (v : Nat) : (s.set f v).pwr = s.pwr := rfl
@[simp] theorem State.set_boot (s : State) (f : Fld) (v : Nat) : (s.set f v).boot = s.boot := rfl
@[simp] theorem State.set_twn (s : State) (f : Fld) (v : Nat) : (s.set f v).twn = s.twn := rfl
@[simp] theorem State.set_lc (s : State) (f : Fld) (v : Nat) : (s.set f v).lc = s.lc := rfl
@[simp] theorem State.set_bist (s : State) (f : Fld) (v : Nat) : (s.set f v).bist = s.bist := rfl
@[simp] theorem State.set_ldg (s : State) (f : Fld) (v : Nat) : (s.set f v).ldg = s.ldg := rfl

/-! ### inci -/

@[simp] theorem State.inci_pending (s : State) (f : Fld) (i : Nat) : (s.inci f i).pending = s.pending := rfl
@[simp] theorem State.inci_held (s : State) (f : Fld) (i : Nat) : (s.inci f i).held = s.held := rfl
@[simp] theorem State.inci_hiLatch (s : State) (f : Fld) (i : Nat) : (s.inci f i).hiLatch = s.hiLatch := rfl
@[simp] theorem State.inci_out (s : State) (f : Fld) (i : Nat) : (s.inci f i).out = s.out := rfl
@[simp] theorem State.inci_freeCount (s : State) (f : Fld) (i : Nat) : (s.inci f i).freeCount = s.freeCount := rfl
@[simp] theorem State.inci_tick (s : State) (f : Fld) (i : Nat) : (s.inci f i).tick = s.tick := rfl
@[simp] theorem State.inci_msu (s : State) (f : Fld) (i : Nat) : (s.inci f i).msu = s.msu := rfl
@[simp] theorem State.inci_syc (s : State) (f : Fld) (i : Nat) : (s.inci f i).syc = s.syc := rfl
@[simp] theorem State.inci_fab (s : State) (f : Fld) (i : Nat) : (s.inci f i).fab = s.fab := rfl
@[simp] theorem State.inci_ing (s : State) (f : Fld) (i : Nat) : (s.inci f i).ing = s.ing := rfl
@[simp] theorem State.inci_hlk (s : State) (f : Fld) (i : Nat) : (s.inci f i).hlk = s.hlk := rfl
@[simp] theorem State.inci_rings (s : State) (f : Fld) (i : Nat) : (s.inci f i).rings = s.rings := rfl
@[simp] theorem State.inci_dmc (s : State) (f : Fld) (i : Nat) : (s.inci f i).dmc = s.dmc := rfl
@[simp] theorem State.inci_dram (s : State) (f : Fld) (i : Nat) : (s.inci f i).dram = s.dram := rfl
@[simp] theorem State.inci_dramBad (s : State) (f : Fld) (i : Nat) : (s.inci f i).dramBad = s.dramBad := rfl
@[simp] theorem State.inci_cfg (s : State) (f : Fld) (i : Nat) : (s.inci f i).cfg = s.cfg := rfl
@[simp] theorem State.inci_wch (s : State) (f : Fld) (i : Nat) : (s.inci f i).wch = s.wch := rfl
@[simp] theorem State.inci_kmi (s : State) (f : Fld) (i : Nat) : (s.inci f i).kmi = s.kmi := rfl
@[simp] theorem State.inci_pantry (s : State) (f : Fld) (i : Nat) : (s.inci f i).pantry = s.pantry := rfl
@[simp] theorem State.inci_otp (s : State) (f : Fld) (i : Nat) : (s.inci f i).otp = s.otp := rfl
@[simp] theorem State.inci_pnt (s : State) (f : Fld) (i : Nat) : (s.inci f i).pnt = s.pnt := rfl
@[simp] theorem State.inci_io (s : State) (f : Fld) (i : Nat) : (s.inci f i).io = s.io := rfl
@[simp] theorem State.inci_pwr (s : State) (f : Fld) (i : Nat) : (s.inci f i).pwr = s.pwr := rfl
@[simp] theorem State.inci_boot (s : State) (f : Fld) (i : Nat) : (s.inci f i).boot = s.boot := rfl
@[simp] theorem State.inci_twn (s : State) (f : Fld) (i : Nat) : (s.inci f i).twn = s.twn := rfl
@[simp] theorem State.inci_lc (s : State) (f : Fld) (i : Nat) : (s.inci f i).lc = s.lc := rfl
@[simp] theorem State.inci_bist (s : State) (f : Fld) (i : Nat) : (s.inci f i).bist = s.bist := rfl
@[simp] theorem State.inci_ldg (s : State) (f : Fld) (i : Nat) : (s.inci f i).ldg = s.ldg := rfl

/-! ### inc -/

@[simp] theorem State.inc_pending (s : State) (f : Fld) : (s.inc f).pending = s.pending := rfl
@[simp] theorem State.inc_held (s : State) (f : Fld) : (s.inc f).held = s.held := rfl
@[simp] theorem State.inc_hiLatch (s : State) (f : Fld) : (s.inc f).hiLatch = s.hiLatch := rfl
@[simp] theorem State.inc_out (s : State) (f : Fld) : (s.inc f).out = s.out := rfl
@[simp] theorem State.inc_freeCount (s : State) (f : Fld) : (s.inc f).freeCount = s.freeCount := rfl
@[simp] theorem State.inc_tick (s : State) (f : Fld) : (s.inc f).tick = s.tick := rfl
@[simp] theorem State.inc_msu (s : State) (f : Fld) : (s.inc f).msu = s.msu := rfl
@[simp] theorem State.inc_syc (s : State) (f : Fld) : (s.inc f).syc = s.syc := rfl
@[simp] theorem State.inc_fab (s : State) (f : Fld) : (s.inc f).fab = s.fab := rfl
@[simp] theorem State.inc_ing (s : State) (f : Fld) : (s.inc f).ing = s.ing := rfl
@[simp] theorem State.inc_hlk (s : State) (f : Fld) : (s.inc f).hlk = s.hlk := rfl
@[simp] theorem State.inc_rings (s : State) (f : Fld) : (s.inc f).rings = s.rings := rfl
@[simp] theorem State.inc_dmc (s : State) (f : Fld) : (s.inc f).dmc = s.dmc := rfl
@[simp] theorem State.inc_dram (s : State) (f : Fld) : (s.inc f).dram = s.dram := rfl
@[simp] theorem State.inc_dramBad (s : State) (f : Fld) : (s.inc f).dramBad = s.dramBad := rfl
@[simp] theorem State.inc_cfg (s : State) (f : Fld) : (s.inc f).cfg = s.cfg := rfl
@[simp] theorem State.inc_wch (s : State) (f : Fld) : (s.inc f).wch = s.wch := rfl
@[simp] theorem State.inc_kmi (s : State) (f : Fld) : (s.inc f).kmi = s.kmi := rfl
@[simp] theorem State.inc_pantry (s : State) (f : Fld) : (s.inc f).pantry = s.pantry := rfl
@[simp] theorem State.inc_otp (s : State) (f : Fld) : (s.inc f).otp = s.otp := rfl
@[simp] theorem State.inc_pnt (s : State) (f : Fld) : (s.inc f).pnt = s.pnt := rfl
@[simp] theorem State.inc_io (s : State) (f : Fld) : (s.inc f).io = s.io := rfl
@[simp] theorem State.inc_pwr (s : State) (f : Fld) : (s.inc f).pwr = s.pwr := rfl
@[simp] theorem State.inc_boot (s : State) (f : Fld) : (s.inc f).boot = s.boot := rfl
@[simp] theorem State.inc_twn (s : State) (f : Fld) : (s.inc f).twn = s.twn := rfl
@[simp] theorem State.inc_lc (s : State) (f : Fld) : (s.inc f).lc = s.lc := rfl
@[simp] theorem State.inc_bist (s : State) (f : Fld) : (s.inc f).bist = s.bist := rfl
@[simp] theorem State.inc_ldg (s : State) (f : Fld) : (s.inc f).ldg = s.ldg := rfl

/-! ### addi -/

@[simp] theorem State.addi_pending (s : State) (f : Fld) (i n : Nat) : (s.addi f i n).pending = s.pending := rfl
@[simp] theorem State.addi_held (s : State) (f : Fld) (i n : Nat) : (s.addi f i n).held = s.held := rfl
@[simp] theorem State.addi_hiLatch (s : State) (f : Fld) (i n : Nat) : (s.addi f i n).hiLatch = s.hiLatch := rfl
@[simp] theorem State.addi_out (s : State) (f : Fld) (i n : Nat) : (s.addi f i n).out = s.out := rfl
@[simp] theorem State.addi_freeCount (s : State) (f : Fld) (i n : Nat) : (s.addi f i n).freeCount = s.freeCount := rfl
@[simp] theorem State.addi_tick (s : State) (f : Fld) (i n : Nat) : (s.addi f i n).tick = s.tick := rfl
@[simp] theorem State.addi_msu (s : State) (f : Fld) (i n : Nat) : (s.addi f i n).msu = s.msu := rfl
@[simp] theorem State.addi_syc (s : State) (f : Fld) (i n : Nat) : (s.addi f i n).syc = s.syc := rfl
@[simp] theorem State.addi_fab (s : State) (f : Fld) (i n : Nat) : (s.addi f i n).fab = s.fab := rfl
@[simp] theorem State.addi_ing (s : State) (f : Fld) (i n : Nat) : (s.addi f i n).ing = s.ing := rfl
@[simp] theorem State.addi_hlk (s : State) (f : Fld) (i n : Nat) : (s.addi f i n).hlk = s.hlk := rfl
@[simp] theorem State.addi_rings (s : State) (f : Fld) (i n : Nat) : (s.addi f i n).rings = s.rings := rfl
@[simp] theorem State.addi_dmc (s : State) (f : Fld) (i n : Nat) : (s.addi f i n).dmc = s.dmc := rfl
@[simp] theorem State.addi_dram (s : State) (f : Fld) (i n : Nat) : (s.addi f i n).dram = s.dram := rfl
@[simp] theorem State.addi_dramBad (s : State) (f : Fld) (i n : Nat) : (s.addi f i n).dramBad = s.dramBad := rfl
@[simp] theorem State.addi_cfg (s : State) (f : Fld) (i n : Nat) : (s.addi f i n).cfg = s.cfg := rfl
@[simp] theorem State.addi_wch (s : State) (f : Fld) (i n : Nat) : (s.addi f i n).wch = s.wch := rfl
@[simp] theorem State.addi_kmi (s : State) (f : Fld) (i n : Nat) : (s.addi f i n).kmi = s.kmi := rfl
@[simp] theorem State.addi_pantry (s : State) (f : Fld) (i n : Nat) : (s.addi f i n).pantry = s.pantry := rfl
@[simp] theorem State.addi_otp (s : State) (f : Fld) (i n : Nat) : (s.addi f i n).otp = s.otp := rfl
@[simp] theorem State.addi_pnt (s : State) (f : Fld) (i n : Nat) : (s.addi f i n).pnt = s.pnt := rfl
@[simp] theorem State.addi_io (s : State) (f : Fld) (i n : Nat) : (s.addi f i n).io = s.io := rfl
@[simp] theorem State.addi_pwr (s : State) (f : Fld) (i n : Nat) : (s.addi f i n).pwr = s.pwr := rfl
@[simp] theorem State.addi_boot (s : State) (f : Fld) (i n : Nat) : (s.addi f i n).boot = s.boot := rfl
@[simp] theorem State.addi_twn (s : State) (f : Fld) (i n : Nat) : (s.addi f i n).twn = s.twn := rfl
@[simp] theorem State.addi_lc (s : State) (f : Fld) (i n : Nat) : (s.addi f i n).lc = s.lc := rfl
@[simp] theorem State.addi_bist (s : State) (f : Fld) (i n : Nat) : (s.addi f i n).bist = s.bist := rfl
@[simp] theorem State.addi_ldg (s : State) (f : Fld) (i n : Nat) : (s.addi f i n).ldg = s.ldg := rfl

/-! ### orBit -/

@[simp] theorem State.orBit_pending (s : State) (f : Fld) (b : Nat) : (s.orBit f b).pending = s.pending := rfl
@[simp] theorem State.orBit_held (s : State) (f : Fld) (b : Nat) : (s.orBit f b).held = s.held := rfl
@[simp] theorem State.orBit_hiLatch (s : State) (f : Fld) (b : Nat) : (s.orBit f b).hiLatch = s.hiLatch := rfl
@[simp] theorem State.orBit_out (s : State) (f : Fld) (b : Nat) : (s.orBit f b).out = s.out := rfl
@[simp] theorem State.orBit_freeCount (s : State) (f : Fld) (b : Nat) : (s.orBit f b).freeCount = s.freeCount := rfl
@[simp] theorem State.orBit_tick (s : State) (f : Fld) (b : Nat) : (s.orBit f b).tick = s.tick := rfl
@[simp] theorem State.orBit_msu (s : State) (f : Fld) (b : Nat) : (s.orBit f b).msu = s.msu := rfl
@[simp] theorem State.orBit_syc (s : State) (f : Fld) (b : Nat) : (s.orBit f b).syc = s.syc := rfl
@[simp] theorem State.orBit_fab (s : State) (f : Fld) (b : Nat) : (s.orBit f b).fab = s.fab := rfl
@[simp] theorem State.orBit_ing (s : State) (f : Fld) (b : Nat) : (s.orBit f b).ing = s.ing := rfl
@[simp] theorem State.orBit_hlk (s : State) (f : Fld) (b : Nat) : (s.orBit f b).hlk = s.hlk := rfl
@[simp] theorem State.orBit_rings (s : State) (f : Fld) (b : Nat) : (s.orBit f b).rings = s.rings := rfl
@[simp] theorem State.orBit_dmc (s : State) (f : Fld) (b : Nat) : (s.orBit f b).dmc = s.dmc := rfl
@[simp] theorem State.orBit_dram (s : State) (f : Fld) (b : Nat) : (s.orBit f b).dram = s.dram := rfl
@[simp] theorem State.orBit_dramBad (s : State) (f : Fld) (b : Nat) : (s.orBit f b).dramBad = s.dramBad := rfl
@[simp] theorem State.orBit_cfg (s : State) (f : Fld) (b : Nat) : (s.orBit f b).cfg = s.cfg := rfl
@[simp] theorem State.orBit_wch (s : State) (f : Fld) (b : Nat) : (s.orBit f b).wch = s.wch := rfl
@[simp] theorem State.orBit_kmi (s : State) (f : Fld) (b : Nat) : (s.orBit f b).kmi = s.kmi := rfl
@[simp] theorem State.orBit_pantry (s : State) (f : Fld) (b : Nat) : (s.orBit f b).pantry = s.pantry := rfl
@[simp] theorem State.orBit_otp (s : State) (f : Fld) (b : Nat) : (s.orBit f b).otp = s.otp := rfl
@[simp] theorem State.orBit_pnt (s : State) (f : Fld) (b : Nat) : (s.orBit f b).pnt = s.pnt := rfl
@[simp] theorem State.orBit_io (s : State) (f : Fld) (b : Nat) : (s.orBit f b).io = s.io := rfl
@[simp] theorem State.orBit_pwr (s : State) (f : Fld) (b : Nat) : (s.orBit f b).pwr = s.pwr := rfl
@[simp] theorem State.orBit_boot (s : State) (f : Fld) (b : Nat) : (s.orBit f b).boot = s.boot := rfl
@[simp] theorem State.orBit_twn (s : State) (f : Fld) (b : Nat) : (s.orBit f b).twn = s.twn := rfl
@[simp] theorem State.orBit_lc (s : State) (f : Fld) (b : Nat) : (s.orBit f b).lc = s.lc := rfl
@[simp] theorem State.orBit_bist (s : State) (f : Fld) (b : Nat) : (s.orBit f b).bist = s.bist := rfl
@[simp] theorem State.orBit_ldg (s : State) (f : Fld) (b : Nat) : (s.orBit f b).ldg = s.ldg := rfl

/-! ### setNow -/

@[simp] theorem State.setNow_pending (s : State) (t : Nat) : (s.setNow t).pending = s.pending := rfl
@[simp] theorem State.setNow_held (s : State) (t : Nat) : (s.setNow t).held = s.held := rfl
@[simp] theorem State.setNow_hiLatch (s : State) (t : Nat) : (s.setNow t).hiLatch = s.hiLatch := rfl
@[simp] theorem State.setNow_out (s : State) (t : Nat) : (s.setNow t).out = s.out := rfl
@[simp] theorem State.setNow_freeCount (s : State) (t : Nat) : (s.setNow t).freeCount = s.freeCount := rfl
@[simp] theorem State.setNow_tick (s : State) (t : Nat) : (s.setNow t).tick = s.tick := rfl
@[simp] theorem State.setNow_msu (s : State) (t : Nat) : (s.setNow t).msu = s.msu := rfl
@[simp] theorem State.setNow_syc (s : State) (t : Nat) : (s.setNow t).syc = s.syc := rfl
@[simp] theorem State.setNow_fab (s : State) (t : Nat) : (s.setNow t).fab = s.fab := rfl
@[simp] theorem State.setNow_ing (s : State) (t : Nat) : (s.setNow t).ing = s.ing := rfl
@[simp] theorem State.setNow_hlk (s : State) (t : Nat) : (s.setNow t).hlk = s.hlk := rfl
@[simp] theorem State.setNow_rings (s : State) (t : Nat) : (s.setNow t).rings = s.rings := rfl
@[simp] theorem State.setNow_dmc (s : State) (t : Nat) : (s.setNow t).dmc = s.dmc := rfl
@[simp] theorem State.setNow_dram (s : State) (t : Nat) : (s.setNow t).dram = s.dram := rfl
@[simp] theorem State.setNow_dramBad (s : State) (t : Nat) : (s.setNow t).dramBad = s.dramBad := rfl
@[simp] theorem State.setNow_cfg (s : State) (t : Nat) : (s.setNow t).cfg = s.cfg := rfl
@[simp] theorem State.setNow_wch (s : State) (t : Nat) : (s.setNow t).wch = s.wch := rfl
@[simp] theorem State.setNow_kmi (s : State) (t : Nat) : (s.setNow t).kmi = s.kmi := rfl
@[simp] theorem State.setNow_pantry (s : State) (t : Nat) : (s.setNow t).pantry = s.pantry := rfl
@[simp] theorem State.setNow_otp (s : State) (t : Nat) : (s.setNow t).otp = s.otp := rfl
@[simp] theorem State.setNow_pnt (s : State) (t : Nat) : (s.setNow t).pnt = s.pnt := rfl
@[simp] theorem State.setNow_io (s : State) (t : Nat) : (s.setNow t).io = s.io := rfl
@[simp] theorem State.setNow_pwr (s : State) (t : Nat) : (s.setNow t).pwr = s.pwr := rfl
@[simp] theorem State.setNow_boot (s : State) (t : Nat) : (s.setNow t).boot = s.boot := rfl
@[simp] theorem State.setNow_twn (s : State) (t : Nat) : (s.setNow t).twn = s.twn := rfl
@[simp] theorem State.setNow_lc (s : State) (t : Nat) : (s.setNow t).lc = s.lc := rfl
@[simp] theorem State.setNow_bist (s : State) (t : Nat) : (s.setNow t).bist = s.bist := rfl
@[simp] theorem State.setNow_ldg (s : State) (t : Nat) : (s.setNow t).ldg = s.ldg := rfl

/-! ### setTickno -/

@[simp] theorem State.setTickno_pending (s : State) (n : Nat) : (s.setTickno n).pending = s.pending := rfl
@[simp] theorem State.setTickno_held (s : State) (n : Nat) : (s.setTickno n).held = s.held := rfl
@[simp] theorem State.setTickno_hiLatch (s : State) (n : Nat) : (s.setTickno n).hiLatch = s.hiLatch := rfl
@[simp] theorem State.setTickno_out (s : State) (n : Nat) : (s.setTickno n).out = s.out := rfl
@[simp] theorem State.setTickno_freeCount (s : State) (n : Nat) : (s.setTickno n).freeCount = s.freeCount := rfl
@[simp] theorem State.setTickno_tick (s : State) (n : Nat) : (s.setTickno n).tick = s.tick := rfl
@[simp] theorem State.setTickno_msu (s : State) (n : Nat) : (s.setTickno n).msu = s.msu := rfl
@[simp] theorem State.setTickno_syc (s : State) (n : Nat) : (s.setTickno n).syc = s.syc := rfl
@[simp] theorem State.setTickno_fab (s : State) (n : Nat) : (s.setTickno n).fab = s.fab := rfl
@[simp] theorem State.setTickno_ing (s : State) (n : Nat) : (s.setTickno n).ing = s.ing := rfl
@[simp] theorem State.setTickno_hlk (s : State) (n : Nat) : (s.setTickno n).hlk = s.hlk := rfl
@[simp] theorem State.setTickno_rings (s : State) (n : Nat) : (s.setTickno n).rings = s.rings := rfl
@[simp] theorem State.setTickno_dmc (s : State) (n : Nat) : (s.setTickno n).dmc = s.dmc := rfl
@[simp] theorem State.setTickno_dram (s : State) (n : Nat) : (s.setTickno n).dram = s.dram := rfl
@[simp] theorem State.setTickno_dramBad (s : State) (n : Nat) : (s.setTickno n).dramBad = s.dramBad := rfl
@[simp] theorem State.setTickno_cfg (s : State) (n : Nat) : (s.setTickno n).cfg = s.cfg := rfl
@[simp] theorem State.setTickno_wch (s : State) (n : Nat) : (s.setTickno n).wch = s.wch := rfl
@[simp] theorem State.setTickno_kmi (s : State) (n : Nat) : (s.setTickno n).kmi = s.kmi := rfl
@[simp] theorem State.setTickno_pantry (s : State) (n : Nat) : (s.setTickno n).pantry = s.pantry := rfl
@[simp] theorem State.setTickno_otp (s : State) (n : Nat) : (s.setTickno n).otp = s.otp := rfl
@[simp] theorem State.setTickno_pnt (s : State) (n : Nat) : (s.setTickno n).pnt = s.pnt := rfl
@[simp] theorem State.setTickno_io (s : State) (n : Nat) : (s.setTickno n).io = s.io := rfl
@[simp] theorem State.setTickno_pwr (s : State) (n : Nat) : (s.setTickno n).pwr = s.pwr := rfl
@[simp] theorem State.setTickno_boot (s : State) (n : Nat) : (s.setTickno n).boot = s.boot := rfl
@[simp] theorem State.setTickno_twn (s : State) (n : Nat) : (s.setTickno n).twn = s.twn := rfl
@[simp] theorem State.setTickno_lc (s : State) (n : Nat) : (s.setTickno n).lc = s.lc := rfl
@[simp] theorem State.setTickno_bist (s : State) (n : Nat) : (s.setTickno n).bist = s.bist := rfl
@[simp] theorem State.setTickno_ldg (s : State) (n : Nat) : (s.setTickno n).ldg = s.ldg := rfl

/-! ### emit -/

@[simp] theorem State.emit_pending (s : State) (o : Out) : (s.emit o).pending = s.pending := rfl
@[simp] theorem State.emit_regs (s : State) (o : Out) : (s.emit o).regs = s.regs := rfl
@[simp] theorem State.emit_held (s : State) (o : Out) : (s.emit o).held = s.held := rfl
@[simp] theorem State.emit_hiLatch (s : State) (o : Out) : (s.emit o).hiLatch = s.hiLatch := rfl
@[simp] theorem State.emit_freeCount (s : State) (o : Out) : (s.emit o).freeCount = s.freeCount := rfl
@[simp] theorem State.emit_tick (s : State) (o : Out) : (s.emit o).tick = s.tick := rfl
@[simp] theorem State.emit_msu (s : State) (o : Out) : (s.emit o).msu = s.msu := rfl
@[simp] theorem State.emit_syc (s : State) (o : Out) : (s.emit o).syc = s.syc := rfl
@[simp] theorem State.emit_fab (s : State) (o : Out) : (s.emit o).fab = s.fab := rfl
@[simp] theorem State.emit_ing (s : State) (o : Out) : (s.emit o).ing = s.ing := rfl
@[simp] theorem State.emit_hlk (s : State) (o : Out) : (s.emit o).hlk = s.hlk := rfl
@[simp] theorem State.emit_rings (s : State) (o : Out) : (s.emit o).rings = s.rings := rfl
@[simp] theorem State.emit_dmc (s : State) (o : Out) : (s.emit o).dmc = s.dmc := rfl
@[simp] theorem State.emit_dram (s : State) (o : Out) : (s.emit o).dram = s.dram := rfl
@[simp] theorem State.emit_dramBad (s : State) (o : Out) : (s.emit o).dramBad = s.dramBad := rfl
@[simp] theorem State.emit_cfg (s : State) (o : Out) : (s.emit o).cfg = s.cfg := rfl
@[simp] theorem State.emit_wch (s : State) (o : Out) : (s.emit o).wch = s.wch := rfl
@[simp] theorem State.emit_kmi (s : State) (o : Out) : (s.emit o).kmi = s.kmi := rfl
@[simp] theorem State.emit_pantry (s : State) (o : Out) : (s.emit o).pantry = s.pantry := rfl
@[simp] theorem State.emit_otp (s : State) (o : Out) : (s.emit o).otp = s.otp := rfl
@[simp] theorem State.emit_pnt (s : State) (o : Out) : (s.emit o).pnt = s.pnt := rfl
@[simp] theorem State.emit_io (s : State) (o : Out) : (s.emit o).io = s.io := rfl
@[simp] theorem State.emit_pwr (s : State) (o : Out) : (s.emit o).pwr = s.pwr := rfl
@[simp] theorem State.emit_boot (s : State) (o : Out) : (s.emit o).boot = s.boot := rfl
@[simp] theorem State.emit_twn (s : State) (o : Out) : (s.emit o).twn = s.twn := rfl
@[simp] theorem State.emit_lc (s : State) (o : Out) : (s.emit o).lc = s.lc := rfl
@[simp] theorem State.emit_bist (s : State) (o : Out) : (s.emit o).bist = s.bist := rfl
@[simp] theorem State.emit_ldg (s : State) (o : Out) : (s.emit o).ldg = s.ldg := rfl

/-! ### boundaryCommit -/

@[simp] theorem State.boundaryCommit_pending (s : State) : (s.boundaryCommit).pending = s.pending := rfl
@[simp] theorem State.boundaryCommit_regs (s : State) : (s.boundaryCommit).regs = s.regs := rfl
@[simp] theorem State.boundaryCommit_hiLatch (s : State) : (s.boundaryCommit).hiLatch = s.hiLatch := rfl
@[simp] theorem State.boundaryCommit_out (s : State) : (s.boundaryCommit).out = s.out := rfl
@[simp] theorem State.boundaryCommit_freeCount (s : State) : (s.boundaryCommit).freeCount = s.freeCount := rfl
@[simp] theorem State.boundaryCommit_tick (s : State) : (s.boundaryCommit).tick = s.tick := rfl
@[simp] theorem State.boundaryCommit_msu (s : State) : (s.boundaryCommit).msu = s.msu := rfl
@[simp] theorem State.boundaryCommit_syc (s : State) : (s.boundaryCommit).syc = s.syc := rfl
@[simp] theorem State.boundaryCommit_fab (s : State) : (s.boundaryCommit).fab = s.fab := rfl
@[simp] theorem State.boundaryCommit_ing (s : State) : (s.boundaryCommit).ing = s.ing := rfl
@[simp] theorem State.boundaryCommit_hlk (s : State) : (s.boundaryCommit).hlk = s.hlk := rfl
@[simp] theorem State.boundaryCommit_rings (s : State) : (s.boundaryCommit).rings = s.rings := rfl
@[simp] theorem State.boundaryCommit_dmc (s : State) : (s.boundaryCommit).dmc = s.dmc := rfl
@[simp] theorem State.boundaryCommit_dram (s : State) : (s.boundaryCommit).dram = s.dram := rfl
@[simp] theorem State.boundaryCommit_dramBad (s : State) : (s.boundaryCommit).dramBad = s.dramBad := rfl
@[simp] theorem State.boundaryCommit_cfg (s : State) : (s.boundaryCommit).cfg = s.cfg := rfl
@[simp] theorem State.boundaryCommit_wch (s : State) : (s.boundaryCommit).wch = s.wch := rfl
@[simp] theorem State.boundaryCommit_kmi (s : State) : (s.boundaryCommit).kmi = s.kmi := rfl
@[simp] theorem State.boundaryCommit_pantry (s : State) : (s.boundaryCommit).pantry = s.pantry := rfl
@[simp] theorem State.boundaryCommit_otp (s : State) : (s.boundaryCommit).otp = s.otp := rfl
@[simp] theorem State.boundaryCommit_pnt (s : State) : (s.boundaryCommit).pnt = s.pnt := rfl
@[simp] theorem State.boundaryCommit_io (s : State) : (s.boundaryCommit).io = s.io := rfl
@[simp] theorem State.boundaryCommit_pwr (s : State) : (s.boundaryCommit).pwr = s.pwr := rfl
@[simp] theorem State.boundaryCommit_boot (s : State) : (s.boundaryCommit).boot = s.boot := rfl
@[simp] theorem State.boundaryCommit_twn (s : State) : (s.boundaryCommit).twn = s.twn := rfl
@[simp] theorem State.boundaryCommit_lc (s : State) : (s.boundaryCommit).lc = s.lc := rfl
@[simp] theorem State.boundaryCommit_bist (s : State) : (s.boundaryCommit).bist = s.bist := rfl
@[simp] theorem State.boundaryCommit_ldg (s : State) : (s.boundaryCommit).ldg = s.ldg := rfl

/-! ### touchIdle -/

@[simp] theorem State.touchIdle_pending (s : State) : (s.touchIdle).pending = s.pending := rfl
@[simp] theorem State.touchIdle_regs (s : State) : (s.touchIdle).regs = s.regs := rfl
@[simp] theorem State.touchIdle_held (s : State) : (s.touchIdle).held = s.held := rfl
@[simp] theorem State.touchIdle_hiLatch (s : State) : (s.touchIdle).hiLatch = s.hiLatch := rfl
@[simp] theorem State.touchIdle_out (s : State) : (s.touchIdle).out = s.out := rfl
@[simp] theorem State.touchIdle_freeCount (s : State) : (s.touchIdle).freeCount = s.freeCount := rfl
@[simp] theorem State.touchIdle_tick (s : State) : (s.touchIdle).tick = s.tick := rfl
@[simp] theorem State.touchIdle_msu (s : State) : (s.touchIdle).msu = s.msu := rfl
@[simp] theorem State.touchIdle_syc (s : State) : (s.touchIdle).syc = s.syc := rfl
@[simp] theorem State.touchIdle_fab (s : State) : (s.touchIdle).fab = s.fab := rfl
@[simp] theorem State.touchIdle_ing (s : State) : (s.touchIdle).ing = s.ing := rfl
@[simp] theorem State.touchIdle_hlk (s : State) : (s.touchIdle).hlk = s.hlk := rfl
@[simp] theorem State.touchIdle_rings (s : State) : (s.touchIdle).rings = s.rings := rfl
@[simp] theorem State.touchIdle_dmc (s : State) : (s.touchIdle).dmc = s.dmc := rfl
@[simp] theorem State.touchIdle_dram (s : State) : (s.touchIdle).dram = s.dram := rfl
@[simp] theorem State.touchIdle_dramBad (s : State) : (s.touchIdle).dramBad = s.dramBad := rfl
@[simp] theorem State.touchIdle_cfg (s : State) : (s.touchIdle).cfg = s.cfg := rfl
@[simp] theorem State.touchIdle_wch (s : State) : (s.touchIdle).wch = s.wch := rfl
@[simp] theorem State.touchIdle_kmi (s : State) : (s.touchIdle).kmi = s.kmi := rfl
@[simp] theorem State.touchIdle_pantry (s : State) : (s.touchIdle).pantry = s.pantry := rfl
@[simp] theorem State.touchIdle_otp (s : State) : (s.touchIdle).otp = s.otp := rfl
@[simp] theorem State.touchIdle_pnt (s : State) : (s.touchIdle).pnt = s.pnt := rfl
@[simp] theorem State.touchIdle_io (s : State) : (s.touchIdle).io = s.io := rfl
@[simp] theorem State.touchIdle_boot (s : State) : (s.touchIdle).boot = s.boot := rfl
@[simp] theorem State.touchIdle_twn (s : State) : (s.touchIdle).twn = s.twn := rfl
@[simp] theorem State.touchIdle_lc (s : State) : (s.touchIdle).lc = s.lc := rfl
@[simp] theorem State.touchIdle_bist (s : State) : (s.touchIdle).bist = s.bist := rfl
@[simp] theorem State.touchIdle_ldg (s : State) : (s.touchIdle).ldg = s.ldg := rfl

/-! ### touchSleep -/

@[simp] theorem State.touchSleep_pending (s : State) : (s.touchSleep).pending = s.pending := rfl
@[simp] theorem State.touchSleep_regs (s : State) : (s.touchSleep).regs = s.regs := rfl
@[simp] theorem State.touchSleep_held (s : State) : (s.touchSleep).held = s.held := rfl
@[simp] theorem State.touchSleep_hiLatch (s : State) : (s.touchSleep).hiLatch = s.hiLatch := rfl
@[simp] theorem State.touchSleep_out (s : State) : (s.touchSleep).out = s.out := rfl
@[simp] theorem State.touchSleep_freeCount (s : State) : (s.touchSleep).freeCount = s.freeCount := rfl
@[simp] theorem State.touchSleep_tick (s : State) : (s.touchSleep).tick = s.tick := rfl
@[simp] theorem State.touchSleep_msu (s : State) : (s.touchSleep).msu = s.msu := rfl
@[simp] theorem State.touchSleep_syc (s : State) : (s.touchSleep).syc = s.syc := rfl
@[simp] theorem State.touchSleep_fab (s : State) : (s.touchSleep).fab = s.fab := rfl
@[simp] theorem State.touchSleep_ing (s : State) : (s.touchSleep).ing = s.ing := rfl
@[simp] theorem State.touchSleep_hlk (s : State) : (s.touchSleep).hlk = s.hlk := rfl
@[simp] theorem State.touchSleep_rings (s : State) : (s.touchSleep).rings = s.rings := rfl
@[simp] theorem State.touchSleep_dmc (s : State) : (s.touchSleep).dmc = s.dmc := rfl
@[simp] theorem State.touchSleep_dram (s : State) : (s.touchSleep).dram = s.dram := rfl
@[simp] theorem State.touchSleep_dramBad (s : State) : (s.touchSleep).dramBad = s.dramBad := rfl
@[simp] theorem State.touchSleep_cfg (s : State) : (s.touchSleep).cfg = s.cfg := rfl
@[simp] theorem State.touchSleep_wch (s : State) : (s.touchSleep).wch = s.wch := rfl
@[simp] theorem State.touchSleep_kmi (s : State) : (s.touchSleep).kmi = s.kmi := rfl
@[simp] theorem State.touchSleep_pantry (s : State) : (s.touchSleep).pantry = s.pantry := rfl
@[simp] theorem State.touchSleep_otp (s : State) : (s.touchSleep).otp = s.otp := rfl
@[simp] theorem State.touchSleep_pnt (s : State) : (s.touchSleep).pnt = s.pnt := rfl
@[simp] theorem State.touchSleep_io (s : State) : (s.touchSleep).io = s.io := rfl
@[simp] theorem State.touchSleep_boot (s : State) : (s.touchSleep).boot = s.boot := rfl
@[simp] theorem State.touchSleep_twn (s : State) : (s.touchSleep).twn = s.twn := rfl
@[simp] theorem State.touchSleep_lc (s : State) : (s.touchSleep).lc = s.lc := rfl
@[simp] theorem State.touchSleep_bist (s : State) : (s.touchSleep).bist = s.bist := rfl
@[simp] theorem State.touchSleep_ldg (s : State) : (s.touchSleep).ldg = s.ldg := rfl

end Sys2Proof.Machine
end

