-- ==== Sys2Proof/Laws/Ops.lean ====
section
/-! SUPPORT. Laws of the named operations: register fields read back what was written, other fields are left alone, frames compose, and the
Ledger and event records touch only their own components. -/

set_option Elab.async false

namespace Sys2Proof.Machine

open Reg

/-! ### Register fields -/

@[simp] theorem State.get2_set2_self (s : State) (f : Fld) (i j v : Nat) : (s.set2 f i j v).get2 f i j = v % 2 ^ f.width := by
  simp [State.get2, State.set2]

/-- A field with another key is left alone. -/
theorem State.get2_set2_ne (s : State) (f g : Fld) (i j i' j' v : Nat) (h : g.key i' j' ≠ f.key i j) :
    (s.set2 f i j v).get2 g i' j' = s.get2 g i' j' := by
  simp [State.get2, State.set2, Assoc.get_write_ne h]

@[simp] theorem State.geti_seti_self (s : State) (f : Fld) (i v : Nat) : (s.seti f i v).geti f i = v % 2 ^ f.width :=
  s.get2_set2_self f i 0 v

theorem State.geti_seti_ne (s : State) (f g : Fld) (i i' v : Nat) (h : g.key i' 0 ≠ f.key i 0) : (s.seti f i v).geti g i' = s.geti g i' :=
  s.get2_set2_ne f g i 0 i' 0 v h

@[simp] theorem State.get_set_self (s : State) (f : Fld) (v : Nat) : (s.set f v).get f = v % 2 ^ f.width := s.get2_set2_self f 0 0 v

theorem State.get_set_ne (s : State) (f g : Fld) (v : Nat) (h : g.key 0 0 ≠ f.key 0 0) : (s.set f v).get g = s.get g :=
  s.get2_set2_ne f g 0 0 0 0 v h

theorem State.get_seti_ne (s : State) (f g : Fld) (i v : Nat) (h : g.key 0 0 ≠ f.key i 0) : (s.seti f i v).get g = s.get g :=
  s.get2_set2_ne f g i 0 0 0 v h

theorem State.geti_set_ne (s : State) (f g : Fld) (i v : Nat) (h : g.key i 0 ≠ f.key 0 0) : (s.set f v).geti g i = s.geti g i :=
  s.get2_set2_ne f g 0 0 i 0 v h

/-- A read depends on the register map alone. -/
theorem State.get2_congr {s t : State} (h : t.regs = s.regs) (f : Fld) (i j : Nat) : t.get2 f i j = s.get2 f i j := by
  simp [State.get2, h]

theorem State.geti_congr {s t : State} (h : t.regs = s.regs) (f : Fld) (i : Nat) : t.geti f i = s.geti f i := State.get2_congr h f i 0

theorem State.get_congr {s t : State} (h : t.regs = s.regs) (f : Fld) : t.get f = s.get f := State.get2_congr h f 0 0

/-! ### Frames -/

theorem SameBut.refl (l : List Part) (s : State) : SameBut l s s := by
  intro p _; cases p <;> rfl

theorem SameBut.trans {l : List Part} {s t u : State} (h : SameBut l s t) (k : SameBut l t u) : SameBut l s u := by
  intro p hp
  have h1 := h p hp
  have h2 := k p hp
  cases p
  case hlk =>
    have d : { t.hlk with pba := s.hlk.pba } = s.hlk := h1
    have e : { u.hlk with pba := t.hlk.pba } = t.hlk := h2
    show { u.hlk with pba := s.hlk.pba } = s.hlk
    rw [← d, ← e]
  all_goals exact h2.trans h1

theorem SameBut.mono {l l' : List Part} {s t : State} (h : SameBut l s t) (hl : ∀ p ∈ l, p ∈ l') : SameBut l' s t :=
  fun p hp => h p (fun hm => hp (hl p hm))

/-- A fold of steps that each keep a frame keeps it. -/
theorem SameBut.foldl {β : Type} {l : List Part} (f : State → β → State) (h : ∀ s b, SameBut l s (f s b)) (xs : List β) (s : State) :
    SameBut l s (xs.foldl f s) := by
  induction xs generalizing s with
  | nil => exact SameBut.refl l s
  | cons x t ih => exact (h s x).trans (ih (f s x))

theorem RegsBut.refl (l : List Fld) (s : State) : RegsBut l s s := fun _ _ => rfl

theorem RegsBut.trans {l : List Fld} {s t u : State} (h : RegsBut l s t) (k : RegsBut l t u) : RegsBut l s u :=
  fun x hx => (k x hx).trans (h x hx)

theorem RegsBut.of_eq {s t : State} (l : List Fld) (h : t.regs = s.regs) : RegsBut l s t := fun _ _ => by rw [h]

theorem RegsBut.set2 (l : List Fld) (s : State) (f : Fld) (i j v : Nat) (h : f ∈ l) : RegsBut l s (s.set2 f i j v) := by
  intro k hk
  exact Assoc.find?_write_ne (hk f h i j) _ _ _

/-- A field outside the list of a register frame reads as before. -/
theorem RegsBut.get2 {l : List Fld} {s t : State} (h : RegsBut l s t) (g : Fld) (i j : Nat) (hg : ∀ f ∈ l, ∀ a b, g.key i j ≠ f.key a b) :
    t.get2 g i j = s.get2 g i j := by
  simp [State.get2, Assoc.get, h _ hg]

theorem SameBut.set2 (s : State) (f : Fld) (i j v : Nat) : SameBut [.regs] s (s.set2 f i j v) := by
  intro p hp; cases p <;> first | rfl | simp at hp

theorem SameBut.emit (s : State) (o : Out) : SameBut [.out] s (s.emit o) := by
  intro p hp; cases p <;> first | rfl | simp at hp

theorem SameBut.setNow (s : State) (t : Nat) : SameBut [.regs] s (s.setNow t) := by
  intro p hp; cases p <;> first | rfl | simp at hp

/-! ### Events and the Ledger -/

/-- Signalling an MSI-X vector leaves the registers alone. -/
@[simp] theorem State.msix_regs (s : State) (fn vec : Nat) : (s.msix fn vec).regs = s.regs := by
  unfold State.msix; split_ifs <;> rfl

/-- Signalling an MSI-X vector leaves the KMI alone. -/
@[simp] theorem State.msix_kmi (s : State) (fn vec : Nat) : (s.msix fn vec).kmi = s.kmi := by
  unfold State.msix; split_ifs <;> rfl

/-- Signalling an MSI-X vector touches the outward log and, where the vector is masked, its pending bit. -/
theorem SameBut.msix (s : State) (fn vec : Nat) : SameBut [.out, .pba] s (s.msix fn vec) := by
  intro p hp
  unfold State.msix
  cases p <;> simp at hp <;> simp only [Part.same] <;> split_ifs <;> rfl

/-- Posting an event record touches mailbox 15, and signals its vector. -/
theorem SameBut.event (s : State) (code group e0 e1 : Nat) : SameBut [.kmi, .out, .pba] s (s.event code group e0 e1) := by
  have h1 : ∀ (u : State) (k : KmiSt), SameBut [.kmi, .out, .pba] u { u with kmi := k } := by
    intro u k p hp
    cases p <;> first | rfl | simp at hp
  unfold State.event
  extract_lets unread rec s1
  split_ifs
  · exact h1 _ _
  · exact (h1 s _).trans ((SameBut.msix _ _ _).mono (by simp))
  · exact h1 _ _

/-- Appending a record touches the Ledger and registers only. -/
theorem SameBut.ledgerAppend (s : State) (code flags tick supp time detail : Nat) :
    SameBut [.ldg, .regs] s (s.ledgerAppend code flags tick supp time detail) := by
  intro p hp
  unfold State.ledgerAppend
  cases p <;> simp at hp <;> simp only [Part.same] <;> split_ifs <;> rfl

theorem SameBut.ite {l : List Part} {s t u : State} {c : Prop} [Decidable c] (h : c → SameBut l s t) (k : ¬c → SameBut l s u) :
    SameBut l s (if c then t else u) := by
  split
  · next hc => exact h hc
  · next hc => exact k hc

theorem SameBut.ldg (s : State) (k : LedgerSt) : SameBut [.kmi, .ldg, .regs, .out, .pba] s { s with ldg := k } := by
  intro p hp; cases p <;> first | rfl | simp at hp

/-- Taking an event into the Ledger. -/
theorem SameBut.ledgerTake (s : State) (code flags tick time detail : Nat) :
    SameBut [.kmi, .ldg, .regs, .out, .pba] s (s.ledgerTake code flags tick time detail) := by
  have happ : ∀ (s : State) (c f t su ti d : Nat), SameBut [.kmi, .ldg, .regs, .out, .pba] s (s.ledgerAppend c f t su ti d) :=
    fun s c f t su ti d => (SameBut.ledgerAppend s c f t su ti d).mono (by simp)
  have hev : ∀ (s : State) (c g a b : Nat), SameBut [.kmi, .ldg, .regs, .out, .pba] s (s.event c g a b) :=
    fun s c g a b => (SameBut.event s c g a b).mono (by simp)
  have hset : ∀ (s : State) (f : Fld) (i j v : Nat), SameBut [.kmi, .ldg, .regs, .out, .pba] s (s.set2 f i j v) :=
    fun s f i j v => (SameBut.set2 s f i j v).mono (by simp)
  unfold State.ledgerTake
  extract_lets cls src0 sa a1 src1 sb supp b1 src2 src3 sc
  refine SameBut.ite (fun _ => (SameBut.ldg _ _).trans (hset _ _ _ _ _)) (fun _ => ?_)
  have h1 : SameBut [.kmi, .ldg, .regs, .out, .pba] s sa := SameBut.ite (fun _ => SameBut.refl _ _) (fun _ => SameBut.ldg _ _)
  have h2 : SameBut [.kmi, .ldg, .regs, .out, .pba] sa sb :=
    SameBut.ite (fun _ => (happ _ _ _ _ _ _ _).trans ((SameBut.ldg _ _).trans (hset _ _ _ _ _))) (fun _ => SameBut.refl _ _)
  refine h1.trans (h2.trans (SameBut.ite (fun _ => (happ _ _ _ _ _ _ _).trans (SameBut.ldg _ _)) (fun _ => ?_)))
  have h4 : SameBut [.kmi, .ldg, .regs, .out, .pba] sb sc := (SameBut.ldg _ _).trans (hset _ _ _ _ _)
  exact h4.trans (SameBut.ite (fun _ => SameBut.refl _ _) (fun _ => (hset _ _ _ _ _).trans (hev _ _ _ _ _)))

/-- A Ledger entry touches the Ledger, its registers, and, where the buffer fills, mailbox 15 and its vector. -/
theorem SameBut.ledger (s : State) (code detail : Nat) : SameBut [.kmi, .ldg, .regs, .out, .pba] s (s.ledger code detail) := by
  unfold State.ledger
  refine SameBut.ite (fun _ => SameBut.ite (fun _ => SameBut.ledgerTake _ _ _ _ _ _) (fun _ => SameBut.refl _ _)) (fun _ => ?_)
  refine SameBut.ite (fun _ => SameBut.trans (SameBut.ldg s _) ((SameBut.set2 _ _ _ _ _).mono (by simp)))
    (fun _ => (SameBut.set2 _ _ _ _ _).mono (by simp))

/-! ### The KMI (12) -/

/-- What starting a KMI command comes to: nothing without a startable command; its permissions' refusal; or its own results, at once or
later. -/
theorem kmiCommand_cases {op m : Nat} {body : KmiCmd → State → KmiRes} {s t : State} (h : kmiCommand op m body s = .next t) :
    (s.kmiStartable m op = none ∧ t = s) ∨
    (∃ c, s.kmiStartable m op = some c ∧
      ((((s.kmiUnpost m).kmiAccess c ≠ stOk) ∧ t = (s.kmiUnpost m).kmiFinish m c ((s.kmiUnpost m).kmiAccess c) 0 0 [] []) ∨
       (∃ s2 st d r data, body c (s.kmiUnpost m) = .fin s2 st d r data ∧ t = s2.kmiFinish m c st 0 d r data) ∨
       (∃ s2 w k, body c (s.kmiUnpost m) = .run s2 w k ∧ t = s2.kmiRunning m c w k))) := by
  unfold kmiCommand at h
  split at h
  · cases h
  · split at h
    · next h1 => cases h; exact .inl ⟨h1, rfl⟩
    · next c h1 =>
      refine .inr ⟨c, h1, ?_⟩
      simp only at h
      split at h
      · next h2 => cases h; exact .inl ⟨h2, rfl⟩
      · split at h
        · next s2 st d r data h3 => cases h; exact .inr (.inl ⟨s2, st, d, r, data, h3, rfl⟩)
        · next s2 w k h3 => cases h; exact .inr (.inr ⟨s2, w, k, h3, rfl⟩)

/-- A KMI command that may start gives the outcome of its own body. -/
theorem kmiCommand_ready {op m : Nat} {body : KmiCmd → State → KmiRes} {s : State} {c : KmiCmd} (h : KmiReady s op m c) :
    kmiCommand op m body s = match body c (s.kmiUnpost m) with
      | .fin s2 st d r data => .next (s2.kmiFinish m c st 0 d r data)
      | .run s2 w k => .next (s2.kmiRunning m c w k) := by
  obtain ⟨h1, h2, h3⟩ := h
  have h4 : (s.kmiUnpost m).kmiAccess c = stOk := h3
  unfold kmiCommand
  rw [if_neg (by omega), h2]
  simp only [h4, ne_eq, not_true_eq_false, if_false]
  all_goals rfl

/-- A mailbox whose command may start is one of the part's mailboxes. -/
theorem kmiReady_lt {s : State} {op m : Nat} {c : KmiCmd} (h : KmiReady s op m c) : m < s.kmi.mbx.length := by
  obtain ⟨_, h2, _⟩ := h
  by_contra hlt
  have : (s.mbx m).cmd = none := by
    unfold State.mbx
    rw [List.getD_eq_default _ _ (by omega)]
  simp [State.kmiStartable, this] at h2

/-- The mailbox just replaced. -/
theorem State.mbx_setMbx (s : State) (m : Nat) (b : Mbx) (h : m < s.kmi.mbx.length) : (s.setMbx m b).mbx m = b := by
  simp [State.setMbx, State.mbx, setAt, List.getD_eq_getElem?_getD, h]

/-- Delivering results leaves the mailbox DONE with its completion (R392, R394). -/
theorem kmiFinish_done (s : State) (m : Nat) (c : KmiCmd) (st fl d : Nat) (r data : List Nat) (h : m < s.kmi.mbx.length) :
    KmiDone (s.kmiFinish m c st fl d r data) m st r data.length := by
  unfold State.kmiFinish
  extract_lets limit written trunc s1 compl b s2
  have hlen : s1.kmi.mbx.length = s.kmi.mbx.length := by
    simp only [s1]; split <;> rfl
  have hs2 : s2.geti KMI_MBX_STATE m = 4 := by simp only [s2, State.geti_seti_self]; decide
  have hm2 : (s2.mbx m).compl = some compl := by
    have : s2.mbx m = { b with compl := some compl, count := (b.count + 1) % 2 ^ 32 } :=
      State.mbx_setMbx s1 m _ (by omega)
    rw [this]
  split
  · refine ⟨?_, compl, ?_, rfl, rfl, rfl⟩
    · rw [State.geti_congr (State.msix_regs s2 0 m)]; exact hs2
    · simpa [State.mbx] using hm2
  · exact ⟨hs2, compl, hm2, rfl, rfl, rfl⟩

/-- Delivering results writes the data out up to its limit (R393). -/
theorem kmiFinish_data (s : State) (m : Nat) (c : KmiCmd) (st fl d : Nat) (r data : List Nat) (h : m < s.kmi.mbx.length) :
    KmiData (s.kmiFinish m c st fl d r data) m c data := by
  unfold State.kmiFinish
  extract_lets limit written trunc s1 compl b s2
  have hlen : s1.kmi.mbx.length = s.kmi.mbx.length := by
    simp only [s1]; split <;> rfl
  have hm2 : (s2.mbx m).compl = some compl := by
    have : s2.mbx m = { b with compl := some compl, count := (b.count + 1) % 2 ^ 32 } :=
      State.mbx_setMbx s1 m _ (by omega)
    rw [this]
  split
  · exact ⟨compl, by simpa [State.mbx] using hm2, rfl⟩
  · exact ⟨compl, hm2, rfl⟩

/-- Delivering results writes the mailbox's STATE and no other field. -/
theorem RegsBut.kmiFinish (s : State) (m : Nat) (c : KmiCmd) (st fl d : Nat) (r data : List Nat) :
    RegsBut [KMI_MBX_STATE] s (s.kmiFinish m c st fl d r data) := by
  unfold State.kmiFinish
  extract_lets limit written trunc s1 compl b s2
  have h1 : RegsBut [KMI_MBX_STATE] s s1 := RegsBut.of_eq _ (by simp only [s1]; split <;> rfl)
  have h2 : RegsBut [KMI_MBX_STATE] s1 s2 := RegsBut.set2 _ (s1.setMbx m _) _ _ _ _ (by simp)
  refine h1.trans (h2.trans (RegsBut.of_eq _ ?_))
  split
  · exact State.msix_regs _ _ _
  · rfl

/-- Delivering results touches the mailboxes, the mailbox's register, and signals its vector. -/
theorem SameBut.kmiFinish (s : State) (m : Nat) (c : KmiCmd) (st fl d : Nat) (r data : List Nat) :
    SameBut [.kmi, .regs, .out, .pba] s (s.kmiFinish m c st fl d r data) := by
  unfold State.kmiFinish
  extract_lets limit written trunc s1 compl b s2
  have h1 : SameBut [.kmi, .regs, .out, .pba] s s1 :=
    SameBut.ite (fun _ => (SameBut.emit s _).mono (by simp)) (fun _ => SameBut.refl _ s)
  have h2 : SameBut [.kmi, .regs, .out, .pba] s1 s2 := by
    intro p hp; cases p <;> first | rfl | simp at hp
  exact h1.trans (h2.trans (SameBut.ite (fun _ => (SameBut.msix _ _ _).mono (by simp)) (fun _ => SameBut.refl _ _)))

/-- Taking a mailbox out of the posted queue touches the mailboxes only. -/
theorem SameBut.kmiUnpost (s : State) (m : Nat) : SameBut [.kmi] s (s.kmiUnpost m) := by
  intro p hp; cases p <;> first | rfl | simp at hp

/-- A command whose body delivers its results at once: its next state, and the completion in its mailbox. -/
theorem kmi_fin {op m : Nat} {body : KmiCmd → State → KmiRes} {s s2 : State} {c : KmiCmd} {st d : Nat} {r data : List Nat}
    (h : KmiReady s op m c) (hb : body c (s.kmiUnpost m) = .fin s2 st d r data) (hl : s2.kmi.mbx.length = s.kmi.mbx.length) :
    kmiCommand op m body s = .next (s2.kmiFinish m c st 0 d r data) ∧
    KmiDone (s2.kmiFinish m c st 0 d r data) m st r data.length := by
  refine ⟨by rw [kmiCommand_ready h, hb], kmiFinish_done _ _ _ _ _ _ _ _ ?_⟩
  have := kmiReady_lt h
  omega

/-- A command whose body goes on executing: its next state, and the mailbox RUNNING with it. -/
theorem kmi_run {op m : Nat} {body : KmiCmd → State → KmiRes} {s s2 : State} {c : KmiCmd} {w : Bool} {k : Nat}
    (h : KmiReady s op m c) (hb : body c (s.kmiUnpost m) = .run s2 w k) :
    kmiCommand op m body s = .next (s2.kmiRunning m c w k) ∧ KmiRuns (s2.kmiRunning m c w k) m c := by
  refine ⟨by rw [kmiCommand_ready h, hb], ?_, ⟨⟨m, c, w, false, k⟩, ?_, rfl, rfl⟩⟩
  · simp [State.kmiRunning]; decide
  · simp [State.kmiRunning, State.seti, State.set2]

end Sys2Proof.Machine
end

