-- ==== Sys2Proof/Laws/PerInstr.lean ====
section
/-! SUPPORT. Statements about every command, one lemma per constructor of Instr. -/

set_option Elab.async false

namespace Sys2Proof.Laws.NoWordSpells

/-- No word of any length spells the command: the table of operations and events gives its row no bits. -/
def Statement (i : Instr) : Prop := ∀ nbits w : Nat, decodeTableWord nbits w ≠ some i

/-- The decoder spells nothing. -/
theorem none_spelled (i : Instr) : Statement i := by
  intro nbits w h
  cases h

theorem curfew (t : Nat) : Statement (.curfew t) := none_spelled _
theorem rdone (room t : Nat) : Statement (.rdone room t) := none_spelled _
theorem tickStopped (t : Nat) : Statement (.tickStopped t) := none_spelled _
theorem timerEvent (t skew : Nat) : Statement (.timerEvent t skew) := none_spelled _
theorem hostTick (t skew : Nat) : Statement (.hostTick t skew) := none_spelled _
theorem sourceSwitch (t : Nat) : Statement (.sourceSwitch t) := none_spelled _
theorem tickEngineEnable (t : Nat) : Statement (.tickEngineEnable t) := none_spelled _
theorem tickEngineDisable (t : Nat) : Statement (.tickEngineDisable t) := none_spelled _
theorem registerWrite (addr value mask : Nat) : Statement (.registerWrite addr value mask) := none_spelled _
theorem encoderEdge (ch : Nat) (a b : Bool) (stamp t : Nat) : Statement (.encoderEdge ch a b stamp t) := none_spelled _
theorem indexEdge (ch t : Nat) : Statement (.indexEdge ch t) := none_spelled _
theorem encoderStopped (ch t : Nat) : Statement (.encoderStopped ch t) := none_spelled _
theorem encoderEventDue (skew : Nat) : Statement (.encoderEventDue skew) := none_spelled _
theorem divLoad (t : Nat) : Statement (.divLoad t) := none_spelled _
theorem tbLock (t value : Nat) : Statement (.tbLock t value) := none_spelled _
theorem tbRefLost (cause : RefLoss) (t : Nat) : Statement (.tbRefLost cause t) := none_spelled _
theorem tbSet (t : Nat) : Statement (.tbSet t) := none_spelled _
theorem ppsEdge (t : Nat) (inWindow : Bool) : Statement (.ppsEdge t inWindow) := none_spelled _
theorem trigPulse (n : Nat) : Statement (.trigPulse n) := none_spelled _
theorem syncEnum : Statement (.syncEnum) := none_spelled _
theorem enumMessage (msg : List Nat) : Statement (.enumMessage msg) := none_spelled _
theorem enumReply (msg : List Nat) : Statement (.enumReply msg) := none_spelled _
theorem syncTickMessage (twin : Bool) (msg : List Nat) (t skew : Nat) : Statement (.syncTickMessage twin msg t skew) := none_spelled _
theorem syncMergeMessage (twin : Bool) (msg : List Nat) (t : Nat) : Statement (.syncMergeMessage twin msg t) := none_spelled _
theorem calMessage (twin : Bool) (msg : List Nat) (arrival echoAt : Nat) : Statement (.calMessage twin msg arrival echoAt) := none_spelled _
theorem calEcho (twin : Bool) (msg : List Nat) (launch arrival : Nat) : Statement (.calEcho twin msg launch arrival) := none_spelled _
theorem calSend (twin : Bool) (t : Nat) : Statement (.calSend twin t) := none_spelled _
theorem syncStopMessage (twin : Bool) (msg : List Nat) (t : Nat) : Statement (.syncStopMessage twin msg t) := none_spelled _
theorem statusMessage (twin : Bool) (msg : List Nat) (t : Nat) : Statement (.statusMessage twin msg t) := none_spelled _
theorem syncLinkLost (twin : Bool) (cause : LinkLoss) (t : Nat) : Statement (.syncLinkLost twin cause t) := none_spelled _
theorem fpllLockLoss (pll : Nat) : Statement (.fpllLockLoss pll) := none_spelled _
theorem fpllRelock (pll us : Nat) : Statement (.fpllRelock pll us) := none_spelled _
theorem distributedRamWrite (room tile slice : Nat) (inp : SliceIn) : Statement (.distributedRamWrite room tile slice inp) := none_spelled _
theorem blockPortAccess (room : Nat) (larder : Bool) (idx : Nat) (pa pb : Option PortReq) (window aFirst : Bool) : Statement (.blockPortAccess room larder idx pa pb window aFirst) := none_spelled _
theorem pabCycle (room : Nat) (inp : List PabIn) : Statement (.pabCycle room inp) := none_spelled _
theorem pabClearStat (room pab : Nat) : Statement (.pabClearStat room pab) := none_spelled _
theorem laneEnable (lane : Nat) (rx tx : Bool) : Statement (.laneEnable lane rx tx) := none_spelled _
theorem cdrLock (lane : Nat) : Statement (.cdrLock lane) := none_spelled _
theorem wordLock (rx : LaneRx) : Statement (.wordLock rx) := none_spelled _
theorem ingLaneDown (rx : LaneRx) (refPresent : Bool) : Statement (.ingLaneDown rx refPresent) := none_spelled _
theorem lasEnable (la t : Nat) : Statement (.lasEnable la t) := none_spelled _
theorem deskewMarker (la lane : Nat) (mark : MarkRx) : Statement (.deskewMarker la lane mark) := none_spelled _
theorem ingestPacket (la : Nat) (lanes : List (List Nat)) (t tEnd : Nat) : Statement (.ingestPacket la lanes t tEnd) := none_spelled _
theorem lineFill (la rowsInTime : Nat) : Statement (.lineFill la rowsInTime) := none_spelled _
theorem recordBlockPoll (la : Nat) : Statement (.recordBlockPoll la) := none_spelled _
theorem transmitPacket (la : Nat) : Statement (.transmitPacket la) := none_spelled _
theorem perstNRelease (t : Nat) : Statement (.perstNRelease t) := none_spelled _
theorem cfgReady (t us : Nat) (readBad : Bool) : Statement (.cfgReady t us readBad) := none_spelled _
theorem linkTrained (rate width : Nat) (flit : Bool) (enum : HostEnum) (vfEnable pmeEn : Bool) : Statement (.linkTrained rate width flit enum vfEnable pmeEn) := none_spelled _
theorem hlkRetrain : Statement (.hlkRetrain) := none_spelled _
theorem fundamentalReset : Statement (.fundamentalReset) := none_spelled _
theorem hotReset : Statement (.hotReset) := none_spelled _
theorem cxlReset : Statement (.cxlReset) := none_spelled _
theorem flrPf0 : Statement (.flrPf0) := none_spelled _
theorem flrPf1 : Statement (.flrPf1) := none_spelled _
theorem flrVf (v : Nat) : Statement (.flrVf v) := none_spelled _
theorem busMasterDisable (fn : Nat) : Statement (.busMasterDisable fn) := none_spelled _
theorem dStateChange (fn : Nat) (d3hot : Bool) : Statement (.dStateChange fn d3hot) := none_spelled _
theorem pmeTurnOff : Statement (.pmeTurnOff) := none_spelled _
theorem windowRequest (offset len : Nat) (read : Bool) (data : List Nat) (tag : Nat) : Statement (.windowRequest offset len read data tag) := none_spelled _
theorem windowAnswer (room rid : Nat) (data : List Nat) : Statement (.windowAnswer room rid data) := none_spelled _
theorem hlkWinTmo (tmo : WinTmo) : Statement (.hlkWinTmo tmo) := none_spelled _
theorem hdmCommit (base size ways skip : Nat) : Statement (.hdmCommit base size ways skip) := none_spelled _
theorem cxlMemRequest (hpa : Nat) (write : Option (List Nat)) (poison : Bool) (readErr : Nat) (tag : Nat) : Statement (.cxlMemRequest hpa write poison readErr tag) := none_spelled _
theorem h2dSnoop (kind addr : Nat) : Statement (.h2dSnoop kind addr) := none_spelled _
theorem biasFlipStart (page : Nat) : Statement (.biasFlipStart page) := none_spelled _
theorem biasFlipDone : Statement (.biasFlipDone) := none_spelled _
theorem ringStart (r : Nat) : Statement (.ringStart r) := none_spelled _
theorem ringStop (r : Nat) : Statement (.ringStop r) := none_spelled _
theorem ringAbort (r : Nat) : Statement (.ringAbort r) := none_spelled _
theorem ringAbortDone (r : Nat) : Statement (.ringAbortDone r) := none_spelled _
theorem ringDisable (r : Nat) : Statement (.ringDisable r) := none_spelled _
theorem doorbell (fn idx : Nat) (sqPi cqWord : Option Nat) (t : Nat) : Statement (.doorbell fn idx sqPi cqWord t) := none_spelled _
theorem descriptorFetch (r err : Nat) (bytes : List Nat) : Statement (.descriptorFetch r err bytes) := none_spelled _
theorem f2hTransfer (room port slot : Nat) (words : List (Nat × Nat)) (last writesDone : Bool) : Statement (.f2hTransfer room port slot words last writesDone) := none_spelled _
theorem dramCopyTransfer (room port slot word : Nat) (readErr writesDone : Bool) : Statement (.dramCopyTransfer room port slot word readErr writesDone) := none_spelled _
theorem h2fTransfer (r : Nat) : Statement (.h2fTransfer r) := none_spelled _
theorem hostReadCompletion (r kind : Nat) (data : List Nat) : Statement (.hostReadCompletion r kind data) := none_spelled _
theorem delayedPost (r : Nat) : Statement (.delayedPost r) := none_spelled _
theorem ringIrqAge (r t : Nat) : Statement (.ringIrqAge r t) := none_spelled _
theorem roomGone (room : Nat) : Statement (.roomGone room) := none_spelled _
theorem dramWriteTransfer (room port stream header : Nat) (words : List (Nat × Nat)) (t : Nat) : Statement (.dramWriteTransfer room port stream header words t) := none_spelled _
theorem dramReadRequest (room port stream word t : Nat) : Statement (.dramReadRequest room port stream word t) := none_spelled _
theorem dramAck (room port : Nat) : Statement (.dramAck room port) := none_spelled _
theorem dmcCommandSelect (sc t : Nat) (colOk : Bool) (ceBeats : Nat) (ue : Bool) : Statement (.dmcCommandSelect sc t colOk ceBeats ue) := none_spelled _
theorem pageTimeout (sc bank t : Nat) : Statement (.pageTimeout sc bank t) := none_spelled _
theorem refreshInterval (t : Nat) : Statement (.refreshInterval t) := none_spelled _
theorem refreshStart (t : Nat) : Statement (.refreshStart t) := none_spelled _
theorem refreshEnd (t : Nat) : Statement (.refreshEnd t) := none_spelled _
theorem mr4Poll (doubled : Bool) : Statement (.mr4Poll doubled) := none_spelled _
theorem zqCalibration : Statement (.zqCalibration) := none_spelled _
theorem rankPowerDown (sc rank t : Nat) : Statement (.rankPowerDown sc rank t) := none_spelled _
theorem dramTrainGo (mode : Nat) : Statement (.dramTrainGo mode) := none_spelled _
theorem dramTrainDone (res : TrainRes) : Statement (.dramTrainDone res) := none_spelled _
theorem dmcEnable : Statement (.dmcEnable) := none_spelled _
theorem dramInitPass (lines : Nat) : Statement (.dramInitPass lines) := none_spelled _
theorem writeCrcAlert (sc : Nat) (lines : List Nat) (replayed : Bool) : Statement (.writeCrcAlert sc lines replayed) := none_spelled _
theorem loadOpen (m : Nat) : Statement (.loadOpen m) := none_spelled _
theorem loadData (m : Nat) : Statement (.loadData m) := none_spelled _
theorem frameGroupProgrammed (room : Nat) (prog : GroupProg) : Statement (.frameGroupProgrammed room prog) := none_spelled _
theorem loadClose (m : Nat) : Statement (.loadClose m) := none_spelled _
theorem readbackDone (bad : Option (Nat × Nat)) : Statement (.readbackDone bad) := none_spelled _
theorem loadAbort (m : Nat) : Statement (.loadAbort m) := none_spelled _
theorem loadTimeout : Statement (.loadTimeout) := none_spelled _
theorem stage (m : Nat) : Statement (.stage m) := none_spelled _
theorem stagingGroup (room t : Nat) (bad : Option Nat) : Statement (.stagingGroup room t bad) := none_spelled _
theorem changeover (m : Nat) : Statement (.changeover m) := none_spelled _
theorem rollback (m : Nat) : Statement (.rollback m) := none_spelled _
theorem cancelCo (m : Nat) : Statement (.cancelCo m) := none_spelled _
theorem coSlotArm (j : Nat) : Statement (.coSlotArm j) := none_spelled _
theorem coSlotFree (j : Nat) : Statement (.coSlotFree j) := none_spelled _
theorem handoverBlockWorkDone (room work : Nat) : Statement (.handoverBlockWorkDone room work) := none_spelled _
theorem selectWordProgram (t : Nat) : Statement (.selectWordProgram t) := none_spelled _
theorem roomPowerOff (room : Nat) : Statement (.roomPowerOff room) := none_spelled _
theorem roomPowerOn (room : Nat) : Statement (.roomPowerOn room) := none_spelled _
theorem watchmanFrameOp (room t : Nat) (f : FrameFind) : Statement (.watchmanFrameOp room t f) := none_spelled _
theorem reloadPlaneRead (room : Nat) : Statement (.reloadPlaneRead room) := none_spelled _
theorem reloadWrite (room t : Nat) : Statement (.reloadWrite room t) := none_spelled _
theorem pacingCredit (room t : Nat) : Statement (.pacingCredit room t) := none_spelled _
theorem wchStarved (room t : Nat) : Statement (.wchStarved room t) := none_spelled _
theorem marginPassPeriodic (t : Nat) : Statement (.marginPassPeriodic t) := none_spelled _
theorem marginPassGo : Statement (.marginPassGo) := none_spelled _
theorem watchmanTmrScrub (fixes : Nat) : Statement (.watchmanTmrScrub fixes) := none_spelled _
theorem ramMapRebuild (room bank : Nat) (ended : Bool) : Statement (.ramMapRebuild room bank ended) := none_spelled _
theorem heartbeatCheck (t : Nat) : Statement (.heartbeatCheck t) := none_spelled _
theorem watchmanSoftRst : Statement (.watchmanSoftRst) := none_spelled _
theorem watchmanSample (pass : Bool) : Statement (.watchmanSample pass) := none_spelled _
theorem watchmanForce : Statement (.watchmanForce) := none_spelled _
theorem mbxPost (m : Nat) (cmd : KmiCmd) : Statement (.mbxPost m cmd) := none_spelled _
theorem mbxAck (m : Nat) : Statement (.mbxAck m) := none_spelled _
theorem mbxAbort (m : Nat) : Statement (.mbxAbort m) := none_spelled _
theorem mbxEvtAck (n : Nat) : Statement (.mbxEvtAck n) := none_spelled _
theorem watchdogExpiry : Statement (.watchdogExpiry) := none_spelled _
theorem watchdogKick : Statement (.watchdogKick) := none_spelled _
theorem fabMgmtRead (m : Nat) : Statement (.fabMgmtRead m) := none_spelled _
theorem fabMgmtWrite (m : Nat) : Statement (.fabMgmtWrite m) := none_spelled _
theorem fpllRead (m : Nat) : Statement (.fpllRead m) := none_spelled _
theorem fpllWrite (m : Nat) : Statement (.fpllWrite m) := none_spelled _
theorem bramSbe (m : Nat) : Statement (.bramSbe m) := none_spelled _
theorem tickRegRead (m : Nat) : Statement (.tickRegRead m) := none_spelled _
theorem tickRegWrite (m : Nat) : Statement (.tickRegWrite m) := none_spelled _
theorem tickNow (m : Nat) : Statement (.tickNow m) := none_spelled _
theorem msuRegRead (m : Nat) : Statement (.msuRegRead m) := none_spelled _
theorem msuRegWrite (m : Nat) : Statement (.msuRegWrite m) := none_spelled _
theorem sycRegRead (m : Nat) : Statement (.sycRegRead m) := none_spelled _
theorem sycRegWrite (m : Nat) : Statement (.sycRegWrite m) := none_spelled _
theorem syncArm (m : Nat) : Statement (.syncArm m) := none_spelled _
theorem syncDisarm (m : Nat) : Statement (.syncDisarm m) := none_spelled _
theorem syncPropose (m : Nat) : Statement (.syncPropose m) := none_spelled _
theorem syncLocal (m : Nat) : Statement (.syncLocal m) := none_spelled _
theorem ingRegRead (m : Nat) : Statement (.ingRegRead m) := none_spelled _
theorem ingRegWrite (m : Nat) : Statement (.ingRegWrite m) := none_spelled _
theorem lasRegRead (m : Nat) : Statement (.lasRegRead m) := none_spelled _
theorem lasRegWrite (m : Nat) : Statement (.lasRegWrite m) := none_spelled _
theorem sideRecv (m : Nat) : Statement (.sideRecv m) := none_spelled _
theorem sideSend (m : Nat) : Statement (.sideSend m) := none_spelled _
theorem hlkRegRead (m : Nat) : Statement (.hlkRegRead m) := none_spelled _
theorem hlkRegWrite (m : Nat) : Statement (.hlkRegWrite m) := none_spelled _
theorem hdmSet (m : Nat) : Statement (.hdmSet m) := none_spelled _
theorem biasFlip (m : Nat) : Statement (.biasFlip m) := none_spelled _
theorem hostSettings (m : Nat) : Statement (.hostSettings m) := none_spelled _
theorem ringCmd (m : Nat) : Statement (.ringCmd m) := none_spelled _
theorem drgRegRead (m : Nat) : Statement (.drgRegRead m) := none_spelled _
theorem drgRegWrite (m : Nat) : Statement (.drgRegWrite m) := none_spelled _
theorem dmcRegRead (m : Nat) : Statement (.dmcRegRead m) := none_spelled _
theorem dmcRegWrite (m : Nat) : Statement (.dmcRegWrite m) := none_spelled _
theorem memSettings (m : Nat) : Statement (.memSettings m) := none_spelled _
theorem dramRead (m : Nat) : Statement (.dramRead m) := none_spelled _
theorem dramWrite (m : Nat) : Statement (.dramWrite m) := none_spelled _
theorem dramTrain (m : Nat) : Statement (.dramTrain m) := none_spelled _
theorem configStatus (m : Nat) : Statement (.configStatus m) := none_spelled _
theorem wchRegRead (m : Nat) : Statement (.wchRegRead m) := none_spelled _
theorem wchRegWrite (m : Nat) : Statement (.wchRegWrite m) := none_spelled _
theorem kmiInfo (m : Nat) : Statement (.kmiInfo m) := none_spelled _
theorem kmiEcho (m : Nat) : Statement (.kmiEcho m) := none_spelled _
theorem rawRead (m : Nat) : Statement (.rawRead m) := none_spelled _
theorem rawWrite (m : Nat) : Statement (.rawWrite m) := none_spelled _
theorem pantryRead (m : Nat) (retryAt : List Nat) (ueAt : Option Nat) : Statement (.pantryRead m retryAt ueAt) := none_spelled _
theorem pantryProgram (m : Nat) : Statement (.pantryProgram m) := none_spelled _
theorem pantryErase (m : Nat) : Statement (.pantryErase m) := none_spelled _
theorem fwUpdate (m : Nat) : Statement (.fwUpdate m) := none_spelled _
theorem otpRead (m : Nat) : Statement (.otpRead m) := none_spelled _
theorem otpProgram (m : Nat) : Statement (.otpProgram m) := none_spelled _
theorem ledgerRead (m : Nat) : Statement (.ledgerRead m) := none_spelled _
theorem ledgerArchive (m : Nat) : Statement (.ledgerArchive m) := none_spelled _
theorem bistRun (m : Nat) : Statement (.bistRun m) := none_spelled _
theorem bistResult (m : Nat) : Statement (.bistResult m) := none_spelled _
theorem pwrRegRead (m : Nat) : Statement (.pwrRegRead m) := none_spelled _
theorem pwrRegWrite (m : Nat) : Statement (.pwrRegWrite m) := none_spelled _
theorem pwrLimit (m : Nat) : Statement (.pwrLimit m) := none_spelled _
theorem pwrRooms (m : Nat) : Statement (.pwrRooms m) := none_spelled _
theorem pwrWakeReport (m : Nat) : Statement (.pwrWakeReport m) := none_spelled _
theorem lcStatus (m : Nat) : Statement (.lcStatus m) := none_spelled _
theorem lcAdvance (m : Nat) : Statement (.lcAdvance m) := none_spelled _
theorem debugChallenge (m : Nat) : Statement (.debugChallenge m) := none_spelled _
theorem debugUnlock (m : Nat) : Statement (.debugUnlock m) := none_spelled _
theorem debugLock (m : Nat) : Statement (.debugLock m) := none_spelled _
theorem keyProvision (m : Nat) : Statement (.keyProvision m) := none_spelled _
theorem scrap (m : Nat) : Statement (.scrap m) := none_spelled _
theorem ffCapture (m : Nat) : Statement (.ffCapture m) := none_spelled _
theorem twnRegRead (m : Nat) : Statement (.twnRegRead m) := none_spelled _
theorem twnRegWrite (m : Nat) : Statement (.twnRegWrite m) := none_spelled _
theorem twinPair (m : Nat) (authOk peerOk : Bool) : Statement (.twinPair m authOk peerOk) := none_spelled _
theorem twinDetach (m : Nat) : Statement (.twinDetach m) := none_spelled _
theorem twinRole (m : Nat) : Statement (.twinRole m) := none_spelled _
theorem twinArm (m : Nat) : Statement (.twinArm m) := none_spelled _
theorem gpioRegRead (m : Nat) : Statement (.gpioRegRead m) := none_spelled _
theorem gpioRegWrite (m : Nat) : Statement (.gpioRegWrite m) := none_spelled _
theorem iobRegRead (m : Nat) : Statement (.iobRegRead m) := none_spelled _
theorem iobRegWrite (m : Nat) : Statement (.iobRegWrite m) := none_spelled _
theorem pinAssign (m : Nat) : Statement (.pinAssign m) := none_spelled _
theorem periphXfer (m : Nat) : Statement (.periphXfer m) := none_spelled _
theorem periphXferDone (c : Nat) (rx : List Nat) (nack : Option Nat) : Statement (.periphXferDone c rx nack) := none_spelled _
theorem pntProgram (b : Nat) (nvwp vaux : Bool) : Statement (.pntProgram b nvwp vaux) := none_spelled _
theorem pntErase (b : Nat) (nvwp vaux : Bool) : Statement (.pntErase b nvwp vaux) := none_spelled _
theorem pntSuspend (b : Nat) : Statement (.pntSuspend b) := none_spelled _
theorem pntResume (b : Nat) (nvwp : Bool) : Statement (.pntResume b nvwp) := none_spelled _
theorem pntProgramDone (b : Nat) (verified : Bool) : Statement (.pntProgramDone b verified) := none_spelled _
theorem pntSectorErased (b : Nat) (verified : Bool) : Statement (.pntSectorErased b verified) := none_spelled _
theorem fetchLockWrite (lock : Bool) : Statement (.fetchLockWrite lock) := none_spelled _
theorem otpCmdRead (row : Nat) : Statement (.otpCmdRead row) := none_spelled _
theorem otpCmdProgram (row : Nat) (vaux : Bool) : Statement (.otpCmdProgram row vaux) := none_spelled _
theorem otpProgramDone (verified : Bool) : Statement (.otpProgramDone verified) := none_spelled _
theorem otpShadowLoad : Statement (.otpShadowLoad) := none_spelled _
theorem vioFault (bank : Nat) : Statement (.vioFault bank) := none_spelled _
theorem gpioIrq (q : Nat) (x : IrqLevel) : Statement (.gpioIrq q x) := none_spelled _
theorem timerPulse (tim t : Nat) : Statement (.timerPulse tim t) := none_spelled _
theorem timerCapture (tim t : Nat) (rising : Bool) : Statement (.timerCapture tim t rising) := none_spelled _
theorem iobSave : Statement (.iobSave) := none_spelled _
theorem powerDecision (t : Nat) (portsIdle : Bool) : Statement (.powerDecision t portsIdle) := none_spelled _
theorem scheduledWake (t : Nat) : Statement (.scheduledWake t) := none_spelled _
theorem voteStop (t : Nat) (busy : Bool) : Statement (.voteStop t busy) := none_spelled _
theorem voteBackoffEnd (t : Nat) : Statement (.voteBackoffEnd t) := none_spelled _
theorem entryCommit (t : Nat) : Statement (.entryCommit t) := none_spelled _
theorem wake (cause t badBanks : Nat) : Statement (.wake cause t badBanks) := none_spelled _
theorem nightPorterSample (t : Nat) (pos : List Int) : Statement (.nightPorterSample t pos) := none_spelled _
theorem powerOn (o : StartObs) : Statement (.powerOn o) := none_spelled _
theorem supplyReset (t : Nat) : Statement (.supplyReset t) := none_spelled _
theorem offWake (o : StartObs) (railsUp : Bool) : Statement (.offWake o railsUp) := none_spelled _
theorem itineraryCheck (t locks : Nat) : Statement (.itineraryCheck t locks) := none_spelled _
theorem opening (t : Nat) : Statement (.opening t) := none_spelled _
theorem startFail (t : Nat) : Statement (.startFail t) := none_spelled _
theorem lanesUp (t : Nat) : Statement (.lanesUp t) := none_spelled _
theorem tickRecord (bytes : List Nat) (t : Nat) : Statement (.tickRecord bytes t) := none_spelled _
theorem statusFrameSend (t : Nat) : Statement (.statusFrameSend t) := none_spelled _
theorem statusFrame (bytes : List Nat) (t : Nat) : Statement (.statusFrame bytes t) := none_spelled _
theorem twnSubst (t skew : Nat) : Statement (.twnSubst t skew) := none_spelled _
theorem checkpointDone (tick : Nat) (data : List Nat) (ue failed : List Nat) (t : Nat) : Statement (.checkpointDone tick data ue failed t) := none_spelled _
theorem catchupDone (data : List Nat) (t : Nat) : Statement (.catchupDone data t) := none_spelled _
theorem twnPartnerLost (t : Nat) : Statement (.twnPartnerLost t) := none_spelled _
theorem twinMcGo : Statement (.twinMcGo) := none_spelled _
theorem ledgerEvent (code detail t : Nat) : Statement (.ledgerEvent code detail t) := none_spelled _
theorem ledgerFwCode (code : Nat) : Statement (.ledgerFwCode code) := none_spelled _
theorem tokenRefill (code : Nat) : Statement (.tokenRefill code) := none_spelled _
theorem archivePage (progOk : Bool) : Statement (.archivePage progOk) := none_spelled _
theorem bistGo (vcoreOk clkOk : Bool) : Statement (.bistGo vcoreOk clkOk) := none_spelled _
theorem bistAbort : Statement (.bistAbort) := none_spelled _
theorem bistRunDone (fails : List BistFail) (wakeHeld : Bool) (t10us : Nat) : Statement (.bistRunDone fails wakeHeld t10us) := none_spelled _
theorem repairCompact (copy : Nat) : Statement (.repairCompact copy) := none_spelled _
theorem challengeExpiry : Statement (.challengeExpiry) := none_spelled _
theorem extest : Statement (.extest) := none_spelled _
theorem idcode : Statement (.idcode) := none_spelled _
theorem samplePreload (pins : Nat) : Statement (.samplePreload pins) := none_spelled _
theorem jtagClamp : Statement (.jtagClamp) := none_spelled _
theorem highz : Statement (.highz) := none_spelled _
theorem tgtStatus : Statement (.tgtStatus) := none_spelled _
theorem tgtChallenge (level : Nat) : Statement (.tgtChallenge level) := none_spelled _
theorem tgtResponse (level : Nat) (resp : List Nat) : Statement (.tgtResponse level resp) := none_spelled _
theorem dbgIas (addr data : Nat) (write : Bool) : Statement (.dbgIas addr data write) := none_spelled _
theorem dbgHalt (halt : Bool) : Statement (.dbgHalt halt) := none_spelled _
theorem ffRead (room tile : Nat) : Statement (.ffRead room tile) := none_spelled _
theorem factoryTest (code : Nat) : Statement (.factoryTest code) := none_spelled _
theorem bypass (code : Nat) : Statement (.bypass code) := none_spelled _
theorem trstN : Statement (.trstN) := none_spelled _
theorem powerLoss : Statement (.powerLoss) := none_spelled _
theorem supplyGood (o : StartObs) (t : Nat) : Statement (.supplyGood o t) := none_spelled _
theorem vioOk (bank : Nat) : Statement (.vioOk bank) := none_spelled _
theorem linkPowerState (lpm : Nat) : Statement (.linkPowerState lpm) := none_spelled _
theorem exclusiveStartTimeout (m : Nat) : Statement (.exclusiveStartTimeout m) := none_spelled _
theorem hostLinkStepFail : Statement (.hostLinkStepFail) := none_spelled _
theorem marginReadGroup (room : Nat) (finds : List MarginFind) : Statement (.marginReadGroup room finds) := none_spelled _
theorem activeBankFillDone (room : Nat) (bad : Option Nat) : Statement (.activeBankFillDone room bad) := none_spelled _
theorem wakeComplete (t : Nat) : Statement (.wakeComplete t) := none_spelled _
theorem entryComplete (t : Nat) : Statement (.entryComplete t) := none_spelled _

end Sys2Proof.Laws.NoWordSpells
end

