-- ==== Sys2Proof/Tests/Slice0.lean ====
section
/-! SUPPORT. Tests: commands that name no unit of the part are ill formed; small steps with results taken from the spec; and for every statement
with hypotheses, states and operands that meet them (a verdict that is a free value of log entry 5, on a token, a signature or a firmware
image, is left out of the hypotheses shown: nothing in Lean can evaluate it). -/

set_option Elab.async false
set_option maxRecDepth 100000
set_option synthInstance.maxHeartbeats 400000
set_option synthInstance.maxSize 100000
set_option linter.unusedVariables false

namespace Sys2Proof.Tests

open Sys2Proof.Machine Sys2Proof.Machine.Reg

/-! ### Ill-formed commands -/

theorem test_ill_formed_room : wellFormed (.rdone 24 0) = false := by decide
theorem test_ill_formed_encoder_channel : wellFormed (.encoderEdge 8 true true 0 0) = false := by decide
theorem test_ill_formed_trigger : wellFormed (.trigPulse 16) = false := by decide
theorem test_ill_formed_fabric_pll : wellFormed (.fpllLockLoss 16) = false := by decide
theorem test_ill_formed_tile : wellFormed (.distributedRamWrite 0 3200 0 ⟨0,0,0,0,0,false,false,false,false,false,false,false,false,false,false,false⟩) = false := by decide
theorem test_ill_formed_slice : wellFormed (.distributedRamWrite 0 0 8 ⟨0,0,0,0,0,false,false,false,false,false,false,false,false,false,false,false⟩) = false := by decide
theorem test_ill_formed_cellar : wellFormed (.blockPortAccess 0 false 160 none none false false) = false := by decide
theorem test_ill_formed_larder : wellFormed (.blockPortAccess 0 true 16 none none false false) = false := by decide
theorem test_ill_formed_pab : wellFormed (.pabClearStat 0 96) = false := by decide
theorem test_ill_formed_pab_input : wellFormed (.pabCycle 0 [⟨96,0,0,0,0,0,false,false,0,false⟩]) = false := by decide
theorem test_ill_formed_lane : wellFormed (.cdrLock 32) = false := by decide
theorem test_ill_formed_line_assembler : wellFormed (.recordBlockPoll 16) = false := by decide
theorem test_ill_formed_bonded_lane : wellFormed (.deskewMarker 0 16 ⟨0, 0⟩) = false := by decide
theorem test_ill_formed_vf : wellFormed (.flrVf 64) = false := by decide
theorem test_ill_formed_vf_zero : wellFormed (.flrVf 0) = false := by decide
theorem test_ill_formed_function : wellFormed (.busMasterDisable 65) = false := by decide
theorem test_ill_formed_doorbell_function : wellFormed (.doorbell 64 0 none none 0) = false := by decide
theorem test_ill_formed_ring : wellFormed (.ringStart 32768) = false := by decide
theorem test_ill_formed_port : wellFormed (.dramAck 0 8) = false := by decide
theorem test_ill_formed_stream : wellFormed (.dramWriteTransfer 0 0 256 0 [] 0) = false := by decide
theorem test_ill_formed_subchannel : wellFormed (.writeCrcAlert 4 [] false) = false := by decide
theorem test_ill_formed_bank : wellFormed (.pageTimeout 0 64 0) = false := by decide
theorem test_ill_formed_rank : wellFormed (.rankPowerDown 0 2 0) = false := by decide
theorem test_ill_formed_slot : wellFormed (.coSlotArm 4) = false := by decide
theorem test_ill_formed_work : wellFormed (.handoverBlockWorkDone 0 3) = false := by decide
theorem test_ill_formed_mailbox : wellFormed (.mbxAck 15) = false := by decide
theorem test_ill_formed_latch_bank : wellFormed (.ramMapRebuild 0 2 false) = false := by decide
theorem test_ill_formed_controller : wellFormed (.periphXferDone 6 [] none) = false := by decide
theorem test_ill_formed_pantry_bank : wellFormed (.pntSuspend 2) = false := by decide
theorem test_ill_formed_otp_row : wellFormed (.otpCmdRead 64) = false := by decide
theorem test_ill_formed_io_bank : wellFormed (.vioFault 13) = false := by decide
theorem test_ill_formed_irq_line : wellFormed (.gpioIrq 16 ⟨true, 0⟩) = false := by decide
theorem test_ill_formed_timer : wellFormed (.timerPulse 8 0) = false := by decide
theorem test_ill_formed_repair_copy : wellFormed (.repairCompact 2) = false := by decide
theorem test_ill_formed_factory_test : wellFormed (.factoryTest 0x40) = false := by decide
theorem test_ill_formed_factory_test_low : wellFormed (.factoryTest 0x2F) = false := by decide

/-! ### States for tests -/

/-- A command without HOSTBUF: opcode, A0, A1, data in. -/
def cmdOf (op a0 a1 : Nat) (d : List Nat) : KmiCmd := ⟨op, 0, 0, 0, d.length, 3840, 0, 0, a0, a1, 0, 0, d⟩
/-- A command with four argument words. -/
def cmd4 (op a0 a1 a2 a3 : Nat) (d : List Nat) : KmiCmd := ⟨op, 0, 0, 0, d.length, 3840, 0, 0, a0, a1, a2, a3, d⟩
/-- Command `c` is posted in mailbox 0 and firmware runs. -/
def postedIn (s0 : State) (c : KmiCmd) : State :=
  let s := ((s0.setMbx 0 ⟨some c, none, 0⟩).seti Reg.KMI_MBX_STATE 0 2).set Reg.KMI_CTRL_FW_READY 1
  { s with kmi := { s.kmi with postQ := [0] } }
/-- The state after reset. -/
def R := State.reset
/-- The state after reset with firmware running. -/
def Rf := State.reset.set Reg.KMI_CTRL_FW_READY 1
/-- A command posted after reset. -/
def P (op a0 a1 : Nat) (d : List Nat) : State := postedIn R (cmdOf op a0 a1 d)
/-- A command executes. -/
def withRun (s : State) (r : RunCmd) : State := { s with kmi := { s.kmi with running := [r] } }
def hit (a : Nat) : RegHit := (regAt a).getD ⟨⟨[]⟩, 0, 0⟩

/-- A command posted in a state. -/
def PR (s : State) (c : KmiCmd) : State := postedIn s c
/-- A latch bank frame of a Room takes a value. -/
def setFrame (s : State) (r f v : Nat) : State := { s with cfg := { s.cfg with bankFr := Assoc.put (bankKey r 0 f) v s.cfg.bankFr } }
/-- The part is open. -/
def opened (s : State) : State := { s with boot := { s.boot with opened := true } }
/-- Room `r` is active with both trees on code 16, and the part is open. -/
def roomUp (s : State) (r : Nat) : State := opened (setFrame (s.seti CFG_ROOM_STAT_ACT_BANK r 3) r 0 (16 + 32 * 16))
/-- The port outputs of Rooms are on. -/
def ports (s : State) : State := { s with fab := { s.fab with portsOn := 0xFFFFFF } }
/-- Inputs of a Slice. -/
def si : SliceIn := ⟨5, 3, 9, 12, 10, false, true, true, true, false, false, true, false, false, true, false⟩
/-- Inputs of a PAB. -/
def pin_ : PabIn := ⟨3, 0x1234567, 0xFEDCBA98, 5, 2, 1, true, true, 0, false⟩
/-- A write request at a block port. -/
def preq : PortReq := ⟨true, 3, 17, 0x2AB123456789ABCDEF01, false, 0, 0, false⟩
/-- No firmware copy executes from a Pantry bank. -/
def pFl (s : State) : State := s.set PNT_XBANK_VALID 0
/-- A posted command with four argument words. -/
def P4 (op a0 a1 a2 a3 : Nat) (d : List Nat) : State := postedIn R (cmd4 op a0 a1 a2 a3 d)
/-- A life-cycle state at debug level D3. -/
def RD (lc : Nat) : State := (R.set TGT_DBG_LEVEL 3).set TGT_LC_STATE lc
/-- A command posted in a life-cycle state at D3. -/
def PD (lc op a0 a1 : Nat) (d : List Nat) : State := postedIn (RD lc) (cmdOf op a0 a1 d)
/-- The same with four argument words. -/
def PD4 (lc op a0 a1 a2 a3 : Nat) (d : List Nat) : State := postedIn (RD lc) (cmd4 op a0 a1 a2 a3 d)
/-- NVWP_N is high. -/
def hiWp (s : State) : State := { s with pnt := { s.pnt with nvwp := true } }

def allUsed : Nat := (2^4096 - 1) / (2^32 - 1)
def doorsUp (s : State) (r : Nat) : State := (List.range 8).foldl (fun st k => setFrame st r (1 + k) allUsed) s
def ready (s : State) (r p : Nat) : State := { s with fab := { s.fab with door := Assoc.write 0 (4096 * r + portDoor p 2 + 12) 1 s.fab.door } }

/-! ### Steps -/

-- The Room mask of 00's example after R9: N1, E3 and W6.
theorem test_room_mask : [0, 8, 23].foldl setBit 0 = 0x00800101 := by decide
-- Published check values of the two CRCs R94 and Table 13-3 name, over the digits 1 to 9.
theorem test_crc16_digits : crc16 [49, 50, 51, 52, 53, 54, 55, 56, 57] = 0x29B1 := by decide
theorem test_crc32_digits : crc32 [49, 50, 51, 52, 53, 54, 55, 56, 57] = 0xCBF43926 := by decide +kernel
-- 05, the example after R163: port A at 2K×18 writes address 5, port B at 8K×4 reads addresses 20 to 23.
theorem test_cellar_mixed_width : [20, 21, 22, 23].map (fun a => cellarRead (cellarWrite [] 0 16 5 3 0xA13C) 0 4 a) = [0xC, 0x3, 0x1, 0xA] := by
  decide +kernel
-- 05, Table 05-9: lanes at 16 × 16, 12 × 12 and 12 × 4.
theorem test_pab_lanes : [pabLanes (3 + 8 * 3), pabLanes (2 + 8 * 2), pabLanes (2 + 8 * 0)] = [4, 7, 10] := by decide
-- 05, Line A's correction: the pre-adder, then the three products of the table through SHIFT 14, HALF_UP and 12 bits with saturation.
theorem test_pab_line_a_difference : pabPre 0x2189C25B 2310 118 = (2192, false) := by decide +kernel
theorem test_pab_line_a_rounds : pabOut 0x2189C25B (encodeInt 80 41658960) = (2543, false) := by decide +kernel
theorem test_pab_line_a_saturates : pabOut 0x2189C25B (encodeInt 80 74119500) = (4095, true) := by decide +kernel
theorem test_pab_line_a_negative : pabOut 0x2189C25B (encodeInt 80 (-532140)) = (0, true) := by decide +kernel
-- 05, Line B's correction: 1,396,824 shifted by 11 rounds to 682.
theorem test_pab_line_b : pabOut (2 + 8 * 2 + 64 + 256 * 2 + 8192 * 11 + 524288 + 2097152 * 10 + 536870912) (encodeInt 80 1396824) = (682, false) := by
  decide +kernel
-- 02, Line A: the Curfew offset at 18 m/s and at 10 % over speed with FRAC 53,248, its reset value.
theorem test_curfew_line_a : [5555, 5050].map (fun p => ((R.set TCK_CTRL_CURFEW_EN 1).set TCK_CTRL_CURFEW_MODE 1).curfewOf p) = [4512, 4100] := by
  decide +kernel
-- An idle block keeps its state (log entry 1).
theorem test_idle : step R = .next R := rfl
-- R34, R57: with the engine on and HOST active, the first host tick opens tick 1; with no Room taking part and no Curfew the rest window is open (R45).
theorem test_host_tick : (match execHostTick 1000 4 ((R.set TCK_SRC_ACTIVE 3).engineOn 0) with
    | .next s => (s.get TCK_TICKNO_LO, s.get TCK_STATUS_STATE) | _ => (0, 0)) = (1, 3) := by decide +kernel
-- Table 12-5: BAD_ARG, BAD_STATE and STALE_TAG.
theorem test_status_codes : [stBadArg, stBadState, stStale] = [2, 3, 9] := by decide
-- R455 for IO9_05, pin 437: slot 21 of Room 16 and slot 47 of Room 15, which is what those slots reach.
theorem test_pin_slots : pinSlots 437 = [(16, 21), (15, 47)] ∧ slotPin 16 21 = 437 ∧ slotPin 15 47 = 437 := by decide
-- R114, R116: LUT O0 of a Slice configured as A XOR B with generate A adds 1 + 1 with no carry in: sum 0, and the carry out of bit 0 is 1.
theorem test_slice_carry : let cfg := 0x6666 + 0x6666 * 2 ^ 16 + 0x6666 * 2 ^ 32 + 0x6666 * 2 ^ 48
    (sumOut cfg ⟨1, 1, 0, 0, 0, false, false, false, false, false, false, false, false, false, false, false⟩ 0,
     sumOut cfg ⟨1, 1, 0, 0, 0, false, false, false, false, false, false, false, false, false, false, false⟩ 1) = (false, true) := by decide +kernel


/-! ### Witnesses: Doorbells and registers -/

namespace C01



-- For Obligations.StepRunsFront.
theorem witness_StepRunsFront :
  ((fun (c : Instr) (rest : List Instr) (s : State) =>
    (s.pending = c :: rest))
    Instr.syncEnum [Instr.watchdogKick] { R with pending := [Instr.syncEnum, Instr.watchdogKick] }) ∧
  ((fun (s : State) =>
    (s.pending = []))
    R) ∧
  ((fun (s : State) =>
    ((s.pending = []) ∧ ((∀ r, r < 24 → ∀ t, t < 2 → s.treeRuns r t = false))))
    R) := by
  beta_reduce; decide +kernel

-- For Obligations.MailboxDoorbells.
theorem witness_MailboxDoorbells :
  ((fun (s : State) (m : Nat) (c : KmiCmd) =>
    ((m < s.kmi.mbx.length) ∧ (m < 15) ∧ (s.pf0Reach = true) ∧ (s.get PWR_STATE_CUR = 0) ∧ (s.pwr.vote = none) ∧ (s.pwr.entering = none) ∧ ((s.geti KMI_MBX_STATE m = 1 ∨ s.geti KMI_MBX_STATE m = 4)) ∧ (c.gen = s.geti KMI_MBX_GEN m) ∧ (kmiWellFormed c = true) ∧ ((c.hostBuf = true → bitB s.hlk.bme 0 = true))))
    (Rf.seti KMI_MBX_STATE 3 1) 3 (cmdOf 0x801 0 0 [])) ∧
  ((fun (s : State) (m : Nat) (c : KmiCmd) =>
    ((m < s.kmi.mbx.length) ∧ (m < 15) ∧ (s.pf0Reach = true) ∧ (s.get PWR_STATE_CUR = 0) ∧ (s.pwr.vote = none) ∧ (s.pwr.entering = none) ∧ ((s.geti KMI_MBX_STATE m = 1 ∨ s.geti KMI_MBX_STATE m = 4)) ∧ (c.gen ≠ s.geti KMI_MBX_GEN m)))
    (Rf.seti KMI_MBX_STATE 3 4) 3 {cmdOf 0x801 0 0 [] with tag := 0x2000}) ∧
  ((fun (s : State) (m : Nat) (c : KmiCmd) =>
    ((m < s.kmi.mbx.length) ∧ (m < 15) ∧ (s.pf0Reach = true) ∧ (s.get PWR_STATE_CUR = 0) ∧ (s.pwr.vote = none) ∧ (s.pwr.entering = none) ∧ ((s.geti KMI_MBX_STATE m = 1 ∨ s.geti KMI_MBX_STATE m = 4)) ∧ (c.gen = s.geti KMI_MBX_GEN m) ∧ (kmiWellFormed c = false)))
    (Rf.seti KMI_MBX_STATE 14 1) 14 {cmdOf 0x801 0 0 [] with opcode := 0}) ∧
  ((fun (s : State) (m : Nat) (c : KmiCmd) =>
    ((m < s.kmi.mbx.length) ∧ (m < 15) ∧ (s.pf0Reach = true) ∧ (s.get PWR_STATE_CUR = 0) ∧ (s.pwr.vote = none) ∧ (s.pwr.entering = none) ∧ ((s.geti KMI_MBX_STATE m = 1 ∨ s.geti KMI_MBX_STATE m = 4)) ∧ (c.gen = s.geti KMI_MBX_GEN m) ∧ (kmiWellFormed c = true) ∧ (c.hostBuf = true) ∧ (bitB s.hlk.bme 0 = false)))
    (Rf.seti KMI_MBX_STATE 0 1) 0 {cmdOf 0x801 0 0 [] with flags := 2, hostLen := 64, hostAddr := 4096}) ∧
  ((fun (s : State) (m : Nat) (_c : KmiCmd) =>
    ((m < 15) ∧ (s.pf0Reach = true) ∧ (s.get PWR_STATE_CUR = 0) ∧ (s.pwr.vote = none) ∧ (s.pwr.entering = none) ∧ ((s.geti KMI_MBX_STATE m = 2 ∨ s.geti KMI_MBX_STATE m = 3))))
    (Rf.seti KMI_MBX_STATE 3 2) 3 (cmdOf 0x801 0 0 [])) ∧
  ((fun (s : State) (m : Nat) (_c : KmiCmd) =>
    ((m < 15) ∧ (s.pf0Reach = true)))
    ((Rf.seti KMI_MBX_STATE 3 1).set PWR_STATE_CUR 2) 3 (cmdOf 0x801 0 0 [])) ∧
  ((fun (s : State) (m : Nat) =>
    ((m < 15) ∧ (s.pf0Reach = true) ∧ (s.geti KMI_MBX_STATE m = 4)))
    (Rf.seti KMI_MBX_STATE 14 4) 14) ∧
  ((fun (s : State) (m : Nat) =>
    ((m < 15) ∧ (s.pf0Reach = true) ∧ (s.geti KMI_MBX_STATE m ≠ 4)))
    (Rf.seti KMI_MBX_STATE 14 3) 14) ∧
  ((fun (s : State) (m : Nat) =>
    ((match (s.nextGen m) with | some g => decide ((m < s.kmi.mbx.length) ∧ (m < 15) ∧ (s.pf0Reach = true) ∧ ((s.geti KMI_MBX_STATE m = 2 ∨ s.geti KMI_MBX_STATE m = 3))) | _ => false) = true))
    (P 0x801 0 0 []) 0) ∧
  ((fun (s : State) (m : Nat) =>
    ((m < 15) ∧ (s.pf0Reach = true) ∧ (s.geti KMI_MBX_STATE m ≠ 2) ∧ (s.geti KMI_MBX_STATE m ≠ 3)))
    (Rf.seti KMI_MBX_STATE 14 4) 14) ∧
  ((fun (s : State) (m : Nat) =>
    ((match (s.nextGen m) with | some g => decide (True) | _ => false) = true) ∧
    ((match (s.nextGen m) with | some g => decide (((s.kmi.running).any fun r => decide ((r.mbx = m))) = true) | _ => false) = true))
    (withRun (Rf.seti KMI_MBX_STATE 2 3) ⟨2, cmdOf 0x801 0 0 [], false, false, 0⟩) 2) ∧
  ((fun (s : State) (_n : Nat) =>
    (s.pf0Reach = true))
    Rf 77) ∧
  ((fun (s : State) (m : Nat) (_n : Nat) (_c : KmiCmd) =>
    ((m < 15) ∧ (s.pf0Reach = false)))
    R 3 7 (cmdOf 0x801 0 0 [])) ∧
  ((fun (s : State) (m : Nat) =>
    ((match ((s.mbx m).cmd) with | some c => decide ((m < 15) ∧ (s.geti KMI_MBX_STATE m = 2) ∧ (kmiExclusive c = true) ∧ (s.flag KMI_CTRL_FW_READY = true) ∧ (m < s.kmi.mbx.length)) | _ => false) = true))
    (P 0x0A02 0 0 []) 0) := by
  beta_reduce; decide +kernel

-- For Obligations.RegisterReads.
theorem witness_RegisterReads :
  ((fun (row : (Nat → Instr) × Nat × Nat) (s : State) (m : Nat) (c : KmiCmd) =>
    ((KmiReady s row.2.1 m c) ∧ (match (regAt (row.2.2 + bits c.a0 23 0)) with | some h => decide ((regBlock (row.2.2 + bits c.a0 23 0) = regBlock row.2.2)) | _ => false) = true))
    (regReadCmds.getD 0 (.tickRegRead, 0, 0)) (P 0x0301 0x14 0 []) 0 (cmdOf 0x0301 0x14 0 [])) ∧
  ((fun (row : (Nat → Instr) × Nat × Nat) (s : State) (m : Nat) (c : KmiCmd) =>
    ((KmiReady s row.2.1 m c) ∧ (regAt (row.2.2 + bits c.a0 23 0) = none)))
    (regReadCmds.getD 0 (.tickRegRead, 0, 0)) (P 0x0301 0xFFF0 0 []) 0 (cmdOf 0x0301 0xFFF0 0 [])) ∧
  ((fun (row : (Nat → Instr) × Nat × Nat) (s : State) (m : Nat) (c : KmiCmd) =>
    ((KmiReady s row.2.1 m c) ∧ (regBlock (row.2.2 + bits c.a0 23 0) ≠ regBlock row.2.2)))
    (regReadCmds.getD 0 (.tickRegRead, 0, 0)) (P 0x0301 0x100000 0 []) 0 (cmdOf 0x0301 0x100000 0 [])) ∧
  ((fun (s : State) (a : Nat) =>
    ((match (regAt a) with | some h => decide ((isLoReg a = true ∨ Assoc.find? a (s.regShow a).hiLatch = none)) | _ => false) = true) ∧
    ((match (regAt a) with | some h => decide (((h.row.flds).any fun f => decide ((f.acc = .rc))) = true) | _ => false) = true) ∧
    ((match (regAt a) with | some h => decide (((List.range 64).any fun k => decide (((∀ f ∈ h.row.flds, f.acc = .rc → k ≠ f.key h.i h.j)))) = true) | _ => false) = true) ∧
    ((match (regAt a) with | some h => decide (True) | _ => false) = true))
    (R.set TCK_EARLY_CNT_DROPPED_CNT 5) 0x110068) := by
  beta_reduce; decide +kernel

-- For Obligations.RegisterStoresAndBoundarySettings.
theorem witness_LatchedHalves :
  ((fun (_s : State) (a : Nat) =>
    ((match (regAt a) with | some h => decide ((match (regAt (a + 4)) with | some hi => decide ((isLoReg a = true)) | _ => false) = true) | _ => false) = true))
    (R.set TCK_STAMP_HI 5) TCK_STAMP_LO.addr) ∧
  ((fun (s : State) (a : Nat) =>
    ((match (regAt a) with | some h => decide ((match (Assoc.find? a s.hiLatch) with | some v => decide ((isLoReg a = false) ∧ ((s.regShow a).hiLatch = s.hiLatch)) | _ => false) = true) | _ => false) = true))
    { R with hiLatch := [(TCK_STAMP_HI.addr, 9)] } TCK_STAMP_HI.addr) := by
  beta_reduce; decide +kernel

-- For Obligations.RegisterStoresAndBoundarySettings.
theorem witness_RegisterStoreRule :
  ((fun (_s : State) (row : RegRow) (_i : Nat) (_j : Nat) (_value : Nat) (_mask : Nat) =>
    (row ∈ mapAll))
    R ((hit TCK_CTRL_EN.addr).row) 0 0 0xFFFFFFFF 0xFFFF0F0E) := by
  beta_reduce; decide +kernel

-- For Obligations.RegisterStoresAndBoundarySettings.
theorem witness_BoundarySettings :
  ((fun (s : State) (f : Fld) (_i : Nat) (_v : Nat) =>
    ((f.boundary = true) ∧ (s.flag TCK_CTRL_EN = true)))
    (R.set TCK_CTRL_EN 1) TCK_OVR_CLAMP 0 77) ∧
  ((fun (s : State) (f : Fld) (i : Nat) (_v : Nat) =>
    ((f.boundary = false ∨ s.flag TCK_CTRL_EN = false) ∧ (Assoc.find? (f.key i 0) s.held = none)))
    R TCK_OVR_CLAMP 0 77) := by
  beta_reduce; decide +kernel

-- For Obligations.RegisterWrites.
theorem witness_RegisterWrites :
  ((fun (row : (Nat → Instr) × Nat × Nat) (s : State) (m : Nat) (c : KmiCmd) =>
    ((KmiReady s row.2.1 m c) ∧ (match (regAt (row.2.2 + bits c.a0 23 0)) with | some h => decide ((regBlock (row.2.2 + bits c.a0 23 0) = regBlock row.2.2) ∧ (regExcluded (row.2.2 + bits c.a0 23 0) = false) ∧ (s.wrRefused (row.2.2 + bits c.a0 23 0) h (bits c.a1 31 0) (bits c.a1 63 32) = false)) | _ => false) = true))
    (regWriteCmds.getD 0 (.tickRegRead, 0, 0)) (P 0x0302 0x2C (0xFFFFFF + 2^32*0xFFFF) []) 0 (cmdOf 0x0302 0x2C (0xFFFFFF + 2^32*0xFFFF) [])) ∧
  ((fun (row : (Nat → Instr) × Nat × Nat) (s : State) (m : Nat) (c : KmiCmd) =>
    ((KmiReady s row.2.1 m c) ∧ (regAt (row.2.2 + bits c.a0 23 0) = none)))
    (regWriteCmds.getD 0 (.tickRegRead, 0, 0)) (P 0x0302 0xFFF0 0 []) 0 (cmdOf 0x0302 0xFFF0 0 [])) ∧
  ((fun (row : (Nat → Instr) × Nat × Nat) (s : State) (m : Nat) (c : KmiCmd) =>
    ((KmiReady s row.2.1 m c) ∧ (regBlock (row.2.2 + bits c.a0 23 0) ≠ regBlock row.2.2 ∨ regExcluded (row.2.2 + bits c.a0 23 0) = true)))
    (regWriteCmds.getD 0 (.tickRegRead, 0, 0)) (P 0x0302 0x100000 0 []) 0 (cmdOf 0x0302 0x100000 0 [])) ∧
  ((fun (row : (Nat → Instr) × Nat × Nat) (s : State) (m : Nat) (c : KmiCmd) =>
    ((KmiReady s row.2.1 m c) ∧ (match (regAt (row.2.2 + bits c.a0 23 0)) with | some h => decide ((regBlock (row.2.2 + bits c.a0 23 0) = regBlock row.2.2) ∧ (regExcluded (row.2.2 + bits c.a0 23 0) = false) ∧ (s.wrRefused (row.2.2 + bits c.a0 23 0) h (bits c.a1 31 0) (bits c.a1 63 32) = true)) | _ => false) = true))
    (regWriteCmds.getD 4 (.tickRegRead, 0, 0)) (PR (R.seti LAS_CTRL_EN 0 1) (cmdOf 0x0404 0x4 (0xFFFF + 2^32*0xFFFFFFFF) [])) 0 (cmdOf 0x0404 0x4 (0xFFFF + 2^32*0xFFFFFFFF) [])) ∧
  ((fun (s : State) (a : Nat) (v : Nat) (k : Nat) =>
    ((match (regAt a) with | some h => decide ((s.wrRefused a h v k = false) ∧ (s.onlyBits a = none)) | _ => false) = true))
    R 0x11002C 0xFFFF 0xFFFFFFFF) ∧
  ((fun (s : State) (a : Nat) (v : Nat) (k : Nat) =>
    ((match (regAt a) with | some h => decide ((s.wrRefused a h v k = false) ∧ (match (s.onlyBits a) with | some m => decide (((∀ f ∈ h.row.flds, s.wrChanges h f v (clrMask k m) = false))) | _ => false) = true) | _ => false) = true))
    (R.seti LAS_CTRL_EN 0 1) 0x210000 0 1) ∧
  ((fun (s : State) (a : Nat) (v : Nat) (k : Nat) =>
    ((match (regAt a) with | some h => decide ((s.wrRefused a h v k = false) ∧ (match (s.onlyBits a) with | some m => decide (((∃ f ∈ h.row.flds, s.wrChanges h f v (clrMask k m) = true))) | _ => false) = true) | _ => false) = true))
    (R.seti LAS_CTRL_EN 0 1) 0x210000 0xFFFE 0xFFFFFFFF) := by
  beta_reduce; decide +kernel

-- For Obligations.RawAndJtagAccesses.
theorem witness_IasAccesses :
  ((fun (s : State) (a : Nat) (v : Nat) (k : Nat) =>
    ((match (regAt a) with | some h => decide ((a < 2 ^ 32) ∧ (v < 2 ^ 32) ∧ (k < 2 ^ 32) ∧ (s.wrRefused a h v k = false) ∧ (s.onlyBits a = none)) | _ => false) = true) ∧
    ((match (regAt a) with | some h => decide ((a < 2 ^ 32) ∧ (v < 2 ^ 32) ∧ (k < 2 ^ 32) ∧ (s.wrRefused a h v k = false)) | _ => false) = true))
    R 0x110000 0xFF 0xFFFFFFFE) ∧
  ((fun (s : State) (a : Nat) (v : Nat) (k : Nat) =>
    ((match (regAt a) with | some h => decide ((a < 2 ^ 32) ∧ (v < 2 ^ 32) ∧ (k < 2 ^ 32) ∧ (s.wrRefused a h v k = true)) | _ => false) = true))
    (R.seti LAS_CTRL_EN 0 1) 0x210004 0xFFFF 0xFFFFFFFF) ∧
  ((fun (_s : State) (a : Nat) (_v : Nat) (_k : Nat) =>
    ((a < 2 ^ 32) ∧ (regAt a = none) ∧ ((inWindow a || inInnkeeper a) = true)))
    R 0x11FFF0 1 1) ∧
  ((fun (_s : State) (a : Nat) (_v : Nat) (_k : Nat) =>
    ((a < 2 ^ 32) ∧ (regAt a = none) ∧ ((inWindow a || inInnkeeper a) = false)))
    R 0x20000000 1 1) ∧
  ((fun (s : State) (a : Nat) (d : Nat) =>
    ((a < 2 ^ 32) ∧ (d < 2 ^ 32) ∧ (s.jtagOn = true) ∧ (s.d2 = true) ∧ (rawAllowed a = true)))
    (R.set TGT_DBG_LEVEL 2) 0x110000 5) ∧
  ((fun (s : State) (a : Nat) (d : Nat) =>
    ((a < 2 ^ 32) ∧ (d < 2 ^ 32) ∧ (s.jtagOn = true) ∧ (s.d2 = false)))
    R 0x11002C 5) := by
  beta_reduce; decide +kernel

-- For Obligations.RawAndJtagAccesses.
theorem witness_RawAccessAndInfo :
  ((fun (s : State) (m : Nat) (c : KmiCmd) =>
    ((KmiReady s 0x0803 m c) ∧ (1 ≤ bits c.a0 47 32) ∧ (bits c.a0 47 32 ≤ 960) ∧ (rawRange (bits c.a0 31 0) (bits c.a0 47 32) = true)))
    (PR (R.set TGT_DBG_LEVEL 3) (cmdOf 0x0803 (0x110000 + 2^32) 0 [])) 0 (cmdOf 0x803 (0x110000 + 2^32) 0 [])) ∧
  ((fun (s : State) (m : Nat) (c : KmiCmd) =>
    ((KmiReady s 0x0803 m c) ∧ (bits c.a0 47 32 = 0 ∨ 960 < bits c.a0 47 32 ∨ rawRange (bits c.a0 31 0) (bits c.a0 47 32) = false)))
    (PR (R.set TGT_DBG_LEVEL 3) (cmdOf 0x0803 (0x110001 + 4*2^32) 0 [])) 0 (cmdOf 0x803 (0x110001 + 4*2^32) 0 [])) ∧
  ((fun (s : State) (m : Nat) (c : KmiCmd) =>
    ((KmiReady s 0x0804 m c) ∧ (c.dataIn.length = 4) ∧ (rawAllowed (bits c.a0 31 0) = true)))
    (PR (R.set TGT_DBG_LEVEL 3) (cmdOf 0x0804 (0x11002C) 0 [1,2,3,0])) 0 (cmdOf 0x804 0x11002C 0 [1,2,3,0])) ∧
  ((fun (s : State) (m : Nat) (c : KmiCmd) =>
    ((KmiReady s 0x0804 m c) ∧ (c.dataIn = [] ∨ c.dataIn.length % 4 ≠ 0 ∨ rawRange (bits c.a0 31 0) (c.dataIn.length / 4) = false)))
    (PR (R.set TGT_DBG_LEVEL 3) (cmdOf 0x0804 (0x11002C) 0 [1,2,3])) 0 (cmdOf 0x804 0x11002C 0 [1,2,3])) ∧
  ((fun (s : State) (m : Nat) (c : KmiCmd) =>
    (KmiReady s 0x0801 m c))
    (P 0x801 0 0 []) 0 (cmdOf 0x801 0 0 [])) ∧
  ((fun (s : State) (m : Nat) (c : KmiCmd) =>
    (KmiReady s 0x0802 m c))
    (P 0x802 1 2 []) 0 (cmdOf 0x802 1 2 [])) := by
  beta_reduce; decide +kernel

end C01

/-! ### Witnesses: Fabric -/

namespace C02

def up3 := ports (roomUp R 3)
def lutS := setFrame up3 3 (12 + 7) ((2^64 + 2^110*0) * 2^256 + 0x1234567 * 2^128)
def pllS := (setFrame (R.seti CFG_ROOM_STAT_ACT_BANK 7 3) 7 0 (4 + 32*5))
def pllX : State := let s := opened pllS; { s with fab := { s.fab with pllLocked := 0xFFFF, pllOut := List.replicate 16 0x8003800380038003 } }
def sdp3 := setFrame up3 3 9 ((64) * 2^(32*11))
def sdpE := setFrame up3 3 9 ((64 + 2^14) * 2^(32*11))
def fill3 := setFrame up3 3 9 ((2^17) * 2^(32*11))
def ldE := setFrame up3 3 10 (1 * 2^(5120 + 32*11 - 4096))
def pabs (p : PabSt) : State := {up3 with fab := {up3.fab with pab := [(96*3+3, p)]}}
def pabO : PabSt := ⟨List.replicate 16 (2^80-5), List.replicate 256 3, true, true, [(7,false)], 0, 5, 7, [(1,false)], [(2,true)]⟩
def casc3 := setFrame (pabs pabO) 3 10 (2^1536 * (2^11) * 2^(32*4))
def rat3 := setFrame (pabs pabO) 3 10 (2^1536 * (2^30 + 2^27) * 2^(96))
def R2off : State := { up3 with boot := { up3.boot with opened := false } }
def pctl := 0 + 4*1 + 32*40

-- For Obligations.FabricCommandsAndPlls.
theorem witness_FabricCommands :
  ((fun (s : State) (m : Nat) (c : KmiCmd) =>
    ((KmiReady s 0x0101 m c) ∧ (bits c.a0 4 0 < 24)))
    (P 0x101 3 0 []) 0 (cmdOf 0x101 3 0 [])) ∧
  ((fun (s : State) (m : Nat) (c : KmiCmd) =>
    ((KmiReady s 0x0101 m c) ∧ (24 ≤ bits c.a0 4 0)))
    (P 0x101 24 0 []) 0 (cmdOf 0x101 24 0 [])) ∧
  ((fun (s : State) (m : Nat) (c : KmiCmd) =>
    ((KmiReady s 0x0102 m c) ∧ (bits c.a0 4 0 < 24)))
    (P 0x102 3 77 []) 0 (cmdOf 0x102 3 77 [])) ∧
  ((fun (s : State) (m : Nat) (c : KmiCmd) =>
    ((KmiReady s 0x0102 m c) ∧ (24 ≤ bits c.a0 4 0)))
    (P 0x102 25 0 []) 0 (cmdOf 0x102 25 0 [])) ∧
  ((fun (s : State) (m : Nat) (c : KmiCmd) =>
    (KmiReady s 0x0103 m c))
    (P 0x103 15 0 []) 0 (cmdOf 0x103 15 0 [])) ∧
  ((fun (s : State) (m : Nat) (c : KmiCmd) =>
    ((KmiReady s 0x0104 m c) ∧ (pllCtlOk c.a1 = true) ∧ (pllOutOk c.a2 = true) ∧ (s.treesOf (bits c.a0 3 0) = []) ∧ (s.fab.pllCtl.length = 16) ∧ (s.fab.pllOut.length = 16)))
    (P4 0x104 5 (1+4*1+32*40) 0x8003 0 []) 0 (cmd4 0x104 5 (1+4*1+32*40) 0x8003 0 [])) ∧
  ((fun (s : State) (m : Nat) (c : KmiCmd) =>
    ((KmiReady s 0x0104 m c) ∧ (pllCtlOk c.a1 = false ∨ pllOutOk c.a2 = false)))
    (P4 0x104 5 0 0x8003 0 []) 0 (cmd4 0x104 5 0 0x8003 0 [])) ∧
  ((fun (s : State) (m : Nat) (c : KmiCmd) =>
    ((KmiReady s 0x0104 m c) ∧ (pllCtlOk c.a1 = true) ∧ (pllOutOk c.a2 = true) ∧ (s.treesOf (bits c.a0 3 0) ≠ [])))
    (PR pllS (cmd4 0x104 5 (1+4*1+32*40) 0x8003 0 [])) 0 (cmd4 0x104 5 (1+4*1+32*40) 0x8003 0 [])) ∧
  ((fun (s : State) (m : Nat) (c : KmiCmd) =>
    ((KmiReady s 0x0201 m c) ∧ (bits c.a0 4 0 < 24)))
    (PR {R with fab := {R.fab with sbe := [(3,9),(5,1)]}} (cmdOf 0x201 (3+256) 0 [])) 0 (cmdOf 0x201 (3+256) 0 [])) ∧
  ((fun (s : State) (m : Nat) (c : KmiCmd) =>
    ((KmiReady s 0x0201 m c) ∧ (24 ≤ bits c.a0 4 0)))
    (P 0x201 31 0 []) 0 (cmdOf 0x201 31 0 [])) := by
  beta_reduce; decide +kernel

-- For Obligations.FabricCommandsAndPlls.
theorem witness_FabricPllLoss :
  ((fun (s : State) (p : Nat) =>
    ((p < 16) ∧ ((∀ k ∈ s.treesOf p, bitB s.fab.clk k = false))))
    ({pllS with fab := {pllS.fab with pllLocked := 0xFFFF}}) 5) ∧
  ((fun (_s : State) (p : Nat) =>
    (p < 16))
    ({pllS with fab := {pllS.fab with pllLocked := 0xFFFF}}) 5) := by
  beta_reduce; decide +kernel

-- For Obligations.SlicesAndDistributedRam.
theorem witness_DistributedRam :
  ((fun (s : State) (r : Nat) (tile : Nat) (sl : Nat) (_i : SliceIn) =>
    ((r < 24) ∧ (tile < 3200) ∧ (sl < 8) ∧ (s.treeRuns r (setTree (s.sliceCfg r tile sl) 0) = true)))
    lutS 3 7 2 si) ∧
  ((fun (s : State) (r : Nat) (tile : Nat) (sl : Nat) (_i : SliceIn) =>
    ((r < 24) ∧ (tile < 3200) ∧ (sl < 8) ∧ (s.treeRuns r (setTree (s.sliceCfg r tile sl) 0) = false)))
    R 3 7 1 si) ∧
  ((fun (cfg : Nat) (_i : SliceIn) (_n : Nat) =>
    (ramMode cfg = 0))
    (2^64 + 12345) si 60) := by
  beta_reduce; decide +kernel

-- For Obligations.SlicesAndDistributedRam.
theorem witness_SliceLogic :
  ((fun (cfg : Nat) (_i : SliceIn) (_j : Nat) =>
    (bits cfg 64 64 = 0))
    0x123456789ABCDEF0 si 2) ∧
  ((fun (_cfg : Nat) (_ff : Nat) (m : Nat) (_runs : Nat → Bool) =>
    (m < 8))
    (2^75*0xFFFF) 0x55 3 (fun _ => true)) := by
  beta_reduce; decide +kernel

-- For Obligations.BlockPortsAndPabs.
theorem witness_BlockPorts :
  ((fun (s : State) (r : Nat) (b : Nat) (p : Nat) (q : PortReq) (_w : Bool) (_a : Bool) =>
    ((fun d => (fun base => (r < 24) ∧ (b < 160) ∧ (p < 2) ∧ (s.blockOff r false b = false) ∧ (s.portClock r false b p = true) ∧ (cellarMode (s.cellarRec r b) ≠ 1) ∧ (q.en = true) ∧ (8 ≤ d)) (cellarKey r b + halfBase (s.cellarRec r b) p (Assoc.get false (160 * r + b) s.fab.ppSel != q.pre) + q.addr % cellarDepth (s.cellarRec r b) d * d / 8)) (cellarWidth (cellarWcode (s.cellarRec r b) p))))
    (setFrame up3 3 9 (4 * 2^(32*11))) 3 11 0 preq false false) ∧
  ((fun (s : State) (r : Nat) (b : Nat) (p : Nat) (q : PortReq) (_w : Bool) (_a : Bool) =>
    ((fun d => (fun base => (r < 24) ∧ (b < 160) ∧ (p < 2) ∧ (s.blockOff r false b = false) ∧ (s.portClock r false b p = true) ∧ (cellarMode (s.cellarRec r b) ≠ 1) ∧ (q.en = true) ∧ (bitB q.we 0 = true) ∧ (d < 8)) (cellarKey r b + halfBase (s.cellarRec r b) p (Assoc.get false (160 * r + b) s.fab.ppSel != q.pre))) (cellarWidth (cellarWcode (s.cellarRec r b) p))))
    up3 3 11 0 preq false false) ∧
  ((fun (s : State) (r : Nat) (b : Nat) (p : Nat) (q : PortReq) (_w : Bool) (_a : Bool) =>
    ((r < 24) ∧ (b < 160) ∧ (p < 2) ∧ (s.blockOff r false b = false) ∧ (s.portClock r false b p = true) ∧ (cellarMode (s.cellarRec r b) ≠ 1) ∧ (q.en = true) ∧ (q.orst = false) ∧ (effWe (cellarWidth (cellarWcode (s.cellarRec r b) p)) q.we = 0)))
    (setFrame {up3 with fab := {up3.fab with cellar := [(cellarKey 3 11 + 34, 0x1AB)]}} 3 9 ((4 + 2^12) * 2^(32*11))) 3 11 0 {preq with we := 0} false false) ∧
  ((fun (s : State) (r : Nat) (b : Nat) (qa : PortReq) (qb : PortReq) (_w : Bool) (_a : Bool) (we : Nat) =>
    ((r < 24) ∧ (b < 160) ∧ (s.blockOff r false b = false) ∧ (s.portClock r false b 0 = true) ∧ (s.portClock r false b 1 = true) ∧ (cellarMode (s.cellarRec r b) = 1) ∧ (qa.en = true) ∧ (qb.en = false) ∧ (we = qa.we % 16 + 16 * (qb.we % 16))))
    sdp3 3 11 {preq with addr := 600, we := 5} {preq with we := 10, en := false} true true (5 + 160)) ∧
  ((fun (s : State) (r : Nat) (b : Nat) (q : PortReq) (_w : Bool) (_a : Bool) =>
    ((r < 24) ∧ (b < 160) ∧ (s.blockOff r false b = false) ∧ (s.portClock r false b 1 = true) ∧ (cellarMode (s.cellarRec r b) = 1) ∧ (q.en = true) ∧ (q.orst = false)))
    ({sdp3 with fab := {sdp3.fab with cellar := [(cellarKey 3 11 + 17*8, 0x1AB)]}}) 3 11 preq true true) ∧
  ((fun (s : State) (r : Nat) (b : Nat) (p : Nat) (q : PortReq) (_w : Bool) (_a : Bool) =>
    ((fun k => (r < 24) ∧ (b < 16) ∧ (p < 2) ∧ (s.blockOff r true b = false) ∧ (s.portClock r true b p = true) ∧ (q.en = true)) (4096 * (16 * r + b) + q.addr % 4096)))
    up3 3 11 0 {preq with addr := 5000, we := 0x1F3} true true) ∧
  ((fun (s : State) (r : Nat) (b : Nat) (qa : PortReq) (qb : PortReq) (_a : Bool) =>
    ((fun k => (r < 24) ∧ (b < 16) ∧ (s.blockOff r true b = false) ∧ (s.portClock r true b 0 = true) ∧ (s.portClock r true b 1 = true) ∧ (bitB (s.larderRec r b) 0 = false) ∧ (qa.en = true) ∧ (qb.en = true) ∧ (qa.we ≠ 0) ∧ (qb.we ≠ 0) ∧ (qb.addr % 4096 = qa.addr % 4096)) (4096 * (16 * r + b) + qa.addr % 4096)))
    up3 3 11 {preq with we := 0x0F} {preq with we := 0x1C, data := 99} true) ∧
  ((fun (s : State) (r : Nat) (b : Nat) (l : Bool) (_qa : PortReq) (_qb : PortReq) (_w : Bool) (_a : Bool) =>
    ((r < 24) ∧ (b < (if l then 16 else 160)) ∧ (s.blockOff r l b = false) ∧ (s.portClock r l b 0 = false) ∧ (s.portClock r l b 1 = false)))
    R2off 3 11 true preq preq true true) ∧
  ((fun (s : State) (r : Nat) (b : Nat) (l : Bool) (_pa : Option PortReq) (_pb : Option PortReq) (_w : Bool) (_a : Bool) =>
    ((r < 24) ∧ (b < (if l then 16 else 160)) ∧ (s.blockOff r l b = true)))
    R 3 11 true (some preq) none true true) := by
  beta_reduce; decide +kernel

-- For Obligations.BlockPortsAndPabs.
theorem witness_PabDataPath :
  ((fun (s : State) (r : Nat) (inp : List PabIn) =>
    ((r < 24) ∧ (inp.all (fun i => decide (i.pab < 96)) = true) ∧ ((inp.map (fun i => i.pab)).Nodup) ∧ (bitB s.fab.portsOn r = true) ∧ (s.blockWork r 2 = false)))
    up3 3 [pin_]) ∧
  ((fun (s : State) (r : Nat) (i : PabIn) =>
    ((r < 24) ∧ (i.pab < 96) ∧ (bitB s.fab.portsOn r = true) ∧ (s.blockWork r 2 = false) ∧ (s.pabRuns r i.pab = true) ∧ (s.pabRatio r i.pab = true)))
    rat3 3 pin_) ∧
  ((fun (s : State) (r : Nat) (inp : List PabIn) =>
    ((r < 24) ∧ (inp.any (fun i => decide (96 ≤ i.pab)) = false) ∧ (bitB s.fab.portsOn r = false ∨ s.blockWork r 2 = true)))
    R 3 [pin_]) ∧
  ((fun (s : State) (r : Nat) (i : PabIn) (k : Nat) =>
    ((fun c => (i.ce = true) ∧ (k < 16) ∧ (k < pabLanes (s.pabRec r i.pab)) ∧ (i.opc % 4 = 0)) ((if bitB (s.pabRec r i.pab) 11 then signed 80 ((if i.pab % 32 = 0 then [] else (s.pabSt r (i.pab - 1)).acc).getD k 0) else 0))))
    up3 3 {pin_ with opc := 0} 0) ∧
  ((fun (s : State) (r : Nat) (i : PabIn) (k : Nat) =>
    ((fun c => (i.ce = true) ∧ (k < 16) ∧ (k < pabLanes (s.pabRec r i.pab)) ∧ (i.opc % 4 = 1)) ((if bitB (s.pabRec r i.pab) 11 then signed 80 ((if i.pab % 32 = 0 then [] else (s.pabSt r (i.pab - 1)).acc).getD k 0) else 0))))
    up3 3 {pin_ with opc := 1} 3) ∧
  ((fun (s : State) (r : Nat) (i : PabIn) (k : Nat) =>
    ((fun c => (i.ce = true) ∧ (k < 16) ∧ (k < pabLanes (s.pabRec r i.pab)) ∧ (i.opc % 4 = 2)) ((if bitB (s.pabRec r i.pab) 11 then signed 80 ((if i.pab % 32 = 0 then [] else (s.pabSt r (i.pab - 1)).acc).getD k 0) else 0))))
    up3 3 {pin_ with opc := 2} 3) ∧
  ((fun (s : State) (r : Nat) (i : PabIn) (k : Nat) =>
    ((fun c => (i.ce = true) ∧ (k < 16) ∧ (k < pabLanes (s.pabRec r i.pab)) ∧ (i.opc % 4 = 3)) ((if bitB (s.pabRec r i.pab) 11 then signed 80 ((if i.pab % 32 = 0 then [] else (s.pabSt r (i.pab - 1)).acc).getD k 0) else 0))))
    (setFrame up3 3 10 (2^1536*0x1B * 2^(96))) 3 {pin_ with opc := 3} 1) ∧
  ((fun (s : State) (r : Nat) (i : PabIn) (k : Nat) =>
    ((i.ce = true) ∧ (i.cwe = true) ∧ (k < pabLanes (s.pabRec r i.pab)) ∧ ((s.pabSt r i.pab).bank.length = 256)))
    (pabs pabO) 3 {pin_ with cwe := true, cidx := 18} 1) ∧
  ((fun (_s : State) (_r : Nat) (i : PabIn) =>
    (i.ce = false))
    up3 3 {pin_ with ce := false}) ∧
  ((fun (s : State) (r : Nat) (i : PabIn) =>
    (((s.pabSt r i.pab).preOvf = true) ∧ (i.clrStat = false)) ∧
    (((s.pabSt r i.pab).accOvf = true) ∧ (i.clrStat = false)))
    (pabs pabO) 3 pin_) ∧
  ((fun (_s : State) (_r : Nat) (i : PabIn) =>
    ((i.ce = false) ∧ (i.clrStat = true)))
    (pabs pabO) 3 {pin_ with ce := false, clrStat := true}) ∧
  ((fun (s : State) (r : Nat) (i : PabIn) =>
    ((i.ce = true) ∧ ((pabProducts (s.pabRec r i.pab) (s.pabSt r i.pab) i).2 = true)))
    (setFrame (pabs {pabO with preOvf := false}) 3 10 (2^1536*(0x140) * 2^(96))) 3 {pin_ with a := 7, d := 7}) ∧
  ((fun (s : State) (r : Nat) (p : Nat) =>
    ((r < 24) ∧ (p < 96) ∧ (s.pabRuns r p = true)))
    (pabs pabO) 3 3) ∧
  ((fun (s : State) (r : Nat) (p : Nat) =>
    ((r < 24) ∧ (p < 96) ∧ (s.pabRuns r p = false)))
    R 3 3) := by
  beta_reduce; decide +kernel

end C02

/-! ### Witnesses: Pantry and OTP -/

namespace C03

def prog (b st : Nat) : State := let s := R.seti PNT_B_STAT_STATE b st
  { s with pnt := { s.pnt with banks := [⟨0x1000, 2, 1, List.replicate 256 7⟩, ⟨0x2300, 5, 3, (List.range 256)⟩] } }
def otpB := (List.range 32).foldl (fun st w => st.seti OTP_BUF w (w * 16843009)) R
def vrow := let d := (2 :: List.replicate 123 1); d ++ leBytes 4 (crc32 d)
def busyB (s : State) (b st : Nat) : State := { s with regs := (prog b st).regs, pnt := (prog b st).pnt }
def pRd : KmiCmd := cmdOf 0x810 4096 16 []
def rdWait : State := let s := prog 0 2; { s with kmi := { s.kmi with running := [⟨3, cmdOf 0x810 4096 16 [], false, false, 1⟩] } }
def PDr (s : State) (c : KmiCmd) : State := PR ((s.set TGT_DBG_LEVEL 3).set TGT_LC_STATE 2) c

-- For Obligations.PantryStartsAndFetchLock.
theorem witness_PantryStarts :
  ((fun (s : State) (b : Nat) (nvwp : Bool) (vaux : Bool) =>
    ((b < 2) ∧ (s.pnt.banks.length = 2) ∧ ((s.setNvwp nvwp).progRefusal b ((s.setNvwp nvwp).geti PNT_B_ADDR_OFFSET b) vaux = 0)) ∧
    ((b < 2) ∧ (s.pnt.banks.length = 2) ∧ ((s.setNvwp nvwp).eraseRefusal b ((s.setNvwp nvwp).geti PNT_B_ADDR_OFFSET b) (max 1 ((s.setNvwp nvwp).geti PNT_B_COUNT_SECTORS b)) vaux = 0)))
    R 0 true true) ∧
  ((fun (s : State) (b : Nat) (nvwp : Bool) (vaux : Bool) =>
    ((b < 2) ∧ (s.pnt.banks.length = 2) ∧ (fun e => (e ≠ 0)) ((s.setNvwp nvwp).progRefusal b ((s.setNvwp nvwp).geti PNT_B_ADDR_OFFSET b) vaux)) ∧
    ((b < 2) ∧ (s.pnt.banks.length = 2) ∧ (fun e => (e ≠ 0)) ((s.setNvwp nvwp).eraseRefusal b ((s.setNvwp nvwp).geti PNT_B_ADDR_OFFSET b) (max 1 ((s.setNvwp nvwp).geti PNT_B_COUNT_SECTORS b)) vaux)))
    (((R.set PNT_XBANK_VALID 1).seti PNT_B_ADDR_OFFSET 1 0x2000)) 0 true true) ∧
  ((fun (s : State) (_off : Nat) (_n : Nat) (_vaux : Bool) =>
    ((fun b => (s.flag PNT_XBANK_VALID = true) ∧ (s.flag PNT_FLOCK_LOCK = false)) (s.get PNT_XBANK_BANK)))
    (R.set PNT_XBANK_VALID 1) 4096 3 true) ∧
  ((fun (s : State) (b : Nat) (off : Nat) (n : Nat) (_vaux : Bool) =>
    (((s.flag PNT_XBANK_VALID && s.get PNT_XBANK_BANK == b && !s.flag PNT_FLOCK_LOCK) = false) ∧ (s.pnt.nvwp = false) ∧ (s.marked (2 ^ 24 * b + off) 256 = true)) ∧
    (((s.flag PNT_XBANK_VALID && s.get PNT_XBANK_BANK == b && !s.flag PNT_FLOCK_LOCK) = false) ∧ (s.pnt.nvwp = false) ∧ (s.marked (2 ^ 24 * b + off) (4096 * n) = true)))
    ((R.set PNT_PROT_MARKS 0xFFFF).setNvwp false) 0 0 3 true) := by
  beta_reduce; decide +kernel

-- For Obligations.PantryWritesAndSuspend.
theorem witness_PantrySuspend :
  ((fun (s : State) (b : Nat) =>
    ((b < 2) ∧ (s.kmi.running.find? (runIs 0x0810 (b + 1)) = none) ∧ (s.geti PNT_B_STAT_STATE b = 2) ∧ (s.geti PNT_B_STAT_SUSP_CNT b < 64)))
    (prog 1 2) 1) ∧
  ((fun (s : State) (b : Nat) =>
    ((b < 2) ∧ (s.kmi.running.find? (runIs 0x0810 (b + 1)) = none) ∧ (s.geti PNT_B_STAT_STATE b = 2) ∧ (s.geti PNT_B_STAT_SUSP_CNT b = 64)))
    ((prog 1 2).seti PNT_B_STAT_SUSP_CNT 1 64) 1) ∧
  ((fun (s : State) (b : Nat) =>
    ((b < 2) ∧ (s.kmi.running.find? (runIs 0x0810 (b + 1)) = none) ∧ (s.geti PNT_B_STAT_STATE b = 1 ∨ s.geti PNT_B_STAT_STATE b = 4)))
    (prog 1 1) 1) ∧
  ((fun (s : State) (b : Nat) =>
    ((b < 2) ∧ (s.kmi.running.find? (runIs 0x0810 (b + 1)) = none) ∧ (s.geti PNT_B_STAT_STATE b = 0 ∨ s.geti PNT_B_STAT_STATE b = 3)))
    (prog 1 3) 1) ∧
  ((fun (s : State) (b : Nat) (q : RunCmd) =>
    ((b < 2) ∧ (s.kmi.running.filter (runIs 0x0810 (b + 1)) = [q]) ∧ (q.abandoned = false) ∧ (q.mbx < s.kmi.mbx.length) ∧ (s.geti PNT_B_STAT_STATE b = 2) ∧ (s.geti PNT_B_STAT_SUSP_CNT b < 64)))
    rdWait 0 (⟨3, cmdOf 0x810 4096 16 [], false, false, 1⟩)) ∧
  ((fun (s : State) (b : Nat) (nvwp : Bool) =>
    ((b < 2) ∧ (s.geti PNT_B_STAT_STATE b = 3) ∧ ((nvwp || !s.marked (2 ^ 24 * b + 4096 * (s.pBank b).er) (4096 * (s.pBank b).erLeft)) = true)))
    (prog 1 3) 1 true) ∧
  ((fun (s : State) (b : Nat) (nvwp : Bool) =>
    ((b < 2) ∧ (s.geti PNT_B_STAT_STATE b = 3) ∧ ((nvwp || !s.marked (2 ^ 24 * b + 4096 * (s.pBank b).er) (4096 * (s.pBank b).erLeft)) = false)))
    ((prog 0 3).set PNT_PROT_MARKS 0xFFFF) 0 false) := by
  beta_reduce; decide +kernel

-- For Obligations.PantryWritesAndSuspend.
theorem witness_PantryWrites :
  ((fun (s : State) (b : Nat) =>
    ((b < 2) ∧ ((s.geti PNT_B_STAT_STATE b = 1 ∨ s.geti PNT_B_STAT_STATE b = 4)) ∧ ((s.pBank b).data.length = 256)))
    (prog 1 1) 1) ∧
  ((fun (s : State) (b : Nat) =>
    ((b < 2) ∧ ((s.geti PNT_B_STAT_STATE b = 1 ∨ s.geti PNT_B_STAT_STATE b = 4)) ∧ ((s.pnt.jobs.find? (fun j => j.bank == b)) = none)))
    (prog 1 4) 1) ∧
  ((fun (s : State) (b : Nat) =>
    ((b < 2) ∧ (s.geti PNT_B_STAT_STATE b = 2)))
    {prog 1 2 with pantry := [(2^24 + 5*4096 + 7, 1), (2^24 + 6*4096, 2)]} 1) ∧
  ((fun (s : State) (b : Nat) =>
    ((b < 2) ∧ (s.geti PNT_B_STAT_STATE b = 2) ∧ (s.pnt.banks.length = 2) ∧ (2 ≤ (s.pBank b).erLeft)))
    (prog 1 2) 1) ∧
  ((fun (s : State) (b : Nat) =>
    ((b < 2) ∧ (s.geti PNT_B_STAT_STATE b = 2) ∧ ((s.pBank b).erLeft ≤ 1) ∧ ((s.pnt.jobs.find? (fun j => j.bank == b)) = none)))
    (prog 0 2) 0) := by
  beta_reduce; decide +kernel

-- For Obligations.PantryStartsAndFetchLock.
theorem witness_FetchLock :
  ((fun (s : State) =>
    ((s.geti PNT_B_STAT_STATE 0 = 0) ∧ (s.geti PNT_B_STAT_STATE 1 = 0)))
    (R.set PNT_FLOCK_LOCK 1)) ∧
  ((fun (s : State) =>
    (((s.geti PNT_B_STAT_STATE 0 ≠ 0 ∨ s.geti PNT_B_STAT_STATE 1 ≠ 0)) ∧ (s.get PNT_FLOCK_LOCK = 1)))
    ((prog 1 2).set PNT_FLOCK_LOCK 1)) := by
  beta_reduce; decide +kernel

-- For Obligations.OtpOperations.
theorem witness_OtpOperations :
  ((fun (s : State) (r : Nat) =>
    ((r < 64) ∧ (s.flag OTP_STAT_BUSY = false)) ∧
    ((r < 64) ∧ (s.flag OTP_STAT_BUSY = false) ∧ ((List.range 64).any fun i => decide ((i < 128) ∧ ((r = 5 ∨ r = 6 ∨ (12 ≤ r ∧ r ≤ 15) ∨ (39 ≤ r ∧ r ≤ 47))))) = true))
    otpB 5) ∧
  ((fun (s : State) (r : Nat) (vaux : Bool) =>
    ((r < 64) ∧ (s.flag OTP_STAT_BUSY = false) ∧ (fun e => (e ≠ 0)) (s.otpRefusal r s.otpBuf vaux)) ∧
    ((r < 64) ∧ (s.flag OTP_STAT_BUSY = false) ∧ ((¬ ∀ i < 128, ((s.otpRow r).getD i 0 ||| s.otpBuf.getD i 0) = s.otpBuf.getD i 0))))
    {otpB with otp := [(128 * 20 + 3, 255)]} 20 true) ∧
  ((fun (s : State) (r : Nat) (vaux : Bool) =>
    ((r < 64) ∧ (s.flag OTP_STAT_BUSY = false) ∧ (s.otpRefusal r s.otpBuf vaux = 0)))
    otpB 20 true) ∧
  ((fun (s : State) =>
    ((match (s.pnt.otp) with | some (r, d, mb) => decide (True) | _ => false) = true))
    ({R with pnt := {R.pnt with otp := some (20, List.range 128, 0)}, otp := [(128 * 20 + 3, 255)]})) := by
  beta_reduce; decide +kernel

-- For Obligations.PantryCommands.
theorem witness_PantryCommands :
  ((fun (s : State) (m : Nat) (c : KmiCmd) (ra : List Nat) (_w : Nat) =>
    ((KmiReady s 0x0810 m c) ∧ (c.a0 % 2 ^ 25 + c.a1 % 2 ^ 24 ≤ 2 ^ 25) ∧ (s.pReadable (c.a0 % 2 ^ 25 / 2 ^ 24) = true) ∧ (s.flag PNT_CTRL_RETRY_EN = true ∨ ra = [])) ∧
    ((KmiReady s 0x0810 m c) ∧ (c.a0 % 2 ^ 25 + c.a1 % 2 ^ 24 ≤ 2 ^ 25) ∧ (s.pReadable (c.a0 % 2 ^ 25 / 2 ^ 24) = true) ∧ (s.flag PNT_CTRL_RETRY_EN = true)))
    (PR {RD 2 with pantry := [(4097, 3)]} pRd) 0 pRd [] 4100) ∧
  ((fun (s : State) (m : Nat) (c : KmiCmd) (_ra : List Nat) (_w : Nat) =>
    ((KmiReady s 0x0810 m c) ∧ (c.a0 % 2 ^ 25 + c.a1 % 2 ^ 24 ≤ 2 ^ 25) ∧ (s.pReadable (c.a0 % 2 ^ 25 / 2 ^ 24) = false)))
    (PDr (prog 0 2) pRd) 0 pRd [4096] 4100) ∧
  ((fun (s : State) (m : Nat) (c : KmiCmd) (_ra : List Nat) (_w : Nat) =>
    ((KmiReady s 0x0810 m c) ∧ (2 ^ 25 < c.a0 % 2 ^ 25 + c.a1 % 2 ^ 24)))
    (PDr (prog 0 1) (cmdOf 0x810 (2^25 - 1) 2 [])) 0 (cmdOf 0x810 (2^25 - 1) 2 []) [4096] 4100) ∧
  ((fun (s : State) (m : Nat) (c : KmiCmd) =>
    ((KmiReady s 0x0811 m c) ∧ (c.a0 % 2 ^ 25 % 256 = 0) ∧ (c.dataIn.length % 256 = 0) ∧ (c.dataIn ≠ []) ∧ (c.a0 % 2 ^ 25 % 2 ^ 24 + c.dataIn.length ≤ 2 ^ 24) ∧ ((s.pnt.nvwp || !s.marked (c.a0 % 2 ^ 25) c.dataIn.length) = true) ∧ (s.pnt.banks.length = 2) ∧ (s.progRefusal (c.a0 % 2 ^ 25 / 2 ^ 24) (c.a0 % 2 ^ 25 % 2 ^ 24) true = 0)))
    (PR (hiWp (RD 2)) (cmdOf 0x811 (2^24 + 0x2000) 0 (List.replicate 512 3))) 0 (cmdOf 0x811 (2^24 + 0x2000) 0 (List.replicate 512 3))) ∧
  ((fun (s : State) (m : Nat) (c : KmiCmd) =>
    ((KmiReady s 0x0811 m c) ∧ (c.a0 % 2 ^ 25 % 256 = 0) ∧ (c.dataIn.length % 256 = 0) ∧ (c.dataIn ≠ []) ∧ (c.a0 % 2 ^ 25 % 2 ^ 24 + c.dataIn.length ≤ 2 ^ 24) ∧ ((s.pnt.nvwp || !s.marked (c.a0 % 2 ^ 25) c.dataIn.length) = true) ∧ (s.pnt.banks.length = 2) ∧ (fun e => (e ≠ 0)) (s.progRefusal (c.a0 % 2 ^ 25 / 2 ^ 24) (c.a0 % 2 ^ 25 % 2 ^ 24) true)))
    (PR (hiWp ((RD 2).set PNT_XBANK_VALID 1)) (cmdOf 0x811 (0x2000) 0 (List.replicate 512 3))) 0 (cmdOf 0x811 (0x2000) 0 (List.replicate 512 3))) ∧
  ((fun (s : State) (m : Nat) (c : KmiCmd) =>
    ((KmiReady s 0x0811 m c) ∧ (c.a0 % 2 ^ 25 % 256 ≠ 0 ∨ c.dataIn.length % 256 ≠ 0 ∨ c.dataIn = [] ∨ 2 ^ 24 < c.a0 % 2 ^ 25 % 2 ^ 24 + c.dataIn.length)))
    (PR (hiWp ((RD 2).set PNT_XBANK_VALID 1)) (cmdOf 0x811 (0x2001) 0 (List.replicate 512 3))) 0 (cmdOf 0x811 (0x2001) 0 (List.replicate 512 3))) ∧
  ((fun (s : State) (m : Nat) (c : KmiCmd) =>
    ((KmiReady s 0x0811 m c) ∧ (c.a0 % 2 ^ 25 % 256 = 0) ∧ (c.dataIn.length % 256 = 0) ∧ (c.dataIn ≠ []) ∧ (c.a0 % 2 ^ 25 % 2 ^ 24 + c.dataIn.length ≤ 2 ^ 24) ∧ (s.pnt.nvwp = false) ∧ (s.marked (c.a0 % 2 ^ 25) c.dataIn.length = true)))
    (PR ((RD 2).set PNT_PROT_MARKS 0xFFFF) (cmdOf 0x811 (0x2000) 0 (List.replicate 512 3))) 0 (cmdOf 0x811 (0x2000) 0 (List.replicate 512 3))) ∧
  ((fun (s : State) (m : Nat) (c : KmiCmd) =>
    ((KmiReady s 0x0812 m c) ∧ (s.pnt.banks.length = 2) ∧ (s.eraseRefusal (c.a0 % 2 ^ 25 / 2 ^ 24) (c.a0 % 2 ^ 25 % 2 ^ 24) (max 1 (c.a1 % 2 ^ 13)) true = 0)))
    (PR (hiWp (RD 2)) (cmdOf 0x812 (2^24 + 0x2000) 3 [])) 0 (cmdOf 0x812 (2^24 + 0x2000) 3 [])) ∧
  ((fun (s : State) (m : Nat) (c : KmiCmd) =>
    ((KmiReady s 0x0812 m c) ∧ (s.pnt.banks.length = 2) ∧ (fun e => (e ≠ 0)) (s.eraseRefusal (c.a0 % 2 ^ 25 / 2 ^ 24) (c.a0 % 2 ^ 25 % 2 ^ 24) (max 1 (c.a1 % 2 ^ 13)) true)))
    (PR (hiWp (RD 2)) (cmdOf 0x812 (2^24 + 0x2100) 3 [])) 0 (cmdOf 0x812 (2^24 + 0x2100) 3 [])) ∧
  ((fun (s : State) (m : Nat) (c : KmiCmd) =>
    ((KmiReady s 0x0813 m c) ∧ (c.dataIn ≠ []) ∧ (c.dataIn.length ≤ 0x400000) ∧ True))
    (PR (hiWp (RD 2)) (cmdOf 0x813 0 0 (List.replicate 512 3))) 0 (cmdOf 0x813 0 0 (List.replicate 512 3))) ∧
  ((fun (s : State) (m : Nat) (c : KmiCmd) =>
    ((KmiReady s 0x0813 m c) ∧ (c.dataIn = [] ∨ 0x400000 < c.dataIn.length)))
    (PR (hiWp (RD 2)) (cmdOf 0x813 0 0 [])) 0 (cmdOf 0x813 0 0 [])) ∧
  ((fun (s : State) (m : Nat) (c : KmiCmd) =>
    (KmiReady s 0x0818 m c))
    (PR R (cmdOf 0x818 20 0 [])) 0 (cmdOf 0x818 20 0 [])) ∧
  ((fun (s : State) (m : Nat) (c : KmiCmd) =>
    ((KmiReady s 0x0819 m c) ∧ (c.dataIn.length = 128) ∧ (s.flag OTP_STAT_BUSY = false) ∧ (s.otpRefusal (bits c.a0 5 0) c.dataIn true = 0)))
    (PR (R.set TGT_LC_STATE 2) (cmdOf 0x819 3 0 (List.range 128))) 0 (cmdOf 0x819 3 0 (List.range 128))) ∧
  ((fun (s : State) (m : Nat) (c : KmiCmd) =>
    ((KmiReady s 0x0819 m c) ∧ (c.dataIn.length = 128) ∧ (s.flag OTP_STAT_BUSY = false) ∧ (s.otpRefusal (bits c.a0 5 0) c.dataIn true ≠ 0)))
    (PR {R.set TGT_LC_STATE 2 with otp := [(128*3+1,255)]} (cmdOf 0x819 3 0 (List.range 128))) 0 (cmdOf 0x819 3 0 (List.range 128))) ∧
  ((fun (s : State) (m : Nat) (c : KmiCmd) =>
    ((KmiReady s 0x0819 m c) ∧ (c.dataIn.length = 128) ∧ (s.flag OTP_STAT_BUSY = true)))
    (PR ((R.set TGT_LC_STATE 2).set OTP_STAT_BUSY 1) (cmdOf 0x819 3 0 (List.range 128))) 0 (cmdOf 0x819 3 0 (List.range 128))) ∧
  ((fun (s : State) (m : Nat) (c : KmiCmd) =>
    ((KmiReady s 0x0819 m c) ∧ (c.dataIn.length ≠ 128)))
    (PR (R.set TGT_LC_STATE 2) (cmdOf 0x819 3 0 (List.range 127))) 0 (cmdOf 0x819 3 0 (List.range 127))) := by
  beta_reduce; decide +kernel

end C03

/-! ### Witnesses: DRAM -/

namespace C04

def dm := (((((doorsUp (roomUp R 3) 3).set DMC_GEOM_CAP_GIB 1).set DMC_CFG_EN 1).set DMC_STAT_TRAINED 1).loadMasks)
def dmr : State := { dm with dmc := { dm.dmc with ready := true } }
def str (s : State) : State := ((((s.set2 DMC_STR_LO_SIZE_LOG2 3 2 16).set2 DMC_STR_LO_BASE_LO 3 2 1024).set2 DMC_STR_HI_WR 3 2 1).set2 DMC_STR_HI_RD 3 2 1)
def ws_ : List (Nat × Nat) := [(0x1234567890, 0xFFFF), (5, 0x0F0F)]
def hd (off atag : Nat) (w : Bool) : Nat := off + 2^40 * atag + (if w then 2^48 else 0)
def rdw (off n : Nat) : Nat := off + 2^40 * (n-1)
def ackd : State := { R with dmc := { R.dmc with acks := [⟨7, 3, 2, 9, 33, true, 4, 0, [5]⟩, ⟨8, 3, 2, 9, 34, true, 0, 0, [6]⟩] } }
def full64 : State := let s := str dmr; { s with dmc := { s.dmc with reads := (List.range 64).map fun k => ⟨k, 3, 1, 2, 0, 1, 1, []⟩ } }
def qw (l : Nat) : DReq := ⟨true, l, 2^40-1, 2^300+12345, [.other 211], false, 0, false⟩
def qr (l : Nat) : DReq := ⟨false, l, 2^64-1, 0, [.other 211], false, 0, false⟩
def withSub (s : State) (sc : Nat) (k : SubSt) : State := s.setSub sc k
def rowOpen (s : State) (l : Nat) (k : SubSt) : SubSt := k.setBank (s.bankOf (s.devLine l)) { BankSt.init with row := some (s.rowOf (s.devLine l)) }
def k0 : SubSt := SubSt.init
def one (q : DReq) : State := let sc := dmr.scOf (dmr.devLine q.line); withSub dmr sc (rowOpen dmr q.line { k0 with wq := [q] })
def scq (q : DReq) := dmr.scOf (dmr.devLine q.line)
def busyS : State := withSub dmr 0 (rowOpen dmr 8 { k0 with wq := [qw 8, qw 4096], rq := [qr 12], nr := [(3, [5,6])] })
def al (n : Nat) : State := let s := dmr.set DMC_CFG_WCRC 1; s.setSub 1 { s.sub 1 with bad := (List.range n).map (· + 100) }
def mset : List Nat := (List.range 8).flatMap fun b => leBytes 8 (match dm.homeBit b with | some h => 2^h | none => 0)
def dmOpen (x : State) : State := { x with dmc := { x.dmc with refActive := false } }
def mmc (s : State) (c : KmiCmd) : State := PR (s.set TGT_LC_STATE 2 |>.set TGT_DBG_LEVEL 3) c

-- For Obligations.DramWriteTransfers.
theorem witness_DramWriteTransfers :
  ((fun (s : State) (r : Nat) (p : Nat) (i : Nat) (h : Nat) (_t : Nat) (w : List (Nat × Nat)) =>
    ((fun hs => (fun ws => (r < 24) ∧ (p < 8) ∧ (i < 256) ∧ (s.portMoves r p = false ∨ s.seenStream r p i ≠ i)) (w.map (s.seenWord r p))) ((s.seenWord r p (h, 0)).1)))
    R 3 1 2 (hd 16 7 true) 100 ws_) ∧
  ((fun (s : State) (r : Nat) (p : Nat) (i : Nat) (h : Nat) (_t : Nat) (w : List (Nat × Nat)) =>
    ((fun hs => (fun ws => (r < 24) ∧ (p < 8) ∧ (i < 256) ∧ (s.portMoves r p = true) ∧ (s.seenStream r p i = i) ∧ ((List.range 64).any fun st => decide ((((s.stream r i = none ∧ st = 2) ∨ ((match s.stream r i with | some (base, size) => decide (((s.get2 DMC_STR_HI_WR r i = 0 ∧ st = 2) ∨ (s.get2 DMC_STR_HI_WR r i ≠ 0 ∧ st = 1 ∧ (bits hs 36 0 % 16 ≠ 0 ∨ size < bits hs 36 0 + 16 * w.length ∨ 256 < w.length ∨ s.dpaOk (base + bits hs 36 0) (16 * w.length) = false)))) | none => false) = true))))) = true) (w.map (s.seenWord r p))) ((s.seenWord r p (h, 0)).1)))
    dmr 3 1 2 (hd 16 7 true) 100 ws_) ∧
  ((fun (s : State) (r : Nat) (p : Nat) (i : Nat) (h : Nat) (_t : Nat) (w : List (Nat × Nat)) =>
    ((fun hs => (fun ws => (r < 24) ∧ (p < 8) ∧ (i < 256) ∧ (s.portMoves r p = true) ∧ (s.seenStream r p i = i) ∧ (match (s.stream r i) with | some (base, size) => decide ((s.get2 DMC_STR_HI_WR r i ≠ 0) ∧ (bits hs 36 0 % 16 = 0) ∧ (bits hs 36 0 + 16 * w.length ≤ size) ∧ (w.length ≤ 256) ∧ (s.dpaOk (base + bits hs 36 0) (16 * w.length) = true)) | _ => false) = true) (w.map (s.seenWord r p))) ((s.seenWord r p (h, 0)).1)))
    (str dmr) 3 1 2 (hd 48 7 true) 100 ws_) := by
  beta_reduce; decide +kernel

-- For Obligations.DramReadsAndAcks.
theorem witness_DramReadsAndAcks :
  ((fun (s : State) (r : Nat) (p : Nat) (i : Nat) (w : Nat) (_t : Nat) =>
    ((fun ws => (r < 24) ∧ (p < 8) ∧ (i < 256) ∧ (s.portMoves r p = true) ∧ (s.seenStream r p i = i) ∧ (s.readsOut r p < 64) ∧ ((s.stream r i = none ∨ ((match s.stream r i with | some (base, size) => decide ((s.get2 DMC_STR_HI_RD r i = 0 ∨ bits ws 36 0 % 16 ≠ 0 ∨ size < bits ws 36 0 + 16 * (bits ws 47 40 + 1) ∨ s.dpaOk (base + bits ws 36 0) (16 * (bits ws 47 40 + 1)) = false)) | none => false) = true)))) ((s.seenWord r p (w, 0)).1)))
    dmr 3 1 2 (rdw 48 3) 100) ∧
  ((fun (s : State) (r : Nat) (p : Nat) (i : Nat) (w : Nat) (_t : Nat) =>
    ((fun ws => (r < 24) ∧ (p < 8) ∧ (i < 256) ∧ (s.portMoves r p = true) ∧ (s.seenStream r p i = i) ∧ (s.readsOut r p < 64) ∧ (match (s.stream r i) with | some (base, size) => decide ((s.get2 DMC_STR_HI_RD r i ≠ 0) ∧ (bits ws 36 0 % 16 = 0) ∧ (bits ws 36 0 + 16 * (bits ws 47 40 + 1) ≤ size) ∧ (s.dpaOk (base + bits ws 36 0) (16 * (bits ws 47 40 + 1)) = true)) | _ => false) = true) ((s.seenWord r p (w, 0)).1)))
    (str dmr) 3 1 2 (rdw 48 3) 100) ∧
  ((fun (s : State) (r : Nat) (p : Nat) (i : Nat) (_w : Nat) (_t : Nat) =>
    ((r < 24) ∧ (p < 8) ∧ (i < 256) ∧ (s.portMoves r p = true) ∧ (s.seenStream r p i = i) ∧ (64 ≤ s.readsOut r p)))
    full64 3 1 2 (rdw 47 3) 100) ∧
  ((fun (s : State) (r : Nat) (p : Nat) (i : Nat) (_w : Nat) (_t : Nat) =>
    ((r < 24) ∧ (p < 8) ∧ (i < 256) ∧ ((s.portMoves r p = false ∨ s.seenStream r p i ≠ i))))
    R 3 1 2 (rdw 47 3) 100) ∧
  ((fun (s : State) (r : Nat) (p : Nat) =>
    ((match (s.dmc.acks.find? (fun x => x.room == r && x.port == p && x.want && x.left == 0)) with | some a => decide ((r < 24) ∧ (p < 8)) | _ => false) = true))
    ackd 3 2) ∧
  ((fun (s : State) (r : Nat) (p : Nat) =>
    ((r < 24) ∧ (p < 8) ∧ (s.dmc.acks.find? (fun x => x.room == r && x.port == p && x.want && x.left == 0) = none)))
    ackd 3 1) := by
  beta_reduce; decide +kernel

-- For Obligations.DramSchedulingAndRefresh.
theorem witness_DramScheduling :
  ((fun (_s : State) (sc : Nat) (_t : Nat) (_ce : Nat) (_col : Bool) (_ue : Bool) =>
    (sc < 4))
    busyS 0 100 2 true true) ∧
  ((fun (s : State) (sc : Nat) (_t : Nat) (_ce : Nat) (_ue : Bool) (q : DReq) =>
    ((sc < 4) ∧ (s.dmc.refActive = false) ∧ (s.flag DMC_STAT_SR = false) ∧ (s.dmc.training = 0) ∧ (s.dmc.ready = true) ∧ ((s.sub sc).rq = []) ∧ ((s.sub sc).wq = [q]) ∧ ((s.sub sc).nr = []) ∧ (q.write = true) ∧ (((s.sub sc).bank (s.bankOf (s.devLine q.line))).row = some (s.rowOf (s.devLine q.line))) ∧ (bitB (s.get DMC_STAT_FAULT) sc = false)))
    (one (qw 8)) (scq (qw 8)) 100 3 true (qw 8)) ∧
  ((fun (s : State) (sc : Nat) (_t : Nat) (_ce : Nat) (_col : Bool) (_ue : Bool) =>
    ((sc < 4) ∧ ((s.dmc.refActive = true ∨ s.flag DMC_STAT_SR = true ∨ s.dmc.training ≠ 0 ∨ s.dmc.ready = false))))
    dm 1 100 0 true false) := by
  beta_reduce; decide +kernel

-- For Obligations.DramMappingInjective.
theorem witness_DramMappingInjective :
  ((fun (s : State) (a : Nat) (b : Nat) =>
    ((s.masksOk s.mapMask = true) ∧ (s.devLine a = s.devLine b)))
    dmr 77 77) := by
  beta_reduce; decide +kernel

-- For Obligations.DramSchedulingAndRefresh.
theorem witness_DramIdle :
  ((fun (s : State) (sc : Nat) (b : Nat) (t : Nat) (row : Nat) =>
    ((sc < 4) ∧ (b < 64) ∧ (s.dmc.subs.length = 4) ∧ (((s.sub sc).bank b).row = some row) ∧ (timeGe t (((s.sub sc).bank b).lastUse + 320 * s.get DMC_SCHED_PAGE_TMO) = true)))
    busyS 0 (dmr.bankOf (dmr.devLine 8)) 1000000 (dmr.rowOf (dmr.devLine 8))) ∧
  ((fun (s : State) (sc : Nat) (b : Nat) (t : Nat) =>
    ((sc < 4) ∧ (b < 64) ∧ ((((s.sub sc).bank b).row = none ∨ timeGe t (((s.sub sc).bank b).lastUse + 320 * s.get DMC_SCHED_PAGE_TMO) = false))))
    busyS 0 (dmr.bankOf (dmr.devLine 8)) 10) ∧
  ((fun (s : State) (sc : Nat) (k : Nat) (t : Nat) =>
    ((sc < 4) ∧ (k < 2) ∧ (s.dmc.subs.length = 4) ∧ (s.flag DMC_PD_EN = true) ∧ (s.dmc.ready = true) ∧ (((s.sub sc).rq ++ (s.sub sc).wq).any (fun q => s.rankOf (s.devLine q.line) == k) = false) ∧ (bitB (s.sub sc).pd k = false) ∧ (timeGe t ((s.sub sc).rankUse.getD k 0 + 320 * s.get DMC_PD_IDLE) = true)))
    (withSub dmr 2 (rowOpen dmr 8 k0)) 2 0 10000000) ∧
  ((fun (s : State) (sc : Nat) (k : Nat) (t : Nat) =>
    ((sc < 4) ∧ (k < 2) ∧ ((s.flag DMC_PD_EN = false ∨ s.dmc.ready = false ∨ ((s.sub sc).rq ++ (s.sub sc).wq).any (fun q => s.rankOf (s.devLine q.line) == k) = true ∨ bitB (s.sub sc).pd k = true ∨ timeGe t ((s.sub sc).rankUse.getD k 0 + 320 * s.get DMC_PD_IDLE) = false))))
    (withSub dmr 2 (rowOpen dmr 8 k0)) 2 0 10) := by
  beta_reduce; decide +kernel

-- For Obligations.DramSchedulingAndRefresh.
theorem witness_DramRefresh :
  ((fun (s : State) (t : Nat) =>
    ((s.dmc.ready = true) ∧ (s.flag DMC_STAT_SR = false) ∧ (s.dmc.training = 0) ∧ (timeGe t (s.dmc.refAt + s.refInterval) = true)))
    dmr 5000000) ∧
  ((fun (s : State) (t : Nat) =>
    ((s.dmc.ready = true) ∧ (s.flag DMC_STAT_SR = false) ∧ (s.dmc.training = 0) ∧ (timeGe t (s.dmc.refAt + s.refInterval) = false)))
    dmr 1000) ∧
  ((fun (s : State) (t : Nat) =>
    ((s.dmc.ready = true) ∧ (s.flag DMC_STAT_SR = false) ∧ (s.dmc.training = 0) ∧ (s.dmc.refActive = false) ∧ (((s.refTick = false ∧ 1 ≤ s.debt) ∨ (s.refTick = true ∧ s.debt = 4) ∨ (s.refTick = true ∧ -4 < s.debt ∧ (s.setNow t).refAdmit = true)))))
    (dmr.setDebt 2) 100) ∧
  ((fun (s : State) (_t : Nat) =>
    (s.dmc.refActive = true))
    ({busyS with dmc := {busyS.dmc with refActive := true}}) 100) ∧
  ((fun (s : State) (_d : Bool) =>
    (s.dmc.ready = true))
    dmr true) ∧
  ((fun (s : State) =>
    (s.dmc.ready = true))
    dmr) := by
  beta_reduce; decide +kernel

-- For Obligations.DramTrainingAndErrors.
theorem witness_DramTrainingAndErrors :
  ((fun (s : State) (_mode : Nat) =>
    ((s.flag DMC_CFG_EN = true ∨ s.flag DMC_TRAIN_STAT_BUSY = true)))
    dmr 1) ∧
  ((fun (s : State) (_mode : Nat) =>
    ((s.flag DMC_CFG_EN = false) ∧ (s.flag DMC_TRAIN_STAT_BUSY = false)))
    (busyS.set DMC_CFG_EN 0) 1) ∧
  ((fun (s : State) =>
    ((s.flag DMC_CFG_EN = false) ∧ (s.masksOk s.mapMask = true)))
    (busyS.set DMC_CFG_EN 0)) ∧
  ((fun (s : State) =>
    ((s.flag DMC_CFG_EN = false) ∧ (s.masksOk s.mapMask = false)))
    ((busyS.set DMC_CFG_EN 0).seti DMC_MAP_LO_MASK 0 0)) ∧
  ((fun (s : State) (_n : Nat) =>
    ((s.flag DMC_CFG_INIT = true) ∧ (s.dmc.ready = true) ∧ (s.flag DMC_STAT_INIT_DONE = false) ∧ (s.flag DMC_CFG_EN = true)))
    (dmr.set DMC_CFG_INIT 1) 100) ∧
  ((fun (s : State) (sc : Nat) (l : Nat) =>
    ((sc < 4) ∧ (s.dmc.subs.length = 4) ∧ (s.flag DMC_CFG_WCRC = true) ∧ ((s.sub sc).bad.contains l = false) ∧ ((s.sub sc).bad.length < 16)))
    (al 3) 1 7) ∧
  ((fun (s : State) (sc : Nat) (l : Nat) =>
    ((sc < 4) ∧ (s.dmc.subs.length = 4) ∧ (s.flag DMC_CFG_WCRC = true) ∧ ((s.sub sc).bad.contains l = false) ∧ (16 ≤ (s.sub sc).bad.length)))
    (al 16) 1 7) ∧
  ((fun (_s : State) (sc : Nat) (_l : List Nat) =>
    (sc < 4))
    (al 16) 1 [7]) := by
  beta_reduce; decide +kernel

-- For Obligations.MemoryCommands.
theorem witness_MemoryCommands :
  ((fun (s : State) (m : Nat) (c : KmiCmd) =>
    ((KmiReady s 0x0603 m c) ∧ (c.dataIn.length = 64) ∧ (s.masksOk (fun b => leField c.dataIn (8 * b) 8) = true)))
    (PR (((RD 2).set DMC_GEOM_CAP_GIB 1)) (cmdOf 0x603 0 0 mset)) 0 (cmdOf 0x603 0 0 mset)) ∧
  ((fun (s : State) (m : Nat) (c : KmiCmd) =>
    ((KmiReady s 0x0603 m c) ∧ (c.dataIn.length ≠ 64 ∨ s.masksOk (fun b => leField c.dataIn (8 * b) 8) = false)))
    (PR (((RD 2).set DMC_GEOM_CAP_GIB 1)) (cmdOf 0x603 0 0 (List.replicate 64 1))) 0 (cmdOf 0x603 0 0 (List.replicate 64 1))) ∧
  ((fun (s : State) (m : Nat) (c : KmiCmd) =>
    ((KmiReady s 0x0604 m c) ∧ (s.dmcTakes = true) ∧ (s.dpaOk (bits c.a0 36 0) (bits c.a1 23 0) = true)) ∧
    ((KmiReady s 0x0604 m c) ∧ (match ((s.dramRead 211 (bits c.a0 36 0) (bits c.a1 23 0)).2.1) with | some x => decide (True) | _ => false) = true))
    (mmc {dmr with dramBad := [(dmr.devLine 2, true)]} (cmdOf 0x604 100 200 [])) 0 (cmdOf 0x604 100 200 [])) ∧
  ((fun (s : State) (m : Nat) (c : KmiCmd) =>
    ((KmiReady s 0x0604 m c) ∧ (s.flag DMC_STAT_TRAINED = false)))
    (PR (RD 2) (cmdOf 0x604 100 200 [])) 0 (cmdOf 0x604 100 200 [])) ∧
  ((fun (s : State) (m : Nat) (c : KmiCmd) =>
    ((KmiReady s 0x0604 m c) ∧ (s.flag DMC_STAT_TRAINED = true) ∧ (s.dpaOk (bits c.a0 36 0) (bits c.a1 23 0) = true) ∧ (s.dmcTakes = false)))
    (PR (((RD 2).set DMC_GEOM_CAP_GIB 1).set DMC_STAT_TRAINED 1) (cmdOf 0x604 100 200 [])) 0 (cmdOf 0x604 100 200 [])) ∧
  ((fun (s : State) (m : Nat) (c : KmiCmd) =>
    ((KmiReady s 0x0604 m c) ∧ (s.flag DMC_STAT_TRAINED = true) ∧ (s.dpaOk (bits c.a0 36 0) (bits c.a1 23 0) = false)))
    (PR (((RD 2).set DMC_GEOM_CAP_GIB 1).set DMC_STAT_TRAINED 1) (cmdOf 0x604 (2^30) 200 [])) 0 (cmdOf 0x604 (2^30) 200 [])) ∧
  ((fun (s : State) (m : Nat) (c : KmiCmd) =>
    ((KmiReady s 0x0604 m c) ∧ (s.dmcTakes = true) ∧ (s.dpaOk (bits c.a0 36 0) (bits c.a1 23 0) = true) ∧ (((rangeLines (bits c.a0 36 0) (bits c.a1 23 0)).find? (fun l => (s.lineView l.1).2)) = none) ∧ (s.flag HLK_STAT_HDM_COMMITTED = false)))
    (mmc {dmr with dram := [(100, 7), (164, 9)]} (cmdOf 0x604 100 200 [])) 0 (cmdOf 0x604 100 200 [])) ∧
  ((fun (s : State) (m : Nat) (c : KmiCmd) =>
    ((KmiReady s 0x0605 m c) ∧ (s.flag DMC_STAT_TRAINED = false)))
    (PR (RD 2) (cmdOf 0x605 100 0 [1,2,3])) 0 (cmdOf 0x605 100 0 [1,2,3])) ∧
  ((fun (s : State) (m : Nat) (c : KmiCmd) =>
    ((KmiReady s 0x0605 m c) ∧ (s.flag DMC_STAT_TRAINED = true) ∧ (s.dpaOk (bits c.a0 36 0) c.dataIn.length = false)))
    (PR (((RD 2).set DMC_GEOM_CAP_GIB 1).set DMC_STAT_TRAINED 1) (cmdOf 0x605 (2^30) 0 [1,2,3])) 0 (cmdOf 0x605 (2^30) 0 [1,2,3])) ∧
  ((fun (s : State) (m : Nat) (c : KmiCmd) =>
    ((KmiReady s 0x0605 m c) ∧ (s.flag DMC_STAT_TRAINED = true) ∧ (s.dpaOk (bits c.a0 36 0) c.dataIn.length = true)))
    (PR ((((RD 2).set DMC_GEOM_CAP_GIB 1).set DMC_STAT_TRAINED 1).set DMC_CFG_EN 1) (cmdOf 0x605 1000 0 [1,2,3])) 0 (cmdOf 0x605 1000 0 [1,2,3])) ∧
  ((fun (s : State) (m : Nat) (c : KmiCmd) =>
    ((KmiReady s 0x0606 m c) ∧ (s.flag DMC_CFG_EN = false) ∧ (s.flag DMC_TRAIN_STAT_BUSY = false)))
    (PR (RD 2) (cmdOf 0x606 1 0 [])) 0 (cmdOf 0x606 1 0 [])) ∧
  ((fun (s : State) (m : Nat) (c : KmiCmd) =>
    ((KmiReady s 0x0606 m c) ∧ (s.flag DMC_CFG_EN = true ∨ s.flag DMC_TRAIN_STAT_BUSY = true)))
    (PR ((RD 2).set DMC_CFG_EN 1) (cmdOf 0x606 1 0 [])) 0 (cmdOf 0x606 1 0 [])) := by
  beta_reduce; decide +kernel

-- For Obligations.SettingsRecords.
theorem witness_SettingsRecords :
  ((fun (s : State) (kind : Nat) (body : List Nat) =>
    ((1 ≤ kind) ∧ (kind ≤ 4) ∧ (body.length + 256 ≤ (settingsSpan kind).2) ∧ ((∀ b ∈ body, b < 256)) ∧ (s.pnt.nvwp = true)))
    ({R with pnt := {R.pnt with nvwp := true}}) 1 (List.range 100)) := by
  beta_reduce; decide +kernel

end C04

/-! ### Witnesses: Rings and windows -/

namespace C05

def rs (st dir kind : Nat) : State :=
  let s := ((((((((doorsUp (roomUp R 3) 3).seti DRG_CTX_CTRL_STATE 5 st).seti DRG_CTX_SIZE_SQ_LOG2 5 6).seti DRG_CTX_SIZE_CQ_LOG2 5 7).seti DRG_CTX_BIND_ROOM 5 3).seti DRG_CTX_BIND_PORT 5 1).seti DRG_CTX_BIND_SLOT 5 7).seti DRG_CTX_CTRL_DIR 5 dir).seti DRG_CTX_CTRL_KIND 5 kind
  let s := (s.seti DRG_CTX_CTRL_FENCE_EN 5 1).seti DRG_CTX_CTRL_META_EN 5 0
  { s with rings := [(5, RingSt.init)], hlk := { s.hlk with bme := 0xFFFFFFFF, vecPf1 := 8, vecVf := 4 } }
def dsc (a l tg : Nat) : Desc := ⟨a, l, tg, true, false, []⟩
def rk (s : State) (k : RingSt) : State := { s with rings := Assoc.put 5 k s.rings }
def rcp (tg : Nat) (dn : Bool) : RingCompl := { user := [], tick := 4, tag := tg, len := 7, status := 0, ovr := false, merged := false, delayed := false, ndesc := 0, fence := false, irq := true, gen := 0, done := dn, ack := true }
def xf : Xfer := ⟨77, 1, false, 0x1000, 64, false, [1,2], false, 32, 0, 0, [], [], false⟩
def k1 : RingSt := { RingSt.init with descs := [dsc 0x1000 64 77, dsc 0x2000 64 78], held := [rcp 3 true, rcp 4 false], due := [rcp 1 false], inflight := [15], cur := some xf }
def kd : RingSt := { RingSt.init with descs := [dsc 0x1000 64 77, dsc 0x2000 64 78], held := [rcp 3 true] }
def dbytes (len tag : Nat) : List Nat := leBytes 8 0x5000 ++ leBytes 3 len ++ [0] ++ leBytes 2 tag ++ [3, 0] ++ List.range 16
def rcmd (op : Nat) : KmiCmd := cmdOf 0x506 (5 + 65536 * op) 0 []
def PRm (s : State) (c : KmiCmd) : State := postedIn ((s.set TGT_DBG_LEVEL 3).set TGT_LC_STATE 2) c
def win (s : State) : State := setFrame s 3 0 (16 + 32 * 16 + 2^53 + 2^50 * 2)
def wup := win (doorsUp (roomUp R 3) 3)
def wrdy := ready wup 3 2
def wp : WinPiece := ⟨3, 9, 1234, 64, 8, true, [], true, none, 5⟩
def withWin (s : State) : State := { s with hlk := { s.hlk with win := [wp] } }
def dd (d : Desc) (ds : List Desc) : RingSt := { kd with descs := d :: ds }
def sw (s : State) (ws : List (Nat × Nat)) : List Nat := (ws.map (s.seenWord 3 1)).flatMap wordBytes
def ws3 : List (Nat × Nat) := [(0x1122334455, 0xFFFF), (0x99887766, 0x0FF0), (7, 0x11)]
def cch : Desc := { dsc 0x1000 6 77 with chain := true }
def dcp (s : State) : State := { (((s.set DMC_GEOM_CAP_GIB 1).set DMC_CFG_EN 1).set DMC_STAT_TRAINED 1).loadMasks with dmc := { s.dmc with ready := true } }

-- For Obligations.RingCommands.
theorem witness_RingCommands :
  ((fun (s : State) (r : Nat) =>
    ((r < 32768) ∧ (s.ringState r = 0) ∧ (s.startOk r = true)))
    (rs 0 0 0) 5) ∧
  ((fun (s : State) (r : Nat) =>
    ((r < 32768) ∧ (s.ringState r = 0) ∧ (s.startOk r = false)))
    R 5) ∧
  ((fun (s : State) (r : Nat) =>
    ((r < 32768) ∧ (s.ringState r = 2)))
    (rs 2 0 0) 5) ∧
  ((fun (s : State) (r : Nat) =>
    ((r < 32768) ∧ (s.ringState r = 1 ∨ s.ringState r = 3)))
    (rs 1 0 0) 5) ∧
  ((fun (s : State) (r : Nat) =>
    ((r < 32768) ∧ (s.ringState r = 1)))
    (rs 1 0 0) 5) ∧
  ((fun (s : State) (r : Nat) =>
    ((r < 32768) ∧ (s.ringState r ≠ 1)))
    (rk (rs 3 0 0) k1) 5) ∧
  ((fun (s : State) (r : Nat) =>
    ((match ((s.ring r).cur) with | some x => decide ((r < 32768) ∧ (s.ringState r = 1) ∧ (s.flagi DRG_CTX_CTRL_FENCE_EN r = true) ∧ (s.cqFull r = true) ∧ (((s.ring r).due ++ (s.ring r).stby ++ (s.ring r).held).all (fun c => c.gen == s.geti DRG_CTX_CTRL_GEN r) = true) ∧ (x.gen = s.geti DRG_CTX_CTRL_GEN r)) | _ => false) = true))
    ((rk (rs 1 0 0) k1).seti DRG_CTX_CQ_PI 5 127) 5) ∧
  ((fun (s : State) (r : Nat) =>
    ((r < 32768) ∧ (s.ringState r ≠ 0) ∧ ((s.ring r).inflight.contains ((s.geti DRG_CTX_CTRL_GEN r + 1) % 16) = false)))
    (rk (rs 3 0 0) k1) 5) ∧
  ((fun (s : State) (r : Nat) =>
    ((r < 32768) ∧ (s.ringState r = 0 ∨ (s.ring r).inflight.contains ((s.geti DRG_CTX_CTRL_GEN r + 1) % 16) = true)))
    (rk ((rs 1 0 0).seti DRG_CTX_CTRL_GEN 5 14) k1) 5) ∧
  ((fun (_s : State) (r : Nat) =>
    (r < 32768))
    (rk ((rs 1 0 0).seti DRG_CTX_CTRL_GEN 5 14) k1) 5) ∧
  ((fun (s : State) (r : Nat) =>
    ((r < 32768) ∧ (s.ringState r = 2 ∨ s.ringState r = 3)))
    (rk (rs 3 0 0) k1) 5) ∧
  ((fun (s : State) (r : Nat) =>
    ((r < 32768) ∧ (s.ringState r = 0 ∨ s.ringState r = 1)))
    (rk (rs 1 0 0) k1) 5) := by
  beta_reduce; decide +kernel

-- For Obligations.RingCommands.
theorem witness_RingCommandMailbox :
  ((fun (s : State) (m : Nat) (c : KmiCmd) =>
    ((KmiReady s 0x0506 m c) ∧ (bits c.a0 18 16 = 1) ∧ (s.ringState (bits c.a0 14 0) = 2)))
    (PRm (rs 2 0 0) (rcmd 1)) 0 (rcmd 1)) ∧
  ((fun (s : State) (m : Nat) (c : KmiCmd) =>
    ((KmiReady s 0x0506 m c) ∧ (bits c.a0 18 16 = 1) ∧ (s.ringState (bits c.a0 14 0) = 0) ∧ (s.startOk (bits c.a0 14 0) = true)))
    (PRm ((rs 0 0 0).set DRG_STAT_CFG_ERR 0) (rcmd 1)) 0 (rcmd 1)) ∧
  ((fun (s : State) (m : Nat) (c : KmiCmd) =>
    ((KmiReady s 0x0506 m c) ∧ (bits c.a0 18 16 = 1) ∧ (s.ringState (bits c.a0 14 0) = 0) ∧ (s.startOk (bits c.a0 14 0) = false)))
    (PRm (R) (rcmd 1)) 0 (rcmd 1)) ∧
  ((fun (s : State) (m : Nat) (c : KmiCmd) =>
    ((KmiReady s 0x0506 m c) ∧ ((bits c.a0 18 16 = 1 ∧ s.ringState (bits c.a0 14 0) % 2 = 1) ∨ (bits c.a0 18 16 = 2 ∧ s.ringState (bits c.a0 14 0) ≠ 1) ∨ (bits c.a0 18 16 = 3 ∧ s.ringState (bits c.a0 14 0) = 0) ∨ (bits c.a0 18 16 = 4 ∧ s.ringState (bits c.a0 14 0) < 2) ∨ bits c.a0 18 16 = 0 ∨ 4 < bits c.a0 18 16)))
    (PRm (R) (rcmd 5)) 0 (rcmd 5)) ∧
  ((fun (s : State) (m : Nat) (c : KmiCmd) =>
    ((KmiReady s 0x0506 m c) ∧ (bits c.a0 18 16 = 2) ∧ (s.ringState (bits c.a0 14 0) = 1)))
    (PRm (rk (rs 1 0 0) k1) (rcmd 2)) 0 (rcmd 2)) ∧
  ((fun (s : State) (m : Nat) (c : KmiCmd) =>
    ((KmiReady s 0x0506 m c) ∧ (bits c.a0 18 16 = 3) ∧ (s.ringState (bits c.a0 14 0) ≠ 0) ∧ ((s.ring (bits c.a0 14 0)).inflight.contains ((s.geti DRG_CTX_CTRL_GEN (bits c.a0 14 0) + 1) % 16) = false)))
    (PRm (rs 1 0 0) (rcmd 3)) 0 (rcmd 3)) ∧
  ((fun (s : State) (m : Nat) (c : KmiCmd) =>
    ((KmiReady s 0x0506 m c) ∧ (bits c.a0 18 16 = 3) ∧ (s.ringState (bits c.a0 14 0) ≠ 0) ∧ ((s.ring (bits c.a0 14 0)).inflight.contains ((s.geti DRG_CTX_CTRL_GEN (bits c.a0 14 0) + 1) % 16) = true)))
    (PRm (rk ((rs 1 0 0).seti DRG_CTX_CTRL_GEN 5 14) k1) (rcmd 3)) 0 (rcmd 3)) ∧
  ((fun (s : State) (m : Nat) (c : KmiCmd) =>
    ((KmiReady s 0x0506 m c) ∧ (bits c.a0 18 16 = 4) ∧ (2 ≤ s.ringState (bits c.a0 14 0))))
    (PRm (rs 2 0 0) (rcmd 4)) 0 (rcmd 4)) := by
  beta_reduce; decide +kernel

-- For Obligations.RingQueues.
theorem witness_RingQueues :
  ((fun (s : State) (fn : Nat) (idx : Nat) (v : Nat) (_t : Nat) =>
    ((match (s.doorbellRing fn idx) with | some r => decide ((fn < 64) ∧ (s.hostServed = true) ∧ (s.get PWR_STATE_CUR = 0) ∧ (s.pwr.vote = none) ∧ (s.pwr.entering = none) ∧ (idx < doorbellCount fn) ∧ ((s.ringState r = 1 ∨ s.ringState r = 2)) ∧ (v % 2 ^ 16 < 2 ^ s.geti DRG_CTX_SIZE_SQ_LOG2 r)) | _ => false) = true) ∧
    ((match (s.doorbellRing fn idx) with | some r => decide ((fn < 64) ∧ (s.hostServed = true) ∧ (s.get PWR_STATE_CUR = 0) ∧ (s.pwr.vote = none) ∧ (s.pwr.entering = none) ∧ (idx < doorbellCount fn) ∧ ((s.ringState r = 1 ∨ s.ringState r = 2)) ∧ (v % 2 ^ 16 < 2 ^ s.geti DRG_CTX_SIZE_CQ_LOG2 r) ∧ ((s.ring r).due = [])) | _ => false) = true))
    (rs 1 0 0) 0 5 9 100) ∧
  ((fun (s : State) (fn : Nat) (idx : Nat) (v : Nat) (_t : Nat) =>
    ((match (s.doorbellRing fn idx) with | some r => decide ((fn < 64) ∧ (s.hostServed = true) ∧ (s.get PWR_STATE_CUR = 0) ∧ (s.pwr.vote = none) ∧ (s.pwr.entering = none) ∧ (idx < doorbellCount fn) ∧ ((s.ringState r = 1 ∨ s.ringState r = 2)) ∧ (2 ^ s.geti DRG_CTX_SIZE_SQ_LOG2 r ≤ v % 2 ^ 16)) | _ => false) = true) ∧
    ((match (s.doorbellRing fn idx) with | some r => decide ((fn < 64) ∧ (s.hostServed = true) ∧ (s.get PWR_STATE_CUR = 0) ∧ (s.pwr.vote = none) ∧ (s.pwr.entering = none) ∧ (idx < doorbellCount fn) ∧ ((s.ringState r = 1 ∨ s.ringState r = 2)) ∧ (2 ^ s.geti DRG_CTX_SIZE_CQ_LOG2 r ≤ v % 2 ^ 16)) | _ => false) = true))
    (rs 2 0 0) 0 5 128 100) ∧
  ((fun (s : State) (fn : Nat) (idx : Nat) (_v : Nat) (_t : Nat) =>
    ((match (s.doorbellRing fn idx) with | some r => decide ((fn < 64) ∧ (s.hostServed = true) ∧ (s.get PWR_STATE_CUR = 0) ∧ (s.pwr.vote = none) ∧ (s.pwr.entering = none) ∧ (idx < doorbellCount fn) ∧ (s.ringState r = 3)) | _ => false) = true))
    (rs 3 0 0) 0 5 64 100) ∧
  ((fun (s : State) (fn : Nat) (idx : Nat) (_t : Nat) =>
    ((fn < 64) ∧ (s.hostServed = true) ∧ (s.get PWR_STATE_CUR = 0) ∧ (s.pwr.vote = none) ∧ (s.pwr.entering = none) ∧ (idx < doorbellCount fn)) ∧
    ((fn < 64) ∧ (s.hostServed = true) ∧ (s.get PWR_STATE_CUR = 0) ∧ (s.pwr.vote = none) ∧ (s.pwr.entering = none) ∧ ([none, some 0, some 1].any fun a => decide (([none, some 0, some 1].any fun b => decide (((a ≠ none ∨ b ≠ none)) ∧ (idx < doorbellCount fn) ∧ (s.doorbellRing fn idx = none))) = true)) = true) ∧
    ((fn < 64) ∧ (s.hostServed = true) ∧ (s.get PWR_STATE_CUR = 0) ∧ (s.pwr.vote = none) ∧ (s.pwr.entering = none) ∧ (s.doorbellRing fn idx = none)))
    R 0 6 100) ∧
  ((fun (s : State) (fn : Nat) (idx : Nat) (_t : Nat) =>
    ((fn < 64) ∧ (s.hostServed = true) ∧ (s.get PWR_STATE_CUR = 0) ∧ (s.pwr.vote = none) ∧ (s.pwr.entering = none) ∧ (match (s.doorbellRing fn idx) with | some r => decide (True) | _ => false) = true))
    (rs 1 0 0) 0 5 100) ∧
  ((fun (s : State) (fn : Nat) (idx : Nat) (_t : Nat) =>
    ((fn < 64) ∧ (s.hostServed = true) ∧ (s.get PWR_STATE_CUR = 0) ∧ (s.pwr.vote = none) ∧ (s.pwr.entering = none) ∧ (doorbellCount fn ≤ idx)))
    (rs 1 0 0) 2 2048 100) ∧
  ((fun (s : State) (fn : Nat) (_idx : Nat) (_t : Nat) (_a : Option Nat) (_b : Option Nat) =>
    ((fn < 64) ∧ (s.hostServed = true)))
    (rs 1 0 0) 2 2048 100 (some 4) none) ∧
  ((fun (s : State) (fn : Nat) (_idx : Nat) (_t : Nat) (_a : Option Nat) (_b : Option Nat) =>
    ((fn < 64) ∧ (s.hostServed = false)))
    ({R with hlk := {R.hlk with perstLow := true}}) 2 8 100 (some 4) none) ∧
  ((fun (s : State) (r : Nat) (err : Nat) (b : List Nat) =>
    ((r < 32768) ∧ (s.ringState r = 1) ∧ (s.geti DRG_CTX_SQ_PI r ≠ s.geti DRG_CTX_SQ_CI r) ∧ (s.ringBme r = true) ∧ (err ≠ 0)) ∧
    ((r < 32768) ∧ (s.ringState r = 1) ∧ (s.geti DRG_CTX_SQ_PI r ≠ s.geti DRG_CTX_SQ_CI r) ∧ (s.ringBme r = true) ∧ (descBad b = false) ∧ ((parseDesc b).tag / 4096 = s.geti DRG_CTX_CTRL_GEN r)) ∧
    ((r < 32768) ∧ (s.ringState r = 1) ∧ (s.geti DRG_CTX_SQ_PI r ≠ s.geti DRG_CTX_SQ_CI r) ∧ (s.ringBme r = true) ∧ (descBad b = false) ∧ ((parseDesc b).tag / 4096 = s.geti DRG_CTX_CTRL_GEN r) ∧ (Assoc.find? (8 * s.geti DRG_CTX_BIND_ROOM r + s.geti DRG_CTX_BIND_PORT r) s.fab.portSkid = none)))
    ((rs 1 0 0).seti DRG_CTX_SQ_PI 5 3) 5 1 (dbytes 64 77)) ∧
  ((fun (s : State) (r : Nat) (_err : Nat) (b : List Nat) =>
    ((r < 32768) ∧ (s.ringState r = 1) ∧ (s.geti DRG_CTX_SQ_PI r ≠ s.geti DRG_CTX_SQ_CI r) ∧ (s.ringBme r = true) ∧ (s.flagi DRG_CTX_CTRL_FENCE_EN r = true) ∧ ((descBad b = true ∨ (parseDesc b).tag / 4096 ≠ s.geti DRG_CTX_CTRL_GEN r))))
    ((rs 1 0 0).seti DRG_CTX_SQ_PI 5 3) 5 3 (dbytes 0 77)) ∧
  ((fun (s : State) (r : Nat) (_e : Nat) (_b : List Nat) =>
    ((r < 32768) ∧ ((s.ringState r ≠ 1 ∨ s.geti DRG_CTX_SQ_PI r = s.geti DRG_CTX_SQ_CI r ∨ s.ringBme r = false))))
    (rs 1 0 0) 5 1 (dbytes 64 77)) := by
  beta_reduce; decide +kernel

-- For Obligations.RoomToHost.
theorem witness_RoomToHost :
  ((fun (s : State) (room : Nat) (port : Nat) (slot : Nat) (ws : List (Nat × Nat)) (d : Desc) (ds : List Desc) (_wd : Bool) =>
    ((fun bs => (match (s.findRing room port slot 0) with | some r => decide ((room < 24) ∧ (port < 8) ∧ (slot < 256) ∧ (s.partStopped 3 = false) ∧ (s.outOpen room port slot = true) ∧ ((slot == 255 && s.windowPort room == some port) = false) ∧ (s.portStalled room port = false) ∧ (Assoc.find? (8 * room + port) s.fab.portSkid = none) ∧ (Assoc.get false (slotKey room port slot) s.hlk.discard = false) ∧ (s.ringState r = 1) ∧ (s.geti DRG_CTX_CTRL_KIND r = 0) ∧ (s.flagi DRG_CTX_CTRL_META_EN r = false) ∧ (s.flagi DRG_CTX_CTRL_FENCE_EN r = true) ∧ ((s.ring r).cur = none) ∧ ((s.ring r).descs = d :: ds) ∧ (s.cqFull r = false) ∧ (ws ≠ []) ∧ (d.chain = false) ∧ (bs.length ≤ d.len)) | _ => false) = true) ((ws.map (s.seenWord room port)).flatMap wordBytes)))
    (rk (rs 1 0 0) kd) 3 1 7 ws3 (dsc 0x1000 64 77) [dsc 0x2000 64 78] true) ∧
  ((fun (s : State) (room : Nat) (port : Nat) (slot : Nat) (ws : List (Nat × Nat)) (d : Desc) (ds : List Desc) (_wd : Bool) =>
    ((fun bs => (match (s.findRing room port slot 0) with | some r => decide ((room < 24) ∧ (port < 8) ∧ (slot < 256) ∧ (s.partStopped 3 = false) ∧ (s.outOpen room port slot = true) ∧ ((slot == 255 && s.windowPort room == some port) = false) ∧ (s.portStalled room port = false) ∧ (Assoc.find? (8 * room + port) s.fab.portSkid = none) ∧ (Assoc.get false (slotKey room port slot) s.hlk.discard = false) ∧ (s.ringState r = 1) ∧ (s.geti DRG_CTX_CTRL_KIND r = 0) ∧ (s.flagi DRG_CTX_CTRL_META_EN r = false) ∧ (s.flagi DRG_CTX_CTRL_FENCE_EN r = true) ∧ ((s.ring r).cur = none) ∧ ((s.ring r).descs = d :: ds) ∧ (s.cqFull r = false) ∧ (ws ≠ []) ∧ (d.chain = false) ∧ (d.len < bs.length)) | _ => false) = true) ((ws.map (s.seenWord room port)).flatMap wordBytes)))
    (rk (rs 1 0 0) (dd (dsc 0x1000 6 77) [])) 3 1 7 ws3 (dsc 0x1000 6 77) [] false) ∧
  ((fun (s : State) (room : Nat) (port : Nat) (slot : Nat) (ws : List (Nat × Nat)) (d : Desc) (ds : List Desc) (_wd : Bool) =>
    ((fun bs => (match (s.findRing room port slot 0) with | some r => decide ((room < 24) ∧ (port < 8) ∧ (slot < 256) ∧ (s.partStopped 3 = false) ∧ (s.outOpen room port slot = true) ∧ ((slot == 255 && s.windowPort room == some port) = false) ∧ (s.portStalled room port = false) ∧ (Assoc.find? (8 * room + port) s.fab.portSkid = none) ∧ (Assoc.get false (slotKey room port slot) s.hlk.discard = false) ∧ (s.ringState r = 1) ∧ (s.geti DRG_CTX_CTRL_KIND r = 0) ∧ (s.flagi DRG_CTX_CTRL_META_EN r = false) ∧ (s.flagi DRG_CTX_CTRL_FENCE_EN r = true) ∧ ((s.ring r).cur = none) ∧ ((s.ring r).descs = d :: ds) ∧ (s.cqFull r = false) ∧ (ws ≠ []) ∧ (match (ds) with | d2 :: ds2 => decide ((d.chain = true) ∧ (d2.chain = false) ∧ (d.len < bs.length) ∧ (bs.length ≤ d.len + d2.len)) | _ => false) = true) | _ => false) = true) ((ws.map (s.seenWord room port)).flatMap wordBytes)))
    (rk (rs 1 0 0) (dd cch [dsc 0x2000 64 78])) 3 1 7 ws3 cch [dsc 0x2000 64 78] false) ∧
  ((fun (s : State) (room : Nat) (port : Nat) (slot : Nat) (_m : Nat × Nat) (_w : Nat × Nat) (d : Desc) (ds : List Desc) (_wd : Bool) =>
    ((match (s.findRing room port slot 0) with | some r => decide ((room < 24) ∧ (port < 8) ∧ (slot < 256) ∧ (s.partStopped 3 = false) ∧ (s.outOpen room port slot = true) ∧ ((slot == 255 && s.windowPort room == some port) = false) ∧ (s.portStalled room port = false) ∧ (Assoc.find? (8 * room + port) s.fab.portSkid = none) ∧ (Assoc.get false (slotKey room port slot) s.hlk.discard = false) ∧ (s.ringState r = 1) ∧ (s.geti DRG_CTX_CTRL_KIND r = 0) ∧ (s.flagi DRG_CTX_CTRL_META_EN r = true) ∧ (s.flagi DRG_CTX_CTRL_FENCE_EN r = true) ∧ ((s.ring r).cur = none) ∧ ((s.ring r).descs = d :: ds) ∧ (s.cqFull r = false) ∧ (d.chain = false) ∧ (16 ≤ d.len)) | _ => false) = true))
    ((rk (rs 1 0 0) kd).seti DRG_CTX_CTRL_META_EN 5 1) 3 1 7 (0x33, 0xFFFF) (0x1122334455, 0xFF0F) (dsc 0x1000 64 77) [dsc 0x2000 64 78] true) ∧
  ((fun (s : State) (room : Nat) (port : Nat) (slot : Nat) (_w : Nat × Nat) (_wd : Bool) =>
    ((room < 24) ∧ (port < 8) ∧ (slot < 256) ∧ (s.partStopped 3 = false) ∧ (s.outOpen room port slot = true) ∧ ((slot == 255 && s.windowPort room == some port) = false) ∧ (s.portStalled room port = false) ∧ (Assoc.find? (8 * room + port) s.fab.portSkid = none) ∧ (Assoc.get false (slotKey room port slot) s.hlk.discard = false) ∧ (s.findRing room port slot 0 = none)))
    (rs 1 0 0) 3 1 8 (5, 7) true) ∧
  ((fun (s : State) (room : Nat) (port : Nat) (slot : Nat) (_w : Nat × Nat) (_wd : Bool) =>
    ((room < 24) ∧ (port < 8) ∧ (slot < 256) ∧ (s.partStopped 3 = false) ∧ (s.outOpen room port slot = true) ∧ ((slot == 255 && s.windowPort room == some port) = false) ∧ (s.portStalled room port = false) ∧ (Assoc.find? (8 * room + port) s.fab.portSkid = none) ∧ (Assoc.get false (slotKey room port slot) s.hlk.discard = false) ∧ (match (s.findRing room port slot 0) with | some r => decide ((s.ringState r = 1) ∧ (s.geti DRG_CTX_CTRL_KIND r = 0) ∧ ((s.ring r).cur = none) ∧ (((s.ring r).descs = [] ∨ s.cqFull r = true)) ∧ (s.flagi DRG_CTX_CTRL_FULL_POL r = false)) | _ => false) = true))
    (rs 1 0 0) 3 1 7 (5, 7) true) ∧
  ((fun (s : State) (room : Nat) (port : Nat) (slot : Nat) (_w : Nat × Nat) (_wd : Bool) =>
    ((room < 24) ∧ (port < 8) ∧ (slot < 256) ∧ (s.partStopped 3 = false) ∧ (s.outOpen room port slot = true) ∧ ((slot == 255 && s.windowPort room == some port) = false) ∧ (s.portStalled room port = false) ∧ (Assoc.find? (8 * room + port) s.fab.portSkid = none) ∧ (Assoc.get false (slotKey room port slot) s.hlk.discard = false) ∧ (match (s.findRing room port slot 0) with | some r => decide ((s.ringState r = 1) ∧ (s.geti DRG_CTX_CTRL_KIND r = 0) ∧ ((s.ring r).cur = none) ∧ (((s.ring r).descs = [] ∨ s.cqFull r = true)) ∧ (s.flagi DRG_CTX_CTRL_FULL_POL r = true)) | _ => false) = true))
    ((rs 1 0 0).seti DRG_CTX_CTRL_FULL_POL 5 1) 3 1 7 (5, 7) true) ∧
  ((fun (s : State) (room : Nat) (port : Nat) (slot : Nat) (_w : Nat × Nat) (_wd : Bool) =>
    ((room < 24) ∧ (port < 8) ∧ (slot < 256) ∧ (s.partStopped 3 = false) ∧ (s.outOpen room port slot = true) ∧ ((slot == 255 && s.windowPort room == some port) = false) ∧ (s.portStalled room port = false) ∧ (Assoc.find? (8 * room + port) s.fab.portSkid = none) ∧ (Assoc.get false (slotKey room port slot) s.hlk.discard = false) ∧ (match (s.findRing room port slot 0) with | some r => decide ((s.ringState r ≠ 1)) | _ => false) = true))
    (rs 2 0 0) 3 1 7 (5, 7) true) ∧
  ((fun (s : State) (room : Nat) (port : Nat) (slot : Nat) (_word : Nat) (_ws : List (Nat × Nat)) (_last : Bool) (_e : Bool) (_wd : Bool) =>
    ((room < 24) ∧ (port < 8) ∧ (slot < 256) ∧ (s.partStopped 3 = true ∨ s.outOpen room port slot = false)))
    R 3 1 7 77 ws3 true true false) ∧
  ((fun (s : State) (room : Nat) (port : Nat) (slot : Nat) (_word : Nat) (ws : List (Nat × Nat)) (_last : Bool) (_e : Bool) (_wd : Bool) =>
    ((room < 24) ∧ (port < 8) ∧ (slot < 256) ∧ (s.partStopped 3 = false) ∧ (s.outOpen room port slot = true) ∧ ((slot == 255 && s.windowPort room == some port) = false) ∧ (ws ≠ []) ∧ (s.portStalled room port = true) ∧ (Assoc.find? (8 * room + port) s.fab.portSkid = none)))
    ((rk (rs 1 0 0) {RingSt.init with stalled := true})) 3 1 7 77 ws3 true true false) ∧
  ((fun (s : State) (room : Nat) (port : Nat) (slot : Nat) (word : Nat) (d : Desc) (ds : List Desc) (_wd : Bool) =>
    ((fun v => (match (s.findRing room port slot 0) with | some r => decide ((room < 24) ∧ (port < 8) ∧ (slot < 256) ∧ (s.partStopped 3 = false) ∧ (s.outOpen room port slot = true) ∧ (s.portStalled room port = false) ∧ (Assoc.find? (8 * room + port) s.fab.portSkid = none) ∧ (s.ringState r = 1) ∧ (s.geti DRG_CTX_CTRL_KIND r = 1) ∧ (s.flagi DRG_CTX_CTRL_FENCE_EN r = true) ∧ ((s.ring r).descs = d :: ds) ∧ (s.cqFull r = false) ∧ (d.chain = false) ∧ (s.dpaOk (bits v 36 0) (bits v 63 40) = true) ∧ (bits v 63 40 ≤ d.len) ∧ (s.flag HLK_STAT_HDM_COMMITTED = false) ∧ (s.dmcTakes = true) ∧ ((s.dramRead 209 (bits v 36 0) (bits v 63 40)).2.1 = none)) | _ => false) = true) ((s.seenWord room port (word, 2 ^ 16 - 1)).1)) ∧
    ((fun v => (match (s.findRing room port slot 0) with | some r => decide ((room < 24) ∧ (port < 8) ∧ (slot < 256) ∧ (s.partStopped 3 = false) ∧ (s.outOpen room port slot = true) ∧ (s.portStalled room port = false) ∧ (Assoc.find? (8 * room + port) s.fab.portSkid = none) ∧ (s.ringState r = 1) ∧ (s.geti DRG_CTX_CTRL_KIND r = 1) ∧ (s.flagi DRG_CTX_CTRL_FENCE_EN r = true) ∧ ((s.ring r).descs = d :: ds) ∧ (s.cqFull r = false) ∧ (d.chain = false) ∧ (s.dpaOk (bits v 36 0) (bits v 63 40) = true) ∧ (bits v 63 40 ≤ d.len) ∧ (s.flag HLK_STAT_HDM_COMMITTED = false) ∧ (s.dmcTakes = true) ∧ (bits v 63 40 ≠ 0)) | _ => false) = true) ((s.seenWord room port (word, 2 ^ 16 - 1)).1)))
    (dcp (rk (rs 1 0 1) kd)) 3 1 7 (100 + 2^40 * 32) (dsc 0x1000 64 77) [dsc 0x2000 64 78] true) ∧
  ((fun (s : State) (room : Nat) (port : Nat) (slot : Nat) (word : Nat) (d : Desc) (ds : List Desc) (_wd : Bool) =>
    ((fun v => (match (s.findRing room port slot 0) with | some r => decide ((room < 24) ∧ (port < 8) ∧ (slot < 256) ∧ (s.partStopped 3 = false) ∧ (s.outOpen room port slot = true) ∧ (s.portStalled room port = false) ∧ (Assoc.find? (8 * room + port) s.fab.portSkid = none) ∧ (s.ringState r = 1) ∧ (s.geti DRG_CTX_CTRL_KIND r = 1) ∧ (s.flagi DRG_CTX_CTRL_FENCE_EN r = true) ∧ ((s.ring r).descs = d :: ds) ∧ (s.cqFull r = false) ∧ (d.chain = false) ∧ (s.dpaOk (bits v 36 0) (bits v 63 40) = false)) | _ => false) = true) ((s.seenWord room port (word, 2 ^ 16 - 1)).1)))
    (dcp (rk (rs 1 0 1) kd)) 3 1 7 (2^40 * 32 + 2^36) (dsc 0x1000 64 77) [dsc 0x2000 64 78] true) := by
  beta_reduce; decide +kernel

-- For Obligations.HostToRoom.
theorem witness_HostToRoom :
  ((fun (s : State) (r : Nat) (_data : List Nat) (d : Desc) (ds : List Desc) =>
    ((r < 32768) ∧ (s.ringState r = 1) ∧ (s.geti DRG_CTX_CTRL_DIR r ≠ 0) ∧ ((s.ring r).cur = none) ∧ ((s.ring r).descs = d :: ds)))
    (rk (rs 1 1 0) kd) 5 (List.range 70) (dsc 0x1000 64 77) [dsc 0x2000 64 78]) ∧
  ((fun (s : State) (r : Nat) (_k : Nat) (_data : List Nat) =>
    ((r < 32768) ∧ ((s.ringState r ≠ 1 ∨ s.geti DRG_CTX_CTRL_DIR r = 0 ∨ (s.ring r).descs = []))))
    (rk (rs 2 1 0) kd) 5 0 (List.range 70)) ∧
  ((fun (s : State) (r : Nat) =>
    ((match ((s.ring r).cur) with | some x => decide ((r < 32768) ∧ (s.ringState r = 1) ∧ (s.geti DRG_CTX_CTRL_DIR r ≠ 0) ∧ (x.complete = true) ∧ (s.iReady (s.geti DRG_CTX_BIND_ROOM r) (s.geti DRG_CTX_BIND_PORT r) = true) ∧ (Assoc.get [] (portKey' (s.geti DRG_CTX_BIND_ROOM r) (s.geti DRG_CTX_BIND_PORT r)) s.fab.portQ = []) ∧ (s.flagi DRG_CTX_CTRL_FENCE_EN r = true)) | _ => false) = true))
    (ready (rk (rs 1 1 0) {kd with cur := some {xf with complete := true, rd := (List.range 40).map fun b => (b, false)}}) 3 1) 5) ∧
  ((fun (s : State) (r : Nat) =>
    ((match ((s.ring r).cur) with | some x => decide ((r < 32768) ∧ (s.ringState r = 1) ∧ (s.geti DRG_CTX_CTRL_DIR r ≠ 0) ∧ (x.complete = false ∨ s.iReady (s.geti DRG_CTX_BIND_ROOM r) (s.geti DRG_CTX_BIND_PORT r) = false)) | _ => false) = true))
    ((rk (rs 1 1 0) {kd with cur := some {xf with complete := true, rd := (List.range 40).map fun b => (b, false)}})) 5) ∧
  ((fun (s : State) (r : Nat) =>
    ((r < 32768) ∧ (((s.ring r).cur = none ∨ s.ringState r ≠ 1 ∨ s.geti DRG_CTX_CTRL_DIR r = 0))))
    (rs 1 0 0) 5) ∧
  ((fun (s : State) (r : Nat) (c : RingCompl) (rest : List RingCompl) =>
    ((r < 32768) ∧ (c.done = false) ∧ ((s.ring r).due = []) ∧ ((s.ring r).held = c :: rest)))
    (rk (rs 1 0 0) {kd with held := [rcp 4 false, rcp 5 false]}) 5 (rcp 4 false) [rcp 5 false]) ∧
  ((fun (s : State) (r : Nat) (c : RingCompl) (_rest : List RingCompl) =>
    ((r < 32768) ∧ (c.done = false) ∧ ((s.ring r).due = [c]) ∧ (s.cqFull r = false) ∧ (c.gen = s.geti DRG_CTX_CTRL_GEN r)))
    (rk (rs 1 0 0) {kd with due := [rcp 4 false]}) 5 (rcp 4 false) [rcp 5 false]) ∧
  ((fun (s : State) (r : Nat) =>
    ((r < 32768) ∧ ((s.ring r).due.all (fun c => c.done) = true) ∧ ((s.ring r).held.all (fun c => c.done) = true)))
    (rk (rs 1 0 0) kd) 5) ∧
  ((fun (s : State) (room : Nat) =>
    ((room < 24) ∧ (s.roomGoneClamp room = true)))
    R 3) ∧
  ((fun (s : State) (room : Nat) =>
    ((room < 24) ∧ (s.roomGoneClamp room = false)))
    (rk (rs 1 0 0) k1) 3) ∧
  ((fun (s : State) (r : Nat) (t : Nat) =>
    ((r < 32768) ∧ ((s.setNow t).irqDue r = true) ∧ (s.flagi DRG_CTX_IRQ_ARMED r = true) ∧ ((s.ring r).pending ≠ 0)))
    ((rk ((rs 1 0 0).seti DRG_CTX_IRQ_ARMED 5 1) {k1 with pending := 3, pendIrq := true, pendSince := some 4}).seti DRG_CTX_IRQ_MOD 5 1) 5 100) ∧
  ((fun (s : State) (r : Nat) (t : Nat) =>
    ((r < 32768) ∧ (s.flagi DRG_CTX_IRQ_ARMED r = false ∨ (s.ring r).pending = 0 ∨ (s.setNow t).irqDue r = false)))
    ((rk (rs 1 0 0) k1).seti DRG_CTX_IRQ_ARMED 5 0) 5 100) := by
  beta_reduce; decide +kernel

-- For Obligations.RoomWindows.
theorem witness_RoomWindows :
  ((fun (s : State) (off : Nat) (len : Nat) (_tag : Nat) (_data : List Nat) =>
    ((s.hostServed = true) ∧ (s.get PWR_STATE_CUR = 0) ∧ (s.pwr.vote = none) ∧ (s.pwr.entering = none) ∧ (len ≠ 0) ∧ (24 * 2 ^ 25 ≤ off) ∧ (off < 2 ^ 30)))
    wup (24 * 2^25 + 5) 70 3 (List.range 70)) ∧
  ((fun (s : State) (off : Nat) (len : Nat) (_tag : Nat) (_data : List Nat) =>
    ((s.hostServed = true) ∧ (s.get PWR_STATE_CUR = 0) ∧ (s.pwr.vote = none) ∧ (s.pwr.entering = none) ∧ (len ≠ 0) ∧ (2 ^ 30 ≤ off)))
    wup (2^30) 70 3 (List.range 70)) ∧
  ((fun (s : State) (off : Nat) (len : Nat) (_tag : Nat) (_data : List Nat) =>
    ((fun room => (fun rid => (s.hostServed = true) ∧ (s.get PWR_STATE_CUR = 0) ∧ (s.pwr.vote = none) ∧ (s.pwr.entering = none) ∧ (len ≠ 0) ∧ (off < 24 * 2 ^ 25) ∧ (off % 64 + len ≤ 64) ∧ (s.hlk.win = []) ∧ (match (s.winPort room) with | some p => decide ((s.iReady room p = true) ∧ (Assoc.get [] (portKey' room p) s.fab.portQ = [])) | _ => false) = true) (s.hlk.ridNext % 256)) (off / 2 ^ 25)))
    wrdy (3 * 2^25 + 64) 33 3 (List.range 70)) ∧
  ((fun (s : State) (off : Nat) (len : Nat) (_tag : Nat) (_data : List Nat) =>
    ((fun room => (fun rid => (s.hostServed = true) ∧ (s.get PWR_STATE_CUR = 0) ∧ (s.pwr.vote = none) ∧ (s.pwr.entering = none) ∧ (len ≠ 0) ∧ (off < 24 * 2 ^ 25) ∧ (off % 64 + len ≤ 64) ∧ (s.hlk.win = []) ∧ (s.winPort room = none)) (s.hlk.ridNext % 256)) (off / 2 ^ 25)))
    R (3 * 2^25 + 64) 33 3 (List.range 70)) ∧
  ((fun (s : State) (off : Nat) (len : Nat) (_tag : Nat) (_data : List Nat) =>
    ((fun room => (fun rid => (s.hostServed = true) ∧ (s.get PWR_STATE_CUR = 0) ∧ (s.pwr.vote = none) ∧ (s.pwr.entering = none) ∧ (len ≠ 0) ∧ (off < 24 * 2 ^ 25) ∧ (off % 64 + len ≤ 64) ∧ (s.hlk.win = []) ∧ (match (s.winPort room) with | some p => decide ((s.iReady room p = false)) | _ => false) = true) (s.hlk.ridNext % 256)) (off / 2 ^ 25)))
    wup (3 * 2^25 + 64) 33 3 (List.range 70)) ∧
  ((fun (s : State) (_off : Nat) (len : Nat) (_tag : Nat) (_rd : Bool) (_data : List Nat) =>
    ((s.hostServed = true) ∧ (len ≠ 0)))
    R (3 * 2^25 + 64) 33 3 true (List.range 70)) ∧
  ((fun (s : State) (_off : Nat) (len : Nat) (_tag : Nat) (_rd : Bool) (_data : List Nat) =>
    (s.hostServed = false ∨ len = 0))
    R (3 * 2^25 + 64) 0 3 true (List.range 70)) ∧
  ((fun (s : State) (p : WinPiece) (t : Nat) (_data : List Nat) =>
    ((match (s.winPort p.room) with | some port => decide ((p.room < 24) ∧ (s.hlk.win = [p]) ∧ (p.read = true) ∧ (p.sent = true) ∧ (p.answer = none) ∧ (p.rid < 256)) | _ => false) = true) ∧
    ((match (s.winPort p.room) with | some port => decide ((p.room < 24) ∧ (s.hlk.win = [p]) ∧ (p.read = true) ∧ (p.sent = true) ∧ (p.answer = none) ∧ (p.rid < 256) ∧ (timeGe t (p.at_ + s.winTmo) = true)) | _ => false) = true))
    (withWin wup) wp (2^40) (List.range 20)) ∧
  ((fun (s : State) (p : WinPiece) (t : Nat) (_data : List Nat) =>
    ((match (s.winPort p.room) with | some port => decide ((p.room < 24) ∧ (s.hlk.win = [p]) ∧ (p.read = true) ∧ (p.sent = true) ∧ (p.answer = none) ∧ (p.rid < 256) ∧ (timeGe t (p.at_ + s.winTmo) = false)) | _ => false) = true))
    (withWin wup) wp 100 (List.range 20)) ∧
  ((fun (s : State) (room : Nat) (_rid : Nat) (_t : Nat) (_data : List Nat) =>
    ((room < 24) ∧ (s.winPort room = none)) ∧
    ((room < 24) ∧ (s.hlk.win = [])))
    R 3 4 7 []) := by
  beta_reduce; decide +kernel

end C05

/-! ### Witnesses: Ingest -/

namespace C06

def dmc (s : State) : State := { s with pwr := s.pwr }
def lane (s : State) (k pcs mul : Nat) : State := (s.seti ING_LANE_CTRL_PCS k pcs).seti ING_LANE_CTRL_MUL k mul
def lk (s : State) (k : Nat) : State := (((lane s k 1 64).seti ING_LANE_CTRL_RX_EN k 1).seti ING_LANE_STAT_CDR_LOCK k 1).seti ING_LANE_STAT_WORD_LOCK k 1
def las0 (s : State) (j : Nat) : State := (((((((s.seti LAS_PIX_IN_W j 8).seti LAS_PIX_IN_C j 8).seti LAS_PIX_OUT_C j 8).seti LAS_LINE_LINE_PIX j 16).seti LAS_CTRL_TGT j 2).seti LAS_CTRL_ROOM j 3).seti LAS_HDR_HDR_LEN j 8).seti LAS_CTRL_FIRST j 4
def lasE (s : State) (j : Nat) : State := (((las0 s j).seti LAS_CTRL_EN j 1).seti LAS_STAT_ACTIVE j 1).seti LAS_STAT_ALIGNED j 1
def wl (s : State) (j : Nat) (f : LasSt → LasSt) : State := s.setLas j (f (s.las j))
def te : TrigEnt := ⟨5, 9, true, 50, false, 0⟩
def ln : LineSt := ⟨9, 0, false, false, false, false, false, false, 16, 16, (List.range 16).map fun i => (i, i + 1), false, 0, false, 0⟩
def two (s : State) (j : Nat) : State := ((s.seti LAS_CTRL_NLANES j 1))
def tickAt (s : State) (n : Nat) : State := { s with tick := { s.tick with tickOpen := true, firstDue := false, opened := n, prior := none } }
def pk := List.range 24
def side (n : Nat) : State := (lasE R 2).seti LAS_STAT_KMI_SIDE 2 n
def ll (s : State) (k : Nat) (f : LaneSt → LaneSt) : State := s.setLane k (f (s.lane k))
def nolock (s : State) (k : Nat) : State := s.seti ING_LANE_STAT_WORD_LOCK k 0
def pcs (s : State) (k n : Nat) : State := s.seti ING_LANE_CTRL_PCS k n
def cw : Nat := (enc10 false true 0xBC).1 * 2^10
def mkw : Nat := (enc10 false true 0x7C).1
def raw : State := lk (lasE R 2) 4
def rawS (s : State) : State := s.seti ING_LANE_SYNC 4 0x12345678
def wsx : List Nat := [0x11223344, 5, 7, 0xFFFFFFFF, 9, 3]
def pk4 : List Nat := wsx.flatMap (leBytes 4)
def b2 (s : State) : State := lk (lk (two s 2) 4) 5
def txs : State := ((((side 1).seti ING_LANE_CTRL_TX_EN 4 1).seti ING_LANE_CTRL_MUL 4 64))
def tlp : Nat := 16 * (2/8) + 4
def blk0 : State := (tickAt (lasE R 2) 10).seti LAS_CTRL_TGT 2 0
def bl (l : LineSt) : State := wl (blk0.seti LAS_TGT_BLK_CNT 2 1) 2 (fun k => {k with buf := [l]})
def opn (l : LineSt) : State := wl (blk0.seti LAS_TGT_BLK_CNT 2 1) 2 (fun k => {k with cur := some l})
def cf : LaneCfg := ⟨4, 5, 0, false, true, 64⟩
def recS : State := (((lasE R 2).seti ING_LANE_CTRL_TX_EN 4 1).seti ING_LANE_CTRL_MUL 4 64).recWrite 2 768 6 |>.recWrite 2 769 0x04030201 |>.recWrite 2 770 0x0605

-- For Obligations.LanesAndLineAssemblers.
theorem witness_SensorLanes :
  ((fun (_s : State) (k : Nat) (_rx : Bool) (_tx : Bool) =>
    (k < 32))
    (lane R 5 1 64) 5 true false) ∧
  ((fun (s : State) (k : Nat) =>
    ((k < 32) ∧ (s.flagi ING_LANE_CTRL_RX_EN k = true) ∧ (s.domOn (28 + k / 16) = true)))
    ((lane R 5 1 64).seti ING_LANE_CTRL_RX_EN 5 1) 5) ∧
  ((fun (s : State) (k : Nat) =>
    ((k < 32) ∧ (s.flagi ING_LANE_CTRL_RX_EN k = false ∨ s.domOn (28 + k / 16) = false)))
    R 20) ∧
  ((fun (s : State) (k : Nat) (w : Nat) =>
    ((fun l => (k < 32) ∧ (s.flagi ING_LANE_CTRL_LOOP k = false) ∧ ((s.lane k).rxQ = []) ∧ (s.flagi ING_LANE_STAT_CDR_LOCK k = true) ∧ (s.flagi ING_LANE_STAT_WORD_LOCK k = false) ∧ (1 ≤ s.geti ING_LANE_CTRL_PCS k) ∧ (s.geti ING_LANE_CTRL_PCS k ≤ 4)) (lockStep (s.laneCfg k) (s.lane k) (polar (s.flagi ING_LANE_CTRL_RX_INV k) (s.geti ING_LANE_CTRL_PCS k) w))))
    (nolock (lk R 5) 5) 5 7) ∧
  ((fun (s : State) (k : Nat) (w : Nat) =>
    ((fun l => (k < 32) ∧ (s.flagi ING_LANE_CTRL_LOOP k = false) ∧ ((s.lane k).rxQ = []) ∧ (s.flagi ING_LANE_STAT_CDR_LOCK k = false ∨ s.geti ING_LANE_CTRL_PCS k = 0 ∨ 4 < s.geti ING_LANE_CTRL_PCS k)) (lockStep (s.laneCfg k) (s.lane k) (polar (s.flagi ING_LANE_CTRL_RX_INV k) (s.geti ING_LANE_CTRL_PCS k) w))))
    (pcs (nolock raw 4) 4 0) 4 cw) ∧
  ((fun (rx : LaneRx) (_s : State) =>
    (rx.lane < 32))
    (⟨4, [cw, cw]⟩) (pcs (nolock raw 4) 4 3)) ∧
  ((fun (c : LaneCfg) (_l : LaneSt) (_w : Nat) =>
    (c.pcs = 4))
    cf {LaneSt.init with good := 63} 1) ∧
  ((fun (c : LaneCfg) (_l : LaneSt) (_w : Nat) =>
    (c.pcs = 3))
    {cf with pcs := 3} {LaneSt.init with good := 63} cw) ∧
  ((fun (c : LaneCfg) (_l : LaneSt) (_w : Nat) =>
    (c.pcs = 1))
    {cf with pcs := 1} {LaneSt.init with cand := [(4, 8)]} (5 * 2^4)) ∧
  ((fun (s : State) (k : Nat) (w : Nat) =>
    ((fun x => (k < 32) ∧ (s.ing.las.length = 16) ∧ (s.flagi ING_LANE_CTRL_LOOP k = false) ∧ ((s.lane k).rxQ = []) ∧ (s.flagi ING_LANE_STAT_CDR_LOCK k = true) ∧ (s.flagi ING_LANE_STAT_WORD_LOCK k = true) ∧ (1 ≤ s.geti ING_LANE_CTRL_PCS k) ∧ (s.geti ING_LANE_CTRL_PCS k ≤ 4) ∧ (x.lost = false) ∧ (s.laneOwner k = none)) (lockedStep (s.laneCfg k) (s.lane k) (polar (s.flagi ING_LANE_CTRL_RX_INV k) (s.geti ING_LANE_CTRL_PCS k) w))) ∧
    ((fun x => (k < 32) ∧ (s.ing.las.length = 16) ∧ (s.flagi ING_LANE_CTRL_LOOP k = false) ∧ ((s.lane k).rxQ = []) ∧ (s.flagi ING_LANE_STAT_CDR_LOCK k = true) ∧ (s.flagi ING_LANE_STAT_WORD_LOCK k = true) ∧ (1 ≤ s.geti ING_LANE_CTRL_PCS k) ∧ (s.geti ING_LANE_CTRL_PCS k ≤ 4)) (lockedStep (s.laneCfg k) (s.lane k) (polar (s.flagi ING_LANE_CTRL_RX_INV k) (s.geti ING_LANE_CTRL_PCS k) w))))
    (lk R 4) 4 100) ∧
  ((fun (s : State) (k : Nat) (w : Nat) =>
    ((fun x => (k < 32) ∧ (s.ing.las.length = 16) ∧ (s.flagi ING_LANE_CTRL_LOOP k = false) ∧ ((s.lane k).rxQ = []) ∧ (s.flagi ING_LANE_STAT_CDR_LOCK k = true) ∧ (s.flagi ING_LANE_STAT_WORD_LOCK k = true) ∧ (1 ≤ s.geti ING_LANE_CTRL_PCS k) ∧ (s.geti ING_LANE_CTRL_PCS k ≤ 4) ∧ (x.lost = true)) (lockedStep (s.laneCfg k) (s.lane k) (polar (s.flagi ING_LANE_CTRL_RX_INV k) (s.geti ING_LANE_CTRL_PCS k) w))))
    (ll (wl raw 2 (fun k => {k with cur := some ln, marks := [(0,4)]})) 4 (fun l => {l with noSync := 65535})) 4 100) ∧
  ((fun (rx : LaneRx) (_s : State) =>
    (rx.lane < 32))
    (⟨4, [cw, cw]⟩) (pcs raw 4 3)) ∧
  ((fun (c : LaneCfg) (_l : LaneSt) (_w : Nat) =>
    (c.pcs = 4))
    cf {LaneSt.init with win := 15} 4) ∧
  ((fun (c : LaneCfg) (l : LaneSt) (w : Nat) =>
    ((c.pcs = 1 ∨ c.pcs = 2) ∧ ((lockedStep c l w).lost = true)))
    {cf with pcs := 1} {LaneSt.init with noSync := 65535} 1) := by
  beta_reduce; decide +kernel

-- For Obligations.LanesAndLineAssemblers.
theorem witness_LineAssemblers :
  ((fun (s : State) (j : Nat) (t : Nat) =>
    ((j < 16) ∧ (s.ing.las.length = 16) ∧ (s.flagi LAS_CTRL_EN j = false) ∧ ((s.setNow t).lasEnOk j = true)))
    (las0 R 2) 2 100) ∧
  ((fun (s : State) (j : Nat) (t : Nat) =>
    ((j < 16) ∧ (s.ing.las.length = 16) ∧ (s.flagi LAS_CTRL_EN j = false) ∧ ((s.setNow t).lasEnOk j = false)))
    ((las0 R 2).seti LAS_CTRL_TGT 2 3) 2 100) ∧
  ((fun (s : State) (j : Nat) (_t : Nat) =>
    ((j < 16) ∧ (s.ing.las.length = 16) ∧ (s.flagi LAS_CTRL_EN j = true)))
    (lasE R 2) 2 100) ∧
  ((fun (s : State) (j : Nat) (lane : Nat) (w0 : Nat) (m : MarkRx) =>
    ((fun dev => (j < 16) ∧ (s.ing.las.length = 16) ∧ (s.flagi LAS_CTRL_EN j = true) ∧ (s.lasLanes j = 2) ∧ (lane < 2) ∧ (((s.rxWord dev m.word).2.head? = some .marker ∨ (s.rxWord dev m.word).2.head? = some .sync)) ∧ ((s.las j).marks = [(1 - lane, w0)]) ∧ (s.flagi ING_LANE_STAT_WORD_LOCK (16 * (j / 8) + s.geti LAS_CTRL_FIRST j) = true) ∧ (s.flagi ING_LANE_STAT_WORD_LOCK (16 * (j / 8) + s.geti LAS_CTRL_FIRST j + 1) = true) ∧ (max w0 m.index - min w0 m.index ≤ 48)) (16 * (j / 8) + s.geti LAS_CTRL_FIRST j + lane)))
    (wl (pcs (pcs (b2 (lasE R 2)) 4 3) 5 3) 2 (fun k => {k with cur := some ln, marks := [(0,4)]})) 2 1 4 (⟨30, mkw⟩)) ∧
  ((fun (s : State) (j : Nat) (lane : Nat) (w0 : Nat) (m : MarkRx) =>
    ((fun dev => (j < 16) ∧ (s.ing.las.length = 16) ∧ (s.flagi LAS_CTRL_EN j = true) ∧ (s.lasLanes j = 2) ∧ (lane < 2) ∧ (((s.rxWord dev m.word).2.head? = some .marker ∨ (s.rxWord dev m.word).2.head? = some .sync)) ∧ ((s.las j).marks = [(1 - lane, w0)]) ∧ (s.flagi ING_LANE_STAT_WORD_LOCK (16 * (j / 8) + s.geti LAS_CTRL_FIRST j) = true) ∧ (s.flagi ING_LANE_STAT_WORD_LOCK (16 * (j / 8) + s.geti LAS_CTRL_FIRST j + 1) = true) ∧ (48 < max w0 m.index - min w0 m.index) ∧ (s.flagi LAS_STAT_ALIGNED j = true)) (16 * (j / 8) + s.geti LAS_CTRL_FIRST j + lane)))
    (wl (pcs (pcs (b2 (lasE R 2)) 4 3) 5 3) 2 (fun k => {k with cur := some ln, marks := [(0,4)]})) 2 1 4 (⟨90, mkw⟩)) ∧
  ((fun (s : State) (j : Nat) (lane : Nat) (_w0 : Nat) (m : MarkRx) =>
    ((fun dev => (j < 16) ∧ (s.ing.las.length = 16) ∧ (s.flagi LAS_CTRL_EN j = true) ∧ (s.lasLanes j = 2) ∧ (lane < 2) ∧ (((s.rxWord dev m.word).2.head? = some .marker ∨ (s.rxWord dev m.word).2.head? = some .sync)) ∧ ((s.las j).marks = [])) (16 * (j / 8) + s.geti LAS_CTRL_FIRST j + lane)))
    ((pcs (pcs (b2 (lasE R 2)) 4 3) 5 3)) 2 1 4 (⟨90, mkw⟩)) ∧
  ((fun (s : State) (j : Nat) (lane : Nat) (m : MarkRx) =>
    ((j < 16) ∧ (lane < 16) ∧ (s.flagi LAS_CTRL_EN j = true) ∧ (1 < s.lasLanes j) ∧ (lane < s.lasLanes j) ∧ ((s.rxWord (16 * (j / 8) + s.geti LAS_CTRL_FIRST j + lane) m.word).2.head? ≠ some .marker) ∧ ((s.rxWord (16 * (j / 8) + s.geti LAS_CTRL_FIRST j + lane) m.word).2.head? ≠ some .sync)))
    (two (lasE R 2) 2) 2 1 (⟨5, mkw⟩)) ∧
  ((fun (s : State) (j : Nat) (lane : Nat) (_m : MarkRx) =>
    ((j < 16) ∧ (lane < 16) ∧ (s.flagi LAS_CTRL_EN j = false ∨ s.lasLanes j = 1 ∨ s.lasLanes j ≤ lane)))
    (lasE R 2) 2 1 (⟨5, mkw⟩)) := by
  beta_reduce; decide +kernel

-- For Obligations.SensorPackets.
theorem witness_SensorPackets :
  ((fun (s : State) (j : Nat) (_t : Nat) (_tEnd : Nat) (_lanes : List (List Nat)) =>
    ((j < 16) ∧ (s.flagi LAS_CTRL_EN j = true) ∧ (s.domOn (28 + j / 8) = true)))
    raw 2 100 200 ([[1,2,3]])) ∧
  ((fun (s : State) (j : Nat) (_t : Nat) (_tEnd : Nat) (_lanes : List (List Nat)) =>
    ((j < 16) ∧ (s.flagi LAS_CTRL_EN j = false ∨ s.domOn (28 + j / 8) = false)))
    R 2 100 200 ([[1,2,3]])) ∧
  ((fun (s : State) (j : Nat) (k : Nat) (_t : Nat) (_tEnd : Nat) (ws : List Nat) =>
    ((fun n => (fun b => (RawReady s j k) ∧ (0 < n) ∧ (n ≤ 4 * ws.length) ∧ (4 * ws.length < n + 4) ∧ (ws.length < 65536) ∧ (s.flagi LAS_CTRL_CRC j = true) ∧ ((n < 4 ∨ crc32 (b.take (n - 4)) ≠ leField b (n - 4) 4))) ((ws.flatMap (leBytes 4)).take n)) (s.geti LAS_HDR_HDR_LEN j + s.lineBytes j)))
    (rawS (raw.seti LAS_CTRL_CRC 2 1)) 2 4 100 200 wsx) ∧
  ((fun (s : State) (j : Nat) (k : Nat) (_t : Nat) (_tEnd : Nat) (ws : List Nat) =>
    ((fun n => (fun b => (RawReady s j k) ∧ (0 < n) ∧ (n ≤ 4 * ws.length) ∧ (4 * ws.length < n + 4) ∧ (ws.length < 65536) ∧ (s.flagi LAS_CTRL_CRC j = false) ∧ (s.geti LAS_MASK_LO_MASK j = 0) ∧ (s.geti LAS_MASK_HI_MASK j = 0) ∧ (8 ≤ n) ∧ ((s.las j).cur = none) ∧ (s.flagi LAS_HDR_POS_EN j = false) ∧ (s.geti LAS_HDR_ID_W j = 0) ∧ ((s.las j).held + s.lineBytes j ≤ 131072) ∧ (0 < s.lineBytes j) ∧ ((s.las j).queue = [])) ((ws.flatMap (leBytes 4)).take n)) (s.geti LAS_HDR_HDR_LEN j + s.lineBytes j)))
    (rawS raw) 2 4 100 200 wsx) ∧
  ((fun (s : State) (j : Nat) (k : Nat) (t : Nat) (_tEnd : Nat) (ws : List Nat) =>
    ((fun n => (fun b => (RawReady s j k) ∧ (0 < n) ∧ (n ≤ 4 * ws.length) ∧ (4 * ws.length < n + 4) ∧ (ws.length < 65536) ∧ (s.flagi LAS_CTRL_CRC j = false) ∧ (s.geti LAS_MASK_LO_MASK j = 0) ∧ (s.geti LAS_MASK_HI_MASK j = 0) ∧ (8 ≤ n) ∧ ((s.las j).cur = none) ∧ (s.flagi LAS_HDR_POS_EN j = false) ∧ (s.geti LAS_HDR_ID_W j = 0) ∧ ((s.las j).held + s.lineBytes j ≤ 131072) ∧ (0 < s.lineBytes j) ∧ (match ((s.las j).queue) with | [e] => decide ((timeGe t (e.rise + nsUnits (s.geti LAS_TLAT_LAT_MIN_NS j)) = true) ∧ (e.missing = false) ∧ (s.fillWindow j e.tick ≠ 2)) | _ => false) = true) ((ws.flatMap (leBytes 4)).take n)) (s.geti LAS_HDR_HDR_LEN j + s.lineBytes j)))
    (wl (rawS raw) 2 (fun k => {k with queue := [te]})) 2 4 3000000 3000100 wsx) ∧
  ((fun (s : State) (j : Nat) (k : Nat) (_t : Nat) (_tEnd : Nat) (ws : List Nat) =>
    ((fun n => (fun b => (RawReady s j k) ∧ (0 < n) ∧ (n ≤ 4 * ws.length) ∧ (4 * ws.length < n + 4) ∧ (ws.length < 65536) ∧ (s.flagi LAS_CTRL_CRC j = false) ∧ (n < 8) ∧ (s.geti LAS_STAT_KMI_SIDE j = 1) ∧ ((s.las j).kmiBuf = [])) ((ws.flatMap (leBytes 4)).take n)) (s.geti LAS_HDR_HDR_LEN j + s.lineBytes j)))
    ((rawS (((lk (side 1) 4).seti LAS_LINE_LINE_PIX 2 3).seti LAS_HDR_HDR_LEN 2 2))) 2 4 100 200 [0x04030201, 0x0605]) ∧
  ((fun (_s : State) (_j : Nat) (p : PktSt) =>
    (p.bad = true))
    raw 2 (⟨[1,2], true, 7⟩)) ∧
  ((fun (s : State) (j : Nat) (_t : Nat) (b : List Nat) =>
    ((fun d => (fun n => (match ((s.las j).cur) with | some l => decide ((j < 16) ∧ (s.ing.las.length = 16) ∧ (131072 < (s.las j).held + d.length)) | _ => false) = true) (beNat (sliceBytes b (s.geti LAS_HDR_POS_OFS j) 4))) (b.drop (s.geti LAS_HDR_HDR_LEN j))))
    (wl raw 2 (fun k => {k with cur := some {ln with bytes := 131080}})) 2 100 pk4) ∧
  ((fun (s : State) (j : Nat) (_t : Nat) (b : List Nat) =>
    ((fun d => (fun n => (match ((s.las j).cur) with | some l => decide ((j < 16) ∧ (s.ing.las.length = 16) ∧ ((s.las j).held + d.length ≤ 131072) ∧ (s.geti LAS_HDR_ID_W j = 0) ∧ (l.camId = 0) ∧ (l.orphan = false) ∧ (s.flagi LAS_HDR_POS_EN j = true) ∧ (s.flagi LAS_HDR_POS_BE j = true) ∧ (n ≠ 0) ∧ (n = l.pos) ∧ (n + d.length < s.lineBytes j)) | _ => false) = true) (beNat (sliceBytes b (s.geti LAS_HDR_POS_OFS j) 4))) (b.drop (s.geti LAS_HDR_HDR_LEN j))))
    (wl (((raw.seti LAS_HDR_POS_EN 2 1).seti LAS_HDR_POS_BE 2 1).seti LAS_LINE_LINE_PIX 2 200) 2 (fun k => {k with cur := some ln})) 2 100 ([0,0,0,16] ++ List.range 20)) ∧
  ((fun (s : State) (j : Nat) (_t : Nat) (b : List Nat) =>
    ((fun d => (fun n => (match ((s.las j).cur) with | some l => decide ((j < 16) ∧ (s.ing.las.length = 16) ∧ ((s.las j).held + d.length ≤ 131072) ∧ (s.geti LAS_HDR_ID_W j = 0) ∧ (l.camId = 0) ∧ (l.orphan = false) ∧ (s.flagi LAS_HDR_POS_EN j = true) ∧ (s.flagi LAS_HDR_POS_BE j = true) ∧ (n ≠ 0) ∧ (l.pos < n) ∧ (n + d.length < s.lineBytes j)) | _ => false) = true) (beNat (sliceBytes b (s.geti LAS_HDR_POS_OFS j) 4))) (b.drop (s.geti LAS_HDR_HDR_LEN j))))
    (wl (((raw.seti LAS_HDR_POS_EN 2 1).seti LAS_HDR_POS_BE 2 1).seti LAS_LINE_LINE_PIX 2 200) 2 (fun k => {k with cur := some ln})) 2 100 ([0,0,0,36] ++ List.range 20)) ∧
  ((fun (s : State) (j : Nat) (_t : Nat) (b : List Nat) =>
    ((fun d => (fun n => (match ((s.las j).cur) with | some l => decide ((j < 16) ∧ (s.ing.las.length = 16) ∧ ((s.las j).held + d.length ≤ 131072) ∧ (s.geti LAS_HDR_ID_W j = 0) ∧ (l.camId = 0) ∧ (l.orphan = false) ∧ (s.flagi LAS_HDR_POS_EN j = true) ∧ (s.flagi LAS_HDR_POS_BE j = true) ∧ (n ≠ 0) ∧ (n < l.pos)) | _ => false) = true) (beNat (sliceBytes b (s.geti LAS_HDR_POS_OFS j) 4))) (b.drop (s.geti LAS_HDR_HDR_LEN j))))
    (wl (((raw.seti LAS_HDR_POS_EN 2 1).seti LAS_HDR_POS_BE 2 1).seti LAS_LINE_LINE_PIX 2 200) 2 (fun k => {k with cur := some ln})) 2 100 ([0,0,0,6] ++ List.range 20)) := by
  beta_reduce; decide +kernel

-- For Obligations.LineDeliveryAndSidePackets.
theorem witness_LineDelivery :
  ((fun (s : State) (j : Nat) =>
    ((j < 16) ∧ (s.ing.las.length = 16) ∧ (s.recAvail j = true)))
    (lasE (roomUp R 3) 2) 2) ∧
  ((fun (s : State) (j : Nat) =>
    ((j < 16) ∧ (s.ing.las.length = 16) ∧ (s.recAvail j = false)))
    R 2) ∧
  ((fun (s : State) (j : Nat) (p : List Nat) (rest : List (List Nat)) =>
    ((fun lane => (j < 16) ∧ (s.ing.las.length = 16) ∧ (s.flagi LAS_CTRL_EN j = true) ∧ (s.lasBond j = [lane]) ∧ (s.flagi ING_LANE_CTRL_TX_EN lane = true) ∧ (s.pcsOn lane = true) ∧ (s.flagi ING_LANE_CTRL_LOOP lane = false) ∧ (s.recAvail j = false) ∧ ((s.las j).kmiTx = p :: rest)) (16 * (j / 8) + (s.geti LAS_CTRL_FIRST j + s.geti LAS_CTRL_TX_LANE j))) ∧
    ((fun lane => (j < 16) ∧ (s.ing.las.length = 16) ∧ (s.geti ING_LANE_CTRL_PCS lane = 1) ∧ (s.flagi LAS_CTRL_TX_CRC j = false)) (16 * (j / 8) + (s.geti LAS_CTRL_FIRST j + s.geti LAS_CTRL_TX_LANE j))) ∧
    ((fun lane => (j < 16) ∧ (s.ing.las.length = 16) ∧ (s.geti ING_LANE_CTRL_PCS lane = 1) ∧ (s.flagi LAS_CTRL_TX_CRC j = false) ∧ (p.all (fun x => decide (x < 256)) = true)) (16 * (j / 8) + (s.geti LAS_CTRL_FIRST j + s.geti LAS_CTRL_TX_LANE j))))
    (wl (pcs txs 4 1) 2 (fun k => {k with kmiTx := [[1,2,3],[4]]})) 2 [1,2,3] ([[4]])) ∧
  ((fun (s : State) (j : Nat) (_p : List Nat) (_rest : List (List Nat)) =>
    ((fun lane => (j < 16) ∧ (s.ing.las.length = 16) ∧ (s.geti ING_LANE_CTRL_PCS lane = 3) ∧ (s.flagi LAS_CTRL_TX_CRC j = true)) (16 * (j / 8) + (s.geti LAS_CTRL_FIRST j + s.geti LAS_CTRL_TX_LANE j))))
    (wl ((pcs txs 4 3).seti LAS_CTRL_TX_CRC 2 1) 2 (fun k => {k with kmiTx := [[1,2,3],[4]]})) 2 [1,2,3] ([[4]])) ∧
  ((fun (s : State) (j : Nat) (_p : List Nat) (_rest : List (List Nat)) =>
    ((fun lane => (j < 16) ∧ (s.ing.las.length = 16) ∧ (s.geti ING_LANE_CTRL_PCS lane = 4) ∧ (s.flagi LAS_CTRL_TX_CRC j = false)) (16 * (j / 8) + (s.geti LAS_CTRL_FIRST j + s.geti LAS_CTRL_TX_LANE j))))
    (wl (pcs txs 4 4) 2 (fun k => {k with kmiTx := [[1,2,3],[4]]})) 2 [1,2,3] ([[4]])) ∧
  ((fun (s : State) (j : Nat) (p : List Nat) (_rest : List (List Nat)) =>
    ((fun lane => (j < 16) ∧ (s.ing.las.length = 16) ∧ (s.flagi LAS_CTRL_EN j = true) ∧ (s.lasBond j = [lane]) ∧ (s.flagi ING_LANE_CTRL_TX_EN lane = true) ∧ (s.pcsOn lane = true) ∧ (s.flagi ING_LANE_CTRL_LOOP lane = false) ∧ (s.recAvail j = true) ∧ ((s.las j).txRd < 252) ∧ ((s.las j).txRd ≠ (s.las j).txWr) ∧ (s.recRead j (768 + (s.las j).txRd) % 65536 = p.length) ∧ (p = ((List.range (ceilDiv p.length 4)).flatMap (fun i => leBytes 4 (s.recRead j (768 + ((s.las j).txRd + (1 + i)) % 252)))).take p.length)) (16 * (j / 8) + (s.geti LAS_CTRL_FIRST j + s.geti LAS_CTRL_TX_LANE j))))
    (wl (pcs recS 4 1) 2 (fun k => {k with txWr := 3})) 2 [1,2,3,4,5,6] []) ∧
  ((fun (s : State) (j : Nat) (_p : List Nat) (_rest : List (List Nat)) =>
    ((fun lane => (j < 16) ∧ (s.ing.las.length = 16) ∧ (s.flagi LAS_CTRL_EN j = false ∨ s.lasLanes j ≤ s.geti LAS_CTRL_TX_LANE j ∨ s.flagi ING_LANE_CTRL_TX_EN lane = false ∨ s.pcsOn lane = false ∨ (s.recAvail j = true ∧ (s.las j).txRd = (s.las j).txWr) ∨ (s.recAvail j = false ∧ (s.las j).kmiTx = []))) (16 * (j / 8) + (s.geti LAS_CTRL_FIRST j + s.geti LAS_CTRL_TX_LANE j))))
    (pcs recS 4 1) 2 [1,2,3,4,5,6] []) ∧
  ((fun (s : State) (j : Nat) (_n : Nat) =>
    ((j < 16) ∧ (s.flagi LAS_CTRL_EN j = false)))
    R 2 4) ∧
  ((fun (s : State) (j : Nat) (_n : Nat) =>
    ((j < 16) ∧ (s.flagi LAS_CTRL_EN j = true)))
    (bl ln) 2 4) ∧
  ((fun (s : State) (j : Nat) (_n : Nat) (l : LineSt) =>
    ((j < 16) ∧ (s.ing.las.length = 16) ∧ (s.flagi LAS_CTRL_EN j = true) ∧ (s.fillTurn j = j) ∧ ((s.las j).buf = [l]) ∧ (l.orphan = false) ∧ (l.late = false) ∧ (l.short = false) ∧ (s.geti LAS_CTRL_TGT j = 2)))
    (wl (lasE R 2) 2 (fun k => {k with buf := [ln]})) 2 3 ln) ∧
  ((fun (s : State) (j : Nat) (_n : Nat) (l : LineSt) =>
    ((j < 16) ∧ (s.ing.las.length = 16) ∧ (s.flagi LAS_CTRL_EN j = true) ∧ (s.fillTurn j = j) ∧ ((s.las j).buf = [l]) ∧ (l.orphan = true) ∧ (s.flagi LAS_CTRL_SPILL_EN j = false)))
    (wl (lasE R 2) 2 (fun k => {k with buf := [{ln with orphan := true}]})) 2 3 {ln with orphan := true}) ∧
  ((fun (s : State) (j : Nat) (_n : Nat) (l : LineSt) =>
    ((j < 16) ∧ (s.ing.las.length = 16) ∧ (s.flagi LAS_CTRL_EN j = true) ∧ (s.fillTurn j = j) ∧ ((s.las j).buf = [l]) ∧ (l.orphan = true) ∧ (s.flagi LAS_CTRL_SPILL_EN j = true)))
    (wl ((lasE R 2).seti LAS_CTRL_SPILL_EN 2 1) 2 (fun k => {k with buf := [{ln with orphan := true}]})) 2 3 {ln with orphan := true}) ∧
  ((fun (s : State) (j : Nat) (n : Nat) (l : LineSt) =>
    ((j < 16) ∧ (s.ing.las.length = 16) ∧ (s.flagi LAS_CTRL_EN j = true) ∧ (s.fillTurn j = j) ∧ ((s.las j).buf = [l]) ∧ (l.short = false) ∧ (s.lineAction j l = 1) ∧ (s.geti LAS_CTRL_TGT j ≠ 2) ∧ (s.fillRows j ≤ l.rows + n)))
    (bl ln) 2 200 ln) ∧
  ((fun (s : State) (j : Nat) (n : Nat) (l : LineSt) =>
    ((j < 16) ∧ (s.ing.las.length = 16) ∧ (s.flagi LAS_CTRL_EN j = true) ∧ (s.fillTurn j = j) ∧ ((s.las j).buf = [l]) ∧ (s.lineAction j l = 1) ∧ (s.geti LAS_CTRL_TGT j ≠ 2) ∧ (l.rows + n < s.fillRows j) ∧ (s.flagi LAS_CTRL_SPILL_EN j = false)))
    (bl ln) 2 1 ln) ∧
  ((fun (s : State) (j : Nat) (_n : Nat) (l : LineSt) =>
    ((j < 16) ∧ (s.ing.las.length = 16) ∧ (s.flagi LAS_CTRL_EN j = true) ∧ (s.fillTurn j = j) ∧ ((s.las j).buf = [l]) ∧ (s.lineAction j l = 0) ∧ ((s.las j).cur = none)))
    (wl (((tickAt (lasE R 2) 8).seti LAS_CTRL_TGT 2 0).seti LAS_TGT_BLK_CNT 2 1) 2 (fun k => {k with buf := [ln]})) 2 200 ln) ∧
  ((fun (s : State) (j : Nat) (n : Nat) (l : LineSt) =>
    ((j < 16) ∧ (s.ing.las.length = 16) ∧ (s.flagi LAS_CTRL_EN j = true) ∧ (s.fillTurn j = j) ∧ ((s.las j).buf = []) ∧ ((s.las j).cur = some l) ∧ (s.openFill j = true) ∧ (s.geti LAS_CTRL_TGT j ≠ 2) ∧ (s.rowsHeld j l (s.fillR j) ≤ l.rows + n)))
    (opn ln) 2 200 ln) ∧
  ((fun (s : State) (j : Nat) (n : Nat) (l : LineSt) =>
    ((j < 16) ∧ (s.ing.las.length = 16) ∧ (s.flagi LAS_CTRL_EN j = true) ∧ (s.fillTurn j = j) ∧ ((s.las j).buf = []) ∧ ((s.las j).cur = some l) ∧ (s.openFill j = true) ∧ (s.geti LAS_CTRL_TGT j ≠ 2) ∧ (l.rows + n < s.rowsHeld j l (s.fillR j))))
    (opn ln) 2 1 ln) := by
  beta_reduce; decide +kernel

-- For Obligations.LineDeliveryAndSidePackets.
theorem witness_SidePackets :
  ((fun (s : State) (m : Nat) (c : KmiCmd) =>
    ((KmiReady s 0x0405 m c) ∧ (match ((s.las (bits c.a0 3 0)).kmiBuf) with | [p] => decide ((s.geti LAS_STAT_KMI_SIDE (bits c.a0 3 0) = 1) ∧ (s.ing.las.length = 16) ∧ (p.length ≤ (if c.hostBuf then c.hostLen else c.resMax))) | _ => false) = true))
    (PR (wl (side 1 |>.set TGT_DBG_LEVEL 3 |>.set TGT_LC_STATE 2) 2 (fun k => {k with kmiBuf := [[1,2,3,4]]})) (cmdOf 0x405 2 0 [])) 0 (cmdOf 0x405 2 0 [])) ∧
  ((fun (s : State) (m : Nat) (c : KmiCmd) =>
    ((KmiReady s 0x0405 m c) ∧ (s.geti LAS_STAT_KMI_SIDE (bits c.a0 3 0) = 0)))
    (PR (wl (side 0 |>.set TGT_DBG_LEVEL 3 |>.set TGT_LC_STATE 2) 2 (fun k => {k with kmiBuf := [[1,2,3,4]]})) (cmdOf 0x405 2 0 [])) 0 (cmdOf 0x405 2 0 [])) ∧
  ((fun (s : State) (m : Nat) (c : KmiCmd) =>
    ((KmiReady s 0x0405 m c) ∧ (match ((s.las (bits c.a0 3 0)).kmiBuf) with | [p, q] => decide ((s.geti LAS_STAT_KMI_SIDE (bits c.a0 3 0) = 1) ∧ (s.ing.las.length = 16) ∧ (p.length + q.length ≤ (if c.hostBuf then c.hostLen else c.resMax))) | _ => false) = true))
    (PR (wl (side 1 |>.set TGT_DBG_LEVEL 3 |>.set TGT_LC_STATE 2) 2 (fun k => {k with kmiBuf := [[1,2,3,4],[5,6]]})) (cmdOf 0x405 2 0 [])) 0 (cmdOf 0x405 2 0 [])) ∧
  ((fun (s : State) (m : Nat) (c : KmiCmd) =>
    ((KmiReady s 0x0405 m c) ∧ (match ((s.las (bits c.a0 3 0)).kmiBuf) with | p :: q :: rest => decide ((s.geti LAS_STAT_KMI_SIDE (bits c.a0 3 0) = 1) ∧ (s.ing.las.length = 16) ∧ (p.length ≤ (if c.hostBuf then c.hostLen else c.resMax)) ∧ ((if c.hostBuf then c.hostLen else c.resMax) < p.length + q.length)) | _ => false) = true))
    (PR (wl (side 1 |>.set TGT_DBG_LEVEL 3 |>.set TGT_LC_STATE 2) 2 (fun k => {k with kmiBuf := [[1,2,3,4],[5,6],[7]]})) {cmdOf 0x405 2 0 [] with resMax := 5}) 0 {cmdOf 0x405 2 0 [] with resMax := 5}) ∧
  ((fun (s : State) (m : Nat) (c : KmiCmd) =>
    ((KmiReady s 0x0406 m c) ∧ (s.geti LAS_STAT_KMI_SIDE (bits c.a0 3 0) = 1) ∧ (s.ing.las.length = 16) ∧ ((s.las (bits c.a0 3 0)).kmiTx = []) ∧ (c.dataIn ≠ []) ∧ (c.dataIn.length ≤ 2044)))
    (PR (side 1 |>.set TGT_DBG_LEVEL 3 |>.set TGT_LC_STATE 2) (cmdOf 0x406 2 0 [5,6,7])) 0 (cmdOf 0x406 2 0 [5,6,7])) ∧
  ((fun (s : State) (m : Nat) (c : KmiCmd) =>
    ((KmiReady s 0x0406 m c) ∧ (s.geti LAS_STAT_KMI_SIDE (bits c.a0 3 0) = 1) ∧ ((c.dataIn = [] ∨ 2044 < c.dataIn.length))))
    (PR (side 1 |>.set TGT_DBG_LEVEL 3 |>.set TGT_LC_STATE 2) (cmdOf 0x406 2 0 [])) 0 (cmdOf 0x406 2 0 [])) ∧
  ((fun (s : State) (m : Nat) (c : KmiCmd) =>
    ((KmiReady s 0x0406 m c) ∧ (s.geti LAS_STAT_KMI_SIDE (bits c.a0 3 0) = 0)))
    (PR (side 0 |>.set TGT_DBG_LEVEL 3 |>.set TGT_LC_STATE 2) (cmdOf 0x406 2 0 [])) 0 (cmdOf 0x406 2 0 [])) := by
  beta_reduce; decide +kernel

end C06

/-! ### Witnesses: Pins, encoders, time base -/

namespace C07

def asg (n f b : Nat) : KmiCmd := cmdOf 0xC05 (n + 65536 * f + 2^24 * b) 0 []
def te : State := (RD 2).set TCK_CTRL_EN 1
def claimS : State := { RD 2 with io := { R.io with claimed := [(7, true)] } }
def gi (s : State) (q p se : Nat) : State := opened ((((s.seti GPIO_IRQ_PORT q p).seti GPIO_IRQ_SENSE q se).set IOB_STAT_VIO_OK 0x1FFF).seti IOB_PIN_STD (48 * p + q) 4 |>.seti IOB_BANK_VIO_SEL p 4)
def gl (s : State) : State := { s with io := { s.io with line := 8 } }
def tm (m : Nat) (e : Option Nat) : State := let s := (R.seti GPIO_TIM_CTRL_MODE 3 m).seti GPIO_PIN_FUNC 9 0x43 |>.seti GPIO_PIN_FUNC 10 0x4B
  let s := opened ((s.set IOB_STAT_VIO_OK 0x1FFF).seti IOB_PIN_STD 9 4 |>.seti IOB_BANK_VIO_SEL 0 4)
  { s with io := { s.io with timEnd := setAt s.io.timEnd 3 e } }
def tr (s : State) (x : Nat) : State := { s with io := { s.io with timRise := setAt s.io.timRise 3 (some x) }, tick := { s.tick with tickOpen := true } }
def pxc (k n : Nat) (d : List Nat) : KmiCmd := cmdOf 0xC06 (k + 65536 * n) 0 d
def pxs : State := (((RD 2).seti GPIO_PER_CFG_EN 0 1).seti GPIO_PIN_FUNC 9 0x10).seti GPIO_PIN_FUNC 10 0x11
def rr (d : List Nat) : RunCmd := ⟨2, pxc 0 5 d, true, false, 0⟩
def enc (mode : Nat) (a b : Bool) : State := let s := (((R.seti MSU_ENC_CTRL_EN 2 1).seti MSU_ENC_CTRL_MODE 2 mode).seti MSU_ENC_STAT_STOPPED 2 0)
  s.setEnc 2 { s.encSt 2 with a := a, b := b, p := 100, k := 4, stamps := [1000, 900, 800, 700], sinceZ := some 5 }
def tbs (src : Nat) : State := (R.set MSU_TB_CTRL_SRC src).set MSU_TIME_SET_LO 77777
def tp : State := let s := R.setTrig 3 ⟨[⟨1000, 2000, 5, false⟩, ⟨3000, 4000, 6, true⟩], some 4000⟩; (s.seti LAS_CTRL_EN 2 1).seti LAS_TRIG 2 3 |>.seti GPIO_PIN_FUNC 9 0x53
def atp (s : State) : State := { s with msu := { s.msu with setAtPps := true } }
def cr (s : State) : State := { s with msu := { s.msu with ppsSince := some 5, critSince := some 6 } }
def rk (k : Nat) : RunCmd := ⟨2, pxc k 5 [1], true, false, k⟩

-- For Obligations.PinAssignment.
theorem witness_PinAssignment :
  ((fun (s : State) (m : Nat) (c : KmiCmd) =>
    ((fun n => (fun f => (KmiReady s 0x0C05 m c) ∧ (n < 624) ∧ (funcListed f = true) ∧ ((s.dropPending n).funcFree f = true) ∧ ((f = 0 ∨ s.pinFabric n = false)) ∧ (bitB c.a0 24 = false ∨ s.flag TCK_CTRL_EN = false)) (bits c.a0 23 16)) (bits c.a0 9 0)))
    (PR (RD 2) (asg 7 0x40 0)) 0 (asg 7 0x40 0)) ∧
  ((fun (s : State) (m : Nat) (c : KmiCmd) =>
    ((fun n => (fun f => (KmiReady s 0x0C05 m c) ∧ (n < 624) ∧ (funcListed f = true) ∧ ((s.dropPending n).funcFree f = true) ∧ ((f = 0 ∨ s.pinFabric n = false)) ∧ (bitB c.a0 24 = true) ∧ (s.flag TCK_CTRL_EN = true)) (bits c.a0 23 16)) (bits c.a0 9 0)))
    (PR te (asg 7 0x40 1)) 0 (asg 7 0x40 1)) ∧
  ((fun (s : State) (m : Nat) (c : KmiCmd) =>
    ((fun n => (fun f => (KmiReady s 0x0C05 m c) ∧ (n < 624) ∧ (funcListed f = true) ∧ ((s.dropPending n).funcFree f = false)) (bits c.a0 23 16)) (bits c.a0 9 0)))
    (PR (te.set GPIO_RES_TIM_HELD 1) (asg 7 0x40 1)) 0 (asg 7 0x40 1)) ∧
  ((fun (s : State) (m : Nat) (c : KmiCmd) =>
    ((fun n => (fun f => (KmiReady s 0x0C05 m c) ∧ (n < 624) ∧ (funcListed f = true) ∧ ((s.dropPending n).funcFree f = true) ∧ (f ≠ 0) ∧ (s.pinFabric n = true)) (bits c.a0 23 16)) (bits c.a0 9 0)))
    (PR claimS (asg 7 0x41 1)) 0 (asg 7 0x41 1)) ∧
  ((fun (s : State) (m : Nat) (c : KmiCmd) =>
    ((fun n => (fun f => (KmiReady s 0x0C05 m c) ∧ (624 ≤ n ∨ funcListed f = false)) (bits c.a0 23 16)) (bits c.a0 9 0)))
    (PR claimS (asg 627 0x41 1)) 0 (asg 627 0x41 1)) := by
  beta_reduce; decide +kernel

-- For Obligations.PinsTimersAndControllers.
theorem witness_PinInputs :
  ((fun (s : State) (q : Nat) (x : IrqLevel) =>
    ((fun v => (fun old => (fun pend => (q < 16) ∧ (s.irqOn q = true) ∧ (s.get PWR_STATE_CUR = 0) ∧ (s.pwr.vote = none) ∧ (s.pwr.entering = none) ∧ (s.geti GPIO_IRQ_FILT q ≤ x.cycles)) (bitB (s.get GPIO_IRQ_STAT_PEND) q)) (bitB s.io.line q)) (x.level)))
    (gi R 3 5 1) 3 (⟨true, 300⟩)) ∧
  ((fun (s : State) (q : Nat) (x : IrqLevel) =>
    ((fun v => (fun old => (fun pend => (q < 16) ∧ (s.irqOn q = true) ∧ (s.get PWR_STATE_CUR = 0) ∧ (s.pwr.vote = none) ∧ (s.pwr.entering = none) ∧ (x.cycles < s.geti GPIO_IRQ_FILT q)) (bitB (s.get GPIO_IRQ_STAT_PEND) q)) (bitB s.io.line q)) (x.level)))
    ((gi R 3 5 1).seti GPIO_IRQ_FILT 3 20) 3 (⟨true, 19⟩)) ∧
  ((fun (s : State) (q : Nat) (_x : IrqLevel) =>
    ((q < 16) ∧ (s.irqOn q = false)))
    (gi R 3 14 0) 3 (⟨true, 5⟩)) ∧
  ((fun (s : State) (k : Nat) =>
    ((k < 13) ∧ (s.vioOk k = true)) ∧
    (k < 13))
    ((gi R 3 5 5).seti GPIO_P_IN_LO_IN 5 8) 5) ∧
  ((fun (s : State) (k : Nat) =>
    ((k < 13) ∧ (s.vioOk k = false)))
    R 5) := by
  beta_reduce; decide +kernel

-- For Obligations.PinsTimersAndControllers.
theorem witness_TimersAndControllers :
  ((fun (s : State) (i : Nat) (t : Nat) =>
    ((match (s.timDue i t) with | some r => decide ((i < 8) ∧ (s.io.timEnd.length = 8) ∧ (s.io.timRise.length = 8) ∧ (timeGe t r = true) ∧ ((s.io.timEnd.getD i none).all (fun e => timeGe r e) = true)) | _ => false) = true))
    (tm 1 none) 3 1000) ∧
  ((fun (s : State) (i : Nat) (t : Nat) =>
    ((match (s.timDue i t) with | some r => decide ((i < 8) ∧ (s.io.timEnd.length = 8) ∧ (s.io.timRise.length = 8) ∧ (timeGe t r = true) ∧ ((s.io.timEnd.getD i none).all (fun e => timeGe r e) = false)) | _ => false) = true))
    (tr (tm 2 (some 5000)) 7) 3 1000000) ∧
  ((fun (s : State) (i : Nat) (t : Nat) =>
    ((i < 8) ∧ ((s.timDue i t).all (fun r => timeGe t r) = false)))
    (tr (tm 1 (some 5000)) 2000) 3 20) ∧
  ((fun (s : State) (i : Nat) (t : Nat) =>
    ((i < 8) ∧ (s.timDue i t = none)))
    (tm 3 (some 5000)) 3 1000) ∧
  ((fun (s : State) (i : Nat) (_t : Nat) =>
    ((i < 8) ∧ (s.geti GPIO_TIM_CTRL_MODE i = 0 ∨ s.geti GPIO_TIM_CTRL_MODE i = 3)))
    (tm 3 (some 5000)) 3 1000) ∧
  ((fun (s : State) (i : Nat) (_t : Nat) =>
    ((i < 8) ∧ (s.geti GPIO_TIM_CTRL_MODE i = 1) ∧ (s.io.timRise.getD i none = none)))
    (tm 1 (some 5000)) 3 1000) ∧
  ((fun (s : State) (i : Nat) (_t : Nat) =>
    ((i < 8) ∧ (match (s.io.timRise.getD i none) with | some r => decide ((s.geti GPIO_TIM_CTRL_MODE i = 1)) | _ => false) = true))
    (tr (tm 1 (some 5000)) 7) 3 1000) ∧
  ((fun (s : State) (i : Nat) (_t : Nat) =>
    ((i < 8) ∧ (s.geti GPIO_TIM_CTRL_MODE i = 2) ∧ (s.tick.tickOpen = true) ∧ (s.io.timRise.getD i none = none)))
    {tr (tm 2 (some 5000)) 7 with io := R.io} 3 1000) ∧
  ((fun (s : State) (i : Nat) (_t : Nat) (r : Bool) =>
    ((i < 8) ∧ (s.geti GPIO_TIM_CTRL_MODE i = 3) ∧ (s.pinsOf (0x48 + i) ≠ []) ∧ ((s.geti GPIO_TIM_CTRL_CAP_EDGE i == 0) = r)))
    (tm 3 (some 5000)) 3 1000 true) ∧
  ((fun (s : State) (i : Nat) (_t : Nat) (r : Bool) =>
    ((i < 8) ∧ (s.geti GPIO_TIM_CTRL_MODE i ≠ 3 ∨ s.pinsOf (0x48 + i) = [] ∨ (s.geti GPIO_TIM_CTRL_CAP_EDGE i == 0) ≠ r)))
    (tm 3 (some 5000)) 3 1000 false) ∧
  ((fun (s : State) (m : Nat) (c : KmiCmd) =>
    ((fun k => (KmiReady s 0x0C06 m c) ∧ (k < 6) ∧ (s.flagi GPIO_PER_CFG_EN k = true) ∧ ((∀ f ∈ s.perSignals k (!c.dataIn.isEmpty) (bits c.a0 31 16 != 0), s.pinsOf f ≠ [])) ∧ (bitB s.io.busy k = false)) (bits c.a0 3 0)))
    (PR pxs (pxc 0 5 [1,2])) 0 (pxc 0 5 [1,2])) ∧
  ((fun (s : State) (m : Nat) (c : KmiCmd) =>
    ((fun k => (KmiReady s 0x0C06 m c) ∧ (k < 6) ∧ (s.flagi GPIO_PER_CFG_EN k = true) ∧ ((∀ f ∈ s.perSignals k (!c.dataIn.isEmpty) (bits c.a0 31 16 != 0), s.pinsOf f ≠ [])) ∧ (bitB s.io.busy k = true)) (bits c.a0 3 0)))
    (PR { pxs with io := {pxs.io with busy := 1}} (pxc 0 5 [1,2])) 0 (pxc 0 5 [1,2])) ∧
  ((fun (s : State) (m : Nat) (c : KmiCmd) =>
    ((fun k => (KmiReady s 0x0C06 m c) ∧ (k < 6) ∧ (s.flagi GPIO_PER_CFG_EN k = false ∨ (∃ f ∈ s.perSignals k (!c.dataIn.isEmpty) (bits c.a0 31 16 != 0), s.pinsOf f = []))) (bits c.a0 3 0)))
    (PR (RD 2) (pxc 0 5 [1,2])) 0 (pxc 0 5 [1,2])) ∧
  ((fun (s : State) (m : Nat) (c : KmiCmd) =>
    ((fun k => (KmiReady s 0x0C06 m c) ∧ (6 ≤ k)) (bits c.a0 3 0)))
    (PR (RD 2) (pxc 7 5 [1,2])) 0 (pxc 7 5 [1,2])) ∧
  ((fun (s : State) (k : Nat) (rx : List Nat) (_nk : Option Nat) (r : RunCmd) =>
    ((fun n => (k < 6) ∧ (s.kmi.running = [r]) ∧ (runIs 0x0C06 k r = true) ∧ (r.abandoned = false) ∧ (r.mbx < s.kmi.mbx.length) ∧ (k < 2) ∧ (rx.length < n)) (bits r.cmd.a0 31 16)))
    (withRun { pxs with io := {pxs.io with busy := 1}} (rr [1,2,3])) 0 [5,6] none (rr [1,2,3])) ∧
  ((fun (s : State) (k : Nat) (rx : List Nat) (nk : Option Nat) (r : RunCmd) =>
    ((fun n => (k < 6) ∧ (s.kmi.running = [r]) ∧ (runIs 0x0C06 k r = true) ∧ (r.abandoned = false) ∧ (r.mbx < s.kmi.mbx.length) ∧ (k < 4 ∨ nk = none) ∧ (n ≤ rx.length)) (bits r.cmd.a0 31 16)))
    (withRun { pxs with io := {pxs.io with busy := 1}} (rr [1,2,3])) 0 [5,6,7,8,9,10] (some 4) (rr [1,2,3])) ∧
  ((fun (s : State) (k : Nat) (rx : List Nat) (nk : Option Nat) (r : RunCmd) =>
    ((fun n => (k < 6) ∧ (s.kmi.running = [r]) ∧ (runIs 0x0C06 k r = true) ∧ (r.abandoned = false) ∧ (r.mbx < s.kmi.mbx.length) ∧ (2 ≤ k) ∧ (k < 4 ∨ nk = none) ∧ (rx.length < n)) (bits r.cmd.a0 31 16)))
    (withRun { pxs with io := {pxs.io with busy := 4}} (rk 2)) 2 [5,6] none (rk 2)) ∧
  ((fun (s : State) (k : Nat) (_rx : List Nat) (nk : Option Nat) (r : RunCmd) =>
    ((fun n => (k < 6) ∧ (s.kmi.running = [r]) ∧ (runIs 0x0C06 k r = true) ∧ (r.abandoned = false) ∧ (r.mbx < s.kmi.mbx.length) ∧ (match (nk) with | some i => decide ((4 ≤ k)) | _ => false) = true) (bits r.cmd.a0 31 16)))
    (withRun { pxs with io := {pxs.io with busy := 16}} (rk 4)) 4 [5,6] (some 1) (rk 4)) ∧
  ((fun (s : State) (k : Nat) (_rx : List Nat) (_nk : Option Nat) =>
    ((k < 6) ∧ (s.kmi.running.find? (runIs 0x0C06 k) = none)))
    R 4 [5,6] (some 1)) := by
  beta_reduce; decide +kernel

-- For Obligations.EncoderChannelsAndTriggers.
theorem witness_EncoderChannels :
  ((fun (s : State) (ch : Nat) (stamp : Nat) (t : Nat) (a : Bool) (b : Bool) =>
    ((fun ain => (fun bin => (fun a1 => (fun b1 => (ch < 8) ∧ (s.msu.enc.length = 8)) ((if s.filtered ch stamp t (s.encSt ch).stampB then bin else (s.encSt ch).b))) ((if s.filtered ch stamp t (s.encSt ch).stampA then ain else (s.encSt ch).a))) ((if s.flagi MSU_ENC_CTRL_SWAP ch then a else b))) ((if s.flagi MSU_ENC_CTRL_SWAP ch then b else a))))
    (enc 1 false false) 2 5000 6000 true false) ∧
  ((fun (s : State) (ch : Nat) (t : Nat) =>
    ((ch < 8) ∧ (s.msu.enc.length = 8) ∧ (s.flagi MSU_ENC_CTRL_EN ch = true) ∧ ((s.encSt ch).a = true) ∧ ((s.encSt ch).b = true)) ∧
    ((ch < 8) ∧ (s.msu.enc.length = 8) ∧ (s.flagi MSU_ENC_STAT_STOPPED ch = true ∨ timeGe t ((s.encSt ch).since + nsUnits (8000000 * max 1 (s.geti MSU_ENC_CTRL_STOP ch))) = false)))
    ((enc 1 true true).seti MSU_ENC_CTRL_ZMODE 2 1) 2 5000) ∧
  ((fun (s : State) (ch : Nat) (t : Nat) =>
    ((ch < 8) ∧ (s.msu.enc.length = 8) ∧ (s.flagi MSU_ENC_STAT_STOPPED ch = false) ∧ (timeGe t ((s.encSt ch).since + nsUnits (8000000 * max 1 (s.geti MSU_ENC_CTRL_STOP ch))) = true)))
    (enc 1 true true) 2 50000000000000) ∧
  ((fun (s : State) (ch : Nat) (_t : Nat) =>
    ((ch < 8) ∧ (s.msu.enc.length = 8) ∧ (s.flagi MSU_ENC_CTRL_EN ch = false ∨ (s.encSt ch).a = false ∨ (s.encSt ch).b = false)))
    (enc 1 true false) 2 500) := by
  beta_reduce; decide +kernel

-- For Obligations.TimeBase.
theorem witness_TimeBase :
  ((fun (s : State) (t : Nat) (_v : Nat) =>
    (s.tbCriterion t = true) ∧
    (s.tbSrc ≠ 2) ∧
    (s.tbSrc < 2))
    (tbs 0) 5000 77) ∧
  ((fun (s : State) (_t : Nat) (_v : Nat) =>
    ((match (s.msu.ppsSince) with | some x => decide ((s.tbSrc = 2)) | _ => false) = true))
    (cr (tbs 2)) (2^60) 77) ∧
  ((fun (s : State) (_t : Nat) (_v : Nat) =>
    ((match (s.msu.critSince) with | some x => decide ((3 ≤ s.tbSrc)) | _ => false) = true))
    (cr (tbs 3)) (2^60) 77) ∧
  ((fun (s : State) (t : Nat) (_v : Nat) =>
    (s.tbCriterion t = false))
    (tbs 3) 5000 77) ∧
  ((fun (s : State) (cause : RefLoss) (_t : Nat) =>
    ((s.flag MSU_TB_STAT_HOLDOVER = false) ∧ (((cause = .timeref ∧ (s.tbSrc = 1 ∨ s.tbSrc = 2)) ∨ (cause = .pps ∧ s.tbSrc = 2) ∨ (cause = .chain ∧ s.tbSrc = 3) ∨ (cause = .twin ∧ s.tbSrc = 4)))))
    (tbs 1) .timeref 5000) ∧
  ((fun (s : State) (cause : RefLoss) (_t : Nat) =>
    (((cause = .timeref ∧ s.tbSrc ≠ 1 ∧ s.tbSrc ≠ 2) ∨ (cause = .pps ∧ s.tbSrc ≠ 1 ∧ s.tbSrc ≠ 2) ∨ (cause = .chain ∧ s.tbSrc ≠ 3) ∨ (cause = .twin ∧ s.tbSrc ≠ 4) ∨ (cause ≠ .pps ∧ s.flag MSU_TB_STAT_HOLDOVER = true))))
    (tbs 0) .twin 5000) ∧
  ((fun (s : State) (_t : Nat) =>
    (((s.tbSrc = 1 ∨ (s.tbSrc = 2 ∧ s.flag MSU_TB_STAT_HOLDOVER = true)))))
    (tbs 1) 5000) ∧
  ((fun (s : State) (_t : Nat) =>
    ((s.flag TCK_CTRL_EN = false) ∧ (s.flag MSU_TB_CTRL_SET_AT_PPS = false)))
    (tbs 1) 5000) ∧
  ((fun (s : State) (_t : Nat) =>
    (s.flag TCK_CTRL_EN = true))
    ((tbs 1).set TCK_CTRL_EN 1) 5000) ∧
  ((fun (s : State) (_t : Nat) =>
    ((s.flag TCK_CTRL_EN = false) ∧ (s.flag MSU_TB_CTRL_SET_AT_PPS = true)))
    ((tbs 1).set MSU_TB_CTRL_SET_AT_PPS 1) 5000) := by
  beta_reduce; decide +kernel

-- For Obligations.EncoderChannelsAndTriggers.
theorem witness_TriggerPulses :
  ((fun (s : State) (n : Nat) (p : Pulse) (rest : List Pulse) =>
    ((n < 16) ∧ (s.msu.trig.length = 16) ∧ ((s.trigSt n).pend = p :: rest)))
    tp 3 (⟨1000, 2000, 5, false⟩) [⟨3000, 4000, 6, true⟩]) ∧
  ((fun (s : State) (n : Nat) =>
    ((n < 16) ∧ ((s.trigSt n).pend = [])))
    tp 4) := by
  beta_reduce; decide +kernel

end C07

/-! ### Witnesses: Planes and changeovers -/

namespace C08

def K (op : Nat) (a0 a1 a2 : Nat) (d : List Nat) : KmiCmd := { cmdOf op a0 a1 d with a2 := a2 }
def PD_ (s : State) (c : KmiCmd) : State := postedIn ((s.set TGT_DBG_LEVEL 3).set TGT_LC_STATE 2) c
def ld0 : LoadSt := ⟨5000, [], [], false, [], false, false, false, false, 7⟩
def wl (l : LoadSt) : State := { R with cfg := { R.cfg with load := some l } }
def lr (rc pg n : Nat) : LoadRoom := ⟨3, 1, rc, pg, List.replicate n (List.range 4160)⟩
def wb : List Nat := [0x42,0x52,0x4D,0x52,1,0,0,2] ++ List.replicate 8 0 ++ [0,0,0,0] ++ List.replicate 492 0
def img0 : List Nat := wb ++ List.replicate 128 0
def ldc (b : Nat) : LoadSt := { ld0 with img := List.replicate 639 b ++ [0], headerOk := true, rooms := [lr 960 960 0] }
def ldImg (b : Nat) : LoadSt := { ld0 with img := (wb ++ List.replicate 127 0 ++ [0]).set 544 b, headerOk := true, rooms := [lr 960 960 0] }
def f16 : Nat := 16 + 32 * 16 + 250000 * 2^10 + 250000 * 2^30
def plv (s : State) (r p v : Nat) : State := s.setPlane r p v
def stg (r : Nat) : State := plv (roomUp R r) r 1 3
def staged (s : State) (r : Nat) : State := let s := (s.seti CFG_ROOM_STAT_STG_BANK r 2).seti CFG_ROOM_ITIN_B_ITIN_ID r 77
  { s with cfg := { s.cfg with bankFr := Assoc.put (bankKey r (s.stgBankIx r) 0) f16 s.cfg.bankFr, bankSrc := Assoc.put (2*r + s.stgBankIx r) 1 s.cfg.bankSrc } }
def sg3 := staged (stg 3) 3
def en (s : State) : State := (s.set TCK_CTRL_EN 1)
def run1 (op k : Nat) : RunCmd := ⟨2, cmdOf op 0 0 [], true, false, k⟩
def free4 (s : State) : State := s
def samplesGroup : List GroupProg := [⟨none, 0⟩, ⟨none, 255⟩, ⟨some 3, 0⟩]
def pbad (s : State) : State := { s with cfg := { s.cfg with planeBad := [(bankKey 3 1 2, true)] } }
def hnd (k : Nat) (s : State) : State := {s with cfg := {s.cfg with hand := [(3, ⟨3, none, k, none⟩)]}}

-- For Obligations.LoadSessionsAndStaging.
theorem witness_LoadSessions :
  ((fun (s : State) (m : Nat) (c : KmiCmd) =>
    ((KmiReady s 0x0701 m c) ∧ (s.cfg.load = none)))
    (PD_ R (K 0x701 5000 77 0 [])) 0 (K 0x701 5000 77 0 [])) ∧
  ((fun (s : State) (m : Nat) (c : KmiCmd) =>
    ((KmiReady s 0x0701 m c) ∧ (s.cfg.load ≠ none)))
    (PD_ (wl ld0) (K 0x701 5000 0 0 [])) 0 (K 0x701 5000 0 0 [])) ∧
  ((fun (s : State) (m : Nat) (c : KmiCmd) =>
    ((KmiReady s 0x0702 m c) ∧ (s.cfg.load = none)))
    (PD_ R (K 0x702 0 0 0 [1,2])) 0 (K 0x702 0 0 0 [1,2])) ∧
  ((fun (s : State) (m : Nat) (c : KmiCmd) =>
    ((KmiReady s 0x0702 m c) ∧ (match (s.cfg.load) with | some l => decide ((s.kmi.running = []) ∧ (l.inq = []) ∧ (l.rooms = []) ∧ (l.closing = false) ∧ (c.a0 ≠ l.img.length)) | _ => false) = true))
    (PD_ (wl ld0) (K 0x702 7 0 0 [1,2])) 0 (K 0x702 7 0 0 [1,2])) ∧
  ((fun (s : State) (m : Nat) (c : KmiCmd) =>
    ((KmiReady s 0x0702 m c) ∧ (match (s.cfg.load) with | some l => decide ((s.kmi.running = []) ∧ (l.inq = []) ∧ (l.rooms = []) ∧ (l.closing = false) ∧ (c.a0 = 0) ∧ (l.img = []) ∧ (l.headerOk = false) ∧ (c.dataIn ≠ []) ∧ (c.dataIn.length < 512)) | _ => false) = true))
    (PD_ (wl ld0) (K 0x702 0 0 0 [1,2])) 0 (K 0x702 0 0 0 [1,2])) ∧
  ((fun (s : State) (room : Nat) =>
    ((match (s.cfg.load) with | some l => decide ((match (l.roomOf room) with | some x => decide ((room < 24) ∧ (x.ready = true)) | _ => false) = true) | _ => false) = true))
    (wl {ld0 with rooms := [lr 3 1 2]}) 3) ∧
  ((fun (s : State) (room : Nat) =>
    ((match (s.cfg.load) with | some l => decide ((match (l.roomOf room) with | some x => decide ((room < 24) ∧ ([(⟨none, 0⟩ : GroupProg), ⟨some 1, 0⟩].any fun g => decide ((x.ready = false))) = true) | _ => false) = true) | _ => false) = true))
    (wl {ld0 with rooms := [lr 3 1 0]}) 3) ∧
  ((fun (s : State) (room : Nat) (_g : GroupProg) =>
    ((room < 24) ∧ (room ∉ s.sessionRooms)))
    (wl {ld0 with rooms := [lr 3 1 0]}) 4 (⟨none, 0⟩)) ∧
  ((fun (s : State) (m : Nat) (c : KmiCmd) =>
    ((KmiReady s 0x0703 m c) ∧ (s.cfg.load = none)))
    (PD_ R (K 0x703 0 0 0 [])) 0 (K 0x703 0 0 0 [])) ∧
  ((fun (s : State) (m : Nat) (c : KmiCmd) =>
    ((KmiReady s 0x0703 m c) ∧ (match (s.cfg.load) with | some l => decide ((s.kmi.running = []) ∧ (l.closing = false) ∧ (l.verifying = false) ∧ (l.headerOk = false ∨ l.img.length ≠ wbTotal (l.img.take 512))) | _ => false) = true))
    (PD_ (wl ld0) (K 0x703 0 0 0 [])) 0 (K 0x703 0 0 0 [])) ∧
  ((fun (s : State) (m : Nat) (c : KmiCmd) =>
    ((KmiReady s 0x0703 m c) ∧ (match (s.cfg.load) with | some l => decide ((s.kmi.running = []) ∧ (l.closing = false) ∧ (l.verifying = false) ∧ (l.headerOk = true) ∧ (l.img.length = wbTotal (l.img.take 512)) ∧ True) | _ => false) = true))
    (PD_ (wl (ldImg 0)) (K 0x703 1 0 0 [])) 0 (K 0x703 1 0 0 [])) ∧
  ((fun (s : State) (m : Nat) (c : KmiCmd) =>
    ((KmiReady s 0x0703 m c) ∧ (match (s.cfg.load) with | some l => decide ((l.closing = true) ∧ (l.verifying = true)) | _ => false) = true))
    (PD_ (wl {ldImg 0 with closing := true, verifying := true}) (K 0x703 1 0 0 [])) 0 (K 0x703 1 0 0 [])) ∧
  ((fun (s : State) (m : Nat) (c : KmiCmd) =>
    ((KmiReady s 0x0704 m c) ∧ (s.cfg.load ≠ none)))
    (PD_ (wl (ldImg 1)) (K 0x704 0 0 0 [])) 0 (K 0x704 0 0 0 [])) ∧
  ((fun (s : State) (m : Nat) (c : KmiCmd) =>
    ((KmiReady s 0x0704 m c) ∧ (s.cfg.load = none)))
    (PD_ R (K 0x704 0 0 0 [])) 0 (K 0x704 0 0 0 [])) ∧
  ((fun (s : State) =>
    ((match (s.cfg.load) with | some l => decide ((l.closing = false) ∧ (s.kmi.running.any (runOp 0x0702) = false)) | _ => false) = true))
    (wl (ldImg 1))) ∧
  ((fun (s : State) =>
    ((match (s.cfg.load) with | some l => decide ((l.closing = true ∨ s.kmi.running.any (runOp 0x0702) = true)) | _ => false) = true))
    (wl {ldImg 1 with closing := true})) ∧
  ((fun (s : State) =>
    (s.cfg.load = none))
    R) ∧
  ((fun (s : State) (_b : Option (Nat × Nat)) =>
    ((match (s.cfg.load) with | some l => decide ((l.verifying = false)) | _ => false) = true))
    (wl (ldImg 1)) none) ∧
  ((fun (s : State) =>
    ((match (s.cfg.load) with | some l => decide ((l.verifying = true)) | _ => false) = true) ∧
    ((match (s.cfg.load) with | some l => decide ((l.verifying = true) ∧ (match (s.kmi.running) with | [r] => decide ((l.stage = false) ∧ (runIs 0x0703 0 r = true) ∧ (r.abandoned = false) ∧ (r.mbx < s.kmi.mbx.length) ∧ ((∀ x ∈ l.rooms, x.room < 24))) | _ => false) = true) | _ => false) = true))
    (withRun (wl {ldImg 0 with verifying := true}) (run1 0x703 0))) ∧
  ((fun (s : State) =>
    ((match (s.cfg.load) with | some l => decide ((l.verifying = true) ∧ ((List.range 64).any fun k => decide ((l.stage = true) ∧ (s.kmi.running = []) ∧ ((∀ x ∈ l.rooms, x.room < 24)) ∧ (k < 24) ∧ (bitB (leField (l.img.take 512) 16 4) k = true) ∧ (s.roomOn k = true) ∧ (s.stagedFresh k = false))) = true) | _ => false) = true))
    (wl {ldImg 0 with verifying := true, stage := true, img := (ldImg 0).img.set 16 8})) := by
  beta_reduce; decide +kernel

-- For Obligations.LoadSessionsAndStaging.
theorem witness_Staging :
  ((fun (s : State) (m : Nat) (c : KmiCmd) =>
    ((KmiReady s 0x0705 m c) ∧ ((∀ r ∈ s.kmi.running, stageRun r = false)) ∧ (s.stageRefused (bits c.a0 23 0) = ([], [])) ∧ ((List.range 64).any fun r => decide ((r ∈ bitList (bits c.a0 23 0) 24) ∧ (s.stagedFresh r = false))) = true))
    (PD_ (stg 3) (K 0x705 8 0 0 [])) 0 (K 0x705 8 0 0 [])) ∧
  ((fun (s : State) (m : Nat) (c : KmiCmd) =>
    ((KmiReady s 0x0705 m c) ∧ ((∀ r ∈ s.kmi.running, stageRun r = false)) ∧ (s.stageRefused (bits c.a0 23 0) = ([], [])) ∧ ((∀ r ∈ bitList (bits c.a0 23 0) 24, s.stagedFresh r = true))))
    (PD_ (sg3) (K 0x705 8 0 0 [])) 0 (K 0x705 8 0 0 [])) ∧
  ((fun (s : State) (m : Nat) (c : KmiCmd) =>
    ((KmiReady s 0x0705 m c) ∧ ((∀ r ∈ s.kmi.running, stageRun r = false)) ∧ ((s.stageRefused (bits c.a0 23 0)).1 = []) ∧ ((s.stageRefused (bits c.a0 23 0)).2 ≠ [])))
    (PD_ (R) (K 0x705 8 0 0 [])) 0 (K 0x705 8 0 0 [])) ∧
  ((fun (s : State) (m : Nat) (c : KmiCmd) =>
    ((KmiReady s 0x0705 m c) ∧ ((∀ r ∈ s.kmi.running, stageRun r = false)) ∧ ((s.stageRefused (bits c.a0 23 0)).1 ≠ [])))
    (PD_ (wl {ld0 with rooms := [lr 3 1 2]}) (K 0x705 8 0 0 [])) 0 (K 0x705 8 0 0 [])) ∧
  ((fun (s : State) (room : Nat) (t : Nat) =>
    ((fun n => (room < 24) ∧ (s.stgBank room = 1) ∧ (s.roomOn room = true) ∧ ((s.setNow t).bankAdmits room 80000 = true) ∧ ((s.setNow t).bankFree room (s.stgBankIx room) = true) ∧ ((s.setNow t).reloadWaits room (s.stgBankIx room) = false) ∧ (s.fillFault room (s.inactPlane room) n 8 none = none) ∧ (n + 8 ≤ 7680) ∧ (n + 8 < 7680)) (s.geti CFG_ROOM_STG_CNT_FRAMES room)) ∧
    ((fun n => (room < 24) ∧ (s.stgBank room = 1) ∧ (s.roomOn room = true) ∧ ((s.setNow t).bankAdmits room 80000 = true) ∧ ((s.setNow t).bankFree room (s.stgBankIx room) = true) ∧ ((s.setNow t).reloadWaits room (s.stgBankIx room) = false) ∧ (s.fillFault room (s.inactPlane room) n 8 none = none) ∧ (n + 8 ≤ 7680)) (s.geti CFG_ROOM_STG_CNT_FRAMES room)))
    ((stg 3).seti CFG_ROOM_STAT_STG_BANK 3 1) 3 100) ∧
  ((fun (s : State) (room : Nat) (t : Nat) =>
    ((fun n => (room < 24) ∧ (s.stgBank room = 1) ∧ (s.roomOn room = true) ∧ ((s.setNow t).bankAdmits room 80000 = true) ∧ ((s.setNow t).bankFree room (s.stgBankIx room) = true) ∧ ((s.setNow t).reloadWaits room (s.stgBankIx room) = false) ∧ (s.fillFault room (s.inactPlane room) n 8 none = none) ∧ (n + 8 ≤ 7680) ∧ (n + 8 = 7680)) (s.geti CFG_ROOM_STG_CNT_FRAMES room)))
    (((stg 3).seti CFG_ROOM_STAT_STG_BANK 3 1).seti CFG_ROOM_STG_CNT_FRAMES 3 7672) 3 100) ∧
  ((fun (s : State) (room : Nat) (t : Nat) =>
    ((fun n => (room < 24) ∧ (s.stgBank room = 1) ∧ (s.roomOn room = true) ∧ ((s.setNow t).bankAdmits room 80000 = true) ∧ ((s.setNow t).bankFree room (s.stgBankIx room) = true) ∧ ((s.setNow t).reloadWaits room (s.stgBankIx room) = false) ∧ (s.fillFault room (s.inactPlane room) n 8 none ≠ none)) (s.geti CFG_ROOM_STG_CNT_FRAMES room)))
    (pbad ((stg 3).seti CFG_ROOM_STAT_STG_BANK 3 1)) 3 100) ∧
  ((fun (s : State) (room : Nat) (t : Nat) (_b : Option Nat) =>
    ((room < 24) ∧ ((s.stgBank room ≠ 1 ∨ s.roomOn room = false ∨ (s.setNow t).bankAdmits room 80000 = false ∨ (s.setNow t).bankFree room (s.stgBankIx room) = false ∨ (s.setNow t).reloadWaits room (s.stgBankIx room) = true))))
    R 3 100 none) := by
  beta_reduce; decide +kernel

-- For Obligations.Changeovers.
theorem witness_Changeovers :
  ((fun (s : State) (m : Nat) (j : Nat) (c : KmiCmd) =>
    ((KmiReady s 0x0706 m c) ∧ (s.flag TCK_CTRL_EN = true) ∧ (c.a0 ≠ 0) ∧ (c.a0 < 2 ^ 24) ∧ (s.coFree = some j) ∧ (s.coRefusal c.a0 (c.a1 % 2 ^ 48) (c.a2 % 2 ^ 32) false = stOk)))
    (PD_ (en sg3) (K 0x706 8 10 77 [])) 0 0 (K 0x706 8 10 77 [])) ∧
  ((fun (s : State) (m : Nat) (j : Nat) (c : KmiCmd) =>
    ((KmiReady s 0x0706 m c) ∧ (s.flag TCK_CTRL_EN = true) ∧ (c.a0 ≠ 0) ∧ (c.a0 < 2 ^ 24) ∧ (s.coFree = some j) ∧ (s.coRefusal c.a0 (c.a1 % 2 ^ 48) (c.a2 % 2 ^ 32) false ≠ stOk)))
    (PD_ (en sg3) (K 0x706 8 1 77 [])) 0 0 (K 0x706 8 1 77 [])) ∧
  ((fun (s : State) (m : Nat) (_j : Nat) (c : KmiCmd) =>
    ((KmiReady s 0x0706 m c) ∧ (s.flag TCK_CTRL_EN = true) ∧ (c.a0 = 0 ∨ 2 ^ 24 ≤ c.a0)))
    (PD_ (en sg3) (K 0x706 0 1 77 [])) 0 0 (K 0x706 0 1 77 [])) ∧
  ((fun (s : State) (m : Nat) (_j : Nat) (c : KmiCmd) =>
    ((KmiReady s 0x0706 m c) ∧ (s.flag TCK_CTRL_EN = true) ∧ (c.a0 ≠ 0) ∧ (c.a0 < 2 ^ 24) ∧ (s.coFree = none)))
    (PD_ ((List.range 4).foldl (fun s j => s.seti CFG_CO_STAT_STATE j 1) (en sg3)) (K 0x706 8 1 77 [])) 0 0 (K 0x706 8 1 77 [])) ∧
  ((fun (s : State) (m : Nat) (c : KmiCmd) =>
    ((KmiReady s 0x0706 m c) ∧ (s.flag TCK_CTRL_EN = false) ∧ ((∀ j < 4, s.geti CFG_CO_STAT_STATE j ≠ 1)) ∧ (c.a0 ≠ 0) ∧ (c.a0 < 2 ^ 24) ∧ (s.coFree ≠ none) ∧ (s.coRefusal c.a0 (c.a1 % 2 ^ 48) (c.a2 % 2 ^ 32) false ≠ stOk)) ∧
    ((KmiReady s 0x0706 m c) ∧ (s.flag TCK_CTRL_EN = false) ∧ ((∀ j < 4, s.geti CFG_CO_STAT_STATE j ≠ 1)) ∧ (c.a0 ≠ 0) ∧ (c.a0 < 2 ^ 24) ∧ (c.a1 % 2 ^ 48 ≠ 0)))
    (PD_ (sg3) (K 0x706 8 5 77 [])) 0 (K 0x706 8 5 77 [])) ∧
  ((fun (s : State) (m : Nat) (c : KmiCmd) =>
    ((KmiReady s 0x0706 m c) ∧ (s.flag TCK_CTRL_EN = false) ∧ ((∀ j < 4, s.geti CFG_CO_STAT_STATE j ≠ 1)) ∧ (c.a0 = 0 ∨ 2 ^ 24 ≤ c.a0)))
    (PD_ (sg3) (K 0x706 0 5 77 [])) 0 (K 0x706 0 5 77 [])) ∧
  ((fun (s : State) (m : Nat) (c : KmiCmd) =>
    ((KmiReady s 0x0706 m c) ∧ (s.flag TCK_CTRL_EN = false) ∧ ((∀ j < 4, s.geti CFG_CO_STAT_STATE j ≠ 1)) ∧ (c.a0 ≠ 0) ∧ (c.a0 < 2 ^ 24) ∧ (s.coFree = none)))
    (PD_ ((List.range 4).foldl (fun s j => s.seti CFG_CO_STAT_STATE j 3) sg3) (K 0x706 8 1 77 [])) 0 (K 0x706 8 1 77 [])) ∧
  ((fun (s : State) (m : Nat) (c : KmiCmd) =>
    ((KmiReady s 0x0706 m c) ∧ (s.flag TCK_CTRL_EN = false) ∧ (c.a0 ≠ 0) ∧ (c.a0 < 2 ^ 24) ∧ (c.a1 % 2 ^ 48 = 0) ∧ (s.cfg.coOwner.length = 4) ∧ ((∀ j < 4, s.geti CFG_CO_STAT_STATE j = 0)) ∧ (s.kmi.running = []) ∧ (s.coRefusal c.a0 0 (c.a2 % 2 ^ 32) false = stOk) ∧ (s.coCauses c.a0 = 0)))
    (PD_ (sg3) (K 0x706 8 0 77 [])) 0 (K 0x706 8 0 77 [])) ∧
  ((fun (s : State) (m : Nat) (c : KmiCmd) =>
    ((KmiReady s 0x0706 m c) ∧ (s.flag TCK_CTRL_EN = false) ∧ (c.a0 ≠ 0) ∧ (c.a0 < 2 ^ 24) ∧ (c.a1 % 2 ^ 48 = 0) ∧ (s.cfg.coOwner.length = 4) ∧ ((∀ j < 4, s.geti CFG_CO_STAT_STATE j = 0)) ∧ (s.kmi.running = []) ∧ (s.coRefusal c.a0 0 (c.a2 % 2 ^ 32) false = stOk) ∧ (s.coCauses c.a0 ≠ 0)))
    (PD_ (setFrame sg3 3 0 0 |>.seti CFG_ROOM_STAT_STG_BANK 3 1) (K 0x706 8 0 77 [])) 0 (K 0x706 8 0 77 [])) ∧
  ((fun (s : State) (m : Nat) (c : KmiCmd) =>
    ((KmiReady s 0x0707 m c) ∧ (s.flag TCK_CTRL_EN = false) ∧ (c.a0 ≠ 0) ∧ (c.a0 < 2 ^ 24) ∧ (c.a1 % 2 ^ 48 = 0) ∧ (s.cfg.coOwner.length = 4) ∧ ((∀ j < 4, s.geti CFG_CO_STAT_STATE j = 0)) ∧ (s.kmi.running = []) ∧ (s.coRefusal c.a0 0 0 true = stOk) ∧ (s.coCauses c.a0 = 0)))
    (PD_ ((sg3).seti CFG_ROOM_STAT_PREV 3 1) (K 0x707 8 0 77 [])) 0 (K 0x707 8 0 77 [])) ∧
  ((fun (s : State) (m : Nat) (c : KmiCmd) =>
    ((match (s.coFree) with | some j => decide ((KmiReady s 0x0707 m c) ∧ (s.flag TCK_CTRL_EN = true) ∧ (c.a0 ≠ 0) ∧ (c.a0 < 2 ^ 24) ∧ (s.coRefusal c.a0 (c.a1 % 2 ^ 48) 0 true = stOk)) | _ => false) = true))
    (PD_ ((en sg3).seti CFG_ROOM_STAT_PREV 3 1) (K 0x707 8 10 77 [])) 0 (K 0x707 8 10 77 [])) ∧
  ((fun (s : State) (m : Nat) (c : KmiCmd) =>
    ((match (s.coFree) with | some j => decide ((KmiReady s 0x0707 m c) ∧ (s.flag TCK_CTRL_EN = true) ∧ (c.a0 ≠ 0) ∧ (c.a0 < 2 ^ 24) ∧ (s.coRefusal c.a0 (c.a1 % 2 ^ 48) 0 true ≠ stOk)) | _ => false) = true))
    (PD_ (en sg3) (K 0x707 8 10 77 [])) 0 (K 0x707 8 10 77 [])) ∧
  ((fun (s : State) (m : Nat) (c : KmiCmd) =>
    ((fun j => (KmiReady s 0x0708 m c) ∧ (s.flagi CFG_CO_MASK_CHAIN j = false) ∧ (s.geti CFG_CO_STAT_STATE j = 1)) (bits c.a0 1 0)))
    (PD_ (((en sg3).seti CFG_CO_STAT_STATE 2 1).seti CFG_CO_MASK_ROOMS 2 8) (K 0x708 2 0 0 [])) 0 (K 0x708 2 0 0 [])) ∧
  ((fun (s : State) (m : Nat) (c : KmiCmd) =>
    ((fun j => (KmiReady s 0x0708 m c) ∧ (s.flagi CFG_CO_MASK_CHAIN j = false) ∧ (s.geti CFG_CO_STAT_STATE j = 2)) (bits c.a0 1 0)))
    (PD_ (((en sg3).seti CFG_CO_STAT_STATE 2 2).seti CFG_CO_MASK_ROOMS 2 8) (K 0x708 2 0 0 [])) 0 (K 0x708 2 0 0 [])) ∧
  ((fun (s : State) (m : Nat) (c : KmiCmd) =>
    ((fun j => (KmiReady s 0x0708 m c) ∧ (s.flagi CFG_CO_MASK_CHAIN j = true ∨ (s.geti CFG_CO_STAT_STATE j ≠ 1 ∧ s.geti CFG_CO_STAT_STATE j ≠ 2))) (bits c.a0 1 0)))
    (PD_ (((en sg3).seti CFG_CO_STAT_STATE 2 0).seti CFG_CO_MASK_ROOMS 2 8) (K 0x708 2 0 0 [])) 0 (K 0x708 2 0 0 [])) ∧
  ((fun (s : State) (j : Nat) =>
    ((j < 4) ∧ (s.flag TCK_CTRL_EN = true) ∧ (s.geti CFG_CO_STAT_STATE j = 0) ∧ (s.geti CFG_CO_MASK_ROOMS j ≠ 0) ∧ (s.coRefusal (s.geti CFG_CO_MASK_ROOMS j) (s.coT j) (s.geti CFG_CO_ITIN_ITIN_ID j) (s.flagi CFG_CO_MASK_ROLLBACK j) = stOk)))
    (((en sg3).seti CFG_CO_MASK_ROOMS 2 8).seti CFG_CO_TICK_LO_T_LO 2 9 |>.seti CFG_CO_ITIN_ITIN_ID 2 77) 2) ∧
  ((fun (s : State) (j : Nat) =>
    ((j < 4) ∧ (s.flag TCK_CTRL_EN = true) ∧ (s.geti CFG_CO_STAT_STATE j = 0) ∧ (s.geti CFG_CO_MASK_ROOMS j = 0)))
    (en sg3) 2) ∧
  ((fun (s : State) (j : Nat) =>
    ((j < 4) ∧ (s.geti CFG_CO_STAT_STATE j = 0) ∧ (s.flag TCK_CTRL_EN = false) ∧ (s.cfg.coOwner.length = 4) ∧ (s.geti CFG_CO_MASK_ROOMS j ≠ 0) ∧ ((∀ i < 4, i ≠ j → s.geti CFG_CO_STAT_STATE i ≠ 1)) ∧ (s.coRefusal (s.geti CFG_CO_MASK_ROOMS j) (s.coT j) (s.geti CFG_CO_ITIN_ITIN_ID j) (s.flagi CFG_CO_MASK_ROLLBACK j) = stOk)))
    (((sg3).seti CFG_CO_MASK_ROOMS 2 8).seti CFG_CO_ITIN_ITIN_ID 2 77) 2) ∧
  ((fun (s : State) (j : Nat) =>
    ((j < 4) ∧ (s.geti CFG_CO_STAT_STATE j = 0) ∧ (s.coRefusal (s.geti CFG_CO_MASK_ROOMS j) (s.coT j) (s.geti CFG_CO_ITIN_ITIN_ID j) (s.flagi CFG_CO_MASK_ROLLBACK j) ≠ stOk)))
    (((sg3).seti CFG_CO_MASK_ROOMS 2 8).seti CFG_CO_ITIN_ITIN_ID 2 78) 2) ∧
  ((fun (s : State) (j : Nat) =>
    ((j < 4) ∧ (s.geti CFG_CO_STAT_STATE j ≠ 0)))
    (((sg3).seti CFG_CO_STAT_STATE 2 1).seti CFG_CO_ITIN_ITIN_ID 2 78) 2) ∧
  ((fun (s : State) (j : Nat) =>
    ((j < 4) ∧ (s.geti CFG_CO_STAT_STATE j = 3 ∨ s.geti CFG_CO_STAT_STATE j = 4)))
    ((en sg3).seti CFG_CO_STAT_STATE 2 3) 2) ∧
  ((fun (s : State) (j : Nat) =>
    ((j < 4) ∧ (s.geti CFG_CO_STAT_STATE j ≠ 3) ∧ (s.geti CFG_CO_STAT_STATE j ≠ 4)))
    (((en sg3).seti CFG_CO_STAT_STATE 2 1).seti CFG_CO_MASK_ROOMS 2 8) 2) ∧
  ((fun (s : State) (room : Nat) (w : Nat) =>
    ((match (Assoc.find? room s.cfg.hand) with | some h => decide ((room < 24) ∧ (w < 3) ∧ (bitB h.work w = true) ∧ (clrBit h.work w ≠ 0)) | _ => false) = true))
    ({sg3 with cfg := {sg3.cfg with hand := [(3, ⟨3, none, 6, none⟩)]}}) 3 1) ∧
  ((fun (s : State) (room : Nat) (w : Nat) =>
    ((match (Assoc.find? room s.cfg.hand) with | some h => decide ((room < 24) ∧ (w < 3) ∧ (bitB h.work w = false)) | _ => false) = true))
    ({sg3 with cfg := {sg3.cfg with hand := [(3, ⟨3, none, 6, none⟩)]}}) 3 0) ∧
  ((fun (s : State) (room : Nat) (w : Nat) =>
    ((match (Assoc.find? room s.cfg.hand) with | some h => decide ((room < 24) ∧ (w < 3) ∧ (bitB h.work w = true) ∧ (clrBit h.work w = 0) ∧ (h.rel = none) ∧ ((∀ k ∈ List.range 2, bitB h.trees k = true → s.treeRuns room k = true))) | _ => false) = true))
    (hnd 4 sg3) 3 2) ∧
  ((fun (s : State) (room : Nat) (w : Nat) =>
    ((room < 24) ∧ (w < 3) ∧ (Assoc.find? room s.cfg.hand = none)))
    sg3 3 2) := by
  beta_reduce; decide +kernel

-- For Obligations.RoomsAndPower.
theorem witness_RoomsAndPower :
  ((fun (s : State) (t : Nat) =>
    ((s.cfg.selDue ≠ 0) ∧ ((s.flag TCK_CTRL_EN = false ∨ (s.setNow t).admits 512000 = true))))
    ({sg3 with cfg := {sg3.cfg with selDue := 8+32}}) 100) ∧
  ((fun (s : State) (t : Nat) =>
    ((s.cfg.selDue = 0 ∨ (s.flag TCK_CTRL_EN = true ∧ (s.setNow t).admits 512000 = false))))
    sg3 100) ∧
  ((fun (_s : State) (p : Nat) (_us : Nat) =>
    (p < 16))
    sg3 5 90) ∧
  ((fun (s : State) (r : RunCmd) (p : Nat) (_us : Nat) =>
    ((p < 16) ∧ (s.kmi.running = [r]) ∧ (runIs 0x0104 p r = true) ∧ (r.abandoned = false) ∧ (r.mbx < s.kmi.mbx.length)))
    (withRun sg3 (run1 0x104 5)) (run1 0x104 5) 5 90) ∧
  ((fun (s : State) (r : Nat) =>
    ((r < 24) ∧ (s.roomOn r = true)))
    sg3 3) ∧
  ((fun (s : State) (r : Nat) =>
    ((r < 24) ∧ (s.roomOn r = false)))
    ((plv ({R with cfg := {R.cfg with sel := [(3, 1)]}}) 3 1 3).set PWR_DOM_ON 0) 3) ∧
  ((fun (s : State) (m : Nat) (c : KmiCmd) =>
    ((KmiReady s 0x0709 m c) ∧ (bits c.a0 4 0 = 31)))
    (PD_ sg3 (K 0x709 31 0 0 [])) 0 (K 0x709 31 0 0 [])) ∧
  ((fun (s : State) (m : Nat) (c : KmiCmd) =>
    ((KmiReady s 0x0709 m c) ∧ (bits c.a0 4 0 < 24)))
    (PD_ sg3 (K 0x709 3 0 0 [])) 0 (K 0x709 3 0 0 [])) ∧
  ((fun (s : State) (m : Nat) (c : KmiCmd) =>
    ((KmiReady s 0x0709 m c) ∧ (24 ≤ bits c.a0 4 0) ∧ (bits c.a0 4 0 ≠ 31)))
    (PD_ sg3 (K 0x709 28 0 0 [])) 0 (K 0x709 28 0 0 [])) := by
  beta_reduce; decide +kernel

end C08

/-! ### Witnesses: Watchman, Host Link, power -/

namespace C09

def K (op : Nat) (a0 a1 : Nat) (d : List Nat) : KmiCmd := cmdOf op a0 a1 d
def PDx (s : State) (c : KmiCmd) : State := postedIn ((s.set TGT_DBG_LEVEL 3).set TGT_LC_STATE 2) c
def ff (c b pb : Bool) : FrameFind := { corrected := c, bad := b, ramBad := 0, planeBad := pb, asRead := 12345 }
def rm3 (s : State) : State := (roomUp s 3).seti WCH_ROOM_STAT_CREDIT 3 7
def wcs := rm3 R
def rl : Reload := ⟨3, 0, 55, true, 0, false⟩
def wrl (x : Reload) : State := { wcs with wch := { wcs.wch with reloads := [x] }, cfg := { wcs.cfg with planeFr := [(bankKey 3 0 55, 98765)] } }
def cap3 : State := let s := (roomUp R 3).seti WCH_ROOM_STAT_CREDIT 3 256; { s with wch := { s.wch with capSince := setAt s.wch.capSince 3 (some 1000) } }
def hbS (h : Nat) : State := let s := Rf.set WCH_STAT_HEARTBEAT 5; { s with wch := { s.wch with hbSeen := h, hbAt := 100 } }
def mg : State := let s := (R.setPlane 3 0 3); { s with wch := { s.wch with marginLast := some 1000 } }
def mgB : State := mg.set WCH_MARGIN_BUSY 1
def mf (c : Nat) : MarginFind := ⟨c, true, true, false⟩
def hlk (f : HlkSt → HlkSt) (s : State) : State := { s with hlk := f s.hlk }
def tl : State := hlk (fun h => { h with timeline := some 5 }) (Rf.set PWR_DOM_ON 0x3FFFFFFF)
def rdy := tl.set HLK_STAT_CFG_READY 1
def up := ((rdy.set HLK_STAT_LINK_UP 1).set HLK_CTRL_CXL_EN 1)
def hd : State := hlk (fun h => { h with hdmBase := 0x40000000, hdmSize := 2^28, bias := [(1, true)] }) (((((up.set HLK_STAT_HDM_COMMITTED 1).set HLK_STAT_CXL_MEM 1).set DMC_GEOM_CAP_GIB 1).set HLK_STAT_CXL_CACHE 1))
def big : State := hlk (fun h => { h with bme := 0xFFFFFFFFFF, d3 := 0xFFFFFFFF, vfEnable := true, pmeEn := true, flip := some (1, false) }) { hd with cfg := { hd.cfg with load := some ⟨5000, [], [], false, [], false, false, false, false, 7⟩ } }
def ringy : State := let s := (((big.seti DRG_CTX_CTRL_STATE 5 1).seti DRG_CTX_BIND_FUNC 5 4).seti DRG_CTX_BIND_ROOM 5 3); { s with rings := [(5, RingSt.init)] }
def auto : State := R.set PWR_CTRL_AUTO_EN 1
def quiet : State := hlk (fun h => { h with pmeDone := true, perstLow := true, d3 := 3 }) ((auto.set PWR_CTRL_LIMIT 4).set TGT_DBG_LEVEL 0)
def slp : State := quiet.set PWR_TMR_SLEEP_MS 0
def vt (k n : Nat) : State := { R with pwr := { R.pwr with vote := some (k, n) } }
def tt := 256000000 * 1000
def offR : State := ({R with cfg := {R.cfg with sel := [(3, 1)]}}.setPlane 3 1 3).set PWR_DOM_ON (clrBit (R.get PWR_DOM_ON) 3)
def ses : State := { R with cfg := { R.cfg with load := some ⟨5000, [], [], true, [⟨3, 1, 0, 0, []⟩], false, false, false, false, 7⟩ } }
def he (b m : Nat) : HostEnum := ⟨b, m, [(1, 3)], [0x12345678, 5]⟩
def pinCk (s : State) : State := s.seti GPIO_PIN_FUNC 7 0x60
def off4 : State := hlk (fun h => { h with perstLow := true }) (R.set PWR_STATE_CUR 4)
def frc (s : State) : State := { s with wch := { s.wch with forced := some (3, 0, 55) } }
def mgK (k : Nat) : State := { mgB with cfg := { mgB.cfg with bankSrc := [(2 * 3 + k, 0)] } }

-- For Obligations.ScrubbingAndMargin.
theorem witness_Scrubbing :
  ((fun (s : State) (room : Nat) (t : Nat) (n : Nat) (f : FrameFind) =>
    ((fun w => (match (s.wchNext room) with | some (role, fr) => decide ((fun k => (fun ram => (room < 24) ∧ (s.wch.pos.length = 24) ∧ (s.flag WCH_CTRL_EN = true) ∧ (s.domOn 25 = true) ∧ (s.partStopped 4 = false) ∧ (s.get BST_STAT_STATE = 0) ∧ (w.bankAdmits room 40960 = true) ∧ (s.wch.forced.filter (fun x => x.1 == room) = none) ∧ (w.frameTurn room role = true) ∧ (s.geti WCH_ROOM_STAT_CREDIT room = n + 1) ∧ (f.bad = false) ∧ (ram = 0)) (f.ramBad &&& Assoc.get 0 (bankKey room k fr) s.cfg.ramMap)) (s.roleBank room role)) | _ => false) = true) (s.setNow t)))
    wcs 3 100 6 (ff false false false)) ∧
  ((fun (s : State) (room : Nat) (t : Nat) (n : Nat) (f : FrameFind) =>
    ((fun w => (match (s.wchNext room) with | some (role, fr) => decide ((fun k => (fun ram => (room < 24) ∧ (s.wch.pos.length = 24) ∧ (s.flag WCH_CTRL_EN = true) ∧ (s.domOn 25 = true) ∧ (s.partStopped 4 = false) ∧ (s.get BST_STAT_STATE = 0) ∧ (w.bankAdmits room 40960 = true) ∧ (s.wch.forced.filter (fun x => x.1 == room) = none) ∧ (w.frameTurn room role = true) ∧ (s.geti WCH_ROOM_STAT_CREDIT room = n + 1) ∧ (f.bad = true ∨ ram ≠ 0) ∧ (f.planeBad = false) ∧ (Assoc.get false (bankKey room (Assoc.get 0 (2 * room + k) s.cfg.bankSrc) fr) s.cfg.planeBad = false)) (f.ramBad &&& Assoc.get 0 (bankKey room k fr) s.cfg.ramMap)) (s.roleBank room role)) | _ => false) = true) (s.setNow t)))
    wcs 3 100 6 (ff false true false)) ∧
  ((fun (s : State) (room : Nat) (t : Nat) (n : Nat) (f : FrameFind) =>
    ((fun w => (match (s.wchNext room) with | some (role, fr) => decide ((fun k => (fun ram => (room < 24) ∧ (s.wch.pos.length = 24) ∧ (s.flag WCH_CTRL_EN = true) ∧ (s.domOn 25 = true) ∧ (s.partStopped 4 = false) ∧ (s.get BST_STAT_STATE = 0) ∧ (w.bankAdmits room 40960 = true) ∧ (s.wch.forced.filter (fun x => x.1 == room) = none) ∧ (w.frameTurn room role = true) ∧ (s.geti WCH_ROOM_STAT_CREDIT room = n + 1) ∧ (f.bad = true ∨ ram ≠ 0) ∧ (f.planeBad = true ∨ Assoc.get false (bankKey room (Assoc.get 0 (2 * room + k) s.cfg.bankSrc) fr) s.cfg.planeBad = true)) (f.ramBad &&& Assoc.get 0 (bankKey room k fr) s.cfg.ramMap)) (s.roleBank room role)) | _ => false) = true) (s.setNow t)))
    wcs 3 100 6 (ff false true true)) ∧
  ((fun (s : State) (t : Nat) (f : FrameFind) =>
    ((fun w => (match (s.wch.forced) with | some (room, role, fr) => decide ((room < 24) ∧ (s.flag WCH_CTRL_EN = true) ∧ (s.domOn 25 = true) ∧ (s.partStopped 4 = false) ∧ (s.get BST_STAT_STATE = 0) ∧ (w.bankAdmits room 40960 = true) ∧ ((if role = 0 then s.scrubAct room else s.scrubStg room) = true) ∧ (w.frameTurn room role = true) ∧ (f.bad = false) ∧ (f.ramBad = 0)) | _ => false) = true) (s.setNow t)))
    (frc wcs) 100 (ff true false false)) ∧
  ((fun (s : State) (room : Nat) (t : Nat) (_f : FrameFind) =>
    ((fun w => (room < 24) ∧ (s.flag WCH_CTRL_EN = false ∨ w.bankAdmits room 40960 = false ∨ (s.wch.forced.filter (fun x => x.1 == room) = none ∧ (s.wchNext room = none ∨ s.geti WCH_ROOM_STAT_CREDIT room = 0)))) (s.setNow t)))
    (wcs.set WCH_CTRL_EN 0) 3 100 (ff true false false)) ∧
  ((fun (s : State) (room : Nat) (x : Reload) =>
    ((room < 24) ∧ (s.wch.reloads = [x]) ∧ (x.room = room)))
    (wrl rl) 3 rl) ∧
  ((fun (s : State) (room : Nat) (x : Reload) =>
    ((room < 24) ∧ (s.wch.reloads = [x]) ∧ (x.room ≠ room)))
    (wrl rl) 4 rl) ∧
  ((fun (s : State) (room : Nat) (t : Nat) (x : Reload) =>
    ((fun w => (fun key => (room < 24) ∧ (s.wch.reloads = [x]) ∧ (x.room = room) ∧ (x.read = true) ∧ (w.bankAdmits room 16384 = true) ∧ (w.bankFree room x.bank = true)) (bankKey room x.bank x.frame)) (s.setNow t)))
    (wrl {rl with read := true}) 3 100 {rl with read := true}) ∧
  ((fun (s : State) (room : Nat) (t : Nat) (x : Reload) =>
    ((fun w => (fun key => (room < 24) ∧ (s.wch.reloads = [x]) ∧ (x.room = room) ∧ (x.read = true) ∧ (w.bankAdmits room 16384 = false ∨ w.bankFree room x.bank = false)) (bankKey room x.bank x.frame)) (s.setNow t)))
    ((wrl {rl with read := true}).set TCK_CTRL_EN 1) 3 100 {rl with read := true}) ∧
  ((fun (s : State) (room : Nat) (t : Nat) =>
    ((fun w => (room < 24) ∧ (timeGe w.now (s.wch.creditAt.getD room 0 + s.creditTime) = false)) (s.setNow t)))
    cap3 3 100) ∧
  ((fun (s : State) (room : Nat) (t : Nat) =>
    ((fun w => (room < 24) ∧ (timeGe w.now (s.wch.creditAt.getD room 0 + s.creditTime) = true)) (s.setNow t)))
    wcs 3 100000000000) ∧
  ((fun (s : State) (room : Nat) (t : Nat) =>
    ((match (s.wch.capSince.getD room none) with | some t0 => decide ((room < 24) ∧ (bitB s.scrubRooms room = true) ∧ (s.flagi WCH_ROOM_STAT_STARVED room = false) ∧ (s.geti WCH_ROOM_STAT_CREDIT room = 256) ∧ (msUnits (s.get WCH_PACE_STARVE_MS) ≤ elapsed t t0)) | _ => false) = true))
    cap3 3 100000000000000) ∧
  ((fun (s : State) (room : Nat) (t : Nat) =>
    ((match (s.wch.capSince.getD room none) with | some t0 => decide ((room < 24) ∧ (bitB s.scrubRooms room = true) ∧ (s.flagi WCH_ROOM_STAT_STARVED room = false) ∧ (s.geti WCH_ROOM_STAT_CREDIT room = 256) ∧ (elapsed t t0 < msUnits (s.get WCH_PACE_STARVE_MS))) | _ => false) = true))
    cap3 3 2000) ∧
  ((fun (s : State) (room : Nat) (_t : Nat) =>
    ((room < 24) ∧ (s.wch.capSince.getD room none = none ∨ s.flagi WCH_ROOM_STAT_STARVED room = true)))
    wcs 3 100000000000) ∧
  ((fun (s : State) (room : Nat) (bank : Nat) =>
    ((room < 24) ∧ (bank < 2)) ∧
    ((room < 24) ∧ (bank < 2) ∧ (bitB s.wch.rebuilding (2 * room + bank) = true)))
    ({wcs with wch := {wcs.wch with rebuilding := 64}}) 3 0) ∧
  ((fun (s : State) (room : Nat) (bank : Nat) =>
    ((room < 24) ∧ (bank < 2) ∧ (bitB s.wch.rebuilding (2 * room + bank) = false)))
    wcs 3 0) ∧
  ((fun (s : State) (_t : Nat) =>
    ((s.flag KMI_CTRL_FW_READY = true) ∧ (s.domOn 25 = true) ∧ (s.partStopped 8 = false) ∧ (s.get BST_STAT_STATE = 0) ∧ (s.get WCH_STAT_HEARTBEAT ≠ s.wch.hbSeen ∨ s.flag WCH_CTRL_EN = false)))
    (hbS 4) 100000) ∧
  ((fun (s : State) (t : Nat) =>
    ((s.flag KMI_CTRL_FW_READY = true) ∧ (s.domOn 25 = true) ∧ (s.partStopped 8 = false) ∧ (s.get BST_STAT_STATE = 0) ∧ (s.get WCH_STAT_HEARTBEAT = s.wch.hbSeen) ∧ (s.flag WCH_CTRL_EN = true) ∧ (msUnits 5 ≤ elapsed t s.wch.hbAt)))
    (hbS 5) 1000000000000) ∧
  ((fun (s : State) (t : Nat) =>
    ((s.flag KMI_CTRL_FW_READY = true) ∧ (s.domOn 25 = true) ∧ (s.partStopped 8 = false) ∧ (s.get BST_STAT_STATE = 0) ∧ (s.get WCH_STAT_HEARTBEAT = s.wch.hbSeen) ∧ (s.flag WCH_CTRL_EN = true) ∧ (elapsed t s.wch.hbAt < msUnits 5)))
    (hbS 5) 1000) ∧
  ((fun (s : State) (_t : Nat) =>
    (s.flag KMI_CTRL_FW_READY = false))
    R 1000) ∧
  ((fun (s : State) (_p : Bool) =>
    ((fun r => (fun k => (r < 24) ∧ (s.get WCH_SAMPLE_FRAME < 7680) ∧ (s.bankAdmits r 24576 = true) ∧ (s.bankFree r k = true) ∧ (s.reloadWaits r k = false) ∧ (s.stagingWaits r k = false)) (s.roleBank r (s.get WCH_SAMPLE_BANK))) (s.get WCH_SAMPLE_ROOM)))
    R true) ∧
  ((fun (s : State) (_p : Bool) =>
    ((fun r => (fun k => (24 ≤ r ∨ 7680 ≤ s.get WCH_SAMPLE_FRAME ∨ s.bankAdmits r 24576 = false ∨ s.bankFree r k = false)) (s.roleBank r (s.get WCH_SAMPLE_BANK))) (s.get WCH_SAMPLE_ROOM)))
    (((R.set WCH_SAMPLE_ROOM 30).set WCH_SAMPLE_FRAME 44)) false) ∧
  ((fun (s : State) =>
    ((s.get WCH_SAMPLE_ROOM < 24) ∧ (s.get WCH_SAMPLE_FRAME < 7680)))
    ((R.set WCH_SAMPLE_ROOM 3).set WCH_SAMPLE_FRAME 44)) ∧
  ((fun (s : State) =>
    (24 ≤ s.get WCH_SAMPLE_ROOM ∨ 7680 ≤ s.get WCH_SAMPLE_FRAME))
    ((R.set WCH_SAMPLE_ROOM 30).set WCH_SAMPLE_FRAME 44)) := by
  beta_reduce; decide +kernel

-- For Obligations.ScrubbingAndMargin.
theorem witness_MarginPasses :
  ((fun (s : State) (t : Nat) =>
    ((match (s.wch.marginLast) with | some t0 => decide ((s.get WCH_MARGIN_HOURS ≠ 0) ∧ ((if s.wch.marginRan then msUnits (3600000 * s.get WCH_MARGIN_HOURS) else msUnits 60000) ≤ elapsed t t0) ∧ (s.flag WCH_MARGIN_BUSY = false)) | _ => false) = true))
    (mg.set WCH_MARGIN_HOURS 1) 25600000000000) ∧
  ((fun (s : State) (t : Nat) =>
    ((match (s.wch.marginLast) with | some t0 => decide ((s.get WCH_MARGIN_HOURS ≠ 0) ∧ ((if s.wch.marginRan then msUnits (3600000 * s.get WCH_MARGIN_HOURS) else msUnits 60000) ≤ elapsed t t0) ∧ (s.flag WCH_MARGIN_BUSY = true) ∧ (s.wch.marginGo = false)) | _ => false) = true))
    (mgB.set WCH_MARGIN_HOURS 1) 25600000000000000) ∧
  ((fun (s : State) (t : Nat) =>
    ((match (s.wch.marginLast) with | some t0 => decide ((s.get WCH_MARGIN_HOURS ≠ 0) ∧ ((if s.wch.marginRan then msUnits (3600000 * s.get WCH_MARGIN_HOURS) else msUnits 60000) ≤ elapsed t t0) ∧ (s.flag WCH_MARGIN_BUSY = true) ∧ (s.wch.marginGo = true)) | _ => false) = true))
    ((({mg with wch := {mg.wch with marginGo := true}}).set WCH_MARGIN_BUSY 1).set WCH_MARGIN_HOURS 1) 25600000000000000) ∧
  ((fun (s : State) (_t : Nat) =>
    (s.get WCH_MARGIN_HOURS = 0 ∨ s.wch.marginLast = none))
    (mg.set WCH_MARGIN_HOURS 0) 25600000000000) ∧
  ((fun (s : State) =>
    (((List.range 64).any fun r => decide ((s.flag WCH_MARGIN_BUSY = false) ∧ (r < 24) ∧ (s.plane r 0 = 3))) = true))
    mg) ∧
  ((fun (s : State) =>
    (s.flag WCH_MARGIN_BUSY = true))
    mgB) ∧
  ((fun (s : State) (room : Nat) (l : List MarginFind) =>
    ((fun g => (room < 24) ∧ (s.wch.marginGrp.length = 24) ∧ (s.wch.marginDue = false) ∧ (s.flag WCH_MARGIN_BUSY = true) ∧ (g ≠ 1920) ∧ (s.sessionRooms.contains room = false) ∧ (s.stgBank room ≠ 1) ∧ ((∀ x ∈ l, x.cls = 0))) (s.marginNext room (s.wch.marginGrp.getD room 0))))
    mgB 3 []) ∧
  ((fun (s : State) (room : Nat) (l : List MarginFind) =>
    ((fun g => (room < 24) ∧ (s.wch.marginGrp.length = 24) ∧ (s.wch.marginDue = false) ∧ (s.flag WCH_MARGIN_BUSY = true) ∧ (g ≠ 1920) ∧ (s.sessionRooms.contains room = false) ∧ (s.stgBank room ≠ 1) ∧ (match (l) with | [x] => decide ((x.cls = 1) ∧ (s.flag WCH_CTRL_REFRESH_EN = false)) | _ => false) = true) (s.marginNext room (s.wch.marginGrp.getD room 0))))
    (mgB.set WCH_CTRL_REFRESH_EN 0) 3 [mf 1]) ∧
  ((fun (s : State) (room : Nat) (l : List MarginFind) =>
    ((fun g => (room < 24) ∧ (s.wch.marginGrp.length = 24) ∧ (s.wch.marginDue = false) ∧ (s.flag WCH_MARGIN_BUSY = true) ∧ (g ≠ 1920) ∧ (s.sessionRooms.contains room = false) ∧ (s.stgBank room ≠ 1) ∧ (match (l) with | [x] => decide (((List.range 64).any fun k => decide ((x.cls = 1) ∧ (s.flag WCH_CTRL_REFRESH_EN = true) ∧ (x.bankOk = true) ∧ (s.bankFrom room (g / 960) = some k) ∧ (Assoc.get 0 (bankKey room k (8 * (g % 960))) s.cfg.ramMap = 0))) = true) | _ => false) = true) (s.marginNext room (s.wch.marginGrp.getD room 0))))
    ((mgK 0).setPlane 3 0 3 |>.seti CFG_ROOM_STAT_ACT_BANK 3 3 |>.set WCH_CTRL_REFRESH_EN 1) 3 [mf 1]) ∧
  ((fun (s : State) (room : Nat) (l : List MarginFind) =>
    ((fun g => (room < 24) ∧ (s.wch.marginGrp.length = 24) ∧ (s.wch.marginDue = false) ∧ (s.flag WCH_MARGIN_BUSY = true) ∧ (g ≠ 1920) ∧ (s.sessionRooms.contains room = false) ∧ (s.stgBank room ≠ 1) ∧ (match (l) with | [x] => decide ((x.cls = 2) ∧ (s.flag WCH_CTRL_REFRESH_EN = false)) | _ => false) = true) (s.marginNext room (s.wch.marginGrp.getD room 0))))
    (mgB.set WCH_CTRL_REFRESH_EN 0) 3 [mf 2]) ∧
  ((fun (s : State) (room : Nat) (_l : List MarginFind) =>
    ((room < 24) ∧ (s.flag WCH_MARGIN_BUSY = false ∨ s.sessionRooms.contains room = true ∨ s.stgBank room = 1)))
    mg 3 []) := by
  beta_reduce; decide +kernel

-- For Obligations.HostLinkTrainingAndResets.
theorem witness_HostLinkUp :
  ((fun (s : State) (_t : Nat) =>
    ((s.hlk.perstLow = true) ∧ (s.get PWR_STATE_CUR ≠ 4)))
    (hlk (fun h => {h with perstLow := true}) R) 100) ∧
  ((fun (s : State) (_t : Nat) =>
    ((s.hlk.perstLow = true) ∧ (s.get PWR_STATE_CUR = 4) ∧ (s.pwr.vote = none) ∧ (s.pwr.entering = none) ∧ (s.pwr.waking = none) ∧ (bitB (s.get PWR_WAKE_SRC) 0 = true)))
    (off4.set PWR_WAKE_SRC 1) 100) ∧
  ((fun (s : State) (_t : Nat) =>
    ((s.hlk.perstLow = false) ∧ (s.hlk.timeline.isSome = true)))
    tl 100) ∧
  ((fun (s : State) (_t : Nat) (_us : Nat) (_bad : Bool) =>
    ((s.hlk.timeline.isSome = true) ∧ (s.hlk.perstLow = false) ∧ (s.domOn 26 = true) ∧ (s.flag HLK_STAT_CFG_READY = false)))
    tl 100 5 true) ∧
  ((fun (s : State) (_t : Nat) (_us : Nat) (_bad : Bool) =>
    (s.flag HLK_STAT_CFG_READY = true ∨ s.hlk.perstLow = true ∨ s.hlk.timeline = none))
    rdy 100 5 false) ∧
  ((fun (s : State) (_rate : Nat) (_width : Nat) (_e : HostEnum) (_flit : Bool) (_vf : Bool) (_pme : Bool) =>
    ((s.flag HLK_STAT_CFG_READY = true) ∧ (s.domOn 26 = true)))
    rdy 5 4 (he 0x1FFFF 3) true true true) ∧
  ((fun (s : State) (_rate : Nat) (_width : Nat) (_e : HostEnum) (_flit : Bool) (_vf : Bool) (_pme : Bool) =>
    (s.flag HLK_STAT_CFG_READY = false ∨ s.domOn 26 = false))
    R 5 4 (he 0x1FFFF 3) true true true) ∧
  ((fun (s : State) =>
    (s.flag HLK_STAT_LINK_UP = true))
    up) ∧
  ((fun (s : State) =>
    (s.flag HLK_STAT_LINK_UP = false))
    rdy) ∧
  ((fun (s : State) =>
    ((s.flag HLK_STAT_CFG_READY = true) ∧ (s.hlk.perstLow = false) ∧ (s.flag KMI_CTRL_FW_READY = true)))
    rdy) ∧
  ((fun (s : State) =>
    (s.flag HLK_STAT_CFG_READY = false ∨ s.hlk.perstLow = true ∨ s.flag KMI_CTRL_FW_READY = false))
    R) ∧
  ((fun (s : State) (n : Nat) =>
    ((s.flag HLK_STAT_LINK_UP = false ∨ 3 < n ∨ (1 < n ∧ s.clkreq = false))))
    up 3) ∧
  ((fun (s : State) (n : Nat) =>
    ((s.flag HLK_STAT_LINK_UP = true) ∧ (n ≤ 1 ∨ (n ≤ 3 ∧ s.clkreq = true))))
    (pinCk up) 3) ∧
  ((fun (s : State) (fn : Nat) (d : Bool) =>
    ((fn < 65) ∧ (d = true ∨ bitB s.hlk.d3 fn = false ∨ s.get PWR_STATE_CUR ≠ 3)))
    up 64 true) ∧
  ((fun (s : State) (fn : Nat) (d : Bool) =>
    ((fn < 65) ∧ (d = false) ∧ (bitB s.hlk.d3 fn = true) ∧ (s.get PWR_STATE_CUR = 3) ∧ (s.pwr.vote = none) ∧ (s.pwr.entering = none) ∧ (s.pwr.waking = none) ∧ (bitB (s.get PWR_WAKE_SRC) 0 = true)))
    (hlk (fun h => {h with d3 := 5}) ((up.set PWR_STATE_CUR 3).set PWR_WAKE_SRC 1)) 2 false) ∧
  ((fun (s : State) (m : Nat) (c : KmiCmd) =>
    ((KmiReady s 0x0505 m c) ∧ (32 + bits c.a1 26 16 + 63 * bits c.a1 42 32 ≤ 2048)))
    (PDx R (K 0x505 0x123456789 (5 + 8 * 4 + 65536 * 100 + 2^32 * 3) [])) 0 ((K 0x505 0x123456789 (5 + 8 * 4 + 65536 * 100 + 2^32 * 3) []))) ∧
  ((fun (s : State) (m : Nat) (c : KmiCmd) =>
    ((KmiReady s 0x0505 m c) ∧ (2048 < 32 + bits c.a1 26 16 + 63 * bits c.a1 42 32)))
    (PDx R (K 0x505 0x123456789 (5 + 8 * 4 + 65536 * 100 + 2^32 * 300) [])) 0 ((K 0x505 0x123456789 (5 + 8 * 4 + 65536 * 100 + 2^32 * 300) []))) := by
  beta_reduce; decide +kernel

-- For Obligations.HostLinkTrainingAndResets.
theorem witness_HostLinkResets :
  ((fun (_s : State) (v : Nat) =>
    ((v ≠ 0) ∧ (v < 64)))
    ringy 4) ∧
  ((fun (_s : State) (fn : Nat) =>
    (fn < 65))
    ringy 5) := by
  beta_reduce; decide +kernel

-- For Obligations.CoherentMemory.
theorem witness_CoherentMemory :
  ((fun (s : State) (_b : Nat) (n : Nat) (w : Nat) (k : Nat) =>
    ((s.flag HLK_STAT_HDM_COMMITTED = false) ∧ (s.flag HLK_STAT_CFG_READY = true) ∧ (s.domOn 26 = true) ∧ (w = 1) ∧ (k = 0) ∧ (n % 2 ^ 28 = 0) ∧ (n ≤ min 512 (s.get HLK_HDM_LIMIT) * 2 ^ 28) ∧ (s.hdmDpa + n ≤ s.dmcCap)))
    ((rdy.set DMC_GEOM_CAP_GIB 1).set HLK_HDM_LIMIT 4) 0x40000000 (2^28) 1 0) ∧
  ((fun (s : State) (_b : Nat) (n : Nat) (w : Nat) (k : Nat) =>
    ((s.flag HLK_STAT_HDM_COMMITTED = false) ∧ (s.flag HLK_STAT_CFG_READY = true) ∧ (s.domOn 26 = true) ∧ (w ≠ 1 ∨ k ≠ 0 ∨ n % 2 ^ 28 ≠ 0 ∨ min 512 (s.get HLK_HDM_LIMIT) * 2 ^ 28 < n ∨ s.dmcCap < s.hdmDpa + n)))
    ((rdy.set DMC_GEOM_CAP_GIB 1).set HLK_HDM_LIMIT 4) 0x40000000 (2^28) 2 0) ∧
  ((fun (s : State) (_b : Nat) (_n : Nat) (_w : Nat) (_k : Nat) =>
    (s.flag HLK_STAT_HDM_COMMITTED = true ∨ s.flag HLK_STAT_CFG_READY = false ∨ s.domOn 26 = false))
    hd 0x40000000 (2^28 + 1) 1 0) ∧
  ((fun (s : State) (a : Nat) (_tag : Nat) (e : Nat) (_d : List Nat) (_p : Bool) =>
    ((fun dpa => (s.flag HLK_STAT_HDM_COMMITTED = true) ∧ (s.flag HLK_STAT_CXL_MEM = true) ∧ (s.domOn 26 = true) ∧ (s.get PWR_STATE_CUR < 2) ∧ (e ≤ 1) ∧ (s.hlk.hdmBase ≤ a - a % 64) ∧ (a - a % 64 < s.hlk.hdmBase + s.hlk.hdmSize)) (s.hdmDpa + (a - a % 64 - s.hlk.hdmBase))) ∧
    ((fun dpa => (s.flag HLK_STAT_HDM_COMMITTED = true) ∧ (s.flag HLK_STAT_CXL_MEM = true) ∧ (s.domOn 26 = true) ∧ (s.get PWR_STATE_CUR < 2) ∧ (e ≤ 1) ∧ (s.hlk.hdmBase ≤ a - a % 64) ∧ (a - a % 64 < s.hlk.hdmBase + s.hlk.hdmSize) ∧ (s.dmcTakes = true) ∧ (e = 0) ∧ ((s.lineView (dpa / 64)).2 = false)) (s.hdmDpa + (a - a % 64 - s.hlk.hdmBase))))
    ((hd.set DMC_CFG_EN 1).set DMC_STAT_TRAINED 1) (0x40000000 + 65536 + 70) 9 0 (List.range 64) false) ∧
  ((fun (s : State) (a : Nat) (_tag : Nat) (e : Nat) (_d : List Nat) (_p : Bool) =>
    ((fun dpa => (s.flag HLK_STAT_HDM_COMMITTED = true) ∧ (s.flag HLK_STAT_CXL_MEM = true) ∧ (s.domOn 26 = true) ∧ (s.get PWR_STATE_CUR < 2) ∧ (e ≤ 1) ∧ (s.hlk.hdmBase ≤ a - a % 64) ∧ (a - a % 64 < s.hlk.hdmBase + s.hlk.hdmSize) ∧ (s.dmcTakes = true) ∧ (e = 1 ∨ (s.lineView (dpa / 64)).2 = true)) (s.hdmDpa + (a - a % 64 - s.hlk.hdmBase))))
    ((hd.set DMC_CFG_EN 1).set DMC_STAT_TRAINED 1) (0x40000000 + 65536 + 70) 9 1 (List.range 64) false) ∧
  ((fun (s : State) (_a : Nat) (_tag : Nat) (_e : Nat) (_d : Option (List Nat)) (_p : Bool) =>
    (s.flag HLK_STAT_CXL_MEM = false ∨ s.domOn 26 = false ∨ 3 ≤ s.get PWR_STATE_CUR))
    R 1 2 0 none false) ∧
  ((fun (s : State) (_k : Nat) (_a : Nat) =>
    (s.flag HLK_STAT_CXL_CACHE = true))
    hd 1 77) ∧
  ((fun (s : State) (_k : Nat) (_a : Nat) =>
    (s.flag HLK_STAT_CXL_CACHE = false))
    R 1 2) ∧
  ((fun (s : State) (p : Nat) =>
    ((s.hlk.flip = none) ∧ (s.flag HLK_STAT_HDM_COMMITTED = true) ∧ (65536 * p < s.hlk.hdmSize)))
    hd 2) ∧
  ((fun (s : State) (p : Nat) =>
    (s.hlk.flip ≠ none ∨ s.flag HLK_STAT_HDM_COMMITTED = false ∨ s.hlk.hdmSize ≤ 65536 * p))
    hd 20000) ∧
  ((fun (s : State) =>
    ((match (s.hlk.flip) with | some (p, c) => decide (True) | _ => false) = true))
    big) ∧
  ((fun (s : State) =>
    (s.hlk.flip = none))
    R) ∧
  ((fun (s : State) (m : Nat) (c : KmiCmd) =>
    ((KmiReady s 0x0504 m c) ∧ (s.flag HLK_STAT_HDM_COMMITTED = false)))
    (PDx R (K 0x504 2 0 [])) 0 (K 0x504 2 0 [])) ∧
  ((fun (s : State) (m : Nat) (c : KmiCmd) =>
    ((KmiReady s 0x0504 m c) ∧ (s.flag HLK_STAT_HDM_COMMITTED = true) ∧ (s.hlk.flip ≠ none)))
    (PDx big (K 0x504 2 0 [])) 0 (K 0x504 2 0 [])) ∧
  ((fun (s : State) (m : Nat) (c : KmiCmd) =>
    ((KmiReady s 0x0504 m c) ∧ (s.flag HLK_STAT_HDM_COMMITTED = true) ∧ (s.hlk.flip = none) ∧ (s.hlk.hdmSize ≤ 65536 * bits c.a0 20 0)))
    (PDx hd (K 0x504 20000 0 [])) 0 (K 0x504 20000 0 [])) ∧
  ((fun (s : State) (m : Nat) (c : KmiCmd) =>
    ((KmiReady s 0x0504 m c) ∧ (s.flag HLK_STAT_HDM_COMMITTED = true) ∧ (s.hlk.flip = none) ∧ (65536 * bits c.a0 20 0 < s.hlk.hdmSize)))
    (PDx hd (K 0x504 2 0 [])) 0 (K 0x504 2 0 [])) ∧
  ((fun (s : State) (m : Nat) (c : KmiCmd) =>
    ((KmiReady s 0x0503 m c) ∧ (s.flag HLK_STAT_HDM_COMMITTED = false) ∧ (bits c.a0 36 0 % 2 ^ 28 = 0)))
    (PDx R (K 0x503 (2^29) 4 [])) 0 (K 0x503 (2^29) 4 [])) ∧
  ((fun (s : State) (m : Nat) (c : KmiCmd) =>
    ((KmiReady s 0x0503 m c) ∧ (s.flag HLK_STAT_HDM_COMMITTED = true)))
    (PDx hd (K 0x503 (2^29) 4 [])) 0 (K 0x503 (2^29) 4 [])) ∧
  ((fun (s : State) (m : Nat) (c : KmiCmd) =>
    ((KmiReady s 0x0503 m c) ∧ (s.flag HLK_STAT_HDM_COMMITTED = false) ∧ (bits c.a0 36 0 % 2 ^ 28 ≠ 0)))
    (PDx R (K 0x503 (2^29+1) 4 [])) 0 (K 0x503 (2^29+1) 4 [])) := by
  beta_reduce; decide +kernel

-- For Obligations.PowerControl.
theorem witness_PowerControl :
  ((fun (s : State) (t : Nat) (p : Bool) =>
    ((fun w => (w.flag PWR_CTRL_AUTO_EN = true) ∧ (w.get PWR_STATE_CUR = 0) ∧ (w.pwr.vote = none) ∧ (w.pwr.entering = none) ∧ (w.pwr.waking = none) ∧ (w.flag TCK_CTRL_EN = false ∨ w.get TCK_STATUS_STATE = 4 ∨ w.tick.tickOpen = false ∨ w.tick.rest = true) ∧ (fun k => (2 ≤ k) ∧ ((∀ i < 12, (w.refuses k i || (i == 3 && !p)) = false))) (w.pwrChoice p)) ((s.setNow t).pwrShow)))
    R tt true) ∧
  ((fun (s : State) (t : Nat) (p : Bool) =>
    ((fun w => (w.flag PWR_CTRL_AUTO_EN = true) ∧ (w.get PWR_STATE_CUR = 0) ∧ (w.pwr.vote = none) ∧ (w.pwr.entering = none) ∧ (w.pwr.waking = none) ∧ (w.flag TCK_CTRL_EN = false ∨ w.get TCK_STATUS_STATE = 4 ∨ w.tick.tickOpen = false ∨ w.tick.rest = true) ∧ (w.pwrChoice p = 0)) ((s.setNow t).pwrShow)))
    quiet 1 true) ∧
  ((fun (s : State) (t : Nat) (p : Bool) =>
    ((fun w => (w.flag PWR_CTRL_AUTO_EN = true) ∧ (w.get PWR_STATE_CUR = 0) ∧ (w.pwr.vote = none) ∧ (w.pwr.entering = none) ∧ (w.pwr.waking = none) ∧ (w.flag TCK_CTRL_EN = false ∨ w.get TCK_STATUS_STATE = 4 ∨ w.tick.tickOpen = false ∨ w.tick.rest = true) ∧ (w.pwrChoice p = 1)) ((s.setNow t).pwrShow)))
    quiet 2560000 true) ∧
  ((fun (s : State) (t : Nat) (p : Bool) =>
    ((fun w => (w.flag PWR_CTRL_AUTO_EN = true) ∧ (w.get PWR_STATE_CUR = 0) ∧ (w.pwr.vote = none) ∧ (w.pwr.entering = none) ∧ (w.pwr.waking = none) ∧ (w.flag TCK_CTRL_EN = false ∨ w.get TCK_STATUS_STATE = 4 ∨ w.tick.tickOpen = false ∨ w.tick.rest = true) ∧ (fun k => ((List.range 64).any fun i => decide ((2 ≤ k) ∧ (i < 12) ∧ ((w.refuses k i || (i == 3 && !p)) = true) ∧ ((∀ j < i, (w.refuses k j || (j == 3 && !p)) = false)))) = true) (w.pwrChoice p)) ((s.setNow t).pwrShow)))
    ({slp with io := {slp.io with busy := 1}}) (tt*1000) true) ∧
  ((fun (s : State) (t : Nat) (_p : Bool) =>
    ((fun w => (w.flag PWR_CTRL_AUTO_EN = false ∨ w.get PWR_STATE_CUR ≠ 0 ∨ w.pwr.vote.isSome = true ∨ w.pwr.entering.isSome = true ∨ w.pwr.waking.isSome = true ∨ (w.flag TCK_CTRL_EN = true ∧ w.get TCK_STATUS_STATE ≠ 4 ∧ w.tick.tickOpen = true ∧ w.tick.rest = false))) ((s.setNow t).pwrShow)))
    (R.set PWR_CTRL_AUTO_EN 0) tt true) ∧
  ((fun (s : State) (t : Nat) (b : Bool) =>
    ((match (s.pwr.vote) with | some (k, n) => decide ((n < 11) ∧ ((s.setNow t).refuses k (n + 1) = false) ∧ (b = false)) | _ => false) = true))
    (vt 3 9) 100 false) ∧
  ((fun (s : State) (t : Nat) (b : Bool) =>
    ((match (s.pwr.vote) with | some (k, n) => decide ((n < 11) ∧ (((s.setNow t).refuses k (n + 1) = true ∨ b = true))) | _ => false) = true))
    (vt 3 3) 100 true) ∧
  ((fun (s : State) (_t : Nat) (_b : Bool) =>
    ((match (s.pwr.vote) with | some (k, n) => decide ((11 ≤ n)) | _ => false) = true))
    (vt 3 11) 100 true) ∧
  ((fun (s : State) (_t : Nat) (_b : Bool) =>
    (s.pwr.vote = none))
    R 5 true) ∧
  ((fun (s : State) (t : Nat) =>
    ((match (s.pwr.backoff) with | some b => decide ((timeGe t b = true)) | _ => false) = true))
    ({R with pwr := {R.pwr with backoff := some 5}}) 100) ∧
  ((fun (s : State) (t : Nat) =>
    ((match (s.pwr.backoff) with | some b => decide ((timeGe t b = false)) | _ => false) = true))
    ({R with pwr := {R.pwr with backoff := some 500}}) 100) ∧
  ((fun (s : State) (_t : Nat) =>
    (s.pwr.backoff = none))
    R 100) ∧
  ((fun (s : State) (m : Nat) (c : KmiCmd) =>
    (KmiReady s 0x0903 m c))
    (PDx R (K 0x903 6 0 [])) 0 (K 0x903 6 0 [])) ∧
  ((fun (s : State) (m : Nat) (c : KmiCmd) =>
    ((KmiReady s 0x0904 m c) ∧ (c.a0 < 2 ^ 24) ∧ (c.a1 < 2) ∧ ((∀ r ∈ s.kmi.running, runOp 0x0904 r = false)) ∧ ((∀ r ∈ bitList c.a0 24, s.sessionRooms.contains r = false ∧ bitB s.slotRooms r = false)) ∧ (c.a1 = 0)))
    (PDx R (K 0x904 8 0 [])) 0 (K 0x904 8 0 [])) ∧
  ((fun (s : State) (m : Nat) (c : KmiCmd) =>
    ((KmiReady s 0x0904 m c) ∧ (c.a0 < 2 ^ 24) ∧ (c.a1 < 2) ∧ ((∀ r ∈ s.kmi.running, runOp 0x0904 r = false)) ∧ ((∀ r ∈ bitList c.a0 24, s.sessionRooms.contains r = false ∧ bitB s.slotRooms r = false)) ∧ (c.a1 = 1) ∧ ((bitList c.a0 24).any fun r => decide ((s.roomOn r = false) ∧ (s.plane r (bits (s.sel r) 0 0) = 3))) = true))
    (PDx offR (K 0x904 8 1 [])) 0 (K 0x904 8 1 [])) ∧
  ((fun (s : State) (m : Nat) (c : KmiCmd) =>
    ((KmiReady s 0x0904 m c) ∧ (c.a0 < 2 ^ 24) ∧ (c.a1 < 2) ∧ ((∀ r ∈ s.kmi.running, runOp 0x0904 r = false)) ∧ ((bitList c.a0 24).any fun r => decide ((s.sessionRooms.contains r = true))) = true))
    (PDx ses (K 0x904 8 1 [])) 0 (K 0x904 8 1 [])) ∧
  ((fun (s : State) (m : Nat) (c : KmiCmd) =>
    ((KmiReady s 0x0904 m c) ∧ (c.a0 < 2 ^ 24) ∧ (c.a1 < 2) ∧ ((∀ r ∈ s.kmi.running, runOp 0x0904 r = false)) ∧ ((∀ r ∈ bitList c.a0 24, s.sessionRooms.contains r = false ∧ bitB s.slotRooms r = false)) ∧ (c.a1 = 1) ∧ ((∀ r ∈ bitList c.a0 24, s.roomOn r = true ∧ bitB s.cfg.filling r = false))))
    (PDx R (K 0x904 8 1 [])) 0 (K 0x904 8 1 [])) ∧
  ((fun (s : State) (m : Nat) (c : KmiCmd) =>
    ((KmiReady s 0x0904 m c) ∧ ((2 ^ 24 ≤ c.a0 ∨ 2 ≤ c.a1)) ∧ ((∀ r ∈ s.kmi.running, runOp 0x0904 r = false))))
    (PDx ses (K 0x904 (2^24) 1 [])) 0 (K 0x904 (2^24) 1 [])) ∧
  ((fun (s : State) (m : Nat) (c : KmiCmd) =>
    (KmiReady s 0x0905 m c))
    (PDx ses (K 0x905 0 0 [])) 0 (K 0x905 0 0 [])) := by
  beta_reduce; decide +kernel

end C09

/-! ### Witnesses: Life cycle, debug, Ledger, BIST -/

namespace C10

def K (op : Nat) (a0 a1 : Nat) (d : List Nat) : KmiCmd := cmdOf op a0 a1 d
def Px (lc lev : Nat) (s : State) (c : KmiCmd) : State := postedIn ((s.set TGT_DBG_LEVEL lev).set TGT_LC_STATE lc) c
def vrow (k : Nat) : List Nat := let d := (k :: List.replicate 123 1); d ++ leBytes 4 (crc32 d)
def otpRows (rs : List Nat) (s : State) : State := { s with otp := rs.foldl (fun m r => Assoc.writeRun 0 (128*r) (vrow 2) m) s.otp }
def allR := otpRows [0,1,6,7,8,9,10,11,16,17,18,20] R
def noR := otpRows [10,11] R
def otpByte (a v : Nat) (s : State) : State := { s with otp := Assoc.write 0 a v s.otp }
def tok (b : Nat) : List Nat := b :: List.replicate 95 2
def ch (n : Nat) : List Nat := List.replicate 36 7 ++ [n] ++ List.replicate 11 0
def chS (lc n : Nat) (s : State) : State := { s with lc := { s.lc with chal := some (ch n) } }
def kq (op a0 : Nat) (a1 a2 : Nat) (d : List Nat) : KmiCmd := cmd4 op a0 a1 a2 0 d
def lrec (n : Nat) : LedgerRec := ⟨n, 5, 0, 3, 0, 77, 8⟩
def ldgN (n : Nat) (s : State) : State := { s with ldg := { s.ldg with buf := (List.range n).map lrec } }
def bs (st : Nat) (todo : List Nat) (on : Bool) (s : State) : State := { s.set BST_STAT_STATE st with bist := { s.bist with todo := todo, onCommand := on } }
def run1 (op k : Nat) : RunCmd := ⟨2, cmdOf op 0 0 [], true, false, k⟩
def vt (k n : Nat) : State := { R with pwr := { R.pwr with vote := some (k, n) } }
def d2S : State := (roomUp R 3).set TGT_DBG_LEVEL 3 |>.set TGT_DBG_AUTH 3
def offP : State := { R with boot := { R.boot with powered := false } }
def inOff (todo : List Nat) (s : State) : State := let s := bs 1 todo false s; { s with pwr := { s.pwr with entering := some 4 } }
def arN (n : Nat) : State := (ldgN n Rf).set LDG_CTRL_ARCH_EN 1
def prot (s : State) : State := { s.set PNT_PROT_MARKS 0xFFFF with pnt := { s.pnt with nvwp := false } }

-- For Obligations.LifeCycleTransitions.
theorem witness_LifeCycleTransitions :
  ((fun (s : State) (m : Nat) (c : KmiCmd) =>
    (KmiReady s 0x0A01 m c))
    (Px 2 3 R (K 0xA01 0 0 [])) 0 (K 0xA01 0 0 [])) ∧
  ((fun (s : State) (m : Nat) (c : KmiCmd) =>
    ((fun k => (KmiReady s 0x0A02 m c) ∧ (bits c.a0 2 0 = k + 1) ∧ (k ≤ 3) ∧ (c.dataIn.length = 96) ∧ (s.flag TGT_LC_INCOMPLETE = false) ∧ (s.flag TGT_LC_LC_BAD = false) ∧ True) (s.get TGT_LC_STATE)))
    (Px 2 3 R (K 0xA02 3 0 (tok 2))) 0 (K 0xA02 3 0 (tok 2))) ∧
  ((fun (s : State) (m : Nat) (c : KmiCmd) =>
    ((fun k => (KmiReady s 0x0A02 m c) ∧ (bits c.a0 2 0 ≠ 5) ∧ (c.dataIn.length = 96) ∧ ((bits c.a0 2 0 ≠ k + 1 ∨ 3 < k ∨ s.flag TGT_LC_INCOMPLETE = true ∨ s.flag TGT_LC_LC_BAD = true))) (s.get TGT_LC_STATE)))
    (Px 2 3 R (K 0xA02 4 0 (tok 2))) 0 (K 0xA02 4 0 (tok 2))) ∧
  ((fun (s : State) (m : Nat) (c : KmiCmd) =>
    ((fun k => (KmiReady s 0x0A02 m c) ∧ (bits c.a0 2 0 = 5 ∨ c.dataIn.length ≠ 96)) (s.get TGT_LC_STATE)))
    (Px 2 3 R (K 0xA02 5 0 (tok 2))) 0 (K 0xA02 5 0 (tok 2))) ∧
  ((fun (s : State) (m : Nat) (c : KmiCmd) =>
    ((fun k => (KmiReady s 0x0A07 m c) ∧ (s.flag TGT_LC_INCOMPLETE = false) ∧ (k = 0) ∧ (c.dataIn = [] ∨ c.dataIn.length = 96)) (s.get TGT_LC_STATE)))
    (Px 0 3 R (K 0xA07 2 0 [])) 0 (K 0xA07 2 0 [])) ∧
  ((fun (s : State) (m : Nat) (c : KmiCmd) =>
    ((fun k => (KmiReady s 0x0A07 m c) ∧ (s.flag TGT_LC_INCOMPLETE = false) ∧ (k = 1 ∨ k = 4 ∨ (k = 2 ∧ rowValid (s.otpRow 11) = false)) ∧ (c.dataIn.length = 96) ∧ True) (s.get TGT_LC_STATE)))
    (Px 4 3 R (K 0xA07 2 0 (tok 3))) 0 (K 0xA07 2 0 (tok 3))) ∧
  ((fun (s : State) (m : Nat) (c : KmiCmd) =>
    ((fun k => (KmiReady s 0x0A07 m c) ∧ (s.flag TGT_LC_INCOMPLETE = false) ∧ (k = 3) ∧ (c.dataIn.length = 96) ∧ True) (s.get TGT_LC_STATE)))
    (Px 3 3 R (K 0xA07 2 0 (tok 2))) 0 (K 0xA07 2 0 (tok 2))) ∧
  ((fun (s : State) (m : Nat) (c : KmiCmd) =>
    ((fun k => (KmiReady s 0x0A07 m c) ∧ (s.flag TGT_LC_INCOMPLETE = true ∨ 5 ≤ k)) (s.get TGT_LC_STATE)))
    (Px 3 3 (R.set TGT_LC_INCOMPLETE 1) (K 0xA07 2 0 (tok 2))) 0 (K 0xA07 2 0 (tok 2))) ∧
  ((fun (s : State) (m : Nat) (c : KmiCmd) =>
    ((fun k => (KmiReady s 0x0A07 m c) ∧ (s.flag TGT_LC_INCOMPLETE = false) ∧ (k < 5) ∧ (c.dataIn.length ≠ 96) ∧ ((k = 0 → c.dataIn ≠ [])) ∧ ((k = 2 → rowValid (s.otpRow 11) = true → c.dataIn.length ≠ 192))) (s.get TGT_LC_STATE)))
    (Px 1 3 R (K 0xA07 2 0 [3])) 0 (K 0xA07 2 0 [3])) ∧
  ((fun (s : State) (m : Nat) (c : KmiCmd) =>
    ((fun k => (KmiReady s 0x0A07 m c) ∧ (s.flag TGT_LC_INCOMPLETE = false) ∧ (k = 2) ∧ (rowValid (s.otpRow 11) = true) ∧ (c.dataIn.length = 192) ∧ True) (s.get TGT_LC_STATE)))
    (Px 2 3 (otpRows [11] R) (K 0xA07 2 0 (tok 2 ++ tok 2))) 0 (K 0xA07 2 0 (tok 2 ++ tok 2))) ∧
  ((fun (s : State) (m : Nat) (c : KmiCmd) =>
    ((KmiReady s 0x0A06 m c) ∧ (bits c.a0 7 0 < 16) ∧ ((c.dataIn.length = 32 ∨ c.dataIn.length = 96)) ∧ ((s.otpRow (16 + bits c.a0 7 0)).all (· == 0) = true) ∧ (s.flag OTP_STAT_BUSY = false)))
    (Px 2 3 R (K 0xA06 7 0 (List.range 32))) 0 (K 0xA06 7 0 (List.range 32))) ∧
  ((fun (s : State) (m : Nat) (c : KmiCmd) =>
    ((KmiReady s 0x0A06 m c) ∧ (bits c.a0 7 0 < 16) ∧ ((c.dataIn.length = 32 ∨ c.dataIn.length = 96)) ∧ ((s.otpRow (16 + bits c.a0 7 0)).all (· == 0) = false)))
    (Px 2 3 (otpByte 2560 1 R) (K 0xA06 4 0 (List.range 96))) 0 (K 0xA06 4 0 (List.range 96))) ∧
  ((fun (s : State) (m : Nat) (c : KmiCmd) =>
    ((KmiReady s 0x0A06 m c) ∧ (bits c.a0 7 0 < 16) ∧ ((c.dataIn.length = 32 ∨ c.dataIn.length = 96)) ∧ ((s.otpRow (16 + bits c.a0 7 0)).all (· == 0) = true) ∧ (s.flag OTP_STAT_BUSY = true)))
    (Px 2 3 (R.set OTP_STAT_BUSY 1) (K 0xA06 7 0 (List.range 96))) 0 (K 0xA06 7 0 (List.range 96))) ∧
  ((fun (s : State) (m : Nat) (c : KmiCmd) =>
    ((KmiReady s 0x0A06 m c) ∧ (16 ≤ bits c.a0 7 0 ∨ (c.dataIn.length ≠ 32 ∧ c.dataIn.length ≠ 96))))
    (Px 2 3 (R.set OTP_STAT_BUSY 1) (K 0xA06 17 0 (List.range 96))) 0 (K 0xA06 17 0 (List.range 96))) := by
  beta_reduce; decide +kernel

-- For Obligations.DebugLevelsAndJtag.
theorem witness_DebugLevels :
  ((fun (s : State) (m : Nat) (c : KmiCmd) =>
    ((KmiReady s 0x0A03 m c) ∧ (bits c.a0 1 0 ≠ 0) ∧ (s.debugAuth (bits c.a0 1 0) = [])))
    (Px 2 3 R (K 0xA03 3 0 [])) 0 (K 0xA03 3 0 [])) ∧
  ((fun (s : State) (m : Nat) (c : KmiCmd) =>
    ((KmiReady s 0x0A03 m c) ∧ ((bits c.a0 1 0 = 0 ∨ s.debugAuth (bits c.a0 1 0) ≠ [])) ∧ ((s.lc.backoff = 0 ∨ timeGe s.now s.lc.backoff = true))))
    (Px 2 3 R (K 0xA03 2 0 [])) 0 (K 0xA03 2 0 [])) ∧
  ((fun (s : State) (m : Nat) (c : KmiCmd) =>
    ((KmiReady s 0x0A03 m c) ∧ ((bits c.a0 1 0 = 0 ∨ s.debugAuth (bits c.a0 1 0) ≠ [])) ∧ (s.lc.backoff ≠ 0) ∧ (timeGe s.now s.lc.backoff = false)))
    (Px 2 3 {R with lc := {R.lc with backoff := 100}} (K 0xA03 2 0 [])) 0 (K 0xA03 2 0 [])) ∧
  ((fun (s : State) (m : Nat) (c : KmiCmd) =>
    ((fun n => (KmiReady s 0x0A04 m c) ∧ (c.dataIn.length = 96) ∧ (n ≠ 0) ∧ (3 ∉ s.debugAuth n) ∧ (s.debugAuth n ≠ []) ∧ True) (bits c.a0 1 0)))
    (Px 1 3 (chS 1 2 R) (K 0xA04 2 0 (tok 2))) 0 (K 0xA04 2 0 (tok 2))) ∧
  ((fun (s : State) (m : Nat) (c : KmiCmd) =>
    ((fun n => (KmiReady s 0x0A04 m c) ∧ (c.dataIn.length ≠ 96)) (bits c.a0 1 0)))
    (Px 1 3 (chS 1 2 R) (K 0xA04 2 0 [3])) 0 (K 0xA04 2 0 [3])) ∧
  ((fun (s : State) (m : Nat) (c : KmiCmd) =>
    ((fun n => (KmiReady s 0x0A04 m c) ∧ (c.dataIn.length = 96) ∧ (n = 0)) (bits c.a0 1 0)))
    (Px 1 3 (chS 1 2 R) (K 0xA04 0 0 (tok 3))) 0 (K 0xA04 0 0 (tok 3))) ∧
  ((fun (s : State) (m : Nat) (c : KmiCmd) =>
    ((fun n => (KmiReady s 0x0A04 m c) ∧ (c.dataIn.length = 96) ∧ (n ≠ 0) ∧ (s.debugAuth n = [])) (bits c.a0 1 0)))
    (Px 2 3 (chS 1 2 R) (K 0xA04 3 0 (tok 3))) 0 (K 0xA04 3 0 (tok 3))) ∧
  ((fun (s : State) (m : Nat) (c : KmiCmd) =>
    ((fun n => (KmiReady s 0x0A04 m c) ∧ (c.dataIn.length = 96) ∧ (n ≠ 0) ∧ (3 ∈ s.debugAuth n)) (bits c.a0 1 0)))
    (Px 0 3 (chS 1 2 R) (K 0xA04 3 0 (tok 3))) 0 (K 0xA04 3 0 (tok 3))) ∧
  ((fun (s : State) (m : Nat) (c : KmiCmd) =>
    (KmiReady s 0x0A05 m c))
    (Px 2 3 (chS 1 2 R) (K 0xA05 3 0 [])) 0 (K 0xA05 3 0 [])) ∧
  ((fun (s : State) =>
    (s.lc.chal ≠ none))
    (chS 1 2 R)) ∧
  ((fun (s : State) =>
    (s.lc.chal = none))
    R) ∧
  ((fun (s : State) (m : Nat) (c : KmiCmd) =>
    ((KmiReady s 0x0A08 m c) ∧ (bits c.a0 4 0 < 24) ∧ (bits c.a2 16 0 ≠ 0) ∧ (bits c.a1 16 0 + bits c.a2 16 0 ≤ 3200) ∧ (s.roomActive (bits c.a0 4 0) = true) ∧ (s.ffAllowed (bits c.a0 4 0) = true)))
    (Px 2 3 (d2S) (kq 0xA08 3 10 20 [])) 0 (kq 0xA08 3 10 20 [])) ∧
  ((fun (s : State) (m : Nat) (c : KmiCmd) =>
    ((KmiReady s 0x0A08 m c) ∧ (bits c.a0 4 0 < 24) ∧ (bits c.a2 16 0 ≠ 0) ∧ (bits c.a1 16 0 + bits c.a2 16 0 ≤ 3200) ∧ (s.roomActive (bits c.a0 4 0) = true) ∧ (s.ffAllowed (bits c.a0 4 0) = false)))
    (Px 2 3 (d2S.set TGT_DBG_AUTH 1) (kq 0xA08 3 10 20 [])) 0 (kq 0xA08 3 10 20 [])) ∧
  ((fun (s : State) (m : Nat) (c : KmiCmd) =>
    ((KmiReady s 0x0A08 m c) ∧ (bits c.a0 4 0 < 24) ∧ (bits c.a2 16 0 ≠ 0) ∧ (bits c.a1 16 0 + bits c.a2 16 0 ≤ 3200) ∧ (s.roomActive (bits c.a0 4 0) = false)))
    (Px 2 3 (d2S) (kq 0xA08 4 10 20 [])) 0 (kq 0xA08 4 10 20 [])) ∧
  ((fun (s : State) (m : Nat) (c : KmiCmd) =>
    ((KmiReady s 0x0A08 m c) ∧ (24 ≤ bits c.a0 4 0 ∨ bits c.a2 16 0 = 0 ∨ 3200 < bits c.a1 16 0 + bits c.a2 16 0)))
    (Px 2 3 (d2S) (kq 0xA08 4 10 0 [])) 0 (kq 0xA08 4 10 0 [])) ∧
  ((fun (s : State) (n : Nat) (_r : List Nat) =>
    ((s.jtagOn = true) ∧ (s.domOn 25 = true) ∧ (n % 4 = 0 ∨ s.debugAuth (n % 4) ≠ []) ∧ (s.lc.backoff = 0 ∨ timeGe s.now s.lc.backoff = true)) ∧
    ((s.jtagOn = true) ∧ (s.domOn 25 = true)))
    (chS 1 2 R |>.set TGT_LC_STATE 1) 2 (tok 2)) ∧
  ((fun (s : State) (_n : Nat) (_r : List Nat) =>
    (s.jtagOn = false ∨ s.domOn 25 = false))
    offP 3 (tok 2)) ∧
  ((fun (s : State) (n : Nat) (_r : List Nat) =>
    ((s.jtagOn = true) ∧ (s.domOn 25 = true) ∧ ((n % 4 ≠ 0 ∧ s.debugAuth (n % 4) = []) ∨ (s.lc.backoff ≠ 0 ∧ timeGe s.now s.lc.backoff = false))))
    (chS 1 2 R |>.set TGT_LC_STATE 2) 3 (tok 2)) := by
  beta_reduce; decide +kernel

-- For Obligations.DebugLevelsAndJtag.
theorem witness_JtagInstructions :
  ((fun (s : State) =>
    (s.jtagOn = true) ∧
    ((s.jtagOn = true) ∧ (s.d2 = true)) ∧
    ((s.jtagOn = true) ∧ ((List.range 64).any fun room => decide (((List.range 64).any fun tile => decide ((room < 24) ∧ (tile < 3200) ∧ (s.roomActive room = true) ∧ (s.ffAllowed room = true))) = true)) = true) ∧
    ((s.jtagOn = true) ∧ ((List.range 64).any fun room => decide (((List.range 64).any fun tile => decide ((room < 24) ∧ (tile < 3200) ∧ (s.roomActive room = false ∨ s.ffAllowed room = false))) = true)) = true) ∧
    ((s.jtagOn = true) ∧ ((List.range 64).any fun n => decide ((0x30 ≤ n) ∧ (n ≤ 0x3F) ∧ (s.get TGT_DBG_LEVEL = 3))) = true))
    d2S) ∧
  ((fun (s : State) =>
    ((s.jtagOn = true) ∧ (s.d2 = false)) ∧
    ((s.jtagOn = true) ∧ ((List.range 64).any fun n => decide ((0x30 ≤ n) ∧ (n ≤ 0x3F) ∧ (s.get TGT_DBG_LEVEL ≠ 3))) = true))
    R) ∧
  ((fun (s : State) =>
    (s.jtagOn = false) ∧
    ((s.jtagOn = false) ∧ ((List.range 64).any fun r => decide (((List.range 64).any fun k => decide ((r < 24) ∧ (k < 3200))) = true)) = true) ∧
    ((s.jtagOn = false) ∧ ((List.range 64).any fun n => decide ((0x30 ≤ n) ∧ (n ≤ 0x3F))) = true))
    offP) := by
  beta_reduce; decide +kernel

-- For Obligations.LedgerRecords.
theorem witness_LedgerRecords :
  ((fun (s : State) (code : Nat) (d : Nat) (_t : Nat) =>
    ((fun n => (fun q => (code < 2 ^ 16) ∧ (d < 2 ^ 64) ∧ (s.domOn 25 = true) ∧ (s.flag LDG_CTRL_EN = true) ∧ (ledgerClass code = 0 ∨ s.tokensOf code ≠ 0) ∧ (s.ldg.buf.length < 1020) ∧ (s.ldg.droppedRun = 0)) (s.get LDG_HEAD_SEQ)) (Assoc.get 0 code s.ldg.suppressed)))
    R 0xA01 5 100) ∧
  ((fun (s : State) (code : Nat) (d : Nat) (_t : Nat) =>
    ((fun n => (fun q => (code < 2 ^ 16) ∧ (d < 2 ^ 64) ∧ (s.domOn 25 = true) ∧ (s.flag LDG_CTRL_EN = true) ∧ (ledgerClass code ≠ 0) ∧ (s.tokensOf code = 0)) (s.get LDG_HEAD_SEQ)) (Assoc.get 0 code s.ldg.suppressed)))
    ({R with ldg := {R.ldg with full1 := 0, full2 := 0}}) 0x713 5 100) ∧
  ((fun (s : State) (code : Nat) (d : Nat) (_t : Nat) =>
    ((fun n => (fun q => (code < 2 ^ 16) ∧ (d < 2 ^ 64) ∧ (s.domOn 25 = true) ∧ (s.flag LDG_CTRL_EN = true) ∧ (ledgerClass code = 0 ∨ s.tokensOf code ≠ 0) ∧ (1020 ≤ s.ldg.buf.length)) (s.get LDG_HEAD_SEQ)) (Assoc.get 0 code s.ldg.suppressed)))
    (ldgN 1020 R) 0xA01 5 100) ∧
  ((fun (s : State) (code : Nat) (d : Nat) (_t : Nat) =>
    ((fun n => (fun q => (code < 2 ^ 16) ∧ (d < 2 ^ 64) ∧ (s.domOn 25 = true) ∧ (s.flag LDG_CTRL_EN = false)) (s.get LDG_HEAD_SEQ)) (Assoc.get 0 code s.ldg.suppressed)))
    (R.set LDG_CTRL_EN 0) 0xA01 5 100) ∧
  ((fun (s : State) (code : Nat) (d : Nat) (_t : Nat) =>
    ((fun n => (fun q => (code < 2 ^ 16) ∧ (d < 2 ^ 64) ∧ (s.domOn 25 = true) ∧ (s.flag LDG_CTRL_EN = true) ∧ (ledgerClass code = 0 ∨ s.tokensOf code ≠ 0) ∧ (s.ldg.buf.length < 1019) ∧ (s.ldg.droppedRun ≠ 0) ∧ (n = 0)) (s.get LDG_HEAD_SEQ)) (Assoc.get 0 code s.ldg.suppressed)))
    ({R with ldg := {R.ldg with droppedRun := 5}}) 0xA01 5 100) ∧
  ((fun (s : State) (code : Nat) (d : Nat) (_t : Nat) =>
    ((code < 2 ^ 16) ∧ (d < 2 ^ 64) ∧ (s.domOn 25 = false) ∧ (s.ldg.aonQ.length < 16)))
    (R.set PWR_DOM_ON 0) 0xA01 5 100) ∧
  ((fun (s : State) (code : Nat) (d : Nat) (_t : Nat) =>
    ((code < 2 ^ 16) ∧ (d < 2 ^ 64) ∧ (s.domOn 25 = false) ∧ (16 ≤ s.ldg.aonQ.length)))
    ({(R.set PWR_DOM_ON 0) with ldg := {R.ldg with aonQ := (List.range 16).map lrec}}) 0xA01 5 100) ∧
  ((fun (_s : State) (code : Nat) (_at_ : Nat) =>
    ((code < 2 ^ 16) ∧ (code ≠ 0)) ∧
    ((code < 2 ^ 16) ∧ (ledgerClass code = 0)))
    R 0xA01 0) ∧
  ((fun (_s : State) (code : Nat) (_at_ : Nat) =>
    ((code < 2 ^ 16) ∧ (code = 0)))
    R 0 0) ∧
  ((fun (s : State) (code : Nat) (at_ : Nat) =>
    ((code < 2 ^ 16) ∧ (ledgerClass code ≠ 0) ∧ (at_ = ((Assoc.find? code s.ldg.tokenAt).getD s.boot.time0 + s.tokenPeriod (ledgerClass code)) % 2 ^ 64)))
    R 0x713 ((R.boot.time0 + R.tokenPeriod (ledgerClass 0x713)) % 2 ^ 64)) ∧
  ((fun (s : State) =>
    ((s.flag LDG_CTRL_ARCH_EN = true) ∧ (s.archReady = true) ∧ (7 ≤ s.ldg.buf.length ∨ (∃ r, s.ldg.buf.head? = some r ∧ msUnits (s.get LDG_ARCH_AGE_MS) ≤ elapsed s.now r.time))))
    ((ldgN 9 Rf).set LDG_CTRL_ARCH_EN 1)) ∧
  ((fun (s : State) (_b : Bool) =>
    (s.flag LDG_CTRL_ARCH_EN = false ∨ s.archReady = false ∨ s.ldg.buf = []))
    R true) ∧
  ((fun (s : State) (m : Nat) (c : KmiCmd) =>
    ((KmiReady s 0x0821 m c) ∧ (s.flag LDG_STAT_ARCH_BUSY = false) ∧ (s.archReady = true)))
    (Px 2 3 (ldgN 9 R) (K 0x821 0 0 [])) 0 (K 0x821 0 0 [])) ∧
  ((fun (s : State) (m : Nat) (c : KmiCmd) =>
    ((KmiReady s 0x0821 m c) ∧ (s.flag LDG_STAT_ARCH_BUSY = false) ∧ (s.archReady = false)))
    (Px 2 3 ((ldgN 9 {R with pnt := {R.pnt with nvwp := false}}).set PNT_PROT_MARKS 0xFFFF) (K 0x821 0 0 [])) 0 (K 0x821 0 0 [])) ∧
  ((fun (s : State) (m : Nat) (c : KmiCmd) =>
    ((KmiReady s 0x0821 m c) ∧ (s.flag LDG_STAT_ARCH_BUSY = true)))
    (Px 2 3 ((ldgN 9 R).set LDG_STAT_ARCH_BUSY 1) (K 0x821 0 0 [])) 0 (K 0x821 0 0 [])) ∧
  ((fun (s : State) (m : Nat) (c : KmiCmd) =>
    (KmiReady s 0x0820 m c))
    (Px 2 3 (ldgN 9 R) (K 0x820 3 2 [])) 0 (K 0x820 3 2 [])) := by
  beta_reduce; decide +kernel

-- For Obligations.SelfTestAndEntry.
theorem witness_SelfTestAndEntry :
  ((fun (s : State) (m : Nat) (c : KmiCmd) =>
    ((KmiReady s 0x0828 m c) ∧ (bits c.a0 15 0 = 0 ∨ bits c.a0 15 0 &&& bistReserved ≠ 0)))
    (Px 2 3 R (K 0x828 0 0 [])) 0 (K 0x828 0 0 [])) ∧
  ((fun (s : State) (m : Nat) (c : KmiCmd) =>
    ((KmiReady s 0x0828 m c) ∧ (bits c.a0 15 0 ≠ 0) ∧ (bits c.a0 15 0 &&& bistReserved = 0) ∧ (bitB c.a0 16 = false)))
    (Px 2 3 R (K 0x828 0x11 0 [])) 0 (K 0x828 0x11 0 [])) ∧
  ((fun (s : State) (m : Nat) (c : KmiCmd) =>
    ((KmiReady s 0x0828 m c) ∧ (bits c.a0 15 0 ≠ 0) ∧ (bits c.a0 15 0 &&& bistReserved = 0) ∧ (bitB c.a0 16 = true) ∧ (bits c.a0 15 0 &&& bistOnCommand = bits c.a0 15 0) ∧ (s.loaderBusy = false) ∧ (s.get BST_STAT_STATE = 0)))
    (Px 2 3 R (K 0x828 0x10010 0 [])) 0 (K 0x828 0x10010 0 [])) ∧
  ((fun (s : State) (m : Nat) (c : KmiCmd) =>
    ((KmiReady s 0x0828 m c) ∧ (bits c.a0 15 0 ≠ 0) ∧ (bits c.a0 15 0 &&& bistReserved = 0) ∧ (bitB c.a0 16 = true) ∧ (bits c.a0 15 0 &&& bistOnCommand = bits c.a0 15 0) ∧ (s.loaderBusy = true ∨ s.get BST_STAT_STATE ≠ 0)))
    (Px 2 3 (R.set BST_STAT_STATE 2) (K 0x828 0x10010 0 [])) 0 (K 0x828 0x10010 0 [])) ∧
  ((fun (s : State) (m : Nat) (c : KmiCmd) =>
    ((KmiReady s 0x0828 m c) ∧ (bits c.a0 15 0 ≠ 0) ∧ (bits c.a0 15 0 &&& bistReserved = 0) ∧ (bitB c.a0 16 = true) ∧ (bits c.a0 15 0 &&& bistOnCommand ≠ bits c.a0 15 0)))
    (Px 2 3 R (K 0x828 0x10001 0 [])) 0 (K 0x828 0x10001 0 [])) ∧
  ((fun (s : State) =>
    ((s.domOn 25 = true) ∧ (s.get BST_STAT_STATE < 2) ∧ (s.pwr.entering = none) ∧ (s.loaderBusy = false) ∧ (s.get BST_SCOPE ≠ 0) ∧ (s.get BST_SCOPE &&& bistOnCommand = s.get BST_SCOPE)) ∧
    ((s.domOn 25 = true) ∧ (s.get BST_STAT_STATE < 2) ∧ (s.pwr.entering = none) ∧ (match (s.kmi.running) with | [r] => decide ((([true, false].any fun v => decide ((([true, false].any fun k => decide ((runOp 0x0828 r = true) ∧ (r.abandoned = false) ∧ (r.mbx < s.kmi.mbx.length) ∧ (v = false ∨ k = false ∨ s.loaderBusy = true ∨ s.get BST_SCOPE = 0 ∨ s.get BST_SCOPE &&& bistOnCommand ≠ s.get BST_SCOPE))) = true))) = true)) | _ => false) = true))
    (withRun (R.set BST_SCOPE 0x110) (run1 0x828 0))) ∧
  ((fun (s : State) =>
    ((match (s.pwr.entering) with | some n => decide ((s.domOn 25 = true) ∧ (s.get BST_STAT_STATE < 2) ∧ (s.bist.todo ≠ []) ∧ (s.bist.onCommand = false)) | _ => false) = true) ∧
    ((match (s.pwr.entering) with | some n => decide ((s.domOn 25 = true) ∧ (s.get BST_STAT_STATE < 2) ∧ (s.bist.todo ≠ []) ∧ (s.bist.onCommand = false) ∧ (([true, false].any fun v => decide ((([true, false].any fun k => decide ((v = false ∨ k = false))) = true))) = true)) | _ => false) = true))
    (inOff [4, 8] R)) ∧
  ((fun (s : State) (_v : Bool) (_k : Bool) =>
    (s.domOn 25 = false ∨ 2 ≤ s.get BST_STAT_STATE))
    (bs 2 [4] true R) true true) ∧
  ((fun (s : State) (_n : Nat) (r : RunCmd) =>
    ((s.get BST_STAT_STATE ≠ 0) ∧ (s.bist.todo ≠ []) ∧ (s.bist.onCommand = true) ∧ (s.kmi.running = [r]) ∧ (runOp 0x0828 r = true) ∧ (r.abandoned = false) ∧ (r.mbx < s.kmi.mbx.length) ∧ (s.marked 0x410000 256 = false ∨ s.pnt.nvwp = true)))
    (withRun (bs 2 [4,8] true R) (run1 0x828 0)) 50 (run1 0x828 0)) ∧
  ((fun (s : State) (_n : Nat) (r : RunCmd) =>
    ((s.get BST_STAT_STATE ≠ 0) ∧ (s.bist.todo ≠ []) ∧ (s.bist.onCommand = true) ∧ (s.kmi.running = [r]) ∧ (runOp 0x0828 r = true) ∧ (r.abandoned = false) ∧ (r.mbx < s.kmi.mbx.length) ∧ (s.marked 0x410000 256 = true) ∧ (s.pnt.nvwp = false)))
    (prot (withRun (bs 2 [4,8] true R) (run1 0x828 0))) 50 (run1 0x828 0)) ∧
  ((fun (s : State) (_l : List BistFail) (_w : Bool) (_n : Nat) =>
    (s.get BST_STAT_STATE = 0 ∨ s.bist.todo = []))
    R [] false 5) ∧
  ((fun (s : State) =>
    ((2 ≤ s.get BST_STAT_STATE) ∧ (s.bist.todo ≠ []) ∧ (s.bist.onCommand = true) ∧ (s.marked 0x410000 256 = false)))
    (withRun (bs 2 [4,8] true R) (run1 0x828 0))) ∧
  ((fun (s : State) (r : RunCmd) =>
    ((s.get BST_STAT_STATE = 1) ∧ (s.bist.todo = []) ∧ (s.kmi.running = [r]) ∧ (runOp 0x0828 r = true) ∧ (r.abandoned = false) ∧ (r.mbx < s.kmi.mbx.length)))
    (withRun (bs 1 [] true R) (run1 0x828 0)) (run1 0x828 0)) ∧
  ((fun (s : State) =>
    (s.get BST_STAT_STATE = 0))
    R) ∧
  ((fun (s : State) (m : Nat) (c : KmiCmd) =>
    (KmiReady s 0x0829 m c))
    (Px 2 3 {R with bist := {R.bist with results := [[4,0,65535,0,0,0],[8,1,3,4,5,6]]}} (K 0x829 0 0 [])) 0 (K 0x829 0 0 [])) ∧
  ((fun (s : State) (k : Nat) =>
    ((k < 2) ∧ (s.bist.pages.length = 2) ∧ (s.bist.gens.length = 2) ∧ (s.boot.opened = true) ∧ (s.flag KMI_CTRL_FW_READY = true) ∧ (248 < s.bist.pages.getD k 0) ∧ (s.marked 0x410000 256 = false)))
    (opened {Rf with bist := {R.bist with pages := [250, 3], gens := [4, 5], entries := [1,2,3]}}) 0) ∧
  ((fun (s : State) (k : Nat) =>
    ((k < 2) ∧ (s.boot.opened = false ∨ s.flag KMI_CTRL_FW_READY = false ∨ s.bist.pages.getD k 0 ≤ 248 ∨ (s.marked 0x410000 256 = true ∧ s.pnt.nvwp = false))))
    R 0) ∧
  ((fun (s : State) (_t : Nat) =>
    ((match (s.pwr.vote) with | some (k, 11) => decide ((2 ≤ k) ∧ (k ≤ 4) ∧ (k ≠ 4 ∨ s.get BST_ARM_SCOPE = 0)) | _ => false) = true))
    (vt 2 11) 100) ∧
  ((fun (s : State) (_t : Nat) =>
    ((s.pwr.vote = some (4, 11)) ∧ (s.get BST_ARM_SCOPE ≠ 0)))
    ((vt 4 11).set BST_ARM_SCOPE 0x11) 100) ∧
  ((fun (s : State) (_t : Nat) (k : Nat) (n : Nat) =>
    ((s.pwr.vote = none ∨ (s.pwr.vote = some (k, n) ∧ n ≠ 11))))
    R 100 0 0) := by
  beta_reduce; decide +kernel

end C10

/-! ### Witnesses: Starts and wakes -/

namespace C11

def so (a b p : Bool) (v : Nat) (f g : Bool) : StartObs := ⟨a, b, p, v, f, g⟩
def o1 := so true true true 0x1FFF true true
def o2 := so true false false 0x5 false true
def o3 := so false false true 0 false false
def bt (f : BootSt → BootSt) (s : State) : State := { s with boot := f s.boot }
def pw (f : PwrSt → PwrSt) (s : State) : State := { s with pwr := f s.pwr }
def withCfg (f : CfgSt → CfgSt) (s : State) : State := { s with cfg := f s.cfg }
def busyS : State := opened (withRun (P 0x0606 0 0 []) ⟨0, cmdOf 0x0606 0 0 [], false, false, 0⟩)
def offS : State := pw (fun p => {p with waking := some (4, 1000, 4)}) (R.set PWR_STATE_CUR 4)
def bad_ : State := bt (fun b => {b with supplyBad := true}) (R.set PWR_DOM_ON (2^24))
def itin2 : State := bt (fun b => {b with itin := 2}) Rf
def fl (s : State) : State := withCfg (fun c => {c with filling := 2^3}) s
def tr1 (b : Option Nat) : TrainRes := ⟨b, false, 16, 8, List.replicate 8 [1, 2, 3, 4], List.replicate 40 7, List.replicate 40 3, 50⟩
def trQ (m d : Nat) (s : State) : State := bt (fun b => {b with dram := d}) { s with dmc := { s.dmc with training := m } }
def trS (m d : Nat) : State := bt (fun b => {b with dram := d}) (let s := withRun (((R.setMbx 0 ⟨some (cmdOf 0x0606 0 0 []), none, 0⟩).seti KMI_MBX_STATE 0 3).set KMI_CTRL_FW_READY 1) ⟨0, cmdOf 0x0606 0 0 [], false, false, 0⟩; { s with dmc := { s.dmc with training := m } })
def wd : State := (withRun (((R.setMbx 0 ⟨some (cmdOf 0x0606 0 0 []), none, 0⟩).seti KMI_MBX_STATE 0 3).set KMI_CTRL_FW_READY 1) ⟨0, cmdOf 0x0606 0 0 [], false, false, 0⟩).set KMI_WDOG_EN 1
def st (n : Nat) : State := (((opened R).set PWR_STATE_CUR n).set PWR_WAKE_SRC 0x1F).set PWR_WAKE_SRC_GPIO 0xFFFF
def ent (n : Nat) : State := pw (fun p => {p with entering := some n}) (st 0)
def vot (n : Nat) : State := pw (fun p => {p with vote := some (n, 2)}) (st 0)
def np (th : Nat) : State := (((st 3).set PWR_NP_STAT_ACTIVE 1).set PWR_NP_THRESH_COUNTS th).seti MSU_ENC_CTRL_EN 0 1
def ftl (s : State) : State := (s.setPlane 3 1 3)
def sig2 (s : State) : State := let q := s.set PWR_LUG_STAT_SAVED 255; pw (fun p => {p with sig := (List.range 8).map (fun b => luggageSig (q.get PWR_LUG_STAT_SAVE_SEQ) b (q.get PWR_STATE_CUR))}) q
def lcb (k v : Nat) (s : State) : State := { s with otp := Assoc.writeRun 0 (256 + 16 * (k - 1)) (List.replicate 16 v) s.otp }

-- For Obligations.StartsFillsAndWatchdog.
theorem witness_Starts :
  ((fun (s : State) (_t : Nat) =>
    ((s.boot.powered = true) ∧ (s.boot.supplyBad = false) ∧ (s.get PWR_STATE_CUR ≠ 4)))
    busyS 5000) ∧
  ((fun (s : State) (_t : Nat) =>
    (s.boot.powered = false ∨ s.boot.supplyBad = true ∨ s.get PWR_STATE_CUR = 4))
    bad_ 5) ∧
  ((fun (s : State) (_o : StartObs) (_b : Bool) =>
    (s.get PWR_STATE_CUR ≠ 4 ∨ s.pwr.waking = none))
    R o1 true) ∧
  ((fun (s : State) (_o : StartObs) (_t : Nat) =>
    (s.boot.supplyBad = false))
    R o1 4) ∧
  ((fun (s : State) (_o : StartObs) =>
    ((s.get PWR_STATE_CUR = 4) ∧ (s.pwr.waking.isSome = true)))
    offS o1) ∧
  ((fun (s : State) (_o : StartObs) (_t : Nat) =>
    (s.boot.supplyBad = true))
    bad_ o1 4000) ∧
  ((fun (s : State) (_t : Nat) (_locks : Nat) =>
    ((s.flag KMI_CTRL_FW_READY = true) ∧ (s.boot.opened = false) ∧ (s.boot.itin = 0) ∧ (s.cfg.filling = 0)))
    Rf 3000 0x10005) ∧
  ((fun (s : State) (_t : Nat) (_locks : Nat) =>
    (s.flag KMI_CTRL_FW_READY = false ∨ s.boot.opened = true ∨ s.boot.itin ≠ 0 ∨ s.cfg.filling ≠ 0))
    R 4 5) ∧
  ((fun (s : State) (t : Nat) =>
    ((s.boot.opened = false) ∧ ((s.setNow t).openReady = true)))
    itin2 3000) ∧
  ((fun (s : State) (t : Nat) =>
    ((s.boot.opened = false) ∧ ((s.setNow t).openReady = false)))
    R 3000) ∧
  ((fun (s : State) (_t : Nat) =>
    (s.boot.opened = true))
    (opened R) 4) ∧
  ((fun (s : State) (t : Nat) =>
    ((s.boot.opened = false) ∧ (s.boot.failed = false) ∧ (s.flag KMI_CTRL_FW_READY = true) ∧ ((s.setNow t).openReady = false) ∧ (s.startIdle = true)))
    (itin2.set TGT_LC_LC_BAD 1) 3000) ∧
  ((fun (s : State) (t : Nat) =>
    (s.boot.opened = true ∨ s.boot.failed = true ∨ s.flag KMI_CTRL_FW_READY = false ∨ (s.setNow t).openReady = true ∨ s.startIdle = false))
    R 4) := by
  beta_reduce; decide +kernel

-- For Obligations.StartsFillsAndWatchdog.
theorem witness_FillsAndWatchdog :
  ((fun (s : State) (r : Nat) (bad : Option Nat) =>
    ((fun f => (r < 24) ∧ (bitB s.cfg.filling r = true) ∧ (s.boot.opened = true) ∧ (f = none)) (s.fillFault r (s.actPlane r) 0 7680 bad)))
    (fl (opened R)) 3 none) ∧
  ((fun (s : State) (r : Nat) (bad : Option Nat) =>
    ((fun f => (r < 24) ∧ (bitB s.cfg.filling r = true) ∧ (s.boot.opened = true) ∧ (f ≠ none)) (s.fillFault r (s.actPlane r) 0 7680 bad)))
    (fl (opened R)) 3 (some 5)) ∧
  ((fun (s : State) (r : Nat) (bad : Option Nat) =>
    ((fun f => (r < 24) ∧ (bitB s.cfg.filling r = false)) (s.fillFault r (s.actPlane r) 0 7680 bad)))
    R 3 (some 5)) ∧
  ((fun (s : State) (r : Nat) (bad : Option Nat) =>
    ((fun f => (r < 24) ∧ (bitB s.cfg.filling r = true) ∧ (s.boot.opened = false) ∧ (s.boot.itin = 0) ∧ (f = none)) (s.fillFault r (s.actPlane r) 0 7680 bad)))
    (fl R) 3 none) ∧
  ((fun (s : State) (r : Nat) (bad : Option Nat) =>
    ((fun f => (r < 24) ∧ (bitB s.cfg.filling r = true) ∧ (s.boot.opened = false) ∧ (s.boot.itin = 0) ∧ (f ≠ none)) (s.fillFault r (s.actPlane r) 0 7680 bad)))
    (fl R) 3 (some 5)) ∧
  ((fun (s : State) (r : Nat) (bad : Option Nat) =>
    ((fun f => (r < 24) ∧ (bitB s.cfg.filling r = true) ∧ (s.boot.opened = false) ∧ (s.boot.itin ≠ 0) ∧ (f ≠ none) ∧ (bitB s.boot.alt r = false) ∧ (s.plane r (s.inactPlane r) = 3)) (s.fillFault r (s.actPlane r) 0 7680 bad)))
    (ftl (bt (fun b => {b with itin := 1}) (fl R))) 3 (some 5)) ∧
  ((fun (s : State) (_res : TrainRes) =>
    (s.dmc.training = 0))
    R (tr1 none)) ∧
  ((fun (s : State) (_res : TrainRes) =>
    ((s.dmc.training ≠ 0) ∧ (s.boot.dram < 16) ∧ (match (s.kmi.running) with | [r] => decide ((runIs 0x0606 0 r = true) ∧ (r.abandoned = false) ∧ (r.mbx < s.kmi.mbx.length) ∧ (r.mbx < 15) ∧ (s.domOn 25 = true)) | _ => false) = true))
    (trS 1 3) (tr1 none)) ∧
  ((fun (s : State) (_res : TrainRes) =>
    ((s.dmc.training ≠ 0) ∧ (s.boot.dram < 16) ∧ (s.kmi.running = [])))
    (trQ 2 3 R) (tr1 none)) ∧
  ((fun (s : State) (res : TrainRes) =>
    ((s.dmc.training = 2) ∧ (s.boot.dram = 16) ∧ (s.kmi.running = []) ∧ ((s.trainEnd res).flag DMC_TRAIN_STAT_PASS = true)))
    (trQ 2 16 (R.settingsWrite 3 ([1,2,3,4] ++ List.replicate 10 0 ++ [R.get DMC_CFG_RATE, 3] ++ List.replicate 320 0))) (tr1 none)) ∧
  ((fun (s : State) (res : TrainRes) =>
    ((s.dmc.training = 2) ∧ (s.boot.dram = 16) ∧ (s.kmi.running = []) ∧ ((s.trainEnd res).flag DMC_TRAIN_STAT_PASS = false)))
    (trQ 2 16 R) (tr1 (some 3))) ∧
  ((fun (s : State) =>
    ((s.flag KMI_CTRL_FW_READY = true) ∧ (s.flag KMI_WDOG_EN = true) ∧ (s.domOn 25 = true) ∧ (s.flag TGT_DBG_HALTED = false)))
    wd) ∧
  ((fun (s : State) =>
    ((s.flag KMI_CTRL_FW_READY = false ∨ s.flag KMI_WDOG_EN = false ∨ s.domOn 25 = false ∨ s.flag TGT_DBG_HALTED = true)))
    R) := by
  beta_reduce; decide +kernel

-- For Obligations.Wakes.
theorem witness_Wakes :
  ((fun (s : State) (cause : Nat) (_t : Nat) (_bad : Nat) =>
    ((s.pwr.entering = none) ∧ (s.pwr.vote = none) ∧ (s.pwr.waking = none) ∧ (s.wakeOn (s.get PWR_STATE_CUR) cause = true) ∧ (s.get PWR_STATE_CUR = 1)))
    (st 1) 34 7000 0) ∧
  ((fun (s : State) (cause : Nat) (_t : Nat) (_bad : Nat) =>
    ((s.pwr.entering = none) ∧ (s.pwr.vote = none) ∧ (s.pwr.waking = none) ∧ (s.wakeOn (s.get PWR_STATE_CUR) cause = true) ∧ (s.get PWR_STATE_CUR = 2 ∨ s.get PWR_STATE_CUR = 3)))
    ((st 2).set PWR_LUG_STAT_SAVED 255) 17 7000 0) ∧
  ((fun (s : State) (cause : Nat) (_t : Nat) (_bad : Nat) =>
    ((s.pwr.entering = none) ∧ (s.pwr.vote = none) ∧ (s.pwr.waking = none) ∧ (s.wakeOn (s.get PWR_STATE_CUR) cause = true) ∧ (s.get PWR_STATE_CUR = 4)))
    (st 4) 0 7000 0) ∧
  ((fun (s : State) (cause : Nat) (_t : Nat) (_bad : Nat) =>
    ((s.pwr.entering = none) ∧ (match (s.pwr.vote) with | some (target, n) => decide ((s.wakeOn target cause = true)) | _ => false) = true))
    (vot 1) 4 7000 0) ∧
  ((fun (s : State) (cause : Nat) (_t : Nat) (_bad : Nat) =>
    ((s.pwr.entering = none) ∧ (s.pwr.vote = none) ∧ (s.wakeOn (s.get PWR_STATE_CUR) cause = false ∨ s.pwr.waking.isSome = true)))
    (st 0) 4 7000 0) ∧
  ((fun (s : State) (cause : Nat) (_t : Nat) (_bad : Nat) =>
    ((match (s.pwr.entering) with | some target => decide ((s.pwr.vote = none) ∧ (s.wakeOn target cause = true)) | _ => false) = true))
    (ent 2) 4 7000 0) ∧
  ((fun (s : State) (cause : Nat) (_t : Nat) (_bad : Nat) =>
    ((match (s.pwr.entering) with | some target => decide ((s.pwr.vote = none) ∧ (s.wakeOn target cause = false)) | _ => false) = true))
    (ent 2) 9 7000 0) ∧
  ((fun (s : State) (t : Nat) =>
    ((match (s.pwr.schedWake) with | some w => decide ((timeGe t w = true) ∧ (s.pwr.vote = none) ∧ (s.pwr.entering = none) ∧ (s.pwr.waking = none) ∧ (s.get PWR_STATE_CUR = 1)) | _ => false) = true))
    (pw (fun p => {p with schedWake := some 6000}) (st 1)) 7000) ∧
  ((fun (s : State) (t : Nat) =>
    ((match (s.pwr.schedWake) with | some w => decide ((timeGe t w = false)) | _ => false) = true))
    (pw (fun p => {p with schedWake := some 6000}) (st 1)) 5000) ∧
  ((fun (s : State) (_t : Nat) =>
    (s.pwr.schedWake = none))
    R 7000) ∧
  ((fun (s : State) (_t : Nat) =>
    ((match (s.pwr.entering) with | some target => decide ((target < 8) ∧ (s.get BST_STAT_STATE = 0) ∧ (s.pwr.held = none)) | _ => false) = true))
    (ent 2) 7000) ∧
  ((fun (s : State) (_t : Nat) =>
    ((match (s.pwr.entering) with | some target => decide ((target < 8) ∧ (s.get BST_STAT_STATE ≠ 0)) | _ => false) = true))
    ((ent 2).set BST_STAT_STATE 1) 7000) ∧
  ((fun (s : State) (_t : Nat) =>
    ((match (s.pwr.entering) with | some target => decide ((target < 8) ∧ (match (s.pwr.held) with | some c => decide ((s.get BST_STAT_STATE = 0) ∧ (c ≠ 35) ∧ (target = 2) ∧ (s.pwr.vote = none) ∧ (s.pwr.waking = none) ∧ (s.wakeOn 2 c = true)) | _ => false) = true) | _ => false) = true))
    (pw (fun p => {p with held := some 4}) (ent 2)) 7000) ∧
  ((fun (s : State) (_t : Nat) =>
    (s.pwr.entering = none))
    R 7000) ∧
  ((fun (s : State) (_t : Nat) =>
    ((match (s.pwr.waking) with | some (c, t0, st) => decide ((st ≠ 4) ∧ (s.cfg.filling = 0) ∧ (s.dmc.training = 0)) | _ => false) = true))
    (pw (fun p => {p with waking := some (4, 1000, 2)}) (st 2)) 700000) ∧
  ((fun (s : State) (_t : Nat) =>
    ((match (s.pwr.waking) with | some (c, t0, st) => decide ((st = 4 ∨ s.cfg.filling ≠ 0 ∨ s.dmc.training ≠ 0)) | _ => false) = true))
    (pw (fun p => {p with waking := some (4, 1000, 4)}) (st 4)) 700000) ∧
  ((fun (s : State) (_t : Nat) =>
    (s.pwr.waking = none))
    R 7000) ∧
  ((fun (s : State) (t : Nat) (pos : List Int) =>
    ((s.get PWR_NP_STAT_ACTIVE = 1) ∧ (3 ≤ s.get PWR_STATE_CUR) ∧ (timeGe t (s.pwr.npAt + msUnits (max 1 (s.get PWR_NP_CTRL_PERIOD_MS))) = true) ∧ (s.msu.enc.length = 8) ∧ (s.get PWR_NP_CTRL_CH < 8) ∧ (s.flagi MSU_ENC_CTRL_EN (s.get PWR_NP_CTRL_CH) = true) ∧ (fun p => (-2 ^ 46 < p) ∧ (p < 2 ^ 46) ∧ (pos.length = 8) ∧ ((p - s.pwr.npRef).natAbs < max 1 (s.get PWR_NP_THRESH_COUNTS))) (pos.getD (s.get PWR_NP_CTRL_CH) 0)))
    (np 100) 70000000000000 [5,0,0,0,0,0,0,0]) ∧
  ((fun (s : State) (t : Nat) (pos : List Int) =>
    ((s.get PWR_NP_STAT_ACTIVE = 1) ∧ (3 ≤ s.get PWR_STATE_CUR) ∧ (timeGe t (s.pwr.npAt + msUnits (max 1 (s.get PWR_NP_CTRL_PERIOD_MS))) = true) ∧ (s.msu.enc.length = 8) ∧ (s.get PWR_NP_CTRL_CH < 8) ∧ (s.flagi MSU_ENC_CTRL_EN (s.get PWR_NP_CTRL_CH) = true) ∧ (fun p => (-2 ^ 46 < p) ∧ (p < 2 ^ 46) ∧ (pos.length = 8) ∧ (max 1 (s.get PWR_NP_THRESH_COUNTS) ≤ (p - s.pwr.npRef).natAbs)) (pos.getD (s.get PWR_NP_CTRL_CH) 0)))
    (np 0) 70000000000000 [5,0,0,0,0,0,0,0]) ∧
  ((fun (s : State) (t : Nat) (_pos : List Int) =>
    (s.get PWR_NP_STAT_ACTIVE = 0 ∨ s.get PWR_STATE_CUR < 3 ∨ timeGe t (s.pwr.npAt + msUnits (max 1 (s.get PWR_NP_CTRL_PERIOD_MS))) = false))
    (st 3) 7000 []) := by
  beta_reduce; decide +kernel

end C11

/-! ### Witnesses: The tick engine -/

namespace C12

def tk (f : TickSt → TickSt) (s : State) : State := { s with tick := f s.tick }
def pw (f : PwrSt → PwrSt) (s : State) : State := { s with pwr := f s.pwr }
def eng (src : Nat) : State := tk (fun k => {k with firstDue := false, tickOpen := true, b := 5000000, lastAccepted := 5000000, opened := 7, part := 0x3F, prevStamp := some 5000000}) ((((roomUp R 3).set TCK_CTRL_EN 1).set TCK_SRC_ACTIVE src).set TCK_TICKNO_LO 7)
def eng2 (src : Nat) : State := ((((eng src).set TCK_DONE_ROOMS 0x5).set TCK_CLAMPED_ROOMS 0x8).set TCK_OVR_CLAMP 0x10)
def late := 100000000
def cur : State := ((eng 3).set TCK_CURFEW_CUR_OFFSET_NS 1000).set TCK_STATUS_STATE 2
def due (s : State) (t : Nat) : State := { s with msu := { s.msu with sched := some t } }
def cfw (s : State) : State := tk (fun k => {k with curfew := 1000}) (s.set TCK_CTRL_CURFEW_EN 1)
def comp (s : State) : State := (s.set TWN_STAT_MODE 1).set TWN_STAT_ROLE 1

-- For Obligations.TickSources.
theorem witness_TickSources :
  ((fun (s : State) (t : Nat) (_skew : Nat) =>
    ((s.flag TCK_CTRL_EN = true) ∧ (s.get TCK_SRC_ACTIVE = 3) ∧ (s.isEarly t = false)))
    (eng 3) late 100) ∧
  ((fun (s : State) (t : Nat) (_skew : Nat) =>
    ((s.flag TCK_CTRL_EN = true) ∧ (s.get TCK_SRC_ACTIVE = 3) ∧ (s.isEarly t = true) ∧ (s.inForce TCK_CTRL_EARLY_POL ≠ 1) ∧ (s.get TCK_STATUS_MERGED < max 1 (s.inForce TCK_CTRL_MERGE_MAX))))
    (eng 3) 5000001 100) ∧
  ((fun (s : State) (t : Nat) (_skew : Nat) =>
    ((s.flag TCK_CTRL_EN = true) ∧ (s.get TCK_SRC_ACTIVE = 3) ∧ (s.isEarly t = true) ∧ (s.inForce TCK_CTRL_EARLY_POL = 1)))
    ((eng 3).set TCK_CTRL_EARLY_POL 1) 5000001 100) ∧
  ((fun (s : State) (t : Nat) (_skew : Nat) =>
    ((s.flag TCK_CTRL_EN = true) ∧ (s.get TCK_SRC_ACTIVE = 3) ∧ (s.isEarly t = true) ∧ (s.inForce TCK_CTRL_EARLY_POL ≠ 1) ∧ (max 1 (s.inForce TCK_CTRL_MERGE_MAX) ≤ s.get TCK_STATUS_MERGED)))
    (((eng 3).set TCK_STATUS_MERGED 3).set TCK_CTRL_MERGE_MAX 3) 5000001 100) ∧
  ((fun (s : State) (_t : Nat) (_skew : Nat) =>
    (s.flag TCK_CTRL_EN = false ∨ s.get TCK_SRC_ACTIVE ≠ 3))
    R 100 100) ∧
  ((fun (s : State) (t : Nat) (_skew : Nat) =>
    ((match (s.tick.timerAnchor) with | some a => decide ((fun d => (s.tick.timerWrite = none)) (s.timerDue a)) | _ => false) = true) ∧
    ((match (s.tick.timerAnchor) with | some a => decide ((fun d => (s.flag TCK_CTRL_EN = true) ∧ (s.get TCK_SRC_ACTIVE = 2) ∧ (timeGe t d = true)) (s.timerDue a)) | _ => false) = true) ∧
    ((match (s.tick.timerAnchor) with | some a => decide ((fun d => (s.flag TCK_CTRL_EN = true) ∧ (s.get TCK_SRC_ACTIVE = 2) ∧ (timeGe t d = true) ∧ (s.isEarly d = false)) (s.timerDue a)) | _ => false) = true))
    (tk (fun k => {k with timerAnchor := some 5000000}) (eng 2)) 5000000000 0) ∧
  ((fun (s : State) (t : Nat) (_skew : Nat) =>
    ((match (s.tick.timerAnchor) with | some a => decide ((fun d => (s.flag TCK_CTRL_EN = false ∨ s.get TCK_SRC_ACTIVE ≠ 2 ∨ timeGe t d = false)) (s.timerDue a)) | _ => false) = true))
    (tk (fun k => {k with timerAnchor := some 5000000}) (eng 2)) 5000001 0) ∧
  ((fun (s : State) (_t : Nat) (_skew : Nat) =>
    (s.tick.timerAnchor = none))
    (eng 2) 500 0) ∧
  ((fun (s : State) (_skew : Nat) =>
    ((match (s.msu.sched) with | some t => decide ((s.get PWR_STATE_CUR < 3) ∧ (s.get TWN_STAT_MODE = 0 ∨ s.flag TWN_STAT_ROLE = false)) | _ => false) = true) ∧
    ((match (s.msu.sched) with | some t => decide ((s.get PWR_STATE_CUR < 3) ∧ (s.get TWN_STAT_MODE = 0 ∨ s.flag TWN_STAT_ROLE = false) ∧ (s.flag TCK_CTRL_EN = true) ∧ (s.get TCK_SRC_ACTIVE = 0) ∧ (s.isEarly t = false)) | _ => false) = true))
    (due (eng 0) late) 7) ∧
  ((fun (s : State) (_skew : Nat) =>
    ((match (s.msu.sched) with | some t => decide ((s.get PWR_STATE_CUR < 3) ∧ (s.get TWN_STAT_MODE = 0 ∨ s.flag TWN_STAT_ROLE = false) ∧ (s.flag TCK_CTRL_EN = false ∨ s.get TCK_SRC_ACTIVE ≠ 0)) | _ => false) = true))
    (due R late) 7) ∧
  ((fun (s : State) (_skew : Nat) =>
    ((match (s.msu.sched) with | some t => decide ((s.get PWR_STATE_CUR < 3) ∧ (s.get TWN_STAT_MODE ≠ 0) ∧ (s.flag TWN_STAT_ROLE = true)) | _ => false) = true))
    (comp (due R late)) 7) ∧
  ((fun (s : State) (_skew : Nat) =>
    (s.msu.sched = none ∨ 3 ≤ s.get PWR_STATE_CUR))
    R 7) ∧
  ((fun (s : State) (m : Nat) (c : KmiCmd) =>
    (KmiReady s 0x0303 m c))
    (P 0x0303 0 0 []) 0 (cmdOf 0x0303 0 0 [])) := by
  beta_reduce; decide +kernel

-- For Obligations.BoundaryOutcomes.
theorem witness_BoundaryOutcomes :
  ((fun (s : State) (t : Nat) (_skew : Nat) =>
    ((s.flag TCK_CTRL_EN = true) ∧ (s.get TCK_SRC_ACTIVE = 3) ∧ (s.isEarly t = false) ∧ (s.get PWR_STATE_CUR = 0) ∧ (s.pwr.vote = none) ∧ (s.pwr.entering = none) ∧ (s.tick.firstDue = false)))
    (eng2 3) late 100) ∧
  ((fun (s : State) (t : Nat) (_skew : Nat) =>
    ((s.flag TCK_CTRL_EN = true) ∧ (s.get TCK_SRC_ACTIVE = 3) ∧ (s.isEarly t = false) ∧ (s.get PWR_STATE_CUR = 0) ∧ (s.pwr.vote = none) ∧ (s.pwr.entering = none) ∧ (s.tick.firstDue = true)))
    (tk (fun k => {k with firstDue := true}) (eng2 3)) late 100) := by
  beta_reduce; decide +kernel

-- For Obligations.TickEngine.
theorem witness_TickEngine :
  ((fun (s : State) (t : Nat) =>
    ((s.tick.tickOpen = true) ∧ (s.tick.rest = false) ∧ (s.curfewOn = true) ∧ (timeGe t (s.tick.b + nsUnits s.tick.curfew) = true)))
    (cfw cur) late) ∧
  ((fun (s : State) (t : Nat) =>
    (s.tick.tickOpen = false ∨ s.tick.rest = true ∨ s.curfewOn = false ∨ timeGe t (s.tick.b + nsUnits s.tick.curfew) = false))
    (cfw cur) 5000001) ∧
  ((fun (s : State) (r : Nat) (_t : Nat) =>
    ((r < 24) ∧ (s.tick.tickOpen = true) ∧ (s.roomOn r = true) ∧ (s.roomActive r = true) ∧ (s.treeRuns r 0 = true) ∧ (bitB (s.get TCK_DONE_ROOMS) r = false)))
    (cfw cur) 3 late) ∧
  ((fun (s : State) (r : Nat) (_t : Nat) =>
    ((r < 24) ∧ ((s.tick.tickOpen = false ∨ s.roomOn r = false ∨ s.roomActive r = false ∨ s.treeRuns r 0 = false ∨ bitB (s.get TCK_DONE_ROOMS) r = true))))
    R 3 late) ∧
  ((fun (s : State) (t : Nat) =>
    ((s.flag TCK_CTRL_EN = true) ∧ (s.tick.tickOpen = true) ∧ (s.tick.firstDue = false) ∧ (s.get TCK_STATUS_STATE ≠ 4) ∧ (timeGe t (s.tick.lastAccepted + nsUnits 1000000000) = false)))
    (eng 3) 5000001) ∧
  ((fun (s : State) (t : Nat) =>
    ((s.flag TCK_CTRL_EN = true) ∧ (s.tick.tickOpen = true) ∧ (s.tick.firstDue = false) ∧ (s.get TCK_STATUS_STATE ≠ 4) ∧ (timeGe t (s.tick.lastAccepted + nsUnits 1000000000) = true)))
    (eng 3) 500000000000) ∧
  ((fun (s : State) (_t : Nat) =>
    (s.flag TCK_CTRL_EN = false ∨ s.tick.tickOpen = false ∨ s.tick.firstDue = true ∨ s.get TCK_STATUS_STATE = 4))
    R 5000001) ∧
  ((fun (s : State) (_t : Nat) =>
    (s.flag TCK_CTRL_EN = true))
    (eng 3) 5000001) ∧
  ((fun (s : State) (_t : Nat) =>
    (s.flag TCK_CTRL_EN = false))
    (R.set TCK_SRC_NEXT 2) 5000001) ∧
  ((fun (s : State) (_t : Nat) =>
    (s.flag TCK_CTRL_EN = true))
    (eng 3) 5000001) ∧
  ((fun (s : State) (_t : Nat) =>
    (s.flag TCK_CTRL_EN = false))
    R 5000001) := by
  beta_reduce; decide +kernel

end C12

/-! ### Witnesses: The Sync Chain -/

namespace C13

def tk (f : TickSt → TickSt) (s : State) : State := { s with tick := f s.tick }
def sy (f : SycSt → SycSt) (s : State) : State := { s with syc := f s.syc }
def tw_ (f : TwnSt → TwnSt) (s : State) : State := { s with twn := f s.twn }
def eng (src : Nat) : State := tk (fun k => {k with firstDue := false, tickOpen := true, b := 5000000, lastAccepted := 5000000, opened := 7, part := 0x3F, prevStamp := some 5000000}) ((((roomUp R 3).set TCK_CTRL_EN 1).set TCK_SRC_ACTIVE src).set TCK_TICKNO_LO 7)
def mas (s : State) : State := (s.set SYC_CTRL_EN 1).set SYC_CTRL_ROLE 1
def mem (s : State) : State := (s.set SYC_CTRL_EN 1).set SYC_CTRL_ROLE 2
def memE (s : State) : State := (mem s).set SYC_CTRL_END 1
def lead (s : State) : State := (s.set TWN_CTRL_EN 1).set TWN_STAT_MODE 1
def comp (s : State) : State := ((s.set TWN_CTRL_EN 1).set TWN_STAT_MODE 1).set TWN_STAT_ROLE 1
def dm (ty tick time : Nat) : List Nat := downMsg ty 0 2 tick time [0, 0, 0, 0]
def dmP (ty tick time : Nat) : List Nat := downMsg ty 0 2 tick time [1 + 16 * 3, 5, 0, 4]
def um (ty count tick : Nat) : List Nat := upMsg ty count tick 3 2 1 0
def badm : List Nat := 1 :: dm 0 8 0
def up (s : State) : State := (s.set SYC_STAT_LINK_UP 1).set TWN_STAT_SYNC_UP 1
def tt := 100000000
def opn (s : State) : State := sy (fun h => {h with mc := {h.mc with isOpen := true, t := 9, seq := 3}}) s
def tri (s : State) : State := tw_ (fun h => {h with trips := List.replicate 256 100, calSeen := 256, crcRun := 5}) (sy (fun h => {h with trips := List.replicate 256 100, calSeen := 256, crcRun := 5}) s)
def noisy (s : State) : State := tw_ (fun h => {h with lastSync := 77, crcRun := 2, crcSeen := true, substRun := 3}) (sy (fun h => {h with lastMsg := 55, crcRun := 2, crcSeen := true, masterHold := true}) s)
def wat (s : State) : State := sy (fun h => {h with mc := {h.mc with watch := some (3, 20), phase := 2, isOpen := true, seq := 3}}) s
def armC (r : Nat) (s : State) : State := sy (fun h => {h with mc := {h.mc with armSlot := some 2, armMask := r}}) ((s.seti CFG_CO_STAT_STATE 2 1).seti CFG_CO_MASK_ROOMS 2 r)

-- For Obligations.SyncChainLink.
theorem witness_SyncMessages :
  ((fun (s : State) =>
    (s.mcMaster false = true))
    (mas R)) ∧
  ((fun (s : State) =>
    (s.mcMaster false = false))
    R) ∧
  ((fun (s : State) (msg : List Nat) =>
    ((s.mcMember false = true) ∧ (downGood msg = true) ∧ (downType msg = 3)))
    (mem R) (dm 3 0 0)) ∧
  ((fun (s : State) (_msg : List Nat) =>
    (s.mcMember false = false))
    R (dm 3 0 0)) ∧
  ((fun (s : State) (msg : List Nat) =>
    ((s.mcMember false = true) ∧ (downGood msg = false)))
    (noisy (mem R)) badm) ∧
  ((fun (s : State) (msg : List Nat) =>
    ((upGood msg = true) ∧ (upType msg = 2) ∧ (s.mcMaster false = true)))
    (mas R) (um 2 3 0)) ∧
  ((fun (s : State) (msg : List Nat) =>
    ((upGood msg = true) ∧ (upType msg = 2) ∧ (s.mcMaster false = false) ∧ (s.mcMember false = true) ∧ (s.flag SYC_CTRL_END = false)))
    (mem R) (um 2 3 0)) ∧
  ((fun (s : State) (msg : List Nat) =>
    ((upGood msg = true) ∧ (upType msg = 2) ∧ (s.mcMaster false = false) ∧ (s.mcMember false = false ∨ s.flag SYC_CTRL_END = true)))
    R (um 2 3 0)) ∧
  ((fun (s : State) (_tw : Bool) (msg : List Nat) (_t : Nat) (_skew : Nat) =>
    ((s.mcMember false = true) ∧ (downGood msg = false)))
    (mem (eng 1)) false badm tt 5) ∧
  ((fun (s : State) (tw : Bool) (_msg : List Nat) (_t : Nat) (_skew : Nat) =>
    (s.mcMember tw = false))
    R false badm tt 5) ∧
  ((fun (s : State) (tw : Bool) (msg : List Nat) (_t : Nat) (_skew : Nat) =>
    ((s.mcMember tw = true) ∧ (downGood msg = true) ∧ (downType msg = 0) ∧ (s.linkRuns tw = true) ∧ ((tw = false ∨ s.tick.firstDue = true ∨ tickGe s.tickno (downTick msg) = false))))
    (mem (eng 1)) false (dm 0 8 tt) (tt + 100) 5) ∧
  ((fun (s : State) (_tw : Bool) (msg : List Nat) (_t : Nat) (_skew : Nat) =>
    ((s.mcMember false = true) ∧ (downGood msg = true) ∧ (downType msg = 0) ∧ (s.linkRuns false = false)))
    (mem (eng 2)) false (dmP 0 8 tt) tt 5) ∧
  ((fun (s : State) (tw : Bool) (msg : List Nat) (_t : Nat) (_skew : Nat) =>
    ((s.mcMember tw = true) ∧ (downGood msg = true) ∧ (downType msg = 1) ∧ (s.linkRuns tw = true) ∧ (s.tick.firstDue = false) ∧ ((tw = false ∨ tickGe s.tickno (downTick msg) = false))))
    (mem (eng 1)) false (dmP 1 8 tt) tt 5) ∧
  ((fun (s : State) (tw : Bool) (msg : List Nat) (_t : Nat) (_skew : Nat) =>
    ((s.mcMember tw = true) ∧ (downGood msg = true) ∧ (downType msg = 4)))
    (mem (eng 4)) false (dmP 4 8 tt) tt 5) ∧
  ((fun (s : State) (tw : Bool) (msg : List Nat) (_t : Nat) =>
    ((s.linkOn tw = true) ∧ (upGood msg = true) ∧ (upType msg = 0) ∧ (s.mcMaster tw = true)))
    (mas (eng 1)) false (um 0 3 8) tt) ∧
  ((fun (s : State) (tw : Bool) (msg : List Nat) (_t : Nat) =>
    ((s.linkOn tw = true) ∧ (upGood msg = true) ∧ (upType msg = 0) ∧ (tw = false) ∧ (s.mcMaster false = false) ∧ (s.mcMember false = true) ∧ (s.syc.owed = some (upTick msg))))
    (sy (fun h => {h with owed := some 8}) (mem (eng 1))) false (um 0 3 8) tt) ∧
  ((fun (s : State) (tw : Bool) (msg : List Nat) (_t : Nat) =>
    ((s.linkOn tw = true) ∧ (upGood msg = true) ∧ (upType msg = 0) ∧ (s.mcMaster tw = false) ∧ (tw = true ∨ s.mcMember false = false ∨ s.syc.owed ≠ some (upTick msg))))
    (memE (eng 1)) false (um 0 3 8) tt) ∧
  ((fun (s : State) (tw : Bool) (_msg : List Nat) (_t : Nat) =>
    (s.linkOn tw = false))
    R false (um 0 3 8) tt) ∧
  ((fun (s : State) (_tw : Bool) (msg : List Nat) (_t : Nat) =>
    ((s.linkOn false = true) ∧ (upGood msg = false)))
    (noisy (mas (eng 1))) false badm tt) := by
  beta_reduce; decide +kernel

-- For Obligations.SyncChainLink.
theorem witness_SyncCalibration :
  ((fun (s : State) (tw : Bool) (msg : List Nat) (_a : Nat) (_e : Nat) =>
    ((s.mcMember tw = true) ∧ (downGood msg = true) ∧ (downType msg = 2)))
    (mem R) false (dm 2 0 tt) (tt + 500) (tt + 900)) ∧
  ((fun (s : State) (tw : Bool) (msg : List Nat) (_a : Nat) (_e : Nat) =>
    ((s.mcMember tw = false ∨ (msg.length < 20 ∧ msg.getLast? = some 0xFE))))
    R true badm tt tt) ∧
  ((fun (s : State) (tw : Bool) (msg : List Nat) (_l : Nat) (_a : Nat) =>
    ((s.linkDown tw = true) ∧ (upGood msg = true) ∧ (upType msg = 1)))
    (mas R) false (um 1 1 400) tt (tt + 4000)) ∧
  ((fun (s : State) (tw : Bool) (msg : List Nat) (_l : Nat) (_a : Nat) =>
    ((s.linkDown tw = false ∨ (upGood msg = true ∧ upType msg ≠ 1))))
    R true (um 1 1 400) tt (tt + 4000)) ∧
  ((fun (s : State) (tw : Bool) (_t : Nat) =>
    (s.linkDown tw = true))
    (mas R) false tt) ∧
  ((fun (s : State) (tw : Bool) (_t : Nat) =>
    (s.linkDown tw = false))
    R true tt) ∧
  ((fun (s : State) (tw : Bool) (t : Nat) =>
    ((s.linkOn tw = true) ∧ (s.mcMember tw = true ∨ tw = true)) ∧
    ((s.linkOn tw = true) ∧ (s.mcMember tw = true ∨ tw = true) ∧ (3 ≤ (if tw then s.twn.crcRun else s.syc.crcRun))) ∧
    ((s.linkOn tw = true) ∧ (s.mcMember tw = true ∨ tw = true) ∧ (timeGe t ((if tw then s.twn.lastSync else s.syc.lastMsg) + nsUnits 64000) = true)))
    (tri (up (opn (mem (eng 1))))) false tt) ∧
  ((fun (s : State) (_t : Nat) =>
    ((s.mcMaster false = true) ∧ (s.syc.mc.isOpen = true) ∧ (s.syc.mc.phase = 2) ∧ (s.get SYC_MC_STAT_OUTCOME ≠ 5)))
    (wat (mas (eng 1))) tt) ∧
  ((fun (s : State) (tw : Bool) (t : Nat) =>
    (s.linkOn tw = false ∨ timeGe t ((if tw then s.twn.lastSync else s.syc.lastMsg) + nsUnits 64000) = false) ∧
    (s.linkOn tw = false ∨ (if tw then s.twn.crcRun else s.syc.crcRun) < 3) ∧
    (s.linkOn tw = false))
    R true tt) := by
  beta_reduce; decide +kernel

-- For Obligations.ModeChangeCommands.
theorem witness_ModeChangeCommands :
  ((fun (s : State) (m : Nat) (c : KmiCmd) =>
    ((KmiReady s 0x0322 m c) ∧ (2 ^ 17 ≤ c.a0 ∨ 2 ^ 24 ≤ c.a1)))
    (P 0x0322 (2^17) 0 []) 0 (cmdOf 0x0322 (2^17) 0 [])) ∧
  ((fun (s : State) (m : Nat) (c : KmiCmd) =>
    ((KmiReady s 0x0322 m c) ∧ (c.a0 < 2 ^ 17) ∧ (c.a1 < 2 ^ 24) ∧ (s.syc.mc.isOpen = true)))
    (opn (P 0x0322 5 0 [])) 0 (cmdOf 0x0322 5 0 [])) ∧
  ((fun (s : State) (m : Nat) (c : KmiCmd) =>
    ((KmiReady s 0x0322 m c) ∧ (c.a0 < 2 ^ 17) ∧ (c.a1 = 0) ∧ (s.syc.mc.isOpen = false)))
    (P 0x0322 0x10005 0 []) 0 (cmdOf 0x0322 0x10005 0 [])) ∧
  ((fun (s : State) (m : Nat) (c : KmiCmd) =>
    ((KmiReady s 0x0322 m c) ∧ (c.a0 < 2 ^ 17) ∧ (c.a1 < 2 ^ 24) ∧ (s.syc.mc.isOpen = false) ∧ (fun d => ((∀ r, r < 24 → bitB c.a1 r = true → d.geti CFG_ROOM_STAT_CO_PENDING r ≠ 1 ∧ bitB d.armedRooms r = false)) ∧ (c.a1 ≠ 0) ∧ (match (d.coFree) with | some j => decide (True) | _ => false) = true) (s.mcDisarm false)))
    (P 0x0322 0x10005 9 []) 0 (cmdOf 0x0322 0x10005 9 [])) ∧
  ((fun (s : State) (m : Nat) (c : KmiCmd) =>
    ((KmiReady s 0x0322 m c) ∧ (c.a0 < 2 ^ 17) ∧ (c.a1 < 2 ^ 24) ∧ (s.syc.mc.isOpen = false) ∧ (fun d => ((∀ r, r < 24 → bitB c.a1 r = true → d.geti CFG_ROOM_STAT_CO_PENDING r ≠ 1 ∧ bitB d.armedRooms r = false)) ∧ (c.a1 ≠ 0) ∧ (d.coFree = none)) (s.mcDisarm false)))
    ((List.range 4).foldl (fun st j => st.seti CFG_CO_STAT_STATE j 1) (P 0x0322 0x10005 9 [])) 0 (cmdOf 0x0322 0x10005 9 [])) ∧
  ((fun (s : State) (m : Nat) (c : KmiCmd) =>
    ((KmiReady s 0x0322 m c) ∧ (c.a0 < 2 ^ 17) ∧ (c.a1 < 2 ^ 24) ∧ (s.syc.mc.isOpen = false) ∧ (fun d => ((∃ r ∈ List.range 24, bitB c.a1 r = true ∧ (d.geti CFG_ROOM_STAT_CO_PENDING r = 1 ∨ bitB d.armedRooms r = true)))) (s.mcDisarm false)))
    ((P 0x0322 0x10005 9 []).seti CFG_ROOM_STAT_CO_PENDING 3 1) 0 (cmdOf 0x0322 0x10005 9 [])) ∧
  ((fun (s : State) (m : Nat) (c : KmiCmd) =>
    ((KmiReady s 0x0323 m c) ∧ (s.syc.mc.isOpen = true)))
    (opn (P 0x0323 0 0 [])) 0 (cmdOf 0x0323 0 0 [])) ∧
  ((fun (s : State) (m : Nat) (c : KmiCmd) =>
    ((KmiReady s 0x0323 m c) ∧ (s.syc.mc.isOpen = false)))
    (P 0x0323 0 0 []) 0 (cmdOf 0x0323 0 0 [])) ∧
  ((fun (s : State) (m : Nat) (c : KmiCmd) =>
    ((KmiReady s 0x0324 m c) ∧ (2 ^ 16 ≤ c.a0 ∨ 2 ^ 48 ≤ c.a1)))
    (P 0x0324 0x10000 0 []) 0 (cmdOf 0x0324 0x10000 0 [])) ∧
  ((fun (s : State) (m : Nat) (c : KmiCmd) =>
    ((KmiReady s 0x0324 m c) ∧ (c.a0 < 2 ^ 16) ∧ (c.a1 < 2 ^ 48) ∧ (s.mcMaster false = false ∨ s.syc.mc.isOpen = true)))
    (P 0x0324 0x100 0 []) 0 (cmdOf 0x0324 0x100 0 [])) ∧
  ((fun (s : State) (m : Nat) (c : KmiCmd) =>
    ((KmiReady s 0x0324 m c) ∧ (c.a0 < 2 ^ 16) ∧ (c.a1 < 2 ^ 48) ∧ (s.mcMaster false = true) ∧ (s.syc.mc.isOpen = false) ∧ (tickGe c.a1 (tickAdd s.tickno (3 + s.mcLag false)) = false)))
    (mas (P 0x0324 0x100 2 [])) 0 (cmdOf 0x0324 0x100 2 [])) ∧
  ((fun (s : State) (m : Nat) (c : KmiCmd) =>
    ((KmiReady s 0x0324 m c) ∧ (c.a0 < 2 ^ 16) ∧ (c.a1 < 2 ^ 48) ∧ (s.mcMaster false = true) ∧ (s.syc.mc.isOpen = false) ∧ (tickGe c.a1 (tickAdd s.tickno (3 + s.mcLag false)) = true)))
    (mas (P 0x0324 0x100 20 [])) 0 (cmdOf 0x0324 0x100 20 [])) ∧
  ((fun (s : State) (m : Nat) (c : KmiCmd) =>
    ((KmiReady s 0x0325 m c) ∧ (2 ≤ c.a0)))
    (P 0x0325 2 20 []) 0 (cmdOf 0x0325 2 20 [])) ∧
  ((fun (s : State) (m : Nat) (c : KmiCmd) =>
    ((KmiReady s 0x0325 m c) ∧ (c.a0 < 2) ∧ (s.mcCode false ≠ 8) ∧ (s.mcCode true ≠ 8)))
    (P 0x0325 1 20 []) 0 (cmdOf 0x0325 1 20 [])) ∧
  ((fun (s : State) (m : Nat) (c : KmiCmd) =>
    ((KmiReady s 0x0325 m c) ∧ (c.a0 < 2) ∧ (s.mcCode false = 8)))
    ((P 0x0325 1 20 []).set SYC_MC_STAT_STATE 8) 0 (cmdOf 0x0325 1 20 [])) ∧
  ((fun (s : State) (m : Nat) (c : KmiCmd) =>
    ((KmiReady s 0x0325 m c) ∧ (c.a0 < 2) ∧ (s.mcCode false ≠ 8) ∧ (s.mcCode true = 8)))
    ((P 0x0325 1 20 []).set TWN_MC_STAT_STATE 8) 0 (cmdOf 0x0325 1 20 [])) := by
  beta_reduce; decide +kernel

end C13

/-! ### Witnesses: The twin -/

namespace C14

def tk (f : TickSt → TickSt) (s : State) : State := { s with tick := f s.tick }
def pw (f : PwrSt → PwrSt) (s : State) : State := { s with pwr := f s.pwr }
def tw_ (f : TwnSt → TwnSt) (s : State) : State := { s with twn := f s.twn }
def eng (src : Nat) : State := tk (fun k => {k with firstDue := false, tickOpen := true, b := 5000000, lastAccepted := 5000000, opened := 7, part := 0x3F, prevStamp := some 5000000}) ((((roomUp R 3).set TCK_CTRL_EN 1).set TCK_SRC_ACTIVE src).set TCK_TICKNO_LO 7)
def md (n : Nat) (s : State) : State := ((s.set TWN_CTRL_EN 1).set TWN_STAT_MODE n).set TWN_STAT_LANES_UP 1
def mdr (n : Nat) (s : State) : State := (md n s).set TWN_STAT_ROLE 1
def tt := 100000000
def vrow (k : Nat) : List Nat := let d := (k :: List.replicate 123 1); d ++ leBytes 4 (crc32 d)
def otpRows (rs : List Nat) (s : State) : State := { s with otp := rs.foldl (fun m r => Assoc.writeRun 0 (128*r) (vrow 2) m) s.otp }
def rec_ (t part : Nat) : TwnRec := ⟨t, 1, 0, part, 0, 5, List.replicate 24 9, 0⟩
def opn (s : State) : State := tw_ (fun h => {h with mc := {h.mc with isOpen := true, t := 9, seq := 3}}) s
def subS (src : Nat) : State := ((mdr 2 (eng src)).set MSU_DIV_CTRL_EN 1).seti MSU_ENC_STAT_STOPPED 0 0
def lostS (n : Nat) : State := tw_ (fun h => {h with lastSync := 1, lastRec := 1, lastStat := 1}) (md n (eng 0))
def lostC (n : Nat) : State := tw_ (fun h => {h with lastSync := 1, lastRec := 1, lastStat := 1}) (mdr n (eng 4))
def prS (a0 a1 : Nat) : State := ((((otpRows [20] (PD 2 0x0B03 a0 a1 [])).set TWN_AUTH_CA_SLOT 4).set TWN_CTRL_EN 1).set TWN_STAT_LANES_UP 1).set TWN_STAT_CAL_DONE 1
def dl (d : Option (Nat × Nat)) (s : State) : State := tw_ (fun h => {h with deadline := d}) s
def armT (r : Nat) (s : State) : State := tw_ (fun h => {h with mc := {h.mc with armSlot := some 2, armMask := r}}) ((s.seti CFG_CO_STAT_STATE 2 1).seti CFG_CO_MASK_ROOMS 2 r)
def full4 (s : State) : State := (List.range 4).foldl (fun st j => st.seti CFG_CO_STAT_STATE j 1) s
def itR (r v : Nat) (s : State) : State := (s.seti CFG_ROOM_ITIN_A_ITIN_ID r v).seti CFG_ROOM_ITIN_B_ITIN_ID r v

-- For Obligations.TwinLink.
theorem witness_TwinLink :
  ((fun (s : State) (_t : Nat) =>
    ((s.flag TWN_CTRL_EN = true) ∧ (s.domOn 29 = true)) ∧
    (s.twinLinkUp = true))
    (md 0 R) tt) ∧
  ((fun (s : State) (_t : Nat) =>
    (s.flag TWN_CTRL_EN = false ∨ s.domOn 29 = false) ∧
    (s.twinLinkUp = false))
    R tt) ∧
  ((fun (s : State) (b : List Nat) (_t : Nat) =>
    ((match (twnRecord b) with | some r => decide ((s.twinLinkUp = true) ∧ (s.get TWN_STAT_MODE ≠ 0)) | _ => false) = true))
    (md 1 R) (twnBytes (rec_ 8 3)) tt) ∧
  ((fun (s : State) (b : List Nat) (_t : Nat) =>
    (twnRecord b = none ∨ s.twinLinkUp = false ∨ s.get TWN_STAT_MODE = 0))
    R [] tt) ∧
  ((fun (s : State) (b : List Nat) (_t : Nat) =>
    ((s.twinLinkUp = true) ∧ (b.length = 8) ∧ (s.isCompanion = false ∨ b.getD 0 0 % 8 ≠ 0)))
    (md 1 R) [0,0,0,0,0,0,0,0] tt) ∧
  ((fun (s : State) (b : List Nat) (_t : Nat) =>
    ((s.twinLinkUp = true) ∧ (b.length = 8) ∧ (s.isCompanion = true) ∧ (b.getD 0 0 % 8 = 0) ∧ (s.get PWR_STATE_CUR = 2) ∧ (bitB (s.get PWR_WAKE_SRC) 3 = true) ∧ (s.pwr.vote = none) ∧ (s.pwr.entering = none) ∧ (s.pwr.waking = none)))
    ((((mdr 1 (opened R)).set PWR_STATE_CUR 2).set PWR_WAKE_SRC 31)) [0,0,0,0,0,0,0,0] tt) ∧
  ((fun (s : State) (b : List Nat) (_t : Nat) =>
    (s.twinLinkUp = false ∨ b.length ≠ 8))
    (md 1 R) [0,0,0,0,0,0,0] tt) ∧
  ((fun (s : State) (b : List Nat) (_t : Nat) =>
    ((s.twinLinkUp = true) ∧ (b.length = 8) ∧ (s.isCompanion = true) ∧ (b.getD 0 0 % 8 = 0) ∧ (s.get PWR_STATE_CUR = 0) ∧ (s.pwr.vote = none) ∧ (s.pwr.entering = none)))
    (mdr 1 R) [0,0,0,0,0,0,0,0] tt) ∧
  ((fun (s : State) (t : Nat) (_skew : Nat) =>
    ((match (s.twn.deadline) with | some (x, due) => decide ((s.isCompanion = true) ∧ (s.linkRuns true = true) ∧ (s.tick.firstDue = false) ∧ (s.flag MSU_DIV_CTRL_EN = true) ∧ (s.flagi MSU_ENC_STAT_STOPPED s.divCh = false) ∧ (tickGe x (tickAdd s.tickno 1) = true) ∧ (timeGe t due = true)) | _ => false) = true))
    (dl (some (8, tt - 5)) (subS 4)) tt 9) ∧
  ((fun (s : State) (t : Nat) (_skew : Nat) =>
    ((match (s.twn.deadline) with | some (x, due) => decide ((s.isCompanion = false ∨ s.linkRuns true = false ∨ s.tick.firstDue = true ∨ s.flag MSU_DIV_CTRL_EN = false ∨ s.flagi MSU_ENC_STAT_STOPPED s.divCh = true ∨ tickGe x (tickAdd s.tickno 1) = false ∨ timeGe t due = false)) | _ => false) = true))
    (dl (some (8, tt - 5)) (subS 2)) tt 9) ∧
  ((fun (s : State) (_t : Nat) (_skew : Nat) =>
    (s.twn.deadline = none))
    (subS 4) tt 9) ∧
  ((fun (s : State) (_t : Nat) =>
    (s.get TWN_STAT_MODE = 0 ∨ s.twn.takeDue = true))
    R tt) ∧
  ((fun (s : State) (t : Nat) =>
    ((s.get TWN_STAT_MODE ≠ 0) ∧ (s.twn.takeDue = false) ∧ (s.flag TWN_STAT_ROLE = false) ∧ (timeGe t (s.twn.lastSync + nsUnits 64000) = true) ∧ (timeGe t (s.twn.lastRec + nsUnits 64000) = true) ∧ (timeGe t (s.twn.lastStat + nsUnits 64000) = true)))
    (lostS 1) tt) ∧
  ((fun (s : State) (t : Nat) =>
    ((s.get TWN_STAT_MODE ≠ 0) ∧ (s.twn.takeDue = false) ∧ (s.flag TWN_STAT_ROLE = false) ∧ (timeGe t (s.twn.lastSync + nsUnits 64000) = false ∨ timeGe t (s.twn.lastRec + nsUnits 64000) = false ∨ timeGe t (s.twn.lastStat + nsUnits 64000) = false)))
    (lostS 1) 100) ∧
  ((fun (s : State) (t : Nat) =>
    ((s.get TWN_STAT_MODE ≠ 0) ∧ (s.twn.takeDue = false) ∧ (s.flag TWN_STAT_ROLE = true) ∧ (s.syncFailed s.twn.substRun = true) ∧ (s.recOld s.tickno = true ∨ (timeGe t (s.tick.b + nsUnits 64000) = true ∧ timeGe t (s.twn.lastStat + nsUnits 64000) = true))))
    ((lostC 2).set TWN_CTRL_TAKEOVER 1) tt) ∧
  ((fun (s : State) (t : Nat) =>
    ((s.get TWN_STAT_MODE ≠ 0) ∧ (s.twn.takeDue = false) ∧ (s.flag TWN_STAT_ROLE = true) ∧ (s.syncFailed s.twn.substRun = false ∨ (s.recOld s.tickno = false ∧ (timeGe t (s.tick.b + nsUnits 64000) = false ∨ timeGe t (s.twn.lastStat + nsUnits 64000) = false)))))
    ((lostC 1).set TWN_STAT_SYNC_UP 1) tt) := by
  beta_reduce; decide +kernel

-- For Obligations.TwinCommands.
theorem witness_TwinCommands :
  ((fun (s : State) (_tick : Nat) (_t : Nat) (_data : List Nat) (_ue : List Nat) (_failed : List Nat) =>
    ((s.isCompanion = true) ∧ (s.get TWN_STAT_MODE = 2)) ∧
    (s.flag TWN_STAT_CATCHUP = false))
    (mdr 2 R) 77 tt [1,2] [] [1]) ∧
  ((fun (s : State) (_tick : Nat) (_t : Nat) (_data : List Nat) (_ue : List Nat) (_failed : List Nat) =>
    ((s.isCompanion = false ∨ s.get TWN_STAT_MODE ≠ 2) ∧ (s.twn.ckpt = none)) ∧
    (s.flag TWN_STAT_CATCHUP = true))
    ((R.set TWN_STAT_CATCHUP 1).set TWN_CTRL_ROLE_REQ 1) 77 tt [1,2] [] [1]) ∧
  ((fun (s : State) (_tick : Nat) (_t : Nat) (_data : List Nat) (_ue : List Nat) (_failed : List Nat) =>
    ((match (s.twn.ckpt) with | some n => decide ((s.isCompanion = false ∨ s.get TWN_STAT_MODE ≠ 2)) | _ => false) = true))
    (tw_ (fun h => {h with ckpt := some 70}) ((md 2 R).set DMC_GEOM_CAP_GIB 1)) 77 tt [1,2] [] [1]) ∧
  ((fun (s : State) (m : Nat) (c : KmiCmd) =>
    ((KmiReady s 0x0B04 m c) ∧ (2 ^ 48 ≤ c.a1)))
    (PD 2 0x0B04 0 (2^48) []) 0 (cmdOf 0x0B04 0 (2^48) [])) ∧
  ((fun (s : State) (m : Nat) (c : KmiCmd) =>
    ((KmiReady s 0x0B04 m c) ∧ (c.a1 < 2 ^ 48) ∧ ((s.get TWN_STAT_MODE = 0 ∨ s.mcMaster true = false ∨ s.twn.mc.isOpen = true))))
    (PD 2 0x0B04 0 100 []) 0 (cmdOf 0x0B04 0 100 [])) ∧
  ((fun (s : State) (m : Nat) (c : KmiCmd) =>
    ((KmiReady s 0x0B04 m c) ∧ (c.a1 < 2 ^ 48) ∧ (s.get TWN_STAT_MODE ≠ 0) ∧ (s.mcMaster true = true) ∧ (s.twn.mc.isOpen = false) ∧ (tickGe c.a1 (tickAdd s.tickno (3 + s.mcLag true)) = true)))
    (md 1 (PD 2 0x0B04 0 100 [])) 0 (cmdOf 0x0B04 0 100 [])) ∧
  ((fun (s : State) (m : Nat) (c : KmiCmd) =>
    ((KmiReady s 0x0B04 m c) ∧ (c.a1 < 2 ^ 48) ∧ (s.get TWN_STAT_MODE ≠ 0) ∧ (s.mcMaster true = true) ∧ (s.twn.mc.isOpen = false) ∧ (tickGe c.a1 (tickAdd s.tickno (3 + s.mcLag true)) = false)))
    (md 1 (PD 2 0x0B04 0 1 [])) 0 (cmdOf 0x0B04 0 1 [])) ∧
  ((fun (s : State) (m : Nat) (c : KmiCmd) =>
    ((KmiReady s 0x0B05 m c) ∧ (c.a0 < 2) ∧ (c.a1 < 2 ^ 48) ∧ (s.get TWN_STAT_MODE ≠ 0) ∧ (s.mcMaster true = true) ∧ (c.a0 = 0)))
    (md 1 (PD 2 0x0B05 0 1 [])) 0 (cmdOf 0x0B05 0 1 [])) ∧
  ((fun (s : State) (m : Nat) (c : KmiCmd) =>
    ((KmiReady s 0x0B05 m c) ∧ (c.a0 < 2) ∧ (c.a1 < 2 ^ 48) ∧ (s.get TWN_STAT_MODE ≠ 0) ∧ (s.mcMaster true = true) ∧ (c.a0 = 1) ∧ (s.twn.mc.isOpen = false) ∧ (tickGe c.a1 (tickAdd s.tickno (3 + s.mcLag true)) = true)))
    (md 1 (PD 2 0x0B05 1 100 [])) 0 (cmdOf 0x0B05 1 100 [])) ∧
  ((fun (s : State) (m : Nat) (c : KmiCmd) =>
    ((KmiReady s 0x0B05 m c) ∧ (2 ≤ c.a0 ∨ 2 ^ 48 ≤ c.a1)))
    (PD 2 0x0B05 2 1 []) 0 (cmdOf 0x0B05 2 1 [])) ∧
  ((fun (s : State) (m : Nat) (c : KmiCmd) =>
    ((KmiReady s 0x0B05 m c) ∧ (c.a0 < 2) ∧ (c.a1 < 2 ^ 48) ∧ (s.get TWN_STAT_MODE = 0 ∨ s.mcMaster true = false)))
    (PD 2 0x0B05 1 1 []) 0 (cmdOf 0x0B05 1 1 [])) ∧
  ((fun (s : State) (m : Nat) (c : KmiCmd) =>
    ((KmiReady s 0x0B05 m c) ∧ (c.a0 < 2) ∧ (c.a1 < 2 ^ 48) ∧ (s.get TWN_STAT_MODE ≠ 0) ∧ (s.mcMaster true = true) ∧ (c.a0 = 1) ∧ (s.twn.mc.isOpen = false) ∧ (tickGe c.a1 (tickAdd s.tickno (3 + s.mcLag true)) = false)))
    (md 1 (PD 2 0x0B05 1 1 [])) 0 (cmdOf 0x0B05 1 1 [])) ∧
  ((fun (s : State) (m : Nat) (c : KmiCmd) =>
    ((KmiReady s 0x0B05 m c) ∧ (c.a0 < 2) ∧ (c.a1 < 2 ^ 48) ∧ (s.get TWN_STAT_MODE ≠ 0) ∧ (s.mcMaster true = true) ∧ (c.a0 = 1) ∧ (s.twn.mc.isOpen = true)))
    (opn (md 1 (PD 2 0x0B05 1 1 []))) 0 (cmdOf 0x0B05 1 1 [])) ∧
  ((fun (s : State) =>
    ((fun t => (tickGe t (tickAdd s.tickno (3 + s.mcLag true)) = false)) (s.get TWN_MC_TICK_LO_T_LO + 2 ^ 32 * s.get TWN_MC_TICK_HI_T_HI)))
    (md 1 R)) ∧
  ((fun (s : State) =>
    ((fun t => (s.mcMaster true = true) ∧ (s.get TWN_STAT_MODE ≠ 0) ∧ (s.twn.mc.isOpen = false) ∧ (tickGe t (tickAdd s.tickno (3 + s.mcLag true)) = true)) (s.get TWN_MC_TICK_LO_T_LO + 2 ^ 32 * s.get TWN_MC_TICK_HI_T_HI)))
    ((md 1 R).set TWN_MC_TICK_LO_T_LO 100)) ∧
  ((fun (s : State) =>
    ((s.mcMaster true = false ∨ s.get TWN_STAT_MODE = 0 ∨ s.twn.mc.isOpen = true)))
    R) ∧
  ((fun (s : State) (m : Nat) (c : KmiCmd) (_auth : Bool) (_peer : Bool) =>
    ((KmiReady s 0x0B03 m c) ∧ (3 ≤ c.a0 ∨ 2 ^ 48 ≤ c.a1)))
    (prS 3 5) 0 (cmdOf 0x0B03 3 5 []) true true) ∧
  ((fun (s : State) (m : Nat) (c : KmiCmd) (_auth : Bool) (_peer : Bool) =>
    ((KmiReady s 0x0B03 m c) ∧ (1 ≤ c.a0) ∧ (c.a0 < 3) ∧ (c.a1 < 2 ^ 48) ∧ (s.flag TWN_CTRL_EN = false ∨ s.flag TWN_STAT_LANES_UP = false ∨ s.flag TWN_STAT_CAL_DONE = false ∨ s.twn.mc.isOpen = true)))
    (opn (prS 1 5)) 0 (cmdOf 0x0B03 1 5 []) true true) ∧
  ((fun (s : State) (m : Nat) (c : KmiCmd) (auth : Bool) (_peer : Bool) =>
    ((KmiReady s 0x0B03 m c) ∧ (1 ≤ c.a0) ∧ (c.a0 < 3) ∧ (c.a1 < 2 ^ 48) ∧ (s.flag TWN_CTRL_EN = true) ∧ (s.flag TWN_STAT_LANES_UP = true) ∧ (s.flag TWN_STAT_CAL_DONE = true) ∧ (s.twn.mc.isOpen = false) ∧ (s.slotHolds (s.get TWN_AUTH_CA_SLOT) 2 = true) ∧ (s.lcStates.all (slotCa (s.get TWN_AUTH_CA_SLOT)) = true) ∧ ((s.mcMaster true = true → tickGe c.a1 (tickAdd s.tickno (3 + s.mcLag true)) = true)) ∧ (auth = false)))
    (prS 1 500) 0 (cmdOf 0x0B03 1 500 []) false true) ∧
  ((fun (s : State) (m : Nat) (c : KmiCmd) (auth : Bool) (peer : Bool) =>
    ((KmiReady s 0x0B03 m c) ∧ (1 ≤ c.a0) ∧ (c.a0 < 3) ∧ (c.a1 < 2 ^ 48) ∧ (s.flag TWN_CTRL_EN = true) ∧ (s.flag TWN_STAT_LANES_UP = true) ∧ (s.flag TWN_STAT_CAL_DONE = true) ∧ (s.twn.mc.isOpen = false) ∧ (s.slotHolds (s.get TWN_AUTH_CA_SLOT) 2 = true) ∧ (s.lcStates.all (slotCa (s.get TWN_AUTH_CA_SLOT)) = true) ∧ ((s.mcMaster true = true → tickGe c.a1 (tickAdd s.tickno (3 + s.mcLag true)) = true)) ∧ (auth = true) ∧ ((peer = false ∨ s.pairChecks = false))))
    (prS 1 500) 0 (cmdOf 0x0B03 1 500 []) true true) ∧
  ((fun (s : State) (m : Nat) (c : KmiCmd) (auth : Bool) (peer : Bool) =>
    ((KmiReady s 0x0B03 m c) ∧ (1 ≤ c.a0) ∧ (c.a0 < 3) ∧ (c.a1 < 2 ^ 48) ∧ (s.flag TWN_CTRL_EN = true) ∧ (s.flag TWN_STAT_LANES_UP = true) ∧ (s.flag TWN_STAT_CAL_DONE = true) ∧ (s.twn.mc.isOpen = false) ∧ (s.slotHolds (s.get TWN_AUTH_CA_SLOT) 2 = true) ∧ (s.lcStates.all (slotCa (s.get TWN_AUTH_CA_SLOT)) = true) ∧ ((s.mcMaster true = true → tickGe c.a1 (tickAdd s.tickno (3 + s.mcLag true)) = true)) ∧ (auth = true) ∧ (peer = true) ∧ (s.pairChecks = true)))
    ((prS 1 500).set CFG_ITIN_ITIN_ID 5) 0 (cmdOf 0x0B03 1 500 []) true true) ∧
  ((fun (s : State) (m : Nat) (c : KmiCmd) (_auth : Bool) (_peer : Bool) =>
    ((KmiReady s 0x0B03 m c) ∧ (c.a0 = 0) ∧ (c.a1 < 2 ^ 48) ∧ (s.get TWN_STAT_MODE = 0 ∨ s.mcMaster true = false ∨ s.twn.mc.isOpen = true)))
    (PD 2 0x0B03 0 5 []) 0 (cmdOf 0x0B03 0 5 []) true true) ∧
  ((fun (s : State) (m : Nat) (c : KmiCmd) (_auth : Bool) (_peer : Bool) =>
    ((KmiReady s 0x0B03 m c) ∧ (c.a0 = 0) ∧ (c.a1 < 2 ^ 48) ∧ (s.get TWN_STAT_MODE ≠ 0) ∧ (s.mcMaster true = true) ∧ (s.twn.mc.isOpen = false) ∧ (tickGe c.a1 (tickAdd s.tickno (3 + s.mcLag true)) = false)))
    (md 1 (PD 2 0x0B03 0 1 [])) 0 (cmdOf 0x0B03 0 1 []) true true) ∧
  ((fun (s : State) (m : Nat) (c : KmiCmd) (_auth : Bool) (_peer : Bool) =>
    ((KmiReady s 0x0B03 m c) ∧ (c.a0 = 0) ∧ (c.a1 < 2 ^ 48) ∧ (s.get TWN_STAT_MODE ≠ 0) ∧ (s.mcMaster true = true) ∧ (s.twn.mc.isOpen = false) ∧ (tickGe c.a1 (tickAdd s.tickno (3 + s.mcLag true)) = true)))
    (md 1 (PD 2 0x0B03 0 100 [])) 0 (cmdOf 0x0B03 0 100 []) true true) ∧
  ((fun (s : State) (m : Nat) (c : KmiCmd) (_auth : Bool) (_peer : Bool) =>
    ((KmiReady s 0x0B03 m c) ∧ (1 ≤ c.a0) ∧ (c.a0 < 3) ∧ (c.a1 < 2 ^ 48) ∧ (s.flag TWN_CTRL_EN = true) ∧ (s.flag TWN_STAT_LANES_UP = true) ∧ (s.flag TWN_STAT_CAL_DONE = true) ∧ (s.twn.mc.isOpen = false) ∧ (s.slotHolds (s.get TWN_AUTH_CA_SLOT) 2 = false ∨ s.lcStates.all (slotCa (s.get TWN_AUTH_CA_SLOT)) = false)))
    ((prS 1 500).set TWN_AUTH_CA_SLOT 9) 0 (cmdOf 0x0B03 1 500 []) true true) ∧
  ((fun (s : State) (m : Nat) (c : KmiCmd) (_auth : Bool) (_peer : Bool) =>
    ((KmiReady s 0x0B03 m c) ∧ (1 ≤ c.a0) ∧ (c.a0 < 3) ∧ (c.a1 < 2 ^ 48) ∧ (s.flag TWN_CTRL_EN = true) ∧ (s.flag TWN_STAT_LANES_UP = true) ∧ (s.flag TWN_STAT_CAL_DONE = true) ∧ (s.twn.mc.isOpen = false) ∧ (s.slotHolds (s.get TWN_AUTH_CA_SLOT) 2 = true) ∧ (s.lcStates.all (slotCa (s.get TWN_AUTH_CA_SLOT)) = true) ∧ (s.mcMaster true = true) ∧ (tickGe c.a1 (tickAdd s.tickno (3 + s.mcLag true)) = false)))
    (prS 1 1) 0 (cmdOf 0x0B03 1 1 []) true true) ∧
  ((fun (s : State) (m : Nat) (c : KmiCmd) =>
    ((KmiReady s 0x0B06 m c) ∧ (fun d => (fun ids => (2 ^ 24 ≤ c.a0 ∨ (∃ i ∈ ids, 0xFF00 ≤ i) ∨ (∃ i ∈ ids, i ≠ ids.headD 0))) ((bitList c.a0 24).map (fun r => s.planeItin r (s.inactPlane r) % 65536))) (s.mcDisarm true)))
    (PD 2 0x0B06 (2^24) 0 []) 0 (cmdOf 0x0B06 (2^24) 0 [])) ∧
  ((fun (s : State) (m : Nat) (c : KmiCmd) =>
    ((KmiReady s 0x0B06 m c) ∧ (fun d => (fun ids => (c.a0 < 2 ^ 24) ∧ ((∀ i ∈ ids, i < 0xFF00 ∧ i = ids.headD 0)) ∧ (s.twn.mc.isOpen = false) ∧ (c.a0 = 0)) ((bitList c.a0 24).map (fun r => s.planeItin r (s.inactPlane r) % 65536))) (s.mcDisarm true)))
    (PD 2 0x0B06 0 0 []) 0 (cmdOf 0x0B06 0 0 [])) ∧
  ((fun (s : State) (m : Nat) (c : KmiCmd) =>
    ((KmiReady s 0x0B06 m c) ∧ (fun d => (fun ids => (c.a0 < 2 ^ 24) ∧ ((∀ i ∈ ids, i < 0xFF00 ∧ i = ids.headD 0)) ∧ (s.twn.mc.isOpen = false) ∧ ((∀ r, r < 24 → bitB c.a0 r = true → d.geti CFG_ROOM_STAT_CO_PENDING r ≠ 1 ∧ bitB d.armedRooms r = false)) ∧ (c.a0 ≠ 0) ∧ (match (d.coFree) with | some j => decide (True) | _ => false) = true) ((bitList c.a0 24).map (fun r => s.planeItin r (s.inactPlane r) % 65536))) (s.mcDisarm true)))
    (PD 2 0x0B06 8 0 []) 0 (cmdOf 0x0B06 8 0 [])) ∧
  ((fun (s : State) (m : Nat) (c : KmiCmd) =>
    ((KmiReady s 0x0B06 m c) ∧ (fun d => (fun ids => (c.a0 < 2 ^ 24) ∧ ((∀ i ∈ ids, i < 0xFF00 ∧ i = ids.headD 0)) ∧ (s.twn.mc.isOpen = true)) ((bitList c.a0 24).map (fun r => s.planeItin r (s.inactPlane r) % 65536))) (s.mcDisarm true)))
    (opn (PD 2 0x0B06 9 0 [])) 0 (cmdOf 0x0B06 9 0 [])) ∧
  ((fun (s : State) (m : Nat) (c : KmiCmd) =>
    ((KmiReady s 0x0B06 m c) ∧ (fun d => (fun ids => (c.a0 < 2 ^ 24) ∧ ((∀ i ∈ ids, i < 0xFF00 ∧ i = ids.headD 0)) ∧ (s.twn.mc.isOpen = false) ∧ ((∃ r ∈ List.range 24, bitB c.a0 r = true ∧ (d.geti CFG_ROOM_STAT_CO_PENDING r = 1 ∨ bitB d.armedRooms r = true)))) ((bitList c.a0 24).map (fun r => s.planeItin r (s.inactPlane r) % 65536))) (s.mcDisarm true)))
    ((PD 2 0x0B06 9 0 []).seti CFG_ROOM_STAT_CO_PENDING 3 1) 0 (cmdOf 0x0B06 9 0 [])) ∧
  ((fun (s : State) (m : Nat) (c : KmiCmd) =>
    ((KmiReady s 0x0B06 m c) ∧ (fun d => (fun ids => (c.a0 < 2 ^ 24) ∧ ((∀ i ∈ ids, i < 0xFF00 ∧ i = ids.headD 0)) ∧ (s.twn.mc.isOpen = false) ∧ ((∀ r, r < 24 → bitB c.a0 r = true → d.geti CFG_ROOM_STAT_CO_PENDING r ≠ 1 ∧ bitB d.armedRooms r = false)) ∧ (c.a0 ≠ 0) ∧ (d.coFree = none)) ((bitList c.a0 24).map (fun r => s.planeItin r (s.inactPlane r) % 65536))) (s.mcDisarm true)))
    (full4 (PD 2 0x0B06 9 0 [])) 0 (cmdOf 0x0B06 9 0 [])) := by
  beta_reduce; decide +kernel

end C14

/-! ### Witnesses: Rules stated whole -/

namespace C16

def cTag (x : Nat) : KmiCmd := { cmdOf 0x0303 0 0 [] with tag := x }
def enc (mode : Nat) (a b : Bool) : State := let s := (((R.seti MSU_ENC_CTRL_EN 2 1).seti MSU_ENC_CTRL_MODE 2 mode).seti MSU_ENC_STAT_STOPPED 2 0)
  s.setEnc 2 { s.encSt 2 with a := a, b := b, p := 100, k := 4, stamps := [1000, 900, 800, 700], sinceZ := some 5 }
def tk (f : TickSt → TickSt) (s : State) : State := { s with tick := f s.tick }
def tw_ (f : TwnSt → TwnSt) (s : State) : State := { s with twn := f s.twn }
def eng (src : Nat) : State := tk (fun k => {k with firstDue := false, tickOpen := true, b := 5000000, lastAccepted := 5000000, opened := 7, part := 0x3F, prevStamp := some 5000000}) ((((roomUp R 3).set TCK_CTRL_EN 1).set TCK_SRC_ACTIVE src).set TCK_TICKNO_LO 7)
def late := 100000000
def mem (s : State) : State := (s.set SYC_CTRL_EN 1).set SYC_CTRL_ROLE 2
def comp (s : State) : State := ((s.set TWN_CTRL_EN 1).set TWN_STAT_MODE 1).set TWN_STAT_ROLE 1
def due (s : State) (t : Nat) : State := { s with msu := { s.msu with sched := some t } }
def dmP (ty tick time : Nat) : List Nat := downMsg ty 0 2 tick time [1 + 16 * 3, 5, 0, 4]
def mdr (n : Nat) (s : State) : State := comp ((s.set TWN_STAT_MODE n).set TWN_STAT_LANES_UP 1)
def subS (src : Nat) : State := ((mdr 2 (eng src)).set MSU_DIV_CTRL_EN 1).seti MSU_ENC_STAT_STOPPED 0 0
def dl (d : Option (Nat × Nat)) (s : State) : State := tw_ (fun h => {h with deadline := d}) s
def fl (n : Nat) (x : Option Nat) (s : State) : State := (s.seti MSU_ENC_CTRL_FILT 2 n).setEnc 2 { s.encSt 2 with stampA := x, stampB := x }

-- For Obligations.StaleTags.
theorem witness_StaleTags :
  ((fun (s : State) (m : Nat) (c : KmiCmd) =>
    ((m < 15) ∧ (m < s.kmi.mbx.length) ∧ (s.pf0Reach = true) ∧ (s.get PWR_STATE_CUR = 0) ∧ (s.pwr.vote = none) ∧ (s.pwr.entering = none) ∧ ((s.geti KMI_MBX_STATE m = 1 ∨ s.geti KMI_MBX_STATE m = 4)) ∧ (c.gen ≠ s.geti KMI_MBX_GEN m)))
    ((Rf.set PWR_DOM_ON 0xFFFFFFFF).seti KMI_MBX_STATE 3 1) 3 (cTag 0x5001)) ∧
  ((fun (s : State) (m : Nat) (c : KmiCmd) =>
    ((m < 15) ∧ (m < s.kmi.mbx.length) ∧ (s.pf0Reach = true) ∧ (s.get PWR_STATE_CUR = 0) ∧ (s.pwr.vote = none) ∧ (s.pwr.entering = none) ∧ ((s.geti KMI_MBX_STATE m = 1 ∨ s.geti KMI_MBX_STATE m = 4)) ∧ ((List.range 64).any fun x => decide ((c.gen = s.geti KMI_MBX_GEN m) ∧ (kmiWellFormed c = true) ∧ ((c.hostBuf = true → bitB s.hlk.bme 0 = true)))) = true))
    ((Rf.set PWR_DOM_ON 0xFFFFFFFF).seti KMI_MBX_STATE 3 4) 3 (cTag 0x0123)) := by
  beta_reduce; decide +kernel

-- For Obligations.QuadratureErrors.
theorem witness_QuadratureErrors :
  ((fun (s : State) (ch : Nat) (stamp : Nat) (t : Nat) (a : Bool) (b : Bool) =>
    ((ch < 8) ∧ (s.msu.enc.length = 8) ∧ (s.flagi MSU_ENC_CTRL_EN ch = true) ∧ (1 ≤ s.geti MSU_ENC_CTRL_MODE ch) ∧ (s.geti MSU_ENC_CTRL_MODE ch ≤ 3) ∧ ((if s.flagi MSU_ENC_CTRL_SWAP ch then b else a) ≠ (s.encSt ch).a) ∧ ((if s.flagi MSU_ENC_CTRL_SWAP ch then a else b) ≠ (s.encSt ch).b) ∧ (s.filtered ch stamp t (s.encSt ch).stampA = true) ∧ (s.filtered ch stamp t (s.encSt ch).stampB = true)))
    (fl 9 (some 100) (enc 2 true false)) 2 100000 200000 false true) := by
  beta_reduce; decide +kernel

-- For Obligations.NeverDeferred.
theorem witness_NeverDeferred :
  ((fun (s : State) (t : Nat) (_skew : Nat) =>
    ((s.flag TCK_CTRL_EN = true) ∧ (s.isEarly t = false) ∧ (s.get TCK_SRC_ACTIVE = 0) ∧ (s.msu.sched = some t) ∧ (s.get PWR_STATE_CUR < 3)))
    (due (eng 0) late) late 100) ∧
  ((fun (s : State) (t : Nat) (_skew : Nat) =>
    ((s.flag TCK_CTRL_EN = true) ∧ (s.isEarly t = false) ∧ (s.get TCK_SRC_ACTIVE = 3)))
    (eng 3) late 100) ∧
  ((fun (s : State) (t : Nat) (_skew : Nat) =>
    ((match (s.tick.timerAnchor) with | some a => decide ((fun d => (s.flag TCK_CTRL_EN = true) ∧ (s.get TCK_SRC_ACTIVE = 2) ∧ (s.isEarly d = false) ∧ (timeGe t d = true)) (s.timerDue a)) | _ => false) = true))
    (tk (fun k => {k with timerAnchor := some 5000000}) (eng 2)) 50000000000000 100) ∧
  ((fun (s : State) (tw : Bool) (msg : List Nat) (_t : Nat) (_skew : Nat) =>
    ((s.mcMember tw = true) ∧ (downGood msg = true) ∧ (downType msg = 0) ∧ (s.linkRuns tw = true) ∧ ((tw = false ∨ s.tick.firstDue = true ∨ tickGe s.tickno (downTick msg) = false))))
    (mem (eng 1)) false (dmP 0 20 late) (late + 1000000) 5) ∧
  ((fun (s : State) (t : Nat) (_skew : Nat) =>
    ((match (s.twn.deadline) with | some (x, due) => decide ((s.isCompanion = true) ∧ (s.linkRuns true = true) ∧ (s.tick.firstDue = false) ∧ (s.flag MSU_DIV_CTRL_EN = true) ∧ (s.flagi MSU_ENC_STAT_STOPPED s.divCh = false) ∧ (tickGe x (tickAdd s.tickno 1) = true) ∧ (timeGe t due = true)) | _ => false) = true))
    (dl (some (8, late - 5)) (subS 4)) late 5) := by
  beta_reduce; decide +kernel

end C16

/-! ### Witnesses: what every step keeps -/

-- For Obligations.QueueRuns: a queue of well-formed commands that runs, and one whose front names Room 24.
theorem witness_QueueRuns : State.queueOk { R with pending := [.rdone 3 100, .syncEnum] } = true ∧
    (wellFormed (.rdone 24 0) = false ∧ State.pending { R with pending := [.rdone 24 0] } = .rdone 24 0 :: []) := by decide +kernel

-- For Obligations.OtpBitsStay, StoresStayCanonical and UnitsStay: a state with a byte in each store, whose step answers a next state.
def stored : State := { R with dram := [(7, 1)], pantry := [(0x40, 0x12)], otp := [(3, 0x80)], pending := [.rdone 3 100] }
theorem witness_Stores : stored.storesOk = true ∧ stored.shapeOk = true ∧ stored.otpBit 3 7 = true ∧
    (match step stored with | .next t => t.storesOk && t.shapeOk && t.otpBit 3 7 | _ => false) = true := by decide +kernel

end Sys2Proof.Tests
end

section
/-! The divider's event on a paired Companion (R521), and what it means for R64: the refutation of Obligations.NeverDeferred. -/

namespace Sys2Proof.Machine

open Reg

/-! ### The divider's updates -/

/-- The threshold's crossing writes MSU_DIV_NEXT alone: any field at another key reads as before. -/
theorem State.get_divCross_ne (s : State) (f : Fld) (hlo : f.key 0 0 ≠ MSU_DIV_NEXT_LO.key 0 0) (hhi : f.key 0 0 ≠ MSU_DIV_NEXT_HI.key 0 0) :
    s.divCross.get f = s.get f :=
  (State.get_set_ne _ _ _ _ hhi).trans (State.get_set_ne _ _ _ _ hlo)

/-- The time counter's advance writes MSU_TIME alone: any field at another key reads as before. -/
theorem State.get_setNow_ne (s : State) (f : Fld) (t : Nat) (hlo : f.key 0 0 ≠ MSU_TIME_LO.key 0 0) (hhi : f.key 0 0 ≠ MSU_TIME_HI.key 0 0) :
    (s.setNow t).get f = s.get f :=
  (State.get_set_ne _ _ _ _ hhi).trans (State.get_set_ne _ _ _ _ hlo)

/-- Neither the time counter nor the threshold decides whether the unit is a paired Companion. -/
theorem State.isCompanion_divCross_setNow (s : State) (t : Nat) : (s.setNow t).divCross.isCompanion = s.isCompanion := by
  have hkeep : ∀ f ∈ [TWN_STAT_MODE, TWN_STAT_ROLE], (s.setNow t).divCross.get f = s.get f := by
    intro f hf
    have hne : ∀ f ∈ [TWN_STAT_MODE, TWN_STAT_ROLE], ∀ g ∈ [MSU_DIV_NEXT_LO, MSU_DIV_NEXT_HI, MSU_TIME_LO, MSU_TIME_HI],
        f.key 0 0 ≠ g.key 0 0 := by decide
    rw [State.get_divCross_ne _ f (hne f hf _ (by simp)) (hne f hf _ (by simp)),
      State.get_setNow_ne _ f t (hne f hf _ (by simp)) (hne f hf _ (by simp))]
  simp [State.isCompanion, State.flag, hkeep]

@[simp] theorem State.divCross_tick (s : State) : s.divCross.tick = s.tick := rfl

@[simp] theorem State.shadowCross_tick (s : State) (t : Nat) : (s.shadowCross t).tick = s.tick := rfl

@[simp] theorem State.divSched_tick (s : State) : s.divSched.tick = s.tick := by
  unfold State.divSched; split <;> rfl

/-! ### The shadow divider (R521) -/

/-- On a paired Companion the divider's event goes to the Twin Link and not to the tick engine. -/
theorem exec_encoderEventDue_companion {s : State} {t : Nat} (skew : Nat) (hsched : s.msu.sched = some t) (hpwr : s.get PWR_STATE_CUR < 3)
    (hcomp : s.isCompanion = true) :
    exec (.encoderEventDue skew) s = .next (((s.setNow t).divCross).shadowCross t).divSched := by
  have hshadow : (s.setNow t).divCross.isCompanion = true := (s.isCompanion_divCross_setNow t).trans hcomp
  unfold State.isCompanion at hshadow
  change execEncoderEventDue skew s = _
  simp only [execEncoderEventDue, hsched, hpwr, hshadow, if_true]

/-- A divider's event on a paired Companion opens no tick: one that starts with its first boundary still due ends so. -/
theorem encoderEventDue_companion_opens_no_tick {s : State} {t : Nat} (skew tick tor skew' : Nat) (hsched : s.msu.sched = some t)
    (hpwr : s.get PWR_STATE_CUR < 3) (hcomp : s.isCompanion = true) (hfirst : s.tick.firstDue = true) :
    ¬ Answers (.encoderEventDue skew) s (fun u => TickOpened u tick tor skew') := by
  rintro ⟨u, hu, -, -, -, -, -, hopened, -⟩
  rw [exec_encoderEventDue_companion skew hsched hpwr hcomp] at hu
  cases hu
  simp [hfirst] at hopened

/-- A Companion in MIRROR whose tick engine is enabled on source ENCODER, its first boundary due, with a divider event scheduled at time 0. -/
def companionOnEncoder : State :=
  let s := ((State.reset.set TCK_CTRL_EN 1).set TWN_STAT_MODE 1).set TWN_STAT_ROLE 1
  { s with msu := { s.msu with sched := some 0 } }

end Sys2Proof.Machine

open Sys2Proof.Machine Sys2Proof.Machine.Reg

/-- Refutes O60: its ENCODER clause leaves out the premise that the unit is no Companion. On a Companion the divider is the shadow divider, whose
events go to the Twin Link and not to the tick engine (R519, R521), so in `companionOnEncoder` an event that is not early opens no tick. -/
theorem not_neverDeferred : ¬ Obligations.NeverDeferred := by
  unfold Obligations.NeverDeferred
  rintro ⟨hown, -⟩
  obtain ⟨hencoder, -⟩ := hown companionOnEncoder 0 0 (by decide) (by decide)
  exact encoderEventDue_companion_opens_no_tick 0 _ 0 0 rfl (by decide) (by decide) rfl (hencoder (by decide) rfl (by decide))
end

section
/-! What a Ledger entry leaves of the registers (R576 to R581). -/

namespace Sys2Proof.Machine

open Reg

/-- The register fields a Ledger entry writes; `LedgerBut` allows these same ones. -/
def ledgerFlds : List Fld :=
  [LDG_HEAD_SEQ, LDG_TAIL_SEQ, LDG_STAT_HELD, LDG_STAT_FULL, LDG_CNT_SUPPRESSED, LDG_CNT_DROPPED, LDG_AONQ_HELD, LDG_AONQ_LOST]

theorem RegsBut.ite {l : List Fld} {s t u : State} {c : Prop} [Decidable c] (h : c → RegsBut l s t) (k : ¬c → RegsBut l s u) :
    RegsBut l s (if c then t else u) := by
  split
  · next hc => exact h hc
  · next hc => exact k hc

/-- Posting an event record leaves the registers alone. -/
@[simp] theorem State.event_regs (s : State) (code group e0 e1 : Nat) : (s.event code group e0 e1).regs = s.regs := by
  unfold State.event
  extract_lets unread kmi rec s1
  split_ifs
  · rfl
  · exact State.msix_regs s1 0 15
  · rfl

theorem RegsBut.ledgerAppend (s : State) (code flags tick supp time detail : Nat) :
    RegsBut ledgerFlds s (s.ledgerAppend code flags tick supp time detail) := by
  unfold State.ledgerAppend
  extract_lets seq rec ldg s1 s2
  have hbuf : RegsBut ledgerFlds s s1 := RegsBut.of_eq _ rfl
  have htail : RegsBut ledgerFlds s1 s2 :=
    RegsBut.ite (fun _ => RegsBut.set2 _ _ _ _ _ _ (by simp [ledgerFlds])) (fun _ => RegsBut.refl _ _)
  exact hbuf.trans (htail.trans ((RegsBut.set2 _ _ LDG_HEAD_SEQ _ _ _ (by simp [ledgerFlds])).trans
    (RegsBut.set2 _ _ LDG_STAT_HELD _ _ _ (by simp [ledgerFlds]))))

theorem RegsBut.ledgerTake (s : State) (code flags tick time detail : Nat) :
    RegsBut ledgerFlds s (s.ledgerTake code flags tick time detail) := by
  have hldg : ∀ (s : State) (k : LedgerSt), RegsBut ledgerFlds s { s with ldg := k } := fun s k => RegsBut.of_eq _ rfl
  have hset : ∀ f ∈ ledgerFlds, ∀ (s : State) (v : Nat), RegsBut ledgerFlds s (s.set f v) := fun f hf s v => RegsBut.set2 _ _ _ _ _ _ hf
  have hinc : ∀ f ∈ ledgerFlds, ∀ s : State, RegsBut ledgerFlds s (s.inc f) := fun f hf s => hset f hf s _
  unfold State.ledgerTake
  extract_lets cls src0 sTok a1 src1 sRun supp b1 src2 src3 sDrop
  have htok : RegsBut ledgerFlds s sTok := RegsBut.ite (fun _ => RegsBut.refl _ _) (fun _ => hldg _ _)
  have hrun : RegsBut ledgerFlds sTok sRun :=
    RegsBut.ite (fun _ => (RegsBut.ledgerAppend _ _ _ _ _ _ _).trans ((hldg _ _).trans (hset _ (by simp [ledgerFlds]) _ _)))
      (fun _ => RegsBut.refl _ _)
  have hdrop : RegsBut ledgerFlds sRun sDrop := (hldg _ _).trans (hinc _ (by simp [ledgerFlds]) _)
  refine RegsBut.ite (fun _ => (hldg _ _).trans (hinc _ (by simp [ledgerFlds]) _)) (fun _ => htok.trans (hrun.trans ?_))
  refine RegsBut.ite (fun _ => (RegsBut.ledgerAppend _ _ _ _ _ _ _).trans (hldg _ _)) (fun _ => hdrop.trans ?_)
  exact RegsBut.ite (fun _ => RegsBut.refl _ _)
    (fun _ => (hset _ (by simp [ledgerFlds]) _ _).trans (RegsBut.of_eq _ (State.event_regs _ _ _ _ _)))

theorem RegsBut.ledger (s : State) (code detail : Nat) : RegsBut ledgerFlds s (s.ledger code detail) := by
  unfold State.ledger
  refine RegsBut.ite (fun _ => RegsBut.ite (fun _ => RegsBut.ledgerTake _ _ _ _ _ _) (fun _ => RegsBut.refl _ _)) (fun _ => ?_)
  exact RegsBut.ite (fun _ => RegsBut.trans (RegsBut.of_eq _ rfl) (RegsBut.set2 _ _ LDG_AONQ_HELD _ _ _ (by simp [ledgerFlds])))
    (fun _ => RegsBut.set2 _ _ LDG_AONQ_LOST _ _ _ (by simp [ledgerFlds]))

/-- A field at a key other than the Ledger's own reads after an entry as before: the Ledger's registers have no index. -/
theorem State.get2_ledger (s : State) (code detail : Nat) {g : Fld} {i j : Nat} (hg : ∀ f ∈ ledgerFlds, g.key i j ≠ f.key 0 0) :
    (s.ledger code detail).get2 g i j = s.get2 g i j := by
  have hstride : ∀ f ∈ ledgerFlds, f.s1 = 0 ∧ f.s2 = 0 := by decide
  refine (RegsBut.ledger s code detail).get2 g i j fun f hf a b => ?_
  obtain ⟨h1, h2⟩ := hstride f hf
  simpa [Fld.key, h1, h2] using hg f hf

@[simp] theorem State.ledger_msu (s : State) (code detail : Nat) : (s.ledger code detail).msu = s.msu :=
  SameBut.ledger s code detail .msu (by simp)

end Sys2Proof.Machine
end

section
/-! A quadrature error (R71): the state after the sample, and the proof of Obligations.QuadratureErrors. -/

namespace Sys2Proof.Machine

open Reg

/-! ### The time counter and the encoder channels -/

/-- The time counter's advance writes MSU_TIME alone: any field of an indexed register at another key reads as before. -/
theorem State.geti_setNow_ne (s : State) (f : Fld) (i t : Nat) (hlo : f.key i 0 ≠ MSU_TIME_LO.key 0 0) (hhi : f.key i 0 ≠ MSU_TIME_HI.key 0 0) :
    (s.setNow t).geti f i = s.geti f i :=
  (State.geti_set_ne _ _ _ _ _ hhi).trans (State.geti_set_ne _ _ _ _ _ hlo)

/-- The fields of MSU_ENCn_CTRL that decide whether an edge is a quadrature error (R69, R71). -/
def encCtrlFlds : List Fld := [MSU_ENC_CTRL_EN, MSU_ENC_CTRL_MODE, MSU_ENC_CTRL_SWAP, MSU_ENC_CTRL_FILT]

theorem State.geti_setNow_encCtrl (s : State) (f : Fld) {ch : Nat} (t : Nat) (hf : f ∈ encCtrlFlds) (hch : ch < 8) :
    (s.setNow t).geti f ch = s.geti f ch := by
  have hne : ∀ f ∈ encCtrlFlds, ∀ i < 8, f.key i 0 ≠ MSU_TIME_LO.key 0 0 ∧ f.key i 0 ≠ MSU_TIME_HI.key 0 0 := by decide
  obtain ⟨hlo, hhi⟩ := hne f hf ch hch
  exact s.geti_setNow_ne f ch t hlo hhi

theorem State.flagi_setNow_encCtrl (s : State) (f : Fld) {ch : Nat} (t : Nat) (hf : f ∈ encCtrlFlds) (hch : ch < 8) :
    (s.setNow t).flagi f ch = s.flagi f ch := by
  simp only [State.flagi, s.geti_setNow_encCtrl f t hf hch]

/-- The filter does not read the time counter. -/
theorem State.filtered_setNow (s : State) {ch : Nat} (now stamp t : Nat) (last : Option Nat) (hch : ch < 8) :
    (s.setNow now).filtered ch stamp t last = s.filtered ch stamp t last := by
  simp only [State.filtered, s.geti_setNow_encCtrl MSU_ENC_CTRL_FILT now (by simp [encCtrlFlds]) hch]

@[simp] theorem State.encSt_setNow (s : State) (ch t : Nat) : (s.setNow t).encSt ch = s.encSt ch := rfl

@[simp] theorem State.encSt_seti (s : State) (f : Fld) (i v ch : Nat) : (s.seti f i v).encSt ch = s.encSt ch := rfl

theorem State.encSt_setEnc_self (s : State) {ch : Nat} (e : EncSt) (h : ch < s.msu.enc.length) : (s.setEnc ch e).encSt ch = e := by
  simp [State.setEnc, State.encSt, setAt, List.getD_eq_getElem?_getD, h]

theorem State.encSt_setEnc_ne (s : State) {ch i : Nat} (e : EncSt) (h : i ≠ ch) : (s.setEnc ch e).encSt i = s.encSt i := by
  simp [State.setEnc, State.encSt, setAt, List.getD_eq_getElem?_getD, List.getElem?_set_ne h.symm]

theorem SameBut.setEnc (s : State) (ch : Nat) (e : EncSt) : SameBut [.msu] s (s.setEnc ch e) := by
  intro p hp; cases p <;> simp at hp <;> rfl

/-- A Ledger entry leaves the channel's QERR as it was. -/
@[simp] theorem State.flagi_ledger_qerr (s : State) (code detail ch : Nat) :
    (s.ledger code detail).flagi MSU_ENC_STAT_QERR ch = s.flagi MSU_ENC_STAT_QERR ch := by
  have hkey : ∀ f ∈ ledgerFlds, MSU_ENC_STAT_QERR.key ch 0 ≠ f.key 0 0 := by
    -- The channels' registers lie 32 bytes apart at offset 0x18, where no Ledger register that an entry writes lies.
    have hres : ∀ f ∈ ledgerFlds, f.key 0 0 % 1024 ≠ 32 * 0x18 := by decide
    intro f hf heq
    apply hres f hf
    rw [← heq]
    change ((0x100018 + 32 * ch) * 32) % 1024 = _
    omega
  simp only [State.flagi, State.geti, State.get2_ledger s code detail hkey]

/-! ### The erroneous sample -/

/-- In modes 1 to 3 a change of both inputs counts nothing and is an error. -/
theorem encCount_both_change {mode : Nat} {a0 b0 a1 b1 : Bool} (hlo : 1 ≤ mode) (hhi : mode ≤ 3) (ha : a1 ≠ a0) (hb : b1 ≠ b0) :
    encCount mode a0 b0 a1 b1 = (0, true) := by
  have hda : (a0 != a1) = true := by simpa using ha.symm
  have hdb : (b0 != b1) = true := by simpa using hb.symm
  obtain rfl | rfl | rfl : mode = 1 ∨ mode = 2 ∨ mode = 3 := by omega
  all_goals simp [encCount, hda, hdb]

/-- The state in which an erroneous sample's Ledger entry is written: the time is `t`, the channel holds the new levels `ain` and `bin`, both
resolved at `stamp`, and QERR is set. -/
def State.qerrSample (s : State) (ch : Nat) (ain bin : Bool) (stamp t : Nat) : State :=
  ((s.setNow t).setEnc ch { s.encSt ch with a := ain, b := bin, stampA := some stamp, stampB := some stamp }).seti MSU_ENC_STAT_QERR ch 1

/-- An edge at which both inputs, taken after SWAP, change through their filters in modes 1 to 3. -/
theorem exec_encoderEdge_qerr {s : State} {ch stamp t : Nat} {a b ain bin : Bool} (hch : ch < 8) (hen : s.flagi MSU_ENC_CTRL_EN ch = true)
    (hlo : 1 ≤ s.geti MSU_ENC_CTRL_MODE ch) (hhi : s.geti MSU_ENC_CTRL_MODE ch ≤ 3)
    (hswap : (if s.flagi MSU_ENC_CTRL_SWAP ch then (b, a) else (a, b)) = (ain, bin))
    (ha : ain ≠ (s.encSt ch).a) (hb : bin ≠ (s.encSt ch).b)
    (hfa : s.filtered ch stamp t (s.encSt ch).stampA = true) (hfb : s.filtered ch stamp t (s.encSt ch).stampB = true) :
    exec (.encoderEdge ch a b stamp t) s = .next ((s.qerrSample ch ain bin stamp t).ledger 0x0304 ch) := by
  have hcount := encCount_both_change hlo hhi ha hb
  have hEN := s.flagi_setNow_encCtrl MSU_ENC_CTRL_EN t (by simp [encCtrlFlds]) hch
  have hMODE := s.geti_setNow_encCtrl MSU_ENC_CTRL_MODE t (by simp [encCtrlFlds]) hch
  have hSWAP := s.flagi_setNow_encCtrl MSU_ENC_CTRL_SWAP t (by simp [encCtrlFlds]) hch
  change execEncoderEdge ch a b stamp t s = _
  simp [execEncoderEdge, State.qerrSample, hch, hEN, hen, hMODE, hSWAP, hswap, s.filtered_setNow t stamp t _ hch, hfa, hfb, ha, hb, hcount]

theorem State.qerrSample_qerr (s : State) (ch : Nat) (ain bin : Bool) (stamp t : Nat) :
    (s.qerrSample ch ain bin stamp t).flagi MSU_ENC_STAT_QERR ch = true := by
  simp [State.qerrSample, State.flagi, MSU_ENC_STAT_QERR]

/-- An erroneous sample leaves the count and the run of every channel. -/
theorem State.qerrSample_count (s : State) (ch : Nat) (ain bin : Bool) (stamp t : Nat) (h : ch < s.msu.enc.length) (i : Nat) :
    ((s.qerrSample ch ain bin stamp t).encSt i).p = (s.encSt i).p ∧ ((s.qerrSample ch ain bin stamp t).encSt i).k = (s.encSt i).k ∧
      ((s.qerrSample ch ain bin stamp t).encSt i).stamps = (s.encSt i).stamps := by
  rw [State.qerrSample, State.encSt_seti]
  by_cases hi : i = ch
  · subst hi
    rw [State.encSt_setEnc_self _ _ (by simpa using h)]
    exact ⟨rfl, rfl, rfl⟩
  · rw [State.encSt_setEnc_ne _ _ hi]
    exact ⟨rfl, rfl, rfl⟩

theorem SameBut.qerrSample (s : State) (ch : Nat) (ain bin : Bool) (stamp t : Nat) :
    SameBut [.regs, .msu] s (s.qerrSample ch ain bin stamp t) :=
  ((SameBut.setNow s t).mono (by simp)).trans (((SameBut.setEnc _ ch _).mono (by simp)).trans ((SameBut.set2 _ _ _ _ _).mono (by simp)))

theorem RegsBut.qerrSample (s : State) (ch : Nat) (ain bin : Bool) (stamp t : Nat) :
    RegsBut [MSU_TIME_LO, MSU_TIME_HI, MSU_ENC_STAT_QERR] s (s.qerrSample ch ain bin stamp t) := by
  have hnow : RegsBut [MSU_TIME_LO, MSU_TIME_HI, MSU_ENC_STAT_QERR] s (s.setNow t) :=
    (RegsBut.set2 _ s MSU_TIME_LO _ _ _ (by simp)).trans (RegsBut.set2 _ _ MSU_TIME_HI _ _ _ (by simp))
  have henc : ∀ (s : State) (e : EncSt), RegsBut [MSU_TIME_LO, MSU_TIME_HI, MSU_ENC_STAT_QERR] s (s.setEnc ch e) :=
    fun s e => RegsBut.of_eq _ rfl
  exact hnow.trans ((henc _ _).trans (RegsBut.set2 _ _ MSU_ENC_STAT_QERR _ _ _ (by simp)))

end Sys2Proof.Machine

open Sys2Proof.Machine Sys2Proof.Machine.Reg

/-- Settles O59: the sample leads to `State.qerrSample`, and the Ledger entry that follows touches neither the channels nor QERR. -/
theorem quadratureErrors : Obligations.QuadratureErrors := by
  unfold Obligations.QuadratureErrors
  intro s ch stamp t a b hch hlen hen hlo hhi ha hb hfa hfb
  have hexec := exec_encoderEdge_qerr hch hen hlo hhi (by split <;> rfl) ha hb hfa hfb
  have hqerr := s.qerrSample_qerr ch (if s.flagi MSU_ENC_CTRL_SWAP ch then b else a) (if s.flagi MSU_ENC_CTRL_SWAP ch then a else b) stamp t
  exact ⟨_, hexec, hqerr, s.qerrSample_count ch _ _ stamp t (by omega), SameBut.qerrSample s ch _ _ stamp t,
    RegsBut.qerrSample s ch _ _ stamp t, _, hexec, State.ledger_msu .., (State.flagi_ledger_qerr ..).trans hqerr⟩
end

section
/-! A POST doorbell in RUN (R390, R395): what taking its command does before the checks, and the proof of Obligations.StaleTags. -/

namespace Sys2Proof

/-! ### The generation of a TAG (R395) -/

theorem KmiCmd.gen_lt (c : KmiCmd) : c.gen < 16 := Nat.mod_lt _ (by decide)

/-- The generation is bits 15 to 12 of the TAG: the host identifier below them plays no part in it. -/
theorem KmiCmd.gen_withTag (c : KmiCmd) {g : Nat} (x : Nat) (hg : g < 16) : KmiCmd.gen { c with tag := 4096 * g + x % 4096 } = g := by
  change (4096 * g + x % 4096) / 2 ^ 12 % 2 ^ 4 = g
  omega

end Sys2Proof

namespace Sys2Proof.Machine

open Reg

/-! ### Taking a POST's command (R390) -/

/-- The state in which a POST in IDLE or DONE has taken its command, before the checks of R391, R393 and R395. -/
def State.mbxTaken (s : State) (m : Nat) (c : KmiCmd) : State :=
  let s1 := (s.setMbx m { s.mbx m with cmd := some c, compl := none }).seti KMI_MBX_STATE m 2
  { s1 with kmi := { s1.kmi with unread := s1.kmi.unread ++ [m], postAt := Assoc.put m s1.now s1.kmi.postAt } }

@[simp] theorem State.mbxTaken_postQ (s : State) (m : Nat) (c : KmiCmd) : (s.mbxTaken m c).kmi.postQ = s.kmi.postQ := rfl

@[simp] theorem State.mbxTaken_running (s : State) (m : Nat) (c : KmiCmd) : (s.mbxTaken m c).kmi.running = s.kmi.running := rfl

@[simp] theorem State.mbxTaken_mbx_length (s : State) (m : Nat) (c : KmiCmd) : (s.mbxTaken m c).kmi.mbx.length = s.kmi.mbx.length :=
  List.length_set

/-- The mailbox is POSTED. -/
theorem State.mbxTaken_state (s : State) (m : Nat) (c : KmiCmd) : (s.mbxTaken m c).geti KMI_MBX_STATE m = 2 :=
  State.geti_seti_self _ KMI_MBX_STATE m 2

theorem SameBut.mbxTaken (s : State) (m : Nat) (c : KmiCmd) : SameBut [.kmi, .regs] s (s.mbxTaken m c) := by
  intro p hp; cases p <;> simp at hp <;> rfl

theorem RegsBut.mbxTaken (s : State) (m : Nat) (c : KmiCmd) : RegsBut [KMI_MBX_STATE] s (s.mbxTaken m c) :=
  RegsBut.set2 _ s KMI_MBX_STATE m 0 2 (by simp)

/-- A command of another generation completes with STALE_TAG. -/
theorem State.mbxPost_stale {s : State} {m : Nat} {c : KmiCmd} (hst : s.geti KMI_MBX_STATE m = 1 ∨ s.geti KMI_MBX_STATE m = 4)
    (hgen : c.gen ≠ s.geti KMI_MBX_GEN m) : s.mbxPost m c = (s.mbxTaken m c).kmiFinish m c stStale 0 0 [] [] := by
  simp only [State.mbxPost, if_pos hst, if_pos hgen, State.mbxTaken]

/-- A command that every check passes joins the posted queue. -/
theorem State.mbxPost_posted {s : State} {m : Nat} {c : KmiCmd} (hst : s.geti KMI_MBX_STATE m = 1 ∨ s.geti KMI_MBX_STATE m = 4)
    (hgen : c.gen = s.geti KMI_MBX_GEN m) (hwf : kmiWellFormed c = true) (hbuf : c.hostBuf = true → bitB s.hlk.bme 0 = true) :
    s.mbxPost m c = { s.mbxTaken m c with kmi := { (s.mbxTaken m c).kmi with postQ := s.kmi.postQ ++ [m] } } := by
  have hdma : ¬(c.hostBuf = true ∧ bitB s.hlk.bme 0 = false) := by
    rintro ⟨hhb, hbme⟩
    simp [hbuf hhb] at hbme
  simp only [State.mbxPost, if_pos hst, hgen, hwf, hdma, ne_eq, not_true_eq_false, Bool.true_eq_false, if_false]
  rfl

/-! ### Delivering results (R394) -/

/-- Delivering results writes the mailboxes alone of the KMI: no command is queued or started. -/
theorem State.kmiFinish_queues (s : State) (m : Nat) (c : KmiCmd) (st fl d : Nat) (r data : List Nat) :
    (s.kmiFinish m c st fl d r data).kmi.postQ = s.kmi.postQ ∧ (s.kmiFinish m c st fl d r data).kmi.running = s.kmi.running := by
  unfold State.kmiFinish
  extract_lets limit written trunc s1 compl b s2
  have h1 : s1.kmi = s.kmi := by simp only [s1]; split <;> rfl
  have h2 : s2.kmi.postQ = s1.kmi.postQ ∧ s2.kmi.running = s1.kmi.running := ⟨rfl, rfl⟩
  split <;> simpa [h1] using h2

/-! ### The doorbell in RUN -/

theorem SameBut.touchSleep (s : State) : SameBut [.pwr] s s.touchSleep := by
  intro p hp; cases p <;> simp at hp <;> rfl

/-- In RUN with no vote and no entry there is nothing to wake. -/
theorem State.hostWake_run {s : State} (causes : List Nat) (t : Nat) (hcur : s.get PWR_STATE_CUR = 0) (hvote : s.pwr.vote = none)
    (hent : s.pwr.entering = none) : s.hostWake causes t = s := by
  simp [State.hostWake, hcur, hvote, hent]

/-- A POST that reaches its mailbox in RUN restarts the SLEEP quiet time (R479) and wakes nothing. -/
theorem exec_mbxPost_run {s : State} {m : Nat} (c : KmiCmd) (hm : m < 15) (hreach : s.pf0Reach = true) (hcur : s.get PWR_STATE_CUR = 0)
    (hvote : s.pwr.vote = none) (hent : s.pwr.entering = none) : exec (.mbxPost m c) s = .next (s.touchSleep.mbxPost m c) := by
  change execMbxPost m c s = _
  rw [execMbxPost, if_neg (by omega), if_neg (by simp [hreach]),
    State.hostWake_run _ _ ((State.get_congr s.touchSleep_regs _).trans hcur) hvote hent]

end Sys2Proof.Machine

open Sys2Proof.Machine Sys2Proof.Machine.Reg

/-- Settles O58: the POST takes its command and delivers STALE_TAG at once, and touches neither the queue nor what executes; with the mailbox's own
generation the command is posted whatever the identifier below it. -/
theorem staleTags : Obligations.StaleTags := by
  unfold Obligations.StaleTags
  refine ⟨rfl, fun s m c hm hlen hreach hcur hvote hent hst => ?_⟩
  have hexec := fun c => exec_mbxPost_run c hm hreach hcur hvote hent
  have hsleep := State.geti_congr s.touchSleep_regs
  have hst' : s.touchSleep.geti KMI_MBX_STATE m = 1 ∨ s.touchSleep.geti KMI_MBX_STATE m = 4 := by simpa only [hsleep] using hst
  constructor
  · intro hgen
    obtain ⟨hpostQ, hrunning⟩ := (s.touchSleep.mbxTaken m c).kmiFinish_queues m c stStale 0 0 [] []
    refine ⟨_, (hexec c).trans (congrArg _ (State.mbxPost_stale hst' (by rwa [hsleep]))), kmiFinish_done _ _ _ _ _ _ _ _ (by simpa using hlen),
      hpostQ.trans (State.mbxTaken_postQ ..), hrunning.trans (State.mbxTaken_running ..), ?_, ?_⟩
    · have hsame := (SameBut.mbxTaken s.touchSleep m c).mono (l' := [.kmi, .regs, .out, .pba]) (by simp)
      exact ((SameBut.touchSleep s).mono (by simp)).trans ((hsame.trans (SameBut.kmiFinish _ m c stStale 0 0 [] [])).mono (by simp))
    · exact (RegsBut.of_eq _ s.touchSleep_regs).trans ((RegsBut.mbxTaken _ m c).trans (RegsBut.kmiFinish _ m c stStale 0 0 [] []))
  · intro x hgen hwf hbuf
    have hgen' := (c.gen_withTag x c.gen_lt).trans (hgen.trans (hsleep KMI_MBX_GEN m).symm)
    exact ⟨_, (hexec _).trans (congrArg _ (State.mbxPost_posted hst' hgen' hwf hbuf)), s.touchSleep.mbxTaken_state m _, rfl⟩
end

section
/-! The DRAM address mapping (R285, R286): the bits of a device line, and the proof of Obligations.DramMappingInjective. -/

namespace Sys2Proof.Machine

open Reg

/-! ### Single bits -/

theorem bitB_eq_testBit (v i : Nat) : bitB v i = v.testBit i := by
  rw [bitB, Nat.testBit_eq_decide_div_mod_eq]
  rfl

/-- Two numbers that agree below bit `k` and in all that stands above it agree in every bit but `k`. -/
theorem testBit_eq_of_halves {v w k p : Nat} (hlow : w % 2 ^ k = v % 2 ^ k) (hhigh : w / 2 ^ k / 2 = v / 2 ^ k / 2) (hp : p ≠ k) :
    w.testBit p = v.testBit p := by
  rcases Nat.lt_or_gt_of_ne hp with h | h
  · have hbit : ∀ x : Nat, x.testBit p = (x % 2 ^ k).testBit p := fun x => by simp [Nat.testBit_mod_two_pow, h]
    rw [hbit, hlow, ← hbit]
  · have hbit : ∀ x : Nat, x.testBit p = (x / 2 ^ k / 2).testBit (p - k - 1) := fun x => by
      rw [← Nat.testBit_succ, Nat.testBit_div_two_pow]
      congr 1
      omega
    rw [hbit, hhigh, ← hbit]

/-- Adding or taking away `2 ^ k` where bit `k` is not yet `new` makes it `new` and moves no other bit. -/
theorem testBit_replaceBit (v k p : Nat) (new : Bool) :
    (if bitB v k == new then v else if new then v + 2 ^ k else v - 2 ^ k).testBit p = if p = k then new else v.testBit p := by
  have hpos : 0 < 2 ^ k := by positivity
  have hodd : v.testBit k = decide (v / 2 ^ k % 2 = 1) := Nat.testBit_eq_decide_div_mod_eq
  rw [bitB_eq_testBit]
  by_cases hsame : v.testBit k = new
  · subst hsame
    split_ifs with h1 h2 <;> simp_all
  rw [if_neg (by simpa using hsame)]
  cases new with
  | true =>
    have hdiv : (v + 2 ^ k) / 2 ^ k = v / 2 ^ k + 1 := Nat.add_div_right _ hpos
    rw [if_pos rfl]
    split_ifs with hp
    · subst hp
      simp at hsame
      rw [Nat.testBit_eq_decide_div_mod_eq, hdiv]
      simp [hsame] at hodd ⊢
      omega
    · exact testBit_eq_of_halves (by simp) (by rw [hdiv]; simp [hsame] at hodd hsame; omega) hp
  | false =>
    simp at hsame
    have hge : 2 ^ k ≤ v := Nat.ge_two_pow_of_testBit hsame
    have hdiv : (v - 2 ^ k) / 2 ^ k = v / 2 ^ k - 1 := by simpa using Nat.sub_mul_div v (2 ^ k) 1
    have hmod : (v - 2 ^ k) % 2 ^ k = v % 2 ^ k := (Nat.mod_eq_sub_mod hge).symm
    rw [if_neg (by simp)]
    simp [hsame] at hodd
    split_ifs with hp
    · subst hp
      rw [Nat.testBit_eq_decide_div_mod_eq, hdiv]
      simp
      omega
    · exact testBit_eq_of_halves hmod (by rw [hdiv]; generalize v / 2 ^ k = q at hodd ⊢; omega) hp

/-! ### Parities -/

/-- A bit count is the sum of the bits. -/
theorem popcount_eq_sum (v n : Nat) : popcount v n = ∑ i ∈ Finset.range n, (v.testBit i).toNat := by
  rw [popcount, bitList, ← List.countP_eq_length_filter, Finset.sum_range]
  induction n with
  | zero => rfl
  | succ n ih =>
    rw [List.range_succ, List.countP_append, ih, Fin.sum_univ_castSucc]
    cases h : v.testBit n <;> simp [bitB_eq_testBit, h]

/-- Numbers that agree in all bits but one, and in their parity, agree in that one. -/
theorem testBit_eq_of_parity {x y n h : Nat} (hn : h < n) (hother : ∀ i, i ≠ h → x.testBit i = y.testBit i)
    (hpar : parity x n = parity y n) : x.testBit h = y.testBit h := by
  have hsplit : ∀ v, popcount v n = (v.testBit h).toNat + ∑ i ∈ (Finset.range n).erase h, (v.testBit i).toNat := fun v => by
    rw [popcount_eq_sum, Finset.add_sum_erase _ (fun i => (v.testBit i).toNat) (Finset.mem_range.mpr hn)]
  have hrest : ∑ i ∈ (Finset.range n).erase h, (x.testBit i).toNat = ∑ i ∈ (Finset.range n).erase h, (y.testBit i).toNat :=
    Finset.sum_congr rfl fun i hi => by rw [hother i (Finset.ne_of_mem_erase hi)]
  simp only [parity, hsplit, hrest, beq_eq_beq] at hpar
  cases hx : x.testBit h <;> cases hy : y.testBit h <;> simp [hx, hy] at hpar ⊢ <;> omega

/-! ### The home bits -/

/-- A home bit lies above the 64 bytes of a line and below DPA bit 37. -/
theorem State.homeBit_range {s : State} {b h : Nat} (hb : s.homeBit b = some h) : 6 ≤ h ∧ h < 37 := by
  have htwo : b2n s.twoCh ≤ 1 := by cases s.twoCh <;> decide
  unfold State.homeBit at hb
  extract_lets ba nbg at hb
  have hnbg : nbg = 2 ∨ nbg = 3 := by
    simp only [nbg]
    split <;> simp
  split at hb <;> simp at hb <;> omega

/-- Two mask registers never share a home bit. -/
theorem State.homeBit_inj {s : State} {b c h : Nat} (hb : s.homeBit b = some h) (hc : s.homeBit c = some h) (hb8 : b < 8) (hc8 : c < 8) :
    b = c := by
  have hch : s.twoCh = true ∧ b2n s.twoCh = 1 ∨ s.twoCh = false ∧ b2n s.twoCh = 0 := by cases s.twoCh <;> decide
  unfold State.homeBit at hb hc
  extract_lets ba nbg at hb hc
  have hnbg : nbg = 2 ∨ nbg = 3 := by
    simp only [nbg]
    split <;> simp
  interval_cases b <;> interval_cases c <;> simp at hb hc ⊢ <;> omega

/-- The bit of the device line that mask register `b` gives (R285). -/
def State.mapBit (s : State) (line b : Nat) : Bool := parity (s.mapMask b &&& (64 * line)) 37

/-- One mask register's step of the mapping: its home bit, where it has one, becomes the parity it gives. -/
def State.mapStep (s : State) (line v b : Nat) : Nat :=
  match s.homeBit b with
  | none => v
  | some h => if bitB v (h - 6) == s.mapBit line b then v else if s.mapBit line b then v + 2 ^ (h - 6) else v - 2 ^ (h - 6)

theorem State.devLine_eq_foldl (s : State) (line : Nat) : s.devLine line = (List.range 8).foldl (s.mapStep line) line := rfl

theorem State.testBit_mapStep_home {s : State} {b h : Nat} (hb : s.homeBit b = some h) (line v : Nat) :
    (s.mapStep line v b).testBit (h - 6) = s.mapBit line b := by
  simp only [State.mapStep, hb, testBit_replaceBit, if_true]

theorem State.testBit_mapStep_ne {s : State} {b p : Nat} (hb : s.homeBit b ≠ some (p + 6)) (line v : Nat) :
    (s.mapStep line v b).testBit p = v.testBit p := by
  unfold State.mapStep
  split
  · rfl
  · next h hh =>
    obtain ⟨hlo, -⟩ := State.homeBit_range hh
    rw [testBit_replaceBit, if_neg]
    rintro rfl
    exact hb (by rw [hh, Nat.sub_add_cancel hlo])

/-- A bit that is no home bit passes through the mapping. -/
theorem State.testBit_foldl_mapStep_ne {s : State} {p : Nat} (line : Nat) (l : List Nat) (hl : ∀ b ∈ l, s.homeBit b ≠ some (p + 6)) (v : Nat) :
    (l.foldl (s.mapStep line) v).testBit p = v.testBit p := by
  induction l generalizing v with
  | nil => rfl
  | cons b l ih =>
    rw [List.foldl_cons, ih (fun c hc => hl c (List.mem_cons_of_mem b hc)), State.testBit_mapStep_ne (hl b List.mem_cons_self)]

theorem State.testBit_devLine_ne {s : State} {p : Nat} (line : Nat) (hp : ∀ b < 8, s.homeBit b ≠ some (p + 6)) :
    (s.devLine line).testBit p = line.testBit p :=
  State.testBit_foldl_mapStep_ne line _ (fun b hb => hp b (List.mem_range.mp hb)) line

/-- The home bit of a mask register holds the parity that the register gives: no later register has the same home bit. -/
theorem State.testBit_devLine_home {s : State} {b h : Nat} (hb8 : b < 8) (hb : s.homeBit b = some h) (line : Nat) :
    (s.devLine line).testBit (h - 6) = s.mapBit line b := by
  obtain ⟨hlo, -⟩ := State.homeBit_range hb
  have hsplit : List.range 8 = List.range b ++ b :: List.range' (b + 1) (7 - b) := by
    interval_cases b <;> rfl
  rw [State.devLine_eq_foldl, hsplit, List.foldl_append, List.foldl_cons, State.testBit_foldl_mapStep_ne, State.testBit_mapStep_home hb]
  intro c hc hch
  obtain ⟨i, hi, rfl⟩ := List.mem_range'.mp hc
  rw [Nat.sub_add_cancel hlo] at hch
  have := State.homeBit_inj hb hch hb8 (by omega)
  omega

/-! ### Allowed masks (R286) -/

/-- An allowed mask contains its own home bit and no other. -/
theorem State.masksOk_home {s : State} {mask : Nat → Nat} (hok : s.masksOk mask = true) {b h : Nat} (hb8 : b < 8) (hb : s.homeBit b = some h) :
    (mask b).testBit h = true ∧ ∀ c < 8, ∀ k, s.homeBit c = some k → c ≠ b → (mask b).testBit k = false := by
  simp only [State.masksOk, List.all_eq_true, List.mem_range] at hok
  have hmask := hok b hb8
  simp only [hb, Bool.and_eq_true, List.all_eq_true, List.mem_range] at hmask
  obtain ⟨⟨⟨hown, -⟩, -⟩, hothers⟩ := hmask
  refine ⟨by rw [← bitB_eq_testBit, hown], fun c hc k hk hne => ?_⟩
  have hother := hothers c hc
  simpa [hk, hne, bitB_eq_testBit] using hother

end Sys2Proof.Machine

open Sys2Proof.Machine Sys2Proof.Machine.Reg

/-- Settles O17: outside the home bits a device line shows the DPA line itself; at a home bit it shows the parity of a mask that holds no other home
bit, so that the DPA bit there is the one bit of that parity still unknown. -/
theorem dramMappingInjective : Obligations.DramMappingInjective := by
  unfold Obligations.DramMappingInjective
  intro s a b hok hdev
  have hplain : ∀ p, (∀ c < 8, s.homeBit c ≠ some (p + 6)) → a.testBit p = b.testBit p := fun p hp => by
    rw [← State.testBit_devLine_ne a hp, hdev, State.testBit_devLine_ne b hp]
  refine Nat.eq_of_testBit_eq fun p => ?_
  by_cases hp : ∀ c < 8, s.homeBit c ≠ some (p + 6)
  · exact hplain p hp
  push Not at hp
  obtain ⟨c, hc8, hc⟩ := hp
  obtain ⟨hown, hothers⟩ := State.masksOk_home hok hc8 hc
  obtain ⟨-, hlt⟩ := State.homeBit_range hc
  have hbyte : ∀ x i, (64 * x).testBit (i + 6) = x.testBit i := fun x i => by
    rw [show 64 * x = 2 ^ 6 * x from rfl, Nat.testBit_two_pow_mul]
    simp
  have hlow : ∀ x i, i < 6 → (64 * x).testBit i = false := fun x i hi => by
    rw [show 64 * x = 2 ^ 6 * x from rfl, Nat.testBit_two_pow_mul]
    simp [hi]
  have hpar : s.mapBit a c = s.mapBit b c := by
    rw [← State.testBit_devLine_home hc8 hc, hdev, State.testBit_devLine_home hc8 hc]
  have hbits : ∀ i, i ≠ p + 6 → (s.mapMask c &&& 64 * a).testBit i = (s.mapMask c &&& 64 * b).testBit i := fun i hi => by
    rw [Nat.testBit_and, Nat.testBit_and]
    by_cases hi6 : i < 6
    · rw [hlow a i hi6, hlow b i hi6]
    obtain ⟨j, rfl⟩ := Nat.exists_eq_add_of_le' (Nat.le_of_not_lt hi6)
    by_cases hj : ∀ d < 8, s.homeBit d ≠ some (j + 6)
    · rw [hbyte, hbyte, hplain j hj]
    push Not at hj
    obtain ⟨d, hd8, hd⟩ := hj
    have hne : d ≠ c := by
      rintro rfl
      rw [hc] at hd
      exact hi (Option.some.inj hd).symm
    rw [hothers d hd8 _ hd hne, Bool.false_and, Bool.false_and]
  have := testBit_eq_of_parity hlt hbits hpar
  rwa [Nat.testBit_and, Nat.testBit_and, hown, hbyte, hbyte, Bool.true_and, Bool.true_and] at this
end

section
/-! What every step keeps: the queue, the canonical form of the stores, the bits of the OTP and the number of units; most operations touch none of
it, and this file says so of the operations that the commands share. -/

namespace Sys2Proof.Machine

open Reg

/-! ### What is kept -/

/-- The parts of a state that the invariants speak of: the queue, the stores, and how many units of each kind State holds. -/
structure Kept where
  pending : List Instr
  dram : Assoc Nat
  pantry : Assoc Nat
  otp : Assoc Nat
  units : List Nat

def State.kept (s : State) : Kept :=
  { pending := s.pending, dram := s.dram, pantry := s.pantry, otp := s.otp
    units := [s.kmi.mbx.length, s.msu.enc.length, s.msu.trig.length, s.ing.las.length, s.dmc.subs.length, s.cfg.coOwner.length,
      s.cfg.coTick.length, s.wch.pos.length, s.wch.capSince.length, s.wch.marginGrp.length, s.pnt.banks.length, s.io.timEnd.length,
      s.io.timRise.length, s.pwr.sig.length, s.bist.pages.length, s.bist.gens.length, s.fab.pllCtl.length, s.fab.pllOut.length] }

@[simp] theorem length_setAt {α : Type} (l : List α) (i : Nat) (v : α) : (setAt l i v).length = l.length := List.length_set

/-- An update of other components, which leaves as many units of each kind, leaves what is kept. -/
@[simp] theorem State.kept_update (u : State) (regs held hiLatch out freeCount tick) (msu : MsuSt) (syc) (fab : FabSt) (ing : IngSt) (hlk rings)
    (dmc : DmcSt) (dramBad) (cfg : CfgSt) (wch : WchSt) (kmi : KmiSt) (pnt : PntSt) (io : IoSt) (pwr : PwrSt) (boot twn lc) (bist : BistSt) (ldg)
    (hmbx : kmi.mbx.length = u.kmi.mbx.length) (henc : msu.enc.length = u.msu.enc.length) (htrig : msu.trig.length = u.msu.trig.length)
    (hlas : ing.las.length = u.ing.las.length) (hsubs : dmc.subs.length = u.dmc.subs.length)
    (hown : cfg.coOwner.length = u.cfg.coOwner.length) (htick : cfg.coTick.length = u.cfg.coTick.length)
    (hpos : wch.pos.length = u.wch.pos.length) (hcap : wch.capSince.length = u.wch.capSince.length)
    (hgrp : wch.marginGrp.length = u.wch.marginGrp.length) (hbanks : pnt.banks.length = u.pnt.banks.length)
    (hend : io.timEnd.length = u.io.timEnd.length) (hrise : io.timRise.length = u.io.timRise.length)
    (hsig : pwr.sig.length = u.pwr.sig.length) (hpages : bist.pages.length = u.bist.pages.length)
    (hgens : bist.gens.length = u.bist.gens.length) (hctl : fab.pllCtl.length = u.fab.pllCtl.length)
    (hpll : fab.pllOut.length = u.fab.pllOut.length) :
    State.kept ⟨u.pending, regs, held, hiLatch, out, freeCount, tick, msu, syc, fab, ing, hlk, rings, dmc, u.dram, dramBad, cfg, wch, kmi, u.pantry,
      u.otp, pnt, io, pwr, boot, twn, lc, bist, ldg⟩ = u.kept := by
  simp only [State.kept, hmbx, henc, htrig, hlas, hsubs, hown, htick, hpos, hcap, hgrp, hbanks, hend, hrise, hsig, hpages, hgens, hctl, hpll]

@[simp] theorem State.kept_ite {c : Prop} [Decidable c] (s t : State) : (if c then s else t).kept = if c then s.kept else t.kept :=
  apply_ite State.kept c s t

@[simp] theorem snd_ite {α β : Type} {c : Prop} [Decidable c] (x y : α × β) : (if c then x else y).2 = if c then x.2 else y.2 :=
  apply_ite Prod.snd c x y

@[simp] theorem fst_ite {α β : Type} {c : Prop} [Decidable c] (x y : α × β) : (if c then x else y).1 = if c then x.1 else y.1 :=
  apply_ite Prod.fst c x y

/-- A fold of steps that each leave what is kept leaves it. -/
@[simp] theorem State.kept_foldl {β : Type} {f : State → β → State} (h : ∀ u x, (f u x).kept = u.kept) (l : List β) (s : State) :
    (l.foldl f s).kept = s.kept := by
  induction l generalizing s with
  | nil => rfl
  | cons x l ih => exact (ih (f s x)).trans (h s x)

/-- A fold that carries a value beside the state. -/
@[simp] theorem State.kept_foldl_snd {α β : Type} {f : α × State → β → α × State} (h : ∀ u x, (f u x).2.kept = u.2.kept) (l : List β) (s : α × State) :
    (l.foldl f s).2.kept = s.2.kept := by
  induction l generalizing s with
  | nil => rfl
  | cons x l ih => exact (ih (f s x)).trans (h s x)

@[simp] theorem State.kept_foldl_fst {α β : Type} {f : State × α → β → State × α} (h : ∀ u x, (f u x).1.kept = u.1.kept) (l : List β) (s : State × α) :
    (l.foldl f s).1.kept = s.1.kept := by
  induction l generalizing s with
  | nil => rfl
  | cons x l ih => exact (ih (f s x)).trans (h s x)

end Sys2Proof.Machine
end

section
/-! The operations that leave the queue, the stores and the numbers of units as they were, in the order of the model's chapters. -/

namespace Sys2Proof.Machine

open Reg

set_option maxRecDepth 10000
-- Each theorem takes its turn: the threads of so many at once exceed the memory that the check gives.
set_option Elab.async false

/-! ### Ops -/

@[simp] theorem State.set2_kept (s : State) (f : Fld) (i j v : Nat) : (s.set2 f i j v).kept = s.kept := by simp [State.set2]

@[simp] theorem State.seti_kept (s : State) (f : Fld) (i v : Nat) : (s.seti f i v).kept = s.kept := by simp [State.seti]

@[simp] theorem State.set_kept (s : State) (f : Fld) (v : Nat) : (s.set f v).kept = s.kept := by simp [State.set]

@[simp] theorem State.inci_kept (s : State) (f : Fld) (i : Nat) : (s.inci f i).kept = s.kept := by simp [State.inci]

@[simp] theorem State.inc_kept (s : State) (f : Fld) : (s.inc f).kept = s.kept := by simp [State.inc]

@[simp] theorem State.addi_kept (s : State) (f : Fld) (i n : Nat) : (s.addi f i n).kept = s.kept := by simp [State.addi]

@[simp] theorem State.orBit_kept (s : State) (f : Fld) (b : Nat) : (s.orBit f b).kept = s.kept := by simp [State.orBit]

@[simp] theorem State.swWrite_kept (s : State) (f : Fld) (i j v : Nat) : (s.swWrite f i j v).kept = s.kept := by
  unfold State.swWrite
  repeat' split
  all_goals simp

@[simp] theorem State.boundaryCommit_kept (s : State) : s.boundaryCommit.kept = s.kept := by simp [State.boundaryCommit]

@[simp] theorem State.setNow_kept (s : State) (t : Nat) : (s.setNow t).kept = s.kept := by simp [State.setNow]

@[simp] theorem State.reach_kept (s : State) (t : Nat) : (s.reach t).kept = s.kept := by simp [State.reach]

@[simp] theorem State.setTickno_kept (s : State) (n : Nat) : (s.setTickno n).kept = s.kept := by simp [State.setTickno]

@[simp] theorem State.emit_kept (s : State) (o : Out) : (s.emit o).kept = s.kept := by simp [State.emit]

@[simp] theorem State.fresh_kept (s : State) : s.fresh.2.kept = s.kept := by simp [State.fresh]

@[simp] theorem State.touchIdle_kept (s : State) : s.touchIdle.kept = s.kept := by simp [State.touchIdle]

@[simp] theorem State.touchSleep_kept (s : State) : s.touchSleep.kept = s.kept := by simp [State.touchSleep]

@[simp] theorem State.msix_kept (s : State) (fn vec : Nat) : (s.msix fn vec).kept = s.kept := by simp [State.msix]

@[simp] theorem State.event_kept (s : State) (code group : Nat) (e0 e1 : Nat) : (s.event code group e0 e1).kept = s.kept := by
  simp [State.event]

@[simp] theorem State.ledgerAppend_kept (s : State) (code flags : Nat) (tick supp : Nat) (time detail : Nat) : (s.ledgerAppend code flags tick supp time detail).kept = s.kept := by
  simp [State.ledgerAppend]

@[simp] theorem State.ledgerTake_kept (s : State) (code flags : Nat) (tick time detail : Nat) : (s.ledgerTake code flags tick time detail).kept = s.kept := by
  simp [State.ledgerTake]

@[simp] theorem State.ledger_kept (s : State) (code detail : Nat) : (s.ledger code detail).kept = s.kept := by simp [State.ledger]

@[simp] theorem State.regIgnored_kept (s : State) (group addr : Nat) : (s.regIgnored group addr).kept = s.kept := by simp [State.regIgnored]

/-! ### Kmi -/

@[simp] theorem State.setMbx_kept (s : State) (m : Nat) (b : Mbx) : (s.setMbx m b).kept = s.kept := by simp [State.setMbx]

@[simp] theorem State.kmiFinish_kept (s : State) (m : Nat) (cmd : KmiCmd) (status flags detail : Nat) (c : List Nat) (data : List Nat) : (s.kmiFinish m cmd status flags detail c data).kept = s.kept := by
  simp [State.kmiFinish]

@[simp] theorem State.kmiStale_kept (s : State) (m : Nat) (cmd : KmiCmd) : (s.kmiStale m cmd).kept = s.kept := by simp [State.kmiStale]

@[simp] theorem State.kmiUnpost_kept (s : State) (m : Nat) : (s.kmiUnpost m).kept = s.kept := by simp [State.kmiUnpost]

@[simp] theorem State.kmiRunning_kept (s : State) (m : Nat) (cmd : KmiCmd) (waiting : Bool) (key : Nat) : (s.kmiRunning m cmd waiting key).kept = s.kept := by
  simp [State.kmiRunning]

@[simp] theorem State.kmiAbort_kept (s : State) (m : Nat) : (s.kmiAbort m).kept = s.kept := by
  unfold State.kmiAbort
  split <;> simp

@[simp] theorem State.kmiResolve_kept (s : State) (p : RunCmd → Bool) (status detail : Nat) (c : List Nat) (data : List Nat) : (s.kmiResolve p status detail c data).kept = s.kept := by
  simp [State.kmiResolve]

@[simp] theorem State.mbxPost_kept (s : State) (m : Nat) (cmd : KmiCmd) : (s.mbxPost m cmd).kept = s.kept := by simp [State.mbxPost]

@[simp] theorem State.kmiHostReset_kept (s : State) : s.kmiHostReset.kept = s.kept := by
  have hend : ∀ u : State, ({ u with kmi := { u.kmi with events := [], evtCount := 0, evtAck := 0, evtLost := 0 } } : State).kept = u.kept :=
    fun u => by simp
  unfold State.kmiHostReset
  refine (hend _).trans (State.kept_foldl (fun u m => ?_) _ s)
  split <;> simp

/-! ### Fabric -/

@[simp] theorem State.isoKeep_kept (s : State) (r : Nat) : (s.isoKeep r).kept = s.kept := by simp [State.isoKeep]

@[simp] theorem State.setFfs_kept (s : State) (r tile : Nat) (sl v : Nat) : (s.setFfs r tile sl v).kept = s.kept := by
  simp [State.setFfs]

@[simp] theorem State.setSliceCfg_kept (s : State) (r tile : Nat) (sl v : Nat) : (s.setSliceCfg r tile sl v).kept = s.kept := by
  simp [State.setSliceCfg]

@[simp] theorem State.commitSlices_kept (s : State) (r : Nat) (runs : Nat → Bool) : (s.commitSlices r runs).kept = s.kept := by
  simp [State.commitSlices]

@[simp] theorem State.commitDoors_kept (s : State) (r : Nat) (runs : Nat → Bool) : (s.commitDoors r runs).kept = s.kept := by simp [State.commitDoors]

@[simp] theorem State.tickCommitRoom_kept (s : State) (r : Nat) : (s.tickCommitRoom r).kept = s.kept := by simp [State.tickCommitRoom]

@[simp] theorem State.tickCommit_kept (s : State) : s.tickCommit.kept = s.kept := by simp [State.tickCommit]

@[simp] theorem State.initUserFf_kept (s : State) (r : Nat) : (s.initUserFf r).kept = s.kept := by simp [State.initUserFf]

@[simp] theorem State.putDoors_kept (s : State) (l : List (Nat × Nat)) : (s.putDoors l).kept = s.kept := by simp [State.putDoors]

@[simp] theorem State.commitOwed_kept (s : State) : s.commitOwed.2.kept = s.kept := by simp [State.commitOwed]

/-! ### Blocks -/

@[simp] theorem State.eccCount_kept (s : State) (r : Nat) (larder : Bool) (idx port : Nat) (q : PortReq) : (s.eccCount r larder idx port q).kept = s.kept := by
  unfold State.eccCount
  split <;> simp

@[simp] theorem State.cellarTdp_kept (s : State) (r b : Nat) (pa pb : PortReq) (window aFirst : Bool) : (s.cellarTdp r b pa pb window aFirst).kept = s.kept := by
  simp [State.cellarTdp]

@[simp] theorem State.cellarSdp_kept (s : State) (r b : Nat) (pa pb : PortReq) (window aFirst : Bool) : (s.cellarSdp r b pa pb window aFirst).kept = s.kept := by
  simp [State.cellarSdp]

@[simp] theorem State.larderAccess_kept (s : State) (r b : Nat) (pa pb : PortReq) (window aFirst : Bool) : (s.larderAccess r b pa pb window aFirst).kept = s.kept := by
  simp [State.larderAccess]

@[simp] theorem State.ppPresent_kept (s : State) (r b : Nat) (q : PortReq) : (s.ppPresent r b q).kept = s.kept := by simp [State.ppPresent]

@[simp] theorem State.pingpongSwap_kept (s : State) : s.pingpongSwap.kept = s.kept := by simp [State.pingpongSwap]

@[simp] theorem State.initCellar_kept (s : State) (r b : Nat) : (s.initCellar r b).kept = s.kept := by simp [State.initCellar]

@[simp] theorem State.clearLarder_kept (s : State) (r : Nat) : (s.clearLarder r).kept = s.kept := by simp [State.clearLarder]

@[simp] theorem State.clearPab_kept (s : State) (r : Nat) : (s.clearPab r).kept = s.kept := by simp [State.clearPab]

@[simp] theorem State.enablePorts_kept (s : State) (r : Nat) : (s.enablePorts r).kept = s.kept := by simp [State.enablePorts]

@[simp] theorem State.disablePorts_kept (s : State) (r : Nat) : (s.disablePorts r).kept = s.kept := by simp [State.disablePorts]

@[simp] theorem State.pabPut_kept (s : State) (r : Nat) (l : List (Nat × PabSt)) : (s.pabPut r l).kept = s.kept := by simp [State.pabPut]

/-! ### Pantry -/

@[simp] theorem State.pMark_kept (s : State) (a n : Nat) : (s.pMark a n).kept = s.kept := by simp [State.pMark]

@[simp] theorem State.freshBytes_kept (s : State) (n : Nat) : (s.freshBytes n).2.kept = s.kept := by simp [State.freshBytes]

@[simp] theorem State.setNvwp_kept (s : State) (high : Bool) : (s.setNvwp high).kept = s.kept := by simp [State.setNvwp]

@[simp] theorem State.setPBank_kept (s : State) (b : Nat) (k : PntBank) : (s.setPBank b k).kept = s.kept := by simp [State.setPBank]

@[simp] theorem State.lockCheck_kept (s : State) : s.lockCheck.kept = s.kept := by simp [State.lockCheck]

@[simp] theorem State.startProgram_kept (s : State) (b off : Nat) (data : List Nat) (vaux : Bool) : (s.startProgram b off data vaux).1.kept = s.kept := by
  simp [State.startProgram]

@[simp] theorem State.startErase_kept (s : State) (b off n : Nat) (vaux : Bool) : (s.startErase b off n vaux).1.kept = s.kept := by
  simp [State.startErase]

@[simp] theorem State.pantryData_kept (s : State) (a n : Nat) : (s.pantryData a n).2.kept = s.kept := by simp [State.pantryData]

@[simp] theorem State.pantryUe_kept (s : State) (w : Nat) : (s.pantryUe w).kept = s.kept := by simp [State.pantryUe]

@[simp] theorem State.pantryWaiter_kept (s : State) (b : Nat) : (s.pantryWaiter b).kept = s.kept := by
  unfold State.pantryWaiter
  split
  · rfl
  · split <;> simp

@[simp] theorem State.pSuspend_kept (s : State) (b : Nat) : (s.pSuspend b).kept = s.kept := by
  unfold State.pSuspend
  split <;> simp

@[simp] theorem State.pResume_kept (s : State) (b : Nat) : (s.pResume b).kept = s.kept := by
  unfold State.pResume
  split <;> simp

@[simp] theorem State.endJob_kept (s : State) (j : PntJob) (st : Nat) : (s.endJob j st).kept = s.kept := by simp [State.endJob]

@[simp] theorem State.nextJob_kept (s : State) (b e : Nat) : (s.nextJob b e).kept = s.kept := by
  unfold State.nextJob
  split <;> simp

@[simp] theorem State.icacheFetch_kept (s : State) (addr : Nat) : (s.icacheFetch addr).kept = s.kept := by simp [State.icacheFetch]

@[simp] theorem State.icacheBank_kept (s : State) (b : Nat) : (s.icacheBank b).kept = s.kept := by simp [State.icacheBank]

@[simp] theorem State.icacheClear_kept (s : State) : s.icacheClear.kept = s.kept := by simp [State.icacheClear]

@[simp] theorem State.setOtpBuf_kept (s : State) (l : List Nat) : (s.setOtpBuf l).kept = s.kept := by simp [State.setOtpBuf]

@[simp] theorem State.shadowLoad_kept (s : State) : s.shadowLoad.kept = s.kept := by simp [State.shadowLoad]

/-! ### Ports -/

@[simp] theorem State.setRing_kept (s : State) (r : Nat) (k : RingSt) : (s.setRing r k).kept = s.kept := by simp [State.setRing]

@[simp] theorem State.deliver_kept (s : State) (room port : Nat) (w : PortWord) : (s.deliver room port w).kept = s.kept := by
  simp [State.deliver]

@[simp] theorem State.portPump_kept (s : State) (room port : Nat) : (s.portPump room port).kept = s.kept := by simp [State.portPump]

@[simp] theorem State.toRoom_kept (s : State) (room port : Nat) (ws : List PortWord) : (s.toRoom room port ws).kept = s.kept := by
  simp [State.toRoom]

@[simp] theorem State.portPumpAll_kept (s : State) : s.portPumpAll.kept = s.kept := by simp [State.portPumpAll]

@[simp] theorem State.portTook_kept (s : State) (room port : Nat) (kind slot : Nat) (data be : Nat) (last : Bool) : (s.portTook room port kind slot data be last).kept = s.kept := by
  simp [State.portTook]

@[simp] theorem State.skid_kept (s : State) (room port slot : Nat) (words : List (Nat × Nat)) (last : Bool) : (s.skid room port slot words last).kept = s.kept := by
  simp [State.skid]

/-! ### Dram -/

@[simp] theorem State.setSub_kept (s : State) (i : Nat) (k : SubSt) : (s.setSub i k).kept = s.kept := by simp [State.setSub]

@[simp] theorem State.reportUe_kept (s : State) (line req : Nat) : (s.reportUe line req).kept = s.kept := by simp [State.reportUe]

@[simp] theorem State.ackLine_kept (s : State) (id st : Nat) : (s.ackLine id st).kept = s.kept := by simp [State.ackLine]

@[simp] theorem State.readLine_kept (s : State) (id line data : Nat) (bad : Bool) : (s.readLine id line data bad).kept = s.kept := by
  simp only [State.readLine]
  split
  · rfl
  · next r hr => simp

@[simp] theorem State.served_kept (s : State) (src : DSrc) (line data : Nat) (bad : Bool) (st : Nat) : (s.served src line data bad st).kept = s.kept := by
  unfold State.served
  split <;> simp

@[simp] theorem State.notice_kept (s : State) (sc dev : Nat) : (s.notice sc dev).kept = s.kept := by simp [State.notice]

theorem State.accept_kept {s t : State} {q : DReq} (h : s.accept q = some t) : t.kept = s.kept := by
  simp only [State.accept] at h
  split at h
  · cases h
  · split at h <;> split_ifs at h <;> cases h <;> simp [State.kept_foldl]

theorem State.nextGrant_kept {s t : State} {q : DReq} (h : s.nextGrant = some (q, t)) : t.kept = s.kept := by
  have hfold : ∀ (l : List DReq) (best : Option (DReq × State)), (∀ q t, best = some (q, t) → t.kept = s.kept) →
      ∀ q t, l.foldl (fun best q =>
        match s.accept q with
        | none => best
        | some s1 =>
          match best with
          | none => some (q, s1)
          | some (b, s0) => if rrTurn s.dmc.lastReq (q.lane % 256) < rrTurn s.dmc.lastReq (b.lane % 256) then some (q, s1) else some (b, s0))
        best = some (q, t) → t.kept = s.kept := by
    intro l
    induction l with
    | nil => exact fun best hbest => hbest
    | cons x l ih =>
      intro best hbest
      refine ih _ fun q t hqt => ?_
      dsimp only at hqt
      split at hqt
      · exact hbest q t hqt
      · next s1 hacc =>
        have hs1 := State.accept_kept hacc
        split at hqt
        · cases hqt; exact hs1
        · split_ifs at hqt
          · cases hqt; exact hs1
          · exact hbest _ _ hqt
  exact hfold _ none (fun q t hqt => by cases hqt) q t h

@[simp] theorem grantAll_kept (n : Nat) (s : State) : (grantAll n s).kept = s.kept := by
  induction n generalizing s with
  | zero => rfl
  | succ n ih =>
    rw [grantAll]
    split
    · rfl
    · next q s1 hgrant => simp [ih, State.nextGrant_kept hgrant]

@[simp] theorem State.dmcPump_kept (s : State) : s.dmcPump.kept = s.kept := by simp [State.dmcPump]

@[simp] theorem State.dmcSend_kept (s : State) (l : List DReq) : (s.dmcSend l).kept = s.kept := by simp [State.dmcSend]

@[simp] theorem State.hostSupply_kept (s : State) (line : Nat) : (s.hostSupply line).2.kept = s.kept := by
  unfold State.hostSupply
  split <;> simp

@[simp] theorem State.hostSupplies_kept (s : State) (ls : List Nat) : (s.hostSupplies ls).2.kept = s.kept := by
  refine State.kept_foldl_snd (fun u l => ?_) ls ([], s)
  have hl := State.hostSupply_kept u.2 l
  split <;> next heq => simpa [heq] using hl

@[simp] theorem State.biasSnoop_kept (s : State) (line : Nat) (write : Bool) : (s.biasSnoop line write).kept = s.kept := by
  unfold State.biasSnoop
  split <;> simp

@[simp] theorem State.dramWrite_kept (s : State) (req dpa : Nat) (data : List Nat) (poison : Bool) : (s.dramWrite req dpa data poison).kept = s.kept := by
  simp [State.dramWrite]

@[simp] theorem State.dramRead_kept (s : State) (req dpa n : Nat) : (s.dramRead req dpa n).2.2.kept = s.kept := by
  have hsnoop : ∀ ls : List (Nat × Nat), (ls.foldl (fun st l => st.biasSnoop l.1 false) s).kept = s.kept := fun ls =>
    State.kept_foldl (fun u l => by simp) ls s
  unfold State.dramRead
  extract_lets ls s1
  have hs1 : s1.kept = s.kept := by simp only [s1]; split <;> simp [hsnoop]
  have hpair : (if req = 208 then ([], s1) else s1.hostSupplies (ls.map (·.1))).2.kept = s.kept := by split <;> simp [hs1]
  split
  next sup s2 heq =>
  rw [heq] at hpair
  extract_lets bytes
  split <;> simp [hpair]

@[simp] theorem State.readTake_kept (s : State) (room port : Nat) (stream word : Nat) : (s.readTake room port stream word).kept = s.kept := by
  unfold State.readTake
  split <;> simp

@[simp] theorem State.readRelease_kept (s : State) : s.readRelease.kept = s.kept := by simp [State.readRelease]

@[simp] theorem State.dev_kept (s : State) (sc code : Nat) (a b : Nat) : (s.dev sc code a b).kept = s.kept := by simp [State.dev]

@[simp] theorem State.nrDraw_kept (s : State) (sc b row : Nat) : (s.nrDraw sc b row).kept = s.kept := by simp [State.nrDraw]

@[simp] theorem State.issueRow_kept (s : State) (sc : Nat) (q : DReq) (step t : Nat) : (s.issueRow sc q step t).kept = s.kept := by
  simp [State.issueRow]

@[simp] theorem State.ceCount_kept (s : State) (n dpa : Nat) : (s.ceCount n dpa).kept = s.kept := by simp [State.ceCount]

@[simp] theorem State.badUsed_kept (s : State) : s.badUsed.kept = s.kept := by simp [State.badUsed]

@[simp] theorem State.issueNr_kept (s : State) (sc b : Nat) (rows : List Nat) : (s.issueNr sc b rows).kept = s.kept := by
  unfold State.issueNr
  extract_lets k
  split
  · simp
  · split
    · simp
    · simp

@[simp] theorem State.setDebt_kept (s : State) (v : ℤ) : (s.setDebt v).kept = s.kept := by simp [State.setDebt]

@[simp] theorem State.refab_kept (s : State) : s.refab.kept = s.kept := by simp [State.refab]

@[simp] theorem State.refStart_kept (s : State) : s.refStart.kept = s.kept := by simp [State.refStart]

@[simp] theorem State.refHeld_kept (s : State) : s.refHeld.kept = s.kept := by simp [State.refHeld]

@[simp] theorem State.refForce_kept (s : State) : s.refForce.kept = s.kept := by simp [State.refForce]

@[simp] theorem State.refDemand_kept (s : State) : s.refDemand.kept = s.kept := by simp [State.refDemand]

@[simp] theorem State.kmiDramRead_kept (s : State) (cmd : KmiCmd) : (s.kmiDramRead cmd).2.2.2.kept = s.kept := by
  unfold State.kmiDramRead
  extract_lets a
  have hread := s.dramRead_kept 211 a (bits cmd.a1 23 0)
  split <;> next heq => simpa [heq] using hread

@[simp] theorem State.dmcResume_kept (s : State) : s.dmcResume.kept = s.kept := by
  unfold State.dmcResume
  extract_lets s1
  have hs1 : s1.kept = s.kept := by simp [s1]
  split
  · next r hr =>
    split
    · split
      next st d l s2 heq => simpa [heq, hs1] using s1.kmiDramRead_kept r.cmd
    · exact hs1
  · exact hs1

@[simp] theorem State.srExit_kept (s : State) : s.srExit.kept = s.kept := by simp [State.srExit]

@[simp] theorem State.dmcEnable_kept (s : State) : s.dmcEnable.kept = s.kept := by simp [State.dmcEnable]

@[simp] theorem State.setLanes_kept (s : State) (l : List Nat) : (s.setLanes l).kept = s.kept := by simp [State.setLanes]

@[simp] theorem State.loadMasks_kept (s : State) : s.loadMasks.kept = s.kept := by simp [State.loadMasks]

@[simp] theorem State.geomFound_kept (s : State) (res : TrainRes) : (s.geomFound res).kept = s.kept := by simp [State.geomFound]

@[simp] theorem State.coldRestored_kept (s : State) (res : TrainRes) : (s.coldRestored res).kept = s.kept := by simp [State.coldRestored]

/-! ### Ingest -/

@[simp] theorem State.setLane_kept (s : State) (k : Nat) (l : LaneSt) : (s.setLane k l).kept = s.kept := by simp [State.setLane]

@[simp] theorem State.setLas_kept (s : State) (j : Nat) (k : LasSt) : (s.setLas j k).kept = s.kept := by simp [State.setLas]

@[simp] theorem State.recWrite_kept (s : State) (j a v : Nat) : (s.recWrite j a v).kept = s.kept := by simp [State.recWrite]

@[simp] theorem State.putRecord_kept (s : State) (j : Nat) (l : LineSt) (spilled missing : Bool) : (s.putRecord j l spilled missing).kept = s.kept := by
  simp [State.putRecord]

@[simp] theorem State.targetCheck_kept (s : State) (j : Nat) : (s.targetCheck j).kept = s.kept := by simp [State.targetCheck]

@[simp] theorem State.targetRecheck_kept (s : State) : s.targetRecheck.kept = s.kept := by simp [State.targetRecheck]

@[simp] theorem State.markShort_kept (s : State) (j : Nat) (l : LineSt) : (s.markShort j l).2.kept = s.kept := by simp [State.markShort]

@[simp] theorem State.closeShort_kept (s : State) (j : Nat) (err : Bool) : (s.closeShort j err).kept = s.kept := by
  unfold State.closeShort
  split <;> simp

@[simp] theorem State.dropWords_kept (s : State) (j : Nat) : (s.dropWords j).kept = s.kept := by simp [State.dropWords]

@[simp] theorem State.alignLost_kept (s : State) (j : Nat) : (s.alignLost j).kept = s.kept := by simp [State.alignLost]

@[simp] theorem State.laneLost_kept (s : State) (k : Nat) : (s.laneLost k).kept = s.kept := by
  unfold State.laneLost
  extract_lets s1
  split <;> simp [s1]

@[simp] theorem State.laneRxInit_kept (s : State) (k : Nat) : (s.laneRxInit k).kept = s.kept := by simp [State.laneRxInit]

@[simp] theorem State.laneRxOff_kept (s : State) (k : Nat) : (s.laneRxOff k).kept = s.kept := by simp [State.laneRxOff]

@[simp] theorem State.refSeen_kept (s : State) (lane : Nat) (present : Bool) : (s.refSeen lane present).kept = s.kept := by simp [State.refSeen]

@[simp] theorem State.laneLocks_kept (s : State) (k : Nat) : (s.laneLocks k).kept = s.kept := by
  unfold State.laneLocks
  extract_lets s1
  split <;> simp [s1]

@[simp] theorem State.rxWord_kept (s : State) (k w : Nat) : (s.rxWord k w).1.kept = s.kept := by
  unfold State.rxWord
  split
  · rfl
  · extract_lets c x r s1 s2
    split
    · split
      simp
    · have hs1 : s1.kept = s.kept := by simp [s1]
      have hs2 : s2.kept = s.kept := by simp only [s2]; split <;> simp [hs1]
      split
      · simp [hs2]
      · split <;> simp [hs2]

@[simp] theorem State.lasDisable_kept (s : State) (j : Nat) : (s.lasDisable j).kept = s.kept := by simp [State.lasDisable]

@[simp] theorem State.trigPush_kept (s : State) (n tick : Nat) (merged : Bool) (rise : Nat) : (s.trigPush n tick merged rise).kept = s.kept := by
  simp [State.trigPush]

@[simp] theorem State.trigMatch_kept (s : State) (j camId t : Nat) : (s.trigMatch j camId t).2.kept = s.kept := by
  simp only [State.trigMatch]
  split
  · rfl
  · split
    · split <;> simp
    · rfl

@[simp] theorem State.openLine_kept (s : State) (j camId t : Nat) : (s.openLine j camId t).2.kept = s.kept := by
  have hmatch : (s.touchSleep.trigMatch j camId t).2.kept = s.kept := by simp
  unfold State.openLine
  split
  · next s1 heq => simpa [heq] using hmatch
  · next e s1 heq =>
    rw [heq] at hmatch
    simp [hmatch]

@[simp] theorem State.lineTake_kept (s : State) (j : Nat) (l : LineSt) (pos : Nat) (data : List Nat) : (s.lineTake j l pos data).kept = s.kept := by
  simp [State.lineTake]

@[simp] theorem State.packetNoLine_kept (s : State) (j camId : Nat) (pos t : Nat) (data : List Nat) : (s.packetNoLine j camId pos t data).kept = s.kept := by
  simp [State.packetNoLine]

@[simp] theorem State.linePacket_kept (s : State) (j : Nat) (b : List Nat) (t : Nat) : (s.linePacket j b t).kept = s.kept := by
  have hshort : ∀ l, (s.markShort j l).2.kept = s.kept := s.markShort_kept j
  unfold State.linePacket
  extract_lets field camId pos data k s1 usePos
  split
  · have hs1 : s1.kept = s.kept := by
      simp only [s1]
      split
      · next l hl => simp [hshort]
      · rfl
    simp [hs1]
  · split
    · simp
    · next l hl =>
      split
      · simp
      · split
        · simp
        · split <;> simp [hshort]

@[simp] theorem State.sidePacket_kept (s : State) (j : Nat) (b : List Nat) : (s.sidePacket j b).kept = s.kept := by simp [State.sidePacket]

@[simp] theorem State.packet_kept (s : State) (la : Nat) (p : PktSt) : (s.packet la p).kept = s.kept := by simp [State.packet]

@[simp] theorem State.lasDrain_kept (s : State) (j t : Nat) : (s.lasDrain j t).kept = s.kept := by simp [State.lasDrain]

@[simp] theorem State.wordsAt_kept (s : State) (ws : List (Nat × Nat)) (t : Nat) : (s.wordsAt ws t).kept = s.kept := by simp [State.wordsAt]

@[simp] theorem State.wordsOn_kept (s : State) (lanes : List (Nat × List Nat)) (t : Nat) : (s.wordsOn lanes t).kept = s.kept := by
  simp [State.wordsOn]

@[simp] theorem State.freshes_kept (s : State) (n w : Nat) : (s.freshes n w).2.kept = s.kept := by simp [State.freshes]

@[simp] theorem State.idleWords_kept (s : State) (k n : Nat) : (s.idleWords k n).2.kept = s.kept := by
  unfold State.idleWords
  split <;> simp

@[simp] theorem State.txWords_kept (s : State) (j k : Nat) (b : List Nat) : (s.txWords j k b).2.kept = s.kept := by
  unfold State.txWords
  repeat' split
  all_goals simp

@[simp] theorem State.rxWords_kept (s : State) (k : Nat) (outside : List Nat) : (s.rxWords k outside).2.kept = s.kept := by simp [State.rxWords]

@[simp] theorem State.wordsIn_kept (s : State) (lanes : List (Nat × List Nat)) (t : Nat) : (s.wordsIn lanes t).kept = s.kept := by
  simp [State.wordsIn]

@[simp] theorem State.send_kept (s : State) (j lane : Nat) (b : List Nat) : (s.send j lane b).kept = s.kept := by
  unfold State.send
  split
  next ws s1 htx =>
  have hs1 : s1.kept = s.kept := by simpa [htx] using s.txWords_kept j lane b
  extract_lets on
  split
  next all s2 hfold =>
  have hs2 : s2.kept = s.kept := by
    rw [← hs1]
    refine (congrArg (fun p => p.2.kept) hfold).symm.trans (State.kept_foldl_snd (fun u k => ?_) on ([], s1))
    split
    next x st hx =>
    have hst : (if k = lane then (ws, u.2) else u.2.idleWords k ws.length).2.kept = u.2.kept := by split <;> simp
    rw [hx] at hst
    exact hst
  have hs3 : (all.foldl (fun st p => st.emit (.laneTx p.1 p.2)) s2).kept = s2.kept := State.kept_foldl (fun u p => by simp) all s2
  simp [hs3, hs2]

@[simp] theorem State.fillRow_kept (s : State) (j : Nat) (l : LineSt) (row : Nat) : (s.fillRow j l row).kept = s.kept := by simp [State.fillRow]

@[simp] theorem State.lasDram_kept (s : State) (j dpa : Nat) (data : List Nat) : (s.lasDram j dpa data).kept = s.kept := by
  simp [State.lasDram]

@[simp] theorem State.slotRow_kept (s : State) (j base : Nat) (l : LineSt) (i : Nat) : (s.slotRow j base l i).kept = s.kept := by
  simp [State.slotRow]

@[simp] theorem State.slotWrite_kept (s : State) (j base : Nat) (l : LineSt) (lo : Nat) (spilled : Bool) : (s.slotWrite j base l lo spilled).kept = s.kept := by
  simp [State.slotWrite]

@[simp] theorem State.lineOut_kept (s : State) (j i : Nat) : (s.lineOut j i).kept = s.kept := by simp [State.lineOut]

@[simp] theorem State.spill_kept (s : State) (j i : Nat) (l : LineSt) : (s.spill j i l).kept = s.kept := by simp [State.spill]

@[simp] theorem State.fillRows__kept (s : State) (j : Nat) (l : LineSt) (n : Nat) : (s.fillRows_ j l n).kept = s.kept := by simp [State.fillRows_]

@[simp] theorem State.fillOpen_kept (s : State) (j rowsInTime : Nat) : (s.fillOpen j rowsInTime).kept = s.kept := by
  unfold State.fillOpen
  split <;> simp

@[simp] theorem State.fillLine_kept (s : State) (j i rowsInTime : Nat) (l : LineSt) : (s.fillLine j i rowsInTime l).kept = s.kept := by
  simp [State.fillLine]

@[simp] theorem State.missingRecord_kept (s : State) (j : Nat) (e : TrigEnt) : (s.missingRecord j e).kept = s.kept := by simp [State.missingRecord]

@[simp] theorem State.missStep_kept (j n : Nat) (p : State × List TrigEnt) (e : TrigEnt) : (State.missStep j n p e).1.kept = p.1.kept := by
  obtain ⟨s, keep⟩ := p
  simp [State.missStep]

@[simp] theorem State.lateLines_kept (s : State) (j : Nat) : (s.lateLines j).kept = s.kept := by simp [State.lateLines]

@[simp] theorem State.lasBoundary_kept (s : State) (n : Nat) : (s.lasBoundary n).kept = s.kept := by
  have hmiss : ∀ (l : List TrigEnt) (p : State × List TrigEnt) (j : Nat), (l.foldl (State.missStep j n) p).1.kept = p.1.kept := fun l p j =>
    State.kept_foldl_fst (State.missStep_kept j n) l p
  simp [State.lasBoundary, hmiss]

/-! ### Io -/

@[simp] theorem State.setVio_kept (s : State) (k : Nat) (v : Bool) : (s.setVio k v).kept = s.kept := by simp [State.setVio]

@[simp] theorem State.stdCheck_kept (s : State) (k : Nat) : (s.stdCheck k).kept = s.kept := by simp [State.stdCheck]

@[simp] theorem State.inShow_kept (s : State) (k : Nat) : (s.inShow k).kept = s.kept := by simp [State.inShow]

@[simp] theorem State.pinUpdate_kept (s : State) (n : Nat) : (s.pinUpdate n).kept = s.kept := by simp [State.pinUpdate]

@[simp] theorem State.roomPinsUpdate_kept (s : State) (r : Nat) : (s.roomPinsUpdate r).kept = s.kept := by simp [State.roomPinsUpdate]

@[simp] theorem State.holdClaims_kept (s : State) (before : List Nat) : (s.holdClaims before).kept = s.kept := by simp [State.holdClaims]

@[simp] theorem State.releaseClaims_kept (s : State) (r : Nat) : (s.releaseClaims r).kept = s.kept := by simp [State.releaseClaims]

@[simp] theorem State.funcTake_kept (s : State) (key f : Nat) : (s.funcTake key f).kept = s.kept := by
  unfold State.funcTake
  split <;> simp

@[simp] theorem State.funcRelease_kept (s : State) (key f : Nat) : (s.funcRelease key f).kept = s.kept := by
  have htimer : ∀ o : Option Nat, (match o with
      | some t => s.set GPIO_RES_TIM_HELD (clrBit (s.get GPIO_RES_TIM_HELD) t)
      | none => s).kept = s.kept := fun o => by split <;> simp
  unfold State.funcRelease
  extract_lets s1 io
  have hs1 : s1.kept = s.kept := htimer (funcTimer f)
  clear_value s1
  split
  · split <;> simp [hs1, io]
  · exact hs1

@[simp] theorem State.dropPending_kept (s : State) (n : Nat) : (s.dropPending n).kept = s.kept := by simp [State.dropPending]

@[simp] theorem State.pinSwitch_kept (s : State) (n f key : Nat) : (s.pinSwitch n f key).kept = s.kept := by
  simp only [State.pinSwitch]
  split <;> simp

@[simp] theorem State.pinsBoundary_kept (s : State) : s.pinsBoundary.kept = s.kept := by simp [State.pinsBoundary]

@[simp] theorem State.irqInput_kept (s : State) (q : Nat) (level : Bool) : (s.irqInput q level).kept = s.kept := by simp [State.irqInput]

@[simp] theorem State.seeLevel_kept (s : State) (n : Nat) (level : Bool) : (s.seeLevel n level).kept = s.kept := by simp [State.seeLevel]

@[simp] theorem State.irqSetup_kept (s : State) (q : Nat) : (s.irqSetup q).kept = s.kept := by simp [State.irqSetup]

@[simp] theorem State.irqHold_kept (s : State) : s.irqHold.kept = s.kept := by simp [State.irqHold]

@[simp] theorem State.wrGpio_kept (s old : State) (addr : Nat) : (s.wrGpio old addr).kept = s.kept := by simp [State.wrGpio]

@[simp] theorem State.pulsePins_kept (s : State) (f rise fall : Nat) (inv : Bool) : (s.pulsePins f rise fall inv).kept = s.kept := by
  simp [State.pulsePins]

@[simp] theorem State.fanOut_kept (s : State) (m rise fall : Nat) : (s.fanOut m rise fall).kept = s.kept := by simp [State.fanOut]

/-! ### Routing -/

@[simp] theorem State.edgeRams_kept (s : State) (e : Edges) (given : Option (Nat × Nat × Nat × SliceIn)) (r : Nat) (st : State) :
    (s.edgeRams e given r st).kept = st.kept := by
  simp [State.edgeRams]

@[simp] theorem State.treesEdge_kept (s : State) (e : Edges) (given : Option (Nat × Nat × Nat × SliceIn)) : (s.treesEdge e given).kept = s.kept := by
  simp [State.treesEdge]

@[simp] theorem State.stopLow_kept (s : State) (trees : List Nat) : (s.stopLow trees).kept = s.kept := by simp [State.stopLow]

@[simp] theorem State.clockCycle_kept (s : State) : s.clockCycle.kept = s.kept := by simp [State.clockCycle]

@[simp] theorem State.tickSample_kept (s : State) : s.tickSample.kept = s.kept := by simp [State.tickSample]

@[simp] theorem State.mergedPulse_kept (s : State) : s.mergedPulse.kept = s.kept := by simp [State.mergedPulse]

@[simp] theorem State.restartTrees_kept (s : State) : s.restartTrees.kept = s.kept := by simp [State.restartTrees]

/-! ### Rings -/

@[simp] theorem State.ringIrq_kept (s : State) (r : Nat) : (s.ringIrq r).kept = s.kept := by simp [State.ringIrq]

@[simp] theorem State.roomAck_kept (s : State) (r tag : Nat) (status len tick : Nat) : (s.roomAck r tag status len tick).kept = s.kept := by
  simp [State.roomAck]

@[simp] theorem State.ringStale_kept (s : State) (r tag gen : Nat) : (s.ringStale r tag gen).kept = s.kept := by
  simp [State.ringStale]

@[simp] theorem State.postOne_kept (s : State) (r : Nat) (c : RingCompl) : (s.postOne r c).kept = s.kept := by simp [State.postOne]

@[simp] theorem postDue_kept (r : Nat) (l : List RingCompl) (s : State) : (postDue r l s).2.kept = s.kept := by
  induction l generalizing s with
  | nil => rfl
  | cons c t ih =>
    rw [postDue]
    split
    · exact (ih _).trans (by simp)
    · rfl

@[simp] theorem State.pumpRing_kept (s : State) (r : Nat) : (s.pumpRing r).kept = s.kept := by simp [State.pumpRing]

@[simp] theorem State.takeCompl_kept (s : State) (r : Nat) (c : RingCompl) : (s.takeCompl r c).kept = s.kept := by simp [State.takeCompl]

@[simp] theorem State.discardSlot_kept (s : State) (room port slot : Nat) (v : Bool) : (s.discardSlot room port slot v).kept = s.kept := by
  simp [State.discardSlot]

@[simp] theorem State.discardRing_kept (s : State) (r : Nat) : (s.discardRing r).kept = s.kept := by simp [State.discardRing]

@[simp] theorem State.endOpen_kept (s : State) (r status : Nat) (ack : Bool) : (s.endOpen r status ack).kept = s.kept := by
  unfold State.endOpen
  split <;> simp

@[simp] theorem State.ringError_kept (s : State) (r code : Nat) : (s.ringError r code).kept = s.kept := by simp [State.ringError]

@[simp] theorem State.ringStart_kept (s : State) (r : Nat) : (s.ringStart r).1.kept = s.kept := by
  unfold State.ringStart
  split <;> simp

@[simp] theorem State.ringStop_kept (s : State) (r : Nat) : (s.ringStop r).kept = s.kept := by simp [State.ringStop]

@[simp] theorem State.ringAbort_kept (s : State) (r : Nat) : (s.ringAbort r).1.kept = s.kept := by simp [State.ringAbort]

@[simp] theorem State.ringDisable_kept (s : State) (r : Nat) : (s.ringDisable r).kept = s.kept := by simp [State.ringDisable]

@[simp] theorem State.hlkErr_kept (s : State) (fn event : Nat) : (s.hlkErr fn event).kept = s.kept := by simp [State.hlkErr]

@[simp] theorem State.doorbell_kept (s : State) (fn idx : Nat) (sqPi : Option Nat) (cqWord : Option Nat) : (s.doorbell fn idx sqPi cqWord).kept = s.kept := by
  unfold State.doorbell
  repeat' split
  all_goals simp

@[simp] theorem State.ringWrites_kept (s : State) (r : Nat) (w : List (Nat × Nat)) (bad : Nat → Bool) : (s.ringWrites r w bad).kept = s.kept := by
  simp [State.ringWrites]

@[simp] theorem State.dropXfer_kept (s : State) (r room : Nat) (port slot : Nat) (last : Bool) : (s.dropXfer r room port slot last).kept = s.kept := by
  simp [State.dropXfer]

@[simp] theorem State.copyWord_kept (s : State) (r room port slot word : Nat) (readErr writesDone : Bool) :
    (s.copyWord r room port slot word readErr writesDone).1.kept = s.kept := by
  have hread : ∀ dpa n, (s.dramRead 209 dpa n).2.2.kept = s.kept := s.dramRead_kept 209
  simp only [State.copyWord]
  split
  · simp
  · next d t hd =>
    simp only [fst_ite, State.kept_ite]
    generalize hx : s.dramRead 209 (bits word 36 0) (bits word 63 40) = x
    have hs1 : x.2.2.kept = s.kept := by rw [← hx]; exact hread _ _
    simp [hs1]

@[simp] theorem State.f2hWords_kept (s : State) (room port slot : Nat) (words : List (Nat × Nat)) (last writesDone : Bool) :
    (s.f2hWords room port slot words last writesDone).1.kept = s.kept := by
  simp only [State.f2hWords]
  split
  · simp
  · split
    · simp
    · next r hr =>
      split
      · simp
      · split
        · simp
        · split <;> simp

@[simp] theorem drainSkid_kept (room port : Nat) (l : List (Nat × Nat × Nat × Bool)) (s : State) : (drainSkid room port l s).2.kept = s.kept := by
  induction l generalizing s with
  | nil => rfl
  | cons q t ih =>
    rw [drainSkid]
    split
    · rfl
    · simp only [snd_ite, State.kept_ite, ih, State.f2hWords_kept, ite_self]

@[simp] theorem State.portDrain_kept (s : State) (room port : Nat) : (s.portDrain room port).kept = s.kept := by simp [State.portDrain]

@[simp] theorem State.ringsClamp_kept (s : State) (room tick : Nat) : (s.ringsClamp room tick).kept = s.kept := by
  unfold State.ringsClamp
  refine State.kept_foldl (fun u r => ?_) _ s
  split <;> simp

theorem State.nextRing_kept {s t : State} {l : List Nat} {r : Nat} (h : s.nextRing l = some (r, t)) : t.kept = s.kept := by
  simp only [State.nextRing] at h
  split at h
  · cases h
  · cases h; simp

@[simp] theorem grantPosts_kept (n : Nat) (l : List Nat) (s : State) : (grantPosts n l s).kept = s.kept := by
  induction n generalizing s with
  | zero => rfl
  | succ n ih =>
    rw [grantPosts]
    split
    · rfl
    · next r s1 hring =>
      have hs1 := State.nextRing_kept hring
      split
      · exact hs1
      · simp [ih, hs1]

@[simp] theorem State.ringsFence_kept (s : State) (closed : List Nat) (ovr keep : Nat) : (s.ringsFence closed ovr keep).kept = s.kept := by
  simp [State.ringsFence]

@[simp] theorem State.dropAcks_kept (s : State) (room : Nat) : (s.dropAcks room).kept = s.kept := by simp [State.dropAcks]

@[simp] theorem State.ringsChange_kept (s : State) (room : Nat) : (s.ringsChange room).kept = s.kept := by simp [State.ringsChange]

@[simp] theorem State.ringsCoStop_kept (s : State) (room : Nat) : (s.ringsCoStop room).kept = s.kept := by simp [State.ringsCoStop]

@[simp] theorem State.ringsResetAll_kept (s : State) : s.ringsResetAll.kept = s.kept := by simp [State.ringsResetAll]

@[simp] theorem State.ringsFlr_kept (s : State) (fn : Nat → Bool) : (s.ringsFlr fn).kept = s.kept := by simp [State.ringsFlr]

@[simp] theorem State.ringsBmeClear_kept (s : State) (func : Nat) : (s.ringsBmeClear func).kept = s.kept := by simp [State.ringsBmeClear]

/-! ### Windows -/

@[simp] theorem sendPieces_kept (l : List WinPiece) (blocked : Nat) (s : State) : (sendPieces l blocked s).2.kept = s.kept := by
  induction l generalizing blocked s with
  | nil => rfl
  | cons p t ih =>
    rw [sendPieces]
    split
    · simp only [ih]
    · split
      · simp only [ih]
      · simp [ih]

@[simp] theorem State.winComplete_kept (s : State) : s.winComplete.kept = s.kept := by simp [State.winComplete]

@[simp] theorem State.winPump_kept (s : State) : s.winPump.kept = s.kept := by simp [State.winPump]

@[simp] theorem State.winSweep_kept (s : State) : s.winSweep.kept = s.kept := by simp [State.winSweep]

@[simp] theorem State.windowAccess_kept (s : State) (offset len : Nat) (read : Bool) (data : List Nat) (tag : Nat) :
    (s.windowAccess offset len read data tag).kept = s.kept := by
  unfold State.windowAccess
  split
  · simp
  · split
    · simp
    · extract_lets s1 parts ps
      have hs1 : s1.kept = s.kept := by simp [s1]
      simp [hs1]

/-! ### Planes -/

@[simp] theorem State.setPlane_kept (s : State) (r p v : Nat) : (s.setPlane r p v).kept = s.kept := by simp [State.setPlane]

@[simp] theorem State.setPlaneMeta_kept (s : State) (r p : Nat) (ver itin hand : Nat) : (s.setPlaneMeta r p ver itin hand).kept = s.kept := by
  simp [State.setPlaneMeta]

@[simp] theorem State.emptyStg_kept (s : State) (r : Nat) : (s.emptyStg r).kept = s.kept := by simp [State.emptyStg]

@[simp] theorem State.emptyAct_kept (s : State) (r : Nat) : (s.emptyAct r).kept = s.kept := by simp [State.emptyAct]

@[simp] theorem State.fillFrame_kept (s : State) (r k : Nat) (f v : Nat) : (s.fillFrame r k f v).kept = s.kept := by
  simp [State.fillFrame]

@[simp] theorem State.fillBank_kept (s : State) (r k p : Nat) : (s.fillBank r k p).kept = s.kept := by simp [State.fillBank]

@[simp] theorem State.updItin_kept (s : State) : s.updItin.kept = s.kept := by simp [State.updItin]

@[simp] theorem State.portsSync_kept (s : State) (r : Nat) : (s.portsSync r).kept = s.kept := by simp [State.portsSync]

@[simp] theorem State.roomSync_kept (s : State) (r : Nat) : (s.roomSync r).kept = s.kept := by simp [State.roomSync]

@[simp] theorem State.countWrite_kept (s : State) (r p f : Nat) (ue : Bool) : (s.countWrite r p f ue).kept = s.kept := by
  simp [State.countWrite]

@[simp] theorem State.programFrame_kept (s : State) (r p : Nat) (f v : Nat) (ue : Bool) : (s.programFrame r p f v ue).kept = s.kept := by
  simp [State.programFrame]

@[simp] theorem State.endLoad_kept (s : State) (err room frame : Nat) : (s.endLoad err room frame).kept = s.kept := by
  simp [State.endLoad]

@[simp] theorem State.beginWrite_kept (s : State) (w : List Nat) : (s.beginWrite w).kept = s.kept := by simp [State.beginWrite]

theorem State.takeRecord_kept {s t : State} {l : LoadSt} {k g : Nat} {b : List Nat} (h : s.takeRecord l k g b = .error t) : t.kept = s.kept := by
  unfold State.takeRecord at h
  split at h
  split at h
  · exact nomatch h
  · extract_lets bytes x1 tbl at h
    split at h
    · rw [← Except.error.inj h]
      simp
    · split at h
      · split at h
        · rw [← Except.error.inj h]
          simp
        · exact nomatch h
      · exact nomatch h

@[simp] theorem pumpLoad_kept (n : Nat) (s : State) : (pumpLoad n s).kept = s.kept := by
  induction n generalizing s with
  | zero => rfl
  | succ n ih =>
    rw [pumpLoad]
    split
    · rfl
    · next l hl =>
      split
      · rfl
      · extract_lets pos w
        split
        · simp
        · split
          next room place hplace =>
          extract_lets full m l1 s0 s1 done cfg bytes
          have hs0 : s0.kept = s.kept := by simp [s0]
          have hs1 : s1.kept = s.kept := by
            unfold s1
            split
            · exact hs0
            · split
              · exact hs0
              · exact (State.set_kept ..).trans hs0
          split
          · rfl
          · split
            · split
              next w1 t1 hhead =>
              extract_lets whole e s2 rooms cfg2
              split
              · exact (ih _).trans (Eq.trans (by simp [cfg]) hs1)
              · split
                · exact (State.endLoad_kept ..).trans hs1
                · exact (ih _).trans (Eq.trans (by simp [s2, cfg2]) hs1)
            · split
              · split
                · split
                  · next s2 hrec => exact (State.takeRecord_kept hrec).trans hs1
                  · exact (ih _).trans (Eq.trans (by simp [cfg]) hs1)
                · exact (ih _).trans (Eq.trans (by simp [cfg]) hs1)
              · split
                · split
                  · exact (ih _).trans (Eq.trans (by simp [cfg]) hs1)
                  · exact (State.endLoad_kept ..).trans hs1
                · exact (ih _).trans (Eq.trans (by simp [cfg]) hs1)

@[simp] theorem State.dataDone_kept (s : State) : s.dataDone.kept = s.kept := by
  unfold State.dataDone
  split <;> simp

@[simp] theorem State.loadPump_kept (s : State) : s.loadPump.kept = s.kept := by
  unfold State.loadPump
  split <;> simp

/-! ### Changeover -/

@[simp] theorem State.bankTake_kept (s : State) (r k dur : Nat) : (s.bankTake r k dur).kept = s.kept := by simp [State.bankTake]

@[simp] theorem State.startStage_kept (s : State) (rooms : List Nat) : (s.startStage rooms).kept = s.kept := by simp [State.startStage]

@[simp] theorem State.stageDone_kept (s : State) : s.stageDone.kept = s.kept := by simp [State.stageDone]

@[simp] theorem State.stageFault_kept (s : State) (r f : Nat) : (s.stageFault r f).kept = s.kept := by simp [State.stageFault]

@[simp] theorem State.coMark_kept (s : State) (m j : Nat) (on : Bool) : (s.coMark m j on).kept = s.kept := by simp [State.coMark]

@[simp] theorem State.coTake_kept (s : State) (j own : Nat) (m t itin : Nat) (rb : Bool) : (s.coTake j own m t itin rb).kept = s.kept := by
  simp [State.coTake]

@[simp] theorem State.coRelease_kept (s : State) (j : Nat) : (s.coRelease j).kept = s.kept := by simp [State.coRelease]

@[simp] theorem State.coResult_kept (s : State) (j : Nat) : (s.coResult j).kept = s.kept := by simp [State.coResult]

@[simp] theorem State.coCancel_kept (s : State) (j cause : Nat) : (s.coCancel j cause).kept = s.kept := by simp [State.coCancel]

@[simp] theorem State.coDone_kept (s : State) (j : Nat) : (s.coDone j).kept = s.kept := by
  unfold State.coDone
  extract_lets m s1 cfg s2 s3
  have hs2 : s2.kept = s.kept := by simp [s2, s1, cfg]
  have hs3 : s3.kept = s.kept := by simp only [s3]; split <;> simp [hs2]
  simp [hs3]

@[simp] theorem State.firstInit_kept (s : State) (r : Nat) : (s.firstInit r).kept = s.kept := by simp [State.firstInit]

@[simp] theorem State.handoverReset_kept (s : State) (r : Nat) : (s.handoverReset r).kept = s.kept := by simp [State.handoverReset]

@[simp] theorem State.flipRoom_kept (s : State) (r t : Nat) (now : Bool) : (s.flipRoom r t now).kept = s.kept := by simp [State.flipRoom]

@[simp] theorem State.handRelease_kept (s : State) (r : Nat) : (s.handRelease r).kept = s.kept := by
  unfold State.handRelease
  split <;> simp

@[simp] theorem State.handReleaseAll_kept (s : State) : s.handReleaseAll.kept = s.kept := by simp [State.handReleaseAll]

@[simp] theorem State.flipMask_kept (s : State) (m t : Nat) (now : Bool) : (s.flipMask m t now).kept = s.kept := by simp [State.flipMask]

@[simp] theorem State.flipNow_kept (s : State) (m t : Nat) : (s.flipNow m t).kept = s.kept := by simp [State.flipNow]

@[simp] theorem State.coImmediate_kept (s : State) (j : Nat) : (s.coImmediate j).kept = s.kept := by simp [State.coImmediate]

@[simp] theorem State.coCheck_kept (s : State) : s.coCheck.kept = s.kept := by simp [State.coCheck]

@[simp] theorem State.coFlip_kept (s : State) : s.coFlip.kept = s.kept := by simp [State.coFlip]

@[simp] theorem State.coAtOnce_kept (s : State) : s.coAtOnce.kept = s.kept := by simp [State.coAtOnce]

@[simp] theorem State.setSel_kept (s : State) (r v : Nat) : (s.setSel r v).kept = s.kept := by simp [State.setSel]

@[simp] theorem State.roomOff_kept (s : State) (r : Nat) : (s.roomOff r).kept = s.kept := by simp [State.roomOff]

@[simp] theorem State.roomPower_kept (s : State) (r : Nat) : (s.roomPower r).kept = s.kept := by simp [State.roomPower]

/-! ### HostLink -/

@[simp] theorem State.fnReset_kept (s : State) (p : Nat → Bool) (b : List Nat) : (s.fnReset p b).kept = s.kept := by simp [State.fnReset]

@[simp] theorem State.perstRelease_kept (s : State) (t : Nat) : (s.perstRelease t).kept = s.kept := by simp [State.perstRelease]

@[simp] theorem State.hostEnum_kept (s : State) (e : HostEnum) : (s.hostEnum e).kept = s.kept := by simp [State.hostEnum]

@[simp] theorem State.biasShow_kept (s : State) : s.biasShow.kept = s.kept := by simp [State.biasShow]

@[simp] theorem State.hdmUncommit_kept (s : State) : s.hdmUncommit.kept = s.kept := by simp [State.hdmUncommit]

@[simp] theorem State.linkFault_kept (s : State) (kind : Nat) : (s.linkFault kind).kept = s.kept := by
  unfold State.linkFault
  split <;> simp

@[simp] theorem State.biasStart_kept (s : State) (page : Nat) : (s.biasStart page).kept = s.kept := by simp [State.biasStart]

@[simp] theorem State.resetFields_kept (s : State) (l : List Fld) : (s.resetFields l).kept = s.kept := by simp [State.resetFields]

@[simp] theorem State.endLoadReset_kept (s : State) : s.endLoadReset.kept = s.kept := by simp [State.endLoadReset]

@[simp] theorem State.linkReset_kept (s : State) : s.linkReset.kept = s.kept := by simp [State.linkReset]

@[simp] theorem State.hostFundamental_kept (s : State) : s.hostFundamental.kept = s.kept := by simp [State.hostFundamental]

@[simp] theorem State.dState_kept (s : State) (fn : Nat) (d3hot : Bool) : (s.dState fn d3hot).kept = s.kept := by simp [State.dState]

/-! ### Watchman -/

@[simp] theorem State.wchLast_kept (s : State) (code r : Nat) (role p f : Nat) : (s.wchLast code r role p f).kept = s.kept := by
  simp [State.wchLast]

@[simp] theorem State.wchEvent_kept (s : State) : s.wchEvent.kept = s.kept := by simp [State.wchEvent]

@[simp] theorem State.passBegin_kept (s : State) : s.passBegin.kept = s.kept := by simp [State.passBegin]

@[simp] theorem State.passCheck_kept (s : State) : s.passCheck.kept = s.kept := by simp [State.passCheck]

@[simp] theorem State.passMove_kept (s : State) (r role f : Nat) : (s.passMove r role f).kept = s.kept := by simp [State.passMove]

@[simp] theorem State.unrepaired_kept (s : State) (r role : Nat) (p f : Nat) : (s.unrepaired r role p f).kept = s.kept := by
  simp [State.unrepaired]

@[simp] theorem State.frameOutcome_kept (s : State) (r role f : Nat) (x : FrameFind) : (s.frameOutcome r role f x).kept = s.kept := by
  simp [State.frameOutcome]

@[simp] theorem State.wchShow_kept (s : State) : s.wchShow.kept = s.kept := by simp [State.wchShow]

@[simp] theorem State.marginFrame_kept (s : State) (r p f : Nat) (x : MarginFind) : (s.marginFrame r p f x).kept = s.kept := by
  unfold State.marginFrame
  extract_lets role s1 src cfg1 s1' s2 cfg2 s3
  have hs1 : s1.kept = s.kept := by simp [s1]
  have hs2 : s2.kept = s.kept := by
    simp only [s2]
    cases src with
    | none => exact hs1
    | some k => simp [s1', cfg1, hs1]
  have hs3 : s3.kept = s.kept := by simp [s3, cfg2, hs2]
  split
  · rfl
  · split
    · split <;> simp [hs3]
    · exact hs2

@[simp] theorem State.sampleForce_kept (s : State) : s.sampleForce.kept = s.kept := by simp [State.sampleForce]

/-! ### Power -/

@[simp] theorem State.schedPass_kept (s : State) : s.schedPass.kept = s.kept := by simp [State.schedPass]

@[simp] theorem State.pwrShow_kept (s : State) : s.pwrShow.kept = s.kept := by simp [State.pwrShow]

@[simp] theorem State.idleExit_kept (s : State) : s.idleExit.kept = s.kept := by simp [State.idleExit]

@[simp] theorem State.partRestart_kept (s : State) (p : Nat) : (s.partRestart p).kept = s.kept := by
  unfold State.partRestart
  split <;> simp

@[simp] theorem State.partsRestart_kept (s : State) (n : Nat) : (s.partsRestart n).kept = s.kept := by
  induction n generalizing s with
  | zero => rfl
  | succ n ih => simp [State.partsRestart, ih]

@[simp] theorem State.backoffFor_kept (s : State) (us : Nat) : (s.backoffFor us).kept = s.kept := by simp [State.backoffFor]

@[simp] theorem State.voteUndo_kept (s : State) (p : Nat) : (s.voteUndo p).kept = s.kept := by
  unfold State.voteUndo
  split <;> simp

@[simp] theorem State.votePrepare_kept (s : State) (target : Nat) (busy3 : Bool) : (s.votePrepare target busy3).kept = s.kept := by
  unfold State.votePrepare
  split <;> simp

/-! ### Lifecycle -/

@[simp] theorem State.slotShow_kept (s : State) : s.slotShow.kept = s.kept := by simp [State.slotShow]

@[simp] theorem State.lcDecode_kept (s : State) : s.lcDecode.kept = s.kept := by simp [State.lcDecode]

@[simp] theorem State.unhalt_kept (s : State) : s.unhalt.kept = s.kept := by simp [State.unhalt]

@[simp] theorem State.debugClose_kept (s : State) : s.debugClose.kept = s.kept := by simp [State.debugClose]

@[simp] theorem State.emptyRooms_kept (s : State) : s.emptyRooms.kept = s.kept := by simp [State.emptyRooms]

@[simp] theorem State.zeroPlanes_kept (s : State) : s.zeroPlanes.kept = s.kept := by
  have hframes : ∀ (u : State) (r p : Nat), ((List.range 7680).foldl (fun st f => st.programFrame r p f 0 false) u).kept = u.kept :=
    fun u r p => State.kept_foldl (fun v f => v.programFrame_kept r p f 0 false) _ u
  have hplanes : ∀ (u : State) (r : Nat), ((List.range 2).foldl (fun st p =>
      ((List.range 7680).foldl (fun st f => st.programFrame r p f 0 false) st).setPlane r p 0) u).kept = u.kept :=
    fun u r => State.kept_foldl (fun v p => (State.setPlane_kept ..).trans (hframes v r p)) _ u
  have hselects : ∀ u : State, ((List.range 24).foldl (fun st r =>
      (st.seti CFG_ROOM_STAT_ACT_PLANE r 0).seti CFG_ROOM_STAT_SEL_PENDING r 0) u).kept = u.kept :=
    fun u => State.kept_foldl (fun v r => (State.seti_kept ..).trans (State.seti_kept ..)) _ u
  have hend : ∀ u : State, ({ u with cfg := { u.cfg with sel := [], refreshing := [] } } : State).updItin.kept = u.kept := fun u => by simp
  unfold State.zeroPlanes
  exact (hend _).trans ((hselects _).trans (State.kept_foldl hplanes _ s))

@[simp] theorem State.authFail_kept (s : State) (op : Nat) : (s.authFail op).kept = s.kept := by simp [State.authFail]

@[simp] theorem State.fieldStart_kept (s : State) (m n : Nat) : (s.fieldStart m n).kept = s.kept := by simp [State.fieldStart]

@[simp] theorem State.challenge_kept (s : State) (level : Nat) : (s.challenge level).2.2.kept = s.kept := by simp [State.challenge]

@[simp] theorem State.levelOpen_kept (s : State) (level auth itin : Nat) : (s.levelOpen level auth itin).kept = s.kept := by
  simp [State.levelOpen]

@[simp] theorem State.unlock_kept (s : State) (level : Nat) (resp : List Nat) (op : Nat) : (s.unlock level resp op).2.kept = s.kept := by
  simp [State.unlock]

@[simp] theorem State.debugLock_kept (s : State) : s.debugLock.kept = s.kept := by simp [State.debugLock]

@[simp] theorem State.takeCaptures_kept (s : State) : s.takeCaptures.kept = s.kept := by simp [State.takeCaptures]

@[simp] theorem State.jtag_kept (s : State) (ir dr : Nat) : (s.jtag ir dr).kept = s.kept := by simp [State.jtag]

@[simp] theorem State.halt_kept (s : State) : s.halt.kept = s.kept := by simp [State.halt]

/-! ### Entry -/

@[simp] theorem State.lanesOff_kept (s : State) (lo : Nat) : (s.lanesOff lo).kept = s.kept := by simp [State.lanesOff]

@[simp] theorem State.domOff_kept (s : State) (d : Nat) : (s.domOff d).kept = s.kept := by simp [State.domOff]

@[simp] theorem State.roomsSleep_kept (s : State) (target : Nat) : (s.roomsSleep target).kept = s.kept := by simp [State.roomsSleep]

@[simp] theorem State.npStart_kept (s : State) : s.npStart.kept = s.kept := by simp [State.npStart]

@[simp] theorem State.trigsOff_kept (s : State) : s.trigsOff.kept = s.kept := by simp [State.trigsOff]

/-! ### LedgerBist -/

@[simp] theorem State.ledgerFw_kept (s : State) (code : Nat) : (s.ledgerFw code).kept = s.kept := by simp [State.ledgerFw]

@[simp] theorem State.burstCut_kept (s : State) : s.burstCut.kept = s.kept := by simp [State.burstCut]

@[simp] theorem State.bistBegin_kept (s : State) (scope : Nat) : (s.bistBegin scope).kept = s.kept := by simp [State.bistBegin]

/-! ### Milestone -/

@[simp] theorem State.setEnc_kept (s : State) (ch : Nat) (e : EncSt) : (s.setEnc ch e).kept = s.kept := by simp [State.setEnc]

@[simp] theorem State.setPos_kept (s : State) (lo hi : Fld) (ch : Nat) (p : ℤ) : (s.setPos lo hi ch p).kept = s.kept := by simp [State.setPos]

@[simp] theorem State.showPos_kept (s : State) (ch : Nat) : (s.showPos ch).kept = s.kept := by simp [State.showPos]

@[simp] theorem State.setTheta_kept (s : State) (v : ℤ) : (s.setTheta v).kept = s.kept := by simp [State.setTheta]

@[simp] theorem State.divSched_kept (s : State) : s.divSched.kept = s.kept := by simp [State.divSched]

@[simp] theorem State.divCross_kept (s : State) : s.divCross.kept = s.kept := by simp [State.divCross]

@[simp] theorem State.rePitch_kept (s : State) (old : Nat) : (s.rePitch old).kept = s.kept := by simp [State.rePitch]

@[simp] theorem State.divSkip_kept (s : State) : s.divSkip.2.kept = s.kept := by simp [State.divSkip]

@[simp] theorem State.encEdge_kept (s : State) (ch : Nat) (d : ℤ) (stamp : Nat) : (s.encEdge ch d stamp).kept = s.kept := by simp [State.encEdge]

@[simp] theorem State.divLoad_kept (s : State) : s.divLoad.kept = s.kept := by simp [State.divLoad]

@[simp] theorem State.tbLost_kept (s : State) : s.tbLost.kept = s.kept := by simp [State.tbLost]

@[simp] theorem State.tbStep_kept (s : State) : s.tbStep.kept = s.kept := by simp [State.tbStep]

@[simp] theorem State.setTrig_kept (s : State) (n : Nat) (k : TrigSt) : (s.setTrig n k).kept = s.kept := by simp [State.setTrig]

@[simp] theorem State.trigOne_kept (s : State) (n tick : Nat) (tor master : Nat) (merged : Bool) : (s.trigOne n tick tor master merged).kept = s.kept := by
  simp [State.trigOne]

@[simp] theorem State.trigSchedule_kept (s : State) (tick tor master : Nat) (merged : Bool) : (s.trigSchedule tick tor master merged).kept = s.kept := by
  simp [State.trigSchedule]

/-! ### ModeChange -/

@[simp] theorem State.setMc_kept (s : State) (tw : Bool) (m : McSt) : (s.setMc tw m).kept = s.kept := by simp [State.setMc]

@[simp] theorem State.setMcCode_kept (s : State) (tw : Bool) (c : Nat) : (s.setMcCode tw c).kept = s.kept := by simp [State.setMcCode]

@[simp] theorem State.mcOpen_kept (s : State) (tw : Bool) (seq mode t phase : Nat) : (s.mcOpen tw seq mode t phase).kept = s.kept := by
  unfold State.mcOpen
  extract_lets m s1 s2
  have hs2 : s2.kept = s.kept := by simp only [s2]; split <;> simp [s1]
  simp [hs2]

@[simp] theorem State.mcPropose_kept (s : State) (tw : Bool) (mode t : Nat) : (s.mcPropose tw mode t).kept = s.kept := by
  simp [State.mcPropose]

@[simp] theorem State.mcDisarm_kept (s : State) (tw : Bool) : (s.mcDisarm tw).kept = s.kept := by
  unfold State.mcDisarm
  extract_lets m s1 s2
  have hs1 : s1.kept = s.kept := by simp only [s1]; split <;> simp
  simp [s2, hs1]

@[simp] theorem State.mcFinal_kept (s : State) (tw : Bool) (code : Nat) : (s.mcFinal tw code).kept = s.kept := by simp [State.mcFinal]

@[simp] theorem State.twinResult_kept (s : State) (out : Nat) : (s.twinResult out).kept = s.kept := by simp [State.twinResult]

@[simp] theorem State.mcOutcome_kept (s : State) (tw : Bool) (out state : Nat) (hop units : Nat) : (s.mcOutcome tw out state hop units).kept = s.kept := by
  simp [State.mcOutcome]

@[simp] theorem State.mcCommitOrAbort_kept (s : State) (tw : Bool) : (s.mcCommitOrAbort tw).kept = s.kept := by simp [State.mcCommitOrAbort]

@[simp] theorem State.mcDecideEnd_kept (s : State) (tw : Bool) : (s.mcDecideEnd tw).kept = s.kept := by simp [State.mcDecideEnd]

@[simp] theorem State.mcDecide_kept (s : State) (tw : Bool) : (s.mcDecide tw).kept = s.kept := by simp [State.mcDecide]

@[simp] theorem State.clampSync_kept (s : State) (rooms : Nat) : (s.clampSync rooms).kept = s.kept := by simp [State.clampSync]

@[simp] theorem State.mcClampSet_kept (s : State) (tw : Bool) (mask : Nat) : (s.mcClampSet tw mask).kept = s.kept := by simp [State.mcClampSet]

@[simp] theorem State.mcLapse_kept (s : State) (tw : Bool) : (s.mcLapse tw).kept = s.kept := by simp [State.mcLapse]

@[simp] theorem State.mcCheck_kept (s : State) (tw : Bool) : (s.mcCheck tw).kept = s.kept := by
  unfold State.mcCheck
  extract_lets m
  split
  · rfl
  · simp

@[simp] theorem State.mcSwitch_kept (s : State) (tw : Bool) : (s.mcSwitch tw).kept = s.kept := by simp [State.mcSwitch]

@[simp] theorem State.mcNote_kept (s : State) (tw : Bool) : (s.mcNote tw).kept = s.kept := by simp [State.mcNote]

@[simp] theorem State.mcSlot0_kept (s : State) (tw : Bool) : (s.mcSlot0 tw).kept = s.kept := by simp [State.mcSlot0]

@[simp] theorem State.mcFail_kept (s : State) (tw : Bool) : (s.mcFail tw).kept = s.kept := by
  unfold State.mcFail
  split <;> simp

@[simp] theorem State.mcSlot1_kept (s : State) (tw : Bool) : (s.mcSlot1 tw).kept = s.kept := by simp [State.mcSlot1]

@[simp] theorem State.mcFlip_kept (s : State) (tw : Bool) : (s.mcFlip tw).kept = s.kept := by
  unfold State.mcFlip
  extract_lets m
  split
  · rfl
  · simp

@[simp] theorem State.mcApply_kept (s : State) (tw : Bool) : (s.mcApply tw).kept = s.kept := by simp [State.mcApply]

@[simp] theorem State.mcRevert_kept (s : State) (tw : Bool) : (s.mcRevert tw).kept = s.kept := by
  unfold State.mcRevert
  extract_lets m
  split
  · rfl
  · simp

@[simp] theorem State.mcSlot3_kept (s : State) (tw : Bool) : (s.mcSlot3 tw).kept = s.kept := by simp [State.mcSlot3]

@[simp] theorem State.mcLinkLost_kept (s : State) (tw : Bool) : (s.mcLinkLost tw).kept = s.kept := by simp [State.mcLinkLost]

@[simp] theorem State.mcMasterLost_kept (s : State) (tw : Bool) : (s.mcMasterLost tw).kept = s.kept := by simp [State.mcMasterLost]

@[simp] theorem State.mcTake_kept (s : State) (tw : Bool) (op seq mode : Nat) (target : Option Nat) : (s.mcTake tw op seq mode target).kept = s.kept := by
  unfold State.mcTake
  repeat' split
  all_goals simp

@[simp] theorem State.mcTakeStatus_kept (s : State) (tw : Bool) (r : StatusRec) : (s.mcTakeStatus tw r).kept = s.kept := by
  unfold State.mcTakeStatus
  extract_lets m s1 s2
  have hs2 : s2.kept = s.kept := by simp [s2, s1]
  split <;> simp [hs2]

/-! ### StartCore -/

@[simp] theorem State.regReset_kept (s : State) (hit : Nat → Bool) : (s.regReset hit).kept = s.kept := by simp [State.regReset]

@[simp] theorem State.blockReset_kept (s : State) (blocks : List Nat) : (s.blockReset blocks).kept = s.kept := by simp [State.blockReset]

@[simp] theorem State.aonDrain_kept (s : State) : s.aonDrain.kept = s.kept := by simp [State.aonDrain]

@[simp] theorem State.noteFail_kept (s : State) (step : Nat) : (s.noteFail step).kept = s.kept := by simp [State.noteFail]

@[simp] theorem State.fwRuns_kept (s : State) (c : Nat) : (s.fwRuns c).kept = s.kept := by simp [State.fwRuns]

@[simp] theorem State.loadLanes_kept (s : State) : s.loadLanes.kept = s.kept := by
  unfold State.loadLanes
  split <;> simp

@[simp] theorem State.setWord_kept (s : State) (l : List Fld) (i v : Nat) : (s.setWord l i v).kept = s.kept := by simp [State.setWord]

@[simp] theorem State.itinPins_kept (s : State) (b : List Nat) : (s.itinPins b).kept = s.kept := by simp [State.itinPins]

/-! ### Wake -/

@[simp] theorem State.wakeCause_kept (s : State) (cause : Nat) : (s.wakeCause cause).kept = s.kept := by simp [State.wakeCause]

@[simp] theorem State.npResume_kept (s : State) : s.npResume.kept = s.kept := by simp [State.npResume]

@[simp] theorem State.areasLost_kept (s : State) : s.areasLost.kept = s.kept := by
  unfold State.areasLost
  refine State.kept_foldl (fun u m => ?_) _ s
  split <;> simp

@[simp] theorem State.wakeIdle_kept (s : State) (cause t : Nat) : (s.wakeIdle cause t).kept = s.kept := by simp [State.wakeIdle]

/-! ### Link -/

@[simp] theorem State.sendDown_kept (s : State) (tw : Bool) (msg : List Nat) : (s.sendDown tw msg).kept = s.kept := by simp [State.sendDown]

@[simp] theorem State.sendUp_kept (s : State) (tw : Bool) (msg : List Nat) : (s.sendUp tw msg).kept = s.kept := by simp [State.sendUp]

@[simp] theorem State.sendTick_kept (s : State) (tw : Bool) (msg : List Nat) : (s.sendTick tw msg).kept = s.kept := by simp [State.sendTick]

@[simp] theorem State.masterMsg_kept (s : State) (tw : Bool) (type : Nat) (restart : Bool) (tick time : Nat) : (s.masterMsg tw type restart tick time).kept = s.kept := by
  simp [State.masterMsg]

@[simp] theorem State.sendStatus_kept (s : State) (tw : Bool) (r : StatusRec) : (s.sendStatus tw r).kept = s.kept := by simp [State.sendStatus]

@[simp] theorem State.memberStatus_kept (s : State) (tw : Bool) (tick : Nat) : (s.memberStatus tw tick).kept = s.kept := by simp [State.memberStatus]

@[simp] theorem State.owedStatus_kept (s : State) : s.owedStatus.kept = s.kept := by
  unfold State.owedStatus
  split <;> simp

/-! ### TwinCore -/

@[simp] theorem State.srcTo_kept (s : State) (v t : Nat) : (s.srcTo v t).kept = s.kept := by simp [State.srcTo]

@[simp] theorem State.twinSet_kept (s : State) (mode role : Nat) : (s.twinSet mode role).kept = s.kept := by simp [State.twinSet]

@[simp] theorem State.headerPage_kept (s : State) : s.headerPage.kept = s.kept := by simp [State.headerPage]

@[simp] theorem State.twinHoldover_kept (s : State) : s.twinHoldover.kept = s.kept := by simp [State.twinHoldover]

@[simp] theorem State.twinForget_kept (s : State) : s.twinForget.kept = s.kept := by simp [State.twinForget]

@[simp] theorem State.twinTakeover_kept (s : State) (tick tor : Nat) : (s.twinTakeover tick tor).kept = s.kept := by simp [State.twinTakeover]

@[simp] theorem State.twinAlone_kept (s : State) : s.twinAlone.kept = s.kept := by simp [State.twinAlone]

@[simp] theorem State.twinSrcLost_kept (s : State) : s.twinSrcLost.kept = s.kept := by simp [State.twinSrcLost]

@[simp] theorem State.twinHiZ_kept (s : State) : s.twinHiZ.kept = s.kept := by simp [State.twinHiZ]

@[simp] theorem State.twinSwap_kept (s : State) : s.twinSwap.kept = s.kept := by simp [State.twinSwap]

@[simp] theorem State.twinLoss_kept (s : State) (b : Bd) : (s.twinLoss b).kept = s.kept := by simp [State.twinLoss]

@[simp] theorem State.twinAct_kept (s : State) (b : Bd) : (s.twinAct b).kept = s.kept := by
  simp [State.twinAct]

@[simp] theorem State.twinUndo_kept (s : State) : s.twinUndo.kept = s.kept := by
  unfold State.twinUndo
  split <;> simp

@[simp] theorem State.twinMode_kept (s : State) (b : Bd) : (s.twinMode b).kept = s.kept := by simp [State.twinMode]

@[simp] theorem State.twinSlot0_kept (s : State) (b : Bd) : (s.twinSlot0 b).kept = s.kept := by simp [State.twinSlot0]

@[simp] theorem State.twinSwapArm_kept (s : State) : s.twinSwapArm.kept = s.kept := by simp [State.twinSwapArm]

@[simp] theorem State.notePos_kept (s : State) (b : Bd) : (s.notePos b).kept = s.kept := by simp [State.notePos]

@[simp] theorem State.recCompare_kept (s : State) (x y : TwnRec) : (s.recCompare x y).kept = s.kept := by simp [State.recCompare]

@[simp] theorem State.recOwn_kept (s : State) (x : TwnRec) : (s.recOwn x).kept = s.kept := by
  unfold State.recOwn
  split <;> simp

@[simp] theorem State.recLate_kept (s : State) : s.recLate.kept = s.kept := by simp [State.recLate]

@[simp] theorem State.ckptStart_kept (s : State) (n : Nat) : (s.ckptStart n).kept = s.kept := by
  unfold State.ckptStart
  extract_lets base
  split
  next data s1 hfold =>
  have hs1 : s1.kept = s.kept := by
    refine (congrArg (fun p => p.2.kept) hfold).symm.trans (State.kept_foldl_snd (fun u i => ?_) _ ([], s))
    split
    next d bad st hread =>
    have hst : st.kept = u.2.kept := by simpa [hread] using u.2.dramRead_kept 210 (base + 64 * i) 64
    dsimp only
    split <;> simp [hst]
  simp [hs1]

@[simp] theorem State.ckptDue_kept (s : State) (n : Nat) : (s.ckptDue n).kept = s.kept := by simp [State.ckptDue]

@[simp] theorem State.twinSlot5_kept (s : State) (b : Bd) : (s.twinSlot5 b).kept = s.kept := by simp [State.twinSlot5]

@[simp] theorem State.standbyTrim_kept (s : State) : s.standbyTrim.kept = s.kept := by simp [State.standbyTrim]

@[simp] theorem State.standbyPost_kept (s : State) : s.standbyPost.kept = s.kept := by simp [State.standbyPost]

@[simp] theorem State.twinSlot4_kept (s : State) (b : Bd) : (s.twinSlot4 b).2.kept = s.kept := by simp [State.twinSlot4]

/-! ### Boundary -/

@[simp] theorem State.outcomes_kept (s : State) (closed : List Nat) : (s.outcomes closed).2.kept = s.kept := by simp [State.outcomes]

@[simp] theorem State.curfewShow_kept (s : State) : s.curfewShow.kept = s.kept := by simp [State.curfewShow]

@[simp] theorem State.switchNow_kept (s : State) (t : Nat) : (s.switchNow t).kept = s.kept := by simp [State.switchNow]

@[simp] theorem State.refSpill_kept (s : State) : s.refSpill.kept = s.kept := by simp [State.refSpill]

@[simp] theorem State.slot0Tick_kept (s : State) (b : Bd) (skew : Nat) : (s.slot0Tick b skew).kept = s.kept := by simp [State.slot0Tick]

@[simp] theorem State.slot0Settings_kept (s : State) (b : Bd) : (s.slot0Settings b).kept = s.kept := by simp [State.slot0Settings]

@[simp] theorem State.slot0Open_kept (s : State) (b : Bd) : (s.slot0Open b).kept = s.kept := by simp [State.slot0Open]

@[simp] theorem State.slot1_kept (s : State) (b : Bd) : (s.slot1 b).kept = s.kept := by simp [State.slot1]

@[simp] theorem State.slot2_kept (s : State) (b : Bd) : (s.slot2 b).kept = s.kept := by simp [State.slot2]

@[simp] theorem State.slot3_kept (s : State) : s.slot3.kept = s.kept := by simp [State.slot3]

@[simp] theorem State.slot4_kept (s : State) (b : Bd) (marked flipped : Nat) : (s.slot4 b marked flipped).kept = s.kept := by
  simp [State.slot4]

@[simp] theorem State.slot6_kept (s : State) (b : Bd) (src : Nat) : (s.slot6 b src).kept = s.kept := by simp [State.slot6]

@[simp] theorem State.slot7_kept (s : State) (b : Bd) : (s.slot7 b).kept = s.kept := by simp [State.slot7]

@[simp] theorem State.workOpen_kept (s : State) : s.workOpen.kept = s.kept := by simp [State.workOpen]

@[simp] theorem State.dropEvent_kept (s : State) (tor : Nat) (burst : Bool) : (s.dropEvent tor burst).kept = s.kept := by simp [State.dropEvent]

/-! ### Tick -/

@[simp] theorem State.restOpen_kept (s : State) : s.restOpen.kept = s.kept := by simp [State.restOpen]

@[simp] theorem State.engineOn_kept (s : State) (t : Nat) : (s.engineOn t).kept = s.kept := by simp [State.engineOn]

@[simp] theorem State.curfewChange_kept (s : State) : s.curfewChange.kept = s.kept := by simp [State.curfewChange]

@[simp] theorem State.engineOff_kept (s : State) (t : Nat) : (s.engineOff t).kept = s.kept := by simp [State.engineOff]

@[simp] theorem State.shadowCross_kept (s : State) (t : Nat) : (s.shadowCross t).kept = s.kept := by simp [State.shadowCross]

/-! ### Sync -/

@[simp] theorem State.linkSeen_kept (s : State) (tw : Bool) (t : Nat) : (s.linkSeen tw t).kept = s.kept := by simp [State.linkSeen]

@[simp] theorem State.linkLost_kept (s : State) (tw : Bool) : (s.linkLost tw).kept = s.kept := by simp [State.linkLost]

@[simp] theorem State.linkBad_kept (s : State) (tw : Bool) : (s.linkBad tw).kept = s.kept := by simp [State.linkBad]

@[simp] theorem State.upBad_kept (s : State) (tw : Bool) : (s.upBad tw).kept = s.kept := by simp [State.upBad]

@[simp] theorem State.forward_kept (s : State) (tw : Bool) (msg : List Nat) : (s.forward tw msg).kept = s.kept := by simp [State.forward]

@[simp] theorem State.noteMaster_kept (s : State) (tw : Bool) (msg : List Nat) : (s.noteMaster tw msg).kept = s.kept := by simp [State.noteMaster]

@[simp] theorem State.takeMc_kept (s : State) (tw : Bool) (msg : List Nat) : (s.takeMc tw msg).kept = s.kept := by simp [State.takeMc]

@[simp] theorem State.receive_kept (s : State) (tw : Bool) (type : Nat) (msg : List Nat) (t : Nat) : (s.receive tw type msg t).2.kept = s.kept := by
  simp [State.receive]

@[simp] theorem State.lateMsg_kept (s : State) (tw : Bool) : (s.lateMsg tw).kept = s.kept := by simp [State.lateMsg]

@[simp] theorem State.joinLapse_kept (s : State) (tick : Nat) : (s.joinLapse tick).kept = s.kept := by simp [State.joinLapse]

@[simp] theorem State.calDone_kept (s : State) (tw : Bool) (ofs : ℤ) : (s.calDone tw ofs).kept = s.kept := by simp [State.calDone]

@[simp] theorem State.calCriterion_kept (s : State) (tw : Bool) (ofs : ℤ) (t : Nat) : (s.calCriterion tw ofs t).kept = s.kept := by
  simp [State.calCriterion]

@[simp] theorem State.calTake_kept (s : State) (tw : Bool) (msg : List Nat) (arrival echoAt : Nat) : (s.calTake tw msg arrival echoAt).kept = s.kept := by
  simp [State.calTake]

/-! ### Twin -/

@[simp] theorem State.partnerLost_kept (s : State) : s.partnerLost.kept = s.kept := by simp [State.partnerLost]

@[simp] theorem State.divAlign_kept (s : State) (r : TwnRec) : (s.divAlign r).kept = s.kept := by
  unfold State.divAlign
  repeat' split
  all_goals simp

@[simp] theorem State.recTake_kept (s : State) (r : TwnRec) : (s.recTake r).kept = s.kept := by
  unfold State.recTake
  extract_lets newer twn s1 twn1
  have hs1 : s1.kept = s.kept := by simp [s1, twn]
  split
  · split
    · exact (State.recCompare_kept ..).trans (Eq.trans (by simp [twn1]) hs1)
    · split
      · exact Eq.trans (by simp [twn1]) hs1
      · exact hs1
  · split
    · exact (State.standbyTrim_kept _).trans hs1
    · exact hs1

@[simp] theorem State.syncLostNote_kept (s : State) : s.syncLostNote.kept = s.kept := by simp [State.syncLostNote]

@[simp] theorem State.ckptLine_kept (s : State) (base i : Nat) (data : List Nat) (ue failed : Bool) : (s.ckptLine base i data ue failed).kept = s.kept := by
  simp [State.ckptLine]

@[simp] theorem State.ckptComplete_kept (s : State) (tick : Nat) : (s.ckptComplete tick).kept = s.kept := by simp [State.ckptComplete]

/-! ### Start -/

@[simp] theorem State.planesAtStart_kept (s : State) : s.planesAtStart.kept = s.kept := by simp [State.planesAtStart]

@[simp] theorem State.openFalls_kept (s : State) : s.openFalls.kept = s.kept := by simp [State.openFalls]

@[simp] theorem State.startPins_kept (s : State) (o : StartObs) : (s.startPins o).kept = s.kept := by simp [State.startPins]

@[simp] theorem State.startRooms_kept (s : State) : s.startRooms.kept = s.kept := by simp [State.startRooms]

@[simp] theorem State.bistReport_kept (s : State) : s.bistReport.kept = s.kept := by simp [State.bistReport]

@[simp] theorem State.fillRefresh_kept (s : State) (r : Nat) (bad : Option Nat) : (s.fillRefresh r bad).kept = s.kept := by simp [State.fillRefresh]

@[simp] theorem State.itinOff_kept (s : State) (off r : Nat) : (s.itinOff off r).kept = s.kept := by simp [State.itinOff]

@[simp] theorem State.itinPlane_kept (s : State) (b : List Nat) (r : Nat) : (s.itinPlane b r).kept = s.kept := by simp [State.itinPlane]

@[simp] theorem State.wdogKick_kept (s : State) : s.wdogKick.kept = s.kept := by simp [State.wdogKick]

/-! ### IasWrite -/

@[simp] theorem State.regShow_kept (s : State) (addr : Nat) : (s.regShow addr).kept = s.kept := by
  unfold State.regShow
  repeat' split
  all_goals simp

@[simp] theorem State.regPeek_kept (s : State) (addr : Nat) (h : RegHit) : (s.regPeek addr h).2.kept = s.kept := by simp [State.regPeek]

@[simp] theorem State.regRead_kept (s : State) (addr : Nat) (h : RegHit) : (s.regRead addr h).2.kept = s.kept := by
  simp only [State.regRead]
  generalize hs3 : (if addr = 0x600040 then _ else _ : State) = s3
  have hkept : s3.kept = s.kept := by rw [← hs3]; simp
  split
  · split <;> simp [hkept]
  · split <;> simp [hkept]

@[simp] theorem State.iasUnmapped_kept (s : State) (addr : Nat) (write : Bool) : (s.iasUnmapped addr write).kept = s.kept := by
  simp [State.iasUnmapped]

@[simp] theorem State.iasRead_kept (s : State) (addr : Nat) : (s.iasRead addr).2.kept = s.kept := by
  unfold State.iasRead
  split <;> simp

@[simp] theorem State.wrStore_kept (s : State) (h : RegHit) (value mask : Nat) : (s.wrStore h value mask).kept = s.kept := by
  unfold State.wrStore
  refine State.kept_foldl (fun u f => ?_) _ s
  split <;> simp

/-! ### Core -/

@[simp] theorem State.qerrSample_kept (s : State) (ch : Nat) (ain bin : Bool) (stamp t : Nat) : (s.qerrSample ch ain bin stamp t).kept = s.kept := by
  simp [State.qerrSample]

@[simp] theorem State.mbxTaken_kept (s : State) (m : Nat) (c : KmiCmd) : (s.mbxTaken m c).kept = s.kept := by simp [State.mbxTaken]

end Sys2Proof.Machine
end

section
/-! What every command keeps, and the operations that write a store or replace a list of units. -/

namespace Sys2Proof.Machine

open Reg

/-! ### What holds after an operation -/

/-- The numbers of units of the part (State.shapeOk), in the order of `State.kept`. -/
def Kept.part : List Nat := [16, 8, 16, 16, 4, 4, 4, 24, 24, 24, 2, 8, 8, 8, 2, 2, 16, 16]

/-- From `a` to `b` the queue stays, no bit of the OTP is cleared, canonical stores stay canonical, and the units of the part stay those of the
part. -/
structure Kept.Holds (a b : Kept) : Prop where
  pending : b.pending = a.pending
  otp_bits : ∀ byte i, bitB (Assoc.get 0 byte a.otp) i = true → bitB (Assoc.get 0 byte b.otp) i = true
  dram_wf : Assoc.wf 0 a.dram = true → Assoc.wf 0 b.dram = true
  pantry_wf : Assoc.wf 0xFF a.pantry = true → Assoc.wf 0xFF b.pantry = true
  otp_wf : Assoc.wf 0 a.otp = true → Assoc.wf 0 b.otp = true
  units : a.units = Kept.part → b.units = Kept.part

@[simp] theorem Kept.Holds.refl (a : Kept) : a.Holds a := ⟨rfl, fun _ _ h => h, id, id, id, id⟩

theorem Kept.Holds.trans {a b c : Kept} (h : a.Holds b) (g : b.Holds c) : a.Holds c :=
  ⟨g.pending.trans h.pending, fun x i hb => g.otp_bits x i (h.otp_bits x i hb), g.dram_wf ∘ h.dram_wf, g.pantry_wf ∘ h.pantry_wf,
    g.otp_wf ∘ h.otp_wf, g.units ∘ h.units⟩

@[simp] theorem Kept.holds_ite {k a b : Kept} {c : Prop} [Decidable c] : k.Holds (if c then a else b) ↔ if c then k.Holds a else k.Holds b := by
  split <;> rfl

theorem State.ite_holds {k : Kept} {c : Prop} [Decidable c] {s t : State} (hs : k.Holds s.kept) (ht : k.Holds t.kept) :
    k.Holds (if c then s else t).kept := by split <;> assumption

/-- A fold of steps each of which keeps what holds. -/
@[simp] theorem State.foldl_holds {β : Type} {f : State → β → State} {k : Kept} {s : State} (hf : ∀ (u : State) x, u.kept.Holds (f u x).kept) (l : List β)
    (h : k.Holds s.kept) : k.Holds (l.foldl f s).kept := by
  induction l generalizing s with
  | nil => exact h
  | cons x l ih => exact ih (h.trans (hf s x))

@[simp] theorem State.foldl_snd_holds {α β : Type} {f : α × State → β → α × State} {k : Kept} {s : α × State}
    (hf : ∀ (u : α × State) x, u.2.kept.Holds (f u x).2.kept) (l : List β) (h : k.Holds s.2.kept) : k.Holds (l.foldl f s).2.kept := by
  induction l generalizing s with
  | nil => exact h
  | cons x l ih => exact ih (h.trans (hf s x))

/-- An update that may replace the lists of units by lists of the part's lengths. -/
theorem State.holds_update {k : Kept} {u : State} (h : k.Holds u.kept) {regs held hiLatch out freeCount tick} {msu : MsuSt} {syc} {fab : FabSt}
    {ing : IngSt} {hlk rings} {dmc : DmcSt} {dram dramBad} {cfg : CfgSt} {wch : WchSt} {kmi : KmiSt} {pnt : PntSt} {io : IoSt} {pwr : PwrSt}
    {boot twn lc} {bist : BistSt} {ldg}
    (hdram : Assoc.wf 0 u.dram = true → Assoc.wf 0 dram = true)
    (hmbx : u.kmi.mbx.length = 16 → kmi.mbx.length = 16) (henc : u.msu.enc.length = 8 → msu.enc.length = 8)
    (htrig : u.msu.trig.length = 16 → msu.trig.length = 16) (hlas : u.ing.las.length = 16 → ing.las.length = 16)
    (hsubs : u.dmc.subs.length = 4 → dmc.subs.length = 4) (hown : u.cfg.coOwner.length = 4 → cfg.coOwner.length = 4)
    (htick : u.cfg.coTick.length = 4 → cfg.coTick.length = 4) (hpos : u.wch.pos.length = 24 → wch.pos.length = 24)
    (hcap : u.wch.capSince.length = 24 → wch.capSince.length = 24) (hgrp : u.wch.marginGrp.length = 24 → wch.marginGrp.length = 24)
    (hbanks : u.pnt.banks.length = 2 → pnt.banks.length = 2) (hend : u.io.timEnd.length = 8 → io.timEnd.length = 8)
    (hrise : u.io.timRise.length = 8 → io.timRise.length = 8) (hsig : u.pwr.sig.length = 8 → pwr.sig.length = 8)
    (hpages : u.bist.pages.length = 2 → bist.pages.length = 2) (hgens : u.bist.gens.length = 2 → bist.gens.length = 2)
    (hctl : u.fab.pllCtl.length = 16 → fab.pllCtl.length = 16) (hpll : u.fab.pllOut.length = 16 → fab.pllOut.length = 16) :
    k.Holds (State.kept ⟨u.pending, regs, held, hiLatch, out, freeCount, tick, msu, syc, fab, ing, hlk, rings, dmc, dram, dramBad, cfg, wch, kmi,
      u.pantry, u.otp, pnt, io, pwr, boot, twn, lc, bist, ldg⟩) := by
  refine h.trans ⟨rfl, fun _ _ hb => hb, hdram, id, id, fun hu => ?_⟩
  simp only [State.kept, Kept.part, List.cons.injEq, and_true] at hu ⊢
  obtain ⟨h1, h2, h3, h4, h5, h6, h7, h8, h9, h10, h11, h12, h13, h14, h15, h16, h17, h18⟩ := hu
  exact ⟨hmbx h1, henc h2, htrig h3, hlas h4, hsubs h5, hown h6, htick h7, hpos h8, hcap h9, hgrp h10, hbanks h11, hend h12, hrise h13, hsig h14,
    hpages h15, hgens h16, hctl h17, hpll h18⟩

/-! ### What holds of an outcome -/

/-- A command keeps what holds: it answers such a state where its units exist, and else the one fault; it is never refused. -/
def Runs (exists_ : Bool) (k : Kept) : Host.Outcome State Fault Refusal → Prop
  | .next t => exists_ = true ∧ k.Holds t.kept
  | .fault _ => exists_ = false
  | .refused _ => False

@[simp] theorem runs_next {e : Bool} {k : Kept} {t : State} : Runs e k (.next t) ↔ e = true ∧ k.Holds t.kept := Iff.rfl

@[simp] theorem runs_ite {e : Bool} {k : Kept} {c : Prop} [Decidable c] {o p : Host.Outcome State Fault Refusal} :
    Runs e k (if c then o else p) ↔ if c then Runs e k o else Runs e k p := by split <;> rfl

theorem Runs.ite {e : Bool} {k : Kept} {c : Prop} [Decidable c] {o p : Host.Outcome State Fault Refusal} (ho : Runs e k o) (hp : Runs e k p) :
    Runs e k (if c then o else p) := by split <;> assumption

/-- The units of the command are judged first. -/
theorem Runs.guard {e : Bool} {k : Kept} {c : Prop} [Decidable c] {f : Fault} {o : Host.Outcome State Fault Refusal} (he : e = decide (¬ c))
    (h : Runs true k o) : Runs e k (if c then .fault f else o) := by
  by_cases hc : c
  · simpa [hc, Runs] using he
  · simpa [hc, he] using h

theorem Runs.unit {e : Bool} {k : Kept} {c : Prop} [Decidable c] {f : Fault} {o : Host.Outcome State Fault Refusal} (he : e = decide c)
    (h : Runs true k o) : Runs e k (if c then o else .fault f) := by
  by_cases hc : c
  · simpa [hc, he] using h
  · simpa [hc, Runs] using he

/-- A KMI command's own work keeps what holds. -/
def KmiRes.Keeps (k : Kept) : KmiRes → Prop
  | .fin s _ _ _ _ => k.Holds s.kept
  | .run s _ _ => k.Holds s.kept

@[simp] theorem KmiRes.keeps_fin {k : Kept} {s : State} {st d : Nat} {c data : List Nat} : (KmiRes.fin s st d c data).Keeps k ↔ k.Holds s.kept :=
  Iff.rfl

@[simp] theorem KmiRes.keeps_run {k : Kept} {s : State} {w : Bool} {key : Nat} : (KmiRes.run s w key).Keeps k ↔ k.Holds s.kept := Iff.rfl

@[simp] theorem KmiRes.keeps_ite {k : Kept} {c : Prop} [Decidable c] {a b : KmiRes} :
    (if c then a else b).Keeps k ↔ if c then a.Keeps k else b.Keeps k := by split <;> rfl

/-- A KMI command keeps what its own work keeps. -/
theorem kmiCommand_runs {k : Kept} {op m : Nat} {body : KmiCmd → State → KmiRes} {s : State} (hs : k.Holds s.kept)
    (h : ∀ cmd u, k.Holds u.kept → (body cmd u).Keeps k) : Runs (isMbx m) k (kmiCommand op m body s) := by
  refine Runs.guard (by simp [isMbx]) ?_
  cases s.kmiStartable m op with
  | none => exact ⟨rfl, hs⟩
  | some cmd =>
    have hu := h cmd (s.kmiUnpost m) (by simpa using hs)
    by_cases ha : (s.kmiUnpost m).kmiAccess cmd = stOk
    · cases hb : body cmd (s.kmiUnpost m) with
      | fin s2 st d c data =>
        rw [hb] at hu
        simpa [ha, hb] using hu
      | run s2 w key =>
        rw [hb] at hu
        simpa [ha, hb] using hu
    · simpa [ha] using hs

/-- The state after a command that a register write starts. -/
theorem after_holds {e : Bool} {k : Kept} {s : State} {o : Host.Outcome State Fault Refusal} (hs : k.Holds s.kept) (ho : Runs e k o) :
    k.Holds (after s o).kept := by
  cases o with
  | next t => exact ho.2
  | fault f => exact hs
  | refused r => exact hs

/-! ### Operations that write a store -/

@[simp] theorem State.pWrite_holds {k : Kept} {s : State} (h : k.Holds s.kept) (a : Nat) (l : List Nat) : k.Holds (s.pWrite a l).kept :=
  h.trans ⟨rfl, fun _ _ hb => hb, id, Assoc.wf_writeRun _ _ _, id, id⟩

@[simp] theorem State.pErase_holds {k : Kept} {s : State} (h : k.Holds s.kept) (a n : Nat) : k.Holds (s.pErase a n).kept :=
  h.trans ⟨rfl, fun _ _ hb => hb, id, Assoc.wf_clearRun _ _ _, id, id⟩

@[simp] theorem State.setDevData_holds {k : Kept} {s : State} (h : k.Holds s.kept) (dev v : Nat) : k.Holds (s.setDevData dev v).kept :=
  h.trans ⟨rfl, fun _ _ hb => hb, Assoc.wf_writeRun _ _ _, id, id, id⟩

/-- A program of the OTP takes the OR of the row and the data (R441). -/
theorem State.otpSet_byte (s : State) (r : Nat) (data : List Nat) {byte i : Nat} (h : bitB (Assoc.get 0 byte s.otp) i = true) :
    bitB (Assoc.get 0 byte (s.otpSet r data).otp) i = true := by
  unfold State.otpSet
  by_cases hin : 128 * r ≤ byte ∧ byte < 128 * r + 128
  · obtain ⟨j, hj, rfl⟩ : ∃ j, j < 128 ∧ byte = 128 * r + j := ⟨byte - 128 * r, by omega, by omega⟩
    rw [bitB_eq_testBit] at h ⊢
    simp [Assoc.get_writeRun_in, State.otpRow, Assoc.readRun, hj, h]
  · rw [Assoc.get_writeRun_out]
    · exact h
    · simp only [List.length_map, List.length_range]
      omega

@[simp] theorem State.otpSet_holds {k : Kept} {s : State} (h : k.Holds s.kept) (r : Nat) (data : List Nat) : k.Holds (s.otpSet r data).kept :=
  h.trans ⟨rfl, fun _ _ => s.otpSet_byte r data, id, id, Assoc.wf_writeRun _ _ _, id⟩

end Sys2Proof.Machine
end

section
/-! The operations that may write a store or replace a list of units, and every command, in the order of the model's chapters. -/

namespace Sys2Proof.Machine

open Reg

set_option maxRecDepth 10000
-- Each theorem takes its turn: the threads of so many at once exceed the memory that the check gives.
set_option Elab.async false

/-! ### Kmi -/

theorem execMbxAck_runs {k : Kept} {s : State} (h : k.Holds s.kept) (m : Nat) : Runs (wellFormed (.mbxAck m)) k (execMbxAck m s) := by
  refine Runs.guard (by simp [wellFormed, isMbx]) ?_
  simp [h]

theorem execMbxAbort_runs {k : Kept} {s : State} (h : k.Holds s.kept) (m : Nat) : Runs (wellFormed (.mbxAbort m)) k (execMbxAbort m s) := by
  refine Runs.guard (by simp [wellFormed, isMbx]) ?_
  simp [h]

theorem execMbxEvtAck_runs {k : Kept} {s : State} (h : k.Holds s.kept) (n : Nat) : Runs (wellFormed (.mbxEvtAck n)) k (execMbxEvtAck n s) := by
  simp [execMbxEvtAck, wellFormed, h]

theorem execExclusiveStartTimeout_runs {k : Kept} {s : State} (h : k.Holds s.kept) (m : Nat) :
    Runs (wellFormed (.exclusiveStartTimeout m)) k (execExclusiveStartTimeout m s) := by
  refine Runs.guard (by simp [wellFormed, isMbx]) ?_
  split <;> simp [h]

/-! ### Fabric -/

theorem execFabMgmtRead_runs {k : Kept} {s : State} (h : k.Holds s.kept) (m : Nat) : Runs (wellFormed (.fabMgmtRead m)) k (execFabMgmtRead m s) :=
  kmiCommand_runs h fun cmd u hu => by simp [hu]

theorem execFabMgmtWrite_runs {k : Kept} {s : State} (h : k.Holds s.kept) (m : Nat) : Runs (wellFormed (.fabMgmtWrite m)) k (execFabMgmtWrite m s) :=
  kmiCommand_runs h fun cmd u hu => by simp [hu]

theorem execFpllRead_runs {k : Kept} {s : State} (h : k.Holds s.kept) (m : Nat) : Runs (wellFormed (.fpllRead m)) k (execFpllRead m s) :=
  kmiCommand_runs h fun cmd u hu => by simp [hu]

theorem execFpllWrite_runs {k : Kept} {s : State} (h : k.Holds s.kept) (m : Nat) : Runs (wellFormed (.fpllWrite m)) k (execFpllWrite m s) :=
  kmiCommand_runs h fun cmd u hu => by simp [hu]

/-! ### Blocks -/

theorem execBlockPortAccess_runs {k : Kept} {s : State} (h : k.Holds s.kept) (room : Nat) (larder : Bool) (idx : Nat)
    (pa : Option PortReq) (pb : Option PortReq) (window aFirst : Bool) :
    Runs (wellFormed (.blockPortAccess room larder idx pa pb window aFirst)) k (execBlockPortAccess room larder idx pa pb window aFirst s) := by
  refine Runs.guard (by cases larder <;> simp [wellFormed, isRoom, isBlock]) ?_
  simp only [runs_ite]
  split
  · simp [h]
  · split
    · simp [h]
    · split <;> simp [h]

theorem execBramSbe_runs {k : Kept} {s : State} (h : k.Holds s.kept) (m : Nat) : Runs (wellFormed (.bramSbe m)) k (execBramSbe m s) :=
  kmiCommand_runs h fun cmd u hu => by simp [hu]

theorem execPabCycle_runs {k : Kept} {s : State} (h : k.Holds s.kept) (room : Nat) (inp : List PabIn) :
    Runs (wellFormed (.pabCycle room inp)) k (execPabCycle room inp s) := by
  refine Runs.guard ?_ ?_
  · cases hp : inp.any (fun i => decide (96 ≤ i.pab)) <;> simp_all [wellFormed, isRoom, isPab]
  · simp [h]

theorem execPabClearStat_runs {k : Kept} {s : State} (h : k.Holds s.kept) (room pab : Nat) :
    Runs (wellFormed (.pabClearStat room pab)) k (execPabClearStat room pab s) := by
  refine Runs.guard (by simp [wellFormed, isPab, isRoom]) ?_
  simp [h]

/-! ### Pantry -/

@[simp] theorem State.settingsWrite_holds {k : Kept} {s : State} (h : k.Holds s.kept) (kind : Nat) (body : List Nat) :
    k.Holds (s.settingsWrite kind body).kept := by
  unfold State.settingsWrite
  extract_lets c0 c1
  split
  extract_lets a hdr crc s1
  have hs1 : k.Holds s1.kept := by simp [s1, h]
  split
  · exact h
  · simp [hs1]

@[simp] theorem State.journalWrite_holds {k : Kept} {s : State} (h : k.Holds s.kept) (step method : Nat) (result detail : Nat) (room plane : Nat) :
    k.Holds (s.journalWrite step method result detail room plane).kept := by simp [State.journalWrite, h]

theorem execPntProgram_runs {k : Kept} {s : State} (h : k.Holds s.kept) (b : Nat) (nvwp vaux : Bool) :
    Runs (wellFormed (.pntProgram b nvwp vaux)) k (execPntProgram b nvwp vaux s) := by
  refine Runs.guard (by simp [wellFormed, isPantry]) ?_
  simp [h]

theorem execPntErase_runs {k : Kept} {s : State} (h : k.Holds s.kept) (b : Nat) (nvwp vaux : Bool) :
    Runs (wellFormed (.pntErase b nvwp vaux)) k (execPntErase b nvwp vaux s) := by
  refine Runs.guard (by simp [wellFormed, isPantry]) ?_
  simp [h]

theorem execPntSuspend_runs {k : Kept} {s : State} (h : k.Holds s.kept) (b : Nat) : Runs (wellFormed (.pntSuspend b)) k (execPntSuspend b s) := by
  refine Runs.guard (by simp [wellFormed, isPantry]) ?_
  simp [h]

theorem execPntResume_runs {k : Kept} {s : State} (h : k.Holds s.kept) (b : Nat) (nvwp : Bool) :
    Runs (wellFormed (.pntResume b nvwp)) k (execPntResume b nvwp s) := by
  refine Runs.guard (by simp [wellFormed, isPantry]) ?_
  simp [h]

theorem execPntProgramDone_runs {k : Kept} {s : State} (h : k.Holds s.kept) (b : Nat) (verified : Bool) :
    Runs (wellFormed (.pntProgramDone b verified)) k (execPntProgramDone b verified s) := by
  refine Runs.guard (by simp [wellFormed, isPantry]) ?_
  simp [h]

theorem execPntSectorErased_runs {k : Kept} {s : State} (h : k.Holds s.kept) (b : Nat) (verified : Bool) :
    Runs (wellFormed (.pntSectorErased b verified)) k (execPntSectorErased b verified s) := by
  refine Runs.guard (by simp [wellFormed, isPantry]) ?_
  simp [h]

theorem execFetchLockWrite_runs {k : Kept} {s : State} (h : k.Holds s.kept) (lock : Bool) :
    Runs (wellFormed (.fetchLockWrite lock)) k (execFetchLockWrite lock s) := by
  simp [execFetchLockWrite, wellFormed, h]

theorem execOtpCmdRead_runs {k : Kept} {s : State} (h : k.Holds s.kept) (row : Nat) :
    Runs (wellFormed (.otpCmdRead row)) k (execOtpCmdRead row s) := by
  refine Runs.guard (by simp [wellFormed, isOtpRow]) ?_
  simp [h]

theorem execOtpCmdProgram_runs {k : Kept} {s : State} (h : k.Holds s.kept) (row : Nat) (vaux : Bool) :
    Runs (wellFormed (.otpCmdProgram row vaux)) k (execOtpCmdProgram row vaux s) := by
  refine Runs.guard (by simp [wellFormed, isOtpRow]) ?_
  simp [h]

@[simp] theorem State.otpEnd_holds {k : Kept} {s : State} (h : k.Holds s.kept) (verified : Bool) : k.Holds (s.otpEnd verified).kept := by
  unfold State.otpEnd
  split <;> simp [h]

theorem execOtpShadowLoad_runs {k : Kept} {s : State} (h : k.Holds s.kept) : Runs (wellFormed .otpShadowLoad) k (execOtpShadowLoad s) := by
  simp [execOtpShadowLoad, wellFormed, h]

theorem execPantryRead_runs {k : Kept} {s : State} (h : k.Holds s.kept) (m : Nat) (retryAt : List Nat) (ueAt : Option Nat) :
    Runs (wellFormed (.pantryRead m retryAt ueAt)) k (execPantryRead m retryAt ueAt s) := by
  refine kmiCommand_runs h fun cmd u hu => ?_
  simp only [KmiRes.keeps_ite, KmiRes.keeps_fin, KmiRes.keeps_run]
  split
  · exact hu
  · split
    · exact hu
    · refine State.foldl_snd_holds (fun p w => ?_) _ ?_ <;> simp [hu]

theorem execPantryProgram_runs {k : Kept} {s : State} (h : k.Holds s.kept) (m : Nat) :
    Runs (wellFormed (.pantryProgram m)) k (execPantryProgram m s) :=
  kmiCommand_runs h fun cmd u hu => by simp [hu]

theorem execPantryErase_runs {k : Kept} {s : State} (h : k.Holds s.kept) (m : Nat) : Runs (wellFormed (.pantryErase m)) k (execPantryErase m s) :=
  kmiCommand_runs h fun cmd u hu => by simp [hu]

theorem execFwUpdate_runs {k : Kept} {s : State} (h : k.Holds s.kept) (m : Nat) : Runs (wellFormed (.fwUpdate m)) k (execFwUpdate m s) :=
  kmiCommand_runs h fun cmd u hu => by simp [hu]

theorem execOtpRead_runs {k : Kept} {s : State} (h : k.Holds s.kept) (m : Nat) : Runs (wellFormed (.otpRead m)) k (execOtpRead m s) :=
  kmiCommand_runs h fun cmd u hu => by simp [hu]

theorem execOtpProgram_runs {k : Kept} {s : State} (h : k.Holds s.kept) (m : Nat) : Runs (wellFormed (.otpProgram m)) k (execOtpProgram m s) :=
  kmiCommand_runs h fun cmd u hu => by simp [hu]

/-! ### Dram -/

theorem execDramWriteTransfer_runs {k : Kept} {s : State} (h : k.Holds s.kept) (room port : Nat) (stream header : Nat) (words : List
    (Nat × Nat)) (t : Nat) :
    Runs (wellFormed (.dramWriteTransfer room port stream header words t)) k (execDramWriteTransfer room port stream header words t s) := by
  refine Runs.guard (by simp [wellFormed, isRoom, isPort, Bool.and_assoc]) ?_
  simp only [runs_ite]
  split
  · simp [h]
  · split <;> simp [h]

theorem execDramReadRequest_runs {k : Kept} {s : State} (h : k.Holds s.kept) (room port : Nat) (stream word t : Nat) :
    Runs (wellFormed (.dramReadRequest room port stream word t)) k (execDramReadRequest room port stream word t s) := by
  refine Runs.guard (by simp [wellFormed, isRoom, isPort, Bool.and_assoc]) ?_
  simp [h]

theorem execDramAck_runs {k : Kept} {s : State} (h : k.Holds s.kept) (room port : Nat) :
    Runs (wellFormed (.dramAck room port)) k (execDramAck room port s) := by
  refine Runs.guard (by simp [wellFormed, isPort, isRoom]) ?_
  split <;> simp [h]

@[simp] theorem State.issueColumn_holds {k : Kept} {s : State} (h : k.Holds s.kept) (sc : Nat) (q : DReq) (t ce : Nat) (ue : Bool) :
    k.Holds (s.issueColumn sc q t ce ue).kept := by simp [State.issueColumn, h]

theorem execDmcCommandSelect_runs {k : Kept} {s : State} (h : k.Holds s.kept) (sc t : Nat) (colOk : Bool) (ceBeats : Nat) (ue : Bool) :
    Runs (wellFormed (.dmcCommandSelect sc t colOk ceBeats ue)) k (execDmcCommandSelect sc t colOk ceBeats ue s) := by
  refine Runs.guard (by simp [wellFormed, isSub]) ?_
  have hs1 : k.Holds (s.setNow t).kept := by simp [h]
  generalize s.setNow t = s1 at hs1 ⊢
  refine Runs.ite (by simp [hs1]) ?_
  dsimp only
  generalize oldest (((s1.sub sc).rq ++ (s1.sub sc).wq).filter _) = aged
  cases aged with
  | some a => simp [hs1]
  | none =>
    have hs2 : k.Holds (s1.setSub sc { s1.sub sc with wmode := s1.nextMode (s1.sub sc) }).kept := by simp [hs1]
    generalize s1.setSub sc { s1.sub sc with wmode := s1.nextMode (s1.sub sc) } = s2 at hs2 ⊢
    dsimp only
    split
    · split <;> simp [hs2]
    · split <;> simp [hs2]

theorem execPageTimeout_runs {k : Kept} {s : State} (h : k.Holds s.kept) (sc bank t : Nat) :
    Runs (wellFormed (.pageTimeout sc bank t)) k (execPageTimeout sc bank t s) := by
  refine Runs.guard (by simp [wellFormed, isSub]) ?_
  dsimp only
  split <;> simp [h]

theorem execRankPowerDown_runs {k : Kept} {s : State} (h : k.Holds s.kept) (sc rank t : Nat) :
    Runs (wellFormed (.rankPowerDown sc rank t)) k (execRankPowerDown sc rank t s) := by
  refine Runs.guard (by simp [wellFormed, isSub]) ?_
  simp [h]

theorem execRefreshInterval_runs {k : Kept} {s : State} (h : k.Holds s.kept) (t : Nat) :
    Runs (wellFormed (.refreshInterval t)) k (execRefreshInterval t s) := by
  simp [execRefreshInterval, wellFormed, h]

theorem execRefreshStart_runs {k : Kept} {s : State} (h : k.Holds s.kept) (t : Nat) :
    Runs (wellFormed (.refreshStart t)) k (execRefreshStart t s) := by
  simp [execRefreshStart, wellFormed, h]

theorem execRefreshEnd_runs {k : Kept} {s : State} (h : k.Holds s.kept) (t : Nat) : Runs (wellFormed (.refreshEnd t)) k (execRefreshEnd t s) := by
  unfold execRefreshEnd
  simp only [runs_ite]
  simp [wellFormed, h]

theorem execMr4Poll_runs {k : Kept} {s : State} (h : k.Holds s.kept) (doubled : Bool) :
    Runs (wellFormed (.mr4Poll doubled)) k (execMr4Poll doubled s) := by
  simp [execMr4Poll, wellFormed, h]

theorem execZqCalibration_runs {k : Kept} {s : State} (h : k.Holds s.kept) : Runs (wellFormed .zqCalibration) k (execZqCalibration s) := by
  simp [execZqCalibration, wellFormed, h]

@[simp] theorem State.drainSub_holds {k : Kept} {s : State} (h : k.Holds s.kept) (sc : Nat) : k.Holds (s.drainSub sc).kept := by
  refine State.foldl_holds (fun u q => ?_) _ h
  split <;> simp

@[simp] theorem State.srEnter_holds {k : Kept} {s : State} (h : k.Holds s.kept) : k.Holds s.srEnter.kept := by simp [State.srEnter, h]

@[simp] theorem State.trainStart_holds {k : Kept} {s : State} (h : k.Holds s.kept) (mode : Nat) : k.Holds (s.trainStart mode).kept := by
  unfold State.trainStart
  extract_lets s1 dmc s2
  have hs1 : k.Holds s1.kept := by simp [s1, h]
  refine State.ite_holds (by simp [dmc, hs1]) ?_
  have hs2 : k.Holds s2.kept := by
    apply State.holds_update hs1
    case hdram => exact fun _ => rfl
    all_goals simp
  simp [hs2]

theorem execDramTrainGo_runs {k : Kept} {s : State} (h : k.Holds s.kept) (mode : Nat) :
    Runs (wellFormed (.dramTrainGo mode)) k (execDramTrainGo mode s) := by
  simp [execDramTrainGo, wellFormed, h]

theorem execDmcEnable_runs {k : Kept} {s : State} (h : k.Holds s.kept) : Runs (wellFormed .dmcEnable) k (execDmcEnable s) := by
  simp [execDmcEnable, wellFormed, h]

@[simp] theorem State.trainEnd_holds {k : Kept} {s : State} (h : k.Holds s.kept) (res : TrainRes) : k.Holds (s.trainEnd res).kept := by
  unfold State.trainEnd
  extract_lets mode dmc s1 bad vfail pass s2 dmc3 s3 s4 s5 dmc5 s7 s6
  have hs1 : k.Holds s1.kept := by simp [s1, dmc, h]
  have hs2 : k.Holds s2.kept := by simp [s2, hs1]
  have hs3 : k.Holds s3.kept := by simp [s3, dmc3, hs2]
  have hs5 : k.Holds s5.kept := by simp [s5, hs3]
  have hs6 : k.Holds s6.kept := State.ite_holds (by simp [s7, dmc5, hs5]) hs5
  clear_value bad
  split
  · simp [hs2]
  · refine State.ite_holds hs2 (State.ite_holds ?_ ?_)
    · simp [s4, hs3]
    · simp [hs6]

theorem execDramInitPass_runs {k : Kept} {s : State} (h : k.Holds s.kept) (lines : Nat) :
    Runs (wellFormed (.dramInitPass lines)) k (execDramInitPass lines s) := by
  simp [execDramInitPass, wellFormed, h]

theorem execWriteCrcAlert_runs {k : Kept} {s : State} (h : k.Holds s.kept) (sc : Nat) (lines : List Nat) (replayed : Bool) :
    Runs (wellFormed (.writeCrcAlert sc lines replayed)) k (execWriteCrcAlert sc lines replayed s) := by
  refine Runs.guard (by simp [wellFormed, isSub]) ?_
  simp [h]

theorem execMemSettings_runs {k : Kept} {s : State} (h : k.Holds s.kept) (m : Nat) : Runs (wellFormed (.memSettings m)) k (execMemSettings m s) :=
  kmiCommand_runs h fun cmd u hu => by simp [hu]

theorem execDramRead_runs {k : Kept} {s : State} (h : k.Holds s.kept) (m : Nat) : Runs (wellFormed (.dramRead m)) k (execDramRead m s) :=
  kmiCommand_runs h fun cmd u hu => by simp [hu]

theorem execDramWrite_runs {k : Kept} {s : State} (h : k.Holds s.kept) (m : Nat) : Runs (wellFormed (.dramWrite m)) k (execDramWrite m s) :=
  kmiCommand_runs h fun cmd u hu => by simp [hu]

theorem execDramTrain_runs {k : Kept} {s : State} (h : k.Holds s.kept) (m : Nat) : Runs (wellFormed (.dramTrain m)) k (execDramTrain m s) :=
  kmiCommand_runs h fun cmd u hu => by simp [hu]

/-! ### Ingest -/

theorem execLaneEnable_runs {k : Kept} {s : State} (h : k.Holds s.kept) (lane : Nat) (rx tx : Bool) :
    Runs (wellFormed (.laneEnable lane rx tx)) k (execLaneEnable lane rx tx s) := by
  refine Runs.guard (by simp [wellFormed, isLane]) ?_
  simp [h]

theorem execCdrLock_runs {k : Kept} {s : State} (h : k.Holds s.kept) (lane : Nat) : Runs (wellFormed (.cdrLock lane)) k (execCdrLock lane s) := by
  refine Runs.guard (by simp [wellFormed, isLane]) ?_
  simp [h]

theorem execLasEnable_runs {k : Kept} {s : State} (h : k.Holds s.kept) (la t : Nat) :
    Runs (wellFormed (.lasEnable la t)) k (execLasEnable la t s) := by
  refine Runs.guard (by simp [wellFormed, isLa]) ?_
  simp [h]

theorem execDeskewMarker_runs {k : Kept} {s : State} (h : k.Holds s.kept) (la lane : Nat) (mark : MarkRx) :
    Runs (wellFormed (.deskewMarker la lane mark)) k (execDeskewMarker la lane mark s) := by
  refine Runs.guard (by simp [wellFormed, isLa]) ?_
  simp [h]

theorem execWordLock_runs {k : Kept} {s : State} (h : k.Holds s.kept) (rx : LaneRx) : Runs (wellFormed (.wordLock rx)) k (execWordLock rx s) := by
  refine Runs.guard (by simp [wellFormed, isLane]) ?_
  simp [h]

theorem execIngLaneDown_runs {k : Kept} {s : State} (h : k.Holds s.kept) (rx : LaneRx) (refPresent : Bool) :
    Runs (wellFormed (.ingLaneDown rx refPresent)) k (execIngLaneDown rx refPresent s) := by
  refine Runs.guard (by simp [wellFormed, isLane]) ?_
  simp [h]

theorem execIngestPacket_runs {k : Kept} {s : State} (h : k.Holds s.kept) (la : Nat) (lanes : List (List Nat)) (t tEnd : Nat) :
    Runs (wellFormed (.ingestPacket la lanes t tEnd)) k (execIngestPacket la lanes t tEnd s) := by
  refine Runs.guard (by simp [wellFormed, isLa]) ?_
  simp [h]

theorem execRecordBlockPoll_runs {k : Kept} {s : State} (h : k.Holds s.kept) (la : Nat) :
    Runs (wellFormed (.recordBlockPoll la)) k (execRecordBlockPoll la s) := by
  refine Runs.guard (by simp [wellFormed, isLa]) ?_
  simp [h]

theorem execTransmitPacket_runs {k : Kept} {s : State} (h : k.Holds s.kept) (la : Nat) :
    Runs (wellFormed (.transmitPacket la)) k (execTransmitPacket la s) := by
  refine Runs.guard (by simp [wellFormed, isLa]) ?_
  simp only [runs_ite]
  split
  · simp [h]
  · split
    · simp [h]
    · split <;> simp [h]

theorem execLineFill_runs {k : Kept} {s : State} (h : k.Holds s.kept) (la rowsInTime : Nat) :
    Runs (wellFormed (.lineFill la rowsInTime)) k (execLineFill la rowsInTime s) := by
  refine Runs.guard (by simp [wellFormed, isLa]) ?_
  simp only [runs_ite]
  split
  · simp [h]
  · split <;> simp [h]

theorem execSideRecv_runs {k : Kept} {s : State} (h : k.Holds s.kept) (m : Nat) : Runs (wellFormed (.sideRecv m)) k (execSideRecv m s) :=
  kmiCommand_runs h fun cmd u hu => by simp [hu]

theorem execSideSend_runs {k : Kept} {s : State} (h : k.Holds s.kept) (m : Nat) : Runs (wellFormed (.sideSend m)) k (execSideSend m s) :=
  kmiCommand_runs h fun cmd u hu => by simp [hu]

/-! ### Io -/

theorem execPinAssign_runs {k : Kept} {s : State} (h : k.Holds s.kept) (m : Nat) : Runs (wellFormed (.pinAssign m)) k (execPinAssign m s) :=
  kmiCommand_runs h fun cmd u hu => by simp [hu]

theorem execVioFault_runs {k : Kept} {s : State} (h : k.Holds s.kept) (bank : Nat) : Runs (wellFormed (.vioFault bank)) k (execVioFault bank s) := by
  refine Runs.guard (by simp [wellFormed, isIoBank]) ?_
  simp [h]

theorem execVioOk_runs {k : Kept} {s : State} (h : k.Holds s.kept) (bank : Nat) : Runs (wellFormed (.vioOk bank)) k (execVioOk bank s) := by
  refine Runs.guard (by simp [wellFormed, isIoBank]) ?_
  simp [h]

theorem execTimerPulse_runs {k : Kept} {s : State} (h : k.Holds s.kept) (tim t : Nat) :
    Runs (wellFormed (.timerPulse tim t)) k (execTimerPulse tim t s) := by
  refine Runs.guard (by simp [wellFormed, isTimer]) ?_
  split <;> simp [h]

theorem execTimerCapture_runs {k : Kept} {s : State} (h : k.Holds s.kept) (tim t : Nat) (rising : Bool) :
    Runs (wellFormed (.timerCapture tim t rising)) k (execTimerCapture tim t rising s) := by
  refine Runs.guard (by simp [wellFormed, isTimer]) ?_
  simp [h]

theorem execPeriphXfer_runs {k : Kept} {s : State} (h : k.Holds s.kept) (m : Nat) : Runs (wellFormed (.periphXfer m)) k (execPeriphXfer m s) :=
  kmiCommand_runs h fun cmd u hu => by simp [hu]

theorem execPeriphXferDone_runs {k : Kept} {s : State} (h : k.Holds s.kept) (c : Nat) (rx : List Nat) (nack : Option Nat) :
    Runs (wellFormed (.periphXferDone c rx nack)) k (execPeriphXferDone c rx nack s) := by
  refine Runs.guard (by simp [wellFormed, isCtl]) ?_
  split
  · simp [h]
  · dsimp only
    split <;> simp [h]

/-! ### Routing -/

theorem execFpllLockLoss_runs {k : Kept} {s : State} (h : k.Holds s.kept) (pll : Nat) :
    Runs (wellFormed (.fpllLockLoss pll)) k (execFpllLockLoss pll s) := by
  refine Runs.guard (by simp [wellFormed, isPll]) ?_
  simp [h]

theorem execDistributedRamWrite_runs {k : Kept} {s : State} (h : k.Holds s.kept) (room tile slice : Nat) (inp : SliceIn) :
    Runs (wellFormed (.distributedRamWrite room tile slice inp)) k (execDistributedRamWrite room tile slice inp s) := by
  refine Runs.guard (by simp [wellFormed, isRoom, isTile, Bool.and_assoc]) ?_
  simp [h]

/-! ### Rings -/

theorem execRingStart_runs {k : Kept} {s : State} (h : k.Holds s.kept) (r : Nat) : Runs (wellFormed (.ringStart r)) k (execRingStart r s) := by
  refine Runs.guard (by simp [wellFormed, isRing]) ?_
  simp [h]

theorem execRingStop_runs {k : Kept} {s : State} (h : k.Holds s.kept) (r : Nat) : Runs (wellFormed (.ringStop r)) k (execRingStop r s) := by
  refine Runs.guard (by simp [wellFormed, isRing]) ?_
  simp [h]

theorem execRingAbort_runs {k : Kept} {s : State} (h : k.Holds s.kept) (r : Nat) : Runs (wellFormed (.ringAbort r)) k (execRingAbort r s) := by
  refine Runs.guard (by simp [wellFormed, isRing]) ?_
  simp [h]

theorem execRingAbortDone_runs {k : Kept} {s : State} (h : k.Holds s.kept) (r : Nat) :
    Runs (wellFormed (.ringAbortDone r)) k (execRingAbortDone r s) := by
  refine Runs.guard (by simp [wellFormed, isRing]) ?_
  simp [h]

theorem execRingDisable_runs {k : Kept} {s : State} (h : k.Holds s.kept) (r : Nat) : Runs (wellFormed (.ringDisable r)) k (execRingDisable r s) := by
  refine Runs.guard (by simp [wellFormed, isRing]) ?_
  simp [h]

theorem execRingCmd_runs {k : Kept} {s : State} (h : k.Holds s.kept) (m : Nat) : Runs (wellFormed (.ringCmd m)) k (execRingCmd m s) :=
  kmiCommand_runs h fun cmd u hu => by
    dsimp only
    split <;> simp [hu]

theorem execF2hTransfer_runs {k : Kept} {s : State} (h : k.Holds s.kept) (room port slot : Nat) (words : List (Nat × Nat)) (last writesDone : Bool) :
    Runs (wellFormed (.f2hTransfer room port slot words last writesDone)) k (execF2hTransfer room port slot words last writesDone s) := by
  refine Runs.guard (by simp [wellFormed, isRoom, isPort, Bool.and_assoc]) ?_
  simp [h]

theorem execDramCopyTransfer_runs {k : Kept} {s : State} (h : k.Holds s.kept) (room port : Nat) (slot word : Nat) (readErr writesDone : Bool) :
    Runs (wellFormed (.dramCopyTransfer room port slot word readErr writesDone)) k
      (execDramCopyTransfer room port slot word readErr writesDone s) := by
  refine Runs.guard (by simp [wellFormed, isRoom, isPort, Bool.and_assoc]) ?_
  simp only [runs_ite]
  split
  · simp [h]
  · split
    · simp [h]
    · split <;> simp [h]

theorem execDescriptorFetch_runs {k : Kept} {s : State} (h : k.Holds s.kept) (r err : Nat) (bytes : List Nat) :
    Runs (wellFormed (.descriptorFetch r err bytes)) k (execDescriptorFetch r err bytes s) := by
  refine Runs.guard (by simp [wellFormed, isRing]) ?_
  simp [h]

theorem execDelayedPost_runs {k : Kept} {s : State} (h : k.Holds s.kept) (r : Nat) : Runs (wellFormed (.delayedPost r)) k (execDelayedPost r s) := by
  refine Runs.guard (by simp [wellFormed, isRing]) ?_
  extract_lets finish r0
  split
  · simp [h]
  · split <;> simp [h]

theorem execHostReadCompletion_runs {k : Kept} {s : State} (h : k.Holds s.kept) (r kind : Nat) (data : List Nat) :
    Runs (wellFormed (.hostReadCompletion r kind data)) k (execHostReadCompletion r kind data s) := by
  refine Runs.guard (by simp [wellFormed, isRing]) ?_
  refine Runs.ite (by simp [h]) ?_
  extract_lets r0 start
  clear_value start
  cases start <;> simp [h]

theorem execH2fTransfer_runs {k : Kept} {s : State} (h : k.Holds s.kept) (r : Nat) : Runs (wellFormed (.h2fTransfer r)) k (execH2fTransfer r s) := by
  refine Runs.guard (by simp [wellFormed, isRing]) ?_
  split <;> simp [h]

theorem execRoomGone_runs {k : Kept} {s : State} (h : k.Holds s.kept) (room : Nat) : Runs (wellFormed (.roomGone room)) k (execRoomGone room s) := by
  refine Runs.guard (by simp [wellFormed, isRoom]) ?_
  simp [h]

theorem execRingIrqAge_runs {k : Kept} {s : State} (h : k.Holds s.kept) (r t : Nat) :
    Runs (wellFormed (.ringIrqAge r t)) k (execRingIrqAge r t s) := by
  refine Runs.guard (by simp [wellFormed, isRing]) ?_
  simp [h]

/-! ### Windows -/

theorem execWindowAnswer_runs {k : Kept} {s : State} (h : k.Holds s.kept) (room rid : Nat) (data : List Nat) :
    Runs (wellFormed (.windowAnswer room rid data)) k (execWindowAnswer room rid data s) := by
  refine Runs.guard (by simp [wellFormed, isRoom]) ?_
  split <;> simp [h]

theorem execHlkWinTmo_runs {k : Kept} {s : State} (h : k.Holds s.kept) (tmo : WinTmo) :
    Runs (wellFormed (.hlkWinTmo tmo)) k (execHlkWinTmo tmo s) := by
  unfold execHlkWinTmo
  dsimp only
  split <;> simp [wellFormed, h]

/-! ### Planes -/

theorem execLoadOpen_runs {k : Kept} {s : State} (h : k.Holds s.kept) (m : Nat) : Runs (wellFormed (.loadOpen m)) k (execLoadOpen m s) :=
  kmiCommand_runs h fun cmd u hu => by simp [hu]

theorem execLoadData_runs {k : Kept} {s : State} (h : k.Holds s.kept) (m : Nat) : Runs (wellFormed (.loadData m)) k (execLoadData m s) := by
  unfold execLoadData
  generalize ho : kmiCommand 0x0702 m _ s = o
  have ho : Runs (isMbx m) k o := ho ▸ kmiCommand_runs h fun cmd u hu => by
    dsimp only
    split <;> simp [hu]
  cases o with
  | next t => simpa [wellFormed, Runs] using ho
  | fault f => exact ho
  | refused r => exact ho

theorem execFrameGroupProgrammed_runs {k : Kept} {s : State} (h : k.Holds s.kept) (room : Nat) (prog : GroupProg) :
    Runs (wellFormed (.frameGroupProgrammed room prog)) k (execFrameGroupProgrammed room prog s) := by
  refine Runs.guard (by simp [wellFormed, isRoom]) ?_
  repeat' split
  all_goals simp [h]

theorem execLoadClose_runs {k : Kept} {s : State} (h : k.Holds s.kept) (m : Nat) : Runs (wellFormed (.loadClose m)) k (execLoadClose m s) := by
  unfold execLoadClose
  generalize ho : kmiCommand 0x0703 m _ s = o
  have ho : Runs (isMbx m) k o := ho ▸ kmiCommand_runs h fun cmd u hu => by
    dsimp only
    split <;> simp [hu]
  cases o with
  | next t =>
    obtain ⟨hm, ht⟩ := ho
    have hw : wellFormed (.loadClose m) = true := hm
    dsimp only
    split <;> simp [hw, ht]
  | fault f => exact ho
  | refused r => exact ho

theorem execLoadAbort_runs {k : Kept} {s : State} (h : k.Holds s.kept) (m : Nat) : Runs (wellFormed (.loadAbort m)) k (execLoadAbort m s) :=
  kmiCommand_runs h fun cmd u hu => by simp [hu]

theorem execLoadTimeout_runs {k : Kept} {s : State} (h : k.Holds s.kept) : Runs (wellFormed .loadTimeout) k (execLoadTimeout s) := by
  unfold execLoadTimeout
  split <;> simp [wellFormed, h]

/-! ### Changeover -/

theorem execStage_runs {k : Kept} {s : State} (h : k.Holds s.kept) (m : Nat) : Runs (wellFormed (.stage m)) k (execStage m s) := by
  unfold execStage
  generalize ho : kmiCommand 0x0705 m _ s = o
  have ho : Runs (isMbx m) k o := ho ▸ kmiCommand_runs h fun cmd u hu => by simp [hu]
  cases o with
  | next t => simpa [wellFormed, Runs] using ho
  | fault f => exact ho
  | refused r => exact ho

theorem execStagingGroup_runs {k : Kept} {s : State} (h : k.Holds s.kept) (room t : Nat) (bad : Option Nat) :
    Runs (wellFormed (.stagingGroup room t bad)) k (execStagingGroup room t bad s) := by
  refine Runs.guard (by simp [wellFormed, isRoom]) ?_
  simp only [runs_ite]
  split
  · simp [h]
  · split <;> simp [h]

theorem execReadbackDone_runs {k : Kept} {s : State} (h : k.Holds s.kept) (bad : Option (Nat × Nat)) :
    Runs (wellFormed (.readbackDone bad)) k (execReadbackDone bad s) := by
  unfold execReadbackDone
  repeat' split
  all_goals simp [wellFormed, h]

@[simp] theorem State.coCommand_keeps {k : Kept} {s : State} (h : k.Holds s.kept) (m t itin : Nat) (rb : Bool) :
    (s.coCommand m t itin rb).Keeps k := by
  unfold State.coCommand
  repeat' split
  all_goals simp [h]

theorem execChangeover_runs {k : Kept} {s : State} (h : k.Holds s.kept) (m : Nat) : Runs (wellFormed (.changeover m)) k (execChangeover m s) := by
  unfold execChangeover
  generalize ho : kmiCommand 0x0706 m _ s = o
  have ho : Runs (isMbx m) k o := ho ▸ kmiCommand_runs h fun cmd u hu => State.coCommand_keeps hu ..
  cases o with
  | next t => simpa [wellFormed, Runs] using ho
  | fault f => exact ho
  | refused r => exact ho

theorem execRollback_runs {k : Kept} {s : State} (h : k.Holds s.kept) (m : Nat) : Runs (wellFormed (.rollback m)) k (execRollback m s) := by
  unfold execRollback
  generalize ho : kmiCommand 0x0707 m _ s = o
  have ho : Runs (isMbx m) k o := ho ▸ kmiCommand_runs h fun cmd u hu => State.coCommand_keeps hu ..
  cases o with
  | next t => simpa [wellFormed, Runs] using ho
  | fault f => exact ho
  | refused r => exact ho

theorem execCancelCo_runs {k : Kept} {s : State} (h : k.Holds s.kept) (m : Nat) : Runs (wellFormed (.cancelCo m)) k (execCancelCo m s) :=
  kmiCommand_runs h fun cmd u hu => by simp [hu]

theorem execCoSlotArm_runs {k : Kept} {s : State} (h : k.Holds s.kept) (j : Nat) : Runs (wellFormed (.coSlotArm j)) k (execCoSlotArm j s) := by
  refine Runs.guard (by simp [wellFormed, isSlot]) ?_
  simp [h]

theorem execCoSlotFree_runs {k : Kept} {s : State} (h : k.Holds s.kept) (j : Nat) : Runs (wellFormed (.coSlotFree j)) k (execCoSlotFree j s) := by
  refine Runs.guard (by simp [wellFormed, isSlot]) ?_
  simp [h]

theorem execHandoverBlockWorkDone_runs {k : Kept} {s : State} (h : k.Holds s.kept) (room work : Nat) :
    Runs (wellFormed (.handoverBlockWorkDone room work)) k (execHandoverBlockWorkDone room work s) := by
  refine Runs.guard (by simp [wellFormed, isRoom]) ?_
  repeat' split
  all_goals simp [h]

@[simp] theorem State.itinWrite_holds {k : Kept} {s : State} (h : k.Holds s.kept) (save : Bool) :
    k.Holds (s.itinWrite save).kept := by simp [State.itinWrite, h]

theorem execSelectWordProgram_runs {k : Kept} {s : State} (h : k.Holds s.kept) (t : Nat) :
    Runs (wellFormed (.selectWordProgram t)) k (execSelectWordProgram t s) := by
  unfold execSelectWordProgram
  have hs1 : k.Holds (s.setNow t).kept := by simp [h]
  generalize s.setNow t = s1 at hs1 ⊢
  simp [wellFormed, hs1]

theorem execIobSave_runs {k : Kept} {s : State} (h : k.Holds s.kept) : Runs (wellFormed .iobSave) k (execIobSave s) := by
  simp [execIobSave, wellFormed, h]

theorem execFpllRelock_runs {k : Kept} {s : State} (h : k.Holds s.kept) (pll us : Nat) :
    Runs (wellFormed (.fpllRelock pll us)) k (execFpllRelock pll us s) := by
  refine Runs.guard (by simp [wellFormed, isPll]) ?_
  simp [h]

theorem execRoomPowerOff_runs {k : Kept} {s : State} (h : k.Holds s.kept) (room : Nat) :
    Runs (wellFormed (.roomPowerOff room)) k (execRoomPowerOff room s) := by
  refine Runs.guard (by simp [wellFormed, isRoom]) ?_
  simp [h]

theorem execRoomPowerOn_runs {k : Kept} {s : State} (h : k.Holds s.kept) (room : Nat) :
    Runs (wellFormed (.roomPowerOn room)) k (execRoomPowerOn room s) := by
  refine Runs.guard (by simp [wellFormed, isRoom]) ?_
  simp [h]

theorem execConfigStatus_runs {k : Kept} {s : State} (h : k.Holds s.kept) (m : Nat) : Runs (wellFormed (.configStatus m)) k (execConfigStatus m s) :=
  kmiCommand_runs h fun cmd u hu => by simp [hu]

/-! ### HostLink -/

theorem execCfgReady_runs {k : Kept} {s : State} (h : k.Holds s.kept) (t us : Nat) (readBad : Bool) :
    Runs (wellFormed (.cfgReady t us readBad)) k (execCfgReady t us readBad s) := by
  simp [execCfgReady, wellFormed, h]

theorem execLinkTrained_runs {k : Kept} {s : State} (h : k.Holds s.kept) (rate width : Nat) (flit : Bool) (enum : HostEnum) (vfEnable pmeEn : Bool) :
    Runs (wellFormed (.linkTrained rate width flit enum vfEnable pmeEn)) k (execLinkTrained rate width flit enum vfEnable pmeEn s) := by
  simp [execLinkTrained, wellFormed, h]

theorem execHlkRetrain_runs {k : Kept} {s : State} (h : k.Holds s.kept) : Runs (wellFormed .hlkRetrain) k (execHlkRetrain s) := by
  simp [execHlkRetrain, wellFormed, h]

theorem execHostLinkStepFail_runs {k : Kept} {s : State} (h : k.Holds s.kept) : Runs (wellFormed .hostLinkStepFail) k (execHostLinkStepFail s) := by
  unfold execHostLinkStepFail
  extract_lets s1
  have hs1 : k.Holds s1.kept := State.journalWrite_holds h ..
  split
  · exact ⟨rfl, h⟩
  · split
    exact ⟨rfl, State.settingsWrite_holds hs1 ..⟩

theorem execLinkPowerState_runs {k : Kept} {s : State} (h : k.Holds s.kept) (lpm : Nat) :
    Runs (wellFormed (.linkPowerState lpm)) k (execLinkPowerState lpm s) := by
  simp [execLinkPowerState, wellFormed, h]

theorem execHdmCommit_runs {k : Kept} {s : State} (h : k.Holds s.kept) (base size : Nat) (ways skip : Nat) :
    Runs (wellFormed (.hdmCommit base size ways skip)) k (execHdmCommit base size ways skip s) := by
  simp [execHdmCommit, wellFormed, h]

theorem execCxlMemRequest_runs {k : Kept} {s : State} (h : k.Holds s.kept) (hpa : Nat) (write : Option (List Nat)) (poison : Bool)
    (readErr tag : Nat) :
    Runs (wellFormed (.cxlMemRequest hpa write poison readErr tag)) k (execCxlMemRequest hpa write poison readErr tag s) := by
  unfold execCxlMemRequest
  refine Runs.ite (by simp [wellFormed, h]) ?_
  have hs1 : k.Holds (s.linkFault readErr).kept := by simp [h]
  generalize s.linkFault readErr = s1 at hs1 ⊢
  refine Runs.ite (by simp [wellFormed, hs1]) ?_
  have hs2 : k.Holds (if s1.get PWR_STATE_CUR = 2 then s1.srExit else s1).kept := by split <;> simp [hs1]
  generalize (if s1.get PWR_STATE_CUR = 2 then s1.srExit else s1) = s2 at hs2 ⊢
  refine Runs.ite (by simp [wellFormed, hs2]) ?_
  extract_lets off page hlk2 s3 hlk3 s4 dpa s5
  have hs3 : k.Holds s3.kept := by simp [s3, hlk2, hs2]
  have hs4 : k.Holds s4.kept := by
    unfold s4
    split
    · simp [hlk3, hs3]
    · exact hs3
  split <;> simp [wellFormed, s5, hs4]

theorem execH2dSnoop_runs {k : Kept} {s : State} (h : k.Holds s.kept) (x0 addr : Nat) :
    Runs (wellFormed (.h2dSnoop x0 addr)) k (execH2dSnoop x0 addr s) := by
  simp [execH2dSnoop, wellFormed, h]

theorem execBiasFlipStart_runs {k : Kept} {s : State} (h : k.Holds s.kept) (page : Nat) :
    Runs (wellFormed (.biasFlipStart page)) k (execBiasFlipStart page s) := by
  simp [execBiasFlipStart, wellFormed, h]

theorem execBiasFlipDone_runs {k : Kept} {s : State} (h : k.Holds s.kept) : Runs (wellFormed .biasFlipDone) k (execBiasFlipDone s) := by
  unfold execBiasFlipDone
  split <;> simp [wellFormed, h]

theorem execBiasFlip_runs {k : Kept} {s : State} (h : k.Holds s.kept) (m : Nat) : Runs (wellFormed (.biasFlip m)) k (execBiasFlip m s) :=
  kmiCommand_runs h fun cmd u hu => by simp [hu]

theorem execHdmSet_runs {k : Kept} {s : State} (h : k.Holds s.kept) (m : Nat) : Runs (wellFormed (.hdmSet m)) k (execHdmSet m s) :=
  kmiCommand_runs h fun cmd u hu => by simp [hu]

theorem execHostSettings_runs {k : Kept} {s : State} (h : k.Holds s.kept) (m : Nat) : Runs (wellFormed (.hostSettings m)) k (execHostSettings m s) :=
  kmiCommand_runs h fun cmd u hu => by simp [hu]

theorem execFundamentalReset_runs {k : Kept} {s : State} (h : k.Holds s.kept) : Runs (wellFormed .fundamentalReset) k (execFundamentalReset s) := by
  simp [execFundamentalReset, wellFormed, h]

theorem execHotReset_runs {k : Kept} {s : State} (h : k.Holds s.kept) : Runs (wellFormed .hotReset) k (execHotReset s) := by
  simp [execHotReset, wellFormed, h]

theorem execCxlReset_runs {k : Kept} {s : State} (h : k.Holds s.kept) : Runs (wellFormed .cxlReset) k (execCxlReset s) := by
  simp [execCxlReset, wellFormed, h]

theorem execFlrPf0_runs {k : Kept} {s : State} (h : k.Holds s.kept) : Runs (wellFormed .flrPf0) k (execFlrPf0 s) := by
  simp [execFlrPf0, wellFormed, h]

theorem execFlrPf1_runs {k : Kept} {s : State} (h : k.Holds s.kept) : Runs (wellFormed .flrPf1) k (execFlrPf1 s) := by
  simp [execFlrPf1, wellFormed, h]

theorem execFlrVf_runs {k : Kept} {s : State} (h : k.Holds s.kept) (v : Nat) : Runs (wellFormed (.flrVf v)) k (execFlrVf v s) := by
  refine Runs.guard ?_ (by simp [h])
  simp [wellFormed, Nat.one_le_iff_ne_zero]

theorem execBusMasterDisable_runs {k : Kept} {s : State} (h : k.Holds s.kept) (fn : Nat) :
    Runs (wellFormed (.busMasterDisable fn)) k (execBusMasterDisable fn s) := by
  refine Runs.guard (by simp [wellFormed, isFn]) ?_
  simp [h]

theorem execPmeTurnOff_runs {k : Kept} {s : State} (h : k.Holds s.kept) : Runs (wellFormed .pmeTurnOff) k (execPmeTurnOff s) := by
  simp [execPmeTurnOff, wellFormed, h]

/-! ### Watchman -/

theorem execWatchmanFrameOp_runs {k : Kept} {s : State} (h : k.Holds s.kept) (room t : Nat) (f : FrameFind) :
    Runs (wellFormed (.watchmanFrameOp room t f)) k (execWatchmanFrameOp room t f s) := by
  refine Runs.guard (by simp [wellFormed, isRoom]) ?_
  have hs1 : k.Holds (s.setNow t).kept := by simp [h]
  generalize s.setNow t = s1 at hs1 ⊢
  simp only [runs_ite]
  split
  · simp [hs1]
  · split
    · simp [hs1]
    · split
      · simp [hs1]
      · simp [hs1]

theorem execReloadPlaneRead_runs {k : Kept} {s : State} (h : k.Holds s.kept) (room : Nat) :
    Runs (wellFormed (.reloadPlaneRead room)) k (execReloadPlaneRead room s) := by
  refine Runs.guard (by simp [wellFormed, isRoom]) ?_
  simp [h]

theorem execReloadWrite_runs {k : Kept} {s : State} (h : k.Holds s.kept) (room t : Nat) :
    Runs (wellFormed (.reloadWrite room t)) k (execReloadWrite room t s) := by
  refine Runs.guard (by simp [wellFormed, isRoom]) ?_
  dsimp only
  split <;> simp [h]

theorem execPacingCredit_runs {k : Kept} {s : State} (h : k.Holds s.kept) (room t : Nat) :
    Runs (wellFormed (.pacingCredit room t)) k (execPacingCredit room t s) := by
  refine Runs.guard (by simp [wellFormed, isRoom]) ?_
  simp [h]

theorem execWchStarved_runs {k : Kept} {s : State} (h : k.Holds s.kept) (room t : Nat) :
    Runs (wellFormed (.wchStarved room t)) k (execWchStarved room t s) := by
  refine Runs.guard (by simp [wellFormed, isRoom]) ?_
  dsimp only
  split <;> simp [h]

@[simp] theorem State.marginBegin_holds {k : Kept} {s : State} (h : k.Holds s.kept) (go : Bool) : k.Holds (s.marginBegin go).kept := by
  unfold State.marginBegin
  rw [State.set_kept]
  apply State.holds_update h <;> simp

@[simp] theorem State.marginPeriodic_holds {k : Kept} {s : State} (h : k.Holds s.kept) :
    k.Holds s.marginPeriodic.kept := by simp [State.marginPeriodic, h]

@[simp] theorem State.marginCheck_holds {k : Kept} {s : State} (h : k.Holds s.kept) : k.Holds s.marginCheck.kept := by
  unfold State.marginCheck
  extract_lets cfg s1
  have hs1 : k.Holds s1.kept := by simp [s1, cfg, h]
  exact State.ite_holds (State.ite_holds (State.marginPeriodic_holds hs1) hs1) h

theorem execMarginPassPeriodic_runs {k : Kept} {s : State} (h : k.Holds s.kept) (t : Nat) :
    Runs (wellFormed (.marginPassPeriodic t)) k (execMarginPassPeriodic t s) := by
  unfold execMarginPassPeriodic
  have hs1 : k.Holds (s.setNow t).kept := by simp [h]
  generalize s.setNow t = s1 at hs1 ⊢
  dsimp only
  split <;> simp [wellFormed, hs1]

theorem execMarginPassGo_runs {k : Kept} {s : State} (h : k.Holds s.kept) : Runs (wellFormed .marginPassGo) k (execMarginPassGo s) := by
  simp [execMarginPassGo, wellFormed, h]

theorem execMarginReadGroup_runs {k : Kept} {s : State} (h : k.Holds s.kept) (room : Nat) (finds : List MarginFind) :
    Runs (wellFormed (.marginReadGroup room finds)) k (execMarginReadGroup room finds s) := by
  refine Runs.guard (by simp [wellFormed, isRoom]) ?_
  simp [h]

theorem execWatchmanTmrScrub_runs {k : Kept} {s : State} (h : k.Holds s.kept) (fixes : Nat) :
    Runs (wellFormed (.watchmanTmrScrub fixes)) k (execWatchmanTmrScrub fixes s) := by
  simp [execWatchmanTmrScrub, wellFormed, h]

theorem execRamMapRebuild_runs {k : Kept} {s : State} (h : k.Holds s.kept) (room bank : Nat) (ended : Bool) :
    Runs (wellFormed (.ramMapRebuild room bank ended)) k (execRamMapRebuild room bank ended s) := by
  refine Runs.guard (by simp [wellFormed, isRoom]) ?_
  simp [h]

@[simp] theorem State.softRst_holds {k : Kept} {s : State} (h : k.Holds s.kept) : k.Holds s.softRst.kept := by
  unfold State.softRst
  rw [State.passBegin_kept]
  apply State.holds_update h <;> simp

theorem execHeartbeatCheck_runs {k : Kept} {s : State} (h : k.Holds s.kept) (t : Nat) :
    Runs (wellFormed (.heartbeatCheck t)) k (execHeartbeatCheck t s) := by
  unfold execHeartbeatCheck
  have hs1 : k.Holds (s.setNow t).kept := by simp [h]
  generalize s.setNow t = s1 at hs1 ⊢
  simp [wellFormed, hs1]

theorem execWatchmanSoftRst_runs {k : Kept} {s : State} (h : k.Holds s.kept) : Runs (wellFormed .watchmanSoftRst) k (execWatchmanSoftRst s) := by
  simp [execWatchmanSoftRst, wellFormed, h]

theorem execWatchmanSample_runs {k : Kept} {s : State} (h : k.Holds s.kept) (pass : Bool) :
    Runs (wellFormed (.watchmanSample pass)) k (execWatchmanSample pass s) := by
  simp [execWatchmanSample, wellFormed, h]

theorem execWatchmanForce_runs {k : Kept} {s : State} (h : k.Holds s.kept) : Runs (wellFormed .watchmanForce) k (execWatchmanForce s) := by
  simp [execWatchmanForce, wellFormed, h]

/-! ### Power -/

@[simp] theorem State.partStop_holds {k : Kept} {s : State} (h : k.Holds s.kept) (target p : Nat) : k.Holds (s.partStop target p).kept := by
  unfold State.partStop
  split <;> simp [h]

theorem execPowerDecision_runs {k : Kept} {s : State} (h : k.Holds s.kept) (t : Nat) (portsIdle : Bool) :
    Runs (wellFormed (.powerDecision t portsIdle)) k (execPowerDecision t portsIdle s) := by
  unfold execPowerDecision
  have hs1 : k.Holds (s.setNow t).pwrShow.kept := by simp [h]
  generalize (s.setNow t).pwrShow = s1 at hs1 ⊢
  dsimp only
  generalize (if (s1.flag TCK_CTRL_EN && s1.get TCK_STATUS_STATE != 4 && s1.tick.tickOpen) = true then s1.tick.rest else true) = mayDecide
  split
  · simp [wellFormed, hs1]
  · split <;> simp [wellFormed, hs1]

theorem execVoteStop_runs {k : Kept} {s : State} (h : k.Holds s.kept) (t : Nat) (busy : Bool) :
    Runs (wellFormed (.voteStop t busy)) k (execVoteStop t busy s) := by
  unfold execVoteStop
  dsimp only
  split <;> simp [wellFormed, h]

theorem execVoteBackoffEnd_runs {k : Kept} {s : State} (h : k.Holds s.kept) (t : Nat) :
    Runs (wellFormed (.voteBackoffEnd t)) k (execVoteBackoffEnd t s) := by
  unfold execVoteBackoffEnd
  dsimp only
  split <;> simp [wellFormed, h]

theorem execPwrLimit_runs {k : Kept} {s : State} (h : k.Holds s.kept) (m : Nat) : Runs (wellFormed (.pwrLimit m)) k (execPwrLimit m s) :=
  kmiCommand_runs h fun cmd u hu => by simp [hu]

@[simp] theorem State.roomsDone_holds {k : Kept} {s : State} (h : k.Holds s.kept) : k.Holds s.roomsDone.kept := by simp [State.roomsDone, h]

theorem execPwrRooms_runs {k : Kept} {s : State} (h : k.Holds s.kept) (m : Nat) : Runs (wellFormed (.pwrRooms m)) k (execPwrRooms m s) := by
  unfold execPwrRooms
  generalize ho : kmiCommand 0x0904 m _ s = o
  have ho : Runs (isMbx m) k o := ho ▸ kmiCommand_runs h fun cmd u hu => by simp [hu]
  cases o with
  | next t => exact ⟨ho.1, State.roomsDone_holds ho.2⟩
  | fault f => exact ho
  | refused r => exact ho

theorem execPwrWakeReport_runs {k : Kept} {s : State} (h : k.Holds s.kept) (m : Nat) :
    Runs (wellFormed (.pwrWakeReport m)) k (execPwrWakeReport m s) :=
  kmiCommand_runs h fun cmd u hu => by simp [hu]

/-! ### Lifecycle -/

@[simp] theorem State.eraseItin_holds {k : Kept} {s : State} (h : k.Holds s.kept) : k.Holds s.eraseItin.kept := by simp [State.eraseItin, h]

@[simp] theorem State.returnEffects_holds {k : Kept} {s : State} (h : k.Holds s.kept) :
    k.Holds s.returnEffects.kept := by simp [State.returnEffects, h]

@[simp] theorem State.scrapWipe_holds {k : Kept} {s : State} (h : k.Holds s.kept) : k.Holds s.scrapWipe.kept := by
  unfold State.scrapWipe
  extract_lets s1 s2 rows s3 s4 pwr ldg kmi s5
  have hs2 : k.Holds s2.kept := by simp [s2, s1, h]
  have hs3 : k.Holds s3.kept := State.foldl_holds (fun u r => by simp) _ hs2
  have hs4 : k.Holds s4.kept := by
    refine State.ite_holds (State.holds_update hs3 ?_ ?_ ?_ ?_ ?_ ?_ ?_ ?_ ?_ ?_ ?_ ?_ ?_ ?_ ?_ ?_ ?_ ?_ ?_) hs3
    case refine_1 => exact fun _ => rfl
    all_goals exact id
  have hs5 : k.Holds s5.kept := by apply State.holds_update hs4 <;> simp
  simp [hs5]

@[simp] theorem State.lcProgram_holds {k : Kept} {s : State} (h : k.Holds s.kept) (n : Nat) :
    k.Holds (s.lcProgram n).kept := by simp [State.lcProgram, h]

@[simp] theorem State.lcComplete_holds {k : Kept} {s : State} (h : k.Holds s.kept) : k.Holds s.lcComplete.kept := by
  unfold State.lcComplete
  have hw : k.Holds ((s.lcProgram 5).scrapWipe).kept := by simp [h]
  have hp (n : Nat) : k.Holds (s.lcProgram n).kept := by simp [h]
  have hr (n : Nat) : k.Holds ((s.lcProgram n).returnEffects).kept := by simp [hp]
  simp [h, hw, hp, hr]

theorem execLcAdvance_runs {k : Kept} {s : State} (h : k.Holds s.kept) (m : Nat) : Runs (wellFormed (.lcAdvance m)) k (execLcAdvance m s) :=
  kmiCommand_runs h fun cmd u hu => by simp [hu]

theorem execScrap_runs {k : Kept} {s : State} (h : k.Holds s.kept) (m : Nat) : Runs (wellFormed (.scrap m)) k (execScrap m s) :=
  kmiCommand_runs h fun cmd u hu => by simp [hu]

@[simp] theorem State.lcNext_holds {k : Kept} {s : State} (h : k.Holds s.kept) (verified : Bool) : k.Holds (s.lcNext verified).kept := by
  unfold State.lcNext
  extract_lets s1
  have hs1 : k.Holds s1.kept := by simp [s1, h]
  clear_value s1
  split
  · exact hs1
  · next c hc =>
    extract_lets is field rekey w
    have hrekey (u : State) (n : Nat) (hu : k.Holds u.kept) : k.Holds (rekey u n).kept := by simp [rekey, hu]
    clear_value rekey is field
    refine State.ite_holds (by simp [hs1]) (State.ite_holds ?_ (State.ite_holds ?_ (by simp [hs1])))
    · split
      · simp [hrekey, hs1]
      · simp [hs1]
      · simp [hs1]
    · simp [hrekey, hs1]

theorem execOtpProgramDone_runs {k : Kept} {s : State} (h : k.Holds s.kept) (verified : Bool) :
    Runs (wellFormed (.otpProgramDone verified)) k (execOtpProgramDone verified s) := by
  unfold execOtpProgramDone
  split <;> simp [wellFormed, h]

theorem execLcStatus_runs {k : Kept} {s : State} (h : k.Holds s.kept) (m : Nat) : Runs (wellFormed (.lcStatus m)) k (execLcStatus m s) :=
  kmiCommand_runs h fun cmd u hu => by simp [hu]

theorem execDebugChallenge_runs {k : Kept} {s : State} (h : k.Holds s.kept) (m : Nat) :
    Runs (wellFormed (.debugChallenge m)) k (execDebugChallenge m s) :=
  kmiCommand_runs h fun cmd u hu => by simp [hu]

theorem execDebugUnlock_runs {k : Kept} {s : State} (h : k.Holds s.kept) (m : Nat) : Runs (wellFormed (.debugUnlock m)) k (execDebugUnlock m s) :=
  kmiCommand_runs h fun cmd u hu => by simp [hu]

theorem execDebugLock_runs {k : Kept} {s : State} (h : k.Holds s.kept) (m : Nat) : Runs (wellFormed (.debugLock m)) k (execDebugLock m s) :=
  kmiCommand_runs h fun cmd u hu => by simp [hu]

theorem execChallengeExpiry_runs {k : Kept} {s : State} (h : k.Holds s.kept) : Runs (wellFormed .challengeExpiry) k (execChallengeExpiry s) := by
  simp [execChallengeExpiry, wellFormed, h]

theorem execKeyProvision_runs {k : Kept} {s : State} (h : k.Holds s.kept) (m : Nat) : Runs (wellFormed (.keyProvision m)) k (execKeyProvision m s) :=
  kmiCommand_runs h fun cmd u hu => by simp [hu]

theorem execFfCapture_runs {k : Kept} {s : State} (h : k.Holds s.kept) (m : Nat) : Runs (wellFormed (.ffCapture m)) k (execFfCapture m s) :=
  kmiCommand_runs h fun cmd u hu => by simp [hu]

theorem execExtest_runs {k : Kept} {s : State} (h : k.Holds s.kept) : Runs (wellFormed .extest) k (execExtest s) := by
  simp [execExtest, wellFormed, h]

theorem execIdcode_runs {k : Kept} {s : State} (h : k.Holds s.kept) : Runs (wellFormed .idcode) k (execIdcode s) := by
  simp [execIdcode, wellFormed, h]

theorem execSamplePreload_runs {k : Kept} {s : State} (h : k.Holds s.kept) (pins : Nat) :
    Runs (wellFormed (.samplePreload pins)) k (execSamplePreload pins s) := by
  simp [execSamplePreload, wellFormed, h]

theorem execJtagClamp_runs {k : Kept} {s : State} (h : k.Holds s.kept) : Runs (wellFormed .jtagClamp) k (execJtagClamp s) := by
  simp [execJtagClamp, wellFormed, h]

theorem execHighz_runs {k : Kept} {s : State} (h : k.Holds s.kept) : Runs (wellFormed .highz) k (execHighz s) := by
  simp [execHighz, wellFormed, h]

theorem execTgtStatus_runs {k : Kept} {s : State} (h : k.Holds s.kept) : Runs (wellFormed .tgtStatus) k (execTgtStatus s) := by
  simp [execTgtStatus, wellFormed, h]

theorem execTgtChallenge_runs {k : Kept} {s : State} (h : k.Holds s.kept) (level : Nat) :
    Runs (wellFormed (.tgtChallenge level)) k (execTgtChallenge level s) := by
  simp [execTgtChallenge, wellFormed, h]

theorem execTgtResponse_runs {k : Kept} {s : State} (h : k.Holds s.kept) (level : Nat) (resp : List Nat) :
    Runs (wellFormed (.tgtResponse level resp)) k (execTgtResponse level resp s) := by
  simp [execTgtResponse, wellFormed, h]

theorem execDbgHalt_runs {k : Kept} {s : State} (h : k.Holds s.kept) (halt : Bool) : Runs (wellFormed (.dbgHalt halt)) k (execDbgHalt halt s) := by
  simp [execDbgHalt, wellFormed, h]

theorem execFfRead_runs {k : Kept} {s : State} (h : k.Holds s.kept) (room tile : Nat) :
    Runs (wellFormed (.ffRead room tile)) k (execFfRead room tile s) := by
  refine Runs.guard (by simp [wellFormed, isRoom, isTile]) ?_
  simp [h]

theorem execFactoryTest_runs {k : Kept} {s : State} (h : k.Holds s.kept) (code : Nat) :
    Runs (wellFormed (.factoryTest code)) k (execFactoryTest code s) := by
  refine Runs.guard (by simp [wellFormed]) ?_
  simp [h]

theorem execBypass_runs {k : Kept} {s : State} (h : k.Holds s.kept) (x0 : Nat) : Runs (wellFormed (.bypass x0)) k (execBypass x0 s) := by
  simp [execBypass, wellFormed, h]

theorem execTrstN_runs {k : Kept} {s : State} (h : k.Holds s.kept) : Runs (wellFormed .trstN) k (execTrstN s) := by
  simp [execTrstN, wellFormed, h]

/-! ### Entry -/

@[simp] theorem State.luggageSave_holds {k : Kept} {s : State} (h : k.Holds s.kept) (target : Nat) : k.Holds (s.luggageSave target).kept := by
  unfold State.luggageSave
  extract_lets seq m s1
  have hs1 : k.Holds s1.kept := by simp [s1, h]
  apply State.holds_update hs1 <;> simp

@[simp] theorem State.domainsOff_holds {k : Kept} {s : State} (h : k.Holds s.kept) (target : Nat) : k.Holds (s.domainsOff target).kept := by
  unfold State.domainsOff
  extract_lets rooms pwr fab s0 s1 s2 s3 s4 wch s5 s6 boot hlk tick s7
  have hs2 : k.Holds s2.kept := by simp [s2, s1, s0, pwr, fab, h]
  have hs3 : k.Holds s3.kept := State.ite_holds (by simp [hs2]) hs2
  have hs5 : k.Holds s5.kept := by
    have hs4 : k.Holds s4.kept := by simp [s4, hs3]
    apply State.holds_update hs4 <;> simp [wch]
  have hs7 : k.Holds s7.kept := by simp [s7, s6, hs5]
  refine State.ite_holds hs3 (State.ite_holds hs5 ?_)
  simp [hs7]

theorem execEntryCommit_runs {k : Kept} {s : State} (h : k.Holds s.kept) (t : Nat) : Runs (wellFormed (.entryCommit t)) k (execEntryCommit t s) := by
  unfold execEntryCommit
  have hs1 : k.Holds (s.setNow t).kept := by simp [h]
  generalize s.setNow t = s1 at hs1 ⊢
  dsimp only
  split
  · next target hvote =>
    have hs2 : k.Holds ({ s1 with pwr := { s1.pwr with vote := none, entering := some target } }.luggageSave target).kept :=
      State.luggageSave_holds (by simp [hs1]) target
    generalize State.luggageSave _ target = s2 at hs2 ⊢
    simp [wellFormed, hs2]
  · simp [wellFormed, hs1]

/-! ### LedgerBist -/

theorem execLedgerEvent_runs {k : Kept} {s : State} (h : k.Holds s.kept) (code detail t : Nat) :
    Runs (wellFormed (.ledgerEvent code detail t)) k (execLedgerEvent code detail t s) := by
  simp [execLedgerEvent, wellFormed, h]

theorem execLedgerFwCode_runs {k : Kept} {s : State} (h : k.Holds s.kept) (code : Nat) :
    Runs (wellFormed (.ledgerFwCode code)) k (execLedgerFwCode code s) := by
  simp [execLedgerFwCode, wellFormed, h]

theorem execTokenRefill_runs {k : Kept} {s : State} (h : k.Holds s.kept) (code : Nat) :
    Runs (wellFormed (.tokenRefill code)) k (execTokenRefill code s) := by
  simp [execTokenRefill, wellFormed, h]

@[simp] theorem State.archAdvance_holds {k : Kept} {s : State} (h : k.Holds s.kept) : k.Holds s.archAdvance.kept := by simp [State.archAdvance, h]

@[simp] theorem State.archiveOne_holds {k : Kept} {s : State} (h : k.Holds s.kept) (progOk : Bool) : k.Holds (s.archiveOne progOk).kept := by
  unfold State.archiveOne
  have hs1 : k.Holds ({ s with ldg := { s.ldg with archAt := some s.now } } : State).kept := by simp [h]
  generalize ({ s with ldg := { s.ldg with archAt := some s.now } } : State) = s1 at hs1 ⊢
  simp [hs1]

theorem execArchivePage_runs {k : Kept} {s : State} (h : k.Holds s.kept) (progOk : Bool) :
    Runs (wellFormed (.archivePage progOk)) k (execArchivePage progOk s) := by
  unfold execArchivePage
  repeat' split
  all_goals simp [wellFormed, h]

@[simp] theorem archiveAll_holds {k : Kept} {x1 : State} (h : k.Holds x1.kept) (x0 : Nat) : k.Holds (archiveAll x0 x1).kept := by
  induction x0 generalizing x1 with
  | zero => exact h
  | succ n ih =>
    rw [archiveAll]
    split
    · exact h
    · exact ih (State.archiveOne_holds h true)

theorem execLedgerArchive_runs {k : Kept} {s : State} (h : k.Holds s.kept) (m : Nat) :
    Runs (wellFormed (.ledgerArchive m)) k (execLedgerArchive m s) :=
  kmiCommand_runs h fun cmd u hu => by simp [hu]

theorem execLedgerRead_runs {k : Kept} {s : State} (h : k.Holds s.kept) (m : Nat) : Runs (wellFormed (.ledgerRead m)) k (execLedgerRead m s) := by
  exact kmiCommand_runs h fun _ _ hu => hu

theorem execBistRun_runs {k : Kept} {s : State} (h : k.Holds s.kept) (m : Nat) : Runs (wellFormed (.bistRun m)) k (execBistRun m s) :=
  kmiCommand_runs h fun cmd u hu => by simp [hu]

@[simp] theorem State.bistAfter_holds {k : Kept} {s : State} (h : k.Holds s.kept) : k.Holds s.bistAfter.kept := by
  unfold State.bistAfter
  extract_lets bist s1 bist2
  have hs1 : k.Holds s1.kept := by simp [s1, bist, h]
  refine State.ite_holds (by simp [bist2, hs1]) ?_
  split <;> simp [hs1]

theorem execBistGo_runs {k : Kept} {s : State} (h : k.Holds s.kept) (vcoreOk clkOk : Bool) :
    Runs (wellFormed (.bistGo vcoreOk clkOk)) k (execBistGo vcoreOk clkOk s) := by
  simp [execBistGo, wellFormed, h]

@[simp] theorem State.appendPage_holds {k : Kept} {s : State} (h : k.Holds s.kept) (kind count : Nat) (body : List Nat) :
    k.Holds (s.appendPage kind count body).kept := by simp [State.appendPage, h]

@[simp] theorem State.bistEnd_holds {k : Kept} {s : State} (h : k.Holds s.kept) (fails : List BistFail) (other : Nat → Option Nat) (t10us : Nat) :
    k.Holds (s.bistEnd fails other t10us).kept := by
  unfold State.bistEnd
  extract_lets ran incomplete keepArm s0 run bist
  have hs0 : k.Holds s0.kept := State.ite_holds h (by simp [h])
  clear_value s0
  split
  extract_lets res s1 s2 s3 s4
  have hs2 : k.Holds s2.kept := by simp [s2, s1, bist, hs0]
  have hs3 : k.Holds s3.kept := by simp [s3, hs2]
  have hs4 : k.Holds s4.kept := by simp [s4, hs3]
  exact State.ite_holds (by simp [hs0]) (by simp [hs4])

theorem execBistRunDone_runs {k : Kept} {s : State} (h : k.Holds s.kept) (fails : List BistFail) (wakeHeld : Bool) (t10us : Nat) :
    Runs (wellFormed (.bistRunDone fails wakeHeld t10us)) k (execBistRunDone fails wakeHeld t10us s) := by
  simp [execBistRunDone, wellFormed, h]

theorem execBistAbort_runs {k : Kept} {s : State} (h : k.Holds s.kept) : Runs (wellFormed .bistAbort) k (execBistAbort s) := by
  unfold execBistAbort
  split <;> simp [wellFormed, h]

theorem execBistResult_runs {k : Kept} {s : State} (h : k.Holds s.kept) (m : Nat) : Runs (wellFormed (.bistResult m)) k (execBistResult m s) :=
  kmiCommand_runs h fun cmd u hu => by simp [hu]

theorem execRepairCompact_runs {k : Kept} {s : State} (h : k.Holds s.kept) (copy : Nat) :
    Runs (wellFormed (.repairCompact copy)) k (execRepairCompact copy s) := by
  refine Runs.guard (by simp [wellFormed, isPantry]) ?_
  refine Runs.ite (by simp [h]) ?_
  extract_lets a cs s1 s2 gen s3 bist
  have hs2 : k.Holds s2.kept := by simp [s2, s1, h]
  simp [s3, bist, hs2]

/-! ### Milestone -/

theorem execEncoderEdge_runs {k : Kept} {s : State} (h : k.Holds s.kept) (ch : Nat) (a b : Bool) (stamp t : Nat) :
    Runs (wellFormed (.encoderEdge ch a b stamp t)) k (execEncoderEdge ch a b stamp t s) := by
  refine Runs.unit (by simp [wellFormed, isEnc]) ?_
  have hs1 : k.Holds (s.setNow t).kept := by simp [h]
  generalize s.setNow t = s1 at hs1 ⊢
  dsimp only
  split <;> simp [hs1]

theorem execIndexEdge_runs {k : Kept} {s : State} (h : k.Holds s.kept) (ch t : Nat) :
    Runs (wellFormed (.indexEdge ch t)) k (execIndexEdge ch t s) := by
  refine Runs.unit (by simp [wellFormed, isEnc]) ?_
  simp [h]

theorem execEncoderStopped_runs {k : Kept} {s : State} (h : k.Holds s.kept) (ch t : Nat) :
    Runs (wellFormed (.encoderStopped ch t)) k (execEncoderStopped ch t s) := by
  refine Runs.unit (by simp [wellFormed, isEnc]) ?_
  simp [h]

theorem execDivLoad_runs {k : Kept} {s : State} (h : k.Holds s.kept) (t : Nat) : Runs (wellFormed (.divLoad t)) k (execDivLoad t s) := by
  simp [execDivLoad, wellFormed, h]

theorem execTbLock_runs {k : Kept} {s : State} (h : k.Holds s.kept) (t value : Nat) :
    Runs (wellFormed (.tbLock t value)) k (execTbLock t value s) := by
  simp [execTbLock, wellFormed, h]

theorem execTbRefLost_runs {k : Kept} {s : State} (h : k.Holds s.kept) (cause : RefLoss) (t : Nat) :
    Runs (wellFormed (.tbRefLost cause t)) k (execTbRefLost cause t s) := by
  unfold execTbRefLost
  split <;> simp [wellFormed, h]

theorem execTbSet_runs {k : Kept} {s : State} (h : k.Holds s.kept) (t : Nat) : Runs (wellFormed (.tbSet t)) k (execTbSet t s) := by
  simp [execTbSet, wellFormed, h]

theorem execPpsEdge_runs {k : Kept} {s : State} (h : k.Holds s.kept) (t : Nat) (inWindow : Bool) :
    Runs (wellFormed (.ppsEdge t inWindow)) k (execPpsEdge t inWindow s) := by
  simp [execPpsEdge, wellFormed, h]

theorem execTrigPulse_runs {k : Kept} {s : State} (h : k.Holds s.kept) (n : Nat) : Runs (wellFormed (.trigPulse n)) k (execTrigPulse n s) := by
  refine Runs.unit (by simp [wellFormed, isTrig]) ?_
  dsimp only
  split <;> simp [h]

/-! ### StartCore -/

@[simp] theorem State.mgmtReset_holds {k : Kept} {s : State} (h : k.Holds s.kept) : k.Holds s.mgmtReset.kept := by
  unfold State.mgmtReset
  extract_lets z s1 cfg fab pnt bist ldg
  have hs1 : k.Holds s1.kept := by simp [s1, h]
  apply State.holds_update hs1
  case hmbx | hown | htick | hpos | hcap | hgrp | hbanks | hend | hrise => exact fun _ => rfl
  all_goals exact id

@[simp] theorem State.journalOpen_holds {k : Kept} {s : State} (h : k.Holds s.kept) (kind copy : Nat) :
    k.Holds (s.journalOpen kind copy).kept := by simp [State.journalOpen, h]

@[simp] theorem State.stepShadow_holds {k : Kept} {s : State} (h : k.Holds s.kept) : k.Holds s.stepShadow.kept := by simp [State.stepShadow, h]

@[simp] theorem State.stepRepair_holds {k : Kept} {s : State} (h : k.Holds s.kept) : k.Holds s.stepRepair.kept := by simp [State.stepRepair, h]

@[simp] theorem State.stepFirmware_holds {k : Kept} {s : State} (h : k.Holds s.kept) (first : Nat) (ok0 ok1 : Bool) :
    k.Holds (s.stepFirmware first ok0 ok1).2.kept := by simp [State.stepFirmware, h]

@[simp] theorem State.stepDram_holds {k : Kept} {s : State} (h : k.Holds s.kept) : k.Holds s.stepDram.kept := by simp [State.stepDram, h]

@[simp] theorem State.dramDone_holds {k : Kept} {s : State} (h : k.Holds s.kept) (res : TrainRes) :
    k.Holds (s.dramDone res).kept := by simp [State.dramDone, h]

theorem execDramTrainDone_runs {k : Kept} {s : State} (h : k.Holds s.kept) (res : TrainRes) :
    Runs (wellFormed (.dramTrainDone res)) k (execDramTrainDone res s) := by
  simp [execDramTrainDone, wellFormed, h]

@[simp] theorem State.stepItin_holds {k : Kept} {s : State} (h : k.Holds s.kept) : k.Holds s.stepItin.kept := by
  unfold State.stepItin
  split
  · extract_lets fab boot s1
    have hs1 : k.Holds s1.kept := by apply State.holds_update h <;> simp
    simp [hs1]
  · next b hb =>
    extract_lets flags fab cfg boot s1
    have hs1 : k.Holds s1.kept := by apply State.holds_update h <;> simp [cfg]
    simp [hs1]

/-! ### Wake -/

@[simp] theorem State.coldMgmt_holds {k : Kept} {s : State} (h : k.Holds s.kept) : k.Holds s.coldMgmt.kept := by
  unfold State.coldMgmt
  split
  next v0 s0 h0 =>
  have hs0 : s0.kept = s.kept := by simpa [h0] using s.fresh_kept
  split
  next v1 s1 h1 =>
  have hs1 : s1.kept = s0.kept := by simpa [h1] using s0.fresh_kept
  extract_lets gens ok0 ok1 first s2 s3
  have hs2 : k.Holds s2.kept :=
    State.stepRepair_holds (State.stepShadow_holds (State.journalOpen_holds (State.mgmtReset_holds (by rw [hs1, hs0]; exact h)) ..))
  have hs3 : k.Holds s3.kept := State.foldl_holds (fun u m => by simp) _ hs2
  split
  next copy s4 h4 =>
  have hs4 : k.Holds s4.kept := by simpa [h4] using State.stepFirmware_holds hs3 first ok0 ok1
  split <;> simp [hs4]

@[simp] theorem State.coldMem_holds {k : Kept} {s : State} (h : k.Holds s.kept) : k.Holds s.coldMem.kept := by
  unfold State.coldMem
  extract_lets s1 dmc s2
  have hs1 : k.Holds s1.kept := by simp [s1, h]
  have hs2 : k.Holds s2.kept := by apply State.holds_update hs1 <;> simp
  simp [hs2]

@[simp] theorem State.coldIngest_holds {k : Kept} {s : State} (h : k.Holds s.kept) (east : Nat) : k.Holds (s.coldIngest east).kept := by
  unfold State.coldIngest
  extract_lets s1 ing pwr
  have hs1 : k.Holds s1.kept := by simp [s1, h]
  apply State.holds_update hs1 <;> simp [pwr]

@[simp] theorem State.luggageCheck_holds {k : Kept} {s : State} (h : k.Holds s.kept) (bad : Nat) : k.Holds (s.luggageCheck bad).kept := by
  unfold State.luggageCheck
  extract_lets b banks cold mgmt s1 s2 s3 s4 s5 pwr
  have hs1 : k.Holds s1.kept := State.ite_holds (State.coldMgmt_holds h) h
  have hs2 : k.Holds s2.kept := State.ite_holds (State.coldMem_holds hs1) hs1
  have hs3 : k.Holds s3.kept := State.ite_holds (State.coldIngest_holds hs2 _) hs2
  have hs4 : k.Holds s4.kept := State.ite_holds (State.coldIngest_holds hs3 _) hs3
  exact State.foldl_holds (fun u b => by simp) _ (by simp [pwr, s5, hs4])

@[simp] theorem State.wakeStart_holds {k : Kept} {s : State} (h : k.Holds s.kept) (cause t bad : Nat) :
    k.Holds (s.wakeStart cause t bad).kept := by simp [State.wakeStart, h]

@[simp] theorem State.wake_holds {k : Kept} {s : State} (h : k.Holds s.kept) (cause t bad : Nat) : k.Holds (s.wake cause t bad).kept := by
  unfold State.wake
  split
  · simp [h]
  · simp [h]
  · refine State.ite_holds h (State.ite_holds ?_ (State.ite_holds ?_ ?_))
    · simp [h]
    · extract_lets cold pwr s1 hlk
      have hsig : (s.wakeCause cause).pwr.sig.length = s.pwr.sig.length := by
        have hkept := congrArg Kept.units (s.wakeCause_kept cause)
        simp_all [State.kept]
      have hs1 : k.Holds s1.kept := by simp [s1, cold, pwr, hsig, h]
      exact State.ite_holds (by simp [hlk, hs1]) hs1
    · simp [h]

@[simp] theorem State.wakeFree_holds {k : Kept} {s : State} (h : k.Holds s.kept) (cause t : Nat) :
    k.Holds (s.wakeFree cause t).kept := by simp [State.wakeFree, h]

@[simp] theorem State.wakeTick_holds {k : Kept} {s : State} (h : k.Holds s.kept) (src t : Nat) : k.Holds (s.wakeTick src t).kept := by
  unfold State.wakeTick
  split <;> simp [h]

theorem execWake_runs {k : Kept} {s : State} (h : k.Holds s.kept) (cause t badBanks : Nat) :
    Runs (wellFormed (.wake cause t badBanks)) k (execWake cause t badBanks s) := by
  simp [execWake, wellFormed, h]

theorem execScheduledWake_runs {k : Kept} {s : State} (h : k.Holds s.kept) (t : Nat) :
    Runs (wellFormed (.scheduledWake t)) k (execScheduledWake t s) := by
  unfold execScheduledWake
  have hs1 : k.Holds (s.setNow t).kept := by simp [h]
  generalize s.setNow t = s1 at hs1 ⊢
  dsimp only
  split <;> simp [wellFormed, hs1]

theorem execEntryComplete_runs {k : Kept} {s : State} (h : k.Holds s.kept) (t : Nat) :
    Runs (wellFormed (.entryComplete t)) k (execEntryComplete t s) := by
  unfold execEntryComplete
  have hs1 : k.Holds (s.setNow t).kept := by simp [h]
  generalize s.setNow t = s1 at hs1 ⊢
  dsimp only
  split
  · simp [wellFormed, hs1]
  · refine Runs.ite ⟨rfl, hs1⟩ ?_
    split <;> simp [wellFormed, hs1]

theorem execWakeComplete_runs {k : Kept} {s : State} (h : k.Holds s.kept) (t : Nat) :
    Runs (wellFormed (.wakeComplete t)) k (execWakeComplete t s) := by
  unfold execWakeComplete
  have hs1 : k.Holds (s.setNow t).kept := by simp [h]
  generalize s.setNow t = s1 at hs1 ⊢
  dsimp only
  split <;> simp [wellFormed, hs1]

theorem execNightPorterSample_runs {k : Kept} {s : State} (h : k.Holds s.kept) (t : Nat) (pos : List Int) :
    Runs (wellFormed (.nightPorterSample t pos)) k (execNightPorterSample t pos s) := by
  unfold execNightPorterSample
  have hs1 : k.Holds (s.setNow t).kept := by simp [h]
  generalize s.setNow t = s1 at hs1 ⊢
  refine Runs.ite ⟨rfl, hs1⟩ ?_
  extract_lets pwr msu s2 ch d
  have hs2 : k.Holds s2.kept := by apply State.holds_update hs1 <;> simp [pwr, msu]
  simp [wellFormed, hs2]

/-! ### HostAccess -/

@[simp] theorem State.hostWake_holds {k : Kept} {s : State} (h : k.Holds s.kept) (causes : List Nat) (t : Nat) :
    k.Holds (s.hostWake causes t).kept := by simp [State.hostWake, h]

theorem execDoorbell_runs {k : Kept} {s : State} (h : k.Holds s.kept) (fn idx : Nat) (sqPi : Option Nat) (cqWord : Option Nat) (t : Nat) :
    Runs (wellFormed (.doorbell fn idx sqPi cqWord t)) k (execDoorbell fn idx sqPi cqWord t s) := by
  refine Runs.guard (by simp [wellFormed]) ?_
  simp [h]

theorem execWindowRequest_runs {k : Kept} {s : State} (h : k.Holds s.kept) (offset len : Nat) (read : Bool) (data : List Nat) (tag : Nat) :
    Runs (wellFormed (.windowRequest offset len read data tag)) k (execWindowRequest offset len read data tag s) := by
  simp [execWindowRequest, wellFormed, h]

theorem execDStateChange_runs {k : Kept} {s : State} (h : k.Holds s.kept) (fn : Nat) (d3hot : Bool) :
    Runs (wellFormed (.dStateChange fn d3hot)) k (execDStateChange fn d3hot s) := by
  refine Runs.guard (by simp [wellFormed, isFn]) ?_
  simp [h]

theorem execMbxPost_runs {k : Kept} {s : State} (h : k.Holds s.kept) (m : Nat) (cmd : KmiCmd) :
    Runs (wellFormed (.mbxPost m cmd)) k (execMbxPost m cmd s) := by
  refine Runs.guard (by simp [wellFormed, isMbx]) ?_
  simp [h]

theorem execPerstNRelease_runs {k : Kept} {s : State} (h : k.Holds s.kept) (t : Nat) :
    Runs (wellFormed (.perstNRelease t)) k (execPerstNRelease t s) := by
  simp [execPerstNRelease, wellFormed, h]

theorem execGpioIrq_runs {k : Kept} {s : State} (h : k.Holds s.kept) (q : Nat) (x : IrqLevel) :
    Runs (wellFormed (.gpioIrq q x)) k (execGpioIrq q x s) := by
  refine Runs.guard (by simp [wellFormed, isIrq]) ?_
  simp [h]

/-! ### Boundary -/

@[simp] theorem State.eventSeen_holds {k : Kept} {s : State} (h : k.Holds s.kept) (src t : Nat) :
    k.Holds (s.eventSeen src t).kept := by simp [State.eventSeen, h]

@[simp] theorem State.boundary_holds {k : Kept} {s : State} (h : k.Holds s.kept) (tick tor : Nat) (master skew : Nat) :
    k.Holds (s.boundary tick tor master skew).kept := by simp [State.boundary, h]

@[simp] theorem State.mergedEvent_holds {k : Kept} {s : State} (h : k.Holds s.kept) (tick tor master : Nat) :
    k.Holds (s.mergedEvent tick tor master).kept := by simp [State.mergedEvent, h]

@[simp] theorem State.tickEvent_holds {k : Kept} {s : State} (h : k.Holds s.kept) (src tor skew : Nat) :
    k.Holds (s.tickEvent src tor skew).kept := by simp [State.tickEvent, h]

/-! ### Tick -/

theorem execCurfew_runs {k : Kept} {s : State} (h : k.Holds s.kept) (t : Nat) : Runs (wellFormed (.curfew t)) k (execCurfew t s) := by
  simp [execCurfew, wellFormed, h]

theorem execRdone_runs {k : Kept} {s : State} (h : k.Holds s.kept) (room t : Nat) : Runs (wellFormed (.rdone room t)) k (execRdone room t s) := by
  refine Runs.unit (by simp [wellFormed, isRoom]) ?_
  simp [h]

theorem execTickStopped_runs {k : Kept} {s : State} (h : k.Holds s.kept) (t : Nat) : Runs (wellFormed (.tickStopped t)) k (execTickStopped t s) := by
  simp [execTickStopped, wellFormed, h]

theorem execTimerEvent_runs {k : Kept} {s : State} (h : k.Holds s.kept) (t skew : Nat) :
    Runs (wellFormed (.timerEvent t skew)) k (execTimerEvent t skew s) := by
  unfold execTimerEvent
  have hs1 : k.Holds (s.setNow t).kept := by simp [h]
  generalize s.setNow t = s1 at hs1 ⊢
  dsimp only
  split <;> simp [wellFormed, hs1]

theorem execHostTick_runs {k : Kept} {s : State} (h : k.Holds s.kept) (t skew : Nat) :
    Runs (wellFormed (.hostTick t skew)) k (execHostTick t skew s) := by
  simp [execHostTick, wellFormed, h]

theorem execSourceSwitch_runs {k : Kept} {s : State} (h : k.Holds s.kept) (t : Nat) :
    Runs (wellFormed (.sourceSwitch t)) k (execSourceSwitch t s) := by
  simp [execSourceSwitch, wellFormed, h]

theorem execTickEngineEnable_runs {k : Kept} {s : State} (h : k.Holds s.kept) (t : Nat) :
    Runs (wellFormed (.tickEngineEnable t)) k (execTickEngineEnable t s) := by
  simp [execTickEngineEnable, wellFormed, h]

theorem execTickEngineDisable_runs {k : Kept} {s : State} (h : k.Holds s.kept) (t : Nat) :
    Runs (wellFormed (.tickEngineDisable t)) k (execTickEngineDisable t s) := by
  simp [execTickEngineDisable, wellFormed, h]

theorem execEncoderEventDue_runs {k : Kept} {s : State} (h : k.Holds s.kept) (skew : Nat) :
    Runs (wellFormed (.encoderEventDue skew)) k (execEncoderEventDue skew s) := by
  unfold execEncoderEventDue
  split <;> simp [wellFormed, h]

theorem execTickNow_runs {k : Kept} {s : State} (h : k.Holds s.kept) (m : Nat) : Runs (wellFormed (.tickNow m)) k (execTickNow m s) :=
  kmiCommand_runs h fun cmd u hu => by simp [hu]

/-! ### Sync -/

theorem execSyncEnum_runs {k : Kept} {s : State} (h : k.Holds s.kept) : Runs (wellFormed .syncEnum) k (execSyncEnum s) := by
  simp [execSyncEnum, wellFormed, h]

theorem execEnumMessage_runs {k : Kept} {s : State} (h : k.Holds s.kept) (msg : List Nat) :
    Runs (wellFormed (.enumMessage msg)) k (execEnumMessage msg s) := by
  unfold execEnumMessage
  have hs1 : k.Holds (if (s.mcMember false && downGood msg && downType msg == 3) = true then s.set SYC_STAT_HOP (downHop msg + 1) else s).kept := by
    simp [h]
  generalize (if (s.mcMember false && downGood msg && downType msg == 3) = true then s.set SYC_STAT_HOP (downHop msg + 1) else s) = s1 at hs1 ⊢
  dsimp only
  split
  all_goals
    next u hu =>
    have hku : u.kept = s1.kept := by simpa [hu] using s1.receive_kept false 3 msg s1.now
    simp [wellFormed, hku, hs1]

theorem execEnumReply_runs {k : Kept} {s : State} (h : k.Holds s.kept) (msg : List Nat) :
    Runs (wellFormed (.enumReply msg)) k (execEnumReply msg s) := by
  simp [execEnumReply, wellFormed, h]

@[simp] theorem State.joinStart_holds {k : Kept} {s : State} (h : k.Holds s.kept) (tick tor : Nat) (master skew : Nat) :
    k.Holds (s.joinStart tick tor master skew).kept := by simp [State.joinStart, h]

@[simp] theorem State.linkTick_holds {k : Kept} {s : State} (h : k.Holds s.kept) (tw : Bool) (msg : List Nat) (t skew : Nat) :
    k.Holds (s.linkTick tw msg t skew).kept := by simp [State.linkTick, h]

theorem execSyncTickMessage_runs {k : Kept} {s : State} (h : k.Holds s.kept) (twin : Bool) (msg : List Nat) (t skew : Nat) :
    Runs (wellFormed (.syncTickMessage twin msg t skew)) k (execSyncTickMessage twin msg t skew s) := by
  unfold execSyncTickMessage
  split
  all_goals
    next u hu =>
    have hku : u.kept = s.kept := by simpa [hu] using s.receive_kept twin 0 msg t
    simp [wellFormed, hku, h]

@[simp] theorem State.linkMerge_holds {k : Kept} {s : State} (h : k.Holds s.kept) (tw : Bool) (msg : List Nat) (t : Nat) :
    k.Holds (s.linkMerge tw msg t).kept := by simp [State.linkMerge, h]

theorem execSyncMergeMessage_runs {k : Kept} {s : State} (h : k.Holds s.kept) (twin : Bool) (msg : List Nat) (t : Nat) :
    Runs (wellFormed (.syncMergeMessage twin msg t)) k (execSyncMergeMessage twin msg t s) := by
  unfold execSyncMergeMessage
  split
  all_goals
    next u hu =>
    have hku : u.kept = s.kept := by simpa [hu] using s.receive_kept twin 1 msg t
    simp [wellFormed, hku, h]

theorem execSyncStopMessage_runs {k : Kept} {s : State} (h : k.Holds s.kept) (twin : Bool) (msg : List Nat) (t : Nat) :
    Runs (wellFormed (.syncStopMessage twin msg t)) k (execSyncStopMessage twin msg t s) := by
  unfold execSyncStopMessage
  split
  all_goals
    next u hu =>
    have hku : u.kept = s.kept := by simpa [hu] using s.receive_kept twin 4 msg t
    simp [wellFormed, hku, h]

theorem execCalMessage_runs {k : Kept} {s : State} (h : k.Holds s.kept) (twin : Bool) (msg : List Nat) (arrival echoAt : Nat) :
    Runs (wellFormed (.calMessage twin msg arrival echoAt)) k (execCalMessage twin msg arrival echoAt s) := by
  simp [execCalMessage, wellFormed, h]

theorem execCalEcho_runs {k : Kept} {s : State} (h : k.Holds s.kept) (twin : Bool) (msg : List Nat) (launch arrival : Nat) :
    Runs (wellFormed (.calEcho twin msg launch arrival)) k (execCalEcho twin msg launch arrival s) := by
  simp [execCalEcho, wellFormed, h]

theorem execCalSend_runs {k : Kept} {s : State} (h : k.Holds s.kept) (twin : Bool) (t : Nat) :
    Runs (wellFormed (.calSend twin t)) k (execCalSend twin t s) := by
  simp [execCalSend, wellFormed, h]

theorem execStatusMessage_runs {k : Kept} {s : State} (h : k.Holds s.kept) (twin : Bool) (msg : List Nat) (t : Nat) :
    Runs (wellFormed (.statusMessage twin msg t)) k (execStatusMessage twin msg t s) := by
  simp [execStatusMessage, wellFormed, h]

theorem execSyncLinkLost_runs {k : Kept} {s : State} (h : k.Holds s.kept) (twin : Bool) (cause : LinkLoss) (t : Nat) :
    Runs (wellFormed (.syncLinkLost twin cause t)) k (execSyncLinkLost twin cause t s) := by
  simp [execSyncLinkLost, wellFormed, h]

theorem execSyncArm_runs {k : Kept} {s : State} (h : k.Holds s.kept) (m : Nat) : Runs (wellFormed (.syncArm m)) k (execSyncArm m s) :=
  kmiCommand_runs h fun cmd u hu => by
    dsimp only
    repeat' split
    all_goals simp [hu]

theorem execSyncDisarm_runs {k : Kept} {s : State} (h : k.Holds s.kept) (m : Nat) : Runs (wellFormed (.syncDisarm m)) k (execSyncDisarm m s) :=
  kmiCommand_runs h fun cmd u hu => by simp [hu]

theorem execSyncPropose_runs {k : Kept} {s : State} (h : k.Holds s.kept) (m : Nat) : Runs (wellFormed (.syncPropose m)) k (execSyncPropose m s) :=
  kmiCommand_runs h fun cmd u hu => by simp [hu]

theorem execSyncLocal_runs {k : Kept} {s : State} (h : k.Holds s.kept) (m : Nat) : Runs (wellFormed (.syncLocal m)) k (execSyncLocal m s) :=
  kmiCommand_runs h fun cmd u hu => by simp [hu]

/-! ### Twin -/

theorem execLanesUp_runs {k : Kept} {s : State} (h : k.Holds s.kept) (t : Nat) : Runs (wellFormed (.lanesUp t)) k (execLanesUp t s) := by
  simp [execLanesUp, wellFormed, h]

theorem execTwnPartnerLost_runs {k : Kept} {s : State} (h : k.Holds s.kept) (t : Nat) :
    Runs (wellFormed (.twnPartnerLost t)) k (execTwnPartnerLost t s) := by
  simp [execTwnPartnerLost, wellFormed, h]

theorem execTwnSubst_runs {k : Kept} {s : State} (h : k.Holds s.kept) (t skew : Nat) :
    Runs (wellFormed (.twnSubst t skew)) k (execTwnSubst t skew s) := by
  unfold execTwnSubst
  have hs1 : k.Holds (s.setNow t).kept := by simp [h]
  generalize s.setNow t = s1 at hs1 ⊢
  dsimp only
  split
  · simp [wellFormed, hs1]
  · simp [wellFormed, hs1]

theorem execTickRecord_runs {k : Kept} {s : State} (h : k.Holds s.kept) (bytes : List Nat) (t : Nat) :
    Runs (wellFormed (.tickRecord bytes t)) k (execTickRecord bytes t s) := by
  unfold execTickRecord
  split <;> simp [wellFormed, h]

theorem execStatusFrameSend_runs {k : Kept} {s : State} (h : k.Holds s.kept) (t : Nat) :
    Runs (wellFormed (.statusFrameSend t)) k (execStatusFrameSend t s) := by
  simp [execStatusFrameSend, wellFormed, h]

theorem execStatusFrame_runs {k : Kept} {s : State} (h : k.Holds s.kept) (bytes : List Nat) (t : Nat) :
    Runs (wellFormed (.statusFrame bytes t)) k (execStatusFrame bytes t s) := by
  simp [execStatusFrame, wellFormed, h]

theorem execCheckpointDone_runs {k : Kept} {s : State} (h : k.Holds s.kept) (tick : Nat) (data : List Nat) (ue : List Nat)
    (failed : List Nat) (t : Nat) :
    Runs (wellFormed (.checkpointDone tick data ue failed t)) k (execCheckpointDone tick data ue failed t s) := by
  unfold execCheckpointDone
  have hs1 : k.Holds (s.setNow t).kept := by simp [h]
  generalize s.setNow t = s1 at hs1 ⊢
  -- The operation stays closed: the kernel would evaluate it.
  obtain ⟨complete, hdef⟩ : ∃ f, f = State.ckptComplete := ⟨_, rfl⟩
  have hcomplete (u : State) (n : Nat) : (complete u n).kept = u.kept := hdef ▸ State.ckptComplete_kept u n
  rw [← hdef]
  refine Runs.ite ⟨rfl, ?_⟩ ?_
  · rw [hcomplete]
    exact State.foldl_holds (fun u i => by simp) _ hs1
  · split
    · exact ⟨rfl, hs1⟩
    · extract_lets s2 twn s3 twn3
      have hs2 : k.Holds s2.kept := State.ite_holds (by simp [hs1]) hs1
      have hs3 : k.Holds s3.kept := by simp [s3, hcomplete, twn, hs2]
      split
      · exact ⟨rfl, hs3⟩
      · exact ⟨rfl, by simp [twn3, hs3]⟩

theorem execCatchupDone_runs {k : Kept} {s : State} (h : k.Holds s.kept) (data : List Nat) (t : Nat) :
    Runs (wellFormed (.catchupDone data t)) k (execCatchupDone data t s) := by
  simp [execCatchupDone, wellFormed, h]

@[simp] theorem State.twinPropose_keeps {k : Kept} {s : State} (h : k.Holds s.kept) (mode t : Nat) :
    (s.twinPropose mode t).Keeps k := by simp [State.twinPropose, h]

@[simp] theorem State.twinDetach_keeps {k : Kept} {s : State} (h : k.Holds s.kept) (t : Nat) :
    (s.twinDetach t).Keeps k := by simp [State.twinDetach, h]

@[simp] theorem State.twinPair_keeps {k : Kept} {s : State} (h : k.Holds s.kept) (mode t : Nat) (authOk peerOk : Bool) :
    (s.twinPair mode t authOk peerOk).Keeps k := by simp [State.twinPair, h]

theorem execTwinPair_runs {k : Kept} {s : State} (h : k.Holds s.kept) (m : Nat) (authOk peerOk : Bool) :
    Runs (wellFormed (.twinPair m authOk peerOk)) k (execTwinPair m authOk peerOk s) :=
  kmiCommand_runs h fun cmd u hu => by simp [hu]

theorem execTwinDetach_runs {k : Kept} {s : State} (h : k.Holds s.kept) (m : Nat) : Runs (wellFormed (.twinDetach m)) k (execTwinDetach m s) :=
  kmiCommand_runs h fun cmd u hu => by simp [hu]

theorem execTwinRole_runs {k : Kept} {s : State} (h : k.Holds s.kept) (m : Nat) : Runs (wellFormed (.twinRole m)) k (execTwinRole m s) :=
  kmiCommand_runs h fun cmd u hu => by simp [hu]

theorem execTwinArm_runs {k : Kept} {s : State} (h : k.Holds s.kept) (m : Nat) : Runs (wellFormed (.twinArm m)) k (execTwinArm m s) :=
  kmiCommand_runs h fun cmd u hu => by
    dsimp only
    repeat' split
    all_goals simp [hu]

theorem execTwinMcGo_runs {k : Kept} {s : State} (h : k.Holds s.kept) : Runs (wellFormed .twinMcGo) k (execTwinMcGo s) := by
  simp [execTwinMcGo, wellFormed, h]

/-! ### Start -/

@[simp] theorem State.cutStores_holds {k : Kept} {s : State} (h : k.Holds s.kept) : k.Holds s.cutStores.kept := by
  unfold State.cutStores
  extract_lets s1
  have hs1 : k.Holds s1.kept := State.foldl_holds (fun u b => by simp) _ h
  clear_value s1
  split <;> simp [hs1]

@[simp] theorem State.startReset_holds {k : Kept} {s : State} (h : k.Holds s.kept) (kind dom : Nat) : k.Holds (s.startReset kind dom).kept := by
  unfold State.startReset
  extract_lets z keptBlks r p24 live hlk cfg pnt pwr lc bist ldg boot s1 s2 s3
  have hs1 : k.Holds s1.kept := by
    apply State.holds_update h
    case hdram | hmbx | hlas | hsubs | hown | htick | hpos | hcap | hgrp | hbanks | hend | hrise | hctl | hpll => exact fun _ => rfl
    case henc | htrig | hsig =>
      split
      · exact id
      · exact fun _ => rfl
    all_goals exact id
  have hs3 : k.Holds s3.kept := State.ite_holds (by simp [s2, hs1]) (by simp [s2, hs1])
  exact State.ite_holds (by simp [hs3]) hs3

@[simp] theorem State.stepLc_holds {k : Kept} {s : State} (h : k.Holds s.kept) : k.Holds s.stepLc.kept := by simp [State.stepLc, h]

@[simp] theorem State.startRun_holds {k : Kept} {s : State} (h : k.Holds s.kept) (o : StartObs) : k.Holds (s.startRun o).kept := by
  unfold State.startRun
  extract_lets s1 first s2 s3
  have hs1 : k.Holds s1.kept := by simp [s1, h]
  have hs2 : k.Holds s2.kept := State.stepRepair_holds (State.stepShadow_holds (State.journalOpen_holds hs1 ..))
  have hs3 : k.Holds s3.kept := State.stepDram_holds (State.stepLc_holds hs2)
  split
  · next s4 h4 =>
    have hs4 : k.Holds s4.kept := by simpa [h4] using State.stepFirmware_holds hs3 first o.fw0 o.fw1
    simp [hs4]
  · next c s4 h4 =>
    have hs4 : k.Holds s4.kept := by simpa [h4] using State.stepFirmware_holds hs3 first o.fw0 o.fw1
    simp [hs4]

theorem execPowerOn_runs {k : Kept} {s : State} (h : k.Holds s.kept) (o : StartObs) : Runs (wellFormed (.powerOn o)) k (execPowerOn o s) := by
  simp [execPowerOn, wellFormed, h]

theorem execSupplyReset_runs {k : Kept} {s : State} (h : k.Holds s.kept) (t : Nat) : Runs (wellFormed (.supplyReset t)) k (execSupplyReset t s) := by
  simp [execSupplyReset, wellFormed, h]

theorem execOffWake_runs {k : Kept} {s : State} (h : k.Holds s.kept) (o : StartObs) (railsUp : Bool) :
    Runs (wellFormed (.offWake o railsUp)) k (execOffWake o railsUp s) := by
  simp [execOffWake, wellFormed, h]

theorem execSupplyGood_runs {k : Kept} {s : State} (h : k.Holds s.kept) (o : StartObs) (t : Nat) :
    Runs (wellFormed (.supplyGood o t)) k (execSupplyGood o t s) := by
  simp [execSupplyGood, wellFormed, h]

theorem execPowerLoss_runs {k : Kept} {s : State} (h : k.Holds s.kept) : Runs (wellFormed .powerLoss) k (execPowerLoss s) := by
  simp [execPowerLoss, wellFormed, h]

@[simp] theorem State.roomStep_holds {k : Kept} {s : State} (h : k.Holds s.kept) (r : Nat) :
    k.Holds (s.roomStep r).kept := by simp [State.roomStep, h]

@[simp] theorem State.roomAlt_holds {k : Kept} {s : State} (h : k.Holds s.kept) (r : Nat) : k.Holds (s.roomAlt r).kept := by simp [State.roomAlt, h]

@[simp] theorem State.roomCheck_holds {k : Kept} {s : State} (h : k.Holds s.kept) (r : Nat) :
    k.Holds (s.roomCheck r).kept := by simp [State.roomCheck, h]

@[simp] theorem State.fillPass_holds {k : Kept} {s : State} (h : k.Holds s.kept) (r : Nat) :
    k.Holds (s.fillPass r).kept := by simp [State.fillPass, h]

@[simp] theorem State.fillBad_holds {k : Kept} {s : State} (h : k.Holds s.kept) (r : Nat) : k.Holds (s.fillBad r).kept := by simp [State.fillBad, h]

theorem execActiveBankFillDone_runs {k : Kept} {s : State} (h : k.Holds s.kept) (room : Nat) (bad : Option Nat) :
    Runs (wellFormed (.activeBankFillDone room bad)) k (execActiveBankFillDone room bad s) := by
  refine Runs.guard (by simp [wellFormed, isRoom]) ?_
  simp [h]

@[simp] theorem State.stepPll_holds {k : Kept} {s : State} (h : k.Holds s.kept) : k.Holds s.stepPll.kept := by simp [State.stepPll, h]

theorem execItineraryCheck_runs {k : Kept} {s : State} (h : k.Holds s.kept) (t locks : Nat) :
    Runs (wellFormed (.itineraryCheck t locks)) k (execItineraryCheck t locks s) := by
  unfold execItineraryCheck
  refine Runs.ite ⟨rfl, h⟩ ?_
  extract_lets s0 rec_ s1 on off fab s2 s3 s4 judged
  have hs1 : k.Holds s1.kept := by simp [s1, s0, h]
  have hs3 : k.Holds s3.kept := State.foldl_holds (fun u r => by simp) _ (by simp [s2, fab, hs1])
  have hs4 : k.Holds s4.kept := State.ite_holds (State.foldl_holds (fun u r => by simp) _ hs3) hs3
  exact ⟨rfl, State.stepPll_holds (State.foldl_holds (fun u r => by split <;> simp) _ hs4)⟩

@[simp] theorem State.openNow_holds {k : Kept} {s : State} (h : k.Holds s.kept) : k.Holds s.openNow.kept := by
  unfold State.openNow
  -- The journal's operation stays closed: the kernel would evaluate it.
  obtain ⟨journal, hdef⟩ : ∃ f, f = State.journalWrite := ⟨_, rfl⟩
  have hjournal (u : State) (step method result detail room plane : Nat) (hu : k.Holds u.kept) :
      k.Holds (journal u step method result detail room plane).kept := hdef ▸ State.journalWrite_holds hu ..
  rw [← hdef]
  extract_lets wch pwr boot s1 s2 s3 s4 s5 s6
  have hs2 : k.Holds s2.kept := State.ite_holds (by simp [s1, wch, pwr, h]) (by simp [s1, wch, pwr, h])
  have hs3 : k.Holds s3.kept := by simp [s3, hs2]
  have hs5 : k.Holds s5.kept := by
    have hs4 : k.Holds s4.kept := hjournal _ _ _ _ _ _ _ (hjournal _ _ _ _ _ _ _ (by simp [hs3]))
    simp [s5, hs4]
  exact State.ite_holds (by simp [s6, hs5]) hs5

theorem execOpening_runs {k : Kept} {s : State} (h : k.Holds s.kept) (t : Nat) : Runs (wellFormed (.opening t)) k (execOpening t s) := by
  simp [execOpening, wellFormed, h]

theorem execStartFail_runs {k : Kept} {s : State} (h : k.Holds s.kept) (t : Nat) : Runs (wellFormed (.startFail t)) k (execStartFail t s) := by
  unfold execStartFail
  extract_lets s0 boot s1
  have hs0 : k.Holds s0.kept := by simp [s0, h]
  have hs1 : k.Holds s1.kept := by simp [s1, boot, hs0]
  exact Runs.ite ⟨rfl, hs0⟩ ⟨rfl, by simp [hs1]⟩

theorem execWatchdogExpiry_runs {k : Kept} {s : State} (h : k.Holds s.kept) : Runs (wellFormed .watchdogExpiry) k (execWatchdogExpiry s) := by
  unfold execWatchdogExpiry
  refine Runs.ite ⟨rfl, h⟩ ?_
  extract_lets s1 posted s2 runs kmi s3 s4 kmi4 pnt s5
  have hs1 : k.Holds s1.kept := by simp [s1, h]
  have hs2 : k.Holds s2.kept := State.foldl_holds (fun u m => by split <;> simp) _ hs1
  clear_value s2
  have hs3 : k.Holds s3.kept := State.foldl_holds (fun u r => by simp) _ (by simp [kmi, hs2])
  clear_value s3
  exact ⟨rfl, by simp [s5, kmi4, pnt, s4, hs3]⟩

theorem execWatchdogKick_runs {k : Kept} {s : State} (h : k.Holds s.kept) : Runs (wellFormed .watchdogKick) k (execWatchdogKick s) := by
  simp [execWatchdogKick, wellFormed, h]

/-! ### IasWrite -/

@[simp] theorem State.wrTck_holds {k : Kept} {s : State} (h : k.Holds s.kept) (addr value mask : Nat) : k.Holds (s.wrTck addr value mask).kept := by
  unfold State.wrTck
  refine State.ite_holds ?_ (State.ite_holds (by simp [h]) (State.ite_holds ?_ (State.ite_holds ?_ h)))
  · simp [h]
  · exact after_holds h (execSourceSwitch_runs h _)
  · simp [h]

@[simp] theorem State.wrMsu_holds {k : Kept} {s : State} (h : k.Holds s.kept) (old : State) (addr value mask : Nat) :
    k.Holds (s.wrMsu old addr value mask).kept := by
  unfold State.wrMsu
  refine State.ite_holds ?_ (State.ite_holds ?_ (State.ite_holds (by simp [h]) (State.ite_holds ?_ h)))
  · simp [h]
  · simp [h]
  · extract_lets msu s0 s1
    have hs1 : k.Holds s1.kept := State.ite_holds h (by simp [s0, msu, h])
    exact State.ite_holds (after_holds hs1 (execTbSet_runs hs1 _)) hs1

@[simp] theorem State.wrSyc_holds {k : Kept} {s : State} (h : k.Holds s.kept) (old : State) (addr value mask : Nat) :
    k.Holds (s.wrSyc old addr value mask).kept := by
  unfold State.wrSyc
  extract_lets syc s1
  have hs1 : k.Holds s1.kept := State.ite_holds (by simp [syc, h]) h
  exact State.ite_holds (State.ite_holds (after_holds hs1 (execSyncEnum_runs hs1)) hs1) h

@[simp] theorem State.wrIngest_holds {k : Kept} {s : State} (h : k.Holds s.kept) (old : State) (addr value mask : Nat) :
    k.Holds (s.wrIngest old addr value mask).kept := by
  unfold State.wrIngest
  extract_lets lane bit s1 j
  have hs1 : k.Holds s1.kept := State.ite_holds h (by simp [h])
  refine State.ite_holds (State.ite_holds ?_ h) (State.ite_holds (State.ite_holds ?_ ?_) h)
  · exact State.ite_holds (after_holds hs1 (execLaneEnable_runs hs1 _ _ _)) hs1
  · exact after_holds h (execLasEnable_runs h _ _)
  · exact State.ite_holds (by simp [h]) h

@[simp] theorem State.wrHost_holds {k : Kept} {s : State} (h : k.Holds s.kept) (addr value mask : Nat) : k.Holds (s.wrHost addr value mask).kept := by
  unfold State.wrHost
  extract_lets s1 r
  have hs1 : k.Holds s1.kept := by simp [s1, h]
  refine State.ite_holds (after_holds h (execHlkRetrain_runs h)) (State.ite_holds ?_ (State.ite_holds ?_ h))
  · exact State.ite_holds (after_holds hs1 (execBiasFlipStart_runs hs1 _)) hs1
  · split
    · exact after_holds h (execRingStart_runs h _)
    · exact after_holds h (execRingStop_runs h _)
    · exact after_holds h (execRingAbort_runs h _)
    · exact after_holds h (execRingDisable_runs h _)
    · exact h

@[simp] theorem State.wrDmc_holds {k : Kept} {s : State} (h : k.Holds s.kept) (addr value mask : Nat) : k.Holds (s.wrDmc addr value mask).kept := by
  unfold State.wrDmc
  refine State.ite_holds ?_ (State.ite_holds (by simp [h]) (State.ite_holds ?_ h))
  · exact State.ite_holds (after_holds h (execDmcEnable_runs h)) (by simp [h])
  · exact after_holds h (execDramTrainGo_runs h _)

@[simp] theorem State.wrCfg_holds {k : Kept} {s : State} (h : k.Holds s.kept) (addr value mask : Nat) : k.Holds (s.wrCfg addr value mask).kept := by
  unfold State.wrCfg
  refine State.ite_holds ?_ (State.ite_holds ?_ (State.ite_holds (by simp [h]) (State.ite_holds ?_ (State.ite_holds ?_ h))))
  · simp [h]
  · extract_lets j s1
    have hs1 : k.Holds s1.kept := State.ite_holds (after_holds h (execCoSlotArm_runs h _)) h
    exact State.ite_holds (after_holds hs1 (execCoSlotFree_runs hs1 _)) hs1
  · exact after_holds h (execMarginPassGo_runs h)
  · extract_lets s1
    have hs1 : k.Holds s1.kept := by
      refine State.ite_holds ?_ h
      split
      next u s0 hfresh =>
      have hs0 : k.Holds s0.kept := by
        have hkept := State.fresh_kept ((s.set WCH_SAMPLE_DONE 0).set WCH_SAMPLE_PASS 0)
        rw [hfresh] at hkept
        simp [hkept, h]
      exact after_holds hs0 (execWatchmanSample_runs hs0 _)
    exact State.ite_holds (by simp [hs1]) hs1

@[simp] theorem State.wrMgmt_holds {k : Kept} {s : State} (h : k.Holds s.kept) (addr value mask : Nat) : k.Holds (s.wrMgmt addr value mask).kept := by
  unfold State.wrMgmt
  refine State.ite_holds ?_ (State.ite_holds ?_ (State.ite_holds ?_ (State.ite_holds ?_ (State.ite_holds ?_ (State.ite_holds ?_ h)))))
  · exact after_holds h (execFetchLockWrite_runs h _)
  · extract_lets b
    split
    · exact after_holds h (execPntProgram_runs h _ _ _)
    · exact after_holds h (execPntErase_runs h _ _ _)
    · exact after_holds h (execPntSuspend_runs h _)
    · exact after_holds h (execPntResume_runs h _ _)
    · exact h
  · extract_lets s1
    have hs1 : k.Holds s1.kept := State.ite_holds (after_holds h (execOtpCmdRead_runs h _)) h
    exact State.ite_holds (after_holds hs1 (execOtpCmdProgram_runs hs1 _ _)) hs1
  · simp [h]
  · simp [h]
  · extract_lets s1
    have hs1 : k.Holds s1.kept := State.ite_holds (after_holds h (execBistGo_runs h _ _)) h
    exact State.ite_holds (after_holds hs1 (execBistAbort_runs hs1)) hs1

@[simp] theorem State.wrEdge_holds {k : Kept} {s : State} (h : k.Holds s.kept) (old : State) (addr value mask : Nat) :
    k.Holds (s.wrEdge old addr value mask).kept := by
  unfold State.wrEdge
  split
  · refine State.ite_holds (by simp [h]) (State.ite_holds ?_ (State.ite_holds (by simp [h]) h))
    exact after_holds h (execIobSave_runs h)
  · simp [h]
  · extract_lets s1 twn
    have hs1 : k.Holds s1.kept := State.ite_holds (by simp [h]) h
    refine State.ite_holds (State.ite_holds hs1 (by simp [hs1])) (State.ite_holds ?_ h)
    exact after_holds h (execTwinMcGo_runs h)
  · exact State.ite_holds (by simp [h]) h

@[simp] theorem State.wrStart_holds {k : Kept} {s : State} (h : k.Holds s.kept) (old : State) (addr value mask : Nat) :
    k.Holds (s.wrStart old addr value mask).kept := by
  unfold State.wrStart
  split <;> simp [h]

@[simp] theorem State.regWrite_holds {k : Kept} {s : State} (h : k.Holds s.kept) (addr : Nat) (hit : RegHit) (value mask : Nat) :
    k.Holds (s.regWrite addr hit value mask).2.kept := by
  unfold State.regWrite
  split
  · simp [h]
  · extract_lets s1
    have hs1 : k.Holds s1.kept := by simp [s1, h]
    split <;> simp [hs1]

@[simp] theorem State.iasWrite_holds {k : Kept} {s : State} (h : k.Holds s.kept) (addr value mask : Nat) :
    k.Holds (s.iasWrite addr value mask).2.kept := by
  unfold State.iasWrite
  split <;> simp [h]

theorem execRegisterWrite_runs {k : Kept} {s : State} (h : k.Holds s.kept) (addr value mask : Nat) :
    Runs (wellFormed (.registerWrite addr value mask)) k (execRegisterWrite addr value mask s) := by
  simp [execRegisterWrite, wellFormed, h]

theorem execDbgIas_runs {k : Kept} {s : State} (h : k.Holds s.kept) (addr data : Nat) (write : Bool) :
    Runs (wellFormed (.dbgIas addr data write)) k (execDbgIas addr data write s) := by
  simp [execDbgIas, wellFormed, h]

/-! ### KmiRegs -/

@[simp] theorem kmiRegRead_keeps {k : Kept} {s : State} (h : k.Holds s.kept) (base : Nat) (cmd : KmiCmd) : (kmiRegRead base cmd s).Keeps k := by
  unfold kmiRegRead
  split <;> simp [h]

@[simp] theorem kmiRegWrite_keeps {k : Kept} {s : State} (h : k.Holds s.kept) (base : Nat) (cmd : KmiCmd) : (kmiRegWrite base cmd s).Keeps k := by
  unfold kmiRegWrite
  extract_lets addr
  split
  · exact h
  · next hit hreg =>
    rw [KmiRes.keeps_ite]
    split
    · have hw := State.regWrite_holds h addr hit (bits cmd.a1 31 0) (bits cmd.a1 63 32)
      split
      · next s1 hs1 => simpa [hs1] using hw
      · next s1 hs1 => simpa [hs1] using hw
    · exact h

theorem execTickRegRead_runs {k : Kept} {s : State} (h : k.Holds s.kept) (m : Nat) : Runs (wellFormed (.tickRegRead m)) k (execTickRegRead m s) :=
  kmiCommand_runs h fun cmd u hu => by simp [hu]

theorem execTickRegWrite_runs {k : Kept} {s : State} (h : k.Holds s.kept) (m : Nat) : Runs (wellFormed (.tickRegWrite m)) k (execTickRegWrite m s) :=
  kmiCommand_runs h fun cmd u hu => by simp [hu]

theorem execMsuRegRead_runs {k : Kept} {s : State} (h : k.Holds s.kept) (m : Nat) : Runs (wellFormed (.msuRegRead m)) k (execMsuRegRead m s) :=
  kmiCommand_runs h fun cmd u hu => by simp [hu]

theorem execMsuRegWrite_runs {k : Kept} {s : State} (h : k.Holds s.kept) (m : Nat) : Runs (wellFormed (.msuRegWrite m)) k (execMsuRegWrite m s) :=
  kmiCommand_runs h fun cmd u hu => by simp [hu]

theorem execSycRegRead_runs {k : Kept} {s : State} (h : k.Holds s.kept) (m : Nat) : Runs (wellFormed (.sycRegRead m)) k (execSycRegRead m s) :=
  kmiCommand_runs h fun cmd u hu => by simp [hu]

theorem execSycRegWrite_runs {k : Kept} {s : State} (h : k.Holds s.kept) (m : Nat) : Runs (wellFormed (.sycRegWrite m)) k (execSycRegWrite m s) :=
  kmiCommand_runs h fun cmd u hu => by simp [hu]

theorem execIngRegRead_runs {k : Kept} {s : State} (h : k.Holds s.kept) (m : Nat) : Runs (wellFormed (.ingRegRead m)) k (execIngRegRead m s) :=
  kmiCommand_runs h fun cmd u hu => by simp [hu]

theorem execIngRegWrite_runs {k : Kept} {s : State} (h : k.Holds s.kept) (m : Nat) : Runs (wellFormed (.ingRegWrite m)) k (execIngRegWrite m s) :=
  kmiCommand_runs h fun cmd u hu => by simp [hu]

theorem execLasRegRead_runs {k : Kept} {s : State} (h : k.Holds s.kept) (m : Nat) : Runs (wellFormed (.lasRegRead m)) k (execLasRegRead m s) :=
  kmiCommand_runs h fun cmd u hu => by simp [hu]

theorem execLasRegWrite_runs {k : Kept} {s : State} (h : k.Holds s.kept) (m : Nat) : Runs (wellFormed (.lasRegWrite m)) k (execLasRegWrite m s) :=
  kmiCommand_runs h fun cmd u hu => by simp [hu]

theorem execHlkRegRead_runs {k : Kept} {s : State} (h : k.Holds s.kept) (m : Nat) : Runs (wellFormed (.hlkRegRead m)) k (execHlkRegRead m s) :=
  kmiCommand_runs h fun cmd u hu => by simp [hu]

theorem execHlkRegWrite_runs {k : Kept} {s : State} (h : k.Holds s.kept) (m : Nat) : Runs (wellFormed (.hlkRegWrite m)) k (execHlkRegWrite m s) :=
  kmiCommand_runs h fun cmd u hu => by simp [hu]

theorem execDrgRegRead_runs {k : Kept} {s : State} (h : k.Holds s.kept) (m : Nat) : Runs (wellFormed (.drgRegRead m)) k (execDrgRegRead m s) :=
  kmiCommand_runs h fun cmd u hu => by simp [hu]

theorem execDrgRegWrite_runs {k : Kept} {s : State} (h : k.Holds s.kept) (m : Nat) : Runs (wellFormed (.drgRegWrite m)) k (execDrgRegWrite m s) :=
  kmiCommand_runs h fun cmd u hu => by simp [hu]

theorem execDmcRegRead_runs {k : Kept} {s : State} (h : k.Holds s.kept) (m : Nat) : Runs (wellFormed (.dmcRegRead m)) k (execDmcRegRead m s) :=
  kmiCommand_runs h fun cmd u hu => by simp [hu]

theorem execDmcRegWrite_runs {k : Kept} {s : State} (h : k.Holds s.kept) (m : Nat) : Runs (wellFormed (.dmcRegWrite m)) k (execDmcRegWrite m s) :=
  kmiCommand_runs h fun cmd u hu => by simp [hu]

theorem execWchRegRead_runs {k : Kept} {s : State} (h : k.Holds s.kept) (m : Nat) : Runs (wellFormed (.wchRegRead m)) k (execWchRegRead m s) :=
  kmiCommand_runs h fun cmd u hu => by simp [hu]

theorem execWchRegWrite_runs {k : Kept} {s : State} (h : k.Holds s.kept) (m : Nat) : Runs (wellFormed (.wchRegWrite m)) k (execWchRegWrite m s) :=
  kmiCommand_runs h fun cmd u hu => by simp [hu]

theorem execPwrRegRead_runs {k : Kept} {s : State} (h : k.Holds s.kept) (m : Nat) : Runs (wellFormed (.pwrRegRead m)) k (execPwrRegRead m s) :=
  kmiCommand_runs h fun cmd u hu => by simp [hu]

theorem execPwrRegWrite_runs {k : Kept} {s : State} (h : k.Holds s.kept) (m : Nat) : Runs (wellFormed (.pwrRegWrite m)) k (execPwrRegWrite m s) :=
  kmiCommand_runs h fun cmd u hu => by simp [hu]

theorem execTwnRegRead_runs {k : Kept} {s : State} (h : k.Holds s.kept) (m : Nat) : Runs (wellFormed (.twnRegRead m)) k (execTwnRegRead m s) :=
  kmiCommand_runs h fun cmd u hu => by simp [hu]

theorem execTwnRegWrite_runs {k : Kept} {s : State} (h : k.Holds s.kept) (m : Nat) : Runs (wellFormed (.twnRegWrite m)) k (execTwnRegWrite m s) :=
  kmiCommand_runs h fun cmd u hu => by simp [hu]

theorem execGpioRegRead_runs {k : Kept} {s : State} (h : k.Holds s.kept) (m : Nat) : Runs (wellFormed (.gpioRegRead m)) k (execGpioRegRead m s) :=
  kmiCommand_runs h fun cmd u hu => by simp [hu]

theorem execGpioRegWrite_runs {k : Kept} {s : State} (h : k.Holds s.kept) (m : Nat) : Runs (wellFormed (.gpioRegWrite m)) k (execGpioRegWrite m s) :=
  kmiCommand_runs h fun cmd u hu => by simp [hu]

theorem execIobRegRead_runs {k : Kept} {s : State} (h : k.Holds s.kept) (m : Nat) : Runs (wellFormed (.iobRegRead m)) k (execIobRegRead m s) :=
  kmiCommand_runs h fun cmd u hu => by simp [hu]

theorem execIobRegWrite_runs {k : Kept} {s : State} (h : k.Holds s.kept) (m : Nat) : Runs (wellFormed (.iobRegWrite m)) k (execIobRegWrite m s) :=
  kmiCommand_runs h fun cmd u hu => by simp [hu]

theorem execRawRead_runs {k : Kept} {s : State} (h : k.Holds s.kept) (m : Nat) : Runs (wellFormed (.rawRead m)) k (execRawRead m s) :=
  kmiCommand_runs h fun cmd u hu => by simp [hu]

theorem execRawWrite_runs {k : Kept} {s : State} (h : k.Holds s.kept) (m : Nat) : Runs (wellFormed (.rawWrite m)) k (execRawWrite m s) :=
  kmiCommand_runs h fun cmd u hu => by simp [hu]

theorem execKmiInfo_runs {k : Kept} {s : State} (h : k.Holds s.kept) (m : Nat) : Runs (wellFormed (.kmiInfo m)) k (execKmiInfo m s) :=
  kmiCommand_runs h fun cmd u hu => by simp [hu]

theorem execKmiEcho_runs {k : Kept} {s : State} (h : k.Holds s.kept) (m : Nat) : Runs (wellFormed (.kmiEcho m)) k (execKmiEcho m s) :=
  kmiCommand_runs h fun cmd u hu => by simp [hu]

/-! ### Every command, and every step -/

/-- Every command keeps what holds where its units exist, and is else the one fault. -/
theorem exec_runs {k : Kept} {s : State} (h : k.Holds s.kept) (i : Instr) : Runs (wellFormed i) k (exec i s) := by
  cases i with
  | curfew t => exact execCurfew_runs h t
  | rdone room t => exact execRdone_runs h room t
  | tickStopped t => exact execTickStopped_runs h t
  | timerEvent t skew => exact execTimerEvent_runs h t skew
  | hostTick t skew => exact execHostTick_runs h t skew
  | sourceSwitch t => exact execSourceSwitch_runs h t
  | tickEngineEnable t => exact execTickEngineEnable_runs h t
  | tickEngineDisable t => exact execTickEngineDisable_runs h t
  | registerWrite addr value mask => exact execRegisterWrite_runs h addr value mask
  | encoderEdge ch a b stamp t => exact execEncoderEdge_runs h ch a b stamp t
  | indexEdge ch t => exact execIndexEdge_runs h ch t
  | encoderStopped ch t => exact execEncoderStopped_runs h ch t
  | encoderEventDue skew => exact execEncoderEventDue_runs h skew
  | divLoad t => exact execDivLoad_runs h t
  | tbLock t value => exact execTbLock_runs h t value
  | tbRefLost cause t => exact execTbRefLost_runs h cause t
  | tbSet t => exact execTbSet_runs h t
  | ppsEdge t inWindow => exact execPpsEdge_runs h t inWindow
  | trigPulse n => exact execTrigPulse_runs h n
  | syncEnum => exact execSyncEnum_runs h
  | enumMessage msg => exact execEnumMessage_runs h msg
  | enumReply msg => exact execEnumReply_runs h msg
  | syncTickMessage twin msg t skew => exact execSyncTickMessage_runs h twin msg t skew
  | syncMergeMessage twin msg t => exact execSyncMergeMessage_runs h twin msg t
  | calMessage twin msg arrival echoAt => exact execCalMessage_runs h twin msg arrival echoAt
  | calEcho twin msg launch arrival => exact execCalEcho_runs h twin msg launch arrival
  | calSend twin t => exact execCalSend_runs h twin t
  | syncStopMessage twin msg t => exact execSyncStopMessage_runs h twin msg t
  | statusMessage twin msg t => exact execStatusMessage_runs h twin msg t
  | syncLinkLost twin cause t => exact execSyncLinkLost_runs h twin cause t
  | fpllLockLoss pll => exact execFpllLockLoss_runs h pll
  | fpllRelock pll us => exact execFpllRelock_runs h pll us
  | distributedRamWrite room tile slice inp => exact execDistributedRamWrite_runs h room tile slice inp
  | blockPortAccess room larder idx pa pb window aFirst => exact execBlockPortAccess_runs h room larder idx pa pb window aFirst
  | pabCycle room inp => exact execPabCycle_runs h room inp
  | pabClearStat room pab => exact execPabClearStat_runs h room pab
  | laneEnable lane rx tx => exact execLaneEnable_runs h lane rx tx
  | cdrLock lane => exact execCdrLock_runs h lane
  | wordLock rx => exact execWordLock_runs h rx
  | ingLaneDown rx refPresent => exact execIngLaneDown_runs h rx refPresent
  | lasEnable la t => exact execLasEnable_runs h la t
  | deskewMarker la lane mark => exact execDeskewMarker_runs h la lane mark
  | ingestPacket la lanes t tEnd => exact execIngestPacket_runs h la lanes t tEnd
  | lineFill la rowsInTime => exact execLineFill_runs h la rowsInTime
  | recordBlockPoll la => exact execRecordBlockPoll_runs h la
  | transmitPacket la => exact execTransmitPacket_runs h la
  | perstNRelease t => exact execPerstNRelease_runs h t
  | cfgReady t us readBad => exact execCfgReady_runs h t us readBad
  | linkTrained rate width flit enum vfEnable pmeEn => exact execLinkTrained_runs h rate width flit enum vfEnable pmeEn
  | hlkRetrain => exact execHlkRetrain_runs h
  | fundamentalReset => exact execFundamentalReset_runs h
  | hotReset => exact execHotReset_runs h
  | cxlReset => exact execCxlReset_runs h
  | flrPf0 => exact execFlrPf0_runs h
  | flrPf1 => exact execFlrPf1_runs h
  | flrVf v => exact execFlrVf_runs h v
  | busMasterDisable fn => exact execBusMasterDisable_runs h fn
  | dStateChange fn d3hot => exact execDStateChange_runs h fn d3hot
  | pmeTurnOff => exact execPmeTurnOff_runs h
  | windowRequest offset len read data tag => exact execWindowRequest_runs h offset len read data tag
  | windowAnswer room rid data => exact execWindowAnswer_runs h room rid data
  | hlkWinTmo tmo => exact execHlkWinTmo_runs h tmo
  | hdmCommit base size ways skip => exact execHdmCommit_runs h base size ways skip
  | cxlMemRequest hpa write poison readErr tag => exact execCxlMemRequest_runs h hpa write poison readErr tag
  | h2dSnoop kind addr => exact execH2dSnoop_runs h kind addr
  | biasFlipStart page => exact execBiasFlipStart_runs h page
  | biasFlipDone => exact execBiasFlipDone_runs h
  | ringStart r => exact execRingStart_runs h r
  | ringStop r => exact execRingStop_runs h r
  | ringAbort r => exact execRingAbort_runs h r
  | ringAbortDone r => exact execRingAbortDone_runs h r
  | ringDisable r => exact execRingDisable_runs h r
  | doorbell fn idx sqPi cqWord t => exact execDoorbell_runs h fn idx sqPi cqWord t
  | descriptorFetch r err bytes => exact execDescriptorFetch_runs h r err bytes
  | f2hTransfer room port slot words last writesDone => exact execF2hTransfer_runs h room port slot words last writesDone
  | dramCopyTransfer room port slot word readErr writesDone => exact execDramCopyTransfer_runs h room port slot word readErr writesDone
  | h2fTransfer r => exact execH2fTransfer_runs h r
  | hostReadCompletion r kind data => exact execHostReadCompletion_runs h r kind data
  | delayedPost r => exact execDelayedPost_runs h r
  | ringIrqAge r t => exact execRingIrqAge_runs h r t
  | roomGone room => exact execRoomGone_runs h room
  | dramWriteTransfer room port stream header words t => exact execDramWriteTransfer_runs h room port stream header words t
  | dramReadRequest room port stream word t => exact execDramReadRequest_runs h room port stream word t
  | dramAck room port => exact execDramAck_runs h room port
  | dmcCommandSelect sc t colOk ceBeats ue => exact execDmcCommandSelect_runs h sc t colOk ceBeats ue
  | pageTimeout sc bank t => exact execPageTimeout_runs h sc bank t
  | refreshInterval t => exact execRefreshInterval_runs h t
  | refreshStart t => exact execRefreshStart_runs h t
  | refreshEnd t => exact execRefreshEnd_runs h t
  | mr4Poll doubled => exact execMr4Poll_runs h doubled
  | zqCalibration => exact execZqCalibration_runs h
  | rankPowerDown sc rank t => exact execRankPowerDown_runs h sc rank t
  | dramTrainGo mode => exact execDramTrainGo_runs h mode
  | dramTrainDone res => exact execDramTrainDone_runs h res
  | dmcEnable => exact execDmcEnable_runs h
  | dramInitPass lines => exact execDramInitPass_runs h lines
  | writeCrcAlert sc lines replayed => exact execWriteCrcAlert_runs h sc lines replayed
  | loadOpen m => exact execLoadOpen_runs h m
  | loadData m => exact execLoadData_runs h m
  | frameGroupProgrammed room prog => exact execFrameGroupProgrammed_runs h room prog
  | loadClose m => exact execLoadClose_runs h m
  | readbackDone bad => exact execReadbackDone_runs h bad
  | loadAbort m => exact execLoadAbort_runs h m
  | loadTimeout => exact execLoadTimeout_runs h
  | stage m => exact execStage_runs h m
  | stagingGroup room t bad => exact execStagingGroup_runs h room t bad
  | changeover m => exact execChangeover_runs h m
  | rollback m => exact execRollback_runs h m
  | cancelCo m => exact execCancelCo_runs h m
  | coSlotArm j => exact execCoSlotArm_runs h j
  | coSlotFree j => exact execCoSlotFree_runs h j
  | handoverBlockWorkDone room work => exact execHandoverBlockWorkDone_runs h room work
  | selectWordProgram t => exact execSelectWordProgram_runs h t
  | roomPowerOff room => exact execRoomPowerOff_runs h room
  | roomPowerOn room => exact execRoomPowerOn_runs h room
  | watchmanFrameOp room t f => exact execWatchmanFrameOp_runs h room t f
  | reloadPlaneRead room => exact execReloadPlaneRead_runs h room
  | reloadWrite room t => exact execReloadWrite_runs h room t
  | pacingCredit room t => exact execPacingCredit_runs h room t
  | wchStarved room t => exact execWchStarved_runs h room t
  | marginPassPeriodic t => exact execMarginPassPeriodic_runs h t
  | marginPassGo => exact execMarginPassGo_runs h
  | watchmanTmrScrub fixes => exact execWatchmanTmrScrub_runs h fixes
  | ramMapRebuild room bank ended => exact execRamMapRebuild_runs h room bank ended
  | heartbeatCheck t => exact execHeartbeatCheck_runs h t
  | watchmanSoftRst => exact execWatchmanSoftRst_runs h
  | watchmanSample pass => exact execWatchmanSample_runs h pass
  | watchmanForce => exact execWatchmanForce_runs h
  | mbxPost m cmd => exact execMbxPost_runs h m cmd
  | mbxAck m => exact execMbxAck_runs h m
  | mbxAbort m => exact execMbxAbort_runs h m
  | mbxEvtAck n => exact execMbxEvtAck_runs h n
  | watchdogExpiry => exact execWatchdogExpiry_runs h
  | watchdogKick => exact execWatchdogKick_runs h
  | fabMgmtRead m => exact execFabMgmtRead_runs h m
  | fabMgmtWrite m => exact execFabMgmtWrite_runs h m
  | fpllRead m => exact execFpllRead_runs h m
  | fpllWrite m => exact execFpllWrite_runs h m
  | bramSbe m => exact execBramSbe_runs h m
  | tickRegRead m => exact execTickRegRead_runs h m
  | tickRegWrite m => exact execTickRegWrite_runs h m
  | tickNow m => exact execTickNow_runs h m
  | msuRegRead m => exact execMsuRegRead_runs h m
  | msuRegWrite m => exact execMsuRegWrite_runs h m
  | sycRegRead m => exact execSycRegRead_runs h m
  | sycRegWrite m => exact execSycRegWrite_runs h m
  | syncArm m => exact execSyncArm_runs h m
  | syncDisarm m => exact execSyncDisarm_runs h m
  | syncPropose m => exact execSyncPropose_runs h m
  | syncLocal m => exact execSyncLocal_runs h m
  | ingRegRead m => exact execIngRegRead_runs h m
  | ingRegWrite m => exact execIngRegWrite_runs h m
  | lasRegRead m => exact execLasRegRead_runs h m
  | lasRegWrite m => exact execLasRegWrite_runs h m
  | sideRecv m => exact execSideRecv_runs h m
  | sideSend m => exact execSideSend_runs h m
  | hlkRegRead m => exact execHlkRegRead_runs h m
  | hlkRegWrite m => exact execHlkRegWrite_runs h m
  | hdmSet m => exact execHdmSet_runs h m
  | biasFlip m => exact execBiasFlip_runs h m
  | hostSettings m => exact execHostSettings_runs h m
  | ringCmd m => exact execRingCmd_runs h m
  | drgRegRead m => exact execDrgRegRead_runs h m
  | drgRegWrite m => exact execDrgRegWrite_runs h m
  | dmcRegRead m => exact execDmcRegRead_runs h m
  | dmcRegWrite m => exact execDmcRegWrite_runs h m
  | memSettings m => exact execMemSettings_runs h m
  | dramRead m => exact execDramRead_runs h m
  | dramWrite m => exact execDramWrite_runs h m
  | dramTrain m => exact execDramTrain_runs h m
  | configStatus m => exact execConfigStatus_runs h m
  | wchRegRead m => exact execWchRegRead_runs h m
  | wchRegWrite m => exact execWchRegWrite_runs h m
  | kmiInfo m => exact execKmiInfo_runs h m
  | kmiEcho m => exact execKmiEcho_runs h m
  | rawRead m => exact execRawRead_runs h m
  | rawWrite m => exact execRawWrite_runs h m
  | pantryRead m retryAt ueAt => exact execPantryRead_runs h m retryAt ueAt
  | pantryProgram m => exact execPantryProgram_runs h m
  | pantryErase m => exact execPantryErase_runs h m
  | fwUpdate m => exact execFwUpdate_runs h m
  | otpRead m => exact execOtpRead_runs h m
  | otpProgram m => exact execOtpProgram_runs h m
  | ledgerRead m => exact execLedgerRead_runs h m
  | ledgerArchive m => exact execLedgerArchive_runs h m
  | bistRun m => exact execBistRun_runs h m
  | bistResult m => exact execBistResult_runs h m
  | pwrRegRead m => exact execPwrRegRead_runs h m
  | pwrRegWrite m => exact execPwrRegWrite_runs h m
  | pwrLimit m => exact execPwrLimit_runs h m
  | pwrRooms m => exact execPwrRooms_runs h m
  | pwrWakeReport m => exact execPwrWakeReport_runs h m
  | lcStatus m => exact execLcStatus_runs h m
  | lcAdvance m => exact execLcAdvance_runs h m
  | debugChallenge m => exact execDebugChallenge_runs h m
  | debugUnlock m => exact execDebugUnlock_runs h m
  | debugLock m => exact execDebugLock_runs h m
  | keyProvision m => exact execKeyProvision_runs h m
  | scrap m => exact execScrap_runs h m
  | ffCapture m => exact execFfCapture_runs h m
  | twnRegRead m => exact execTwnRegRead_runs h m
  | twnRegWrite m => exact execTwnRegWrite_runs h m
  | twinPair m authOk peerOk => exact execTwinPair_runs h m authOk peerOk
  | twinDetach m => exact execTwinDetach_runs h m
  | twinRole m => exact execTwinRole_runs h m
  | twinArm m => exact execTwinArm_runs h m
  | gpioRegRead m => exact execGpioRegRead_runs h m
  | gpioRegWrite m => exact execGpioRegWrite_runs h m
  | iobRegRead m => exact execIobRegRead_runs h m
  | iobRegWrite m => exact execIobRegWrite_runs h m
  | pinAssign m => exact execPinAssign_runs h m
  | periphXfer m => exact execPeriphXfer_runs h m
  | periphXferDone c rx nack => exact execPeriphXferDone_runs h c rx nack
  | pntProgram b nvwp vaux => exact execPntProgram_runs h b nvwp vaux
  | pntErase b nvwp vaux => exact execPntErase_runs h b nvwp vaux
  | pntSuspend b => exact execPntSuspend_runs h b
  | pntResume b nvwp => exact execPntResume_runs h b nvwp
  | pntProgramDone b verified => exact execPntProgramDone_runs h b verified
  | pntSectorErased b verified => exact execPntSectorErased_runs h b verified
  | fetchLockWrite lock => exact execFetchLockWrite_runs h lock
  | otpCmdRead row => exact execOtpCmdRead_runs h row
  | otpCmdProgram row vaux => exact execOtpCmdProgram_runs h row vaux
  | otpProgramDone verified => exact execOtpProgramDone_runs h verified
  | otpShadowLoad => exact execOtpShadowLoad_runs h
  | vioFault bank => exact execVioFault_runs h bank
  | gpioIrq q x => exact execGpioIrq_runs h q x
  | timerPulse tim t => exact execTimerPulse_runs h tim t
  | timerCapture tim t rising => exact execTimerCapture_runs h tim t rising
  | iobSave => exact execIobSave_runs h
  | powerDecision t portsIdle => exact execPowerDecision_runs h t portsIdle
  | scheduledWake t => exact execScheduledWake_runs h t
  | voteStop t busy => exact execVoteStop_runs h t busy
  | voteBackoffEnd t => exact execVoteBackoffEnd_runs h t
  | entryCommit t => exact execEntryCommit_runs h t
  | wake cause t badBanks => exact execWake_runs h cause t badBanks
  | nightPorterSample t pos => exact execNightPorterSample_runs h t pos
  | powerOn o => exact execPowerOn_runs h o
  | supplyReset t => exact execSupplyReset_runs h t
  | offWake o railsUp => exact execOffWake_runs h o railsUp
  | itineraryCheck t locks => exact execItineraryCheck_runs h t locks
  | opening t => exact execOpening_runs h t
  | startFail t => exact execStartFail_runs h t
  | lanesUp t => exact execLanesUp_runs h t
  | tickRecord bytes t => exact execTickRecord_runs h bytes t
  | statusFrameSend t => exact execStatusFrameSend_runs h t
  | statusFrame bytes t => exact execStatusFrame_runs h bytes t
  | twnSubst t skew => exact execTwnSubst_runs h t skew
  | checkpointDone tick data ue failed t => exact execCheckpointDone_runs h tick data ue failed t
  | catchupDone data t => exact execCatchupDone_runs h data t
  | twnPartnerLost t => exact execTwnPartnerLost_runs h t
  | twinMcGo => exact execTwinMcGo_runs h
  | ledgerEvent code detail t => exact execLedgerEvent_runs h code detail t
  | ledgerFwCode code => exact execLedgerFwCode_runs h code
  | tokenRefill code => exact execTokenRefill_runs h code
  | archivePage progOk => exact execArchivePage_runs h progOk
  | bistGo vcoreOk clkOk => exact execBistGo_runs h vcoreOk clkOk
  | bistAbort => exact execBistAbort_runs h
  | bistRunDone fails wakeHeld t10us => exact execBistRunDone_runs h fails wakeHeld t10us
  | repairCompact copy => exact execRepairCompact_runs h copy
  | challengeExpiry => exact execChallengeExpiry_runs h
  | extest => exact execExtest_runs h
  | idcode => exact execIdcode_runs h
  | samplePreload pins => exact execSamplePreload_runs h pins
  | jtagClamp => exact execJtagClamp_runs h
  | highz => exact execHighz_runs h
  | tgtStatus => exact execTgtStatus_runs h
  | tgtChallenge level => exact execTgtChallenge_runs h level
  | tgtResponse level resp => exact execTgtResponse_runs h level resp
  | dbgIas addr data write => exact execDbgIas_runs h addr data write
  | dbgHalt halt => exact execDbgHalt_runs h halt
  | ffRead room tile => exact execFfRead_runs h room tile
  | factoryTest code => exact execFactoryTest_runs h code
  | bypass code => exact execBypass_runs h code
  | trstN => exact execTrstN_runs h
  | powerLoss => exact execPowerLoss_runs h
  | supplyGood o t => exact execSupplyGood_runs h o t
  | vioOk bank => exact execVioOk_runs h bank
  | linkPowerState lpm => exact execLinkPowerState_runs h lpm
  | exclusiveStartTimeout m => exact execExclusiveStartTimeout_runs h m
  | hostLinkStepFail => exact execHostLinkStepFail_runs h
  | marginReadGroup room finds => exact execMarginReadGroup_runs h room finds
  | activeBankFillDone room bad => exact execActiveBankFillDone_runs h room bad
  | wakeComplete t => exact execWakeComplete_runs h t
  | entryComplete t => exact execEntryComplete_runs h t

/-- A step takes the front command from the queue and keeps what holds besides. -/
theorem step_holds {s t : State} (h : step s = .next t) : Kept.Holds { s.kept with pending := s.pending.tail } t.kept := by
  unfold step at h
  split at h
  · next hq =>
    rw [← Host.Outcome.next.inj h, State.clockCycle_kept, hq]
    exact ⟨hq, fun _ _ hb => hb, id, id, id, id⟩
  · next c rest hq =>
    have hrun := exec_runs (Kept.Holds.refl { s with pending := rest }.kept) c
    rw [h] at hrun
    rw [hq]
    exact hrun.2

theorem State.shapeOk_iff (s : State) : s.shapeOk = true ↔ s.kept.units = Kept.part := by
  simp [State.shapeOk, State.kept, Kept.part, and_assoc]

theorem State.storesOk_iff (s : State) :
    s.storesOk = true ↔ Assoc.wf 0 s.dram = true ∧ Assoc.wf 0xFF s.pantry = true ∧ Assoc.wf 0 s.otp = true := by
  simp [State.storesOk, and_assoc]

/-! ### The invariants -/

/-- A command that names units of the part completes, and the queue stays. -/
theorem exec_next_of_wellFormed (c : Instr) (s : State) (h : wellFormed c = true) : ∃ t, exec c s = .next t ∧ t.pending = s.pending := by
  have hrun := exec_runs (Kept.Holds.refl s.kept) c
  cases ht : exec c s with
  | next t =>
    rw [ht] at hrun
    exact ⟨t, rfl, hrun.2.pending⟩
  | fault f => simp_all [Runs]
  | refused r => simp_all [Runs]

/-- A command that names no unit of the part is the one fault. -/
theorem exec_fault_of_not_wellFormed (c : Instr) (s : State) (h : wellFormed c = false) : exec c s = .fault .noSuchUnit := by
  have hrun := exec_runs (Kept.Holds.refl s.kept) c
  cases ht : exec c s with
  | next t => simp_all [Runs]
  | fault f => rfl
  | refused r => simp_all [Runs]

theorem exec_ne_refused (c : Instr) (s : State) (r : Refusal) : exec c s ≠ .refused r := by
  intro h
  have hrun := exec_runs (Kept.Holds.refl s.kept) c
  rw [h] at hrun
  exact hrun

theorem step_cons {s : State} {c : Instr} {rest : List Instr} (h : s.pending = c :: rest) : step s = exec c { s with pending := rest } := by
  simp [step, h]

/-- Settles O54: every command keeps the queue, runs where its units exist, and is else the one fault. -/
theorem queueRuns : Obligations.QueueRuns := by
  refine ⟨fun s hq => ?_, fun c s hc => exec_next_of_wellFormed c s hc, fun c rest s hs hc => ?_, fun s r => ?_⟩
  · obtain ⟨t, ht⟩ : ∃ t, step s = .next t := by
      cases hs : s.pending with
      | nil => exact ⟨s.clockCycle, by simp [step, hs]⟩
      | cons c rest =>
        have hc : wellFormed c = true := by simp_all [State.queueOk]
        obtain ⟨t, ht, -⟩ := exec_next_of_wellFormed c { s with pending := rest } hc
        exact ⟨t, (step_cons hs).trans ht⟩
    have hp : t.pending = s.pending.tail := (step_holds ht).pending
    refine ⟨t, ht, hp, ?_⟩
    rw [State.queueOk, List.all_eq_true] at hq ⊢
    rw [hp]
    exact fun c hc => hq c (List.mem_of_mem_tail hc)
  · rw [step_cons hs]
    exact exec_fault_of_not_wellFormed c _ hc
  · cases hs : s.pending with
    | nil => simp [step, hs]
    | cons c rest =>
      rw [step_cons hs]
      exact exec_ne_refused c _ r

/-- Settles O55: the OTP is only ever written by the OR of a row and data. -/
theorem otpBitsStay : Obligations.OtpBitsStay :=
  fun _ _ h => (step_holds h).otp_bits

/-- Settles O56: the stores are written by the operations of Assoc alone, which keep the canonical form. -/
theorem storesStayCanonical : Obligations.StoresStayCanonical := by
  intro s t hs h
  obtain ⟨hd, hp, ho⟩ := s.storesOk_iff.mp hs
  have hstep := step_holds h
  exact t.storesOk_iff.mpr ⟨hstep.dram_wf hd, hstep.pantry_wf hp, hstep.otp_wf ho⟩

/-- Settles O57: a list of units is written in place, or replaced by one of the part's length. -/
theorem unitsStay : Obligations.UnitsStay :=
  fun s t hs h => t.shapeOk_iff.mpr ((step_holds h).units (s.shapeOk_iff.mp hs))

end Sys2Proof.Machine
end

section
/-! One step, and the state after reset. -/

namespace Sys2Proof.Machine

open Reg

/-! ### One step -/

/-- With no tree running, a cycle of the Rooms' trees changes nothing. -/
theorem State.clockCycle_eq_self {s : State} (h : ∀ r, r < 24 → ∀ t, t < 2 → s.treeRuns r t = false) : s.clockCycle = s := by
  have hidle : s.running = [] := by
    rw [State.running, List.filter_eq_nil_iff]
    intro k hk
    have hk48 : k < 48 := List.mem_range.mp hk
    simp [h (k / 2) (by omega) (k % 2) (by omega)]
  simp [State.clockCycle, hidle]

/-- Settles O1: step unfolds to the front command, and else to one cycle of the trees. -/
theorem stepRunsFront : Obligations.StepRunsFront := by
  have hempty (s : State) (hq : s.pending = []) : step s = .next s.clockCycle := by simp [step, hq]
  refine ⟨fun c rest s hq => step_cons hq, hempty, fun s hq hidle => ?_⟩
  rw [hempty s hq, State.clockCycle_eq_self hidle]

/-! ### The state after reset -/

/-- No register of the field lies among those that resetRegs lists: its registers end below 0x400010, begin above 0x400040, or are not
listed one by one. -/
def Fld.unlisted (f : Fld) : Bool :=
  decide (f.addr + f.s1 * f.n1 + f.s2 * f.n2 < 0x400010) || decide (0x400040 < f.addr) ||
    (List.range f.n1).all (fun i => (List.range f.n2).all (fun j => (Assoc.find? (f.key i j) resetRegs).isNone))

/-- Every field of the maps but those of the DMC_MAP_LO registers is unlisted in resetRegs. -/
theorem unlisted_of_mem_mapAll : ∀ row ∈ mapAll, ∀ f ∈ row.flds, f.addr ≠ DMC_MAP_LO_MASK.addr → f.unlisted = true := by
  decide +kernel

/-- The keys that resetRegs lists lie between those of 0x400010 and 0x400040. -/
theorem find?_resetRegs_eq_none {k : Nat} (h : k < 32 * 0x400010 ∨ 32 * 0x400041 ≤ k) : Assoc.find? k resetRegs = none := by
  have hk : ∀ e ∈ resetRegs, e.1 ≠ k := by
    have hkeys : ∀ e ∈ resetRegs, 32 * 0x400010 ≤ e.1 ∧ e.1 < 32 * 0x400041 := by decide
    intro e he heq
    have := hkeys e he
    omega
  generalize resetRegs = l at hk
  induction l with
  | nil => rfl
  | cons e l ih =>
    rw [Assoc.find?, if_neg (hk e (List.mem_cons_self ..))]
    exact ih fun x hx => hk x (List.mem_cons_of_mem _ hx)

theorem Fld.find?_resetRegs {f : Fld} (hf : f.unlisted = true) (hlo : f.lo < 32) {i j : Nat} (hi : i < f.n1) (hj : j < f.n2) :
    Assoc.find? (f.key i j) resetRegs = none := by
  simp only [Fld.unlisted, Bool.or_eq_true, decide_eq_true_eq, List.all_eq_true, List.mem_range, Option.isNone_iff_eq_none] at hf
  obtain (hend | hbegin) | hall := hf
  · have hi1 : f.s1 * i ≤ f.s1 * f.n1 := Nat.mul_le_mul_left _ hi.le
    have hj1 : f.s2 * j ≤ f.s2 * f.n2 := Nat.mul_le_mul_left _ hj.le
    exact find?_resetRegs_eq_none (.inl (by unfold Fld.key; omega))
  · exact find?_resetRegs_eq_none (.inr (by unfold Fld.key; omega))
  · exact hall i hi j hj

/-- Every register field lies within its 32-bit word. -/
theorem lo_lt_of_mem_mapAll : ∀ row ∈ mapAll, ∀ f ∈ row.flds, f.lo < 32 := by decide +kernel

/-- Settles O53: the maps' fields are unlisted in the registers at reset, and the rest is read off State.reset. -/
theorem resetState : Obligations.ResetState := by
  refine ⟨rfl, rfl, rfl, rfl, rfl, rfl, rfl, rfl, fun a => ⟨rfl, rfl, rfl⟩, ?_, fun n w => rfl, fun s n w => rfl⟩
  intro row hrow f hf haddr i j hi hj
  rw [State.get2, Assoc.get]
  show (Assoc.find? (f.key i j) resetRegs).getD f.reset = f.reset
  rw [Fld.find?_resetRegs (unlisted_of_mem_mapAll row hrow f hf haddr) (lo_lt_of_mem_mapAll row hrow f hf) hi hj]
  rfl

end Sys2Proof.Machine
end

section
/-! The mailbox doorbells (R389, R390, R395, R396, R399, R401): what a POST, an ABORT and the start time-out leave, and the proof of
Obligations.MailboxDoorbells. -/

namespace Sys2Proof.Machine

open Reg

/-! ### POST -/

/-- A command whose descriptor is outside R391 completes with BAD_ARG. -/
theorem State.mbxPost_badArg {s : State} {m : Nat} {c : KmiCmd} (hst : s.geti KMI_MBX_STATE m = 1 ∨ s.geti KMI_MBX_STATE m = 4)
    (hgen : c.gen = s.geti KMI_MBX_GEN m) (hwf : kmiWellFormed c = false) : s.mbxPost m c = (s.mbxTaken m c).kmiFinish m c stBadArg 0 0 [] [] := by
  simp only [State.mbxPost, if_pos hst, hgen, hwf, ne_eq, not_true_eq_false, if_false, if_true, State.mbxTaken]

/-- A command with a host buffer while PF0 is no bus master completes with BAD_STATE. -/
theorem State.mbxPost_badState {s : State} {m : Nat} {c : KmiCmd} (hst : s.geti KMI_MBX_STATE m = 1 ∨ s.geti KMI_MBX_STATE m = 4)
    (hgen : c.gen = s.geti KMI_MBX_GEN m) (hwf : kmiWellFormed c = true) (hbuf : c.hostBuf = true) (hbme : bitB s.hlk.bme 0 = false) :
    s.mbxPost m c = (s.mbxTaken m c).kmiFinish m c stBadState 0 0 [] [] := by
  simp only [State.mbxPost, if_pos hst, hgen, hwf, hbuf, hbme, ne_eq, not_true_eq_false, Bool.true_eq_false, if_false, and_self, if_true,
    State.mbxTaken]

/-- A POST outside IDLE and DONE is counted and discarded. -/
theorem State.mbxPost_discarded {s : State} {m : Nat} (c : KmiCmd) (hst : s.geti KMI_MBX_STATE m = 2 ∨ s.geti KMI_MBX_STATE m = 3) :
    s.mbxPost m c = s.inc KMI_CNT_WR_DISCARD := by
  have hno : ¬(s.geti KMI_MBX_STATE m = 1 ∨ s.geti KMI_MBX_STATE m = 4) := by omega
  simp only [State.mbxPost, if_neg hno]

/-- Taking a command and completing it at once leaves the mailbox DONE and the posted queue as it was. -/
theorem State.mbxTaken_kmiFinish_done (s : State) {m : Nat} (c : KmiCmd) (st : Nat) (hm : m < s.kmi.mbx.length) :
    KmiDone ((s.mbxTaken m c).kmiFinish m c st 0 0 [] []) m st [] 0 ∧
      ((s.mbxTaken m c).kmiFinish m c st 0 0 [] []).kmi.postQ = s.kmi.postQ :=
  ⟨kmiFinish_done _ _ _ _ _ _ _ _ (by simpa using hm), (State.kmiFinish_queues ..).1.trans (State.mbxTaken_postQ ..)⟩

theorem State.mbx_mbxTaken (s : State) {m : Nat} (c : KmiCmd) (hm : m < s.kmi.mbx.length) :
    (s.mbxTaken m c).mbx m = { s.mbx m with cmd := some c, compl := none } :=
  State.mbx_setMbx s m _ hm

/-! ### ABORT -/

/-- The generation an ABORT goes on to is none that an executing command of the mailbox carries. -/
theorem State.nextGen_spec {s : State} {m g : Nat} (h : s.nextGen m = some g) : g < 16 ∧ ∀ r ∈ s.kmi.running, r.mbx = m → r.cmd.gen ≠ g := by
  unfold State.nextGen at h
  extract_lets used cur at h
  have hfree : g ∉ used := by simpa using List.find?_some h
  have hmem := List.mem_of_find?_eq_some h
  obtain ⟨i, -, hi⟩ := List.mem_map.mp hmem
  refine ⟨hi ▸ Nat.mod_lt _ (by decide), fun r hr hrm heq => hfree ?_⟩
  exact List.mem_map.mpr ⟨r, List.mem_filter.mpr ⟨hr, by simpa using hrm⟩, heq⟩

/-- The commands of the mailbox that execute are marked abandoned. -/
def abandonRunning (m : Nat) (rs : List RunCmd) : List RunCmd := rs.map (fun r => if r.mbx = m then { r with abandoned := true } else r)

theorem abandonRunning_abandoned {m : Nat} {rs : List RunCmd} {r : RunCmd} (hr : r ∈ abandonRunning m rs) (hm : r.mbx = m) :
    r.abandoned = true := by
  obtain ⟨r0, -, rfl⟩ := List.mem_map.mp hr
  by_cases h0 : r0.mbx = m
  · simp [h0]
  · simp [h0] at hm

theorem State.kmiUnpost_postQ (s : State) (m : Nat) : m ∉ (s.kmiUnpost m).kmi.postQ := by simp [State.kmiUnpost]

@[simp] theorem State.kmiUnpost_mbx_length (s : State) (m : Nat) : (s.kmiUnpost m).kmi.mbx.length = s.kmi.mbx.length := rfl

/-- What an ABORT with a generation to go on to leaves of the KMI. -/
theorem State.kmiAbort_kmi {s : State} {m g : Nat} (h : s.nextGen m = some g) (hm : m < s.kmi.mbx.length) :
    ((s.kmiAbort m).mbx m).cmd = none ∧ m ∉ (s.kmiAbort m).kmi.postQ ∧ (s.kmiAbort m).kmi.running = abandonRunning m s.kmi.running := by
  simp only [State.kmiAbort, h]
  exact ⟨congrArg Mbx.cmd (State.mbx_setMbx _ m _ hm), s.kmiUnpost_postQ m, rfl⟩

/-- What an ABORT with a generation to go on to leaves of the registers. -/
theorem State.kmiAbort_regs {s : State} {m g : Nat} (h : s.nextGen m = some g) :
    (s.kmiAbort m).geti KMI_MBX_STATE m = 1 ∧ (s.kmiAbort m).geti KMI_MBX_GEN m = g % 16 ∧
      RegsBut [KMI_MBX_STATE, KMI_MBX_GEN] s (s.kmiAbort m) := by
  simp only [State.kmiAbort, h]
  refine ⟨State.geti_seti_self _ KMI_MBX_STATE m 1, ?_, ?_⟩
  · rw [State.geti_seti_ne _ _ _ _ _ _ (by simp [Fld.key, KMI_MBX_GEN, KMI_MBX_STATE])]
    exact State.geti_seti_self _ KMI_MBX_GEN m g
  · exact ((RegsBut.of_eq _ rfl).trans (RegsBut.set2 _ _ KMI_MBX_GEN m 0 g (by simp))).trans (RegsBut.set2 _ _ KMI_MBX_STATE m 0 1 (by simp))

theorem SameBut.kmiAbort (s : State) (m : Nat) : SameBut [.kmi, .regs] s (s.kmiAbort m) := by
  unfold State.kmiAbort
  cases s.nextGen m with
  | none => exact SameBut.refl _ s
  | some g => intro p hp; cases p <;> simp at hp <;> rfl

/-! ### The start time-out of an exclusive command (R399) -/

@[simp] theorem State.reach_kmi (s : State) (t : Nat) : (s.reach t).kmi = s.kmi := by
  unfold State.reach; split <;> rfl

/-- An exclusive command still posted at its start time-out completes with BUSY; when that is does not matter here. -/
theorem exec_exclusiveStartTimeout {s : State} {m : Nat} {c : KmiCmd} (hm : m < 15) (hcmd : (s.mbx m).cmd = some c)
    (hst : s.geti KMI_MBX_STATE m = 2) (hexcl : kmiExclusive c = true) (hfw : s.flag KMI_CTRL_FW_READY = true) :
    ∃ t, exec (.exclusiveStartTimeout m) s = .next (((s.reach t).kmiUnpost m).kmiFinish m c stBusy 0 0 [] []) := by
  change ∃ t, execExclusiveStartTimeout m s = _
  rw [execExclusiveStartTimeout, if_neg (by omega), hcmd]
  exact ⟨_, if_pos ⟨hst, hexcl, hfw⟩⟩

end Sys2Proof.Machine

open Sys2Proof.Machine Sys2Proof.Machine.Reg

/-- Settles O2: each doorbell leads to one of the states named above, by the mailbox's STATE and the checks of the command. -/
theorem mailboxDoorbells : Obligations.MailboxDoorbells := by
  unfold Obligations.MailboxDoorbells
  refine ⟨?post, ?discard, ?wake, ?ack, ?abort, ?noAbort, fun s m g h => State.nextGen_spec h, ?evtAck, ?unreached, ?timeout⟩
  case post =>
    intro s m c hlen hm hreach hcur hvote hent hst
    have hexec := exec_mbxPost_run c hm hreach hcur hvote hent
    have hsleep := State.geti_congr s.touchSleep_regs
    have hst' : s.touchSleep.geti KMI_MBX_STATE m = 1 ∨ s.touchSleep.geti KMI_MBX_STATE m = 4 := by simpa only [hsleep] using hst
    have hgen' : ∀ {g}, g = s.geti KMI_MBX_GEN m → g = s.touchSleep.geti KMI_MBX_GEN m := fun h => h.trans (hsleep _ _).symm
    refine ⟨fun hgen hwf hbuf => ?_, fun hgen => ?_, fun hgen hwf => ?_, fun hgen hwf hbuf hbme => ?_⟩
    · refine ⟨_, hexec.trans (congrArg _ (State.mbxPost_posted hst' (hgen' hgen) hwf hbuf)), s.touchSleep.mbxTaken_state m c,
        congrArg Mbx.cmd (s.touchSleep.mbx_mbxTaken c hlen), congrArg Mbx.compl (s.touchSleep.mbx_mbxTaken c hlen), rfl, ?_,
        RegsBut.set2 _ s KMI_MBX_STATE m 0 2 (by simp)⟩
      intro p hp; cases p <;> simp at hp <;> rfl
    · exact ⟨_, hexec.trans (congrArg _ (State.mbxPost_stale hst' (by rwa [hsleep]))), s.touchSleep.mbxTaken_kmiFinish_done c _ hlen⟩
    · exact ⟨_, hexec.trans (congrArg _ (State.mbxPost_badArg hst' (hgen' hgen) hwf)), s.touchSleep.mbxTaken_kmiFinish_done c _ hlen⟩
    · exact ⟨_, hexec.trans (congrArg _ (State.mbxPost_badState hst' (hgen' hgen) hwf hbuf hbme)), s.touchSleep.mbxTaken_kmiFinish_done c _ hlen⟩
  case discard =>
    intro s m c hm hreach hcur hvote hent hst
    have hst' : s.touchSleep.geti KMI_MBX_STATE m = 2 ∨ s.touchSleep.geti KMI_MBX_STATE m = 3 := by
      simpa only [State.geti_congr s.touchSleep_regs] using hst
    refine ⟨_, (exec_mbxPost_run c hm hreach hcur hvote hent).trans (congrArg _ (State.mbxPost_discarded c hst')),
      State.geti_seti_self _ KMI_CNT_WR_DISCARD 0 _, rfl, ?_, RegsBut.set2 _ s KMI_CNT_WR_DISCARD 0 0 _ (by simp)⟩
    intro p hp; cases p <;> simp at hp <;> rfl
  case wake =>
    intro s m c hm hreach
    change execMbxPost m c s = _
    rw [execMbxPost, if_neg (by omega), if_neg (by simp [hreach])]
  case ack =>
    intro s m hm hreach
    have hexec : exec (.mbxAck m) s = execMbxAck m s := rfl
    refine ⟨fun hst => ⟨s.seti KMI_MBX_STATE m 1, ?_, State.geti_seti_self _ KMI_MBX_STATE m 1, SameBut.set2 _ _ _ _ _,
      RegsBut.set2 _ _ _ _ _ _ (by simp)⟩, fun hst => ?_⟩
    · rw [hexec, execMbxAck, if_neg (by omega), if_pos ⟨hreach, hst⟩]
    · rw [hexec, execMbxAck, if_neg (by omega), if_neg (fun h => hst h.2)]
  case abort =>
    intro s m g hlen hm hreach hst hg
    obtain ⟨hcmd, hpostQ, hrun⟩ := State.kmiAbort_kmi hg hlen
    obtain ⟨hstate, hgen, hregs⟩ := State.kmiAbort_regs hg
    refine ⟨s.kmiAbort m, ?_, hstate, hgen, hcmd, hpostQ, fun r hr => abandonRunning_abandoned (hrun ▸ hr), SameBut.kmiAbort s m, hregs⟩
    change execMbxAbort m s = _
    rw [execMbxAbort, if_neg (by omega), if_pos ⟨hreach, hst⟩]
  case noAbort =>
    intro s m hm _ h2 h3
    change execMbxAbort m s = _
    rw [execMbxAbort, if_neg (by omega), if_neg (fun h => h.2.elim h2 h3)]
  case evtAck =>
    intro s n hreach
    refine ⟨{ s with kmi := { s.kmi with evtAck := n % 2 ^ 32 } }, ?_, rfl, ?_⟩
    · change execMbxEvtAck n s = _
      rw [execMbxEvtAck, if_pos hreach]
    · intro p hp; cases p <;> simp at hp <;> rfl
  case unreached =>
    intro s m n c hm hreach
    refine ⟨?_, ?_, ?_, ?_⟩
    · change execMbxPost m c s = _
      rw [execMbxPost, if_neg (by omega), if_pos hreach]
    · change execMbxAck m s = _
      rw [execMbxAck, if_neg (by omega), if_neg (by simp [hreach])]
    · change execMbxAbort m s = _
      rw [execMbxAbort, if_neg (by omega), if_neg (by simp [hreach])]
    · change execMbxEvtAck n s = _
      rw [execMbxEvtAck, if_neg (by simp [hreach])]
  case timeout =>
    intro s m c hm hcmd hst hexcl hfw hlen
    obtain ⟨t, hexec⟩ := exec_exclusiveStartTimeout hm hcmd hst hexcl hfw
    refine ⟨_, hexec, kmiFinish_done ((s.reach t).kmiUnpost m) m c stBusy 0 0 [] [] (by simpa using hlen), ?_⟩
    rw [(State.kmiFinish_queues ..).1]
    exact State.kmiUnpost_postQ _ m
end

section
/-! Bytes: little-endian fields, the CRC-32's width, runs of Pantry bytes (R425), the settings records built of them (R422, R423), and the proof
of Obligations.SettingsRecords. -/

namespace Sys2Proof.Machine

open Reg

/-! ### Little-endian fields -/

@[simp] theorem length_leBytes (n v : Nat) : (leBytes n v).length = n := by
  induction n generalizing v with
  | zero => rfl
  | succ n ih => simp [leBytes, ih]

@[simp] theorem length_sliceBytes (l : List Nat) (o n : Nat) : (sliceBytes l o n).length = n := by simp [sliceBytes]

theorem leBytes_lt {n v b : Nat} (h : b ∈ leBytes n v) : b < 256 := by
  induction n generalizing v with
  | zero => cases h
  | succ n ih =>
    rcases List.mem_cons.mp h with rfl | h
    · exact Nat.mod_lt _ (by decide)
    · exact ih h

@[simp] theorem leNat_leBytes (n v : Nat) : leNat (leBytes n v) = v % 256 ^ n := by
  induction n generalizing v with
  | zero => simp [leBytes, leNat, Nat.mod_one]
  | succ n ih => rw [leBytes, leNat, ih, Nat.mod_mod, Nat.pow_succ', Nat.mod_mul]

theorem leNat_lt (l : List Nat) : leNat l < 256 ^ l.length := by
  induction l with
  | nil => simp [leNat]
  | cons b t ih => simp only [leNat, List.length_cons, Nat.pow_succ]; omega

/-- The bytes of a list that lie between a prefix and a rest. -/
theorem sliceBytes_append_mid (p l r : List Nat) : sliceBytes (p ++ (l ++ r)) p.length l.length = l := by
  apply List.ext_getElem (by simp)
  intro i h1 h2
  simp only [sliceBytes, List.getElem_map, List.getElem_range, List.getD_eq_getElem?_getD]
  rw [List.getElem?_append_right (by omega), Nat.add_sub_cancel_left, List.getElem?_append_left h2]
  simp [h2]

/-- A field that a list's middle part encodes. -/
theorem leField_append_mid (p r : List Nat) {o n : Nat} (v : Nat) (ho : p.length = o) : leField (p ++ (leBytes n v ++ r)) o n = v % 256 ^ n := by
  have h := sliceBytes_append_mid p (leBytes n v) r
  rw [length_leBytes, ho] at h
  rw [leField, h, leNat_leBytes]

/-! ### CRC-32 -/

theorem crc32Shift_lt {r : Nat} (h : r < 2 ^ 32) : crc32Shift r < 2 ^ 32 := by
  unfold crc32Shift
  split
  · exact Nat.xor_lt_two_pow (by omega) (by decide)
  · omega

theorem crc32Byte_lt {r : Nat} (b : Nat) (h : r < 2 ^ 32) : crc32Byte r b < 2 ^ 32 := by
  have hfold : ∀ (l : List Nat) (x : Nat), x < 2 ^ 32 → l.foldl (fun r _ => crc32Shift r) x < 2 ^ 32 := by
    intro l
    induction l with
    | nil => exact fun x hx => hx
    | cons _ t ih => exact fun x hx => ih _ (crc32Shift_lt hx)
  exact hfold _ _ (Nat.xor_lt_two_pow h (by omega))

/-- The CRC-32 of any list has 32 bits. -/
theorem crc32_lt (l : List Nat) : crc32 l < 2 ^ 32 := by
  have hfold : ∀ (l : List Nat) (x : Nat), x < 2 ^ 32 → l.foldl crc32Byte x < 2 ^ 32 := by
    intro l
    induction l with
    | nil => exact fun x hx => hx
    | cons b t ih => exact fun x hx => ih _ (crc32Byte_lt b hx)
  exact Nat.xor_lt_two_pow (hfold l _ (by decide)) (by decide)

/-! ### Pantry bytes (R425) -/

@[simp] theorem State.length_pBytes (s : State) (a n : Nat) : (s.pBytes a n).length = n := by simp [State.pBytes]

theorem State.pBytes_congr {s t : State} (a n : Nat) (h : ∀ i < n, t.pByte (a + i) = s.pByte (a + i)) : t.pBytes a n = s.pBytes a n :=
  List.map_congr_left fun i hi => h i (List.mem_range.mp hi)

theorem State.pByte_pWrite_in (s : State) (a : Nat) (l : List Nat) {i : Nat} (h : i < l.length) : (s.pWrite a l).pByte (a + i) = l[i] % 256 := by
  change Assoc.get 0xFF (a + i) (Assoc.writeRun 0xFF a (l.map (· % 256)) s.pantry) = _
  rw [Assoc.get_writeRun_in _ _ _ _ (by simpa using h)]
  simp

theorem State.pByte_pWrite_out (s : State) (a : Nat) (l : List Nat) {x : Nat} (h : x < a ∨ a + l.length ≤ x) :
    (s.pWrite a l).pByte x = s.pByte x :=
  Assoc.get_writeRun_out _ _ _ _ (by simpa using h)

/-- A run of bytes just written. -/
theorem State.pBytes_pWrite (s : State) (a : Nat) (l : List Nat) (hl : ∀ b ∈ l, b < 256) : (s.pWrite a l).pBytes a l.length = l := by
  apply List.ext_getElem (by simp)
  intro i h1 h2
  simp only [State.pBytes, List.getElem_map, List.getElem_range]
  rw [State.pByte_pWrite_in _ _ _ h2, Nat.mod_eq_of_lt (hl _ (List.getElem_mem h2))]

/-- A run of bytes away from those just written. -/
theorem State.pBytes_pWrite_disjoint (s : State) (a x n : Nat) (l : List Nat) (h : x + n ≤ a ∨ a + l.length ≤ x) :
    (s.pWrite a l).pBytes x n = s.pBytes x n :=
  State.pBytes_congr _ _ fun i hi => State.pByte_pWrite_out _ _ _ (by omega)

@[simp] theorem State.pBytes_pMark (s : State) (a n x k : Nat) : (s.pMark a n).pBytes x k = s.pBytes x k := rfl

/-- Entries outside a cleared run read as before. -/
theorem Assoc.get_clearRun_out {α : Type} (d : α) (lo n : Nat) (m : Assoc α) {k : Nat} (h : k < lo ∨ lo + n ≤ k) :
    Assoc.get d k (Assoc.clearRun lo n m) = Assoc.get d k m := by
  have hkeep : Assoc.find? k (Assoc.clearRun lo n m) = Assoc.find? k m := by
    induction m with
    | nil => rfl
    | cons e t ih =>
      obtain ⟨k', v⟩ := e
      simp only [Assoc.clearRun, List.filter_cons] at ih ⊢
      by_cases hk : k' = k
      · subst hk
        have hin : (!(decide (lo ≤ k') && decide (k' < lo + n))) = true := by simp; omega
        simp only [hin, if_true, Assoc.find?]
      · split <;> simp only [Assoc.find?, hk, if_false, ih]
  rw [Assoc.get, Assoc.get, hkeep]

theorem State.pBytes_pErase_disjoint (s : State) (a n x k : Nat) (h : x + k ≤ a ∨ a + n ≤ x) : (s.pErase a n).pBytes x k = s.pBytes x k :=
  State.pBytes_congr _ _ fun _ _ => Assoc.get_clearRun_out _ _ _ _ (by omega)

/-! ### Settings records (R422, R423) -/

/-- The header of a settings record, without its CRC. -/
def recordHead (kind seq len : Nat) : List Nat := leBytes 4 0x44524350 ++ [kind, 1] ++ leBytes 2 len ++ leBytes 4 seq

@[simp] theorem length_recordHead (kind seq len : Nat) : (recordHead kind seq len).length = 12 := by simp [recordHead]

/-- The state after firmware has put a record into bank `b`. -/
def State.recordPut (s : State) (b kind seq : Nat) (body : List Nat) : State :=
  let a := 2 ^ 24 * b + (settingsSpan kind).1
  let h := recordHead kind seq body.length
  (((((s.pErase a (settingsSpan kind).2).pWrite (a + 256) body).pMark (a + 256) body.length).pWrite a (h ++ leBytes 4 (crc32 (h ++ body)))).pMark
    a 16)

/-- The spans of the records lie inside one bank. -/
theorem settingsSpan_lt (kind : Nat) : 0x1000 ≤ (settingsSpan kind).2 ∧ (settingsSpan kind).2 ≤ 0x4000 ∧
    (settingsSpan kind).1 + (settingsSpan kind).2 ≤ 2 ^ 24 := by
  unfold settingsSpan
  split <;> decide

section
variable (s : State) (b kind seq : Nat) (body : List Nat) (hbody : ∀ x ∈ body, x < 256)

/-- The fields of a record's header. -/
theorem recordHead_fields (crc : Nat) (hk : kind < 256) (hlen : body.length < 65536) :
    let h := recordHead kind seq body.length ++ leBytes 4 crc
    leField h 0 4 = 0x44524350 ∧ leField h 4 1 = kind ∧ leField h 5 1 = 1 ∧ leField h 6 2 = body.length ∧ leField h 8 4 = seq % 2 ^ 32 ∧
      leField h 12 4 = crc % 2 ^ 32 := by
  have hkind : [kind, 1] = leBytes 1 kind ++ leBytes 1 1 := by simp [leBytes, Nat.mod_eq_of_lt hk]
  obtain ⟨g, hg⟩ : ∃ g, g = 0x44524350 := ⟨_, rfl⟩
  have h0 := leField_append_mid (o := 0) (n := 4) [] ([kind, 1] ++ leBytes 2 body.length ++ leBytes 4 seq ++ leBytes 4 crc) g (by simp)
  have h4 := leField_append_mid (o := 4) (n := 1) (leBytes 4 g) (leBytes 1 1 ++ leBytes 2 body.length ++ leBytes 4 seq ++ leBytes 4 crc) kind (by simp)
  have h5 := leField_append_mid (o := 5) (n := 1) (leBytes 4 g ++ leBytes 1 kind) (leBytes 2 body.length ++ leBytes 4 seq ++ leBytes 4 crc) 1 (by simp)
  have h6 := leField_append_mid (o := 6) (n := 2) (leBytes 4 g ++ [kind, 1]) (leBytes 4 seq ++ leBytes 4 crc) body.length (by simp)
  have h8 := leField_append_mid (o := 8) (n := 4) (leBytes 4 g ++ [kind, 1] ++ leBytes 2 body.length) (leBytes 4 crc) seq (by simp)
  have h12 := leField_append_mid (o := 12) (n := 4) (recordHead kind seq body.length) [] crc (by simp)
  simp only [recordHead, ← hg, hkind, List.append_assoc, List.nil_append, List.append_nil] at h0 h4 h5 h6 h8 h12 ⊢
  refine ⟨h0.trans (by omega), h4.trans (by omega), h5.trans (by norm_num), h6.trans (by omega), h8.trans (by norm_num), h12.trans (by norm_num)⟩

include hbody

/-- The record just put is valid, with its SEQ and body. -/
theorem State.settingsCopy_recordPut_same (hk : kind < 256) (hlen : body.length + 256 ≤ (settingsSpan kind).2) :
    (s.recordPut b kind seq body).settingsCopy b kind = some (seq % 2 ^ 32, body) := by
  obtain ⟨-, hspan, -⟩ := settingsSpan_lt kind
  obtain ⟨hmagic, hkind, hone, hflen, hseq, hcrc⟩ :=
    recordHead_fields kind seq body (crc32 (recordHead kind seq body.length ++ body)) hk (by omega)
  obtain ⟨hd, hhd⟩ : ∃ x, x = recordHead kind seq body.length ++ leBytes 4 (crc32 (recordHead kind seq body.length ++ body)) := ⟨_, rfl⟩
  rw [← hhd] at hmagic hkind hone hflen hseq hcrc
  have hdlen : hd.length = 16 := by simp [hhd]
  have hdlt : ∀ x ∈ hd, x < 256 := by
    have h4 : ∀ {n v x}, x ∈ leBytes n v → x < 256 := leBytes_lt
    intro x hx
    simp only [hhd, recordHead, List.mem_append, List.mem_cons, List.not_mem_nil, or_false] at hx
    rcases hx with (((hx | rfl | rfl) | hx) | hx) | hx
    · exact h4 hx
    · exact hk
    · decide
    · exact h4 hx
    · exact h4 hx
    · exact h4 hx
  have hhead : (s.recordPut b kind seq body).pBytes (2 ^ 24 * b + (settingsSpan kind).1) 16 = hd := by
    have := State.pBytes_pWrite (((s.pErase (2 ^ 24 * b + (settingsSpan kind).1) (settingsSpan kind).2).pWrite
      (2 ^ 24 * b + (settingsSpan kind).1 + 256) body).pMark (2 ^ 24 * b + (settingsSpan kind).1 + 256) body.length)
      (2 ^ 24 * b + (settingsSpan kind).1) hd hdlt
    rw [hdlen] at this
    simpa only [State.recordPut, ← hhd, State.pBytes_pMark] using this
  have htail : (s.recordPut b kind seq body).pBytes (2 ^ 24 * b + (settingsSpan kind).1 + 256) body.length = body := by
    simp only [State.recordPut, ← hhd, State.pBytes_pMark]
    rw [State.pBytes_pWrite_disjoint _ _ _ _ _ (by omega), State.pBytes_pMark, State.pBytes_pWrite _ _ _ hbody]
  have htake : hd.take 12 = recordHead kind seq body.length := by simp [hhd]
  simp only [State.settingsCopy, hhead, hmagic, hkind, hone, hflen, hlen, htail, htake, hcrc, hseq, and_self, if_true,
    Nat.mod_eq_of_lt (crc32_lt _)]

omit hbody in
/-- The copy in the other bank is as it was. -/
theorem State.settingsCopy_recordPut_other {c : Nat} (hc : c ≠ b) (hlen : body.length + 256 ≤ (settingsSpan kind).2) :
    (s.recordPut b kind seq body).settingsCopy c kind = s.settingsCopy c kind := by
  obtain ⟨-, hspan, hend⟩ := settingsSpan_lt kind
  have hbank : c < b ∨ b < c := by omega
  have hsame : ∀ x n, (2 ^ 24 * c + (settingsSpan kind).1 ≤ x ∧ x + n ≤ 2 ^ 24 * c + (settingsSpan kind).1 + (settingsSpan kind).2) →
      (s.recordPut b kind seq body).pBytes x n = s.pBytes x n := by
    intro x n hx
    simp only [State.recordPut, State.pBytes_pMark]
    rw [State.pBytes_pWrite_disjoint _ _ _ _ _ (by simp; omega), State.pBytes_pMark, State.pBytes_pWrite_disjoint _ _ _ _ _ (by omega),
      State.pBytes_pErase_disjoint _ _ _ _ _ (by omega)]
  have h16 := hsame (2 ^ 24 * c + (settingsSpan kind).1) 16 (by omega)
  simp only [State.settingsCopy, h16]
  by_cases hfit : leField (s.pBytes (2 ^ 24 * c + (settingsSpan kind).1) 16) 6 2 + 256 ≤ (settingsSpan kind).2
  · rw [hsame _ _ (by omega)]
  · rw [if_neg (fun h => hfit h.2.2.2), if_neg (fun h => hfit h.2.2.2)]

end

/-- The successor of a SEQ is above it, modulo 2³². -/
theorem seqAbove_succ (x : Nat) : seqAbove ((x + 1) % 2 ^ 32) x = true ∧ seqAbove x ((x + 1) % 2 ^ 32) = false := by
  simp only [seqAbove, Bool.and_eq_true, decide_eq_true_eq, bne_iff_ne, Bool.and_eq_false_iff, decide_eq_false_iff_not]
  omega

/-- A write that no mark stops puts the record, with SEQ one above the newer copy's, over the invalid or older copy. -/
theorem State.settingsWrite_eq (s : State) (kind : Nat) (body : List Nat) (hn : s.pnt.nvwp = true) :
    s.settingsWrite kind body = match s.settingsCopy 0 kind, s.settingsCopy 1 kind with
      | none, none => s.recordPut 0 kind (0 % 2 ^ 32) body
      | none, some y => s.recordPut 0 kind ((y.1 + 1) % 2 ^ 32) body
      | some x, none => s.recordPut 1 kind ((x.1 + 1) % 2 ^ 32) body
      | some x, some y => if seqAbove y.1 x.1 then s.recordPut 0 kind ((y.1 + 1) % 2 ^ 32) body
          else s.recordPut 1 kind ((x.1 + 1) % 2 ^ 32) body := by
  unfold State.settingsWrite
  cases s.settingsCopy 0 kind <;> cases s.settingsCopy 1 kind <;> simp only [hn, Bool.not_true, Bool.and_false, Bool.false_eq_true, if_false]
  · rfl
  · rfl
  · rfl
  · split <;> rfl

end Sys2Proof.Machine

open Sys2Proof.Machine Sys2Proof.Machine.Reg

/-- Settles O20: the copy written is valid with the body, the other is as it was, and where both are valid the one written has the SEQ above. -/
theorem settingsRecords : Obligations.SettingsRecords := by
  unfold Obligations.SettingsRecords
  intro s kind body _ hk4 hlen hbody hn
  have hput := fun b seq => s.settingsCopy_recordPut_same b kind seq body hbody (by omega) hlen
  have h01 := fun seq => s.settingsCopy_recordPut_other 0 kind seq body (c := 1) (by decide) hlen
  have h10 := fun seq => s.settingsCopy_recordPut_other 1 kind seq body (c := 0) (by decide) hlen
  rw [State.settingsWrite_eq _ _ _ hn]
  cases h0 : s.settingsCopy 0 kind with
  | none =>
    cases h1 : s.settingsCopy 1 kind with
    | none => simp only [State.settingsRead, hput, h01, h1]
    | some y => simp only [State.settingsRead, hput, h01, h1, Nat.mod_mod, (seqAbove_succ y.1).2, Bool.false_eq_true, if_false]
  | some x =>
    cases h1 : s.settingsCopy 1 kind with
    | none => simp only [State.settingsRead, hput, h10, h0, Nat.mod_mod, (seqAbove_succ x.1).1, if_true]
    | some y =>
      simp only
      split
      · simp only [State.settingsRead, hput, h01, h1, Nat.mod_mod, (seqAbove_succ y.1).2, Bool.false_eq_true, if_false]
      · simp only [State.settingsRead, hput, h10, h0, Nat.mod_mod, (seqAbove_succ x.1).1, if_true]
end

section
/-! Frames, step by step: what a write, an outward message, a Ledger entry or a KMI completion adds to a frame that the state before it meets; and
the outcome of a KMI command that may start. -/

namespace Sys2Proof.Machine

open Reg

/-! ### Register frames -/

section
variable {l : List Fld} {s t : State}

theorem RegsBut.mono {l' : List Fld} (h : RegsBut l s t) (hl : ∀ f ∈ l, f ∈ l') : RegsBut l' s t :=
  fun k hk => h k fun f hf => hk f (hl f hf)

/-- An update that leaves the registers alone. -/
theorem RegsBut.upd {u : State} (h : RegsBut l s t) (hu : u.regs = t.regs) : RegsBut l s u := h.trans (RegsBut.of_eq l hu)

theorem RegsBut.put2 {f : Fld} {i j v : Nat} (h : RegsBut l s t) (hf : f ∈ l) : RegsBut l s (t.set2 f i j v) :=
  h.trans (RegsBut.set2 l t f i j v hf)

theorem RegsBut.seti {f : Fld} {i v : Nat} (h : RegsBut l s t) (hf : f ∈ l) : RegsBut l s (t.seti f i v) := h.put2 hf

theorem RegsBut.set {f : Fld} {v : Nat} (h : RegsBut l s t) (hf : f ∈ l) : RegsBut l s (t.set f v) := h.put2 hf

theorem RegsBut.inci {f : Fld} {i : Nat} (h : RegsBut l s t) (hf : f ∈ l) : RegsBut l s (t.inci f i) := h.put2 hf

theorem RegsBut.inc {f : Fld} (h : RegsBut l s t) (hf : f ∈ l) : RegsBut l s (t.inc f) := h.put2 hf

theorem RegsBut.setNow {x : Nat} (h : RegsBut l s t) (hlo : MSU_TIME_LO ∈ l) (hhi : MSU_TIME_HI ∈ l) : RegsBut l s (t.setNow x) :=
  (h.set hlo).set hhi

theorem RegsBut.led {c d : Nat} (h : RegsBut l s t) (hl : ∀ f ∈ ledgerFlds, f ∈ l) : RegsBut l s (t.ledger c d) :=
  h.trans ((RegsBut.ledger t c d).mono hl)

theorem RegsBut.fold {β : Type} {g : State → β → State} (hg : ∀ u b, RegsBut l u (g u b)) (xs : List β) (h : RegsBut l s t) :
    RegsBut l s (xs.foldl g t) := by
  induction xs generalizing t with
  | nil => exact h
  | cons x xs ih => exact ih (h.trans (hg t x))

/-- A field that a register frame keeps, read through. -/
theorem RegsBut.geti {f : Fld} {i : Nat} (h : RegsBut l s t) (hf : ∀ g ∈ l, ∀ a b, f.key i 0 ≠ g.key a b) : t.geti f i = s.geti f i :=
  h.get2 f i 0 hf

theorem RegsBut.get {f : Fld} (h : RegsBut l s t) (hf : ∀ g ∈ l, ∀ a b, f.key 0 0 ≠ g.key a b) : t.get f = s.get f := h.get2 f 0 0 hf

end

/-! ### Component frames -/

section
variable {l : List Part} {s t : State}

/-- A step inside the frame. -/
theorem SameBut.step {l' : List Part} {u : State} (h : SameBut l s t) (k : SameBut l' t u) (hl : ∀ p ∈ l', p ∈ l) : SameBut l s u :=
  h.trans (k.mono hl)

theorem SameBut.put2 {f : Fld} {i j v : Nat} (h : SameBut l s t) (hl : .regs ∈ l) : SameBut l s (t.set2 f i j v) :=
  h.step (SameBut.set2 t f i j v) (by simpa using hl)

theorem SameBut.seti {f : Fld} {i v : Nat} (h : SameBut l s t) (hl : .regs ∈ l) : SameBut l s (t.seti f i v) := h.put2 hl

theorem SameBut.set {f : Fld} {v : Nat} (h : SameBut l s t) (hl : .regs ∈ l) : SameBut l s (t.set f v) := h.put2 hl

theorem SameBut.inci {f : Fld} {i : Nat} (h : SameBut l s t) (hl : .regs ∈ l) : SameBut l s (t.inci f i) := h.put2 hl

theorem SameBut.inc {f : Fld} (h : SameBut l s t) (hl : .regs ∈ l) : SameBut l s (t.inc f) := h.put2 hl

theorem SameBut.now {x : Nat} (h : SameBut l s t) (hl : .regs ∈ l) : SameBut l s (t.setNow x) := (h.set hl).set hl

theorem SameBut.led {c d : Nat} (h : SameBut l s t) (hl : ∀ p ∈ [Part.kmi, .ldg, .regs, .out, .pba], p ∈ l) : SameBut l s (t.ledger c d) :=
  h.step (SameBut.ledger t c d) hl

theorem SameBut.sent {o : Out} (h : SameBut l s t) (hl : .out ∈ l) : SameBut l s (t.emit o) := h.step (SameBut.emit t o) (by simpa using hl)

end

/-! ### The outcome of a KMI command -/

@[simp] theorem State.kmiFinish_mbx_length (s : State) (m : Nat) (c : KmiCmd) (st fl d : Nat) (r data : List Nat) :
    (s.kmiFinish m c st fl d r data).kmi.mbx.length = s.kmi.mbx.length := by
  unfold State.kmiFinish
  extract_lets limit written trunc s1 compl b s2
  have h1 : s1.kmi = s.kmi := by simp only [s1]; split <;> rfl
  have h2 : s2.kmi.mbx.length = s.kmi.mbx.length := by
    change (s1.kmi.mbx.set m _).length = _
    rw [List.length_set, h1]
  split
  · rw [State.msix_kmi, h2]
  · exact h2

/-- What is kept counts the mailboxes. -/
theorem State.mbx_length_of_kept {s t : State} (h : t.kept = s.kept) : t.kmi.mbx.length = s.kmi.mbx.length :=
  List.head_eq_of_cons_eq (congrArg Kept.units h)

/-- A command that delivers its results from the state `u`: the completion, and what delivering it leaves of `u`. -/
theorem kmi_delivers {op m : Nat} {body : KmiCmd → State → KmiRes} {s u : State} {c : KmiCmd} {st d : Nat} {r data : List Nat}
    (h : KmiReady s op m c) (hb : body c (s.kmiUnpost m) = .fin u st d r data) (hl : u.kmi.mbx.length = s.kmi.mbx.length) :
    ∃ t, kmiCommand op m body s = .next t ∧ KmiDone t m st r data.length ∧ KmiData t m c data ∧ SameBut [.kmi, .regs, .out, .pba] u t ∧
      RegsBut [KMI_MBX_STATE] u t := by
  obtain ⟨hexec, hdone⟩ := kmi_fin h hb hl
  have hm := kmiReady_lt h
  exact ⟨_, hexec, hdone, kmiFinish_data _ _ _ _ _ _ _ _ (by omega), SameBut.kmiFinish _ _ _ _ _ _ _ _, RegsBut.kmiFinish _ _ _ _ _ _ _ _⟩

/-- A command that only reads: its completion, and nothing else changed. -/
theorem kmi_reads {op m : Nat} {body : KmiCmd → State → KmiRes} {s : State} {c : KmiCmd} {st d : Nat} {r data : List Nat}
    (h : KmiReady s op m c) (hb : body c (s.kmiUnpost m) = .fin (s.kmiUnpost m) st d r data) :
    ∃ t, kmiCommand op m body s = .next t ∧ KmiDone t m st r data.length ∧ KmiData t m c data ∧ SameBut [.kmi, .regs, .out, .pba] s t ∧
      RegsBut [KMI_MBX_STATE] s t := by
  obtain ⟨t, hexec, hdone, hdata, hsame, hregs⟩ := kmi_delivers h hb rfl
  exact ⟨t, hexec, hdone, hdata, ((SameBut.kmiUnpost s m).mono (by simp)).trans hsame, (RegsBut.of_eq _ rfl).trans hregs⟩

/-- A command that goes on executing from the state `u`. -/
theorem kmi_executes {op m : Nat} {body : KmiCmd → State → KmiRes} {s u : State} {c : KmiCmd} {w : Bool} {k : Nat}
    (h : KmiReady s op m c) (hb : body c (s.kmiUnpost m) = .run u w k) :
    ∃ t, kmiCommand op m body s = .next t ∧ KmiRuns t m c ∧ SameBut [.kmi, .regs] u t ∧ RegsBut [KMI_MBX_STATE] u t ∧
      t.kmi.postQ = u.kmi.postQ ∧ t.kmi.running = u.kmi.running ++ [⟨m, c, w, false, k⟩] := by
  obtain ⟨hexec, hruns⟩ := kmi_run h hb
  refine ⟨_, hexec, hruns, ?_, (RegsBut.of_eq _ rfl).seti (by simp), rfl, rfl⟩
  intro p hp; cases p <;> simp at hp <;> rfl

section
variable {i : Instr} {op m : Nat} {body : KmiCmd → State → KmiRes} {s u : State} {c : KmiCmd} {st d k : Nat} {r data : List Nat} {w : Bool}
  {p : State → Prop} {x : Host.Outcome State Fault Refusal} (hx : exec i s = x) (hexec : x = kmiCommand op m body s) (hready : KmiReady s op m c)
include hx hexec hready

/-- A command that delivers its results from the state `u` answers every state that comes of delivering them. -/
theorem answers_delivers (hb : body c (s.kmiUnpost m) = .fin u st d r data) (hl : u.kmi.mbx.length = s.kmi.mbx.length)
    (hp : ∀ t, KmiDone t m st r data.length → KmiData t m c data → SameBut [.kmi, .regs, .out, .pba] u t → RegsBut [KMI_MBX_STATE] u t → p t) :
    Answers i s p := by
  obtain ⟨t, ht, hdone, hdata, hsame, hregs⟩ := kmi_delivers hready hb hl
  exact ⟨t, (hx.trans hexec).trans ht, hp t hdone hdata hsame hregs⟩

/-- A command that only reads. -/
theorem answers_reads (hb : body c (s.kmiUnpost m) = .fin (s.kmiUnpost m) st d r data)
    (hp : ∀ t, KmiDone t m st r data.length → KmiData t m c data → SameBut [.kmi, .regs, .out, .pba] s t → RegsBut [KMI_MBX_STATE] s t → p t) :
    Answers i s p := by
  obtain ⟨t, ht, hdone, hdata, hsame, hregs⟩ := kmi_reads hready hb
  exact ⟨t, (hx.trans hexec).trans ht, hp t hdone hdata hsame hregs⟩

/-- A command that goes on executing from the state `u`. -/
theorem answers_executes (hb : body c (s.kmiUnpost m) = .run u w k)
    (hp : ∀ t, KmiRuns t m c → SameBut [.kmi, .regs] u t → RegsBut [KMI_MBX_STATE] u t → t.kmi.postQ = u.kmi.postQ →
      t.kmi.running = u.kmi.running ++ [⟨m, c, w, false, k⟩] → p t) : Answers i s p := by
  obtain ⟨t, ht, hruns, hsame, hregs, hpostQ, hrunning⟩ := kmi_executes hready hb
  exact ⟨t, (hx.trans hexec).trans ht, hp t hruns hsame hregs hpostQ hrunning⟩

end

end Sys2Proof.Machine
end

section
/-! Reading registers (R403): the register map's rows, what a read leaves, and the proof of Obligations.RegisterReads. -/

namespace Sys2Proof.Machine

open Reg

/-! ### The register map -/

/-- A window's registers are among those of all maps. -/
theorem mem_mapAll_of_windowMap {a : Nat} {row : RegRow} (h : row ∈ windowMap a) : row ∈ mapAll := by
  unfold windowMap at h
  generalize a / 65536 = b at h
  -- The maps are long literals: membership goes down the appends without looking into them.
  delta mapAll
  split at h
  case h_20 =>
    by_cases hb : 0x400 ≤ b ∧ b < 0x440
    · rw [if_pos hb] at h
      exact List.mem_append_right _ h
    · rw [if_neg hb] at h
      exact absurd h List.not_mem_nil
  all_goals
    repeat (first
      | with_reducible exact h
      | with_reducible exact List.mem_append_right _ h
      | with_reducible refine List.mem_append_left _ ?_)

/-- A register found at an address is one of the maps. -/
theorem regAt_mem {a : Nat} {h : RegHit} (hr : regAt a = some h) : h.row ∈ mapAll := by
  obtain ⟨row, hrow, hhit⟩ := List.exists_of_findSome?_eq_some hr
  split at hhit
  · cases hhit
  · obtain ⟨ij, -, rfl⟩ := Option.map_eq_some_iff.mp hhit
    exact mem_mapAll_of_windowMap hrow

/-- Two fields of one register share its address and indices, lie below bit 32, and differ in their lowest bit. -/
def RegRow.sound (row : RegRow) : Bool :=
  row.flds.all fun f => row.flds.all fun g =>
    f.addr == g.addr && f.s1 == g.s1 && f.s2 == g.s2 && decide (f.lo < 32) && (f.lo != g.lo || f == g)

theorem mapAll_sound : mapAll.all RegRow.sound = true := by decide +kernel

/-- Fields of one register with the same key are the same. -/
theorem flds_eq_of_key_eq {row : RegRow} (hrow : row ∈ mapAll) {f g : Fld} (hf : f ∈ row.flds) (hg : g ∈ row.flds) {i j : Nat}
    (hk : f.key i j = g.key i j) : f = g := by
  have hsound := List.all_eq_true.mp (List.all_eq_true.mp (List.all_eq_true.mp mapAll_sound row hrow) f hf) g hg
  simp only [Bool.and_eq_true, beq_iff_eq, decide_eq_true_eq, Bool.or_eq_true, bne_iff_ne] at hsound
  obtain ⟨⟨⟨⟨ha, h1⟩, h2⟩, -⟩, hlo⟩ := hsound
  refine hlo.resolve_left fun hne => hne ?_
  simp only [Fld.key, ha, h1, h2] at hk
  omega

/-! ### Clearing what reading clears -/

/-- The RC fields of a list cleared, as a read clears them. -/
def State.clearRc (s : State) (fs : List Fld) (i j : Nat) : State := fs.foldl (fun st f => if f.acc = .rc then st.set2 f i j 0 else st) s

theorem State.clearRc_find? (s : State) (fs : List Fld) (i j k : Nat) (hk : ∀ f ∈ fs, f.acc = .rc → k ≠ f.key i j) :
    Assoc.find? k (s.clearRc fs i j).regs = Assoc.find? k s.regs := by
  induction fs generalizing s with
  | nil => rfl
  | cons f fs ih =>
    rw [State.clearRc, List.foldl_cons, ← State.clearRc, ih _ fun g hg => hk g (List.mem_cons_of_mem _ hg)]
    split
    · next hrc => exact Assoc.find?_write_ne (hk f (List.mem_cons_self ..) hrc) _ _ _
    · rfl

theorem SameBut.clearRc (s : State) (fs : List Fld) (i j : Nat) : SameBut [.regs] s (s.clearRc fs i j) :=
  SameBut.foldl _ (fun u f => SameBut.ite (fun _ => SameBut.set2 u f i j 0) fun _ => SameBut.refl _ u) fs s

/-- Every RC field of a register reads 0 once its RC fields are cleared. -/
theorem State.clearRc_get2 (s : State) {fs : List Fld} {i j : Nat} (hinj : ∀ f ∈ fs, ∀ g ∈ fs, f.key i j = g.key i j → f = g) {f : Fld} (hf : f ∈ fs)
    (hrc : f.acc = .rc) : (s.clearRc fs i j).get2 f i j = 0 := by
  induction fs generalizing s with
  | nil => cases hf
  | cons g gs ih =>
    have hinj' : ∀ f ∈ gs, ∀ h ∈ gs, f.key i j = h.key i j → f = h :=
      fun f hf h hh => hinj f (List.mem_cons_of_mem _ hf) h (List.mem_cons_of_mem _ hh)
    by_cases hmem : f ∈ gs
    · exact ih _ hinj' hmem
    · obtain rfl : f = g := (List.mem_cons.mp hf).resolve_right hmem
      have hlater : ∀ h ∈ gs, h.acc = .rc → f.key i j ≠ h.key i j := fun h hh _ heq =>
        hmem (hinj f hf h (List.mem_cons_of_mem _ hh) heq ▸ hh)
      have hself : (s.set2 f i j 0).get2 f i j = 0 := by rw [State.get2_set2_self, Nat.zero_mod]
      rw [State.clearRc, List.foldl_cons, if_pos hrc, ← State.clearRc, State.get2, Assoc.get, State.clearRc_find? _ _ _ _ _ hlater]
      exact hself

/-! ### A read -/

/-- A read changes the registers of the state it shows only by clearing RC fields. -/
theorem State.regRead_regs (s : State) (a : Nat) (h : RegHit) :
    (s.regRead a h).2.regs = ((s.regShow a).clearRc h.row.flds h.i h.j).regs := by
  simp only [State.regRead, State.regPeek]
  rw [← State.clearRc]
  have hunread : ∀ (u : State) (k : KmiSt), (if a = 0x600040 then { u with kmi := k } else u).regs = u.regs := by
    intro u k; split <;> rfl
  split
  · split <;> exact hunread _ _
  · split <;> exact hunread _ _

theorem SameBut.regRead (s : State) (a : Nat) (h : RegHit) : SameBut [.kmi, .regs, .hiLatch] (s.regShow a) (s.regRead a h).2 := by
  have hclear := (SameBut.clearRc (s.regShow a) h.row.flds h.i h.j).mono (l' := [.kmi, .regs, .hiLatch]) (by simp)
  have hunread : ∀ (u : State) (k : KmiSt), SameBut [.kmi, .regs, .hiLatch] u { u with kmi := k } := by
    intro u k p hp; cases p <;> simp at hp <;> rfl
  have hlatch : ∀ (u : State) (x : Assoc Nat), SameBut [.kmi, .regs, .hiLatch] u { u with hiLatch := x } := by
    intro u x p hp; cases p <;> simp at hp <;> rfl
  simp only [State.regRead, State.regPeek]
  rw [← State.clearRc]
  have hread : ∀ k : KmiSt, SameBut [.kmi, .regs, .hiLatch] (s.regShow a) (if a = 0x600040 then
      { (s.regShow a).clearRc h.row.flds h.i h.j with kmi := k } else (s.regShow a).clearRc h.row.flds h.i h.j) :=
    fun k => hclear.trans (SameBut.ite (fun _ => hunread _ k) fun _ => SameBut.refl _ _)
  split
  · split
    · exact (hread _).trans (hlatch _ _)
    · exact hread _
  · split
    · exact (hread _).trans (hlatch _ _)
    · exact hread _

/-- A read of a register that latches, or has no latched half, gives the register's word. -/
theorem State.regRead_value (s : State) (a : Nat) (h : RegHit) (hl : isLoReg a = true ∨ Assoc.find? a (s.regShow a).hiLatch = none) :
    (s.regRead a h).1 = (s.regPeek a h).1 := by
  have hclear : ((s.regShow a).clearRc h.row.flds h.i h.j).hiLatch = (s.regShow a).hiLatch :=
    SameBut.clearRc (s.regShow a) h.row.flds h.i h.j .hiLatch (by simp)
  simp only [State.regRead, State.regPeek]
  rw [← State.clearRc]
  split
  · split <;> rfl
  · next hlo =>
    have hnone := hl.resolve_left hlo
    split
    · next x hx =>
      rw [show (if a = 0x600040 then _ else _ : State).hiLatch = (s.regShow a).hiLatch by split <;> exact hclear, hnone] at hx
      cases hx
    · rfl

/-! ### REG_READ -/

/-- The register reads of the KMI are one command over a base. -/
theorem exec_regRead {row : (Nat → Instr) × Nat × Nat} (h : row ∈ regReadCmds) (m : Nat) (s : State) :
    exec (row.1 m) s = kmiCommand row.2.1 m (kmiRegRead row.2.2) s := by
  simp only [regReadCmds, List.mem_cons, List.not_mem_nil, or_false] at h
  rcases h with rfl | rfl | rfl | rfl | rfl | rfl | rfl | rfl | rfl | rfl | rfl | rfl | rfl <;> rfl

/-- A REG_READ outside its block's registers ends BAD_ARG. -/
theorem kmiRegRead_badArg {base : Nat} {c : KmiCmd} (s : State)
    (h : regAt (base + bits c.a0 23 0) = none ∨ regBlock (base + bits c.a0 23 0) ≠ regBlock base) : kmiRegRead base c s = .fin s stBadArg 0 [] [] := by
  unfold kmiRegRead
  cases hr : regAt (base + bits c.a0 23 0) with
  | none => rfl
  | some hit => exact if_neg (h.resolve_left (by simp [hr]))

end Sys2Proof.Machine

open Sys2Proof.Machine Sys2Proof.Machine.Reg

/-- Settles O3: the thirteen commands are one body over a base, and a read clears the RC fields of its register alone. -/
theorem registerReads : Obligations.RegisterReads := by
  unfold Obligations.RegisterReads
  refine ⟨fun row hrow s m c hready => ?_, fun s a h hr => ⟨fun hl => ?_, fun f hf hrc => ?_, fun k hk => ?_, SameBut.regRead s a h⟩⟩
  · have hbad : regAt (row.2.2 + bits c.a0 23 0) = none ∨ regBlock (row.2.2 + bits c.a0 23 0) ≠ regBlock row.2.2 →
        Answers (row.1 m) s (fun t => KmiDone t m stBadArg [] 0 ∧ RegsBut [KMI_MBX_STATE] s t) := by
      intro h
      obtain ⟨t, hexec, hdone, -, -, hregs⟩ := kmi_reads hready (kmiRegRead_badArg (s.kmiUnpost m) h)
      exact ⟨t, (exec_regRead hrow m s).trans hexec, hdone, hregs⟩
    refine ⟨fun h hr hblock => ?_, fun h => hbad (.inl h), fun h => hbad (.inr h)⟩
    rw [exec_regRead hrow, kmiCommand_ready hready]
    simp only [kmiRegRead, hr, hblock, if_true]
  · exact State.regRead_value s a h hl
  · rw [State.get2, Assoc.get, State.regRead_regs]
    exact State.clearRc_get2 _ (fun f hf g hg => flds_eq_of_key_eq (regAt_mem hr) hf hg) hf hrc
  · rw [State.regRead_regs, State.clearRc_find? _ _ _ _ _ hk]
end

section
/-! Writing registers (R403): what a write stores field by field, when a Boundary setting is in force (R54), the latched _HI halves (R67, R110), and
the proof of Obligations.RegisterStoresAndBoundarySettings. -/

namespace Sys2Proof.Machine

open Reg

/-! ### A field written by software (R54) -/

@[simp] theorem State.swWrite_regs (s : State) (f : Fld) (i j v : Nat) : (s.swWrite f i j v).regs = (s.set2 f i j v).regs := by
  unfold State.swWrite
  extract_lets s1
  split
  · split <;> rfl
  · rfl

theorem State.swWrite_get2 (s : State) (f : Fld) (i j v : Nat) : (s.swWrite f i j v).get2 f i j = v % 2 ^ f.width :=
  (State.get2_congr (State.swWrite_regs ..) f i j).trans (State.get2_set2_self ..)

theorem SameBut.swWrite (s : State) (f : Fld) (i j v : Nat) : SameBut [.regs, .held] s (s.swWrite f i j v) := by
  unfold State.swWrite
  extract_lets s1
  have hreg : SameBut [.regs, .held] s s1 := (SameBut.set2 s f i j v).mono (by simp)
  have hheld : ∀ x : Assoc Nat, SameBut [.regs, .held] s1 { s1 with held := x } := by
    intro x p hp; cases p <;> simp at hp <;> rfl
  split
  · split
    · exact hreg
    · exact hreg.trans (hheld _)
  · exact hreg

/-- Where a Boundary field is written while EN is 1, the value in force is kept until the boundary. -/
theorem State.swWrite_held_boundary (s : State) {f : Fld} (i v : Nat) (hf : f.boundary = true) (hen : s.flag TCK_CTRL_EN = true) :
    Assoc.find? (f.key i 0) (s.swWrite f i 0 v).held = some (s.inForcei f i) := by
  unfold State.swWrite State.inForcei
  rw [if_pos (by simp [hf, hen])]
  cases hheld : Assoc.find? (f.key i 0) s.held with
  | some x => exact hheld
  | none => exact Assoc.find?_put_self _ _ _

/-- Elsewhere nothing waits. -/
theorem State.swWrite_held_now (s : State) {f : Fld} (i j v : Nat) (h : f.boundary = false ∨ s.flag TCK_CTRL_EN = false) :
    (s.swWrite f i j v).held = s.held := by
  unfold State.swWrite
  rw [if_neg (by rcases h with h | h <;> simp [h])]
  rfl

/-! ### What a register write stores -/

/-- The step of a register write for one field of the register. -/
def State.storeFld (s : State) (h : RegHit) (value mask : Nat) (f : Fld) : State :=
  match f.acc with
  | .rw => if wrNames f mask && !wrOwn.contains f then s.swWrite f h.i h.j (wrNorm f (s.wrNew h f value mask)) else s
  | .w1c => s.set2 f h.i h.j (clrMask (s.get2 f h.i h.j) (wrBits f value mask))
  | .ro | .wo | .rc => s

/-- The steps of a register write over a list of fields. -/
def State.storeFlds (s : State) (h : RegHit) (value mask : Nat) (fs : List Fld) : State :=
  fs.foldl (fun st f => st.storeFld h value mask f) s

theorem State.wrStore_eq (s : State) (h : RegHit) (value mask : Nat) : s.wrStore h value mask = s.storeFlds h value mask h.row.flds := rfl

section
variable (s : State) (h : RegHit) (value mask : Nat) {f : Fld}

theorem State.storeFld_rw (hacc : f.acc = .rw) (hn : wrNames f mask = true) (hown : wrOwn.contains f = false) :
    (s.storeFld h value mask f).get2 f h.i h.j = wrNorm f (s.wrNew h f value mask) % 2 ^ f.width := by
  simp only [State.storeFld, hacc, hn, hown, Bool.not_false, Bool.and_self, if_true, State.swWrite_get2]

theorem State.storeFld_w1c (hacc : f.acc = .w1c) :
    (s.storeFld h value mask f).get2 f h.i h.j = clrMask (s.get2 f h.i h.j) (wrBits f value mask) % 2 ^ f.width := by
  simp only [State.storeFld, hacc, State.get2_set2_self]

/-- The step writes its field's key alone. -/
theorem State.storeFld_find? {k : Nat} (hk : k ≠ f.key h.i h.j) : Assoc.find? k (s.storeFld h value mask f).regs = Assoc.find? k s.regs := by
  have hset : ∀ v, Assoc.find? k (s.set2 f h.i h.j v).regs = Assoc.find? k s.regs := fun v => Assoc.find?_write_ne hk _ _ _
  unfold State.storeFld
  split
  · split
    · rw [State.swWrite_regs, hset]
    · rfl
  · exact hset _
  all_goals rfl

/-- The step writes only where the field is named, or its bits are cleared by 1. -/
theorem State.storeFld_unnamed (hw : ¬f.acc = .w1c) (hn : ¬(f.acc = .rw ∧ wrNames f mask = true)) : s.storeFld h value mask f = s := by
  unfold State.storeFld
  split
  · next hrw => rw [if_neg]; simp only [Bool.and_eq_true, not_and]; intro hname; exact absurd ⟨hrw, hname⟩ hn
  · next hacc => exact absurd hacc hw
  all_goals rfl

theorem SameBut.storeFld (f : Fld) : SameBut [.regs, .held] s (s.storeFld h value mask f) := by
  unfold State.storeFld
  split
  · split
    · exact SameBut.swWrite _ _ _ _ _
    · exact SameBut.refl _ _
  · exact (SameBut.set2 _ _ _ _ _).mono (by simp)
  all_goals exact SameBut.refl _ _

theorem State.storeFlds_find? {fs : List Fld} {k : Nat} (hk : ∀ f ∈ fs, k = f.key h.i h.j → ¬f.acc = .w1c ∧ ¬(f.acc = .rw ∧ wrNames f mask = true)) :
    Assoc.find? k (s.storeFlds h value mask fs).regs = Assoc.find? k s.regs := by
  induction fs generalizing s with
  | nil => rfl
  | cons g gs ih =>
    have hrest := ih (s.storeFld h value mask g) fun f hf => hk f (List.mem_cons_of_mem _ hf)
    rw [State.storeFlds, List.foldl_cons, ← State.storeFlds, hrest]
    by_cases hg : k = g.key h.i h.j
    · obtain ⟨hw, hn⟩ := hk g (List.mem_cons_self ..) hg
      rw [State.storeFld_unnamed _ _ _ _ hw hn]
    · exact State.storeFld_find? _ _ _ _ hg

/-- What the step leaves in its field depends on that field alone. -/
theorem State.storeFld_get2_congr {t : State} (hst : t.get2 f h.i h.j = s.get2 f h.i h.j) :
    (t.storeFld h value mask f).get2 f h.i h.j = (s.storeFld h value mask f).get2 f h.i h.j := by
  have hnew : t.wrNew h f value mask = s.wrNew h f value mask := by simp only [State.wrNew, hst]
  unfold State.storeFld
  cases f.acc
  case rw => simp only; split <;> simp only [State.swWrite_get2, hnew, hst]
  case w1c => simp only [State.get2_set2_self, hst]
  all_goals exact hst

/-- Each field of a register ends with what its own step leaves in it. -/
theorem State.storeFlds_get2 {fs : List Fld} (hkeys : fs.Pairwise fun f g => f.key h.i h.j ≠ g.key h.i h.j) (hf : f ∈ fs) :
    (s.storeFlds h value mask fs).get2 f h.i h.j = (s.storeFld h value mask f).get2 f h.i h.j := by
  induction fs generalizing s with
  | nil => cases hf
  | cons g gs ih =>
    obtain ⟨hg, hgs⟩ := List.pairwise_cons.mp hkeys
    rw [State.storeFlds, List.foldl_cons, ← State.storeFlds]
    rcases List.mem_cons.mp hf with rfl | hmem
    · rw [State.get2, Assoc.get, State.storeFlds_find? _ _ _ _ fun x hx heq => absurd heq (hg x hx)]
      rfl
    · rw [ih _ hgs hmem]
      apply State.storeFld_get2_congr
      rw [State.get2, Assoc.get, State.storeFld_find? _ _ _ _ (hg f hmem).symm]
      rfl

end

theorem SameBut.wrStore (s : State) (h : RegHit) (value mask : Nat) : SameBut [.regs, .held] s (s.wrStore h value mask) :=
  SameBut.foldl _ (fun u f => SameBut.storeFld u h value mask f) h.row.flds s

theorem mapAll_nodup : mapAll.all (fun row => decide row.flds.Nodup) = true := by decide +kernel

/-- The fields of a register of the maps have different keys. -/
theorem flds_keys_pairwise {row : RegRow} (hrow : row ∈ mapAll) (i j : Nat) : row.flds.Pairwise fun f g => f.key i j ≠ g.key i j := by
  have hnodup : row.flds.Nodup := of_decide_eq_true (List.all_eq_true.mp mapAll_nodup row hrow)
  exact List.Pairwise.imp_of_mem (fun hf hg hne hk => hne (flds_eq_of_key_eq hrow hf hg hk)) hnodup

/-! ### Latched halves (R67, R110) -/

theorem State.regWord_congr {s t : State} (h : t.regs = s.regs) (hit : RegHit) : t.regWord hit = s.regWord hit := by
  simp only [State.regWord, State.get2_congr h]

/-- Reading a _LO register latches its _HI register. -/
theorem State.regRead_latches (s : State) {a : Nat} (h : RegHit) {hi : RegHit} (hlo : isLoReg a = true) (hat : regAt (a + 4) = some hi) :
    Assoc.find? (a + 4) (s.regRead a h).2.hiLatch = some ((s.regRead a h).2.regWord hi) := by
  simp only [State.regRead, State.regPeek, hlo, if_true, hat]
  exact Assoc.find?_put_self _ _ _

/-- The next read of a latched half gives it and drops it. -/
theorem State.regRead_latched (s : State) {a : Nat} (h : RegHit) {v : Nat} (hlo : isLoReg a = false) (hv : Assoc.find? a (s.regShow a).hiLatch = some v) :
    (s.regRead a h).1 = v ∧ Assoc.find? a (s.regRead a h).2.hiLatch = none := by
  have hclear : ((s.regShow a).clearRc h.row.flds h.i h.j).hiLatch = (s.regShow a).hiLatch :=
    SameBut.clearRc (s.regShow a) h.row.flds h.i h.j .hiLatch (by simp)
  have hlatch : ∀ k : KmiSt, (if a = 0x600040 then { (s.regShow a).clearRc h.row.flds h.i h.j with kmi := k } else
      (s.regShow a).clearRc h.row.flds h.i h.j).hiLatch = (s.regShow a).hiLatch := by
    intro k; split <;> exact hclear
  simp only [State.regRead, State.regPeek, hlo, Bool.false_eq_true, if_false]
  rw [← State.clearRc]
  simp only [hlatch, hv]
  exact ⟨trivial, Assoc.find?_del_self _ _⟩

end Sys2Proof.Machine

open Sys2Proof.Machine Sys2Proof.Machine.Reg

/-- Settles O4: the fields of a register have different keys, so each keeps what its own step leaves. -/
theorem registerStoresAndBoundarySettings : Obligations.RegisterStoresAndBoundarySettings := by
  unfold Obligations.RegisterStoresAndBoundarySettings
  refine ⟨fun s row i j value mask hrow => ?store, ⟨fun s f i v hf hen => ?held, fun s f i v hnow hnone => ?inForce⟩, fun s a h hi hlo _ hat => ?latches,
    fun s a v h hlo _ hshow hv => State.regRead_latched s h hlo (hshow ▸ hv)⟩
  case store =>
    have hfld : ∀ f ∈ row.flds, (s.wrStore ⟨row, i, j⟩ value mask).get2 f i j = (s.storeFld ⟨row, i, j⟩ value mask f).get2 f i j :=
      fun f hf => State.storeFlds_get2 s ⟨row, i, j⟩ value mask (flds_keys_pairwise hrow i j) hf
    refine ⟨fun f hf hacc hn hown => ?_, fun f hf hacc => ?_, fun k hk => ?_, SameBut.wrStore _ _ _ _⟩
    · rw [hfld f hf]
      exact State.storeFld_rw s ⟨row, i, j⟩ value mask hacc hn hown
    · rw [hfld f hf]
      exact State.storeFld_w1c s ⟨row, i, j⟩ value mask hacc
    · exact State.storeFlds_find? s ⟨row, i, j⟩ value mask hk
  case held =>
    have hheld := s.swWrite_held_boundary i v hf hen
    exact ⟨by rw [State.inForcei, hheld]; rfl, State.swWrite_get2 .., State.swWrite_get2 ..⟩
  case inForce =>
    rw [State.inForcei, State.swWrite_held_now s i 0 v hnow, hnone]
    exact State.swWrite_get2 ..
  case latches => exact ⟨State.regRead_value s a h (.inl hlo), State.regRead_latches s h hlo hat⟩
end

section
/-! REG_WRITE (R224, R279, R403): the proof of Obligations.RegisterWrites. -/

namespace Sys2Proof.Machine

open Reg

/-- The register writes of the KMI are one command over a base. -/
theorem exec_regWrite {row : (Nat → Instr) × Nat × Nat} (h : row ∈ regWriteCmds) (m : Nat) (s : State) :
    exec (row.1 m) s = kmiCommand row.2.1 m (kmiRegWrite row.2.2) s := by
  simp only [regWriteCmds, List.mem_cons, List.not_mem_nil, or_false] at h
  rcases h with rfl | rfl | rfl | rfl | rfl | rfl | rfl | rfl | rfl | rfl | rfl | rfl | rfl <;> rfl

/-- A REG_WRITE outside its block's registers, or to an excluded one, ends BAD_ARG. -/
theorem kmiRegWrite_badArg {base : Nat} {c : KmiCmd} (s : State)
    (h : regAt (base + bits c.a0 23 0) = none ∨ regBlock (base + bits c.a0 23 0) ≠ regBlock base ∨ regExcluded (base + bits c.a0 23 0) = true) :
    kmiRegWrite base c s = .fin s stBadArg 0 [] [] := by
  unfold kmiRegWrite
  extract_lets addr
  cases hr : regAt addr with
  | none => rfl
  | some hit =>
    refine if_neg fun ⟨hblock, hexcl⟩ => ?_
    rcases h with h | h | h
    · exact absurd (hr.symm.trans h) (by simp)
    · exact h hblock
    · exact absurd (hexcl.symm.trans h) (by simp)

/-- Taking a mailbox out of the posted queue refuses no write. -/
@[simp] theorem State.wrRefused_kmiUnpost (s : State) (m a : Nat) (h : RegHit) (v k : Nat) : (s.kmiUnpost m).wrRefused a h v k = s.wrRefused a h v k := rfl

/-- A write that no rule refuses is made. -/
theorem State.regWrite_fst (s : State) (a : Nat) (h : RegHit) (v k : Nat) : (s.regWrite a h v k).1 = s.wrRefused a h v k := by
  unfold State.regWrite
  split
  · next hr => exact hr.symm
  · next hr =>
    simp only [Bool.not_eq_true] at hr
    rw [hr]
    extract_lets s1
    split <;> rfl

/-- A refused write is recorded. -/
theorem State.regWrite_refused {s : State} {a : Nat} {h : RegHit} {v k : Nat} (hr : s.wrRefused a h v k = true) :
    s.regWrite a h v k = (true, s.ledger (regGroup a * 256 + 255) a) := by
  unfold State.regWrite
  exact if_pos hr

/-- A write made where every bit may act. -/
theorem State.regWrite_all {s : State} {a : Nat} {h : RegHit} {v k : Nat} (hr : s.wrRefused a h v k = false) (hb : s.onlyBits a = none) :
    s.regWrite a h v k = (false, (({ s with hiLatch := Assoc.del a s.hiLatch }).wrStore h v k).wrStart s a v k) := by
  unfold State.regWrite
  rw [if_neg (by simp [hr]), hb]

/-- A write made where only some bits act: a change of another field is recorded. -/
theorem State.regWrite_only {s : State} {a : Nat} {h : RegHit} {v k m : Nat} (hr : s.wrRefused a h v k = false) (hb : s.onlyBits a = some m) :
    s.regWrite a h v k = (false, (if h.row.flds.any (fun f => s.wrChanges h f v (clrMask k m)) then
      ({ s with hiLatch := Assoc.del a s.hiLatch }).regIgnored (regGroup a) a else { s with hiLatch := Assoc.del a s.hiLatch }).wrStart s a v (k &&& m)) := by
  unfold State.regWrite
  rw [if_neg (by simp [hr]), hb]

end Sys2Proof.Machine

open Sys2Proof.Machine Sys2Proof.Machine.Reg

/-- Settles O5: the thirteen commands are one body over a base, whose write either is made or leaves a record alone. -/
theorem registerWrites : Obligations.RegisterWrites := by
  unfold Obligations.RegisterWrites
  refine ⟨fun row hrow s m c hready => ?command, fun s a v k h _ hr => ⟨fun hb => State.regWrite_all hr hb, fun b hb hsame => ?same, fun b hb hother => ?other⟩⟩
  case command =>
    have hbad : regAt (row.2.2 + bits c.a0 23 0) = none ∨ regBlock (row.2.2 + bits c.a0 23 0) ≠ regBlock row.2.2 ∨
        regExcluded (row.2.2 + bits c.a0 23 0) = true → Answers (row.1 m) s (fun t => KmiDone t m stBadArg [] 0 ∧ RegsBut [KMI_MBX_STATE] s t) := by
      intro h
      obtain ⟨t, hexec, hdone, -, -, hregs⟩ := kmi_reads hready (kmiRegWrite_badArg (s.kmiUnpost m) h)
      exact ⟨t, (exec_regWrite hrow m s).trans hexec, hdone, hregs⟩
    refine ⟨fun h hr hblock hexcl => ⟨fun hok => ?_, fun href => ?_⟩, fun h => hbad (.inl h), fun h => hbad (.inr h)⟩
    · have hfst := (s.kmiUnpost m).regWrite_fst (row.2.2 + bits c.a0 23 0) h (bits c.a1 31 0) (bits c.a1 63 32)
      rw [State.wrRefused_kmiUnpost, hok] at hfst
      rw [exec_regWrite hrow, kmiCommand_ready hready]
      simp only [kmiRegWrite, hr, hblock, hexcl, and_self, if_true]
      generalize (s.kmiUnpost m).regWrite (row.2.2 + bits c.a0 23 0) h (bits c.a1 31 0) (bits c.a1 63 32) = w at hfst ⊢
      obtain ⟨refused, u⟩ := w
      obtain rfl : refused = false := hfst
      rfl
    · have hwrite := State.regWrite_refused (s := s.kmiUnpost m) (a := row.2.2 + bits c.a0 23 0) (h := h) (v := bits c.a1 31 0) (k := bits c.a1 63 32) href
      have hbody : kmiRegWrite row.2.2 c (s.kmiUnpost m) =
          .fin ((s.kmiUnpost m).ledger (regGroup (row.2.2 + bits c.a0 23 0) * 256 + 255) (row.2.2 + bits c.a0 23 0)) stBadState 0 [] [] := by
        simp only [kmiRegWrite, hr, hblock, hexcl, and_self, if_true, hwrite]
      obtain ⟨t, hexec, hdone, -, hsame, hregs⟩ := kmi_delivers hready hbody (State.mbx_length_of_kept (State.ledger_kept _ _ _))
      refine ⟨t, (exec_regWrite hrow m s).trans hexec, hdone, ?_, ?_⟩
      · exact (((SameBut.kmiUnpost s m).mono (by simp)).led (by simp)).step hsame (by simp)
      · exact ((RegsBut.of_eq _ (t := s.kmiUnpost m) rfl).led (List.subset_cons_self ..)).trans (hregs.mono (by simp))
  case same =>
    rw [State.regWrite_only hr hb, if_neg]
    simpa using hsame
  case other =>
    rw [State.regWrite_only hr hb, if_pos]
    simpa using hother
end

section
/-! IAS accesses and the raw commands (R25, R404, R414, R560), and the proof of Obligations.RawAndJtagAccesses. -/

namespace Sys2Proof.Machine

open Reg

/-! ### IAS writes and reads -/

/-- A write from the fabric or the host to an address below 2³². -/
theorem exec_registerWrite {a v k : Nat} (s : State) (ha : a < 2 ^ 32) : exec (.registerWrite a v k) s = .next (s.iasWrite a (v % 2 ^ 32) (k % 2 ^ 32)).2 := by
  change execRegisterWrite a v k s = _
  rw [execRegisterWrite, Nat.mod_eq_of_lt ha]

theorem State.iasWrite_reg (s : State) {a : Nat} {h : RegHit} (v k : Nat) (hr : regAt a = some h) : s.iasWrite a v k = s.regWrite a h v k := by
  simp only [State.iasWrite, hr]

/-- A write of no register inside a window or a memory is discarded; elsewhere it is recorded. -/
theorem State.iasWrite_noReg (s : State) {a : Nat} (v k : Nat) (hr : regAt a = none) :
    (s.iasWrite a v k).2 = if inWindow a || inInnkeeper a then s else s.ledger 0x0102 (a + 2 ^ 40) := by
  simp only [State.iasWrite, hr, snd_ite]
  rfl

/-! ### DBG_IAS -/

/-- What the debug port shows changes no register. -/
@[simp] theorem State.jtag_regs (s : State) (ir dr : Nat) : (s.jtag ir dr).regs = s.regs := rfl

theorem SameBut.jtag (s : State) (ir dr : Nat) : SameBut [.lc, .out] s (s.jtag ir dr) := by
  intro p hp; cases p <;> simp at hp <;> rfl

section
variable {s : State} {a d : Nat} (ha : a < 2 ^ 32) (hd : d < 2 ^ 32) (hon : s.jtagOn = true)
include ha hd hon

theorem exec_dbgIas_write (hd2 : s.d2 = true) (hraw : rawAllowed a = true) :
    exec (.dbgIas a d true) s = .next ((s.iasWrite a d (2 ^ 32 - 1)).2.jtag 0x20 (a + 2 ^ 32 * d + 2 ^ 64 + 2 ^ 65)) := by
  change execDbgIas a d true s = _
  simp only [execDbgIas, Nat.mod_eq_of_lt ha, Nat.mod_eq_of_lt hd, hon, hd2, hraw, Bool.not_true, Bool.false_eq_true, if_false, if_true]
  rfl

theorem exec_dbgIas_read (hd2 : s.d2 = true) (hraw : rawAllowed a = true) :
    exec (.dbgIas a d false) s = .next ((s.iasRead a).2.jtag 0x20 (a + 2 ^ 32 * (s.iasRead a).1 + 2 ^ 65)) := by
  change execDbgIas a d false s = _
  simp only [execDbgIas, Nat.mod_eq_of_lt ha, Nat.mod_eq_of_lt hd, hon, hd2, hraw, Bool.not_true, Bool.false_eq_true, if_false]
  rfl

omit ha hd in
theorem exec_dbgIas_bypass (w : Bool) (hd2 : s.d2 = false) : exec (.dbgIas a d w) s = .next (s.jtag 0xFF 0) := by
  change execDbgIas a d w s = _
  simp only [execDbgIas, hon, hd2, Bool.not_true, Bool.not_false, Bool.false_eq_true, if_false, if_true]

end

/-! ### RAW_READ -/

/-- A list of words read in order: four bytes for each, and the state after the reads. -/
def State.rawWords (s : State) (addr : Nat) (is : List Nat) : List Nat × State :=
  is.foldl (fun (x : List Nat × State) i => (x.1 ++ leBytes 4 (x.2.iasRead (addr + 4 * i)).1, (x.2.iasRead (addr + 4 * i)).2)) ([], s)

theorem length_rawWords_foldl (addr : Nat) (is : List Nat) (x : List Nat × State) :
    (is.foldl (fun (x : List Nat × State) i => (x.1 ++ leBytes 4 (x.2.iasRead (addr + 4 * i)).1, (x.2.iasRead (addr + 4 * i)).2)) x).1.length =
      x.1.length + 4 * is.length := by
  induction is generalizing x with
  | nil => rfl
  | cons i is ih => rw [List.foldl_cons, ih]; simp; omega

theorem State.length_rawWords (s : State) (addr : Nat) (is : List Nat) : (s.rawWords addr is).1.length = 4 * is.length :=
  (length_rawWords_foldl addr is ([], s)).trans (Nat.zero_add _)

theorem State.rawWords_kept (s : State) (addr : Nat) (is : List Nat) : (s.rawWords addr is).2.kept = s.kept :=
  State.kept_foldl_snd (α := List Nat) (fun u _ => State.iasRead_kept u.2 _) is ([], s)

end Sys2Proof.Machine

open Sys2Proof.Machine Sys2Proof.Machine.Reg

/-- Settles O6: each access goes to one register access or to a record, and the raw commands are lists of such accesses. -/
theorem rawAndJtagAccesses : Obligations.RawAndJtagAccesses := by
  unfold Obligations.RawAndJtagAccesses
  refine ⟨⟨?write, ?noReg, ?debug⟩, ?rawRead, ?rawWrite, ?info, ?echo⟩
  case write =>
    intro s a v k h ha hv hk hr
    rw [exec_registerWrite s ha, Nat.mod_eq_of_lt hv, Nat.mod_eq_of_lt hk, State.iasWrite_reg s v k hr]
    exact ⟨fun hok hb => by rw [State.regWrite_all hok hb], fun _ => rfl, fun href => by rw [State.regWrite_refused href]⟩
  case noReg =>
    intro s a v k ha hr
    rw [exec_registerWrite s ha, State.iasWrite_noReg s _ _ hr]
    exact ⟨fun hin => by rw [if_pos hin], fun hout => by rw [if_neg (by simp [hout])]⟩
  case debug =>
    intro s a d ha hd hon
    refine ⟨fun hd2 hraw => ⟨⟨_, exec_dbgIas_write ha hd hon hd2 hraw, rfl, rfl⟩, _, exec_dbgIas_read ha hd hon hd2 hraw, rfl, rfl⟩, fun hd2 => ?_⟩
    exact ⟨_, exec_dbgIas_bypass hon true hd2, SameBut.jtag s 0xFF 0, rfl⟩
  case rawRead =>
    intro s m c hready
    refine ⟨fun h1 h960 hrange => ?_, fun hbad => ?_⟩
    · have hok : ¬(bits c.a0 47 32 = 0 ∨ 960 < bits c.a0 47 32 ∨ rawRange (bits c.a0 31 0) (bits c.a0 47 32) = false) := by
        rw [hrange]; simp; omega
      have hlen := State.length_rawWords (s.kmiUnpost m) (bits c.a0 31 0) (List.range (bits c.a0 47 32))
      rw [List.length_range] at hlen
      refine answers_delivers (x := execRawRead m s) rfl rfl hready (if_neg hok)
        (State.mbx_length_of_kept (State.rawWords_kept (s.kmiUnpost m) (bits c.a0 31 0) (List.range (bits c.a0 47 32))))
        fun t hdone hdata _ _ => ⟨hlen ▸ hdone, fun hone => ?_⟩
      rw [hone] at hdata
      exact hdata
    · exact answers_reads (x := execRawRead m s) rfl rfl hready (if_pos hbad) fun t hdone _ _ hregs => ⟨hdone, hregs⟩
  case rawWrite =>
    intro s m c hready
    refine ⟨fun hlen hraw => ?_, fun hbad => answers_reads (x := execRawWrite m s) rfl rfl hready (if_pos hbad) fun t hdone _ hsame _ => ⟨hdone, hsame .ldg (by simp)⟩⟩
    have hne : c.dataIn ≠ [] := by rintro h; simp [h] at hlen
    have hok : ¬(c.dataIn = [] ∨ c.dataIn.length % 4 ≠ 0 ∨ rawRange (bits c.a0 31 0) (c.dataIn.length / 4) = false) := by
      simp [hne, hlen, rawRange, hraw]
    change execRawWrite m s = _ ∨ execRawWrite m s = _ ∧ _
    simp only [execRawWrite]
    rw [kmiCommand_ready hready]
    simp only [if_neg hok]
    simp only [hlen, Nat.reduceDiv, List.range_one, List.foldl_cons, List.foldl_nil, Nat.mul_zero, Nat.add_zero, Bool.false_or]
    generalize hw : ((decide (1 ≤ leField c.dataIn 0 4 % 8) && decide (leField c.dataIn 0 4 % 8 ≤ 2)) && _ : Bool) = self
    cases self with
    | false => exact .inl rfl
    | true => exact .inr ⟨rfl, (Bool.and_eq_true _ _ ▸ hw).2⟩
  case info =>
    intro s m c hready
    refine answers_reads (x := execKmiInfo m s) rfl rfl hready rfl fun t hdone _ hsame hregs => ⟨_, _, _, _, hdone, ?_, ?_, rfl, rfl, rfl, hsame, hregs⟩
    · simp only [bits]; omega
    · simp only [bits]; omega
  case echo =>
    intro s m c hready
    exact answers_reads (x := execKmiEcho m s) rfl rfl hready rfl fun t hdone _ hsame hregs => ⟨hdone, hsame, hregs⟩
end

section
/-! Bits of masks, and the clock trees' edges: what setting and clearing bits leaves, and what an edge of a Room's trees writes (R119 to R126). -/

namespace Sys2Proof.Machine

open Reg

/-! ### Setting and clearing bits -/

theorem bitB_setBit (v i j : Nat) : bitB (setBit v i) j = (bitB v j || decide (i = j)) := by
  rw [bitB_eq_testBit, bitB_eq_testBit, setBit, Nat.testBit_or, Nat.testBit_two_pow]

theorem bitB_clrBit (v i j : Nat) : bitB (clrBit v i) j = (bitB v j && !decide (i = j)) := by
  unfold clrBit
  by_cases hv : bitB v i = true
  · rw [if_pos hv]
    -- `v` is its part above bit `i`, bit `i` itself, and its part below.
    have hlow : v % 2 ^ i < 2 ^ i := Nat.mod_lt _ (Nat.two_pow_pos i)
    have hbit : v / 2 ^ i % 2 = 1 := by simpa [bitB] using hv
    have hsplit : v = 2 ^ (i + 1) * (v / 2 ^ (i + 1)) + (2 ^ i + v % 2 ^ i) := by
      have h1 := Nat.div_add_mod v (2 ^ i)
      have h2 := Nat.div_add_mod (v / 2 ^ i) 2
      rw [hbit, Nat.div_div_eq_div_mul, ← Nat.pow_succ] at h2
      calc v = 2 ^ i * (v / 2 ^ i) + v % 2 ^ i := h1.symm
        _ = 2 ^ i * (2 * (v / 2 ^ (i + 1)) + 1) + v % 2 ^ i := by rw [h2]
        _ = _ := by ring
    generalize v / 2 ^ (i + 1) = q at hsplit
    generalize v % 2 ^ i = r at hsplit hlow
    have hsub : v - 2 ^ i = 2 ^ (i + 1) * q + r := by omega
    have hpow : 2 ^ (i + 1) = 2 ^ i + 2 ^ i := by rw [Nat.pow_succ]; ring
    rw [bitB_eq_testBit, bitB_eq_testBit, hsub]
    rw [hsplit, Nat.testBit_two_pow_mul_add _ (by omega), Nat.testBit_two_pow_mul_add _ (by omega)]
    rcases Nat.lt_trichotomy j i with hj | rfl | hj
    · simp [show j < i + 1 by omega, Nat.testBit_two_pow_add_gt hj, show i ≠ j by omega]
    · simp [Nat.testBit_lt_two_pow hlow]
    · simp [show ¬ j < i + 1 by omega, show i ≠ j by omega]
  · rw [if_neg hv]
    by_cases hij : i = j
    · subst hij; simp [hv]
    · simp [hij]

theorem bitB_putBit (v i j : Nat) (b : Bool) : bitB (putBit v i b) j = if i = j then b else bitB v j := by
  unfold putBit
  by_cases hij : i = j <;> cases b <;> simp [bitB_setBit, bitB_clrBit, hij]

theorem bitB_foldl_setBit (l : List Nat) (v j : Nat) : bitB (l.foldl setBit v) j = (bitB v j || decide (j ∈ l)) := by
  induction l generalizing v with
  | nil => simp
  | cons i l ih => rw [List.foldl_cons, ih, bitB_setBit]; simp [Bool.or_assoc, eq_comm]

@[simp] theorem bitB_maskOf (l : List Nat) (j : Nat) : bitB (maskOf l) j = decide (j ∈ l) := by
  rw [maskOf, bitB_foldl_setBit]; simp [bitB]

theorem maskOf_lt {l : List Nat} {n : Nat} (h : ∀ i ∈ l, i < n) : maskOf l < 2 ^ n := by
  apply Nat.lt_pow_two_of_testBit
  intro i hi
  rw [← bitB_eq_testBit, bitB_maskOf]
  simpa using fun hmem => absurd (h i hmem) (by omega)

/-- A field of a number is its bits from the lowest on. -/
theorem bitB_bits (v hi lo j : Nat) : bitB (bits v hi lo) j = (decide (j < hi + 1 - lo) && bitB v (lo + j)) := by
  rw [bitB_eq_testBit, bits, Nat.testBit_mod_two_pow, Nat.testBit_div_two_pow, bitB_eq_testBit, Nat.add_comm j lo]

theorem bits_lt (v hi lo : Nat) : bits v hi lo < 2 ^ (hi + 1 - lo) := Nat.mod_lt _ (Nat.two_pow_pos _)

theorem eq_of_bitB_eq {a b : Nat} (h : ∀ j, bitB a j = bitB b j) : a = b :=
  Nat.eq_of_testBit_eq fun i => by rw [← bitB_eq_testBit, ← bitB_eq_testBit, h]

/-- One bit read as a number. -/
theorem bits_self (v i : Nat) : bits v i i = b2n (bitB v i) := by
  have h1 : i + 1 - i = 1 := by omega
  have h2 : v / 2 ^ i % 2 = 0 ∨ v / 2 ^ i % 2 = 1 := by omega
  rcases h2 with h | h <;> simp [bits, bitB, b2n, h1, h]

/-! ### Frames of the active banks -/

theorem State.actBankIx_lt (s : State) (r : Nat) : s.actBankIx r < 2 := by
  unfold State.actBankIx b2n; split <;> decide

/-- A frame of a bank lies in the 8,192 keys of its bank. -/
theorem bankKey_inj {r k f r' k' f' : Nat} (hk : k < 2) (hk' : k' < 2) (hf : f < 8192) (hf' : f' < 8192) (h : bankKey r k f = bankKey r' k' f') :
    r = r' ∧ k = k' ∧ f = f' := by
  unfold bankKey at h; omega

/-- A Slice's word in a frame of its Tile. -/
theorem bits_slice_replace (f v a b : Nat) :
    bits (f - bits f (128 * a + 127) (128 * a) * 2 ^ (128 * a) + v % 2 ^ 128 * 2 ^ (128 * a)) (128 * b + 127) (128 * b) =
      if a = b then v % 2 ^ 128 else bits f (128 * b + 127) (128 * b) := by
  have hw : ∀ n, 128 * n + 127 + 1 - 128 * n = 128 := fun n => by omega
  -- The frame is its part above the word, the word, and its part below.
  have hsplit : f = 2 ^ (128 * a) * (2 ^ 128 * (f / 2 ^ (128 * a) / 2 ^ 128) + f / 2 ^ (128 * a) % 2 ^ 128) + f % 2 ^ (128 * a) := by
    rw [Nat.div_add_mod, Nat.div_add_mod]
  have hlow : f % 2 ^ (128 * a) < 2 ^ (128 * a) := Nat.mod_lt _ (Nat.two_pow_pos _)
  have hnew : f - bits f (128 * a + 127) (128 * a) * 2 ^ (128 * a) + v % 2 ^ 128 * 2 ^ (128 * a) =
      2 ^ (128 * a) * (2 ^ 128 * (f / 2 ^ (128 * a) / 2 ^ 128) + v % 2 ^ 128) + f % 2 ^ (128 * a) := by
    rw [bits, hw]
    generalize f / 2 ^ (128 * a) / 2 ^ 128 = q at hsplit ⊢
    generalize f / 2 ^ (128 * a) % 2 ^ 128 = o at hsplit ⊢
    generalize f % 2 ^ (128 * a) = r at hsplit ⊢
    generalize v % 2 ^ 128 = n
    generalize 2 ^ (128 * a) = p at hsplit ⊢
    rw [hsplit, Nat.mul_add, Nat.mul_add, Nat.mul_comm o p, Nat.mul_comm n p]
    omega
  have hbit : ∀ (x j : Nat), x < 2 ^ 128 → (2 ^ (128 * a) * (2 ^ 128 * (f / 2 ^ (128 * a) / 2 ^ 128) + x) + f % 2 ^ (128 * a)).testBit j =
      if j < 128 * a then (f % 2 ^ (128 * a)).testBit j else if j - 128 * a < 128 then x.testBit (j - 128 * a)
        else (f / 2 ^ (128 * a) / 2 ^ 128).testBit (j - 128 * a - 128) := by
    intro x j hx
    rw [Nat.testBit_two_pow_mul_add _ hlow, Nat.testBit_two_pow_mul_add _ hx]
  rw [hnew]
  apply eq_of_bitB_eq
  intro j
  rw [bitB_bits, hw, bitB_eq_testBit, hbit _ _ (Nat.mod_lt _ (Nat.two_pow_pos _))]
  by_cases hab : a = b
  · subst hab
    rw [if_pos rfl, bitB_eq_testBit]
    by_cases hj : j < 128
    · rw [if_neg (by omega), if_pos (by omega), Nat.add_sub_cancel_left]
      simp [hj]
    · rw [decide_eq_false hj, Bool.false_and]
      exact (Nat.testBit_lt_two_pow ((Nat.mod_lt v (Nat.two_pow_pos 128)).trans_le (Nat.pow_le_pow_right (by decide) (by omega)))).symm
  · rw [if_neg hab, bitB_bits, hw, bitB_eq_testBit]
    by_cases hj : j < 128
    · have hself := hbit _ (128 * b + j) (Nat.mod_lt (f / 2 ^ (128 * a)) (Nat.two_pow_pos 128))
      rw [← hsplit] at hself
      have hout : ¬(128 * a ≤ 128 * b + j ∧ 128 * b + j - 128 * a < 128) := by omega
      rw [hself]
      by_cases h1 : 128 * b + j < 128 * a
      · simp [h1]
      · simp [h1, show ¬(128 * b + j - 128 * a < 128) by omega]
    · simp [hj]

/-! ### Distributed RAM words at an edge (R126) -/

theorem mem_allSlices {p : Nat × Nat} : p ∈ allSlices ↔ p.1 < 3200 ∧ p.2 < 8 := by
  obtain ⟨t, sl⟩ := p
  simp [allSlices]

theorem allSlices_nodup : allSlices.Nodup := by
  have hpairs : ∀ n m : Nat, ((List.range n).flatMap fun t => (List.range m).map fun sl => (t, sl)).Nodup := by
    intro n m
    rw [List.nodup_flatMap]
    refine ⟨fun t _ => List.nodup_range.map fun a b h => congrArg Prod.snd h, List.nodup_range.imp fun {a b} hab => ?_⟩
    intro x hx hy
    obtain ⟨_, -, rfl⟩ := List.mem_map.mp hx
    obtain ⟨_, -, h⟩ := List.mem_map.mp hy
    exact hab (congrArg Prod.fst h).symm
  exact hpairs 3200 8

theorem SameBut.setSliceCfg (s : State) (r tile sl v : Nat) : SameBut [.cfg] s (s.setSliceCfg r tile sl v) := by
  intro p hp; cases p <;> simp at hp <;> rfl

@[simp] theorem State.setSliceCfg_actBank (s : State) (r tile sl v : Nat) : (s.setSliceCfg r tile sl v).cfg.actBank = s.cfg.actBank := rfl

/-- A frame at another key is as it was. -/
theorem State.setSliceCfg_frame_ne (s : State) {r tile sl v k : Nat} (h : k ≠ bankKey r (s.actBankIx r) (12 + tile)) :
    Assoc.get 0 k (s.setSliceCfg r tile sl v).cfg.bankFr = Assoc.get 0 k s.cfg.bankFr :=
  Assoc.get_write_ne h _ _ _ _

theorem State.sliceCfg_setSliceCfg (s : State) (r tile sl v tile' sl' : Nat) :
    (s.setSliceCfg r tile sl v).sliceCfg r tile' sl' = if tile = tile' ∧ sl = sl' then v % 2 ^ 128 else s.sliceCfg r tile' sl' := by
  by_cases ht : tile = tile'
  · subst ht
    have hframe : (s.setSliceCfg r tile sl v).actFrame r (12 + tile) =
        s.actFrame r (12 + tile) - bits (s.actFrame r (12 + tile)) (128 * sl + 127) (128 * sl) * 2 ^ (128 * sl) + v % 2 ^ 128 * 2 ^ (128 * sl) :=
      Assoc.get_write_self _ _ _ _
    rw [State.sliceCfg, hframe, bits_slice_replace]
    simp [State.sliceCfg]
  · rw [if_neg fun h => ht h.1]
    have hframe : (s.setSliceCfg r tile sl v).actFrame r (12 + tile') = s.actFrame r (12 + tile') :=
      State.setSliceCfg_frame_ne s (by unfold bankKey State.actBankIx; simp; omega)
    rw [State.sliceCfg, hframe, State.sliceCfg]

end Sys2Proof.Machine
end

section
/-! What an edge of the clock trees leaves (R119 to R127, R153), and the proofs of Obligations.SlicesAndDistributedRam and
Obligations.FabricCommandsAndPlls. -/

namespace Sys2Proof.Machine

open Reg

/-! ### Distributed RAM at an edge (R126) -/

/-- What an edge writes into one Slice's LUT words, from the state `s` before the edge. -/
def State.ramStep (s : State) (e : Edges) (given : Option (Nat × Nat × Nat × SliceIn)) (r : Nat) (a : State) (p : Nat × Nat) : State :=
  if activeSet e r (s.sliceCfg r p.1 p.2) 0 && ramWrites (s.sliceCfg r p.1 p.2) (s.edgeIn given r p.1 p.2) then
    a.setSliceCfg r p.1 p.2 (ramWrite (s.sliceCfg r p.1 p.2) (s.edgeIn given r p.1 p.2)) else a

/-- What an edge leaves of a Slice's LUT words that stood at `old`. -/
def State.ramAfter (s : State) (e : Edges) (given : Option (Nat × Nat × Nat × SliceIn)) (r tile sl old : Nat) : Nat :=
  if activeSet e r (s.sliceCfg r tile sl) 0 && ramWrites (s.sliceCfg r tile sl) (s.edgeIn given r tile sl) then
    ramWrite (s.sliceCfg r tile sl) (s.edgeIn given r tile sl) % 2 ^ 128 else old

theorem State.edgeRams_eq (s : State) (e : Edges) (given : Option (Nat × Nat × Nat × SliceIn)) (r : Nat) (st : State) :
    s.edgeRams e given r st = allSlices.foldl (s.ramStep e given r) st := rfl

/-- Only the frames of Tiles of the Rooms of a list may differ. -/
structure TilesBut (rooms : List Nat) (s t : State) : Prop where
  same : SameBut [.cfg] s t
  bank : t.cfg.actBank = s.cfg.actBank
  frames : ∀ k, (∀ r ∈ rooms, ∀ tile < 3200, k ≠ bankKey r (s.actBankIx r) (12 + tile)) →
    Assoc.get 0 k t.cfg.bankFr = Assoc.get 0 k s.cfg.bankFr

theorem TilesBut.refl (rooms : List Nat) (s : State) : TilesBut rooms s s := ⟨SameBut.refl _ s, rfl, fun _ _ => rfl⟩

theorem TilesBut.actBankIx {rooms : List Nat} {s t : State} (h : TilesBut rooms s t) (r : Nat) : t.actBankIx r = s.actBankIx r := by
  simp only [State.actBankIx, h.bank]

theorem TilesBut.trans {rooms : List Nat} {s t u : State} (h : TilesBut rooms s t) (k : TilesBut rooms t u) : TilesBut rooms s u :=
  ⟨h.same.trans k.same, k.bank.trans h.bank,
    fun x hx => (k.frames x fun r hr tile ht => by rw [h.actBankIx]; exact hx r hr tile ht).trans (h.frames x hx)⟩

theorem TilesBut.mono {rooms rooms' : List Nat} {s t : State} (h : TilesBut rooms s t) (hr : ∀ r ∈ rooms, r ∈ rooms') : TilesBut rooms' s t :=
  ⟨h.same, h.bank, fun k hk => h.frames k fun r hm => hk r (hr r hm)⟩

theorem TilesBut.foldl {β : Type} {rooms : List Nat} {g : State → β → State} {l : List β} (hg : ∀ u, ∀ x ∈ l, TilesBut rooms u (g u x)) (s : State) :
    TilesBut rooms s (l.foldl g s) := by
  induction l generalizing s with
  | nil => exact TilesBut.refl rooms s
  | cons x l ih => exact (hg s x (List.mem_cons_self ..)).trans (ih (fun u y hy => hg u y (List.mem_cons_of_mem _ hy)) (g s x))

/-- Frame 0 holds no Tile. -/
theorem TilesBut.frame0 {rooms : List Nat} {s t : State} (h : TilesBut rooms s t) (r : Nat) : t.actFrame r 0 = s.actFrame r 0 := by
  rw [State.actFrame, h.actBankIx]
  refine h.frames _ fun r' _ tile ht heq => ?_
  have := bankKey_inj (s.actBankIx_lt r) (s.actBankIx_lt r') (by decide) (by omega) heq
  omega

/-- The Slices of another Room. -/
theorem TilesBut.sliceCfg {rooms : List Nat} {s t : State} (h : TilesBut rooms s t) {r tile : Nat} (sl : Nat) (hr : r ∉ rooms) (ht : tile < 3200) :
    t.sliceCfg r tile sl = s.sliceCfg r tile sl := by
  rw [State.sliceCfg, State.actFrame, h.actBankIx, h.frames]
  · rfl
  · intro r' hr' tile' ht' heq
    obtain ⟨rfl, -, -⟩ := bankKey_inj (s.actBankIx_lt r) (s.actBankIx_lt r') (by omega) (by omega) heq
    exact hr hr'

section
variable (s : State) (e : Edges) (given : Option (Nat × Nat × Nat × SliceIn))

theorem TilesBut.ramStep (r : Nat) (a : State) {p : Nat × Nat} (hp : p.1 < 3200) : TilesBut [r] a (s.ramStep e given r a p) := by
  unfold State.ramStep
  split
  · exact ⟨SameBut.setSliceCfg _ _ _ _ _, rfl, fun k hk => State.setSliceCfg_frame_ne a (hk r (by simp) p.1 hp)⟩
  · exact TilesBut.refl _ a

theorem TilesBut.edgeRams (r : Nat) (st : State) : TilesBut [r] st (s.edgeRams e given r st) := by
  rw [State.edgeRams_eq]
  exact TilesBut.foldl (fun u p hp => TilesBut.ramStep s e given r u (mem_allSlices.mp hp).1) st

theorem State.sliceCfg_ramStep (r : Nat) (a : State) (p : Nat × Nat) (tile sl : Nat) :
    (s.ramStep e given r a p).sliceCfg r tile sl = if p = (tile, sl) then s.ramAfter e given r tile sl (a.sliceCfg r tile sl) else a.sliceCfg r tile sl := by
  obtain ⟨tile', sl'⟩ := p
  unfold State.ramStep State.ramAfter
  by_cases hp : tile' = tile ∧ sl' = sl
  · obtain ⟨rfl, rfl⟩ := hp
    rw [if_pos rfl]
    split
    · rw [State.sliceCfg_setSliceCfg, if_pos ⟨rfl, rfl⟩]
    · rfl
  · have hne : (tile', sl') ≠ (tile, sl) := by simpa using hp
    rw [if_neg hne]
    split
    · rw [State.sliceCfg_setSliceCfg, if_neg hp]
    · rfl

theorem State.sliceCfg_ramStep_foldl (r tile sl : Nat) {l : List (Nat × Nat)} (hl : l.Nodup) (a : State) :
    (l.foldl (s.ramStep e given r) a).sliceCfg r tile sl =
      if (tile, sl) ∈ l then s.ramAfter e given r tile sl (a.sliceCfg r tile sl) else a.sliceCfg r tile sl := by
  induction l generalizing a with
  | nil => simp
  | cons p l ih =>
    obtain ⟨hp, hl⟩ := List.nodup_cons.mp hl
    rw [List.foldl_cons, ih hl, State.sliceCfg_ramStep]
    by_cases heq : p = (tile, sl)
    · subst heq; simp [hp]
    · have : (tile, sl) ≠ p := fun h => heq h.symm
      simp [heq, this]

theorem State.sliceCfg_edgeRams (r : Nat) (st : State) {tile sl : Nat} (ht : tile < 3200) (hsl : sl < 8) :
    (s.edgeRams e given r st).sliceCfg r tile sl = s.ramAfter e given r tile sl (st.sliceCfg r tile sl) := by
  rw [State.edgeRams_eq, State.sliceCfg_ramStep_foldl _ _ _ _ _ _ allSlices_nodup, if_pos (mem_allSlices.mpr ⟨ht, hsl⟩)]

/-- The Rooms whose trees take an edge. -/
def edgeRooms (e : Edges) : List Nat := (List.range 24).filter (roomHasEdge e)

theorem mem_edgeRooms {e : Edges} {r : Nat} : r ∈ edgeRooms e ↔ r < 24 ∧ ((e (2 * r)).isSome || (e (2 * r + 1)).isSome) = true := by
  simp [edgeRooms, roomHasEdge]

theorem edgeRooms_nodup (e : Edges) : (edgeRooms e).Nodup := List.nodup_range.filter _

theorem TilesBut.edgeRooms (st : State) (rooms : List Nat) : TilesBut rooms st (rooms.foldl (fun st r => s.edgeRams e given r st) st) :=
  TilesBut.foldl (fun u r hr => (TilesBut.edgeRams s e given r u).mono (by simpa using hr)) st

theorem State.sliceCfg_edgeRooms {rooms : List Nat} (hl : rooms.Nodup) (st : State) {r tile sl : Nat} (ht : tile < 3200) (hsl : sl < 8) :
    (rooms.foldl (fun st r => s.edgeRams e given r st) st).sliceCfg r tile sl =
      if r ∈ rooms then s.ramAfter e given r tile sl (st.sliceCfg r tile sl) else st.sliceCfg r tile sl := by
  induction rooms generalizing st with
  | nil => simp
  | cons r' rooms ih =>
    obtain ⟨hr', hl⟩ := List.nodup_cons.mp hl
    rw [List.foldl_cons, ih hl]
    by_cases heq : r = r'
    · subst heq
      rw [if_neg hr', if_pos (List.mem_cons_self ..), State.sliceCfg_edgeRams _ _ _ _ _ ht hsl]
    · rw [(TilesBut.edgeRams s e given r' st).sliceCfg sl (by simpa using heq) ht]
      simp [heq]

/-! ### Flip-flops at an edge (R119 to R124) -/

/-- What an edge leaves of a Slice's flip-flops. -/
def State.ffAfter (s : State) (e : Edges) (given : Option (Nat × Nat × Nat × SliceIn)) (r tile sl : Nat) : Nat :=
  sliceEdge (s.sliceCfg r tile sl) (activeSet e r (s.sliceCfg r tile sl)) (s.setHigh r (s.sliceCfg r tile sl)) (s.edgeIn given r tile sl) (s.ffs r tile sl)

theorem sliceKey_inj {r t sl r' t' sl' : Nat} (ht : t < 3200) (hsl : sl < 8) (ht' : t' < 3200) (hsl' : sl' < 8)
    (h : sliceKey r t sl = sliceKey r' t' sl') : r = r' ∧ t = t' ∧ sl = sl' := by
  unfold sliceKey at h; omega

theorem get_ffFold (r r' : Nat) {tile sl : Nat} (ht : tile < 3200) (hsl : sl < 8) {l : List (Nat × Nat)} (hl : ∀ p ∈ l, p.1 < 3200 ∧ p.2 < 8)
    (g : Nat × Nat → SliceSt) (m : Assoc SliceSt) :
    Assoc.get ⟨0⟩ (sliceKey r' tile sl) (l.foldl (fun a p => Assoc.write ⟨0⟩ (sliceKey r p.1 p.2) (g p) a) m) =
      if r = r' ∧ (tile, sl) ∈ l then g (tile, sl) else Assoc.get ⟨0⟩ (sliceKey r' tile sl) m := by
  induction l generalizing m with
  | nil => simp
  | cons p l ih =>
    obtain ⟨hp1, hp2⟩ := hl p (List.mem_cons_self ..)
    rw [List.foldl_cons, ih fun q hq => hl q (List.mem_cons_of_mem _ hq)]
    by_cases hmem : r = r' ∧ (tile, sl) ∈ l
    · rw [if_pos hmem, if_pos ⟨hmem.1, List.mem_cons_of_mem _ hmem.2⟩]
    · rw [if_neg hmem]
      by_cases hhere : r = r' ∧ (tile, sl) = p
      · obtain ⟨rfl, rfl⟩ := hhere
        rw [if_pos ⟨rfl, List.mem_cons_self ..⟩, Assoc.get_write_self]
      · have hne : sliceKey r' tile sl ≠ sliceKey r p.1 p.2 := by
          intro h
          obtain ⟨h1, h2, h3⟩ := sliceKey_inj ht hsl hp1 hp2 h
          exact hhere ⟨h1.symm, by rw [h2, h3]⟩
        rw [Assoc.get_write_ne hne, if_neg]
        rintro ⟨h1, h2⟩
        rcases List.mem_cons.mp h2 with h2 | h2
        · exact hhere ⟨h1, h2⟩
        · exact hmem ⟨h1, h2⟩

theorem State.get_edgeSlices (r r' : Nat) {tile sl : Nat} (ht : tile < 3200) (hsl : sl < 8) (m : Assoc SliceSt) :
    Assoc.get ⟨0⟩ (sliceKey r' tile sl) (s.edgeSlices e given r m) =
      if r = r' then ⟨s.ffAfter e given r tile sl⟩ else Assoc.get ⟨0⟩ (sliceKey r' tile sl) m := by
  have h := get_ffFold r r' ht hsl (fun p hp => mem_allSlices.mp hp) (fun p => ⟨s.ffAfter e given r p.1 p.2⟩) m
  have hmem : (tile, sl) ∈ allSlices := mem_allSlices.mpr ⟨ht, hsl⟩
  simp only [hmem, and_true] at h
  exact h

theorem State.get_edgeSlices_rooms {rooms : List Nat} (m : Assoc SliceSt) {r tile sl : Nat} (ht : tile < 3200) (hsl : sl < 8) :
    Assoc.get ⟨0⟩ (sliceKey r tile sl) (rooms.foldl (fun m r => s.edgeSlices e given r m) m) =
      if r ∈ rooms then ⟨s.ffAfter e given r tile sl⟩ else Assoc.get ⟨0⟩ (sliceKey r tile sl) m := by
  induction rooms generalizing m with
  | nil => simp
  | cons r' rooms ih =>
    rw [List.foldl_cons, ih, State.get_edgeSlices _ _ _ _ _ ht hsl]
    by_cases heq : r' = r
    · subst heq; simp
    · have : r ≠ r' := fun h => heq h.symm
      simp [heq, this]

end

/-! ### An edge of the trees -/

section
variable (s : State) (e : Edges) (given : Option (Nat × Nat × Nat × SliceIn))

/-- The fabric's state after an edge, but for the Rooms' frames. -/
theorem State.treesEdge_eq : ∃ f : FabSt, s.treesEdge e given = { (edgeRooms e).foldl (fun st r => s.edgeRams e given r st) s with fab := f } ∧
    f.slices = (edgeRooms e).foldl (fun m r => s.edgeSlices e given r m) s.fab.slices ∧
    f.cellar = s.fab.cellar ∧ f.larder = s.fab.larder ∧ f.pab = s.fab.pab ∧ f.pllCtl = s.fab.pllCtl ∧ f.pllOut = s.fab.pllOut ∧
    f.pllLocked = s.fab.pllLocked := by
  have hfab : ((edgeRooms e).foldl (fun st r => s.edgeRams e given r st) s).fab = s.fab :=
    (TilesBut.edgeRooms s e given s (edgeRooms e)).same .fab (by simp)
  have hcellar := congrArg FabSt.cellar hfab
  have hlarder := congrArg FabSt.larder hfab
  have hpab := congrArg FabSt.pab hfab
  have hctl := congrArg FabSt.pllCtl hfab
  have hout := congrArg FabSt.pllOut hfab
  have hlock := congrArg FabSt.pllLocked hfab
  exact ⟨_, rfl, rfl, hcellar, hlarder, hpab, hctl, hout, hlock⟩

theorem State.treesEdge_frames : TilesBut (edgeRooms e) s { s.treesEdge e given with fab := s.fab } := by
  obtain ⟨f, hf, -⟩ := s.treesEdge_eq e given
  have h := TilesBut.edgeRooms s e given s (edgeRooms e)
  rw [hf]
  refine ⟨fun p hp => ?_, h.bank, h.frames⟩
  cases p
  case fab => rfl
  all_goals exact h.same _ hp

theorem SameBut.treesEdge : SameBut [.fab, .cfg] s (s.treesEdge e given) := by
  have h := (s.treesEdge_frames e given).same
  intro p hp
  cases p
  case fab => simp at hp
  all_goals exact h _ fun hm => hp (List.mem_cons_of_mem _ hm)

theorem State.treesEdge_fab : (s.treesEdge e given).fab.cellar = s.fab.cellar ∧ (s.treesEdge e given).fab.larder = s.fab.larder ∧
    (s.treesEdge e given).fab.pab = s.fab.pab ∧ (s.treesEdge e given).fab.pllCtl = s.fab.pllCtl ∧
    (s.treesEdge e given).fab.pllOut = s.fab.pllOut ∧ (s.treesEdge e given).fab.pllLocked = s.fab.pllLocked := by
  obtain ⟨f, hf, -, h⟩ := s.treesEdge_eq e given
  rw [hf]
  exact h

theorem State.treesEdge_sliceCfg {r tile sl : Nat} (ht : tile < 3200) (hsl : sl < 8) : (s.treesEdge e given).sliceCfg r tile sl =
    if r ∈ edgeRooms e then s.ramAfter e given r tile sl (s.sliceCfg r tile sl) else s.sliceCfg r tile sl := by
  obtain ⟨f, hf, -⟩ := s.treesEdge_eq e given
  rw [← State.sliceCfg_edgeRooms s e given (edgeRooms_nodup e) s ht hsl, hf]
  rfl

theorem State.treesEdge_ffs {r tile sl : Nat} (ht : tile < 3200) (hsl : sl < 8) : (s.treesEdge e given).ffs r tile sl =
    if r ∈ edgeRooms e then s.ffAfter e given r tile sl else s.ffs r tile sl := by
  obtain ⟨f, hf, hslices, -⟩ := s.treesEdge_eq e given
  have h := State.get_edgeSlices_rooms s e given (rooms := edgeRooms e) s.fab.slices (r := r) ht hsl
  rw [← hslices] at h
  rw [hf, State.ffs]
  simp only [h]
  split <;> rfl

/-- The code of a clock tree lies in frame 0, which holds no Slice. -/
theorem State.treesEdge_treeCode (r t : Nat) : (s.treesEdge e given).treeCode r t = s.treeCode r t :=
  congrArg (treeCodeOf · t) ((s.treesEdge_frames e given).frame0 r)

end

end Sys2Proof.Machine
end

section
/-! Slices and distributed RAM (R114 to R127): the proof of Obligations.SlicesAndDistributedRam. -/

namespace Sys2Proof.Machine

open Reg

/-! ### What a port hands to its Room (R147) -/

/-- Words delivered at ports change port queues, Doors and the outward log alone. -/
structure Delivers (s t : State) : Prop where
  same : SameBut [.fab, .out] s t
  fab : ∃ q d, t.fab = { s.fab with portQ := q, door := d }

theorem Delivers.refl (s : State) : Delivers s s := ⟨SameBut.refl _ s, s.fab.portQ, s.fab.door, rfl⟩

theorem Delivers.trans {s t u : State} (h : Delivers s t) (k : Delivers t u) : Delivers s u := by
  obtain ⟨hs, q, d, hf⟩ := h
  obtain ⟨ks, q', d', kf⟩ := k
  exact ⟨hs.trans ks, q', d', by rw [kf, hf]⟩

theorem Delivers.foldl {β : Type} {g : State → β → State} (hg : ∀ u x, Delivers u (g u x)) (l : List β) (s : State) : Delivers s (l.foldl g s) := by
  induction l generalizing s with
  | nil => exact Delivers.refl s
  | cons x l ih => exact (hg s x).trans (ih (g s x))

theorem Delivers.deliver (s : State) (room port : Nat) (w : PortWord) : Delivers s (s.deliver room port w) := by
  refine ⟨fun p hp => ?_, s.fab.portQ, _, rfl⟩
  cases p <;> simp at hp <;> rfl

theorem Delivers.portPump (s : State) (room port : Nat) : Delivers s (s.portPump room port) := by
  unfold State.portPump
  split
  · refine Delivers.trans ?_ (Delivers.foldl (fun u w => Delivers.deliver u room port w) _ _)
    refine ⟨fun p hp => ?_, _, s.fab.door, rfl⟩
    cases p <;> simp at hp <;> rfl
  · exact Delivers.refl s

theorem Delivers.portPumpAll (s : State) : Delivers s s.portPumpAll := Delivers.foldl (fun u _ => Delivers.portPump u _ _) _ _

section
variable {s t : State} (h : Delivers s t)
include h

theorem Delivers.sliceCfg (r tile sl : Nat) : t.sliceCfg r tile sl = s.sliceCfg r tile sl := by
  have hcfg : t.cfg = s.cfg := h.same .cfg (by simp)
  simp only [State.sliceCfg, State.actFrame, State.actBankIx, hcfg]

theorem Delivers.ffs (r tile sl : Nat) : t.ffs r tile sl = s.ffs r tile sl := by
  obtain ⟨q, d, hf⟩ := h.fab
  simp only [State.ffs, hf]

theorem Delivers.blocks : t.fab.cellar = s.fab.cellar ∧ t.fab.larder = s.fab.larder ∧ t.fab.pab = s.fab.pab := by
  obtain ⟨q, d, hf⟩ := h.fab
  rw [hf]
  exact ⟨rfl, rfl, rfl⟩

end

/-! ### The edge of one tree -/

/-- One tree takes an edge. -/
def oneEdge (k : Nat) (up : Bool) : Edges := fun j => if j = k then some up else none

theorem mem_edgeRooms_oneEdge {r t r' : Nat} (up : Bool) (hr : r < 24) (ht : t < 2) : r' ∈ edgeRooms (oneEdge (2 * r + t) up) ↔ r' = r := by
  rw [mem_edgeRooms]
  constructor
  · rintro ⟨-, h⟩
    by_contra hne
    simp [oneEdge, show 2 * r' ≠ 2 * r + t by omega, show 2 * r' + 1 ≠ 2 * r + t by omega] at h
  · rintro rfl
    obtain rfl | rfl : t = 0 ∨ t = 1 := by omega
    · simp [oneEdge, hr]
    · simp [oneEdge, hr]

theorem setTree_lt (cfg k : Nat) : setTree cfg k < 2 := by
  have := bits_lt cfg (110 + 5 * k) (110 + 5 * k)
  rwa [show 110 + 5 * k + 1 - (110 + 5 * k) = 1 by omega, Nat.pow_one] at this

/-- The state before the edge of a distributed RAM write: where the tree already stands at the edge's level, the opposite edge has come first. -/
def State.ramReady (s : State) (r tile sl : Nat) : State :=
  let cfg := s.sliceCfg r tile sl
  if bitB s.fab.clk (2 * r + setTree cfg 0) == !bitB cfg 111 then s.treesEdge (oneEdge (2 * r + setTree cfg 0) (!!bitB cfg 111)) none else s

/-- The state after the edge of a distributed RAM write, before the ports pump. -/
def State.ramEdge (s : State) (r tile sl : Nat) (i : SliceIn) : State :=
  let cfg := s.sliceCfg r tile sl
  (s.ramReady r tile sl).treesEdge (oneEdge (2 * r + setTree cfg 0) (!bitB cfg 111)) (some (r, tile, sl, i))

section
variable {s : State} {r tile sl : Nat} (i : SliceIn) (hr : r < 24) (ht : tile < 3200) (hsl : sl < 8)

include hr ht hsl

theorem exec_distributedRamWrite_runs (hrun : s.treeRuns r (setTree (s.sliceCfg r tile sl) 0) = true) :
    exec (.distributedRamWrite r tile sl i) s =
      .next ({ s.ramEdge r tile sl i with freeCount := (s.ramEdge r tile sl i).freeCount + 1 }).portPumpAll := by
  change execDistributedRamWrite r tile sl i s = _
  rw [execDistributedRamWrite, if_neg (by omega)]
  exact if_pos hrun

theorem exec_distributedRamWrite_stopped (hrun : s.treeRuns r (setTree (s.sliceCfg r tile sl) 0) = false) :
    exec (.distributedRamWrite r tile sl i) s = .next s := by
  change execDistributedRamWrite r tile sl i s = _
  rw [execDistributedRamWrite, if_neg (by omega)]
  exact if_neg (by simp [hrun])

omit hr in
/-- The opposite edge is none of control set 0, so the Slice's LUT words stay. -/
theorem State.sliceCfg_ramReady : (s.ramReady r tile sl).sliceCfg r tile sl = s.sliceCfg r tile sl := by
  unfold State.ramReady
  extract_lets cfg
  split
  · rw [State.treesEdge_sliceCfg _ _ _ ht hsl]
    split
    · refine if_neg ?_
      simp [activeSet, oneEdge, cfg]
    · rfl
  · rfl

omit ht hsl in
theorem State.ramReady_other {r' : Nat} (hne : r' ≠ r) {tile' sl' : Nat} (ht' : tile' < 3200) (hsl' : sl' < 8) :
    (s.ramReady r tile sl).sliceCfg r' tile' sl' = s.sliceCfg r' tile' sl' ∧ (s.ramReady r tile sl).ffs r' tile' sl' = s.ffs r' tile' sl' := by
  unfold State.ramReady
  extract_lets cfg
  have hroom : r' ∉ edgeRooms (oneEdge (2 * r + setTree cfg 0) (!!bitB cfg 111)) := by
    rw [mem_edgeRooms_oneEdge _ hr (setTree_lt cfg 0)]; exact hne
  split
  · rw [State.treesEdge_sliceCfg _ _ _ ht' hsl', State.treesEdge_ffs _ _ _ ht' hsl', if_neg hroom, if_neg hroom]
    exact ⟨rfl, rfl⟩
  · exact ⟨rfl, rfl⟩

omit ht hsl in
theorem State.ramEdge_other {r' : Nat} (hne : r' ≠ r) {tile' sl' : Nat} (ht' : tile' < 3200) (hsl' : sl' < 8) :
    (s.ramEdge r tile sl i).sliceCfg r' tile' sl' = s.sliceCfg r' tile' sl' ∧ (s.ramEdge r tile sl i).ffs r' tile' sl' = s.ffs r' tile' sl' := by
  obtain ⟨hcfg, hff⟩ := State.ramReady_other (s := s) (tile := tile) (sl := sl) hr hne ht' hsl'
  unfold State.ramEdge
  extract_lets cfg
  have hroom : r' ∉ edgeRooms (oneEdge (2 * r + setTree cfg 0) (!bitB cfg 111)) := by
    rw [mem_edgeRooms_oneEdge _ hr (setTree_lt cfg 0)]; exact hne
  rw [State.treesEdge_sliceCfg _ _ _ ht' hsl', State.treesEdge_ffs _ _ _ ht' hsl', if_neg hroom, if_neg hroom]
  exact ⟨hcfg, hff⟩

/-- The edge writes the Slice's RAM where the write is enabled. -/
theorem State.sliceCfg_ramEdge : (s.ramEdge r tile sl i).sliceCfg r tile sl =
    if ramWrites (s.sliceCfg r tile sl) i then ramWrite (s.sliceCfg r tile sl) i % 2 ^ 128 else s.sliceCfg r tile sl := by
  unfold State.ramEdge
  extract_lets cfg
  have hroom : r ∈ edgeRooms (oneEdge (2 * r + setTree cfg 0) (!bitB cfg 111)) := (mem_edgeRooms_oneEdge _ hr (setTree_lt cfg 0)).mpr rfl
  have hactive : activeSet (oneEdge (2 * r + setTree cfg 0) (!bitB cfg 111)) r cfg 0 = true := by simp [activeSet, oneEdge]
  have hin : (s.ramReady r tile sl).edgeIn (some (r, tile, sl, i)) r tile sl = { i with cin := (s.ramReady r tile sl).cinOf r tile sl } :=
    if_pos ⟨rfl, rfl, rfl⟩
  rw [State.treesEdge_sliceCfg _ _ _ ht hsl, if_pos hroom, State.ramAfter, State.sliceCfg_ramReady ht hsl, hin, hactive, Bool.true_and]
  rfl

/-- The Slice's flip-flops take the edge, from the state it finds. -/
theorem State.ffs_ramEdge (hclk : bitB s.fab.clk (2 * r + setTree (s.sliceCfg r tile sl) 0) = bitB (s.sliceCfg r tile sl) 111) :
    (s.ramEdge r tile sl i).ffs r tile sl = sliceEdge (s.sliceCfg r tile sl)
      (activeSet (oneEdge (2 * r + setTree (s.sliceCfg r tile sl) 0) (!bitB (s.sliceCfg r tile sl) 111)) r (s.sliceCfg r tile sl))
      (s.setHigh r (s.sliceCfg r tile sl)) { i with cin := s.cinOf r tile sl } (s.ffs r tile sl) := by
  have hready : s.ramReady r tile sl = s := by
    unfold State.ramReady
    exact if_neg (by rw [hclk]; cases bitB (s.sliceCfg r tile sl) 111 <;> decide)
  have hroom : r ∈ edgeRooms (oneEdge (2 * r + setTree (s.sliceCfg r tile sl) 0) (!bitB (s.sliceCfg r tile sl) 111)) :=
    (mem_edgeRooms_oneEdge _ hr (setTree_lt _ 0)).mpr rfl
  have hin : s.edgeIn (some (r, tile, sl, i)) r tile sl = { i with cin := s.cinOf r tile sl } := if_pos ⟨rfl, rfl, rfl⟩
  unfold State.ramEdge
  extract_lets cfg
  rw [hready, State.treesEdge_ffs _ _ _ ht hsl, if_pos hroom, State.ffAfter, hin]

omit hr ht hsl in
theorem State.ramEdge_rest : SameBut [.fab, .cfg] s (s.ramEdge r tile sl i) ∧ (s.ramEdge r tile sl i).fab.cellar = s.fab.cellar ∧
    (s.ramEdge r tile sl i).fab.larder = s.fab.larder ∧ (s.ramEdge r tile sl i).fab.pab = s.fab.pab := by
  have hready : SameBut [.fab, .cfg] s (s.ramReady r tile sl) ∧ (s.ramReady r tile sl).fab.cellar = s.fab.cellar ∧
      (s.ramReady r tile sl).fab.larder = s.fab.larder ∧ (s.ramReady r tile sl).fab.pab = s.fab.pab := by
    unfold State.ramReady
    extract_lets cfg
    split
    · obtain ⟨hc, hl, hp, -⟩ := s.treesEdge_fab (oneEdge (2 * r + setTree cfg 0) (!!bitB cfg 111)) none
      exact ⟨SameBut.treesEdge _ _ _, hc, hl, hp⟩
    · exact ⟨SameBut.refl _ s, rfl, rfl, rfl⟩
  obtain ⟨hs, hc, hl, hp⟩ := hready
  unfold State.ramEdge
  extract_lets cfg
  obtain ⟨kc, kl, kp, -⟩ := (s.ramReady r tile sl).treesEdge_fab (oneEdge (2 * r + setTree cfg 0) (!bitB cfg 111)) (some (r, tile, sl, i))
  exact ⟨hs.trans (SameBut.treesEdge _ _ _), kc.trans hc, kl.trans hl, kp.trans hp⟩

end

/-! ### The logic of a Slice -/

theorem lutAddr_lt (i : SliceIn) (j : Nat) : lutAddr i j < 16 := by
  have h : ∀ v, bits v j j < 2 := fun v => by
    have := bits_lt v j j
    rwa [show j + 1 - j = 1 by omega, Nat.pow_one] at this
  have ha := h i.a; have hb := h i.b; have hc := h i.c; have hd := h i.d
  unfold lutAddr
  omega

/-- A 16 × 4 write puts bit `j` of X at the address in LUT `j`. -/
theorem bitB_ramWrite {cfg : Nat} (i : SliceIn) (n : Nat) (hmode : ramMode cfg = 0) :
    bitB (ramWrite cfg i) n = if n < 64 ∧ n % 16 = lutAddr i 0 then bitB i.x (n / 16) else bitB cfg n := by
  have ha := lutAddr_lt i 0
  simp only [ramWrite, hmode, bitB_putBit]
  by_cases h : n < 64 ∧ n % 16 = lutAddr i 0
  · rw [if_pos h]
    obtain ⟨hn, hmod⟩ := h
    obtain h0 | h1 | h2 | h3 : n / 16 = 0 ∨ n / 16 = 1 ∨ n / 16 = 2 ∨ n / 16 = 3 := by omega
    · rw [h0, if_neg (by omega), if_neg (by omega), if_neg (by omega), if_pos (by omega)]
    · rw [h1, if_neg (by omega), if_neg (by omega), if_pos (by omega)]
    · rw [h2, if_neg (by omega), if_pos (by omega)]
    · rw [h3, if_pos (by omega)]
  · rw [if_neg h, if_neg (by omega), if_neg (by omega), if_neg (by omega), if_neg (by omega)]

end Sys2Proof.Machine

open Sys2Proof.Machine Sys2Proof.Machine.Reg

/-- Settles O8: the write is one edge of one tree, which reaches its Room alone; the logic is its equations. -/
theorem slicesAndDistributedRam : Obligations.SlicesAndDistributedRam := by
  unfold Obligations.SlicesAndDistributedRam
  refine ⟨⟨fun s r tile sl i hr ht hsl => ⟨fun hrun => ?edge, exec_distributedRamWrite_stopped i hr ht hsl⟩, fun cfg i n => bitB_ramWrite i n⟩,
    ?lut, fun cfg i j => ⟨?sum, rfl⟩, ?reset, ?set, ?enable, ?commit⟩
  case edge =>
    obtain ⟨hsame, hcellar, hlarder, hpab⟩ := State.ramEdge_rest (s := s) (r := r) (tile := tile) (sl := sl) i
    have hpump := Delivers.portPumpAll { s.ramEdge r tile sl i with freeCount := (s.ramEdge r tile sl i).freeCount + 1 }
    obtain ⟨kc, kl, kp⟩ := hpump.blocks
    refine ⟨_, exec_distributedRamWrite_runs i hr ht hsl hrun, fun hw => ?_, fun hw => ?_, fun hclk => ?_, fun r' tile' sl' hne ht' hsl' => ?_,
      kc.trans hcellar, kl.trans hlarder, kp.trans hpab, ?_⟩
    · exact (hpump.sliceCfg r tile sl).trans ((State.sliceCfg_ramEdge i hr ht hsl).trans (if_pos hw))
    · exact (hpump.sliceCfg r tile sl).trans ((State.sliceCfg_ramEdge i hr ht hsl).trans (if_neg (by simp [hw])))
    · exact (hpump.ffs r tile sl).trans (State.ffs_ramEdge i hr ht hsl hclk)
    · obtain ⟨hcfg, hff⟩ := State.ramEdge_other (s := s) (tile := tile) (sl := sl) i hr hne ht' hsl'
      exact ⟨(hpump.ffs r' tile' sl').trans hff, (hpump.sliceCfg r' tile' sl').trans hcfg⟩
    · have hfree : SameBut [.freeCount] (s.ramEdge r tile sl i) { s.ramEdge r tile sl i with freeCount := (s.ramEdge r tile sl i).freeCount + 1 } := by
        intro p hp; cases p <;> simp at hp <;> rfl
      exact ((hsame.mono (by simp)).step hfree (by simp)).step hpump.same (by simp)
  case lut =>
    intro cfg i j h
    simp only [lutOut, readAddr, h, if_true]
    rfl
  case sum =>
    unfold sumOut
    cases lutOut cfg i j <;> cases carryAt cfg i j <;> rfl
  case reset =>
    intro cfg k set ce old d
    simp only [ffNext, Bool.true_and, if_true]
  case set =>
    intro cfg k ce old d
    simp [ffNext]
  case enable =>
    intro cfg k old d
    simp [ffNext]
  case commit =>
    intro cfg ff m runs hm
    simp [commitFf, hm]
end

section
/-! The fabric commands of the KMI and a fabric PLL's loss of lock (R149, R151, R153, R407, R408): the proof of
Obligations.FabricCommandsAndPlls. -/

namespace Sys2Proof.Machine

open Reg

/-- An entry just replaced. -/
theorem getD_setAt_self {α : Type} (l : List α) {i : Nat} (v d : α) (h : i < l.length) : (setAt l i v).getD i d = v := by
  simp [setAt, List.getD_eq_getElem?_getD, h]

theorem getD_setAt_ne {α : Type} (l : List α) {i j : Nat} (v d : α) (h : j ≠ i) : (setAt l i v).getD j d = l.getD j d := by
  simp [setAt, List.getD_eq_getElem?_getD, List.getElem?_set_ne h.symm]

theorem SameBut.ledgers {β : Type} (g : β → Nat × Nat) (l : List β) (s : State) :
    SameBut [.kmi, .ldg, .regs, .out, .pba] s (l.foldl (fun st x => st.ledger (g x).1 (g x).2) s) :=
  SameBut.foldl _ (fun u _ => SameBut.ledger u _ _) l s

/-! ### A PLL that loses lock (R153) -/

/-- Only an edge's own writes and the trees' levels may differ after trees have stopped low. -/
theorem State.stopLow_spec (s : State) (trees : List Nat) : SameBut [.fab, .cfg] s (s.stopLow trees) ∧ (s.stopLow trees).fab.pllCtl = s.fab.pllCtl ∧
    (s.stopLow trees).fab.pllOut = s.fab.pllOut ∧ (s.stopLow trees).fab.pllLocked = s.fab.pllLocked ∧
    ∀ r t, (s.stopLow trees).treeCode r t = s.treeCode r t := by
  unfold State.stopLow
  extract_lets high
  split
  · exact ⟨SameBut.refl _ s, rfl, rfl, rfl, fun _ _ => rfl⟩
  · obtain ⟨-, -, -, hctl, hout, hlock⟩ := s.treesEdge_fab (fun k => if high.contains k then some false else none) none
    exact ⟨SameBut.treesEdge _ _ _, hctl, hout, hlock, fun r t => State.treesEdge_treeCode _ _ _ r t⟩

/-- Trees that all stand low stay as they are. -/
theorem State.stopLow_of_low {s : State} {trees : List Nat} (h : ∀ k ∈ trees, bitB s.fab.clk k = false) : s.stopLow trees = s := by
  unfold State.stopLow
  have hnone : trees.filter (fun k => bitB s.fab.clk k) = [] := List.filter_eq_nil_iff.mpr fun k hk => by simp [h k hk]
  simp only [hnone]
  rfl

/-- A tree whose PLL has no lock does not run. -/
theorem State.treeRuns_unlocked {s : State} {r t p : Nat} (hp : pllOf r (s.treeCode r t) = some p) (hlock : bitB s.fab.pllLocked p = false) :
    s.treeRuns r t = false := by
  simp only [State.treeRuns, hp, hlock, Bool.false_and, Bool.and_false]

theorem State.treeCode_congr {s t : State} (h : t.cfg = s.cfg) (r k : Nat) : t.treeCode r k = s.treeCode r k := by
  simp only [State.treeCode, State.actFrame, State.actBankIx, h]

/-- The state in which the losses of a PLL's trees are recorded. -/
def State.pllLost (s : State) (p : Nat) : State :=
  let s1 := s.stopLow ((s.treesOf p).filter (fun k => s.treeRuns (k / 2) (k % 2)))
  { s1 with fab := { s1.fab with pllLocked := clrBit s1.fab.pllLocked p } }

theorem exec_fpllLockLoss (s : State) {p : Nat} (hp : p < 16) :
    exec (.fpllLockLoss p) s = .next ((s.treesOf p).foldl (fun st cd => st.ledger 0x0101 cd) (s.pllLost p)) := by
  change execFpllLockLoss p s = _
  exact if_neg (by omega)

theorem mem_treesOf {s : State} {p k : Nat} (h : k ∈ s.treesOf p) : pllOf (k / 2) (s.treeCode (k / 2) (k % 2)) = some p := by
  unfold State.treesOf at h
  have hk := (List.mem_filter.mp h).2
  simp only [Bool.and_eq_true, beq_iff_eq] at hk
  exact hk.2

end Sys2Proof.Machine

open Sys2Proof.Machine Sys2Proof.Machine.Reg

/-- Settles O7: each command is one read or one write of the fabric's state, and a loss of lock stops the PLL's trees before it is recorded. -/
theorem fabricCommandsAndPlls : Obligations.FabricCommandsAndPlls := by
  unfold Obligations.FabricCommandsAndPlls
  refine ⟨⟨fun s m c hready => ⟨fun hr => ?status, fun hr => ?statusBad⟩, fun s m c hready => ⟨fun hr => ?control, fun hr => ?controlBad⟩,
    fun s m c hready => ?pllRead, fun s m c hready => ⟨fun hctl hout hfree hlctl hlout => ?pllWrite, fun hbad => ?pllBad, fun hctl hout hheld => ?pllHeld⟩,
    fun s m c hready => ⟨fun hr => ?sbe, fun hr => ?sbeBad⟩⟩, fun s p hp hlow => ?lossLow, fun s p hp => ?loss⟩
  case status =>
    refine answers_reads (x := execFabMgmtRead m s) rfl rfl hready (if_neg (by omega)) fun t hdone _ hsame hregs =>
      ⟨_, hdone, fun i hi => ?_, maskOf_lt fun i hi => ?_, hsame, hregs⟩
    · simp only [bitB_maskOf, List.mem_filter, List.mem_range, hi, true_and, beq_iff_eq]
      rfl
    · exact List.mem_range.mp (List.mem_filter.mp hi).1
  case statusBad => exact answers_reads (x := execFabMgmtRead m s) rfl rfl hready (if_pos hr) fun t hdone _ _ _ => hdone
  case control =>
    refine answers_delivers (x := execFabMgmtWrite m s) rfl rfl hready (if_neg (by omega)) rfl fun t hdone _ hsame hregs => ?_
    have hfab := hsame .fab (by simp)
    refine ⟨hdone, ?_, fun r hne => ?_, ?_, (RegsBut.of_eq _ rfl).trans hregs⟩
    · exact (congrArg (fun f : FabSt => Assoc.get 0 (bits c.a0 4 0) f.mgmtCtl) hfab).trans (Assoc.get_write_self _ _ _ _)
    · exact (congrArg (fun f : FabSt => Assoc.get 0 r f.mgmtCtl) hfab).trans (Assoc.get_write_ne hne _ _ _ _)
    · refine SameBut.step ?_ hsame (by simp)
      intro p hp; cases p <;> simp at hp <;> rfl
  case controlBad =>
    exact answers_reads (x := execFabMgmtWrite m s) rfl rfl hready (if_pos hr) fun t hdone _ hsame _ => ⟨hdone, hsame .fab (by simp)⟩
  case pllRead => exact answers_reads (x := execFpllRead m s) rfl rfl hready rfl fun t hdone _ hsame hregs => ⟨hdone, hsame, hregs⟩
  case pllWrite =>
    have hok : ¬((!pllCtlOk c.a1 || !pllOutOk c.a2) = true) := by simp [hctl, hout]
    have hnone : ¬((!((s.kmiUnpost m).treesOf (bits c.a0 3 0)).isEmpty) = true) := by
      rw [show (s.kmiUnpost m).treesOf (bits c.a0 3 0) = s.treesOf (bits c.a0 3 0) from rfl, hfree]; simp
    have hp : bits c.a0 3 0 < 16 := bits_lt c.a0 3 0
    refine answers_executes (x := execFpllWrite m s) rfl rfl hready ((if_neg hok).trans (if_neg hnone)) fun t hruns hsame hregs _ _ => ?_
    have hfab := hsame .fab (by simp)
    refine ⟨hruns, ?_, ?_, ?_, fun p hne => ⟨?_, ?_⟩, ?_, (RegsBut.of_eq _ rfl).trans hregs⟩
    · exact (congrArg (fun f : FabSt => f.pllCtl.getD (bits c.a0 3 0) 0) hfab).trans (getD_setAt_self _ _ _ (by rw [← hlctl] at hp; exact hp))
    · exact (congrArg (fun f : FabSt => f.pllOut.getD (bits c.a0 3 0) 0) hfab).trans (getD_setAt_self _ _ _ (by rw [← hlout] at hp; exact hp))
    · exact (congrArg (fun f : FabSt => bitB f.pllLocked (bits c.a0 3 0)) hfab).trans (by simp [bitB_clrBit])
    · exact (congrArg (fun f : FabSt => bitB f.pllLocked p) hfab).trans (by simp [bitB_clrBit, hne.symm]; rfl)
    · exact (congrArg (fun f : FabSt => f.pllCtl.getD p 0) hfab).trans (getD_setAt_ne _ _ _ hne)
    · refine SameBut.step ?_ hsame (by simp)
      intro p hp; cases p <;> simp at hp <;> rfl
  case pllBad =>
    have hbad' : (!pllCtlOk c.a1 || !pllOutOk c.a2) = true := by rcases hbad with h | h <;> simp [h]
    exact answers_reads (x := execFpllWrite m s) rfl rfl hready (if_pos hbad') fun t hdone _ hsame _ => ⟨hdone, hsame .fab (by simp)⟩
  case pllHeld =>
    have hok : ¬((!pllCtlOk c.a1 || !pllOutOk c.a2) = true) := by simp [hctl, hout]
    have hsome : (!((s.kmiUnpost m).treesOf (bits c.a0 3 0)).isEmpty) = true := by
      rw [show (s.kmiUnpost m).treesOf (bits c.a0 3 0) = s.treesOf (bits c.a0 3 0) from rfl]; simpa using hheld
    exact answers_reads (x := execFpllWrite m s) rfl rfl hready ((if_neg hok).trans (if_pos hsome))
      fun t hdone _ hsame _ => ⟨hdone, hsame .fab (by simp)⟩
  case sbe =>
    have hbody : execBramSbe m s = kmiCommand 0x0201 m (fun cmd s => if 24 ≤ bits cmd.a0 4 0 then .fin s stBadArg 0 [] [] else
      .fin (if bitB cmd.a0 8 then { s with fab := { s.fab with sbe := Assoc.write 0 (bits cmd.a0 4 0) 0 s.fab.sbe } } else s) stOk 0
        [Assoc.get 0 (bits cmd.a0 4 0) s.fab.sbe] []) s := rfl
    cases hclr : bitB c.a0 8 with
    | false =>
      refine answers_reads (x := execBramSbe m s) rfl hbody hready ((if_neg (by omega)).trans (by rw [hclr]; rfl)) fun t hdone _ hsame hregs => ?_
      have hfab := hsame .fab (by simp)
      exact ⟨hdone, fun h => by simp at h, fun _ => hfab, fun r _ => by rw [hfab], hsame.mono (by simp), hregs⟩
    | true =>
      refine answers_delivers (x := execBramSbe m s) (u := { s.kmiUnpost m with fab := { s.fab with
        sbe := Assoc.write 0 (bits c.a0 4 0) 0 s.fab.sbe } }) rfl hbody hready ((if_neg (by omega)).trans (by rw [hclr]; rfl)) rfl fun t hdone _ hsame hregs => ?_
      have hsbe : t.fab.sbe = Assoc.write 0 (bits c.a0 4 0) 0 s.fab.sbe := congrArg FabSt.sbe (hsame .fab (by simp))
      refine ⟨hdone, fun _ => ?_, fun h => by simp at h, fun r hne => ?_, ?_, (RegsBut.of_eq _ rfl).trans hregs⟩
      · rw [hsbe, Assoc.get_write_self]
      · rw [hsbe, Assoc.get_write_ne hne]
      · refine SameBut.step ?_ hsame (by simp)
        intro p hp; cases p <;> simp at hp <;> rfl
  case sbeBad => exact answers_reads (x := execBramSbe m s) rfl rfl hready (if_pos hr) fun t hdone _ hsame _ => ⟨hdone, hsame .fab (by simp)⟩
  case lossLow =>
    have hstay : s.stopLow ((s.treesOf p).filter (fun k => s.treeRuns (k / 2) (k % 2))) = s :=
      State.stopLow_of_low fun k hk => hlow k (List.mem_filter.mp hk).1
    rw [exec_fpllLockLoss s hp]
    simp only [State.pllLost, hstay]
  case loss =>
    obtain ⟨hsame, hctl, hout, hlock, hcode⟩ := s.stopLow_spec ((s.treesOf p).filter (fun k => s.treeRuns (k / 2) (k % 2)))
    have hled := SameBut.ledgers (fun cd => (0x0101, cd)) (s.treesOf p) (s.pllLost p)
    have hfab := hled .fab (by simp)
    have hcfg := hled .cfg (by simp)
    have hlocked : ∀ q, bitB (s.pllLost p).fab.pllLocked q = (bitB s.fab.pllLocked q && !decide (p = q)) := by
      intro q
      simp only [State.pllLost, bitB_clrBit, hlock]
    have hlost : ∀ r k, (s.pllLost p).treeCode r k = s.treeCode r k := fun r k =>
      (State.treeCode_congr (s := s.stopLow ((s.treesOf p).filter (fun k => s.treeRuns (k / 2) (k % 2)))) rfl r k).trans (hcode r k)
    refine ⟨_, exec_fpllLockLoss s hp, ?_, fun q hne => ?_, (congrArg FabSt.pllCtl hfab).trans hctl, (congrArg FabSt.pllOut hfab).trans hout, ?_,
      fun k hk => ?_⟩
    · exact (congrArg (fun f : FabSt => bitB f.pllLocked p) hfab).trans (by simp [hlocked])
    · exact (congrArg (fun f : FabSt => bitB f.pllLocked q) hfab).trans (by simp [hlocked, hne.symm])
    · have hlost : SameBut [.fab, .cfg] s (s.pllLost p) := hsame.trans (by intro p hp; cases p <;> simp at hp <;> rfl)
      exact (hlost.mono (by simp)).step hled (by simp)
    · have hpll := (congrArg (pllOf (k / 2)) ((State.treeCode_congr hcfg _ _).trans (hlost _ (k % 2)))).trans (mem_treesOf hk)
      exact State.treeRuns_unlocked hpll ((congrArg (fun f : FabSt => bitB f.pllLocked p) hfab).trans (by simp [hlocked]))
end

section
/-! Cellar and Larder blocks (R157, R161 to R177): what a port access leaves of the stored words and of the ports' read sides. -/

namespace Sys2Proof.Machine

open Reg

/-! ### Words in memory -/

/-- A field of a number replaced, bit by bit. -/
theorem bitB_replace (c v o j : Nat) {d : Nat} (hd : 0 < d) :
    bitB (c - bits c (o + d - 1) o * 2 ^ o + v % 2 ^ d * 2 ^ o) j = if o ≤ j ∧ j < o + d then bitB v (j - o) else bitB c j := by
  have hw : o + d - 1 + 1 - o = d := by omega
  have hsplit : c = 2 ^ o * (2 ^ d * (c / 2 ^ o / 2 ^ d) + c / 2 ^ o % 2 ^ d) + c % 2 ^ o := by rw [Nat.div_add_mod, Nat.div_add_mod]
  have hlow : c % 2 ^ o < 2 ^ o := Nat.mod_lt _ (Nat.two_pow_pos _)
  have hnew : c - bits c (o + d - 1) o * 2 ^ o + v % 2 ^ d * 2 ^ o = 2 ^ o * (2 ^ d * (c / 2 ^ o / 2 ^ d) + v % 2 ^ d) + c % 2 ^ o := by
    rw [bits, hw]
    generalize c / 2 ^ o / 2 ^ d = q at hsplit ⊢
    generalize c / 2 ^ o % 2 ^ d = w at hsplit ⊢
    generalize c % 2 ^ o = r at hsplit ⊢
    generalize v % 2 ^ d = n
    generalize 2 ^ o = p at hsplit ⊢
    rw [hsplit, Nat.mul_add, Nat.mul_add, Nat.mul_comm w p, Nat.mul_comm n p]
    omega
  have hbit : ∀ x, x < 2 ^ d → (2 ^ o * (2 ^ d * (c / 2 ^ o / 2 ^ d) + x) + c % 2 ^ o).testBit j =
      if j < o then (c % 2 ^ o).testBit j else if j - o < d then x.testBit (j - o) else (c / 2 ^ o / 2 ^ d).testBit (j - o - d) := by
    intro x hx
    rw [Nat.testBit_two_pow_mul_add _ hlow, Nat.testBit_two_pow_mul_add _ hx]
  have hold := hbit _ (Nat.mod_lt (c / 2 ^ o) (Nat.two_pow_pos d))
  rw [← hsplit] at hold
  rw [hnew, bitB_eq_testBit, hbit _ (Nat.mod_lt v (Nat.two_pow_pos d)), bitB_eq_testBit, bitB_eq_testBit, hold]
  by_cases h1 : j < o
  · simp [h1, show ¬ o ≤ j by omega]
  · by_cases h2 : j - o < d
    · rw [if_neg h1, if_pos h2, if_pos (by omega), Nat.testBit_mod_two_pow v]
      simp [h2]
    · simp [h1, h2, show ¬(o ≤ j ∧ j < o + d) by omega]

section
variable {c : Nat → Bool} {v : Nat → Nat} {b : Nat}

/-- A run of conditional writes leaves every entry that it does not write. -/
theorem get_writeIf_out {l : List Nat} {x : Nat} (hx : ∀ k ∈ l, c k = true → x ≠ b + k) (m : Assoc Nat) :
    Assoc.get 0 x (l.foldl (fun mm k => if c k then Assoc.write 0 (b + k) (v k) mm else mm) m) = Assoc.get 0 x m := by
  induction l generalizing m with
  | nil => rfl
  | cons k l ih =>
    rw [List.foldl_cons, ih fun y hy => hx y (List.mem_cons_of_mem _ hy)]
    split
    · next hc => exact Assoc.get_write_ne (hx k (List.mem_cons_self ..) hc) _ _ _ _
    · rfl

/-- An entry that a run of conditional writes writes. -/
theorem get_writeIf_in {l : List Nat} {k : Nat} (hk : k ∈ l) (hc : c k = true) (m : Assoc Nat) :
    Assoc.get 0 (b + k) (l.foldl (fun mm k => if c k then Assoc.write 0 (b + k) (v k) mm else mm) m) = v k := by
  induction l generalizing m with
  | nil => cases hk
  | cons x l ih =>
    rw [List.foldl_cons]
    by_cases hmem : k ∈ l
    · exact ih hmem _
    · obtain rfl : k = x := (List.mem_cons.mp hk).resolve_right hmem
      rw [get_writeIf_out fun y hy _ heq => hmem (by rwa [Nat.add_left_cancel heq]), if_pos hc, Assoc.get_write_self]

end

/-! ### Cellar words (R162, R163) -/

section
variable (m : Assoc Nat) (base a we word : Nat) {d : Nat}

theorem cellarWrite_bytes (hd : 8 ≤ d) : cellarWrite m base d a we word = (List.range (d / 8)).foldl (fun mm k =>
    if bitB we k then Assoc.write 0 (base + a * d / 8 + k) (bits word (8 * k + 7) (8 * k) + 256 * bits word (d + k) (d + k)) mm else mm) m :=
  if_neg (by omega)

theorem get_cellarWrite_in (hd : 8 ≤ d) {k : Nat} (hk : k < d / 8) (hwe : bitB we k = true) :
    Assoc.get 0 (base + a * d / 8 + k) (cellarWrite m base d a we word) = bits word (8 * k + 7) (8 * k) + 256 * bits word (d + k) (d + k) := by
  rw [cellarWrite_bytes _ _ _ _ _ hd]
  exact get_writeIf_in (List.mem_range.mpr hk) hwe m

theorem get_cellarWrite_out (hd : 8 ≤ d) {x : Nat} (hx : ∀ k < d / 8, bitB we k = true → x ≠ base + a * d / 8 + k) :
    Assoc.get 0 x (cellarWrite m base d a we word) = Assoc.get 0 x m := by
  rw [cellarWrite_bytes _ _ _ _ _ hd]
  exact get_writeIf_out (fun k hk => hx k (List.mem_range.mp hk)) m

/-- With no enable nothing is written. -/
theorem cellarWrite_zero : cellarWrite m base d a 0 word = m := by
  have hfold : ∀ (l : List Nat) (mm : Assoc Nat), l.foldl (fun mm k => if bitB 0 k then
      Assoc.write 0 (base + a * d / 8 + k) (bits word (8 * k + 7) (8 * k) + 256 * bits word (d + k) (d + k)) mm else mm) mm = mm := by
    intro l
    induction l with
    | nil => exact fun _ => rfl
    | cons k l ih => exact fun mm => by rw [List.foldl_cons, ih]; simp [bitB]
  unfold cellarWrite
  split
  · simp [bitB]
  · exact hfold _ m

theorem get_cellarWrite_bit_out (hd : d < 8) {x : Nat} (hx : x ≠ base + a * d / 8) :
    Assoc.get 0 x (cellarWrite m base d a we word) = Assoc.get 0 x m := by
  unfold cellarWrite
  rw [if_pos hd]
  split
  · exact Assoc.get_write_ne hx _ _ _ _
  · rfl

/-- The bits of a word below a byte lie in one cell, at a multiple of their number. -/
theorem bitB_cellarWrite (hd : d = 1 ∨ d = 2 ∨ d = 4) (hwe : bitB we 0 = true) (n : Nat) :
    bitB (Assoc.get 0 (base + n / 8) (cellarWrite m base d a we word)) (n % 8) =
      if n / d = a then bitB word (n % d) else bitB (Assoc.get 0 (base + n / 8) m) (n % 8) := by
  have hd8 : d < 8 := by omega
  by_cases hcell : n / 8 = a * d / 8
  · have hget : Assoc.get 0 (base + n / 8) (cellarWrite m base d a we word) = Assoc.get 0 (base + n / 8) m -
        bits (Assoc.get 0 (base + n / 8) m) (a * d % 8 + d - 1) (a * d % 8) * 2 ^ (a * d % 8) + word % 2 ^ d * 2 ^ (a * d % 8) := by
      unfold cellarWrite
      rw [if_pos hd8, if_pos hwe, hcell]
      exact Assoc.get_write_self _ _ _ _
    rw [hget, bitB_replace _ _ _ _ (by omega)]
    have hiff : (a * d % 8 ≤ n % 8 ∧ n % 8 < a * d % 8 + d) ↔ n / d = a := by
      rcases hd with rfl | rfl | rfl <;> omega
    by_cases hin : n / d = a
    · rw [if_pos (hiff.mpr hin), if_pos hin]
      congr 1
      rcases hd with rfl | rfl | rfl <;> omega
    · rw [if_neg (mt hiff.mp hin), if_neg hin]
  · rw [get_cellarWrite_bit_out _ _ _ _ _ hd8 (by omega), if_neg]
    rcases hd with rfl | rfl | rfl <;> omega

end

/-! ### A port's read side (R161) -/

/-- At an edge whose request reads, the latch takes the word. -/
theorem portEdge_latch_some (oreg : Bool) (w : Nat) (sbe dbe : Bool) (p : PortSt) : (portEdge oreg true false (some w) sbe dbe p).latch = w := by
  cases oreg <;> rfl

/-- The output register takes what the latch held. -/
theorem portEdge_oreg (w : Option Nat) (sbe dbe : Bool) (p : PortSt) : (portEdge true true false w sbe dbe p).oreg = p.latch := rfl

/-- A port without a request holds its latch. -/
theorem portEdge_idle (oreg : Bool) (w : Option Nat) (sbe dbe : Bool) (p : PortSt) : (portEdge oreg false false w sbe dbe p).latch = p.latch := by
  cases w <;> cases oreg <;> rfl

theorem portEdge_errs (oreg : Bool) (w : Nat) (sbe dbe : Bool) (p : PortSt) :
    (portEdge oreg true false (some w) sbe dbe p).sbe = sbe ∧ (portEdge oreg true false (some w) sbe dbe p).dbe = dbe := by
  cases oreg <;> exact ⟨rfl, rfl⟩

theorem portKey_ne (l : Bool) (r b : Nat) : portKey l r b 0 ≠ portKey l r b 1 := by
  cases l <;> simp [portKey]

/-! ### A port access -/

/-- The request that a port's clock takes. -/
def taken (clk : Bool) (q : Option PortReq) : Option PortReq := q.filter (fun _ => clk)

/-- The state after a Cellar block's ports have taken their requests. -/
def State.cellarAfter (s : State) (r b : Nat) (pa pb : Option PortReq) (w a : Bool) : State :=
  let s1 := if cellarMode (s.cellarRec r b) = 1 then s.cellarSdp r b (pa.getD noReq) (pb.getD noReq) w a
    else s.cellarTdp r b (pa.getD noReq) (pb.getD noReq) w a
  match pb with
  | some q => if cellarMode (s.cellarRec r b) = 2 then s1.ppPresent r b q else s1
  | none => s1

section
variable {s : State} {r b : Nat} (pa pb : Option PortReq) (w a : Bool) (hr : r < 24)
include hr

theorem exec_blockPortAccess_cellar (hb : b < 160) (hoff : s.blockOff r false b = false) : exec (.blockPortAccess r false b pa pb w a) s =
    .next (s.cellarAfter r b (taken (s.portClock r false b 0) pa) (taken (s.portClock r false b 1) pb) w a) := by
  change execBlockPortAccess r false b pa pb w a s = _
  rw [execBlockPortAccess, if_neg (by simp; omega), if_neg (by simp [hoff])]
  rfl

theorem exec_blockPortAccess_larder (hb : b < 16) (hoff : s.blockOff r true b = false) : exec (.blockPortAccess r true b pa pb w a) s =
    .next (s.larderAccess r b ((taken (s.portClock r true b 0) pa).getD noReq) ((taken (s.portClock r true b 1) pb).getD noReq) w a) := by
  change execBlockPortAccess r true b pa pb w a s = _
  rw [execBlockPortAccess, if_neg (by simp; omega), if_neg (by simp [hoff])]
  rfl

theorem exec_blockPortAccess_off {l : Bool} (hb : b < if l then 16 else 160) (hoff : s.blockOff r l b = true) : exec (.blockPortAccess r l b pa pb w a) s =
    .next { s with fab := { s.fab with ports := Assoc.del (portKey l r b 1) (Assoc.del (portKey l r b 0) s.fab.ports) } } := by
  change execBlockPortAccess r l b pa pb w a s = _
  rw [execBlockPortAccess, if_neg (by cases l <;> simp at hb ⊢ <;> omega)]
  exact if_pos hoff

end

/-- The request on one of a block's two ports. -/
def onPort (p n : Nat) (q : PortReq) : Option PortReq := if p = n then some q else none

/-- A TDP or PINGPONG access of both ports: the stored words and the two read sides. -/
structure TdpPort (s : State) (r b p : Nat) (q : PortReq) (t : State) : Prop where
  cellar : t.fab.cellar = cellarWrite s.fab.cellar
    (cellarKey r b + halfBase (s.cellarRec r b) p (Assoc.get false (160 * r + b) s.fab.ppSel != q.pre)) (cellarWidth (cellarWcode (s.cellarRec r b) p))
    (q.addr % cellarDepth (s.cellarRec r b) (cellarWidth (cellarWcode (s.cellarRec r b) p)))
    (effWe (cellarWidth (cellarWcode (s.cellarRec r b) p)) q.we) q.data
  port : t.port (portKey false r b p) = portEdge (bitB (s.cellarRec r b) (12 + p)) true q.orst
    (rdwOutput (bits (s.cellarRec r b) (9 + 2 * p) (8 + 2 * p)) (effWe (cellarWidth (cellarWcode (s.cellarRec r b) p)) q.we != 0)
      (cellarRead s.fab.cellar (cellarKey r b + halfBase (s.cellarRec r b) p (Assoc.get false (160 * r + b) s.fab.ppSel != q.pre))
        (cellarWidth (cellarWcode (s.cellarRec r b) p)) (q.addr % cellarDepth (s.cellarRec r b) (cellarWidth (cellarWcode (s.cellarRec r b) p))))
      (mergeWord (cellarWidth (cellarWcode (s.cellarRec r b) p)) (effWe (cellarWidth (cellarWcode (s.cellarRec r b) p)) q.we)
        (cellarRead s.fab.cellar (cellarKey r b + halfBase (s.cellarRec r b) p (Assoc.get false (160 * r + b) s.fab.ppSel != q.pre))
          (cellarWidth (cellarWcode (s.cellarRec r b) p)) (q.addr % cellarDepth (s.cellarRec r b) (cellarWidth (cellarWcode (s.cellarRec r b) p))))
        q.data)) false false (s.port (portKey false r b p))
  larder : t.fab.larder = s.fab.larder
  pab : t.fab.pab = s.fab.pab
  same : SameBut [.fab] s t

theorem SameBut.cellarTdp (s : State) (r b : Nat) (pa pb : PortReq) (w a : Bool) : SameBut [.fab] s (s.cellarTdp r b pa pb w a) := by
  intro p hp; cases p <;> simp at hp <;> rfl

theorem SameBut.ppPresent (s : State) (r b : Nat) (q : PortReq) : SameBut [.fab] s (s.ppPresent r b q) := by
  intro p hp; cases p <;> simp at hp <;> rfl

theorem State.port_put_ne {f : Assoc PortSt} {k k' : Nat} (h : k ≠ k') (p q : PortSt) :
    Assoc.get ⟨0, 0, false, false, false, false⟩ k (Assoc.put k' p (Assoc.put k q f)) = q := by
  rw [Assoc.get_put_ne h, Assoc.get_put_self]

/-- One request at one port of a TDP or PINGPONG block. -/
theorem tdpPort_cellarAfter (s : State) (r b : Nat) {p : Nat} (q : PortReq) (w a : Bool) (hp : p < 2) (hmode : cellarMode (s.cellarRec r b) ≠ 1)
    (hen : q.en = true) : TdpPort s r b p q (s.cellarAfter r b (onPort p 0 q) (onPort p 1 q) w a) := by
  have htdp : TdpPort s r b p q (s.cellarTdp r b ((onPort p 0 q).getD noReq) ((onPort p 1 q).getD noReq) w a) := by
    obtain rfl | rfl : p = 0 ∨ p = 1 := by omega
    · refine ⟨?_, ?_, rfl, rfl, SameBut.cellarTdp _ _ _ _ _ _ _⟩
      · simp [State.cellarTdp, onPort, noReq, hen]
      · refine (State.port_put_ne (portKey_ne false r b) _ _).trans ?_
        simp [onPort, noReq, hen]
    · refine ⟨?_, ?_, rfl, rfl, SameBut.cellarTdp _ _ _ _ _ _ _⟩
      · simp [State.cellarTdp, onPort, noReq, hen]
      · refine (Assoc.get_put_self _ _ _ _).trans ?_
        simp [onPort, noReq, hen]
  unfold State.cellarAfter
  rw [if_neg hmode]
  obtain ⟨hcellar, hport, hlarder, hpab, hsame⟩ := htdp
  split
  · split
    · exact ⟨hcellar, hport, hlarder, hpab, hsame.trans (SameBut.ppPresent _ _ _ _)⟩
    · exact ⟨hcellar, hport, hlarder, hpab, hsame⟩
  · exact ⟨hcellar, hport, hlarder, hpab, hsame⟩

end Sys2Proof.Machine
end

section
/-! SDP blocks, Larder blocks and Pixel Arithmetic Blocks (R162 to R168, R175 to R189), and the proof of Obligations.BlockPortsAndPabs. -/

namespace Sys2Proof.Machine

open Reg

/-! ### Requests that a clock takes -/

theorem taken_onPort {clk : Nat → Bool} {p : Nat} (hclk : clk p = true) (n : Nat) (q : PortReq) :
    taken (clk n) (if p = n then some q else none) = onPort p n q := by
  unfold taken onPort
  by_cases h : p = n
  · subst h; simp [hclk]
  · simp [h]

theorem taken_true (q : Option PortReq) : taken true q = q := by cases q <;> rfl

theorem taken_false (q : Option PortReq) : taken false q = none := by cases q <;> rfl

theorem taken_none (clk : Bool) : taken clk none = none := rfl

/-! ### ECC results (R168, R169) -/

theorem SameBut.eccCount (s : State) (r : Nat) (l : Bool) (idx port : Nat) (q : PortReq) :
    SameBut [.fab, .kmi, .ldg, .regs, .out, .pba] s (s.eccCount r l idx port q) := by
  unfold State.eccCount
  split
  · intro p hp; cases p <;> simp at hp <;> rfl
  · exact (SameBut.ledger s _ _).mono (by simp)
  · exact SameBut.refl _ s

/-- Accounting for a read's ECC result changes of the blocks at most the Room's count. -/
theorem State.eccCount_fab (s : State) (r : Nat) (l : Bool) (idx port : Nat) (q : PortReq) :
    ∃ x, (s.eccCount r l idx port q).fab = { s.fab with sbe := x } := by
  unfold State.eccCount
  split
  · exact ⟨_, rfl⟩
  · exact ⟨s.fab.sbe, SameBut.ledger s _ _ .fab (by simp)⟩
  · exact ⟨s.fab.sbe, rfl⟩

/-! ### SDP (R162, R164, R168) -/

section
variable (s : State) (r b : Nat) (pa pb : PortReq) (w a : Bool)

/-- The write enables of both ports of an SDP block. -/
def sdpWe (pa pb : PortReq) : Nat := bits pa.we 3 0 + 16 * bits pb.we 3 0

/-- The stored words after an SDP access: with ECC the whole word and its check bits. -/
theorem State.cellarSdp_cellar (hen : pa.en = true) (hpb : pb.en = false) :
    (s.cellarSdp r b pa pb w a).fab.cellar = cellarWrite s.fab.cellar (cellarKey r b) 64 (pa.addr % 512)
      (if bitB (s.cellarRec r b) 14 && sdpWe pa pb != 0 then 255 else sdpWe pa pb)
      (if bitB (s.cellarRec r b) 14 then pa.data % 2 ^ 64 + 2 ^ 64 * (Config.ecc72 (pa.data % 2 ^ 64) % 256) else pa.data) ∧
    (s.cellarSdp r b pa pb w a).fab.larder = s.fab.larder ∧ (s.cellarSdp r b pa pb w a).fab.pab = s.fab.pab ∧
    SameBut [.fab] s (s.cellarSdp r b pa pb w a) := by
  unfold State.cellarSdp
  simp only [hen, hpb, Bool.and_false, Bool.false_eq_true, if_false, if_true]
  refine ⟨rfl, trivial, trivial, ?_⟩
  intro p hp; cases p <;> simp at hp <;> rfl

/-- An SDP read without a write. -/
theorem State.cellarSdp_read (hen : pb.en = true) (horst : pb.orst = false) : ∃ u : State,
    u.port (portKey false r b 1) = portEdge (bitB (s.cellarRec r b) 13) true false
      (some (if bitB (s.cellarRec r b) 14 then eccRead (cellarRead s.fab.cellar (cellarKey r b) 64 (pb.addr % 512) % 2 ^ 64) pb
        else (cellarRead s.fab.cellar (cellarKey r b) 64 (pb.addr % 512), false, false)).1)
      (bitB (s.cellarRec r b) 14 && pb.err == 1) (bitB (s.cellarRec r b) 14 && pb.err == 2) (s.port (portKey false r b 1)) ∧
    u.fab.cellar = s.fab.cellar ∧ SameBut [.fab] s u ∧
    s.cellarSdp r b noReq pb w a = if bitB (s.cellarRec r b) 14 then u.eccCount r false b 1 pb else u := by
  refine ⟨{ s with fab := { s.fab with ports := Assoc.put (portKey false r b 1) (portEdge (bitB (s.cellarRec r b) 13) true false
      (some (if bitB (s.cellarRec r b) 14 then eccRead (cellarRead s.fab.cellar (cellarKey r b) 64 (pb.addr % 512) % 2 ^ 64) pb
        else (cellarRead s.fab.cellar (cellarKey r b) 64 (pb.addr % 512), false, false)).1)
      (bitB (s.cellarRec r b) 14 && pb.err == 1) (bitB (s.cellarRec r b) 14 && pb.err == 2) (s.port (portKey false r b 1))) s.fab.ports } },
    Assoc.get_put_self _ _ _ _, rfl, ?_, ?_⟩
  · intro p hp; cases p <;> simp at hp <;> rfl
  · simp [State.cellarSdp, noReq, hen, horst, rdwOutput]

end

/-- A Cellar block whose ports take no request keeps its words and its ports' latches. -/
theorem State.cellarAfter_idle (s : State) (r b : Nat) (w a : Bool) : (s.cellarAfter r b none none w a).fab.cellar = s.fab.cellar ∧
    (s.cellarAfter r b none none w a).fab.larder = s.fab.larder ∧ (s.cellarAfter r b none none w a).fab.ppHalf = s.fab.ppHalf ∧
    ((s.cellarAfter r b none none w a).port (portKey false r b 0)).latch = (s.port (portKey false r b 0)).latch ∧
    ((s.cellarAfter r b none none w a).port (portKey false r b 1)).latch = (s.port (portKey false r b 1)).latch ∧
    SameBut [.fab] s (s.cellarAfter r b none none w a) := by
  unfold State.cellarAfter
  simp only [Option.getD_none]
  split
  · have hstate : ∃ q : PortSt, q.latch = (s.port (portKey false r b 1)).latch ∧ s.cellarSdp r b noReq noReq w a =
        { s with fab := { s.fab with ports := Assoc.put (portKey false r b 1) q s.fab.ports } } :=
      ⟨_, portEdge_idle _ _ _ _ _, if_neg (by simp [noReq])⟩
    obtain ⟨q, hq, hstate⟩ := hstate
    rw [hstate]
    refine ⟨rfl, rfl, rfl, ?_, ?_, ?_⟩
    · exact congrArg PortSt.latch (Assoc.get_put_ne (portKey_ne false r b) _ _ _)
    · exact (congrArg PortSt.latch (Assoc.get_put_self _ _ _ _)).trans hq
    · intro p hp; cases p <;> simp at hp <;> rfl
  · refine ⟨?_, rfl, rfl, ?_, ?_, SameBut.cellarTdp _ _ _ _ _ _ _⟩
    · simp [State.cellarTdp, noReq]
    · refine (congrArg PortSt.latch (State.port_put_ne (portKey_ne false r b) _ _)).trans ?_
      exact portEdge_idle _ _ _ _ _
    · refine (congrArg PortSt.latch (Assoc.get_put_self _ _ _ _)).trans ?_
      exact portEdge_idle _ _ _ _ _

/-! ### Larder words (R175 to R177) -/

theorem larderWord_write (ecc : Bool) (k v : Nat) (m : Assoc Nat) (h : ecc = true → v = 0 → Config.ecc72 0 % 256 = 0) :
    larderWord ecc k (Assoc.write 0 k v m) = v := by
  unfold larderWord
  cases ecc with
  | false => exact Assoc.get_write_self _ _ _ _
  | true =>
    unfold Assoc.write
    by_cases hv : v = 0
    · simp [hv, Assoc.get, Assoc.find?_del_self, h rfl hv]
    · simp [hv]

/-- A merged word that reads 0 under ECC is the word of an unlisted entry. -/
theorem larderMerge_zero {ecc : Bool} {we old new : Nat} (hwe : we ≠ 0) : ecc = true → larderMerge ecc we old new = 0 → Config.ecc72 0 % 256 = 0 := by
  rintro rfl h
  rw [larderMerge, if_neg hwe, if_pos rfl] at h
  have hdata : new % 2 ^ 64 = 0 := by omega
  rw [hdata] at h
  omega

/-- The words of a Larder after one port's request. -/
def larderPut (ecc : Bool) (k : Nat) (q : PortReq) (m : Assoc Nat) : Assoc Nat :=
  if q.en && q.we != 0 then Assoc.write 0 k (larderMerge ecc q.we (larderWord ecc k m) q.data) m else m

theorem larderPut_ne (ecc : Bool) {k x : Nat} (q : PortReq) (m : Assoc Nat) (hx : x ≠ k) : Assoc.get 0 x (larderPut ecc k q m) = Assoc.get 0 x m := by
  unfold larderPut
  split
  · exact Assoc.get_write_ne hx _ _ _ _
  · rfl

theorem larderPut_read (ecc : Bool) (k : Nat) {q : PortReq} (m : Assoc Nat) (hwe : q.we = 0) : larderPut ecc k q m = m := by
  unfold larderPut
  rw [if_neg]
  simp [hwe]

theorem larderWord_larderPut (ecc : Bool) (k : Nat) {q : PortReq} (m : Assoc Nat) (hen : q.en = true) (hwe : q.we ≠ 0) :
    larderWord ecc k (larderPut ecc k q m) = larderMerge ecc q.we (larderWord ecc k m) q.data := by
  unfold larderPut
  rw [if_pos (by simp [hen, hwe])]
  exact larderWord_write ecc k _ m (larderMerge_zero hwe)

theorem larderPut_noReq (ecc : Bool) (k : Nat) (m : Assoc Nat) : larderPut ecc k noReq m = m := rfl

section
variable (s : State) (r b : Nat) (pa pb : PortReq) (w a : Bool)

/-- A Larder access but for the ECC accounts: the words, the read sides, and what else stays. -/
theorem State.larderAccess_spec : ∃ u : State, SameBut [.fab] s u ∧ (u.fab.cellar = s.fab.cellar ∧ u.fab.ppHalf = s.fab.ppHalf) ∧
    u.fab.larder = (if w || a then
      larderPut (bitB (s.larderRec r b) 0) (4096 * (16 * r + b) + pb.addr % 4096) pb
        (larderPut (bitB (s.larderRec r b) 0) (4096 * (16 * r + b) + pa.addr % 4096) pa s.fab.larder)
      else larderPut (bitB (s.larderRec r b) 0) (4096 * (16 * r + b) + pa.addr % 4096) pa
        (larderPut (bitB (s.larderRec r b) 0) (4096 * (16 * r + b) + pb.addr % 4096) pb s.fab.larder)) ∧
    (pa.en = false → pa.orst = false → (u.port (portKey true r b 0)).latch = (s.port (portKey true r b 0)).latch) ∧
    (pb.en = false → pb.orst = false → (u.port (portKey true r b 1)).latch = (s.port (portKey true r b 1)).latch) ∧
    (bitB (s.larderRec r b) 0 = false → pa.en = true → pa.orst = false → pa.we = 0 → pb.en = false →
      (u.port (portKey true r b 0)).latch = larderWord false (4096 * (16 * r + b) + pa.addr % 4096) s.fab.larder) ∧
    (bitB (s.larderRec r b) 0 = false → pb.en = true → pb.orst = false → pb.we = 0 → pa.en = false →
      (u.port (portKey true r b 1)).latch = larderWord false (4096 * (16 * r + b) + pb.addr % 4096) s.fab.larder) ∧
    s.larderAccess r b pa pb w a =
      (let s2 := if bitB (s.larderRec r b) 0 && pa.en then u.eccCount r true b 0 pa else u
       if bitB (s.larderRec r b) 0 && pb.en then s2.eccCount r true b 1 pb else s2) := by
  refine ⟨_, ?_, ?_, ?_, ?_, ?_, ?_, ?_, rfl⟩
  · intro p hp; cases p <;> simp at hp <;> rfl
  · exact ⟨rfl, rfl⟩
  · rfl
  · intro hen horst
    refine (congrArg PortSt.latch (State.port_put_ne (portKey_ne true r b) _ _)).trans ?_
    rw [hen, horst]
    exact portEdge_idle _ _ _ _ _
  · intro hen horst
    refine (congrArg PortSt.latch (Assoc.get_put_self _ _ _ _)).trans ?_
    rw [hen, horst]
    exact portEdge_idle _ _ _ _ _
  · intro hecc hen horst hwe hother
    refine (congrArg PortSt.latch (State.port_put_ne (portKey_ne true r b) _ _)).trans ?_
    simp [hecc, hen, horst, hwe, hother, rdwOutput, portEdge_latch_some]
  · intro hecc hen horst hwe hother
    refine (congrArg PortSt.latch (Assoc.get_put_self _ _ _ _)).trans ?_
    simp [hecc, hen, horst, hwe, hother, rdwOutput, portEdge_latch_some]

end

end Sys2Proof.Machine
end

section
/-! Pixel Arithmetic Blocks (R178 to R189), and the proof of Obligations.BlockPortsAndPabs. -/

namespace Sys2Proof.Machine

open Reg

/-! ### A word with its check bits (R164) -/

/-- A word with check bits: its bytes are the data's, and bit `64 + k` is check bit `k`. -/
theorem bits_eccWord (v : Nat) {k : Nat} (hk : k < 8) :
    bits (v % 2 ^ 64 + 2 ^ 64 * (Config.ecc72 (v % 2 ^ 64) % 256)) (8 * k + 7) (8 * k) = bits v (8 * k + 7) (8 * k) ∧
    bits (v % 2 ^ 64 + 2 ^ 64 * (Config.ecc72 (v % 2 ^ 64) % 256)) (64 + k) (64 + k) = bits (Config.ecc72 (v % 2 ^ 64)) k k := by
  generalize Config.ecc72 (v % 2 ^ 64) = e
  unfold bits
  interval_cases k <;> omega

/-! ### States put back -/

theorem SameBut.pabPut (s : State) (r : Nat) (l : List (Nat × PabSt)) : SameBut [.fab] s (s.pabPut r l) := by
  intro p hp; cases p <;> simp at hp <;> rfl

theorem get_putAll_out (r : Nat) {l : List (Nat × PabSt)} {p : Nat} (h : ∀ x ∈ l, p ≠ x.1) (m : Assoc PabSt) :
    Assoc.get pabZero (96 * r + p) (l.foldl (fun m x => Assoc.put (96 * r + x.1) x.2 m) m) = Assoc.get pabZero (96 * r + p) m := by
  induction l generalizing m with
  | nil => rfl
  | cons x l ih =>
    have hx := h x (List.mem_cons_self ..)
    rw [List.foldl_cons, ih fun y hy => h y (List.mem_cons_of_mem _ hy), Assoc.get_put_ne (by omega)]

/-- A PAB that is not put keeps its state. -/
theorem State.pabSt_pabPut_out (s : State) (r : Nat) {l : List (Nat × PabSt)} {p : Nat} (h : ∀ x ∈ l, p ≠ x.1) : (s.pabPut r l).pabSt r p = s.pabSt r p :=
  get_putAll_out r h _

/-- A PAB that is put once has that state. -/
theorem State.pabSt_pabPut_in (s : State) (r : Nat) {l : List (Nat × PabSt)} (hl : (l.map (·.1)).Nodup) {x : Nat × PabSt} (hx : x ∈ l) :
    (s.pabPut r l).pabSt r x.1 = x.2 := by
  have hget : ∀ m, Assoc.get pabZero (96 * r + x.1) (l.foldl (fun m x => Assoc.put (96 * r + x.1) x.2 m) m) = x.2 := by
    induction l with
    | nil => cases hx
    | cons y l ih =>
      intro m
      obtain ⟨hy, hl⟩ := List.nodup_cons.mp hl
      rw [List.foldl_cons]
      rcases List.mem_cons.mp hx with rfl | hmem
      · rw [get_putAll_out r fun z hz heq => hy (List.mem_map.mpr ⟨z, hz, heq.symm⟩), Assoc.get_put_self]
      · exact ih hl hmem _
  exact hget _

/-! ### A tree cycle -/

section
variable {s : State} {r : Nat} {inp : List PabIn}

/-- The PABs of a cycle that run. -/
def State.pabLive (s : State) (r : Nat) (inp : List PabIn) : List PabIn := inp.filter (fun i => s.pabRuns r i.pab)

/-- The first array cycle of every PAB that runs. -/
def State.pabFirst (s : State) (r : Nat) (inp : List PabIn) : State :=
  s.pabPut r ((s.pabLive r inp).map (fun i => (i.pab, if s.pabRatio r i.pab then
    s.pabGear r i (if (s.pabSt r i.pab).phase == 0 then 0 else (s.pabSt r i.pab).phase + 1) else s.pabCycle r i)))

/-- The second array cycle, of the PABs at 5:4 whose group begins. -/
def State.pabSecond (s : State) (r : Nat) (inp : List PabIn) : State :=
  (s.pabFirst r inp).pabPut r ((((s.pabLive r inp).filter (fun i => s.pabRatio r i.pab)).filter (fun i => (s.pabSt r i.pab).phase == 0)).map
    (fun i => (i.pab, (s.pabFirst r inp).pabGear r i 1)))

/-- The end of the tree cycle, at 5:4. -/
def State.pabLast (s : State) (r : Nat) (inp : List PabIn) : State :=
  (s.pabSecond r inp).pabPut r (((s.pabLive r inp).filter (fun i => s.pabRatio r i.pab)).map
    (fun i => (i.pab, gearStep ((s.pabSecond r inp).pabSt r i.pab) i.a)))

theorem exec_pabCycle (hr : r < 24) (hpab : inp.any (fun i => decide (96 ≤ i.pab)) = false) (hon : bitB s.fab.portsOn r = true)
    (hwork : s.blockWork r 2 = false) : exec (.pabCycle r inp) s = .next (s.pabLast r inp) := by
  change execPabCycle r inp s = _
  rw [execPabCycle, if_neg (by simp only [hpab]; simp; omega), if_neg (by simp [hon, hwork])]
  rfl

theorem exec_pabCycle_off (hr : r < 24) (hpab : inp.any (fun i => decide (96 ≤ i.pab)) = false)
    (hoff : bitB s.fab.portsOn r = false ∨ s.blockWork r 2 = true) : exec (.pabCycle r inp) s = .next s := by
  change execPabCycle r inp s = _
  rw [execPabCycle, if_neg (by simp only [hpab]; simp; omega), if_pos (by rcases hoff with h | h <;> simp [h])]

theorem SameBut.pabLast : SameBut [.fab] s (s.pabLast r inp) :=
  ((SameBut.pabPut _ _ _).trans (SameBut.pabPut _ _ _)).trans (SameBut.pabPut _ _ _)

/-- A PAB that runs at 1:1 takes one array cycle. -/
theorem State.pabLast_cycle (hnodup : (inp.map (·.pab)).Nodup) {i : PabIn} (hi : i ∈ inp) (hrun : s.pabRuns r i.pab = true)
    (hratio : s.pabRatio r i.pab = false) : (s.pabLast r inp).pabSt r i.pab = s.pabCycle r i := by
  have hgear : ∀ j ∈ (s.pabLive r inp).filter (fun i => s.pabRatio r i.pab), i.pab ≠ j.pab := by
    intro j hj heq
    have hj' := (List.mem_filter.mp hj).2
    rw [← heq, hratio] at hj'
    cases hj'
  have hsecond : (s.pabSecond r inp).pabSt r i.pab = (s.pabFirst r inp).pabSt r i.pab := by
    refine State.pabSt_pabPut_out _ r fun x hx => ?_
    obtain ⟨j, hj, rfl⟩ := List.mem_map.mp hx
    exact hgear j (List.mem_filter.mp hj).1
  have hlast : (s.pabLast r inp).pabSt r i.pab = (s.pabSecond r inp).pabSt r i.pab := by
    refine State.pabSt_pabPut_out _ r fun x hx => ?_
    obtain ⟨j, hj, rfl⟩ := List.mem_map.mp hx
    exact hgear j hj
  have hlive : ((s.pabLive r inp).map (·.pab)).Nodup := List.Nodup.sublist (List.Sublist.map _ List.filter_sublist) hnodup
  rw [hlast, hsecond]
  refine (State.pabSt_pabPut_in s r (l := (s.pabLive r inp).map (fun i => (i.pab, if s.pabRatio r i.pab then
    s.pabGear r i (if (s.pabSt r i.pab).phase == 0 then 0 else (s.pabSt r i.pab).phase + 1) else s.pabCycle r i))) ?_
    (List.mem_map_of_mem (List.mem_filter.mpr ⟨hi, hrun⟩))).trans ?_
  · rw [List.map_map]; exact hlive
  · simp [hratio]

/-- A PAB that takes no array cycle keeps everything. -/
theorem State.pabLast_other {p : Nat} (hp : ∀ i ∈ s.pabLive r inp, p ≠ i.pab) : (s.pabLast r inp).pabSt r p = s.pabSt r p := by
  have hfirst : (s.pabFirst r inp).pabSt r p = s.pabSt r p := by
    refine State.pabSt_pabPut_out _ r fun x hx => ?_
    obtain ⟨j, hj, rfl⟩ := List.mem_map.mp hx
    exact hp j hj
  have hsecond : (s.pabSecond r inp).pabSt r p = (s.pabFirst r inp).pabSt r p := by
    refine State.pabSt_pabPut_out _ r fun x hx => ?_
    obtain ⟨j, hj, rfl⟩ := List.mem_map.mp hx
    exact hp j (List.mem_filter.mp (List.mem_filter.mp hj).1).1
  have hlast : (s.pabLast r inp).pabSt r p = (s.pabSecond r inp).pabSt r p := by
    refine State.pabSt_pabPut_out _ r fun x hx => ?_
    obtain ⟨j, hj, rfl⟩ := List.mem_map.mp hx
    exact hp j (List.mem_filter.mp hj).1
  rw [hlast, hsecond, hfirst]

/-- A PAB at 5:4, alone in its cycle. -/
theorem State.pabLast_gear {i : PabIn} (hrun : s.pabRuns r i.pab = true) (hratio : s.pabRatio r i.pab = true) :
    ((s.pabSt r i.pab).phase ≠ 0 → (s.pabLast r [i]).pabSt r i.pab = gearStep (s.pabGear r i ((s.pabSt r i.pab).phase + 1)) i.a) ∧
    ((s.pabSt r i.pab).phase = 0 → (s.pabLast r [i]).pabSt r i.pab = gearStep ((s.pabPut r [(i.pab, s.pabGear r i 0)]).pabGear r i 1) i.a) := by
  have hlive : s.pabLive r [i] = [i] := by simp [State.pabLive, hrun]
  have hgear : [i].filter (fun i => s.pabRatio r i.pab) = [i] := by simp [hratio]
  have hone : ∀ (u : State) (x : PabSt), (u.pabPut r [(i.pab, x)]).pabSt r i.pab = x := fun u x => Assoc.get_put_self _ _ _ _
  refine ⟨fun hph => ?_, fun hph => ?_⟩
  · simp [State.pabLast, State.pabSecond, State.pabFirst, hlive, hratio, hph, hone, State.pabSt_pabPut_out]
  · simp [State.pabLast, State.pabSecond, State.pabFirst, hlive, hratio, hph, hone]

end

/-! ### An array cycle (R182 to R186) -/

section
variable (s : State) (r : Nat) (i : PabIn)

theorem State.pabCycle_acc_hold (hce : i.ce = false) : (s.pabCycle r i).acc = (s.pabSt r i.pab).acc ∧ (s.pabCycle r i).bank = (s.pabSt r i.pab).bank := by
  simp [State.pabCycle, State.pabArray, hce]

/-- Lane `k`'s accumulator after an array cycle. -/
theorem State.pabCycle_acc (hce : i.ce = true) (k : Nat) : (s.pabCycle r i).acc.getD k 0 =
    ((pabAcc (s.pabRec r i.pab) (s.pabSt r i.pab) i (if i.pab % 32 = 0 then [] else (s.pabSt r (i.pab - 1)).acc)).map (·.1)).getD k 0 := by
  simp only [State.pabCycle, State.pabArray, hce, if_true]

theorem getD_range_map {α : Type} (f : Nat → α) (d : α) {n k : Nat} (hk : k < n) : ((List.range n).map f).getD k d = f k := by
  simp [List.getD_eq_getElem?_getD, hk]

/-- A lane's accumulator holds, loads, adds or subtracts its product, with the cascade input. -/
theorem pabAcc_getD (rec_ : Nat) (p : PabSt) (casc : List Nat) {k : Nat} (hk : k < 16) (hlane : k < pabLanes rec_) {c : Int}
    (hc : c = if bitB rec_ 11 then signed 80 (casc.getD k 0) else 0) :
    (i.opc % 4 = 0 → ((pabAcc rec_ p i casc).map (·.1)).getD k 0 = p.acc.getD k 0) ∧
    (i.opc % 4 = 1 → ((pabAcc rec_ p i casc).map (·.1)).getD k 0 = encodeInt 80 ((pabProducts rec_ p i).1.getD k 0 + c)) ∧
    (i.opc % 4 = 2 → ((pabAcc rec_ p i casc).map (·.1)).getD k 0 =
      encodeInt 80 (signed 80 (p.acc.getD k 0) + (pabProducts rec_ p i).1.getD k 0 + c)) ∧
    (i.opc % 4 = 3 → ((pabAcc rec_ p i casc).map (·.1)).getD k 0 =
      encodeInt 80 (signed 80 (p.acc.getD k 0) - (pabProducts rec_ p i).1.getD k 0 + c)) := by
  rw [pabAcc, List.map_map, getD_range_map _ _ hk, Function.comp_apply, if_neg (by omega), ← hc]
  refine ⟨fun h => ?_, fun h => ?_, fun h => ?_, fun h => ?_⟩ <;> simp only [h] <;> rfl

/-- Lanes never number more than 16 (R179). -/
theorem pabLanes_le (rec_ : Nat) : pabLanes rec_ ≤ 16 := (Nat.min_le_left _ _).trans (Nat.min_le_left _ _)

theorem length_foldl_setAt {β γ : Type} (f : γ → Nat) (g : γ → β) (l : List γ) (bk : List β) :
    (l.foldl (fun bk k => setAt bk (f k) (g k)) bk).length = bk.length := by
  induction l generalizing bk with
  | nil => rfl
  | cons x l ih => rw [List.foldl_cons, ih, length_setAt]

/-- A run of replacements at different places puts each. -/
theorem getD_foldl_setAt {β : Type} (f : Nat → Nat) (g : Nat → β) (d : β) (hf : ∀ a b, f a = f b → a = b) {l : List Nat} {k : Nat} (hk : k ∈ l)
    (bk : List β) (hlen : f k < bk.length) : (l.foldl (fun bk k => setAt bk (f k) (g k)) bk).getD (f k) d = g k := by
  have hout : ∀ (l : List Nat) (bk : List β), k ∉ l → (l.foldl (fun bk k => setAt bk (f k) (g k)) bk).getD (f k) d = bk.getD (f k) d := by
    intro l
    induction l with
    | nil => exact fun _ _ => rfl
    | cons x l ih =>
      intro bk hx
      obtain ⟨hne, hl⟩ := List.ne_and_not_mem_of_not_mem_cons hx
      rw [List.foldl_cons, ih _ hl, getD_setAt_ne _ _ _ fun h => hne (hf _ _ h)]
  induction l generalizing bk with
  | nil => cases hk
  | cons x l ih =>
    rw [List.foldl_cons]
    by_cases hmem : k ∈ l
    · exact ih hmem _ (by rwa [length_setAt])
    · obtain rfl : k = x := (List.mem_cons.mp hk).resolve_right hmem
      rw [hout l _ hmem, getD_setAt_self _ _ _ hlen]

theorem State.pabCycle_bank (hce : i.ce = true) (hcwe : i.cwe = true) {k : Nat} (hk : k < pabLanes (s.pabRec r i.pab))
    (hlen : (s.pabSt r i.pab).bank.length = 256) :
    (s.pabCycle r i).bank.getD (16 * k + i.cidx % 16) 0 = laneOp i.b (pabWb (s.pabRec r i.pab)) k := by
  have hbank : (s.pabCycle r i).bank = bankNext (s.pabRec r i.pab) (s.pabSt r i.pab) i := by simp [State.pabCycle, State.pabArray, hce]
  have hlanes := pabLanes_le (s.pabRec r i.pab)
  rw [hbank, bankNext, if_pos hcwe]
  exact getD_foldl_setAt (fun k => 16 * k + i.cidx % 16) _ 0 (fun a b (h : 16 * a + _ = 16 * b + _) => by omega) (List.mem_range.mpr hk) _ (by omega)

/-- The sticky flags gather, and CLR_STAT clears them; the result enters the pipeline. -/
theorem State.pabCycle_flags :
    (s.pabCycle r i).preOvf = (((s.pabSt r i.pab).preOvf && !i.clrStat) || (i.ce && (pabProducts (s.pabRec r i.pab) (s.pabSt r i.pab) i).2)) ∧
    (∃ ovf, (s.pabCycle r i).accOvf = (((s.pabSt r i.pab).accOvf && !i.clrStat) || (i.ce && ovf))) ∧
    (s.pabCycle r i).pipe = (pabPort (s.pabRec r i.pab) (s.pabCycle r i).acc (i.rbase % 16) :: (s.pabSt r i.pab).pipe).take 5 :=
  ⟨rfl, ⟨_, rfl⟩, rfl⟩

end

/-! ### CLR_STAT -/

theorem exec_pabClearStat_runs {s : State} {r p : Nat} (hr : r < 24) (hp : p < 96) (hrun : s.pabRuns r p = true) :
    exec (.pabClearStat r p) s = .next (s.pabPut r [(p, { s.pabSt r p with preOvf := false, accOvf := false })]) := by
  change execPabClearStat r p s = _
  rw [execPabClearStat, if_neg (by omega), if_neg (by simp [hrun])]
  rfl

theorem exec_pabClearStat_stopped {s : State} {r p : Nat} (hr : r < 24) (hp : p < 96) (hrun : s.pabRuns r p = false) :
    exec (.pabClearStat r p) s = .next s := by
  change execPabClearStat r p s = _
  rw [execPabClearStat, if_neg (by omega), if_pos (by simp [hrun])]

end Sys2Proof.Machine

open Sys2Proof.Machine Sys2Proof.Machine.Reg

/-- Settles O9: each access is its words' writes and its ports' edges, each PAB cycle the array cycles of the PABs that run. -/
theorem blockPortsAndPabs : Obligations.BlockPortsAndPabs := by
  unfold Obligations.BlockPortsAndPabs
  refine ⟨⟨?tdpBytes, ?tdpBits, ?tdpRead, ?sdpWrite, ?sdpRead, ?larder, ?larderBoth, ?stopped, ?off⟩, ?cycle, ?gear, ?pabOff, ?acc, ?bank, ?hold, ?flags,
    ?clear⟩
  case tdpBytes =>
    intro s r b p q w a d base hr hb hp hoff hclk hmode hen hd h8 hbase
    obtain ⟨hcellar, -, hlarder, hpab, hsame⟩ := tdpPort_cellarAfter s r b q w a hp hmode hen
    rw [← hd] at hcellar
    have hwe : ∀ k < d / 8, bitB (effWe d q.we) k = bitB q.we k := by
      intro k hk
      rw [effWe, if_neg (by omega), bitB_eq_testBit, Nat.testBit_mod_two_pow, bitB_eq_testBit]
      simp [hk]
    refine ⟨_, exec_blockPortAccess_cellar _ _ w a hr hb hoff, ?_⟩
    beta_reduce
    rw [taken_onPort hclk 0, taken_onPort hclk 1, hcellar]
    subst hbase
    refine ⟨fun k hk hk' => get_cellarWrite_in _ _ _ _ _ h8 hk (by rw [hwe k hk, hk']), fun x hx => ?_, hlarder, hpab, hsame⟩
    exact get_cellarWrite_out _ _ _ _ _ h8 fun k hk hk' => hx k hk (by rwa [hwe k hk] at hk')
  case tdpBits =>
    intro s r b p q w a d base hr hb hp hoff hclk hmode hen hwe hd h8 hbase
    obtain ⟨hcellar, -, hlarder, hpab, hsame⟩ := tdpPort_cellarAfter s r b q w a hp hmode hen
    rw [← hd, ← hbase] at hcellar
    have hwe' : bitB (effWe d q.we) 0 = true := by
      rw [effWe, if_pos h8]; simpa [bitB] using hwe
    have hwidth : d = 1 ∨ d = 2 ∨ d = 4 := by
      subst hd
      unfold cellarWidth at h8 ⊢
      obtain h | h | h | h : min (cellarWcode (s.cellarRec r b) p) 6 = 0 ∨ min (cellarWcode (s.cellarRec r b) p) 6 = 1 ∨
          min (cellarWcode (s.cellarRec r b) p) 6 = 2 ∨ 3 ≤ min (cellarWcode (s.cellarRec r b) p) 6 := by omega
      · simp [h]
      · simp [h]
      · simp [h]
      · exact absurd (Nat.pow_le_pow_right (by decide : 0 < 2) h) (by omega)
    refine ⟨_, exec_blockPortAccess_cellar _ _ w a hr hb hoff, ?_⟩
    beta_reduce
    rw [taken_onPort hclk 0, taken_onPort hclk 1, hcellar]
    exact ⟨fun n _ => bitB_cellarWrite _ _ _ _ _ hwidth hwe' n, fun x hx => get_cellarWrite_bit_out _ _ _ _ _ h8 hx, hlarder, hpab, hsame⟩
  case tdpRead =>
    intro s r b p q w a hr hb hp hoff hclk hmode hen horst hwe
    obtain ⟨hcellar, hport, hlarder, hpab, hsame⟩ := tdpPort_cellarAfter s r b q w a hp hmode hen
    refine ⟨_, exec_blockPortAccess_cellar _ _ w a hr hb hoff, ?_⟩
    beta_reduce
    rw [taken_onPort hclk 0, taken_onPort hclk 1]
    refine ⟨?_, fun horeg => ?_, hcellar.trans (by rw [hwe, cellarWrite_zero]), hlarder, hpab, hsame⟩
    · rw [hport, hwe, horst]
      exact portEdge_latch_some _ _ _ _ _
    · rw [hport, horst, horeg]
      exact portEdge_oreg _ _ _ _
  case sdpWrite =>
    intro s r b qa qb w a we hr hb hoff hclk0 hclk1 hmode hen hnot hwe
    obtain ⟨hcellar, hlarder, hpab, hsame⟩ := s.cellarSdp_cellar r b qa qb w a hen hnot
    have hstate : s.cellarAfter r b (some qa) (some qb) w a = s.cellarSdp r b qa qb w a := by
      unfold State.cellarAfter
      rw [if_pos hmode]
      exact if_neg (by rw [hmode]; decide)
    have hwe' : sdpWe qa qb = we := by rw [hwe]; simp [sdpWe, bits]
    rw [hwe'] at hcellar
    refine ⟨_, exec_blockPortAccess_cellar _ _ w a hr hb hoff, ?_⟩
    beta_reduce
    rw [hclk0, hclk1, taken_true, taken_true, hstate]
    refine ⟨fun hecc => ?_, fun hecc hne => ?_, hlarder, hpab, hsame⟩
    · simp only [hecc, Bool.false_and, Bool.false_eq_true, if_false] at hcellar
      rw [hcellar]
      exact ⟨fun k hk hk' => get_cellarWrite_in _ _ _ _ _ (by decide) hk hk', fun x hx => get_cellarWrite_out _ _ _ _ _ (by decide) hx⟩
    · simp only [hecc, Bool.true_and, bne_iff_ne, hne, ne_eq, not_false_eq_true, if_true] at hcellar
      intro k hk
      have hall : ∀ k < 8, bitB 255 k = true := by decide
      rw [hcellar, get_cellarWrite_in _ _ _ _ _ (by decide) hk (hall k hk)]
      obtain ⟨hlow, hhigh⟩ := bits_eccWord qa.data hk
      rw [hlow, hhigh]
  case sdpRead =>
    intro s r b q w a hr hb hoff hclk hmode hen horst
    obtain ⟨u, hport, hcellar, hsame, hstate⟩ := s.cellarSdp_read r b q w a hen horst
    have hafter : s.cellarAfter r b none (some q) w a = s.cellarSdp r b noReq q w a := by
      unfold State.cellarAfter
      rw [if_pos hmode]
      exact if_neg (by rw [hmode]; decide)
    refine ⟨_, exec_blockPortAccess_cellar _ _ w a hr hb hoff, ?_⟩
    beta_reduce
    rw [hclk, taken_true, taken_none, hafter, hstate]
    cases hecc : bitB (s.cellarRec r b) 14 with
    | false =>
      simp only [hecc, Bool.false_eq_true, if_false] at hport ⊢
      refine ⟨fun _ => ?_, fun h => h.elim, hcellar, hsame.mono (by simp)⟩
      rw [hport]
      exact portEdge_latch_some _ _ _ _ _
    | true =>
      simp only [hecc, Bool.true_and, if_true] at hport ⊢
      obtain ⟨x, hx⟩ := u.eccCount_fab r false b 1 q
      have hkeep : ∀ k, (u.eccCount r false b 1 q).port k = u.port k := fun k => by simp only [State.port, hx]
      obtain ⟨hsbe, hdbe⟩ := portEdge_errs (bitB (s.cellarRec r b) 13)
        (eccRead (cellarRead s.fab.cellar (cellarKey r b) 64 (q.addr % 512) % 2 ^ 64) q).1 (q.err == 1) (q.err == 2) (s.port (portKey false r b 1))
      rw [hkeep, hport]
      refine ⟨fun h => by simp at h, fun _ => ⟨hsbe, hdbe, fun hne => (portEdge_latch_some _ _ _ _ _).trans ?_⟩, ?_, ?_⟩
      · unfold eccRead
        split
        · rfl
        · next h => exact absurd h hne
        · rfl
      · rw [hx]; exact hcellar
      · exact (hsame.mono (by simp)).step (SameBut.eccCount u r false b 1 q) (by simp)
  case larder =>
    intro s r b p q w a k hr hb hp hoff hclk hen hk
    have hone : ∃ u : State, SameBut [.fab] s u ∧ u.fab.cellar = s.fab.cellar ∧ u.fab.larder = larderPut (bitB (s.larderRec r b) 0) k q s.fab.larder ∧
        (q.we = 0 → q.orst = false → bitB (s.larderRec r b) 0 = false → (u.port (portKey true r b p)).latch = larderWord false k s.fab.larder) ∧
        s.larderAccess r b ((onPort p 0 q).getD noReq) ((onPort p 1 q).getD noReq) w a =
          if bitB (s.larderRec r b) 0 then u.eccCount r true b p q else u := by
      obtain ⟨u, hsame, ⟨hcellar, -⟩, hlarder, -, -, hread0, hread1, hstate⟩ :=
        s.larderAccess_spec r b ((onPort p 0 q).getD noReq) ((onPort p 1 q).getD noReq) w a
      refine ⟨u, hsame, hcellar, ?_, ?_, ?_⟩
      · rw [hlarder, hk]
        obtain rfl | rfl : p = 0 ∨ p = 1 := by omega
        · simp [onPort, larderPut_noReq]
        · simp [onPort, larderPut_noReq]
      · intro hwe horst hecc
        rw [hk]
        obtain rfl | rfl : p = 0 ∨ p = 1 := by omega
        · exact hread0 hecc hen horst hwe rfl
        · exact hread1 hecc hen horst hwe rfl
      · rw [hstate]
        obtain rfl | rfl : p = 0 ∨ p = 1 := by omega
        · simp [onPort, noReq, hen]
        · simp [onPort, noReq, hen]
    obtain ⟨u, hsame, hcellar, hlarder, hread, hstate⟩ := hone
    have hkeep : ∃ x, (s.larderAccess r b ((onPort p 0 q).getD noReq) ((onPort p 1 q).getD noReq) w a).fab = { u.fab with sbe := x } := by
      rw [hstate]
      split
      · exact u.eccCount_fab r true b p q
      · exact ⟨u.fab.sbe, rfl⟩
    refine ⟨_, exec_blockPortAccess_larder _ _ w a hr hb hoff, ?_⟩
    beta_reduce
    rw [taken_onPort hclk 0, taken_onPort hclk 1]
    obtain ⟨x, hx⟩ := hkeep
    have hlarder' : (s.larderAccess r b ((onPort p 0 q).getD noReq) ((onPort p 1 q).getD noReq) w a).fab.larder =
        larderPut (bitB (s.larderRec r b) 0) k q s.fab.larder := by rw [hx]; exact hlarder
    refine ⟨fun hwe => ?_, fun hwe => ?_, fun hwe horst hecc => ?_, fun y hy => ?_, ?_, ?_⟩
    · rw [hlarder', larderWord_larderPut _ _ _ hen hwe]
    · rw [hlarder', larderPut_read _ _ _ hwe]
    · rw [State.port, hx]
      exact hread hwe horst hecc
    · rw [hlarder', larderPut_ne _ _ _ hy]
    · rw [hx]; exact hcellar
    · rw [hstate]
      split
      · exact (hsame.mono (by simp)).step (SameBut.eccCount u r true b p q) (by simp)
      · exact hsame.mono (by simp)
  case larderBoth =>
    intro s r b qa qb a k hr hb hoff hclk0 hclk1 hecc hena henb hwea hweb hk haddr
    obtain ⟨u, hsame, ⟨hcellar, -⟩, hlarder, -, -, -, -, hstate⟩ := s.larderAccess_spec r b qa qb true a
    simp only [hecc, Bool.false_and, Bool.false_eq_true, if_false] at hstate
    rw [hecc, haddr, ← hk, Bool.true_or, if_pos rfl] at hlarder
    have hexec := exec_blockPortAccess_larder (some qa) (some qb) true a hr hb hoff
    rw [hclk0, hclk1, taken_true, taken_true, Option.getD_some, Option.getD_some, hstate] at hexec
    refine ⟨u, hexec, ?_⟩
    beta_reduce
    rw [hlarder]
    refine ⟨?_, fun x hx => by rw [larderPut_ne _ _ _ hx, larderPut_ne _ _ _ hx], hcellar, hsame⟩
    have hb' := larderWord_larderPut false k (larderPut false k qa s.fab.larder) henb hweb
    rw [larderWord_larderPut false k s.fab.larder hena hwea] at hb'
    exact hb'
  case stopped =>
    intro s r b l qa qb w a hr hb hoff hclk0 hclk1
    cases l with
    | false =>
      refine ⟨_, exec_blockPortAccess_cellar _ _ w a hr hb hoff, ?_⟩
      beta_reduce
      rw [hclk0, hclk1, taken_false, taken_false]
      obtain ⟨hcellar, hlarder, hhalf, hport0, hport1, hsame⟩ := s.cellarAfter_idle r b w a
      exact ⟨hcellar, hlarder, hhalf, hport0, hport1, hsame⟩
    | true =>
      obtain ⟨u, hsame, ⟨hcellar, hhalf⟩, hlarder, hport0, hport1, -, -, hstate⟩ := s.larderAccess_spec r b noReq noReq w a
      have hu : s.larderAccess r b noReq noReq w a = u := by rw [hstate]; simp [noReq]
      have hwords : u.fab.larder = s.fab.larder := by rw [hlarder]; split <;> rfl
      have hexec := exec_blockPortAccess_larder (some qa) (some qb) w a hr hb hoff
      rw [hclk0, hclk1, taken_false, taken_false, Option.getD_none, hu] at hexec
      exact ⟨u, hexec, hcellar, hwords, hhalf, hport0 rfl rfl, hport1 rfl rfl, hsame⟩
  case off =>
    intro s r b l pa pb w a hr hb hoff
    refine ⟨_, exec_blockPortAccess_off pa pb w a hr hb hoff, ?_, ?_, rfl, rfl, ?_⟩
    · change Assoc.get _ _ (Assoc.del _ _) = _
      rw [Assoc.get, Assoc.find?_del_ne (portKey_ne l r b), Assoc.find?_del_self]
      rfl
    · change Assoc.get _ _ (Assoc.del _ _) = _
      rw [Assoc.get, Assoc.find?_del_self]
      rfl
    · intro p hp; cases p <;> simp at hp <;> rfl
  case cycle =>
    intro s r inp hr hpab hnodup hon hwork
    have hany : inp.any (fun i => decide (96 ≤ i.pab)) = false := by
      simp only [List.all_eq_true, decide_eq_true_eq, List.any_eq_false, Nat.not_le] at hpab ⊢
      exact hpab
    refine ⟨_, exec_pabCycle hr hany hon hwork, fun i hi hrun hratio => State.pabLast_cycle hnodup hi hrun hratio, fun i hi hrun => ?_, fun p hp => ?_,
      rfl, rfl, SameBut.pabLast⟩
    · refine State.pabLast_other fun j hj heq => ?_
      have hj' := (List.mem_filter.mp hj).2
      rw [← heq, hrun] at hj'
      cases hj'
    · exact State.pabLast_other fun j hj => hp j (List.mem_filter.mp hj).1
  case gear =>
    intro s r i hr hpab hon hwork hrun hratio
    obtain ⟨hlater, hfirst⟩ := State.pabLast_gear hrun hratio
    exact ⟨_, exec_pabCycle hr (by simpa using hpab) hon hwork, hlater, hfirst, SameBut.pabLast⟩
  case pabOff => exact fun s r inp hr hpab hoff => exec_pabCycle_off hr hpab hoff
  case acc =>
    intro s r i k c hce hk hlane hc
    rw [State.pabCycle_acc s r i hce k]
    exact pabAcc_getD i _ _ _ hk hlane hc
  case bank => exact fun s r i k hce hcwe hk hlen => s.pabCycle_bank r i hce hcwe hk hlen
  case hold => exact fun s r i hce => s.pabCycle_acc_hold r i hce
  case flags =>
    intro s r i
    obtain ⟨hpre, ⟨ovf, hacc⟩, hpipe⟩ := s.pabCycle_flags r i
    rw [hpre, hacc]
    refine ⟨fun h hclr => by simp [h, hclr], fun h hclr => by simp [h, hclr], fun hce h => by simp [hce, h], fun hce hclr => by simp [hce, hclr], hpipe⟩
  case clear =>
    intro s r p hr hp
    refine ⟨fun hrun => ?_, fun hrun => exec_pabClearStat_stopped hr hp hrun⟩
    have hself : ∀ x : PabSt, (s.pabPut r [(p, x)]).pabSt r p = x := fun x => Assoc.get_put_self _ _ _ _
    refine ⟨_, exec_pabClearStat_runs hr hp hrun, ?_⟩
    beta_reduce
    rw [hself]
    exact ⟨rfl, rfl, rfl, rfl, rfl, fun q hq => State.pabSt_pabPut_out s r (by simpa using hq), SameBut.pabPut _ _ _⟩
end

section
/-! The Pantry's engines (R428 to R436): what starts an operation, the fetch-lock, suspend and resume, and the proofs about
Obligations.PantryStartsAndFetchLock and Obligations.PantryWritesAndSuspend. -/

namespace Sys2Proof.Machine

open Reg

/-! ### Registers and engines -/

/-- Fields of indexed registers with different positions in their word have different keys. -/
theorem Fld.key_ne_of_lo {f g : Fld} (h : f.lo ≠ g.lo) (hf : f.lo < 32) (hg : g.lo < 32) (i j i' j' : Nat) : f.key i j ≠ g.key i' j' := by
  simp only [Fld.key]; omega

@[simp] theorem State.pBank_put2 (s : State) (f : Fld) (i j v b : Nat) : (s.set2 f i j v).pBank b = s.pBank b := rfl
@[simp] theorem State.pBank_seti (s : State) (f : Fld) (i v b : Nat) : (s.seti f i v).pBank b = s.pBank b := rfl
@[simp] theorem State.pBank_setNvwp (s : State) (h : Bool) (b : Nat) : (s.setNvwp h).pBank b = s.pBank b := rfl

theorem State.pBank_setPBank_self (s : State) {b : Nat} (k : PntBank) (hb : b < s.pnt.banks.length) : (s.setPBank b k).pBank b = k := by
  simp [State.setPBank, State.pBank, setAt, List.getD_eq_getElem?_getD, hb]

theorem State.pBank_setPBank_ne (s : State) {b c : Nat} (k : PntBank) (hc : c ≠ b) : (s.setPBank b k).pBank c = s.pBank c := by
  simp [State.setPBank, State.pBank, setAt, List.getD_eq_getElem?_getD, List.getElem?_set_ne (Ne.symm hc)]

theorem SameBut.setNvwp (s : State) (h : Bool) : SameBut [.pnt, .regs] s (s.setNvwp h) := by
  intro p hp; cases p <;> simp at hp <;> rfl

theorem SameBut.setPBank (s : State) (b : Nat) (k : PntBank) : SameBut [.pnt] s (s.setPBank b k) := by
  intro p hp; cases p <;> simp at hp <;> rfl

theorem RegsBut.setNvwp (s : State) (h : Bool) : RegsBut [PNT_PROT_NVWP_N] s (s.setNvwp h) :=
  (RegsBut.of_eq _ rfl).set (by simp)

/-- NVWP_N stands at bit 31 of its word alone, so sampling it leaves the fields at other positions. -/
theorem State.geti_setNvwp (s : State) (h : Bool) {f : Fld} (i : Nat) (hf : f.lo < 31) : (s.setNvwp h).geti f i = s.geti f i :=
  (RegsBut.setNvwp s h).geti fun g hg a b => by
    rw [List.mem_singleton.mp hg]
    exact Fld.key_ne_of_lo (by simp [PNT_PROT_NVWP_N]; omega) (by omega) (by decide) _ _ _ _

theorem State.pageBuf_setNvwp (s : State) (h : Bool) (b : Nat) : (s.setNvwp h).pageBuf b = s.pageBuf b := by
  have hget : ∀ w, (s.setNvwp h).get2 PNT_B_PAGE b w = s.get2 PNT_B_PAGE b w := fun w => (RegsBut.setNvwp s h).get2 _ _ _ fun g hg a c => by
    rw [List.mem_singleton.mp hg]
    exact Fld.key_ne_of_lo (by decide) (by decide) (by decide) _ _ _ _
  simp only [State.pageBuf, hget]

/-! ### Starting a program or an erase -/

theorem State.progRefusal_lt (s : State) (b off : Nat) (vaux : Bool) : s.progRefusal b off vaux < 16 := by
  unfold State.progRefusal; extract_lets; split_ifs <;> decide

theorem State.eraseRefusal_lt (s : State) (b off n : Nat) (vaux : Bool) : s.eraseRefusal b off n vaux < 16 := by
  unfold State.eraseRefusal; extract_lets; split_ifs <;> decide

section
variable (s : State) (b off n : Nat) (data : List Nat) (vaux : Bool)

/-- A refused PROGRAM only sets ERR. -/
theorem State.startProgram_refused (h : s.progRefusal b off vaux ≠ 0) :
    s.startProgram b off data vaux = (s.seti PNT_B_STAT_ERR b (s.progRefusal b off vaux), s.progRefusal b off vaux) := if_pos h

theorem State.startProgram_starts (h : s.progRefusal b off vaux = 0) :
    s.startProgram b off data vaux = (((s.setPBank b { s.pBank b with prog := off, data := data }).seti PNT_B_STAT_ERR b 0).seti
      PNT_B_STAT_STATE b (if s.geti PNT_B_STAT_STATE b = 3 then 4 else 1), 0) := if_neg (not_not.mpr h)

/-- A refused ERASE only sets ERR. -/
theorem State.startErase_refused (h : s.eraseRefusal b off n vaux ≠ 0) :
    s.startErase b off n vaux = (s.seti PNT_B_STAT_ERR b (s.eraseRefusal b off n vaux), s.eraseRefusal b off n vaux) := if_pos h

theorem State.startErase_starts (h : s.eraseRefusal b off n vaux = 0) :
    s.startErase b off n vaux = (((((s.setPBank b { s.pBank b with er := off / 4096, erLeft := n }).seti PNT_B_STAT_ERR b 0).seti
      PNT_B_STAT_SUSP_CNT b 0).seti PNT_B_STAT_ERASED b 0).seti PNT_B_STAT_STATE b 2, 0) := if_neg (not_not.mpr h)

/-- The bank whose firmware executes refuses with SELF_BANK unless the fetch-lock is set (R433). -/
theorem State.refusal_selfBank (hv : s.flag PNT_XBANK_VALID = true) (hb : s.get PNT_XBANK_BANK = b) (hl : s.flag PNT_FLOCK_LOCK = false) :
    s.progRefusal b off vaux = 1 ∧ s.eraseRefusal b off n vaux = 1 := by
  simp [State.progRefusal, State.eraseRefusal, hv, hb, hl]

end

/-! ### A counterexample to Obligations.PantryWritesAndSuspend -/

/-- An executing PANTRY_READ of bank 0 whose mailbox number is none of the part's: the STATE field of that number lies at PNT_B0_STAT.STATE. -/
def strayRead : RunCmd := ⟨0x4043, ⟨0x0810, 0, 0, 0, 0, 0, 0, 0, 0, 0, 0, 0, []⟩, false, false, 1⟩

/-- Bank 0 programs, no firmware job names it, and the stray PANTRY_READ waits for it. -/
def strayReadState : State := ({ State.reset with kmi := { State.reset.kmi with running := [strayRead] } }).seti PNT_B_STAT_STATE 0 1

/-- At the end of the program the waiting read completes, and its DONE is what PNT_B0_STAT.STATE then reads. -/
theorem strayReadState_done : ∃ t, exec (.pntProgramDone 0 true) strayReadState = .next t ∧ t.geti PNT_B_STAT_STATE 0 = 4 := ⟨_, rfl, by decide⟩

end Sys2Proof.Machine

open Sys2Proof.Machine Sys2Proof.Machine.Reg

/-- Settles O10: a start samples NVWP_N, then sets ERR, or the engine and STATE; the fetch-lock is one or two fields. -/
theorem pantryStartsAndFetchLock : Obligations.PantryStartsAndFetchLock := by
  unfold Obligations.PantryStartsAndFetchLock
  refine ⟨⟨?starts, ?self, ?marked⟩, ?lock⟩
  case starts =>
    intro s b nvwp vaux hb hlen
    have hoff : (s.setNvwp nvwp).geti PNT_B_ADDR_OFFSET b = s.geti PNT_B_ADDR_OFFSET b := s.geti_setNvwp nvwp b (by decide)
    have hst : (s.setNvwp nvwp).geti PNT_B_STAT_STATE b = s.geti PNT_B_STAT_STATE b := s.geti_setNvwp nvwp b (by decide)
    have hcnt : (s.setNvwp nvwp).geti PNT_B_COUNT_SECTORS b = s.geti PNT_B_COUNT_SECTORS b := s.geti_setNvwp nvwp b (by decide)
    have hkey : ∀ f g : Fld, (f.lo ≠ g.lo ∧ f.lo < 32 ∧ g.lo < 32) → f.key b 0 ≠ g.key b 0 := fun f g h => Fld.key_ne_of_lo h.1 h.2.1 h.2.2 _ _ _ _
    have hprog : exec (.pntProgram b nvwp vaux) s =
        .next ((s.setNvwp nvwp).startProgram b ((s.setNvwp nvwp).geti PNT_B_ADDR_OFFSET b) ((s.setNvwp nvwp).pageBuf b) vaux).1 :=
      (if_neg (by omega)).trans (by rw [State.pageBuf_setNvwp])
    have herase : exec (.pntErase b nvwp vaux) s = .next ((s.setNvwp nvwp).startErase b ((s.setNvwp nvwp).geti PNT_B_ADDR_OFFSET b)
        (max 1 ((s.setNvwp nvwp).geti PNT_B_COUNT_SECTORS b)) vaux).1 := if_neg (by omega)
    have hsame : SameBut [.pnt, .regs] s (s.setNvwp nvwp) := SameBut.setNvwp s nvwp
    have hregs : RegsBut [PNT_PROT_NVWP_N, PNT_B_STAT_STATE, PNT_B_STAT_ERR] s (s.setNvwp nvwp) := (RegsBut.setNvwp s nvwp).mono (by simp)
    refine ⟨fun h0 => ⟨_, hprog, ?_⟩, fun e he h => ⟨_, hprog, ?_⟩, fun h0 => ⟨_, herase, ?_⟩, fun e he h => ⟨_, herase, ?_⟩⟩
    · rw [State.startProgram_starts _ _ _ _ _ h0, State.pageBuf_setNvwp, hst, hoff]
      refine ⟨?_, ?_, ?_, ?_, ?_, ?_⟩
      · rw [State.geti_seti_self]; split <;> rfl
      · rw [State.geti_seti_ne _ _ _ _ _ _ (hkey _ _ (by decide)), State.geti_seti_self]; rfl
      · rw [State.pBank_seti, State.pBank_seti, State.pBank_setPBank_self _ _ (by rw [show (s.setNvwp nvwp).pnt.banks = s.pnt.banks from rfl]; omega)]
      · rw [State.pBank_seti, State.pBank_seti, State.pBank_setPBank_self _ _ (by rw [show (s.setNvwp nvwp).pnt.banks = s.pnt.banks from rfl]; omega)]
      · exact ((hsame.step (SameBut.setPBank _ _ _) (by simp)).seti (by simp)).seti (by simp)
      · exact ((hregs.upd rfl).seti (by simp)).seti (by simp)
    · have hlt := State.progRefusal_lt (s.setNvwp nvwp) b ((s.setNvwp nvwp).geti PNT_B_ADDR_OFFSET b) vaux
      rw [State.startProgram_refused _ _ _ _ _ (h ▸ he)]
      rw [h] at hlt ⊢
      refine ⟨?_, ?_, rfl, hsame.seti (by simp)⟩
      · rw [State.geti_seti_self]; exact Nat.mod_eq_of_lt hlt
      · rw [State.geti_seti_ne _ _ _ _ _ _ (hkey _ _ (by decide)), hst]
    · rw [State.startErase_starts _ _ _ _ _ h0, hoff, hcnt]
      refine ⟨State.geti_seti_self _ _ _ _, ?_, ?_, ?_, ?_, ?_, ?_⟩
      · rw [State.geti_seti_ne _ _ _ _ _ _ (hkey _ _ (by decide)), State.geti_seti_ne _ _ _ _ _ _ (hkey _ _ (by decide)),
          State.geti_seti_ne _ _ _ _ _ _ (hkey _ _ (by decide)), State.geti_seti_self]
        rfl
      · rw [State.geti_seti_ne _ _ _ _ _ _ (hkey _ _ (by decide)),
          State.geti_seti_ne _ _ _ _ _ _ (hkey _ _ (by decide)), State.geti_seti_self]
        rfl
      · rw [State.geti_seti_ne _ _ _ _ _ _ (hkey _ _ (by decide)), State.geti_seti_self]
        rfl
      · simp only [State.pBank_seti]
        rw [State.pBank_setPBank_self _ _ (by rw [show (s.setNvwp nvwp).pnt.banks = s.pnt.banks from rfl]; omega)]
      · simp only [State.pBank_seti]
        rw [State.pBank_setPBank_self _ _ (by rw [show (s.setNvwp nvwp).pnt.banks = s.pnt.banks from rfl]; omega)]
      · exact ((((hsame.step (SameBut.setPBank _ _ _) (by simp)).seti (by simp)).seti (by simp)).seti (by simp)).seti (by simp)
    · have hlt := State.eraseRefusal_lt (s.setNvwp nvwp) b ((s.setNvwp nvwp).geti PNT_B_ADDR_OFFSET b)
        (max 1 ((s.setNvwp nvwp).geti PNT_B_COUNT_SECTORS b)) vaux
      rw [State.startErase_refused _ _ _ _ _ (h ▸ he)]
      rw [h] at hlt ⊢
      refine ⟨?_, ?_, rfl, hsame.seti (by simp)⟩
      · rw [State.geti_seti_self]; exact Nat.mod_eq_of_lt hlt
      · rw [State.geti_seti_ne _ _ _ _ _ _ (hkey _ _ (by decide)), hst]
  case self => exact fun s b off n vaux hv hb hl => s.refusal_selfBank b off n vaux hv hb hl
  case marked =>
    intro s b off n vaux hself hn
    have hsel : ¬(s.flag PNT_XBANK_VALID && s.get PNT_XBANK_BANK == b && !s.flag PNT_FLOCK_LOCK) = true := Bool.eq_false_iff.mp hself
    exact ⟨fun hm => (if_neg hsel).trans (if_pos (by rw [hn, hm]; rfl)), fun hm => (if_neg hsel).trans (if_pos (by rw [hn, hm]; rfl))⟩
  case lock =>
    intro s
    refine ⟨⟨_, rfl, ?_, State.get_set_self _ _ _, ((SameBut.refl _ s).set (by simp)).set (by simp),
      ((RegsBut.refl _ s).set (by simp)).set (by simp)⟩, fun h0 h1 => ?_, fun hbusy hl => ?_⟩
    · rw [State.get_set_ne _ _ _ _ (by decide), State.get_set_self]; rfl
    · refine ⟨_, if_pos (by simp [State.pIdle, h0, h1]), State.get_set_self _ _ _, (SameBut.refl _ s).set (by simp), (RegsBut.refl _ s).set (by simp)⟩
    · have hidle : ¬s.pIdle = true := by simp [State.pIdle]; omega
      refine ⟨_, (if_neg hidle).trans (if_pos (by simp [State.flag, hl])), ?_, State.get_set_self _ _ _, (SameBut.refl _ s).set (by simp),
        (RegsBut.refl _ s).set (by simp)⟩
      rw [State.get_set_ne _ _ _ _ (by decide), hl]

/-- Refutes O11: no premise says that the executing commands name mailboxes of the part, and a PANTRY_READ of mailbox 0x4043 that waited for bank 0
leaves 4 in PNT_B0_STAT.STATE when a program of the bank ends, where the statement says 0. -/
theorem not_pantryWritesAndSuspend : ¬ Obligations.PantryWritesAndSuspend := by
  unfold Obligations.PantryWritesAndSuspend
  rintro ⟨⟨-, hends, -⟩, -⟩
  obtain ⟨u, hu, hstate, -⟩ := hends strayReadState 0 (by decide) (.inl (by decide)) (by decide)
  obtain ⟨t, ht, h4⟩ := strayReadState_done
  obtain rfl : t = u := by simpa [ht] using hu
  rw [h4, show strayReadState.geti PNT_B_STAT_STATE 0 = 1 by decide] at hstate
  exact absurd hstate (by decide)
end

section
/-! The OTP (R441 to R447): what its operations leave, a program that another follows, and the refutation of Obligations.OtpOperations. -/

namespace Sys2Proof.Machine

open Reg

/-! ### The executing commands, where Ledger entries are made -/

@[simp] theorem State.event_running (s : State) (code group e0 e1 : Nat) : (s.event code group e0 e1).kmi.running = s.kmi.running := by
  unfold State.event
  extract_lets unread r s1
  split_ifs
  · rfl
  · rw [State.msix_kmi]
  · rfl

@[simp] theorem State.ledgerAppend_kmi (s : State) (code flags tick supp time detail : Nat) :
    (s.ledgerAppend code flags tick supp time detail).kmi = s.kmi := by
  unfold State.ledgerAppend
  extract_lets seq r ldg s1 s2
  have h2 : s2.kmi = s.kmi := by simp only [s2]; split <;> rfl
  exact h2

@[simp] theorem State.ledgerTake_running (s : State) (code flags tick time detail : Nat) :
    (s.ledgerTake code flags tick time detail).kmi.running = s.kmi.running := by
  unfold State.ledgerTake
  extract_lets cls src0 sTok a1 src1 sRun supp b1 src2 src3 sDrop
  have htok : sTok.kmi = s.kmi := by simp only [sTok]; split <;> rfl
  have hrun : sRun.kmi = s.kmi := by
    simp only [sRun]
    split
    · exact (State.ledgerAppend_kmi ..).trans htok
    · exact htok
  have hrun' : sRun.kmi.running = s.kmi.running := congrArg KmiSt.running hrun
  have hb1 : b1.kmi = sRun.kmi := State.ledgerAppend_kmi ..
  split_ifs
  · rfl
  · exact (congrArg KmiSt.running hb1).trans hrun'
  · exact hrun'
  · exact (State.event_running ..).trans hrun'

@[simp] theorem State.ledger_running (s : State) (code detail : Nat) : (s.ledger code detail).kmi.running = s.kmi.running := by
  unfold State.ledger
  split_ifs
  · exact State.ledgerTake_running ..
  · rfl
  · rfl
  · rfl

/-- Reading the life cycle off the OTP leaves the executing commands. -/
@[simp] theorem State.lcDecode_running (s : State) : s.lcDecode.kmi.running = s.kmi.running := by
  unfold State.lcDecode
  extract_lets f fields s0 put k inc
  split_ifs
  · rfl
  · exact State.ledger_running ..
  · rfl

/-! ### A counterexample to Obligations.OtpOperations -/

/-- The end of F4's program in a RETURN starts the program of F6 (R541). -/
theorem State.lcNext_otp (s : State) {c : RunCmd} (hfind : s.kmi.running.find? (fun c => runOp 0x0A02 c || runOp 0x0A07 c) = some c)
    (hop : c.cmd.opcode = 0x0A02) (hkey : c.key % 8 = 4) : (s.lcNext true).pnt.otp = some (2, lcFieldData 6, c.mbx + 1) := by
  have hfind' := hfind
  rw [← State.lcDecode_running] at hfind'
  simp only [State.lcNext, hfind', hop, hkey, Bool.not_true, Bool.false_eq_true, if_false, if_true]
  rfl

/-- A program of a life-cycle field goes on in its transition. -/
theorem exec_otpProgramDone_field {s : State} {d : List Nat} {mb : Nat} (v : Bool) (h : s.pnt.otp = some (2, d, mb)) (hmb : mb ≠ 0) :
    exec (.otpProgramDone v) s = .next ((s.otpEnd v).lcNext v) := by
  change execOtpProgramDone v s = _
  simp only [execOtpProgramDone, h, ok, ne_eq, hmb, not_false_eq_true, and_self, if_true]

/-- An executing LC_ADVANCE that programs F4. -/
def returnStep : RunCmd := ⟨0, ⟨0x0A02, 0, 0, 0, 0, 0, 0, 0, 0, 0, 0, 0, []⟩, false, false, 4⟩

/-- The program of F4 into row 2 of the OTP is about to end. -/
def returnState : State :=
  { State.reset with kmi := { State.reset.kmi with running := [returnStep] }, pnt := { State.reset.pnt with otp := some (2, lcFieldData 4, 1) } }

theorem returnState_running : (returnState.otpEnd true).kmi.running = [returnStep] := rfl

end Sys2Proof.Machine

open Sys2Proof.Machine Sys2Proof.Machine.Reg

/-- Refutes O12: the end of a program may start the next one, as F4 of a RETURN is followed by F6, and then the OTP is not free. -/
theorem not_otpOperations : ¬ Obligations.OtpOperations := by
  unfold Obligations.OtpOperations
  rintro ⟨-, -, hdone, -⟩
  obtain ⟨t, ht, -, -, hfree, -⟩ := hdone returnState 2 1 (lcFieldData 4) rfl
  have hnext : t = (returnState.otpEnd true).lcNext true := 
    Host.Outcome.next.inj (ht.symm.trans (exec_otpProgramDone_field true rfl (by decide)))
  rw [hnext, State.lcNext_otp _ (c := returnStep) (by rw [returnState_running]; rfl) rfl rfl] at hfree
  exact absurd hfree (by simp)
end

section
/-! The Pantry and OTP commands of the KMI (R414, R426 to R428, R434, R437, R443, R444), and the proof of Obligations.PantryCommands. -/

namespace Sys2Proof.Machine

open Reg

/-! ### The state after a KMI command -/

/-- Delivering results writes the mailbox's own STATE. -/
theorem State.get2_kmiFinish (s : State) (m : Nat) (c : KmiCmd) (st fl d : Nat) (r data : List Nat) {f : Fld} {i j : Nat}
    (h : f.key i j ≠ KMI_MBX_STATE.key m 0) : (s.kmiFinish m c st fl d r data).get2 f i j = s.get2 f i j := by
  unfold State.kmiFinish
  extract_lets limit written trunc s1 compl b s2
  have h1 : s1.regs = s.regs := by simp only [s1]; split <;> rfl
  have h2 : s2.get2 f i j = s.get2 f i j := (State.get2_set2_ne _ _ _ _ _ _ _ _ h).trans (State.get2_congr h1 f i j)
  split
  · exact (State.get2_congr (State.msix_regs _ _ _) f i j).trans h2
  · exact h2

theorem State.get2_kmiRunning (s : State) (m : Nat) (c : KmiCmd) (w : Bool) (k : Nat) {f : Fld} {i j : Nat}
    (h : f.key i j ≠ KMI_MBX_STATE.key m 0) : (s.kmiRunning m c w k).get2 f i j = s.get2 f i j :=
  State.get2_set2_ne _ _ _ _ _ _ _ _ h

/-- A field of a register outside the mailboxes' has another key than their STATE. -/
theorem key_ne_mbxState {f : Fld} {m : Nat} (i j : Nat) (hm : m < 15) (h : 0x600040 ≤ f.addr ∨ f.lo ≠ 0 ∧ f.lo < 32) :
    f.key i j ≠ KMI_MBX_STATE.key m 0 := by
  simp only [Fld.key, KMI_MBX_STATE]; omega

theorem SameBut.kmiRunning (s : State) (m : Nat) (c : KmiCmd) (w : Bool) (k : Nat) : SameBut [.kmi, .regs] s (s.kmiRunning m c w k) := by
  intro p hp; cases p <;> simp at hp <;> rfl

section
variable {i : Instr} {op m : Nat} {body : KmiCmd → State → KmiRes} {s u : State} {c : KmiCmd} {st d k : Nat} {r data : List Nat} {w : Bool}
  {p : State → Prop} {x : Host.Outcome State Fault Refusal} (hx : exec i s = x) (hexec : x = kmiCommand op m body s) (hready : KmiReady s op m c)
include hx hexec hready

/-- A command that delivers its results from the state `u`, the state after it written out. -/
theorem answers_fin (hb : body c (s.kmiUnpost m) = .fin u st d r data) (hl : u.kmi.mbx.length = s.kmi.mbx.length)
    (hp : KmiDone (u.kmiFinish m c st 0 d r data) m st r data.length → KmiData (u.kmiFinish m c st 0 d r data) m c data →
      p (u.kmiFinish m c st 0 d r data)) : Answers i s p := by
  obtain ⟨hnext, hdone⟩ := kmi_fin hready hb hl
  have hm := kmiReady_lt hready
  exact ⟨_, (hx.trans hexec).trans hnext, hp hdone (kmiFinish_data _ _ _ _ _ _ _ _ (by omega))⟩

/-- A command that goes on executing from the state `u`, the state after it written out. -/
theorem answers_run (hb : body c (s.kmiUnpost m) = .run u w k) (hp : KmiRuns (u.kmiRunning m c w k) m c → p (u.kmiRunning m c w k)) :
    Answers i s p := by
  obtain ⟨hnext, hruns⟩ := kmi_run hready hb
  exact ⟨_, (hx.trans hexec).trans hnext, hp hruns⟩

end

/-! ### Reads of the Pantry (R426, R427) -/

@[simp] theorem State.length_pantryData (s : State) (a n : Nat) : (s.pantryData a n).1.length = n := by simp [State.pantryData]

theorem SameBut.pantryData (s : State) (a n : Nat) : SameBut [.regs] s (s.pantryData a n).2 :=
  SameBut.ite (fun _ => (SameBut.refl _ s).seti (by simp)) fun _ => SameBut.refl _ s

theorem RegsBut.pantryData (s : State) (a n : Nat) : RegsBut [PNT_B_STAT_SUSP_READ] s (s.pantryData a n).2 :=
  RegsBut.ite (fun _ => (RegsBut.refl _ s).seti (by simp)) fun _ => RegsBut.refl _ s

theorem State.pantryData_pnt (s : State) (a n : Nat) : (s.pantryData a n).2.pnt = s.pnt := SameBut.pantryData s a n .pnt (by simp)

/-- A read sets SUSP_READ at most, which no other position of a word sees. -/
theorem State.geti_pantryData (s : State) (a n : Nat) {f : Fld} (i : Nat) (hf : f.lo ≠ 8) (hlo : f.lo < 32) :
    (s.pantryData a n).2.geti f i = s.geti f i :=
  (RegsBut.pantryData s a n).geti fun g hg _ _ => by
    rw [List.mem_singleton.mp hg]
    exact Fld.key_ne_of_lo hf hlo (by decide) _ _ _ _

/-- The state a completing PANTRY_READ goes on from, its retried words counted where RETRY_EN is set. -/
def State.pantryRetried (s : State) (a n k : Nat) : State :=
  if s.flag PNT_CTRL_RETRY_EN then (s.pantryData a n).2.addi PNT_ERR_CNT_RETRY 0 k else (s.pantryData a n).2

theorem SameBut.pantryRetried (s : State) (a n k : Nat) : SameBut [.regs] s (s.pantryRetried a n k) :=
  SameBut.ite (fun _ => (SameBut.pantryData s a n).seti (by simp)) fun _ => SameBut.pantryData s a n

theorem RegsBut.pantryRetried (s : State) (a n k : Nat) : RegsBut [PNT_B_STAT_SUSP_READ, PNT_ERR_CNT_RETRY] s (s.pantryRetried a n k) :=
  RegsBut.ite (fun _ => ((RegsBut.pantryData s a n).mono (by simp)).seti (by simp)) fun _ => (RegsBut.pantryData s a n).mono (by simp)

theorem State.pantryRetried_cnt (s : State) (a n k : Nat) (h : s.flag PNT_CTRL_RETRY_EN = true) :
    (s.pantryRetried a n k).get PNT_ERR_CNT_RETRY = satAdd PNT_ERR_CNT_RETRY.top (s.get PNT_ERR_CNT_RETRY) k % 2 ^ 16 := by
  rw [State.pantryRetried, if_pos h]
  refine (State.geti_seti_self _ PNT_ERR_CNT_RETRY 0 _).trans ?_
  rw [s.geti_pantryData a n 0 (by decide) (by decide)]
  rfl

/-- An uncorrectable word: counted, its address kept, and recorded (R426). -/
theorem State.pantryUe_regs (s : State) (w : Nat) :
    Counts s (s.pantryUe w) PNT_ERR_CNT_UE 0 ∧ (s.pantryUe w).get PNT_LAST_UE_ADDR = w % 2 ^ PNT_LAST_UE_ADDR.width ∧
      (s.pantryUe w).get PNT_LAST_UE_VALID = 1 := by
  have hled : ∀ (u : State) (f : Fld), f ∈ [PNT_ERR_CNT_UE, PNT_LAST_UE_ADDR, PNT_LAST_UE_VALID] →
      (u.ledger 0x0803 (w % 2 ^ 25)).get f = u.get f := fun u f hf => State.get2_ledger u _ _ (by revert f; decide)
  refine ⟨?_, ?_, ?_⟩
  · refine (hled _ _ (by simp)).trans ?_
    rw [State.get_set_ne _ _ _ _ (by decide), State.get_set_ne _ _ _ _ (by decide)]
    exact State.geti_seti_self _ _ _ _
  · refine (hled _ _ (by simp)).trans ?_
    rw [State.get_set_ne _ _ _ _ (by decide), State.get_set_self]
  · exact (hled _ _ (by simp)).trans (State.get_set_self _ _ _)

theorem SameBut.pantryUe (s : State) (w : Nat) : SameBut [.kmi, .ldg, .regs, .out, .pba] s (s.pantryUe w) :=
  ((((SameBut.refl _ s).inc (by simp)).set (by simp)).set (by simp)).led (by simp)

theorem SameBut.freshBytes (s : State) (n : Nat) : SameBut [.freeCount] s (s.freshBytes n).2 := by
  intro p hp; cases p <;> simp at hp <;> rfl

/-- The bytes a PANTRY_READ shows where the word at `w` is uncorrectable: an undefined content in its place. -/
def State.pantryShown (s : State) (a n w k : Nat) : List Nat :=
  (List.range n).map fun i =>
    if (a + i) / 8 = w / 8 then ((s.pantryRetried a n k).freshBytes 8).1.getD ((a + i) % 8) 0 else (s.pantryData a n).1.getD i 0

@[simp] theorem State.length_pantryShown (s : State) (a n w k : Nat) : (s.pantryShown a n w k).length = n := by simp [State.pantryShown]

@[simp] theorem State.pantryRetried_kept (s : State) (a n k : Nat) : (s.pantryRetried a n k).kept = s.kept := by simp [State.pantryRetried]

@[simp] theorem State.freshBytes_geti (s : State) (n : Nat) (f : Fld) (i : Nat) : (s.freshBytes n).2.geti f i = s.geti f i := rfl

/-! ### Operations started (R428, R431) -/

/-- What an accepted PROGRAM leaves of its bank. -/
theorem State.startProgram_bank (s : State) {b off : Nat} (data : List Nat) {vaux : Bool} (h : s.progRefusal b off vaux = 0)
    (hb : b < s.pnt.banks.length) :
    ((s.startProgram b off data vaux).1.pBank b).data = data ∧ ((s.startProgram b off data vaux).1.pBank b).prog = off ∧
      SameBut [.pnt, .regs] s (s.startProgram b off data vaux).1 := by
  rw [State.startProgram_starts _ _ _ _ _ h]
  refine ⟨?_, ?_, (((SameBut.refl _ s).step (SameBut.setPBank s b _) (by simp)).seti (by simp)).seti (by simp)⟩
  · rw [State.pBank_seti, State.pBank_seti, State.pBank_setPBank_self _ _ hb]
  · rw [State.pBank_seti, State.pBank_seti, State.pBank_setPBank_self _ _ hb]

/-- What an accepted ERASE leaves of its bank, and of the others. -/
theorem State.startErase_bank (s : State) {b off n : Nat} {vaux : Bool} (h : s.eraseRefusal b off n vaux = 0) (hb : b < s.pnt.banks.length) :
    (s.startErase b off n vaux).1.geti PNT_B_STAT_STATE b = 2 ∧ ((s.startErase b off n vaux).1.pBank b).er = off / 4096 ∧
      ((s.startErase b off n vaux).1.pBank b).erLeft = n ∧ (∀ c, c ≠ b → (s.startErase b off n vaux).1.pBank c = s.pBank c) ∧
      SameBut [.pnt, .regs] s (s.startErase b off n vaux).1 := by
  rw [State.startErase_starts _ _ _ _ _ h]
  refine ⟨State.geti_seti_self _ _ _ _, ?_, ?_, fun c hc => ?_,
    (((((SameBut.refl _ s).step (SameBut.setPBank s b _) (by simp)).seti (by simp)).seti (by simp)).seti (by simp)).seti (by simp)⟩
  · simp only [State.pBank_seti]
    rw [State.pBank_setPBank_self _ _ hb]
  · simp only [State.pBank_seti]
    rw [State.pBank_setPBank_self _ _ hb]
  · simp only [State.pBank_seti]
    rw [State.pBank_setPBank_ne _ _ hc]


/-- Firmware has a further job for the Pantry. -/
def State.addJob (s : State) (j : PntJob) : State := { s with pnt := { s.pnt with jobs := s.pnt.jobs ++ [j] } }

theorem SameBut.addJob (s : State) (j : PntJob) : SameBut [.pnt] s (s.addJob j) := by
  intro p hp; cases p <;> simp at hp <;> rfl

@[simp] theorem State.pBank_addJob (s : State) (j : PntJob) (b : Nat) : (s.addJob j).pBank b = s.pBank b := rfl

@[simp] theorem State.pBank_kmiRunning (s : State) (m : Nat) (c : KmiCmd) (w : Bool) (k b : Nat) : (s.kmiRunning m c w k).pBank b = s.pBank b := rfl

/-- How PANTRY_PROGRAM, PANTRY_ERASE and FW_UPDATE go on from the start of their first operation. -/
def jobStart (x : State × Nat) (j : PntJob) : KmiRes :=
  if x.2 ≠ 0 then .fin x.1 (pntStatus x.2) 0 [] [] else .run (x.1.addJob j) false j.mbx

theorem jobStart_run {x : State × Nat} (j : PntJob) (h : x.2 = 0) : jobStart x j = .run (x.1.addJob j) false j.mbx := if_neg (not_not.mpr h)

theorem jobStart_fin {x : State × Nat} {u : State} {e : Nat} (j : PntJob) (hx : x = (u, e)) (he : e ≠ 0) :
    jobStart x j = .fin u (pntStatus e) 0 [] [] := by
  subst hx
  exact if_pos he

end Sys2Proof.Machine

open Sys2Proof.Machine Sys2Proof.Machine.Reg

/-- Settles O13: each command's body takes one branch, whose engine operation the lemmas above describe, and completes or goes on. -/
theorem pantryCommands : Obligations.PantryCommands := by
  unfold Obligations.PantryCommands
  refine ⟨?read, ?program, ?erase, ?update, ?otpRead, ?otpProgram⟩
  case read =>
    intro s m c ra w hready
    refine ⟨fun hlong => ?_, fun hfit hbusy => ?_, fun hfit hfree => ⟨fun hno => ?_, fun hen => ?_⟩⟩
    · exact answers_reads (x := execPantryRead m ra none s) rfl rfl hready (if_pos hlong) fun t hdone _ hsame _ => ⟨hdone, hsame .pantry (by simp)⟩
    · exact answers_executes (x := execPantryRead m ra none s) rfl rfl hready
        ((if_neg (by omega)).trans (if_pos (by rw [Bool.not_eq_true']; exact hbusy)))
        fun t hruns hsame hregs _ _ => ⟨hruns, ((SameBut.kmiUnpost s m).mono (by simp)).trans hsame, (RegsBut.of_eq _ rfl).trans hregs⟩
    · have hues : (if s.flag PNT_CTRL_RETRY_EN = true then [] else ra) ++ (none : Option Nat).toList = [] := by
        rcases hno with h | h <;> simp [h]
      refine answers_fin (x := execPantryRead m ra none s) rfl rfl hready
        (u := (s.kmiUnpost m).pantryRetried (c.a0 % 2 ^ 25) (c.a1 % 2 ^ 24) ra.length) (data := (s.pantryData (c.a0 % 2 ^ 25) (c.a1 % 2 ^ 24)).1)
        (st := stOk) (r := []) (d := 0) ?_ ?_ fun hdone hdata => ?_
      · refine (if_neg (by omega)).trans ((if_neg (by rw [Bool.not_eq_true']; exact ne_of_eq_of_ne hfree (by decide))).trans ?_)
        simp only [show (s.kmiUnpost m).flag PNT_CTRL_RETRY_EN = s.flag PNT_CTRL_RETRY_EN from rfl, hues, List.foldl_nil, List.isEmpty_nil, if_true]
        rfl
      · exact State.mbx_length_of_kept (State.pantryRetried_kept (s.kmiUnpost m) _ _ _)
      · rw [State.length_pantryData] at hdone
        refine ⟨hdone, hdata, fun hen => ?_, ?_, ?_⟩
        · exact (State.get2_kmiFinish _ _ _ _ _ _ _ _ (key_ne_mbxState _ _ hready.1 (by decide))).trans (State.pantryRetried_cnt _ _ _ _ hen)
        · exact (((SameBut.kmiUnpost s m).mono (by simp)).trans ((SameBut.pantryRetried _ _ _ _).mono (by simp))).trans
            (SameBut.kmiFinish _ _ _ _ _ _ _ _)
        · exact (RegsBut.trans (RegsBut.of_eq _ rfl) ((RegsBut.pantryRetried (s.kmiUnpost m) _ _ _).mono (by simp))).trans
            ((RegsBut.kmiFinish _ _ _ _ _ _ _ _).mono (by simp))
    · have hues : (if s.flag PNT_CTRL_RETRY_EN = true then [] else ra) ++ (some w).toList = [w] := by rw [if_pos hen]; rfl
      refine answers_fin (x := execPantryRead m ra (some w) s) rfl rfl hready
        (u := (((s.kmiUnpost m).pantryRetried (c.a0 % 2 ^ 25) (c.a1 % 2 ^ 24) ra.length).freshBytes 8).2.pantryUe w)
        (data := (s.kmiUnpost m).pantryShown (c.a0 % 2 ^ 25) (c.a1 % 2 ^ 24) w ra.length) (st := stHwFault) (r := []) (d := 0) ?_ ?_ fun hdone _ => ?_
      · refine (if_neg (by omega)).trans ((if_neg (by rw [Bool.not_eq_true']; exact ne_of_eq_of_ne hfree (by decide))).trans ?_)
        simp only [show (s.kmiUnpost m).flag PNT_CTRL_RETRY_EN = s.flag PNT_CTRL_RETRY_EN from rfl, hues, List.foldl_cons, List.foldl_nil,
          List.isEmpty_cons, Bool.false_eq_true, if_false]
        rfl
      · exact State.mbx_length_of_kept ((State.pantryUe_kept _ _).trans ((State.freshBytes_kept _ _).trans (State.pantryRetried_kept _ _ _ _)))
      · rw [State.length_pantryShown] at hdone
        obtain ⟨hcnt, haddr, hvalid⟩ := State.pantryUe_regs (((s.kmiUnpost m).pantryRetried (c.a0 % 2 ^ 25) (c.a1 % 2 ^ 24) ra.length).freshBytes 8).2 w
        have hue : ((s.kmiUnpost m).pantryRetried (c.a0 % 2 ^ 25) (c.a1 % 2 ^ 24) ra.length).geti PNT_ERR_CNT_UE 0 = s.geti PNT_ERR_CNT_UE 0 :=
          (RegsBut.pantryRetried (s.kmiUnpost m) _ _ _).geti fun g hg _ _ => by
            have hpos : ∀ g ∈ [PNT_B_STAT_SUSP_READ, PNT_ERR_CNT_RETRY], PNT_ERR_CNT_UE.lo ≠ g.lo ∧ g.lo < 32 := by decide
            exact Fld.key_ne_of_lo (hpos g hg).1 (by decide) (hpos g hg).2 _ _ _ _
        refine ⟨hdone, ?_, ?_, ?_, ?_⟩
        · refine (State.get2_kmiFinish _ _ _ _ _ _ _ _ (key_ne_mbxState _ _ hready.1 (by decide))).trans (hcnt.trans ?_)
          rw [State.freshBytes_geti, hue]
        · exact (State.get2_kmiFinish _ _ _ _ _ _ _ _ (key_ne_mbxState _ _ hready.1 (by decide))).trans haddr
        · exact (State.get2_kmiFinish _ _ _ _ _ _ _ _ (key_ne_mbxState _ _ hready.1 (by decide))).trans hvalid
        · exact (((((SameBut.refl [.kmi, .regs, .out, .pba, .freeCount, .ldg] s).step (SameBut.kmiUnpost s m) (by simp)).step (SameBut.pantryRetried _ _ _ _) (by simp)).step
            (SameBut.freshBytes _ 8) (by simp)).step (SameBut.pantryUe _ w) (by simp)).step (SameBut.kmiFinish _ _ _ _ _ _ _ _) (by simp) .pantry (by simp)
  case program =>
    intro s m c hready
    have hpages : c.a0 % 2 ^ 25 % 256 = 0 → c.dataIn.length % 256 = 0 → c.dataIn ≠ [] → c.a0 % 2 ^ 25 % 2 ^ 24 + c.dataIn.length ≤ 2 ^ 24 →
        ¬(c.a0 % 2 ^ 25 % 256 ≠ 0 ∨ c.dataIn.length % 256 ≠ 0 ∨ c.dataIn.length = 0 ∨ 2 ^ 24 < c.a0 % 2 ^ 25 % 2 ^ 24 + c.dataIn.length) := by
      intro h1 h2 h3 h4
      have := List.length_eq_zero_iff.not.mpr h3
      omega
    refine ⟨fun hbad => ?_, fun h1 h2 h3 h4 hmark hlen => ⟨fun h0 => ?_, fun e he h => ?_⟩, fun h1 h2 h3 h4 hn hmark => ?_⟩
    · refine answers_reads (x := execPantryProgram m s) rfl rfl hready (if_pos ?_) fun t hdone _ hsame _ => ⟨hdone, hsame .pnt (by simp), hsame .pantry (by simp)⟩
      simpa using hbad
    · have hunm : ¬(!s.pnt.nvwp && s.marked (c.a0 % 2 ^ 25) c.dataIn.length) = true := by
        cases hx : s.pnt.nvwp <;> simp_all
      obtain ⟨hdata, hprog, hsame⟩ := State.startProgram_bank (s.kmiUnpost m) (c.dataIn.take 256) h0 (show _ < s.pnt.banks.length by omega)
      refine answers_run (x := execPantryProgram m s) rfl rfl hready
        (u := ((s.kmiUnpost m).startProgram (c.a0 % 2 ^ 25 / 2 ^ 24) (c.a0 % 2 ^ 25 % 2 ^ 24) (c.dataIn.take 256) true).1.addJob
          ⟨m, c.a0 % 2 ^ 25 / 2 ^ 24, 0, c.a0 % 2 ^ 25 % 2 ^ 24 + 256, c.dataIn.drop 256⟩) (w := false) (k := m) ?_ fun hruns => ?_
      · refine (if_neg (hpages h1 h2 h3 h4)).trans ((if_neg hunm).trans ?_)
        exact jobStart_run _ (congrArg Prod.snd (State.startProgram_starts (s.kmiUnpost m) _ _ _ _ h0))
      · exact ⟨hruns, hdata, hprog, ((((SameBut.refl _ s).step (SameBut.kmiUnpost s m) (by simp)).step hsame (by simp)).step
          (SameBut.addJob _ _) (by simp)).step (SameBut.kmiRunning _ _ _ _ _) (by simp)⟩
    · have hunm : ¬(!s.pnt.nvwp && s.marked (c.a0 % 2 ^ 25) c.dataIn.length) = true := by
        cases hx : s.pnt.nvwp <;> simp_all
      subst h
      refine answers_delivers (x := execPantryProgram m s) rfl rfl hready (u := (s.kmiUnpost m).seti PNT_B_STAT_ERR (c.a0 % 2 ^ 25 / 2 ^ 24) (s.progRefusal (c.a0 % 2 ^ 25 / 2 ^ 24) (c.a0 % 2 ^ 25 % 2 ^ 24) true))
        (d := 0) (r := []) (data := []) ((if_neg (hpages h1 h2 h3 h4)).trans ((if_neg hunm).trans ?_)) rfl
        fun t hdone _ hsame _ => ⟨hdone, hsame .pnt (by simp), hsame .pantry (by simp)⟩
      exact jobStart_fin ⟨m, _, 0, c.a0 % 2 ^ 25 % 2 ^ 24 + 256, c.dataIn.drop 256⟩ (State.startProgram_refused (s.kmiUnpost m) _ _ _ _ he) he
    · exact answers_reads (x := execPantryProgram m s) rfl rfl hready
        ((if_neg (hpages h1 h2 h3 h4)).trans (if_pos (show (!s.pnt.nvwp && s.marked _ _) = true by rw [hn, hmark]; rfl)))
        fun t hdone _ hsame _ => ⟨hdone, hsame .pnt (by simp), hsame .pantry (by simp)⟩
  case erase =>
    intro s m c hready hlen
    refine ⟨fun h0 => ?_, fun e he h => ?_⟩
    · obtain ⟨hstate, her, hleft, -, hsame⟩ := State.startErase_bank (s.kmiUnpost m) h0 (show _ < s.pnt.banks.length by omega)
      refine answers_run (x := execPantryErase m s) rfl rfl hready
        (u := ((s.kmiUnpost m).startErase (c.a0 % 2 ^ 25 / 2 ^ 24) (c.a0 % 2 ^ 25 % 2 ^ 24) (max 1 (c.a1 % 2 ^ 13)) true).1.addJob
          ⟨m, c.a0 % 2 ^ 25 / 2 ^ 24, 1, 0, []⟩) (w := false) (k := m) ?_ fun hruns => ⟨hruns, ?_, ?_, ?_, ?_⟩
      · exact jobStart_run _ (congrArg Prod.snd (State.startErase_starts (s.kmiUnpost m) _ _ _ _ h0))
      · exact (State.get2_kmiRunning _ _ _ _ _ (key_ne_mbxState _ _ hready.1 (by decide))).trans hstate
      · rw [State.pBank_kmiRunning, State.pBank_addJob, her]
      · rw [State.pBank_kmiRunning, State.pBank_addJob, hleft]
      · exact ((((SameBut.refl _ s).step (SameBut.kmiUnpost s m) (by simp)).step hsame (by simp)).step
          (SameBut.addJob _ _) (by simp)).step (SameBut.kmiRunning _ _ _ _ _) (by simp)
    · subst h
      refine answers_delivers (x := execPantryErase m s) rfl rfl hready
        (u := (s.kmiUnpost m).seti PNT_B_STAT_ERR (c.a0 % 2 ^ 25 / 2 ^ 24)
          (s.eraseRefusal (c.a0 % 2 ^ 25 / 2 ^ 24) (c.a0 % 2 ^ 25 % 2 ^ 24) (max 1 (c.a1 % 2 ^ 13)) true))
        (d := 0) (r := []) (data := []) ?_ rfl fun t hdone _ hsame _ => ⟨hdone, hsame .pnt (by simp), hsame .pantry (by simp)⟩
      exact jobStart_fin ⟨m, _, 1, 0, []⟩ (State.startErase_refused (s.kmiUnpost m) _ _ _ _ he) he
  case update =>
    intro s m c hready
    refine ⟨fun hbad => ?_, fun h1 h2 => ⟨fun hok hlen hcopy h0 => ?_, fun e he hok h => ?_, fun hbad => ?_⟩⟩
    · refine answers_reads (x := execFwUpdate m s) rfl rfl hready (if_pos ?_) fun t hdone _ hsame _ => ⟨hdone, hsame⟩
      simpa using hbad
    all_goals have hfit : ¬(c.dataIn.length = 0 ∨ 0x400000 < c.dataIn.length) := by
                have := List.length_eq_zero_iff.not.mpr h1
                omega
    · obtain ⟨hstate, -, -, hother, hsame⟩ := State.startErase_bank (s.kmiUnpost m) h0 (show _ < s.pnt.banks.length by omega)
      refine answers_run (x := execFwUpdate m s) rfl rfl hready
        (u := ((s.kmiUnpost m).startErase (1 - s.kmi.copy) 0 (ceilDiv c.dataIn.length 4096) true).1.addJob ⟨m, 1 - s.kmi.copy, 2, 0, c.dataIn⟩)
        (w := false) (k := m) ?_ fun hruns => ⟨hruns, ?_, ?_, ?_⟩
      · refine (if_neg hfit).trans ((if_neg (by simp [hok])).trans ?_)
        exact jobStart_run _ (congrArg Prod.snd (State.startErase_starts (s.kmiUnpost m) _ _ _ _ h0))
      · exact (State.get2_kmiRunning _ _ _ _ _ (key_ne_mbxState _ _ hready.1 (by decide))).trans hstate
      · rw [State.pBank_kmiRunning, State.pBank_addJob, hother s.kmi.copy (by omega)]
        rfl
      · exact ((((SameBut.refl _ s).step (SameBut.kmiUnpost s m) (by simp)).step hsame (by simp)).step
          (SameBut.addJob _ _) (by simp)).step (SameBut.kmiRunning _ _ _ _ _) (by simp)
    · subst h
      refine answers_delivers (x := execFwUpdate m s) rfl rfl hready
        (u := (s.kmiUnpost m).seti PNT_B_STAT_ERR (1 - s.kmi.copy) (s.eraseRefusal (1 - s.kmi.copy) 0 (ceilDiv c.dataIn.length 4096) true))
        (d := 0) (r := []) (data := []) ((if_neg hfit).trans ((if_neg (by simp [hok])).trans ?_)) rfl fun t hdone _ hsame _ => ⟨hdone, hsame .pnt (by simp)⟩
      exact jobStart_fin ⟨m, _, 2, 0, c.dataIn⟩ (State.startErase_refused (s.kmiUnpost m) _ _ _ _ he) he
    · exact answers_reads (x := execFwUpdate m s) rfl rfl hready ((if_neg hfit).trans (if_pos (by simp [hbad])))
        fun t hdone _ hsame _ => ⟨hdone, hsame⟩
  case otpRead =>
    intro s m c hready
    exact answers_reads (x := execOtpRead m s) rfl rfl hready rfl fun t hdone hdata hsame hregs => ⟨hdone, hdata, hsame, hregs⟩
  case otpProgram =>
    intro s m c hready
    refine ⟨fun hlen hfree h0 => ?_, fun hlen hfree he => ?_, fun hlen hbusy => ?_, fun hlen => ?_⟩
    · have hidle : ¬(s.kmiUnpost m).flag OTP_STAT_BUSY = true := Bool.eq_false_iff.mp hfree
      refine answers_run (x := execOtpProgram m s) rfl rfl hready
        (u := ({ s.kmiUnpost m with pnt := { s.pnt with otp := some (bits c.a0 5 0, c.dataIn, m + 1) } }).set OTP_STAT_BUSY 1) (w := false) (k := m)
        ((if_neg (not_not.mpr hlen)).trans ((if_neg hidle).trans ?_)) fun hruns => ⟨hruns, rfl, ?_, ?_⟩
      · exact if_neg (c := (s.kmiUnpost m).otpRefusal (bits c.a0 5 0) c.dataIn true ≠ 0) (not_not.mpr h0)
      · have hbusy := (State.get2_kmiRunning (({ s.kmiUnpost m with pnt := { s.pnt with otp := some (bits c.a0 5 0, c.dataIn, m + 1) } }).set
          OTP_STAT_BUSY 1) m c false m (key_ne_mbxState (f := OTP_STAT_BUSY) 0 0 hready.1 (by decide))).trans (State.get2_set2_self _ _ 0 0 1)
        exact beq_of_eq hbusy
      · intro p hp; cases p <;> simp at hp <;> rfl
    · have hidle : ¬(s.kmiUnpost m).flag OTP_STAT_BUSY = true := Bool.eq_false_iff.mp hfree
      exact answers_delivers (x := execOtpProgram m s) rfl rfl hready ((if_neg (not_not.mpr hlen)).trans ((if_neg hidle).trans (if_pos he))) rfl
        fun t hdone _ hsame _ => ⟨hdone, hsame .otp (by simp), hsame .pnt (by simp)⟩
    · exact answers_reads (x := execOtpProgram m s) rfl rfl hready ((if_neg (not_not.mpr hlen)).trans (if_pos hbusy))
        fun t hdone _ hsame _ => ⟨hdone, hsame .otp (by simp), hsame .pnt (by simp)⟩
    · exact answers_reads (x := execOtpProgram m s) rfl rfl hready (if_pos hlen)
        fun t hdone _ hsame _ => ⟨hdone, hsame .otp (by simp), hsame .pnt (by simp)⟩
end

section
/-! Room writes to DRAM (R289, R290, R292, R293): the state a command answers, and the refutation of Obligations.DramWriteTransfers. -/

namespace Sys2Proof.Machine

open Reg

/-! ### The answered state -/

/-- The state that a command answers. -/
def nextOf (i : Instr) (s : State) : State :=
  match exec i s with
  | .next t => t
  | _ => s

theorem nextOf_eq {i : Instr} {s t : State} (h : exec i s = .next t) : nextOf i s = t := by rw [nextOf, h]

theorem Answers.nextOf {i : Instr} {s : State} {p : State → Prop} (h : Answers i s p) : p (nextOf i s) := by
  obtain ⟨t, ht, hp⟩ := h
  rwa [nextOf_eq ht]

/-! ### A counterexample to Obligations.DramWriteTransfers -/

/-- Every group of 128 Door groups is used, and nothing else is set in their records. -/
def allGroupsUsed : Nat := (2 ^ 4096 - 1) / (2 ^ 32 - 1)

/-- Room 3 is active with its trees on the device clock and every Door used, the DRAM takes requests, and its stream 2 is open both ways. -/
def dramRoom : State :=
  let s := ((((((State.reset.seti CFG_ROOM_STAT_ACT_BANK 3 3).set DMC_GEOM_CAP_GIB 1).set DMC_CFG_EN 1).set DMC_STAT_TRAINED 1).set2
    DMC_STR_LO_SIZE_LOG2 3 2 16).set2 DMC_STR_HI_WR 3 2 1).set2 DMC_STR_HI_RD 3 2 1
  { s with
    boot := { s.boot with opened := true }
    cfg := { s.cfg with bankFr := (bankKey 3 0 0, 16 + 32 * 16) :: (List.range 8).map (fun k => (bankKey 3 0 (1 + k), allGroupsUsed)) } }

/-- A queued write that covers line 64. -/
def coveringWrite : DReq := ⟨true, 64, 2 ^ 64 - 1, 0, [], false, 0, false⟩

/-- A waiting read of line 64 that stands for a line of the write transfer that comes next. -/
def strayRequest : DReq := ⟨false, 64, 1, 0, [.roomW 0 0 0], false, 0, false⟩

/-- The stray read waits at the interconnect while the covering write is queued. -/
def strayRequestState : State :=
  { dramRoom with dmc := { dramRoom.dmc with wait := [strayRequest], subs := List.replicate 4 { SubSt.init with wq := [coveringWrite] } } }

/-- The transfer's one line counts as done with the stray read. -/
theorem strayRequestState_acks :
    (nextOf (.dramWriteTransfer 3 1 2 (2 ^ 48) [(1, 0xFFFF)] 5) strayRequestState).dmc.acks = [⟨0, 3, 1, 2, 0, true, 0, 0, [0]⟩] := by
  decide +kernel

end Sys2Proof.Machine

open Sys2Proof.Machine Sys2Proof.Machine.Reg

/-- Refutes O14: the requests that wait may stand for anything, and a waiting read that stands for a line of the transfer to come, once it is
served from a queued write, leaves that transfer's acknowledgement with one line fewer outstanding than it has. -/
theorem not_dramWriteTransfers : ¬ Obligations.DramWriteTransfers := by
  unfold Obligations.DramWriteTransfers
  intro h
  obtain ⟨-, htaken⟩ := h strayRequestState 3 1 2 (2 ^ 48) 5 _ [(1, 0xFFFF)] _ (by decide) (by decide) (by decide) rfl rfl
  have hack := ((htaken (by decide +kernel) (by decide +kernel)).2 0 65536 (by decide +kernel) (by decide +kernel) (by decide +kernel)
    (by decide +kernel) (by decide +kernel) (by decide +kernel)).nextOf.2.1 (by decide +kernel)
  rw [strayRequestState_acks] at hack
  obtain ⟨a, ha, -, -, -, -, -, -, hleft, -⟩ := hack
  obtain rfl := List.mem_singleton.mp ha
  exact absurd hleft (by decide)
end

section
/-! What the DRAM Controller's queues and a port's words change (R147, R291 to R293), and the proof of Obligations.DramReadsAndAcks. -/

namespace Sys2Proof.Machine

open Reg

/-! ### Requests served and accepted -/

/-- A step of the controller's queues: only its own state, the fabric's ports and the outward log change, and no identifier is given out. -/
structure Serves (s t : State) : Prop where
  same : SameBut [.dmc, .fab, .out] s t
  nextId : t.dmc.nextId = s.dmc.nextId

theorem Serves.refl (s : State) : Serves s s := ⟨SameBut.refl _ s, rfl⟩

theorem Serves.trans {s t u : State} (h : Serves s t) (k : Serves t u) : Serves s u := ⟨h.same.trans k.same, k.nextId.trans h.nextId⟩

theorem Serves.foldl {β : Type} {g : State → β → State} (hg : ∀ u x, Serves u (g u x)) (l : List β) (s : State) : Serves s (l.foldl g s) := by
  induction l generalizing s with
  | nil => exact Serves.refl s
  | cons x l ih => exact (hg s x).trans (ih (g s x))

/-- An update of the controller's state that keeps its next identifier. -/
theorem Serves.dmc (s : State) (d : DmcSt) (h : d.nextId = s.dmc.nextId) : Serves s { s with dmc := d } := by
  refine ⟨fun p hp => ?_, h⟩
  cases p <;> simp at hp <;> rfl

theorem Serves.of_delivers {s t : State} (h : Delivers s t) : Serves s t :=
  ⟨h.same.mono (by simp), congrArg DmcSt.nextId (h.same .dmc (by simp))⟩

theorem Serves.emit (s : State) (o : Out) : Serves s (s.emit o) := ⟨(SameBut.emit s o).mono (by simp), rfl⟩

theorem Delivers.toRoom (s : State) (room port : Nat) (ws : List PortWord) : Delivers s (s.toRoom room port ws) := by
  refine Delivers.trans ?_ (Delivers.portPump _ _ _)
  refine ⟨fun p hp => ?_, _, s.fab.door, rfl⟩
  cases p <;> simp at hp <;> rfl

theorem Serves.readLine (s : State) (id line data : Nat) (bad : Bool) : Serves s (s.readLine id line data bad) := by
  simp only [State.readLine]
  split
  · exact Serves.refl s
  · refine Serves.trans ?_ (Serves.of_delivers (Delivers.toRoom _ _ _ _))
    exact Serves.dmc s _ rfl

theorem Serves.served (s : State) (src : DSrc) (line data : Nat) (bad : Bool) (st : Nat) : Serves s (s.served src line data bad st) := by
  cases src with
  | roomW r p id => exact Serves.dmc s _ rfl
  | roomR r p id => exact Serves.readLine s id line data bad
  | other n => exact Serves.refl s

theorem Serves.setSub (s : State) (i : Nat) (k : SubSt) : Serves s (s.setSub i k) := Serves.dmc s _ rfl

theorem Serves.ite {s t u : State} {c : Prop} [Decidable c] (h : Serves s t) (k : Serves s u) : Serves s (if c then t else u) := by
  split
  · exact h
  · exact k

theorem Serves.notice (s : State) (sc dev : Nat) : Serves s (s.notice sc dev) :=
  Serves.ite ((Serves.setSub s _ _).trans (Serves.emit _ _)) (Serves.setSub s _ _)

theorem Serves.accept {s t : State} {q : DReq} (h : s.accept q = some t) : Serves s t := by
  simp only [State.accept] at h
  split at h
  · cases h
  · split at h <;> split_ifs at h <;> cases h
    · exact Serves.setSub _ _ _
    · exact Serves.foldl (fun u x => Serves.served u x _ _ _ _) _ _
    · exact (Serves.notice _ _ _).trans (Serves.setSub _ _ _)
    · exact (Serves.notice _ _ _).trans (Serves.setSub _ _ _)
    · exact (Serves.notice _ _ _).trans (Serves.setSub _ _ _)

/-- The request served next is one that a queue accepts. -/
theorem State.nextGrant_accept {s t : State} {q : DReq} (h : s.nextGrant = some (q, t)) : s.accept q = some t := by
  have hfold : ∀ (l : List DReq) (best : Option (DReq × State)), (∀ q t, best = some (q, t) → s.accept q = some t) →
      ∀ q t, l.foldl (fun best q =>
        match s.accept q with
        | none => best
        | some s1 =>
          match best with
          | none => some (q, s1)
          | some (b, s0) => if rrTurn s.dmc.lastReq (q.lane % 256) < rrTurn s.dmc.lastReq (b.lane % 256) then some (q, s1) else some (b, s0))
        best = some (q, t) → s.accept q = some t := by
    intro l
    induction l with
    | nil => exact fun best hbest => hbest
    | cons x l ih =>
      intro best hbest
      refine ih _ fun q t hqt => ?_
      dsimp only at hqt
      split at hqt
      · exact hbest q t hqt
      · next s1 hacc =>
        split at hqt
        · cases hqt; exact hacc
        · split_ifs at hqt
          · cases hqt; exact hacc
          · exact hbest _ _ hqt
  exact hfold _ none (fun q t hqt => by cases hqt) q t h

theorem Serves.grantAll (n : Nat) (s : State) : Serves s (grantAll n s) := by
  induction n generalizing s with
  | zero => exact Serves.refl s
  | succ n ih =>
    rw [Machine.grantAll]
    split
    · exact Serves.refl s
    · next q s1 hgrant =>
      refine ((Serves.accept (State.nextGrant_accept hgrant)).trans ?_).trans (ih _)
      exact Serves.dmc s1 _ rfl

theorem Serves.dmcPump (s : State) : Serves s s.dmcPump := Serves.grantAll _ s

theorem Serves.dmcSend (s : State) (l : List DReq) : Serves s (s.dmcSend l) := by
  refine Serves.trans ?_ (Serves.dmcPump _)
  exact Serves.dmc s _ rfl

theorem Serves.biasSnoop (s : State) (line : Nat) (w : Bool) : Serves s (s.biasSnoop line w) := by
  unfold State.biasSnoop
  split
  · exact Serves.refl s
  · exact Serves.ite (Serves.emit s _) (Serves.refl s)

/-! ### Lines that the host supplies -/

theorem SameBut.hostSupply (s : State) (line : Nat) : SameBut [.freeCount] s (s.hostSupply line).2 := by
  unfold State.hostSupply
  split
  · exact SameBut.refl _ s
  · rw [apply_ite Prod.snd]
    refine SameBut.ite (fun _ p hp => ?_) fun _ => SameBut.refl _ s
    cases p <;> simp at hp <;> rfl

theorem SameBut.hostSupplies (s : State) (ls : List Nat) : SameBut [.freeCount] s (s.hostSupplies ls).2 := by
  have hfold : ∀ (ls : List Nat) (p : Assoc Nat × State), SameBut [.freeCount] p.2 (ls.foldl (fun (p : Assoc Nat × State) l =>
      match p.2.hostSupply l with
      | (some v, st) => (Assoc.put l v p.1, st)
      | (none, st) => (p.1, st)) p).2 := by
    intro ls
    induction ls with
    | nil => exact fun p => SameBut.refl _ p.2
    | cons l ls ih =>
      intro p
      refine SameBut.trans ?_ (ih _)
      have hl := SameBut.hostSupply p.2 l
      dsimp only
      split <;> next heq => simpa [heq] using hl
  exact hfold ls ([], s)

/-! ### Words for a Room (R147) -/

/-- Words move only as the clock, the activity time and the port's outbound Doors change: what decides whether they go in stays. -/
theorem State.get2_setNow (s : State) (t : Nat) {f : Fld} {i j : Nat}
    (h : f.key i j ≠ MSU_TIME_LO.key 0 0 ∧ f.key i j ≠ MSU_TIME_HI.key 0 0) : (s.setNow t).get2 f i j = s.get2 f i j :=
  (State.get2_set2_ne _ _ _ _ _ _ _ _ h.2).trans (State.get2_set2_ne _ _ _ _ _ _ _ _ h.1)

/-- Values written to Doors leave any other Door. -/
theorem Assoc.get_foldl_write_ne {α : Type} [DecidableEq α] (d : α) (l : List (Nat × α)) (m : Assoc α) {k : Nat} (h : ∀ e ∈ l, k ≠ e.1) :
    Assoc.get d k (l.foldl (fun m e => Assoc.write d e.1 e.2 m) m) = Assoc.get d k m := by
  induction l generalizing m with
  | nil => rfl
  | cons e l ih =>
    rw [List.foldl_cons, ih _ fun x hx => h x (List.mem_cons_of_mem _ hx), Assoc.get_write_ne (h e List.mem_cons_self)]

/-- The state in which a port has taken a word of its Room. -/
def State.tookWord (s : State) (r p kind slot data be t : Nat) : State := (s.setNow t).touchIdle.portTook r p kind slot data be true

section
variable (s : State) (r p kind slot data be t : Nat)

theorem SameBut.tookWord : SameBut [.regs, .pwr, .fab] s (s.tookWord r p kind slot data be t) := by
  intro q hq; cases q <;> simp at hq <;> rfl

theorem State.tookWord_portQ : (s.tookWord r p kind slot data be t).fab.portQ = s.fab.portQ := rfl

theorem State.tookWord_get2 {f : Fld} {i j : Nat} (h : f.key i j ≠ MSU_TIME_LO.key 0 0 ∧ f.key i j ≠ MSU_TIME_HI.key 0 0) :
    (s.tookWord r p kind slot data be t).get2 f i j = s.get2 f i j := State.get2_setNow s t h

theorem State.tookWord_get {f : Fld} (h : f.key 0 0 ≠ MSU_TIME_LO.key 0 0 ∧ f.key 0 0 ≠ MSU_TIME_HI.key 0 0) :
    (s.tookWord r p kind slot data be t).get f = s.get f := State.get2_setNow s t h

theorem State.tookWord_domOn (d : Nat) : (s.tookWord r p kind slot data be t).domOn d = s.domOn d := by
  rw [State.domOn, State.domOn, State.tookWord_get _ _ _ _ _ _ _ _ (by decide)]

theorem State.tookWord_roomActive (q : Nat) : (s.tookWord r p kind slot data be t).roomActive q = s.roomActive q := by
  have hkey : CFG_ROOM_STAT_ACT_BANK.key q 0 ≠ MSU_TIME_LO.key 0 0 ∧ CFG_ROOM_STAT_ACT_BANK.key q 0 ≠ MSU_TIME_HI.key 0 0 := by
    simp only [Fld.key, CFG_ROOM_STAT_ACT_BANK, MSU_TIME_LO, MSU_TIME_HI]; omega
  exact congrArg (· == 3) (State.tookWord_get2 s r p kind slot data be t hkey)

theorem State.tookWord_doorRec (q g : Nat) : (s.tookWord r p kind slot data be t).doorRec q g = s.doorRec q g := by
  rw [State.doorRec, State.doorRec, State.roomOn, State.roomOn, State.tookWord_domOn]
  rfl

theorem State.tookWord_treeRuns (q k : Nat) : (s.tookWord r p kind slot data be t).treeRuns q k = s.treeRuns q k := by
  rw [State.treeRuns, State.treeRuns, State.roomOn, State.roomOn, State.tookWord_domOn, State.tookWord_roomActive,
    State.tookWord_get _ _ _ _ _ _ _ _ (by decide)]
  rfl

theorem State.tookWord_roomClamped (q : Nat) : (s.tookWord r p kind slot data be t).roomClamped q = s.roomClamped q := by
  rw [State.roomClamped, State.roomClamped, State.roomOn, State.roomOn, State.tookWord_domOn, State.tookWord_roomActive,
    State.tookWord_get _ _ _ _ _ _ _ _ (by decide)]
  rfl

theorem State.tookWord_handClamped (q d : Nat) : (s.tookWord r p kind slot data be t).handClamped q d = s.handClamped q d := by
  simp only [State.handClamped, State.tookWord_doorRec]
  rfl

theorem State.tookWord_portClosed (q k : Nat) : (s.tookWord r p kind slot data be t).portClosed q k = s.portClosed q k := by
  simp only [State.portClosed, State.portDeclared, State.doorUsed, State.tookWord_doorRec, State.tookWord_domOn, State.tookWord_roomClamped,
    State.tookWord_handClamped]

/-- I_READY is none of the Doors that a taken word writes. -/
theorem State.tookWord_doorReady : (s.tookWord r p kind slot data be t).doorLink r (portDoor p 2 + 12) = s.doorLink r (portDoor p 2 + 12) := by
  have hdoor : Assoc.get 0 (4096 * r + (portDoor p 2 + 12)) (s.tookWord r p kind slot data be t).fab.door =
      Assoc.get 0 (4096 * r + (portDoor p 2 + 12)) s.fab.door := by
    refine Assoc.get_foldl_write_ne 0 _ _ fun e he => ?_
    obtain ⟨x, hx, rfl⟩ := List.mem_map.mp he
    have hne : x.1 ≠ portDoor p 2 + 12 := by
      rcases List.mem_append.mp (List.mem_of_mem_filter hx) with hx | hx
      · obtain ⟨n, hn, rfl⟩ := List.mem_map.mp hx
        have := List.mem_range.mp hn
        simp only [portDoor]; omega
      · obtain ⟨n, hn, rfl⟩ := List.mem_map.mp hx
        have := (List.mem_filter.mp hn).2
        simp only [portDoor]; simp at this; omega
    simp only; omega
  have hclampv : (s.tookWord r p kind slot data be t).clampValue r (portDoor p 2 + 12) = s.clampValue r (portDoor p 2 + 12) := by
    simp only [State.clampValue, State.tookWord_doorRec]
    rfl
  have hkept : (s.tookWord r p kind slot data be t).pinKept r (portDoor p 2 + 12) = s.pinKept r (portDoor p 2 + 12) := rfl
  rw [State.doorLink, State.doorLink, State.tookWord_roomClamped, State.tookWord_doorRec, State.tookWord_handClamped, hdoor, hclampv, hkept]

theorem State.tookWord_iReady : (s.tookWord r p kind slot data be t).iReady r p = s.iReady r p := by
  rw [State.iReady, State.iReady, State.tookWord_treeRuns, State.tookWord_doorRec, State.tookWord_portClosed, State.tookWord_doorReady]

end

/-! ### The words a port hands on (R147) -/

section
variable {s : State} {r p : Nat}

/-- A word goes in at once where the Room accepts words and the port holds none. -/
theorem State.toRoom_ready (w : PortWord) (h : s.iReady r p = true) (hq : Assoc.get [] (portKey' r p) s.fab.portQ = []) :
    (s.toRoom r p [w]).out = s.out ++ [.roomWord r p w.kind w.stream w.last w.err w.data] := by
  have hready : (({ s with fab := { s.fab with portQ := Assoc.write [] (portKey' r p) [w] s.fab.portQ } } : State)).iReady r p = true := h
  simp only [State.toRoom, hq, List.nil_append, State.portPump, hready, if_true, Assoc.get_write_self, List.foldl_cons, List.foldl_nil]
  rfl

/-- Where the Room does not accept words the port holds them. -/
theorem State.toRoom_held (ws : List PortWord) (h : s.iReady r p = false) : (s.toRoom r p ws).out = s.out ∧
    Assoc.get [] (portKey' r p) (s.toRoom r p ws).fab.portQ = Assoc.get [] (portKey' r p) s.fab.portQ ++ ws := by
  have hheld : ¬(({ s with fab := { s.fab with portQ := Assoc.write [] (portKey' r p) (Assoc.get [] (portKey' r p) s.fab.portQ ++ ws) s.fab.portQ } } :
    State)).iReady r p = true := Bool.eq_false_iff.mp h
  rw [State.toRoom, State.portPump, if_neg hheld]
  exact ⟨rfl, Assoc.get_write_self _ _ _ _⟩

end

/-! ### Reads of Rooms (R291) -/

section
variable {s : State} {r p i : Nat} (w t : Nat)

theorem State.tookWord_stream (hr : r < 24) (hi : i < 256) (kind slot data be : Nat) :
    (s.tookWord r p kind slot data be t).stream r i = s.stream r i := by
  have hkey : ∀ f ∈ [DMC_STR_LO_SIZE_LOG2, DMC_STR_LO_BASE_LO, DMC_STR_HI_BASE_HI], f.key r i ≠ MSU_TIME_LO.key 0 0 ∧ f.key r i ≠ MSU_TIME_HI.key 0 0 := by
    simp only [List.forall_mem_cons, Fld.key, DMC_STR_LO_SIZE_LOG2, DMC_STR_LO_BASE_LO, DMC_STR_HI_BASE_HI, MSU_TIME_LO, MSU_TIME_HI]
    simp; omega
  simp only [List.forall_mem_cons] at hkey
  obtain ⟨h1, h2, h3, -⟩ := hkey
  rw [State.stream, State.stream, State.tookWord_get2 _ _ _ _ _ _ _ _ h1, State.tookWord_get2 _ _ _ _ _ _ _ _ h2,
    State.tookWord_get2 _ _ _ _ _ _ _ _ h3]

theorem exec_dramReadRequest_takes (hr : r < 24) (hp : p < 8) (hi : i < 256) (hm : s.portMoves r p = true) (hs : s.seenStream r p i = i) :
    exec (.dramReadRequest r p i w t) s = .next (if 64 ≤ s.readsOut r p then
      { s.tookWord r p 2 i w 0 t with dmc := { s.dmc with readHold := Assoc.put (8 * r + p) (i, (s.seenWord r p (w, 0)).1) s.dmc.readHold } }
      else (s.tookWord r p 2 i w 0 t).readTake r p i (s.seenWord r p (w, 0)).1) := by
  have hword : ((s.tookWord r p 2 i w 0 t).seenWord r p (w, 0)).1 = (s.seenWord r p (w, 0)).1 := by
    simp only [State.seenWord, State.doorUsed, State.tookWord_doorRec]
    rfl
  change execDramReadRequest r p i w t s = _
  have hgo : ¬(!s.portMoves r p || s.seenStream r p i != i) = true := by simp [hm, hs]
  rw [execDramReadRequest, if_neg (by omega), if_neg hgo]
  change (if 64 ≤ s.readsOut r p then _ else _) = _
  rw [← hword]
  split <;> rfl

/-- What decides whether a read is refused is no register that a taken word changes. -/
theorem tookWord_reads (hr : r < 24) (hi : i < 256) (p : Nat) : (s.tookWord r p 2 i w 0 t).stream r i = s.stream r i ∧
    (s.tookWord r p 2 i w 0 t).get2 DMC_STR_HI_RD r i = s.get2 DMC_STR_HI_RD r i ∧
    (s.tookWord r p 2 i w 0 t).get DMC_GEOM_CAP_GIB = s.get DMC_GEOM_CAP_GIB := by
  refine ⟨State.tookWord_stream t hr hi 2 i w 0, State.tookWord_get2 _ _ _ _ _ _ _ _ ?_, State.tookWord_get _ _ _ _ _ _ _ _ (by decide)⟩
  simp only [Fld.key, DMC_STR_HI_RD, MSU_TIME_LO, MSU_TIME_HI]
  omega

end

/-- A refused read gives one zero word with I_ERR (R291). -/
theorem State.readTake_refused {s : State} {r p i w : Nat} (h : s.stream r i = none ∨ (∃ base size, s.stream r i = some (base, size) ∧
    (s.get2 DMC_STR_HI_RD r i = 0 ∨ bits w 36 0 % 16 ≠ 0 ∨ size < bits w 36 0 + 16 * (bits w 47 40 + 1) ∨
      s.dpaOk (base + bits w 36 0) (16 * (bits w 47 40 + 1)) = false))) :
    s.readTake r p i w = s.toRoom r p [⟨1, i, true, true, List.replicate 16 0⟩] := by
  rcases h with h | ⟨base, size, h, hbad⟩
  · simp only [State.readTake, h]
  · simp only [State.readTake, h]
    exact if_pos hbad

/-- The lines of an accepted read: those that the host supplies come from it, the others are asked for. -/
def State.askLines (s : State) (r p id : Nat) (ls : List (Nat × Nat)) : State :=
  let x := (ls.foldl (fun st l => st.biasSnoop l.1 false) s).hostSupplies (ls.map (·.1))
  x.1.foldl (fun st e => st.readLine id e.1 e.2 false)
    (x.2.dmcSend ((ls.filter (fun l => (Assoc.find? l.1 x.1).isNone)).map (fun l => ⟨false, l.1, l.2, 0, [.roomR r p id], false, 0, false⟩)))

theorem State.askLines_frame (s : State) (r p id : Nat) (ls : List (Nat × Nat)) :
    (s.askLines r p id ls).dmc.nextId = s.dmc.nextId ∧ SameBut [.dmc, .out, .fab, .freeCount] s (s.askLines r p id ls) := by
  unfold State.askLines
  extract_lets x
  have hsnoop : Serves s (ls.foldl (fun st l => st.biasSnoop l.1 false) s) := Serves.foldl (fun u l => Serves.biasSnoop u _ _) _ _
  have hhost : SameBut [.freeCount] _ x.2 := SameBut.hostSupplies _ _
  have hsend := (Serves.dmcSend x.2 ((ls.filter (fun l => (Assoc.find? l.1 x.1).isNone)).map
    (fun l => ⟨false, l.1, l.2, 0, [.roomR r p id], false, 0, false⟩))).trans (Serves.foldl (fun u e => Serves.readLine u id e.1 e.2 false) x.1 _)
  refine ⟨hsend.nextId.trans ((congrArg DmcSt.nextId (hhost .dmc (by simp))).trans hsnoop.nextId), ?_⟩
  exact ((hsnoop.same.mono (by simp)).trans (hhost.mono (by simp))).trans (hsend.same.mono (by simp))

/-- An accepted read takes the next identifier, and its lines go to the controller or come from the host. -/
theorem State.readTake_taken (s : State) {r i w base size : Nat} (p : Nat) (hst : s.stream r i = some (base, size))
    (hrd : s.get2 DMC_STR_HI_RD r i ≠ 0) (hal : bits w 36 0 % 16 = 0) (hsz : bits w 36 0 + 16 * (bits w 47 40 + 1) ≤ size)
    (hok : s.dpaOk (base + bits w 36 0) (16 * (bits w 47 40 + 1)) = true) :
    (s.readTake r p i w).dmc.nextId = s.dmc.nextId + 1 ∧ SameBut [.dmc, .out, .fab, .freeCount] s (s.readTake r p i w) := by
  have hgo : ¬(s.get2 DMC_STR_HI_RD r i = 0 ∨ bits w 36 0 % 16 ≠ 0 ∨ size < bits w 36 0 + 16 * (bits w 47 40 + 1) ∨
      s.dpaOk (base + bits w 36 0) (16 * (bits w 47 40 + 1)) = false) := by
    rw [hok]; simp; omega
  obtain ⟨u, hid, hsame, htake⟩ : ∃ u : State, u.dmc.nextId = s.dmc.nextId + 1 ∧ SameBut [.dmc] s u ∧
      s.readTake r p i w = u.askLines r p s.dmc.nextId (rangeLines (base + bits w 36 0) (16 * (bits w 47 40 + 1))) := by
    refine ⟨_, ?_, ?_, by simp only [State.readTake, hst]; exact if_neg hgo⟩
    · rfl
    · intro q hq; cases q <;> simp at hq <;> rfl
  obtain ⟨hnext, hask⟩ := State.askLines_frame u r p s.dmc.nextId (rangeLines (base + bits w 36 0) (16 * (bits w 47 40 + 1)))
  rw [htake]
  exact ⟨hnext.trans hid, (hsame.mono (by simp)).trans hask⟩

/-! ### Acknowledgements (R292) -/

theorem exec_dramAck {s : State} {r p : Nat} {a : AckSt} (hr : r < 24) (hp : p < 8)
    (ha : s.dmc.acks.find? (fun x => x.room == r && x.port == p && x.want && x.left == 0) = some a) :
    exec (.dramAck r p) s = .next (({ s with dmc := { s.dmc with acks := s.dmc.acks.filter (fun x => x.id != a.id) } }).toRoom r p
      [⟨2, a.stream, true, false, leBytes 16 (a.atag + 2 ^ 8 * a.status + 2 ^ 127)⟩]) := by
  change execDramAck r p s = _
  rw [execDramAck, if_neg (by omega), ha]

end Sys2Proof.Machine

open Sys2Proof.Machine Sys2Proof.Machine.Reg

/-- Settles O15: a port's word goes to the port's queue and on to the Room, and a read's lines only to the controller's queues. -/
theorem dramReadsAndAcks : Obligations.DramReadsAndAcks := by
  unfold Obligations.DramReadsAndAcks
  refine ⟨?requests, ?full, ?still, ?ack, ?noAck⟩
  case requests =>
    intro s r p i w t ws hr hp hi hm hs hws hroom
    subst hws
    have hexec := exec_dramReadRequest_takes w t hr hp hi hm hs
    rw [if_neg (by omega)] at hexec
    refine ⟨fun hbad => ⟨_, hexec, ?_⟩, fun base size hst hrd hal hsz hok => ⟨_, hexec, ?_⟩⟩
    · have hgets := tookWord_reads (s := s) w t hr hi
      rw [State.readTake_refused]
      · have hpq : Assoc.get [] (portKey' r p) (s.tookWord r p 2 i w 0 t).fab.portQ = Assoc.get [] (portKey' r p) s.fab.portQ := rfl
        refine ⟨(Delivers.toRoom _ r p _).same .dmc (by simp), fun hr' hq => ?_, fun hr' => ?_, ?_⟩
        · exact State.toRoom_ready _ ((State.tookWord_iReady ..).trans hr') hq
        · exact State.toRoom_held _ ((State.tookWord_iReady ..).trans hr')
        · exact ((SameBut.tookWord s r p 2 i w 0 t).mono (by simp)).trans ((Delivers.toRoom _ r p _).same.mono (by simp))
      · obtain ⟨hst, hrd, hcap⟩ := hgets p
        rw [hst, hrd]
        rcases hbad with h | ⟨base, size, hsome, h⟩
        · exact .inl h
        · exact .inr ⟨base, size, hsome, by rwa [State.dpaOk, State.dmcCap, hcap]⟩
    · obtain ⟨hst', hrd', hcap⟩ := tookWord_reads (s := s) w t hr hi p
      obtain ⟨hid, hsame⟩ := State.readTake_taken (s.tookWord r p 2 i w 0 t) p (hst'.trans hst) (by rwa [hrd']) hal hsz
        (by rwa [State.dpaOk, State.dmcCap, hcap])
      exact ⟨hid, ((SameBut.tookWord s r p 2 i w 0 t).mono (by simp)).trans (hsame.mono (by simp))⟩
  case full =>
    intro s r p i w t hr hp hi hm hs hfull
    have hexec := exec_dramReadRequest_takes w t hr hp hi hm hs
    rw [if_pos hfull] at hexec
    refine ⟨_, hexec, rfl, ?_, ?_, ?_⟩
    · exact Assoc.find?_put_self _ _ _
    · have hheld : (Assoc.find? (8 * r + p) (Assoc.put (8 * r + p) (i, (s.seenWord r p (w, 0)).1) s.dmc.readHold)).isSome = true := by
        rw [Assoc.find?_put_self]; rfl
      exact Bool.or_eq_true_iff.mpr (.inl hheld)
    · intro q hq; cases q <;> simp at hq <;> rfl
  case still =>
    intro s r p i w t hr hp hi hstill
    change execDramReadRequest r p i w t s = _
    rw [execDramReadRequest, if_neg (by omega)]
    exact if_pos (by rcases hstill with h | h <;> simp [h])
  case ack =>
    intro s r p a hr hp ha
    refine ⟨_, exec_dramAck hr hp ha, ?_, fun hr' hq => ?_, fun hr' => ?_, ?_⟩
    · have hdmc : ∀ (u : State) (ws : List PortWord), (u.toRoom r p ws).dmc = u.dmc := fun u ws => (Delivers.toRoom u r p ws).same .dmc (by simp)
      rw [hdmc]
      simp
    · exact State.toRoom_ready _ hr' hq
    · exact State.toRoom_held _ hr'
    · refine SameBut.trans (t := { s with dmc := { s.dmc with acks := s.dmc.acks.filter (fun x => x.id != a.id) } }) (fun q hq => ?_)
        ((Delivers.toRoom _ r p _).same.mono (by simp))
      cases q <;> simp at hq <;> rfl
  case noAck =>
    intro s r p hr hp hnone
    change execDramAck r p s = _
    rw [execDramAck, if_neg (by omega), hnone]
end

section
/-! Training, enabling and errors of the DRAM (R286, R305, R308, R309, R314), and the proof of Obligations.DramTrainingAndErrors. -/

namespace Sys2Proof.Machine

open Reg

/-! ### What ends an executing command -/

theorem SameBut.kmiStale (s : State) (m : Nat) (c : KmiCmd) : SameBut [.kmi, .ldg, .regs, .out, .pba] s (s.kmiStale m c) :=
  ((SameBut.refl _ s).inc (by simp)).led (by simp)

/-- Completing the executing commands of a kind touches the KMI, its registers, the Ledger and the outward log. -/
theorem SameBut.kmiResolve (s : State) (is : RunCmd → Bool) (st d : Nat) (c data : List Nat) :
    SameBut [.kmi, .ldg, .regs, .out, .pba] s (s.kmiResolve is st d c data) := by
  have hstart : SameBut [.kmi, .ldg, .regs, .out, .pba] s { s with kmi := { s.kmi with running := s.kmi.running.filter (fun r => !is r) } } := by
    intro p hp; cases p <;> simp at hp <;> rfl
  refine hstart.trans (SameBut.foldl _ (fun u r => ?_) _ _)
  refine SameBut.ite (fun _ => ?_) fun _ => (SameBut.kmiFinish _ _ _ _ _ _ _ _).mono (by simp)
  have hstale := SameBut.kmiStale u r.mbx r.cmd
  exact SameBut.ite (fun _ => hstale.trans ((SameBut.kmiAbort _ _).mono (by simp))) fun _ => hstale

/-- The fields that completing commands writes: those of the mailboxes, the count of stale commands and the Ledger's. -/
def resolveFlds : List Fld := [KMI_MBX_STATE, KMI_MBX_GEN, KMI_CNT_STALE] ++ ledgerFlds

theorem RegsBut.kmiAbort (s : State) (m : Nat) : RegsBut [KMI_MBX_STATE, KMI_MBX_GEN] s (s.kmiAbort m) := by
  cases h : s.nextGen m with
  | none => rw [State.kmiAbort, h]; exact RegsBut.refl _ s
  | some g => exact (State.kmiAbort_regs h).2.2

theorem RegsBut.kmiResolve (s : State) (is : RunCmd → Bool) (st d : Nat) (c data : List Nat) :
    RegsBut resolveFlds s (s.kmiResolve is st d c data) := by
  have hled : ∀ f ∈ ledgerFlds, f ∈ resolveFlds := fun f hf => List.mem_append_right _ hf
  refine RegsBut.fold (fun u r => ?_) _ (RegsBut.of_eq _ rfl)
  refine RegsBut.ite (fun _ => ?_) fun _ => (RegsBut.kmiFinish _ _ _ _ _ _ _ _).mono (by simp [resolveFlds])
  have hstale : RegsBut resolveFlds u (u.kmiStale r.mbx r.cmd) := ((RegsBut.refl _ u).inc (by simp [resolveFlds])).led hled
  exact RegsBut.ite (fun _ => hstale.trans ((RegsBut.kmiAbort _ _).mono (by simp [resolveFlds]))) fun _ => hstale

/-! ### The controller takes requests again (R308) -/

theorem SameBut.reportUe (s : State) (line req : Nat) : SameBut [.kmi, .ldg, .regs, .out, .pba] s (s.reportUe line req) :=
  (((((SameBut.refl _ s).inc (by simp)).set (by simp)).set (by simp)).set (by simp)).led (by simp)

/-- The fields that reporting an uncorrectable line writes. -/
def ueFlds : List Fld := [DMC_ERR_CNT_UE, DMC_ERR_ADDR_LO_DPA_LO, DMC_ERR_ADDR_HI_DPA_HI, DMC_ERR_ADDR_HI_VALID] ++ ledgerFlds

theorem RegsBut.reportUe (s : State) (line req : Nat) : RegsBut ueFlds s (s.reportUe line req) :=
  (((((RegsBut.refl _ s).inc (by simp [ueFlds])).set (by simp [ueFlds])).set (by simp [ueFlds])).set (by simp [ueFlds])).led
    fun f hf => List.mem_append_right _ hf

/-- The lines that the host supplies to a reader of a range, after the requests that it is sent first. -/
def State.readHost (s : State) (req : Nat) (ls : List (Nat × Nat)) : Assoc Nat × State :=
  let s1 := if req = 208 then s else ls.foldl (fun st l => st.biasSnoop l.1 false) s
  if req = 208 then ([], s1) else s1.hostSupplies (ls.map (·.1))

theorem SameBut.readHost (s : State) (req : Nat) (ls : List (Nat × Nat)) : SameBut [.dmc, .fab, .out, .freeCount] s (s.readHost req ls).2 := by
  unfold State.readHost
  extract_lets s1
  have h1 : SameBut [.dmc, .fab, .out, .freeCount] s s1 :=
    SameBut.ite (fun _ => SameBut.refl _ s) fun _ => (Serves.foldl (fun u l => Serves.biasSnoop u _ _) _ _).same.mono (by simp)
  rw [apply_ite Prod.snd]
  exact SameBut.ite (fun _ => h1) fun _ => h1.trans ((SameBut.hostSupplies _ _).mono (by simp))

/-- A reader leaves the state of its requests to the host, with the first uncorrectable line reported. -/
theorem State.dramRead_state (s : State) (req dpa n : Nat) : (s.dramRead req dpa n).2.2 = (s.readHost req (rangeLines dpa n)).2 ∨
    ∃ line, (s.dramRead req dpa n).2.2 = (s.readHost req (rangeLines dpa n)).2.reportUe line req := by
  unfold State.dramRead
  extract_lets ls s1
  have hx : s.readHost req ls = if req = 208 then ([], s1) else s1.hostSupplies (ls.map (·.1)) := rfl
  rw [← hx]
  obtain ⟨sup, s2⟩ := s.readHost req ls
  dsimp only
  split
  · exact .inl rfl
  · next l _ => exact .inr ⟨l.1, rfl⟩

theorem SameBut.dramRead (s : State) (req dpa n : Nat) :
    SameBut [.dmc, .fab, .out, .freeCount, .kmi, .ldg, .regs, .pba] s (s.dramRead req dpa n).2.2 := by
  have hhost : SameBut [.dmc, .fab, .out, .freeCount, .kmi, .ldg, .regs, .pba] s (s.readHost req (rangeLines dpa n)).2 :=
    (SameBut.readHost s req _).mono (by simp)
  obtain h | ⟨line, h⟩ := s.dramRead_state req dpa n
  · rwa [h]
  · rw [h]; exact hhost.trans ((SameBut.reportUe _ _ _).mono (by simp))

theorem RegsBut.dramRead (s : State) (req dpa n : Nat) : RegsBut ueFlds s (s.dramRead req dpa n).2.2 := by
  have hhost : RegsBut ueFlds s (s.readHost req (rangeLines dpa n)).2 := RegsBut.of_eq _ (SameBut.readHost s req _ .regs (by simp))
  obtain h | ⟨line, h⟩ := s.dramRead_state req dpa n
  · rwa [h]
  · rw [h]; exact hhost.trans (RegsBut.reportUe _ _ _)

theorem State.kmiDramRead_state (s : State) (c : KmiCmd) :
    (s.kmiDramRead c).2.2.2 = (s.dramRead 211 (bits c.a0 36 0) (bits c.a1 23 0)).2.2 := by
  unfold State.kmiDramRead
  extract_lets a
  split <;> next h => rw [h]

/-- The controller takes requests again: those that waited are served, and a DRAM_READ that waited completes. -/
theorem dmcResume_frame (s : State) : SameBut [.dmc, .fab, .out, .freeCount, .kmi, .ldg, .regs, .pba] s s.dmcResume ∧
    RegsBut (ueFlds ++ resolveFlds) s s.dmcResume := by
  have hpump : SameBut [.dmc, .fab, .out, .freeCount, .kmi, .ldg, .regs, .pba] s s.dmcPump := (Serves.dmcPump s).same.mono (by simp)
  have hpumpR : RegsBut (ueFlds ++ resolveFlds) s s.dmcPump := RegsBut.of_eq _ ((Serves.dmcPump s).same .regs (by simp))
  unfold State.dmcResume
  extract_lets s1
  split
  · next r _ =>
    split
    · have hread := s1.kmiDramRead_state r.cmd
      generalize s1.kmiDramRead r.cmd = x at hread ⊢
      obtain ⟨st, d, l, s2⟩ := x
      dsimp only at hread ⊢
      subst hread
      exact ⟨(hpump.trans (SameBut.dramRead _ _ _ _)).trans ((SameBut.kmiResolve _ _ _ _ _ _).mono (by simp)),
        (hpumpR.trans ((RegsBut.dramRead _ _ _ _).mono fun _ hf => List.mem_append_left _ hf)).trans
          ((RegsBut.kmiResolve _ _ _ _ _ _).mono fun _ hf => List.mem_append_right _ hf)⟩
    · exact ⟨hpump, hpumpR⟩
  · exact ⟨hpump, hpumpR⟩

/-- A field of a single register below the DRAM's error registers is none that resuming writes. -/
theorem State.get_dmcResume (s : State) {f : Fld} (h : f.addr < 0x400204) (hlo : f.lo < 32) : s.dmcResume.get f = s.get f := by
  refine (dmcResume_frame s).2.get fun g hg a b => ?_
  have hge : ∀ g ∈ ueFlds ++ resolveFlds, 0x400204 ≤ g.addr := by decide
  have := hge g hg
  simp only [Fld.key]
  omega

/-! ### A training starts (R305) -/

/-- A field of a single register that a frame of single registers keeps. -/
theorem RegsBut.get_single {l : List Fld} {s t : State} {f : Fld} (h : RegsBut l s t)
    (hf : ∀ g ∈ l, g.s1 = 0 ∧ g.s2 = 0 ∧ f.key 0 0 ≠ g.key 0 0) : t.get f = s.get f :=
  h.get fun g hg a b => by
    obtain ⟨h1, h2, hne⟩ := hf g hg
    simpa [Fld.key, h1, h2] using hne

/-- The contents, bad-line tables and readiness are lost at the start of a training. -/
def State.trainLost (s : State) (mode : Nat) : State :=
  let s1 := (s.set DMC_TRAIN_STAT_BUSY 1).set DMC_STAT_TRAINED 0
  { s1 with
    dram := [], dramBad := []
    dmc := { s1.dmc with
      training := mode, above := [], ready := false, refActive := false
      subs := s1.dmc.subs.map (fun (k : SubSt) => { k with bad := [], banks := [], nr := [], pd := 0 }) } }

theorem State.trainStart_eq (s : State) {mode : Nat} (h : mode ≠ 3) : s.trainStart mode =
    (((((s.trainLost mode).set DMC_STAT_FAULT 0).set DMC_STAT_INIT_DONE 0).set DMC_INIT_MARK 0).set DMC_BADLINE_USED 0).set DMC_STAT_SR 0 := if_neg h

/-- A full or quick training resets the contents, the marks and the flags that a training resets. -/
theorem State.trainStart_spec (s : State) {mode : Nat} (h : mode ≠ 3) :
    (s.trainStart mode).get DMC_TRAIN_STAT_BUSY = 1 ∧ (s.trainStart mode).get DMC_STAT_TRAINED = 0 ∧ (s.trainStart mode).dram = [] ∧
      (s.trainStart mode).dramBad = [] ∧ (s.trainStart mode).dmc.training = mode ∧ (s.trainStart mode).get DMC_STAT_FAULT = 0 ∧
      (s.trainStart mode).get DMC_INIT_MARK = 0 ∧ (s.trainStart mode).dmc.ready = false ∧
      SameBut [.regs, .dmc, .dram, .dramBad] s (s.trainStart mode) := by
  have hregs : RegsBut [DMC_STAT_FAULT, DMC_STAT_INIT_DONE, DMC_INIT_MARK, DMC_BADLINE_USED, DMC_STAT_SR] (s.trainLost mode) (s.trainStart mode) := by
    rw [State.trainStart_eq s h]
    exact (((((RegsBut.refl _ _).set (by simp)).set (by simp)).set (by simp)).set (by simp)).set (by simp)
  refine ⟨?_, ?_, ?_, ?_, ?_, ?_, ?_, ?_, fun p hp => ?_⟩
  · exact (hregs.get_single (by decide)).trans ((State.get_set_ne _ DMC_STAT_TRAINED DMC_TRAIN_STAT_BUSY 0 (by decide)).trans (State.get_set_self _ _ _))
  · exact (hregs.get_single (by decide)).trans (State.get_set_self _ DMC_STAT_TRAINED 0)
  · rw [State.trainStart_eq s h]; rfl
  · rw [State.trainStart_eq s h]; rfl
  · rw [State.trainStart_eq s h]; rfl
  · rw [State.trainStart_eq s h, State.get_set_ne _ _ _ _ (by decide), State.get_set_ne _ _ _ _ (by decide), State.get_set_ne _ _ _ _ (by decide),
      State.get_set_ne _ _ _ _ (by decide), State.get_set_self]
    rfl
  · rw [State.trainStart_eq s h, State.get_set_ne _ _ _ _ (by decide), State.get_set_ne _ _ _ _ (by decide), State.get_set_self]
    rfl
  · rw [State.trainStart_eq s h]; rfl
  · rw [State.trainStart_eq s h]
    cases p <;> simp at hp <;> rfl

/-! ### Background initialisation (R309) -/

/-- The mark moves up to `m`; written lines below it are no longer apart from the initialised ones. -/
def State.initMarked (s : State) (m : Nat) : State :=
  let s1 := (s.set DMC_INIT_MARK m).dev 0 12 m 0
  { s1 with dmc := { s1.dmc with above := s1.dmc.above.filter (fun e => decide (m ≤ e.1)) } }

/-- The state after a pass up to `m` of `top` lines. -/
def State.initPassed (s : State) (m top : Nat) : State := if m = top then (s.initMarked m).set DMC_STAT_INIT_DONE 1 else s.initMarked m

theorem exec_dramInitPass {s : State} (n : Nat)
    (hgo : (s.flag DMC_CFG_INIT && s.dmc.ready && !s.flag DMC_STAT_INIT_DONE && s.flag DMC_CFG_EN) = true) :
    exec (.dramInitPass n) s = .next (s.initPassed (min (s.dmcCap / 64) (s.get DMC_INIT_MARK + n)) (s.dmcCap / 64)) := by
  change execDramInitPass n s = _
  rw [execDramInitPass, if_pos hgo]
  generalize s.dmcCap = cap
  rfl

theorem SameBut.initMarked (s : State) (m : Nat) : SameBut [.regs, .dmc, .out] s (s.initMarked m) := by
  intro p hp; cases p <;> simp at hp <;> rfl

theorem RegsBut.initMarked (s : State) (m : Nat) : RegsBut [DMC_INIT_MARK] s (s.initMarked m) :=
  ((RegsBut.refl _ s).set (v := m) (by simp)).upd rfl

theorem State.get_initMarked (s : State) (m : Nat) : (s.initMarked m).get DMC_INIT_MARK = m % 2 ^ DMC_INIT_MARK.width :=
  State.get_set_self s DMC_INIT_MARK m

theorem State.initPassed_spec (s : State) (top n : Nat) (hdone : s.flag DMC_STAT_INIT_DONE = false) :
    let u := s.initPassed (min top n) top
    u.get DMC_INIT_MARK = min top n % 2 ^ DMC_INIT_MARK.width ∧ (top ≤ n → u.flag DMC_STAT_INIT_DONE = true) ∧
      (n < top → u.flag DMC_STAT_INIT_DONE = false) ∧ u.dram = s.dram ∧ SameBut [.regs, .dmc, .out] s u := by
  have hsame := SameBut.initMarked s (min top n)
  refine ⟨?_, fun htop => ?_, fun hlow => ?_, ?_, SameBut.ite (fun _ => hsame.set (by simp)) fun _ => hsame⟩
  · unfold State.initPassed
    split
    · exact (State.get_set_ne _ _ _ _ (by decide)).trans (State.get_initMarked s _)
    · exact State.get_initMarked s _
  · rw [State.initPassed, if_pos (by omega)]
    exact beq_of_eq (State.get_set_self _ _ _)
  · rw [State.initPassed, if_neg (by omega)]
    exact (congrArg (· == 1) ((RegsBut.initMarked s _).get_single (by decide))).trans hdone
  · unfold State.initPassed
    split
    · exact hsame .dram (by simp)
    · exact hsame .dram (by simp)

/-! ### Write CRC errors (R314, R315) -/

/-- A line whose replays have failed is counted, recorded and its acknowledgements marked. -/
def State.crcFailed (s : State) (l : Nat) : State :=
  let s1 := (s.inc DMC_BADLINE_CMD_ERR).ledger 0x0605 (64 * l)
  { s1 with dmc := { s1.dmc with acks := s1.dmc.acks.map (fun (a : AckSt) => if a.lines.contains l then { a with status := 4 } else a) } }

theorem State.crcFailed_spec (s : State) (l : Nat) : (∀ sc, (s.crcFailed l).sub sc = s.sub sc) ∧ (s.crcFailed l).dmc.subs = s.dmc.subs ∧
    (s.crcFailed l).dram = s.dram ∧ Counts s (s.crcFailed l) DMC_BADLINE_CMD_ERR 0 := by
  have hled := SameBut.ledger (s.inc DMC_BADLINE_CMD_ERR) 0x0605 (64 * l)
  have hdmc : ((s.inc DMC_BADLINE_CMD_ERR).ledger 0x0605 (64 * l)).dmc = s.dmc := hled .dmc (by simp)
  have hsubs : (s.crcFailed l).dmc.subs = s.dmc.subs := (rfl : _ = ((s.inc DMC_BADLINE_CMD_ERR).ledger 0x0605 (64 * l)).dmc.subs).trans (by rw [hdmc])
  refine ⟨fun sc => congrArg (List.getD · sc SubSt.init) hsubs, hsubs, hled .dram (by simp), ?_⟩
  exact (State.get2_ledger _ _ _ (by decide)).trans (State.geti_seti_self _ _ _ _)

theorem State.sub_setSub_self (s : State) {i : Nat} (k : SubSt) (h : i < s.dmc.subs.length) : (s.setSub i k).sub i = k := by
  simp [State.setSub, State.sub, setAt, List.getD_eq_getElem?_getD, h]

theorem State.sub_setSub_ne (s : State) {i j : Nat} (k : SubSt) (h : j ≠ i) : (s.setSub i k).sub j = s.sub j := by
  simp [State.setSub, State.sub, setAt, List.getD_eq_getElem?_getD, List.getElem?_set_ne (Ne.symm h)]

theorem exec_writeCrcAlert_failed {s : State} {sc : Nat} (l : Nat) (hsc : sc < 4) (hw : s.flag DMC_CFG_WCRC = true)
    (hbad : (s.sub sc).bad.contains l = false) : exec (.writeCrcAlert sc [l] false) s = .next (
      if (s.sub sc).bad.length < 16 then (s.crcFailed l).setSub sc { s.sub sc with bad := (s.sub sc).bad ++ [l] }
      else if bitB ((s.crcFailed l).get DMC_STAT_FAULT) sc then s.crcFailed l
      else ((s.crcFailed l).orBit DMC_STAT_FAULT sc).ledger 0x0606 (64 * l)).badUsed := by
  have hrun : exec (.writeCrcAlert sc [l] false) s = .next (
      if ((s.crcFailed l).sub sc).bad.contains l then s.crcFailed l
      else if ((s.crcFailed l).sub sc).bad.length < 16 then
        (s.crcFailed l).setSub sc { (s.crcFailed l).sub sc with bad := ((s.crcFailed l).sub sc).bad ++ [l] }
      else if bitB ((s.crcFailed l).get DMC_STAT_FAULT) sc then s.crcFailed l
      else ((s.crcFailed l).orBit DMC_STAT_FAULT sc).ledger 0x0606 (64 * l)).badUsed := by
    change execWriteCrcAlert sc [l] false s = _
    rw [execWriteCrcAlert, if_neg (by omega), if_neg (by rw [hw]; decide)]
    rfl
  rw [hrun, (s.crcFailed_spec l).1 sc, hbad, if_neg (by decide)]

theorem RegsBut.badUsed (s : State) : RegsBut [DMC_BADLINE_USED] s s.badUsed := (RegsBut.refl _ s).set (by simp)

end Sys2Proof.Machine

open Sys2Proof.Machine Sys2Proof.Machine.Reg

/-- Settles O18: GO and EN set registers and start or resume the controller; the mark and the bad-line table grow by what the command names. -/
theorem dramTrainingAndErrors : Obligations.DramTrainingAndErrors := by
  unfold Obligations.DramTrainingAndErrors
  refine ⟨?ignored, ?go, ?enable, ?init, ?alert, ?replayed⟩
  case ignored =>
    intro s mode hbusy
    have hget : ∀ f : Fld, f.key 0 0 ≠ DMC_TRAIN_CTRL_MODE.key 0 0 → (s.set DMC_TRAIN_CTRL_MODE mode).flag f = s.flag f :=
      fun f hf => congrArg (· == 1) (State.get_set_ne _ _ _ _ hf)
    refine ⟨s.set DMC_TRAIN_CTRL_MODE mode, if_pos ?_, (SameBut.refl _ s).set (by simp), (RegsBut.refl _ s).set (by simp)⟩
    rw [hget _ (by decide), hget _ (by decide)]
    simpa using hbusy
  case go =>
    intro s mode hen hbusy
    have hget : ∀ f : Fld, f.key 0 0 ≠ DMC_TRAIN_CTRL_MODE.key 0 0 → (s.set DMC_TRAIN_CTRL_MODE mode).flag f = s.flag f :=
      fun f hf => congrArg (· == 1) (State.get_set_ne _ _ _ _ hf)
    have hgo : ¬((s.set DMC_TRAIN_CTRL_MODE mode).flag DMC_CFG_EN || (s.set DMC_TRAIN_CTRL_MODE mode).flag DMC_TRAIN_STAT_BUSY) = true := by
      rw [hget _ (by decide), hget _ (by decide), hen, hbusy]; decide
    have hmode : (if mode % 2 = 1 then 2 else 1) ≠ 3 := by split <;> decide
    obtain ⟨hb, htr, hdram, hbad, htraining, hfault, hmark, hready, hsame⟩ := (s.set DMC_TRAIN_CTRL_MODE mode).trainStart_spec hmode
    exact ⟨_, if_neg hgo, beq_of_eq hb, htr, hdram, hbad, htraining, hfault, hmark, hready,
      ((SameBut.set2 s DMC_TRAIN_CTRL_MODE 0 0 mode).mono (by simp)).trans hsame⟩
  case enable =>
    intro s hen
    have hexec : exec .dmcEnable s = .next s.dmcEnable := if_neg (by rw [hen]; decide)
    refine ⟨fun hok => ⟨_, hexec, ?_⟩, fun hbad => ⟨_, hexec, ?_⟩⟩
    · rw [State.dmcEnable, if_pos hok]
      extract_lets s1
      have hs1 : SameBut [.regs, .dmc, .out, .fab, .kmi, .freeCount, .ldg, .pba] s s1 := (SameBut.refl _ s).set (by simp)
      split
      · refine ⟨beq_of_eq ?_, fun _ _ => ⟨beq_of_eq ?_, beq_of_eq ?_⟩, ?_⟩
        · rw [State.get_dmcResume _ (by decide) (by decide), State.get_set_ne _ _ _ _ (by decide), State.get_set_ne _ _ _ _ (by decide)]
          exact State.get_set_self _ _ _
        · rw [State.get_dmcResume _ (by decide) (by decide), State.get_set_ne _ _ _ _ (by decide)]
          exact State.get_set_self _ _ _
        · rw [State.get_dmcResume _ (by decide) (by decide)]
          exact State.get_set_self _ _ _
        · exact ((hs1.set (by simp)).set (by simp)).trans ((dmcResume_frame _).1.mono (by simp))
      · next hno =>
        exact ⟨beq_of_eq (State.get_set_self _ _ _), fun hpass htr => absurd (by rw [hpass, htr]; rfl) hno, hs1⟩
    · rw [State.dmcEnable, if_neg (by rw [hbad]; decide)]
      refine ⟨?_, beq_of_eq (State.get_set_self _ _ _), ((SameBut.refl _ s).set (by simp)).set (by simp),
        ((RegsBut.refl _ s).set (by simp)).set (by simp)⟩
      rw [State.flag, State.get_set_ne _ _ _ _ (by decide), State.get_set_self]
      rfl
  case init =>
    intro s n hinit hready hdone hen
    have hgo : (s.flag DMC_CFG_INIT && s.dmc.ready && !s.flag DMC_STAT_INIT_DONE && s.flag DMC_CFG_EN) = true := by
      rw [hinit, hready, hdone, hen]; rfl
    exact ⟨_, exec_dramInitPass n hgo, s.initPassed_spec _ _ hdone⟩
  case alert =>
    intro s sc l hsc hlen hw hbad
    obtain ⟨hsub, hsubs, hdram, hcnt⟩ := s.crcFailed_spec l
    have hexec := exec_writeCrcAlert_failed l hsc hw hbad
    refine ⟨fun hroom => ?_, fun hfull => ?_⟩
    · rw [if_pos hroom] at hexec
      refine ⟨_, hexec, ?_, ?_, hdram⟩
      · refine congrArg SubSt.bad (State.sub_setSub_self _ _ ?_)
        rw [hsubs, hlen]
        exact hsc
      · exact ((RegsBut.badUsed _).get_single (by decide)).trans hcnt
    · rw [if_neg (by omega)] at hexec
      refine ⟨_, hexec, ?_, ?_, ?_⟩
      · rw [(RegsBut.badUsed _).get_single (by decide)]
        split
        · assumption
        · refine (congrArg (bitB · sc) ((State.get2_ledger _ _ _ (by decide)).trans (State.get_set_self _ _ _))).trans ?_
          rw [bitB_eq_testBit, Nat.testBit_mod_two_pow, ← bitB_eq_testBit, bitB_setBit]
          simp only [DMC_STAT_FAULT, decide_true, Bool.or_true, Bool.and_true]
          exact decide_eq_true hsc
      · split
        · exact congrArg SubSt.bad (hsub sc)
        · exact (congrArg (fun d : DmcSt => (d.subs.getD sc SubSt.init).bad) (SameBut.ledger _ _ _ .dmc (by simp))).trans (congrArg SubSt.bad (hsub sc))
      · split
        · exact hdram
        · exact (SameBut.ledger _ _ _ .dram (by simp)).trans hdram
  case replayed =>
    intro s sc l hsc
    change execWriteCrcAlert sc l true s = _
    rw [execWriteCrcAlert, if_neg (by omega)]
    exact if_pos (by simp)
end

section
/-! The DRAM commands of the KMI (R287, R308, R312, R412), and the proof of Obligations.MemoryCommands. -/

namespace Sys2Proof.Machine

open Reg

/-! ### The memory settings record -/

theorem SameBut.pErase (s : State) (a n : Nat) : SameBut [.pantry, .pnt] s (s.pErase a n) := by
  intro p hp; cases p <;> simp at hp <;> rfl

theorem SameBut.pWrite (s : State) (a : Nat) (l : List Nat) : SameBut [.pantry] s (s.pWrite a l) := by
  intro p hp; cases p <;> simp at hp <;> rfl

theorem SameBut.pMark (s : State) (a n : Nat) : SameBut [.pnt] s (s.pMark a n) := by
  intro p hp; cases p <;> simp at hp <;> rfl

/-- A settings record changes the flash and its marks of programmed pages. -/
theorem SameBut.settingsWrite (s : State) (kind : Nat) (body : List Nat) : SameBut [.pantry, .pnt] s (s.settingsWrite kind body) := by
  unfold State.settingsWrite
  extract_lets c0 c1
  split
  extract_lets a hdr crc s1
  have hs1 : SameBut [.pantry, .pnt] s s1 :=
    ((SameBut.pErase s _ _).step (SameBut.pWrite _ _ _) (by simp)).step (SameBut.pMark _ _ _) (by simp)
  split
  · exact SameBut.refl _ s
  · exact (hs1.step (SameBut.pWrite _ _ _) (by simp)).step (SameBut.pMark _ _ _) (by simp)

/-- The bank and SEQ of the next record of a kind. -/
def State.settingsNext (s : State) (kind : Nat) : Nat × Nat :=
  match s.settingsCopy 0 kind, s.settingsCopy 1 kind with
  | none, none => (0, 0)
  | none, some y => (0, y.1 + 1)
  | some x, none => (1, x.1 + 1)
  | some x, some y => if seqAbove y.1 x.1 then (0, y.1 + 1) else (1, x.1 + 1)

theorem State.settingsWrite_next (s : State) (kind : Nat) (body : List Nat) : s.settingsWrite kind body =
    if s.marked (2 ^ 24 * (s.settingsNext kind).1 + (settingsSpan kind).1) (settingsSpan kind).2 && !s.pnt.nvwp then s
    else s.recordPut (s.settingsNext kind).1 kind ((s.settingsNext kind).2 % 2 ^ 32) body := rfl

/-- The record written depends on the flash, the marks and NVWP_N alone. -/
theorem State.settingsWrite_kmiUnpost (s : State) (m kind : Nat) (body : List Nat) :
    ((s.kmiUnpost m).settingsWrite kind body).pantry = (s.settingsWrite kind body).pantry := by
  rw [State.settingsWrite_next, State.settingsWrite_next, apply_ite State.pantry, apply_ite State.pantry]
  rfl

/-! ### Reads of memory without HDM -/

/-- Without a committed HDM decoder a reader asks the host nothing. -/
theorem State.readHost_noHdm (s : State) (req : Nat) (ls : List (Nat × Nat)) (h : s.flag HLK_STAT_HDM_COMMITTED = false) :
    s.readHost req ls = ([], s) := by
  have hpage : ∀ dpa, s.hdmPage dpa = none := fun dpa => if_neg (by simp [h])
  have hsnoop : ∀ ls : List (Nat × Nat), ls.foldl (fun st l => st.biasSnoop l.1 false) s = s := by
    intro ls
    induction ls with
    | nil => rfl
    | cons l ls ih =>
      have hl : s.biasSnoop l.1 false = s := by simp only [State.biasSnoop, hpage]
      rw [List.foldl_cons, hl, ih]
  have hsup : ∀ ls : List Nat, s.hostSupplies ls = ([], s) := by
    intro ls
    unfold State.hostSupplies
    induction ls with
    | nil => rfl
    | cons l ls ih =>
      have hl : s.hostSupply (l) = (none, s) := by simp only [State.hostSupply, hpage]
      rw [List.foldl_cons, hl]
      exact ih
  simp only [State.readHost, hsnoop, hsup, ite_self]

/-- A read that meets no uncorrectable line and no host page returns what its readers see of the lines. -/
theorem State.dramRead_plain (s : State) (req dpa n : Nat) (h : s.flag HLK_STAT_HDM_COMMITTED = false)
    (hgood : (rangeLines dpa n).find? (fun l => (s.lineView l.1).2) = none) : s.dramRead req dpa n =
      ((List.range n).map (fun i => bits (s.lineView ((dpa + i) / 64)).1 (8 * ((dpa + i) % 64) + 7) (8 * ((dpa + i) % 64))), none, s) := by
  have hhost := s.readHost_noHdm req (rangeLines dpa n) h
  unfold State.dramRead
  extract_lets ls s1
  have hx : s.readHost req ls = if req = 208 then ([], s1) else s1.hostSupplies (ls.map (·.1)) := rfl
  rw [← hx, hhost]
  dsimp only
  have hfind : ls.find? (fun l => (Assoc.find? l.1 ([] : Assoc Nat)).isNone && (s.lineView l.1).2) = none := by
    simpa [Assoc.find?] using hgood
  rw [hfind]
  rfl

/-- A memory write only queues: it changes the controller's queues, the ports and the outward log. -/
theorem Serves.dramWrite (s : State) (req dpa : Nat) (data : List Nat) (poison : Bool) : Serves s (s.dramWrite req dpa data poison) := by
  unfold State.dramWrite
  extract_lets ls s1
  have h1 : Serves s s1 := Serves.ite (Serves.refl s) (Serves.foldl (fun u l => Serves.biasSnoop u _ _) _ _)
  exact h1.trans (Serves.dmcSend _ _)

end Sys2Proof.Machine

open Sys2Proof.Machine Sys2Proof.Machine.Reg

/-- Settles O19: each command's body takes one branch, whose operation changes the settings record, the queues or the training. -/
theorem memoryCommands : Obligations.MemoryCommands := by
  unfold Obligations.MemoryCommands
  refine ⟨?settings, ?read, ?write, ?train⟩
  case settings =>
    intro s m c hready
    refine ⟨fun hlen hok => ?_, fun hbad => ?_⟩
    · have hrec := SameBut.settingsWrite (s.kmiUnpost m) 2 c.dataIn
      have hgo : ¬(c.dataIn.length ≠ 64 ∨ s.masksOk (fun b => leField c.dataIn (8 * b) 8) = false) := by rw [hok, hlen]; simp
      refine answers_delivers (x := execMemSettings m s) rfl rfl hready (if_neg hgo) ?_ fun t hdone _ hsame hregs => ⟨hdone, ?_, ?_, ?_⟩
      · have hkmi : ((s.kmiUnpost m).settingsWrite 2 c.dataIn).kmi = (s.kmiUnpost m).kmi := hrec .kmi (by simp)
        rw [hkmi]
        rfl
      · exact (hsame .pantry (by simp)).trans (s.settingsWrite_kmiUnpost m 2 c.dataIn)
      · exact (((SameBut.refl _ s).step (SameBut.kmiUnpost s m) (by simp)).step hrec (by simp)).step hsame (by simp)
      · exact (RegsBut.of_eq _ (hrec .regs (by simp))).trans hregs
    · refine answers_reads (x := execMemSettings m s) rfl rfl hready (if_pos ?_) fun t hdone _ hsame _ => ⟨hdone, hsame .pantry (by simp)⟩
      exact hbad
  case read =>
    intro s m c hready
    have hpass : s.dmcTakes = true → s.flag DMC_STAT_TRAINED = true := fun h => by simp only [State.dmcTakes, Bool.and_eq_true] at h; exact h.1.1.2
    have hgo1 : s.flag DMC_STAT_TRAINED = true → ¬(!(s.kmiUnpost m).flag DMC_STAT_TRAINED) = true := fun h => by
      rw [show (s.kmiUnpost m).flag DMC_STAT_TRAINED = s.flag DMC_STAT_TRAINED from rfl, h]; decide
    have hgo2 : s.dpaOk (bits c.a0 36 0) (bits c.a1 23 0) = true → ¬(!(s.kmiUnpost m).dpaOk (bits c.a0 36 0) (bits c.a1 23 0)) = true := fun h => by
      rw [show (s.kmiUnpost m).dpaOk (bits c.a0 36 0) (bits c.a1 23 0) = s.dpaOk (bits c.a0 36 0) (bits c.a1 23 0) from rfl, h]; decide
    refine ⟨fun htr => ?_, fun htr hcap => ?_, fun htr hok htake => ?_, fun htake hok hgood hhdm => ?_, fun htake hok => ?_, fun x hx => ?_⟩
    · exact answers_reads (x := execDramRead m s) rfl rfl hready (if_pos (show (!s.flag DMC_STAT_TRAINED) = true by rw [htr]; rfl))
        fun t hdone _ _ _ => hdone
    · exact answers_reads (x := execDramRead m s) rfl rfl hready
        ((if_neg (hgo1 htr)).trans (if_pos (show (!s.dpaOk _ _) = true by rw [hcap]; rfl))) fun t hdone _ _ _ => hdone
    · refine answers_executes (x := execDramRead m s) rfl rfl hready
        ((if_neg (hgo1 htr)).trans ((if_neg (hgo2 hok)).trans (if_pos (show (!s.dmcTakes) = true by rw [htake]; rfl))))
        fun t hruns hsame hregs _ _ => ⟨hruns, ?_, (RegsBut.of_eq _ rfl).trans hregs⟩
      exact ((SameBut.kmiUnpost s m).mono (by simp)).trans hsame
    · have hplain := (s.kmiUnpost m).dramRead_plain 211 (bits c.a0 36 0) (bits c.a1 23 0) hhdm hgood
      have hk : (s.kmiUnpost m).kmiDramRead c = (stOk, 0, (List.range (bits c.a1 23 0)).map (fun i => bits (s.lineView ((bits c.a0 36 0 + i) / 64)).1
          (8 * ((bits c.a0 36 0 + i) % 64) + 7) (8 * ((bits c.a0 36 0 + i) % 64))), s.kmiUnpost m) := by
        simp only [State.kmiDramRead, hplain]
        rfl
      refine answers_reads (x := execDramRead m s) rfl rfl hready
        ((if_neg (hgo1 (hpass htake))).trans ((if_neg (hgo2 hok)).trans ((if_neg (show ¬(!s.dmcTakes) = true by rw [htake]; decide)).trans
          (congrArg (fun x : Nat × Nat × List Nat × State => KmiRes.fin x.2.2.2 x.1 x.2.1 [] x.2.2.1) hk))))
        fun t hdone hdata hsame hregs => ⟨?_, hdata, hsame, hregs⟩
      simpa using hdone
    · change execDramRead m s = _
      rw [execDramRead, kmiCommand_ready hready]
      simp only [if_neg (hgo1 (hpass htake)), if_neg (hgo2 hok), if_neg (show ¬(!(s.kmiUnpost m).dmcTakes) = true by
        rw [show (s.kmiUnpost m).dmcTakes = s.dmcTakes from rfl, htake]; decide)]
    · unfold State.kmiDramRead
      extract_lets a
      split
      · next h => rw [h] at hx; cases hx
      · next l line s1 h =>
        rw [h] at hx
        cases hx
        rw [h]
        exact ⟨rfl, rfl⟩
  case write =>
    intro s m c hready
    refine ⟨fun htr => ?_, fun htr hcap => ?_, fun htr hok => ?_⟩
    · exact answers_reads (x := execDramWrite m s) rfl rfl hready (if_pos (show (!s.flag DMC_STAT_TRAINED) = true by rw [htr]; rfl))
        fun t hdone _ hsame _ => ⟨hdone, hsame .dmc (by simp)⟩
    · exact answers_reads (x := execDramWrite m s) rfl rfl hready
        ((if_neg (show ¬(!s.flag DMC_STAT_TRAINED) = true by rw [htr]; decide)).trans (if_pos (show (!s.dpaOk _ _) = true by rw [hcap]; rfl)))
        fun t hdone _ hsame _ => ⟨hdone, hsame .dmc (by simp)⟩
    · have hw := Serves.dramWrite (s.kmiUnpost m) 211 (bits c.a0 36 0) c.dataIn false
      refine answers_delivers (x := execDramWrite m s) rfl rfl hready
        ((if_neg (show ¬(!s.flag DMC_STAT_TRAINED) = true by rw [htr]; decide)).trans (if_neg (show ¬(!s.dpaOk _ _) = true by rw [hok]; decide)))
        (State.mbx_length_of_kept (State.dramWrite_kept (s.kmiUnpost m) _ _ _ _)) fun t hdone _ hsame hregs => ⟨hdone, ?_, ?_, ?_⟩
      · exact (hsame .dram (by simp)).trans (hw.same .dram (by simp))
      · exact (((SameBut.refl _ s).step (SameBut.kmiUnpost s m) (by simp)).step hw.same (by simp)).step hsame (by simp)
      · exact (RegsBut.of_eq _ (hw.same .regs (by simp))).trans hregs
  case train =>
    intro s m c hready
    refine ⟨fun hen hbusy => ?_, fun hbad => ?_⟩
    · have hgo : ¬(s.flag DMC_CFG_EN || s.flag DMC_TRAIN_STAT_BUSY) = true := by rw [hen, hbusy]; decide
      have hmode : (if bitB c.a0 0 then 2 else 1) ≠ 3 := by split <;> decide
      obtain ⟨hb, -, hdram, -, htraining, -⟩ := ((s.kmiUnpost m).set DMC_TRAIN_CTRL_MODE (bits c.a0 0 0)).trainStart_spec hmode
      refine answers_run (x := execDramTrain m s) rfl rfl hready (if_neg hgo) fun hruns => ⟨hruns, htraining, hdram, beq_of_eq ?_⟩
      exact (State.get2_kmiRunning _ _ _ _ _ (by have := hready.1; simp only [Fld.key, DMC_TRAIN_STAT_BUSY, KMI_MBX_STATE]; omega)).trans hb
    · exact answers_reads (x := execDramTrain m s) rfl rfl hready (if_pos (show (s.flag DMC_CFG_EN || s.flag DMC_TRAIN_STAT_BUSY) = true by simpa using hbad)) fun t hdone _ hsame _ => ⟨hdone, hsame .dram (by simp)⟩
end

section
/-! Scheduling of DRAM commands (R285, R293, R295): what a column command writes, and what the other commands leave. -/

namespace Sys2Proof.Machine

open Reg

/-! ### Registers that the clock leaves -/

/-- No field of a register above the Milestone block is the time counter's. -/
theorem State.get2_setNow_high (s : State) (t : Nat) {f : Fld} (i j : Nat) (h : 0x100210 ≤ f.addr) : (s.setNow t).get2 f i j = s.get2 f i j :=
  s.get2_setNow t (by simp only [Fld.key, MSU_TIME_LO, MSU_TIME_HI]; omega)

theorem State.get_setNow_high (s : State) (t : Nat) {f : Fld} (h : 0x100210 ≤ f.addr) : (s.setNow t).get f = s.get f := s.get2_setNow_high t 0 0 h

theorem State.flag_setNow_high (s : State) (t : Nat) {f : Fld} (h : 0x100210 ≤ f.addr) : (s.setNow t).flag f = s.flag f :=
  congrArg (· == 1) (s.get_setNow_high t h)

section
variable (s : State) (t : Nat)

theorem State.twoCh_setNow : (s.setNow t).twoCh = s.twoCh := by
  rw [State.twoCh, State.twoCh, s.get_setNow_high t (by decide)]

theorem State.homeBit_setNow (b : Nat) : (s.setNow t).homeBit b = s.homeBit b := by
  simp only [State.homeBit, State.twoCh_setNow, s.get_setNow_high t (f := DMC_GEOM_WIDTH) (by decide),
    s.get_setNow_high t (f := DMC_GEOM_RANKS) (by decide)]

theorem State.mapMask_setNow (b : Nat) : (s.setNow t).mapMask b = s.mapMask b :=
  congrArg₂ (fun x y => x + 2 ^ 32 * y) (s.get2_setNow_high t b 0 (by decide)) (s.get2_setNow_high t b 0 (by decide))

theorem State.devLine_setNow (line : Nat) : (s.setNow t).devLine line = s.devLine line := by
  simp only [State.devLine, State.homeBit_setNow, State.mapMask_setNow]

theorem State.rankOf_setNow (dev : Nat) : (s.setNow t).rankOf dev = s.rankOf dev := by
  simp only [State.rankOf, State.homeBit_setNow]

theorem State.bankOf_setNow (dev : Nat) : (s.setNow t).bankOf dev = s.bankOf dev := by
  simp only [State.bankOf, State.twoCh_setNow, State.rankOf_setNow, s.get_setNow_high t (f := DMC_GEOM_WIDTH) (by decide)]

theorem State.rowOf_setNow (dev : Nat) : (s.setNow t).rowOf dev = s.rowOf dev := by
  simp only [State.rowOf, State.rowBit, State.twoCh_setNow, s.get_setNow_high t (f := DMC_GEOM_WIDTH) (by decide),
    s.get_setNow_high t (f := DMC_GEOM_RANKS) (by decide)]

end

/-! ### Device lines -/

/-- Bytes of a device line just written, and of the others. -/
theorem State.devData_setDevData (s : State) (dev v : Nat) : (s.setDevData dev v).devData dev = v % 256 ^ 64 := by
  have hrun : Assoc.readRun 0 (64 * dev) 64 (s.setDevData dev v).dram = leBytes 64 v := by
    apply List.ext_getElem (by simp [Assoc.readRun])
    intro i h1 h2
    simp only [Assoc.readRun, List.getElem_map, List.getElem_range]
    exact Assoc.get_writeRun_in _ _ _ _ h2
  rw [State.devData, hrun, leNat_leBytes]

theorem State.get_setDevData_out (s : State) (dev v : Nat) {x : Nat} (h : x < 64 * dev ∨ 64 * dev + 64 ≤ x) :
    Assoc.get 0 x (s.setDevData dev v).dram = Assoc.get 0 x s.dram :=
  Assoc.get_writeRun_out _ _ _ _ (by simpa using h)

theorem mergeBytes_lt (mask old new : Nat) : mergeBytes mask old new < 256 ^ 64 := by
  have h := leNat_lt ((List.range 64).map (fun k => if bitB mask k then bits new (8 * k + 7) (8 * k) else bits old (8 * k + 7) (8 * k)))
  rwa [List.length_map, List.length_range] at h

/-! ### A column command -/

theorem SameBut.ceCount (s : State) (n dpa : Nat) : SameBut [.kmi, .ldg, .regs, .out, .pba] s (s.ceCount n dpa) := by
  refine SameBut.foldl _ (fun u _ => ?_) _ _
  exact SameBut.ite (fun _ => ((SameBut.refl _ u).set (by simp)).led (by simp)) fun _ => (SameBut.refl _ u).set (by simp)

theorem SameBut.setSub (s : State) (i : Nat) (k : SubSt) : SameBut [.dmc] s (s.setSub i k) := by
  intro p hp; cases p <;> simp at hp <;> rfl

/-- The components that serving requests changes. -/
def columnParts : List Part := [.regs, .dmc, .dram, .dramBad, .out, .freeCount, .ldg, .kmi, .pba, .fab]

theorem Serves.servedAll (q : DReq) (line data : Nat) (bad : Bool) (st : Nat) (s : State) :
    Serves s (q.srcs.foldl (fun st' src => st'.served src line data bad st) s) := Serves.foldl (fun u src => Serves.served u src _ _ _ _) _ _

/-- A column command writes the line of a write request, unless the subchannel has failed, and no other byte. -/
theorem State.issueColumn_frame (s : State) (sc : Nat) (q : DReq) (t ce : Nat) (ue : Bool) :
    SameBut columnParts s (s.issueColumn sc q t ce ue) ∧ (s.issueColumn sc q t ce ue).dram =
      if q.write && !bitB (s.get DMC_STAT_FAULT) sc then
        (s.setDevData (s.devLine q.line) (mergeBytes q.mask (s.devData (s.devLine q.line)) q.data)).dram
      else s.dram := by
  unfold State.issueColumn
  extract_lets dev b row k k1 more bk predict auto bk1 other k2 s1 s2 reads s3 fault above bad req s3' s4 old s5 k5 src5 s6 src6 s7 data
  have h4 : SameBut [.kmi, .ldg, .regs, .out, .pba, .dmc] s s4 := by
    have h2 : SameBut [.kmi, .ldg, .regs, .out, .pba, .dmc] s s2 :=
      ((((SameBut.refl _ s).step (SameBut.setSub s _ _) (by simp)).sent (by simp)).inc (by simp))
    have h3 : SameBut [.kmi, .ldg, .regs, .out, .pba, .dmc] s s3 := h2.trans (SameBut.ite (fun _ => (SameBut.ceCount _ _ _).mono (by simp)) fun _ => SameBut.refl _ _)
    have h3' : SameBut [.kmi, .ldg, .regs, .out, .pba, .dmc] s s3' := SameBut.ite (fun _ => h3.sent (by simp)) fun _ => h3
    exact SameBut.ite (fun _ => h3'.trans ((SameBut.reportUe _ _ _).mono (by simp))) fun _ => h3'
  have hdram4 : s4.dram = s.dram := h4 .dram (by simp)
  have h4' : SameBut columnParts s s4 := h4.mono (by simp [columnParts])
  have hserved : ∀ (u : State) (d : Nat) (bd : Bool) (st : Nat), SameBut columnParts u (q.srcs.foldl (fun st' src => st'.served src q.line d bd st) u) ∧
      (q.srcs.foldl (fun st' src => st'.served src q.line d bd st) u).dram = u.dram := fun u d bd st =>
    ⟨(Serves.servedAll q _ _ _ _ u).same.mono (by simp [columnParts]), (Serves.servedAll q _ _ _ _ u).same .dram (by simp)⟩
  by_cases hw : q.write = true
  · rw [if_pos hw]
    by_cases hf : fault = true
    · have hno : ¬(q.write && !bitB (s.get DMC_STAT_FAULT) sc) = true := by
        rw [show bitB (s.get DMC_STAT_FAULT) sc = true from hf, hw]; decide
      rw [if_pos hf, if_neg hno]
      obtain ⟨hs, hd⟩ := hserved s4 0 false 4
      exact ⟨h4'.trans hs, hd.trans hdram4⟩
    · have hgo : (q.write && !bitB (s.get DMC_STAT_FAULT) sc) = true := by
        rw [show bitB (s.get DMC_STAT_FAULT) sc = false from Bool.eq_false_iff.mpr hf, hw]; rfl
      rw [if_neg hf, if_pos hgo]
      have h7 : SameBut columnParts s4 s7 := by
        have h5 : SameBut columnParts s4 s5 := by
          intro p hp; cases p <;> simp [columnParts] at hp <;> rfl
        have h6 : SameBut columnParts s5 s6 := by
          intro p hp; cases p <;> simp [columnParts] at hp <;> rfl
        refine (h5.trans h6).trans (SameBut.ite (fun _ => ?_) fun _ => SameBut.refl _ _)
        intro p hp; cases p <;> simp [columnParts] at hp <;> rfl
      have hdram7 : s7.dram = s5.dram := by
        simp only [s7]
        split <;> rfl
      obtain ⟨hs, hd⟩ := hserved s7 0 false (if bad = true then 3 else 0)
      refine ⟨(h4'.trans h7).trans hs, hd.trans (hdram7.trans ?_)⟩
      simp only [s5, old, State.setDevData, State.devData, hdram4, dev]
  · have hno : ¬(q.write && !bitB (s.get DMC_STAT_FAULT) sc) = true := by
      rw [Bool.eq_false_iff.mpr hw]; simp
    rw [if_neg hw, if_neg hno]
    obtain ⟨hs, hd⟩ := hserved s4 data bad 0
    exact ⟨h4'.trans hs, hd.trans hdram4⟩

/-! ### Row commands and neighbour refreshes -/

theorem oldest_mem {l : List DReq} {q : DReq} (h : oldest l = some q) : q ∈ l := by
  induction l generalizing q with
  | nil => cases h
  | cons x l ih =>
    rw [oldest] at h
    split at h
    · cases h; exact List.mem_cons_self
    · next r hr =>
      split at h
      · cases h; exact List.mem_cons_self
      · cases h; exact List.mem_cons_of_mem _ (ih hr)

theorem SameBut.fresh (s : State) : SameBut [.freeCount] s s.fresh.2 := by
  intro p hp; cases p <;> simp at hp <;> rfl

theorem SameBut.nrDraw (s : State) (sc b row : Nat) : SameBut [.dmc, .regs, .freeCount] s (s.nrDraw sc b row) := by
  have hfresh : SameBut [.dmc, .regs, .freeCount] s s.fresh.2 := (SameBut.fresh s).mono (by simp)
  unfold State.nrDraw
  extract_lets prob
  refine SameBut.ite (fun _ => SameBut.refl _ s) fun _ => ?_
  change SameBut _ s (if s.fresh.1 % 65536 < prob then _ else s.fresh.2)
  exact SameBut.ite (fun _ => SameBut.ite (fun _ => hfresh.step (SameBut.setSub _ _ _) (by simp)) fun _ => hfresh.inc (by simp)) fun _ => hfresh

theorem SameBut.issueRow (s : State) (sc : Nat) (q : DReq) (step t : Nat) :
    SameBut [.dmc, .out, .regs, .freeCount] s (s.issueRow sc q step t) := by
  unfold State.issueRow
  extract_lets dev b k bk row k1 s1
  refine SameBut.ite (fun _ => ((SameBut.setSub s _ _).mono (by simp)).sent (by simp)) fun _ => ?_
  have h1 : SameBut [.dmc, .out, .regs, .freeCount] s s1 := ((SameBut.setSub s _ _).mono (by simp)).sent (by simp)
  exact h1.step (SameBut.nrDraw _ _ _ _) (by simp)

theorem SameBut.issueNr (s : State) (sc b : Nat) (rows : List Nat) : SameBut [.dmc, .out, .regs] s (s.issueNr sc b rows) := by
  have hsub : ∀ (u : State) k, SameBut [.dmc, .out, .regs] u (u.setSub sc k) := fun u k => (SameBut.setSub u sc k).mono (by simp)
  unfold State.issueNr
  extract_lets k
  split
  · exact (hsub s _).sent (by simp)
  · split
    · exact hsub s _
    · next r rest =>
      extract_lets s1
      have h1 : SameBut [.dmc, .out, .regs] s s1 := (SameBut.refl _ s).sent (by simp)
      exact SameBut.ite (fun _ => (h1.trans (hsub _ _)).inc (by simp)) fun _ => h1.trans (hsub _ _)

/-! ### Held reads (R291) -/

theorem SameBut.readTake (s : State) (r p i w : Nat) : SameBut [.dmc, .out, .fab, .freeCount] s (s.readTake r p i w) := by
  by_cases hbad : s.stream r i = none ∨ (∃ base size, s.stream r i = some (base, size) ∧
    (s.get2 DMC_STR_HI_RD r i = 0 ∨ bits w 36 0 % 16 ≠ 0 ∨ size < bits w 36 0 + 16 * (bits w 47 40 + 1) ∨
      s.dpaOk (base + bits w 36 0) (16 * (bits w 47 40 + 1)) = false))
  · rw [State.readTake_refused hbad]
    exact (Delivers.toRoom _ _ _ _).same.mono (by simp)
  · obtain ⟨hsome, hok⟩ := not_or.mp hbad
    obtain ⟨⟨base, size⟩, hst⟩ := Option.ne_none_iff_exists'.mp hsome
    have hgo : ¬(s.get2 DMC_STR_HI_RD r i = 0 ∨ bits w 36 0 % 16 ≠ 0 ∨ size < bits w 36 0 + 16 * (bits w 47 40 + 1) ∨
        s.dpaOk (base + bits w 36 0) (16 * (bits w 47 40 + 1)) = false) := fun h => hok ⟨base, size, hst, h⟩
    simp only [not_or, not_lt, Bool.not_eq_false, ne_eq, not_not] at hgo
    obtain ⟨hrd, hal, hsz, hcap⟩ := hgo
    exact (s.readTake_taken p hst hrd hal hsz hcap).2

theorem SameBut.readRelease (s : State) : SameBut [.dmc, .out, .fab, .freeCount] s s.readRelease := by
  refine SameBut.foldl _ (fun u e => ?_) _ _
  refine SameBut.ite (fun _ => SameBut.refl _ u) fun _ => ?_
  refine SameBut.trans (fun p hp => ?_) (SameBut.readTake _ _ _ _ _)
  cases p <;> simp at hp <;> rfl

/-! ### Selecting a command (R295) -/

/-- Setting a subchannel's mode leaves its queues. -/
theorem State.sub_setSub_queues (s : State) (sc : Nat) (m : Bool) :
    ((s.setSub sc { s.sub sc with wmode := m }).sub sc).rq = (s.sub sc).rq ∧ ((s.setSub sc { s.sub sc with wmode := m }).sub sc).wq = (s.sub sc).wq := by
  by_cases h : sc < s.dmc.subs.length
  · rw [State.sub_setSub_self _ _ h]
    exact ⟨rfl, rfl⟩
  · have hsub : ∀ u : State, u.dmc.subs.length = s.dmc.subs.length → u.sub sc = SubSt.init := fun u hu =>
      List.getD_eq_default _ _ (by omega)
    rw [hsub _ (length_setAt _ _ _), hsub s rfl]
    exact ⟨rfl, rfl⟩

/-- What one selected command may leave of a state: no content of the DRAM changed, or a column command of a queued request carried out. -/
def Selected (s : State) (l : List DReq) (sc t ce : Nat) (ue : Bool) (u : State) : Prop :=
  (SameBut columnParts s u ∧ u.dram = s.dram) ∨
    ∃ q ∈ l, ∃ k : SubSt, u = (((s.setNow t).setSub sc k).issueColumn sc q t ce ue).dmcPump.readRelease

theorem Selected.of_same {s : State} {l : List DReq} {sc t ce : Nat} {ue : Bool} {u : State} (h : SameBut [.dmc, .out, .regs, .freeCount] s u) :
    Selected s l sc t ce ue u := .inl ⟨h.mono (by simp [columnParts]), h .dram (by simp)⟩

theorem dmcCommandSelect_selected (s : State) {sc : Nat} (t ce : Nat) (col ue : Bool) (hsc : sc < 4) :
    Answers (.dmcCommandSelect sc t col ce ue) s (Selected s ((s.sub sc).rq ++ (s.sub sc).wq) sc t ce ue) := by
  have hnow : SameBut [.dmc, .out, .regs, .freeCount] s (s.setNow t) := (SameBut.setNow s t).mono (by simp)
  have hmode : ∀ k, SameBut [.dmc, .out, .regs, .freeCount] s ((s.setNow t).setSub sc k) := fun k => hnow.step (SameBut.setSub _ _ _) (by simp)
  change ∃ u, execDmcCommandSelect sc t col ce ue s = .next u ∧ _
  rw [execDmcCommandSelect, if_neg (by omega)]
  extract_lets s' k cap mode s1 k1 dir hits nrOf pick
  split
  · exact ⟨_, rfl, Selected.of_same hnow⟩
  · split
    · next a ha =>
      have hmem : a ∈ (s.sub sc).rq ++ (s.sub sc).wq := (List.mem_filter.mp (oldest_mem ha)).1
      extract_lets s1 st
      have h1 : SameBut [.dmc, .out, .regs, .freeCount] s s1 := hmode _
      split
      · split
        · exact ⟨_, rfl, .inr ⟨a, hmem, _, rfl⟩⟩
        · exact ⟨_, rfl, Selected.of_same h1⟩
      · exact ⟨_, rfl, Selected.of_same (h1.trans (SameBut.issueRow _ _ _ _ _))⟩
    · have h1 : SameBut [.dmc, .out, .regs, .freeCount] s s1 := hmode _
      obtain hp | ⟨q, hp⟩ := Option.eq_none_or_eq_some pick
      · rw [hp]
        dsimp only
        split
        · exact ⟨_, rfl, Selected.of_same h1⟩
        · exact ⟨_, rfl, Selected.of_same (h1.trans ((SameBut.issueNr _ _ _ _).mono (by simp)))⟩
      · have hmem : q ∈ (s.sub sc).rq ++ (s.sub sc).wq := by
          have hdir : ∀ x ∈ dir, x ∈ (s.sub sc).rq ++ (s.sub sc).wq := by
            obtain ⟨hr, hw⟩ := s'.sub_setSub_queues sc mode
            intro x hx
            simp only [dir] at hx
            split at hx
            · exact List.mem_append_right _ (hw ▸ hx)
            · exact List.mem_append_left _ (hr ▸ hx)
          have hhits : ∀ x ∈ hits, x ∈ dir := fun x hx => (List.mem_filter.mp hx).1
          simp only [pick] at hp
          split at hp
          · split at hp
            · next h hh => cases hp; exact hdir _ (hhits _ (oldest_mem hh))
            · exact hdir _ (oldest_mem hp)
          · exact hdir _ (oldest_mem hp)
        rw [hp]
        dsimp only
        split
        · exact ⟨_, rfl, Selected.of_same (h1.trans ((SameBut.issueNr _ _ _ _).mono (by simp)))⟩
        · split
          · split
            · exact ⟨_, rfl, .inr ⟨q, hmem, _, rfl⟩⟩
            · exact ⟨_, rfl, Selected.of_same h1⟩
          · exact ⟨_, rfl, Selected.of_same (h1.trans (SameBut.issueRow _ _ _ _ _))⟩

/-! ### A single queued write -/

theorem State.nextStep_open {s : State} {k : SubSt} {q : DReq}
    (h : (k.bank (s.bankOf (s.devLine q.line))).row = some (s.rowOf (s.devLine q.line))) : s.nextStep k q = 3 := by
  simp only [State.nextStep, h, if_true]

section
variable {s : State} {sc : Nat} {q : DReq} (t : Nat)

/-- The next step of a request is the same with another mode and another time. -/
theorem State.nextStep_mode (k : SubSt) (m : Bool)
    (hrow : (k.bank (s.bankOf (s.devLine q.line))).row = some (s.rowOf (s.devLine q.line))) (k' : SubSt) :
    ((s.setNow t).setSub sc k').nextStep { k with wmode := m } q = 3 := by
  refine State.nextStep_open ?_
  change (k.bank ((s.setNow t).bankOf ((s.setNow t).devLine q.line))).row = some ((s.setNow t).rowOf ((s.setNow t).devLine q.line))
  rw [State.devLine_setNow, State.bankOf_setNow, State.rowOf_setNow, hrow]

/-- A subchannel whose one request is a write of an open row issues its column command. -/
theorem dmcCommandSelect_soleWrite (ce : Nat) (ue : Bool) (hsc : sc < 4) (hidle : s.dmc.refActive = false) (hsr : s.flag DMC_STAT_SR = false)
    (htr : s.dmc.training = 0) (hready : s.dmc.ready = true) (hrq : (s.sub sc).rq = []) (hwq : (s.sub sc).wq = [q]) (hnr : (s.sub sc).nr = [])
    (hrow : ((s.sub sc).bank (s.bankOf (s.devLine q.line))).row = some (s.rowOf (s.devLine q.line))) :
    ∃ k, exec (.dmcCommandSelect sc t true ce ue) s =
      .next (((s.setNow t).setSub sc k).issueColumn sc q t ce ue).dmcPump.readRelease := by
  have hlt : sc < s.dmc.subs.length := by
    by_contra h
    rw [State.sub, List.getD_eq_default _ _ (by omega)] at hwq
    cases hwq
  have hgo : ¬((s.setNow t).dmc.refActive || (s.setNow t).flag DMC_STAT_SR || (s.setNow t).dmc.training != 0 || !(s.setNow t).dmc.ready) = true := by
    rw [s.flag_setNow_high t (by decide), hsr, show (s.setNow t).dmc = s.dmc from rfl, hidle, htr, hready]
    decide
  have hmode : (s.setNow t).nextMode (s.sub sc) = true := by
    simp only [State.nextMode, hrq, hwq, List.isEmpty_nil, List.isEmpty_cons, Bool.not_true, Bool.not_false, Bool.and_true, Bool.and_false,
      Bool.or_true, Bool.or_false, Bool.false_eq_true, if_false]
    cases (s.sub sc).wmode <;> rfl
  change ∃ k, execDmcCommandSelect sc t true ce ue s = _
  rw [execDmcCommandSelect, if_neg (by omega)]
  extract_lets s' k cap mode s1 k1 dir hits nrOf pick
  rw [if_neg hgo]
  have hk : k = s.sub sc := rfl
  have hall : k.rq ++ k.wq = [q] := by rw [hk, hrq, hwq]; rfl
  have hself : ∀ m, (s'.setSub sc { k with wmode := m }).sub sc = { k with wmode := m } := fun m => State.sub_setSub_self _ _ hlt
  rw [hall]
  by_cases haged : timeGe t (q.at_ + cap) = true
  · have hold : oldest ([q].filter (fun q => timeGe t (q.at_ + cap))) = some q := by simp [haged, oldest]
    rw [hold]
    dsimp only
    rw [hself, State.nextStep_mode t k q.write hrow]
    exact ⟨_, rfl⟩
  · have hold : oldest ([q].filter (fun q => timeGe t (q.at_ + cap))) = none := by simp [haged, oldest]
    rw [hold]
    have hk1 : k1 = { k with wmode := mode } := hself mode
    have hdir : dir = [q] := by
      have hm : mode = true := hmode
      change (if mode = true then k1.wq else k1.rq) = [q]
      rw [hm, if_pos rfl, hk1]
      exact hwq
    have hstep : s1.nextStep k1 q = 3 := by rw [hk1]; exact State.nextStep_mode t k mode hrow _
    have hhits : hits = [q] := by
      change dir.filter (fun q => s1.nextStep k1 q == 3) = [q]
      rw [hdir]
      simp [hstep]
    have hpick : pick = some q := by
      change (if true = true then (match oldest hits with | some h => some h | none => oldest dir) else oldest dir) = some q
      rw [hhits]
      rfl
    have hnone : nrOf q = none := by
      have hnr1 : k1.nr = [] := by rw [hk1]; exact hnr
      change k1.nr.find? _ = none
      rw [hnr1]
      rfl
    rw [hpick]
    dsimp only
    rw [hnone]
    dsimp only
    rw [hstep]
    exact ⟨_, rfl⟩

end

end Sys2Proof.Machine
end

section
/-! Page policy, power-down and refresh of the DRAM (R296, R298 to R301, R304), and the proof of Obligations.DramSchedulingAndRefresh. -/

namespace Sys2Proof.Machine

open Reg

/-! ### Rows and ranks -/

theorem SubSt.bank_setBank_self (k : SubSt) (b : Nat) (v : BankSt) : (k.setBank b v).bank b = v := Assoc.get_put_self _ _ _ _

theorem SubSt.bank_setBank_ne (k : SubSt) {b c : Nat} (v : BankSt) (h : c ≠ b) : (k.setBank b v).bank c = k.bank c := Assoc.get_put_ne h _ _ _

section
variable {s : State} {sc t : Nat} (hsc : sc < 4)
include hsc

theorem exec_pageTimeout_closes {b row : Nat} (hb : b < 64) (hrow : ((s.sub sc).bank b).row = some row)
    (hdue : timeGe t (((s.sub sc).bank b).lastUse + 320 * s.get DMC_SCHED_PAGE_TMO) = true) :
    exec (.pageTimeout sc b t) s =
      .next (((s.setNow t).setSub sc ((s.sub sc).setBank b { (s.sub sc).bank b with row := none })).dev sc 1 b 0) := by
  change execPageTimeout sc b t s = _
  rw [execPageTimeout, if_neg (by omega)]
  extract_lets s' k bk
  have hbk : bk.row = some row := hrow
  rw [hbk]
  dsimp only
  exact if_pos (by rw [s.get_setNow_high t (by decide)]; exact hdue)

theorem exec_pageTimeout_stays {b : Nat} (hb : b < 64) (hno : ((s.sub sc).bank b).row = none ∨
    timeGe t (((s.sub sc).bank b).lastUse + 320 * s.get DMC_SCHED_PAGE_TMO) = false) : exec (.pageTimeout sc b t) s = .next (s.setNow t) := by
  change execPageTimeout sc b t s = _
  rw [execPageTimeout, if_neg (by omega)]
  extract_lets s' k bk
  split
  · rfl
  · next row hrow =>
    refine if_neg ?_
    rw [s.get_setNow_high t (by decide)]
    rcases hno with h | h
    · rw [show bk.row = none from h] at hrow; cases hrow
    · exact Bool.eq_false_iff.mp h

/-- Whether a rank enters power-down (R304). -/
def State.rankIdle (s : State) (sc k t : Nat) : Bool :=
  s.flag DMC_PD_EN && s.dmc.ready && !((s.sub sc).rq ++ (s.sub sc).wq).any (fun q => s.rankOf (s.devLine q.line) == k) && !bitB (s.sub sc).pd k &&
    timeGe t ((s.sub sc).rankUse.getD k 0 + 320 * s.get DMC_PD_IDLE)

/-- The subchannel whose rank `k` is in power-down: its rows are closed. -/
def SubSt.powerDown (x : SubSt) (k : Nat) : SubSt :=
  { x with banks := x.banks.map (fun e => if e.1 / 32 = k then (e.1, { e.2 with row := none }) else e), pd := setBit x.pd k }

theorem exec_rankPowerDown {k : Nat} (hk : k < 2) : exec (.rankPowerDown sc k t) s =
    .next (if s.rankIdle sc k t then ((s.setNow t).setSub sc ((s.sub sc).powerDown k)).dev sc 6 k 0 else s.setNow t) := by
  change execRankPowerDown sc k t s = _
  rw [execRankPowerDown, if_neg (by omega)]
  extract_lets s' x queued closed
  have hidle : (s'.flag DMC_PD_EN && s'.dmc.ready && !queued && !bitB x.pd k && timeGe t (x.rankUse.getD k 0 + 320 * s'.get DMC_PD_IDLE)) =
      s.rankIdle sc k t := by
    have hq : queued = ((s.sub sc).rq ++ (s.sub sc).wq).any (fun q => s.rankOf (s.devLine q.line) == k) := by
      simp only [queued, s', State.devLine_setNow, State.rankOf_setNow]
      rfl
    rw [hq, s.flag_setNow_high t (by decide), s.get_setNow_high t (by decide)]
    rfl
  rw [hidle]
  split <;> rfl

end

/-! ### Refresh (R298 to R301) -/

theorem State.debt_set_ne (s : State) {f : Fld} (v : Nat) (h : DMC_REF_STAT_DEBT.key 0 0 ≠ f.key 0 0) : (s.set f v).debt = s.debt := by
  rw [State.debt, State.debt, State.get_set_ne _ _ _ _ h]

/-- DEBT stores every value from −4 to +4. -/
theorem State.debt_setDebt (s : State) (v : Int) : (s.setDebt v).debt = max (-4) (min 4 v) := by
  have hget : (s.setDebt v).get DMC_REF_STAT_DEBT = encodeInt 4 (max (-4) (min 4 v)) % 2 ^ 4 := State.get_set_self _ _ _
  rw [State.debt, hget]
  have hrange : -4 ≤ max (-4) (min 4 v) ∧ max (-4) (min 4 v) ≤ 4 := by omega
  generalize max (-4) (min 4 v) = d at hrange
  obtain h | h | h | h | h | h | h | h | h : d = -4 ∨ d = -3 ∨ d = -2 ∨ d = -1 ∨ d = 0 ∨ d = 1 ∨ d = 2 ∨ d = 3 ∨ d = 4 := by omega
  all_goals subst h; decide

theorem State.debt_setNow (s : State) (t : Nat) : (s.setNow t).debt = s.debt := by
  rw [State.debt, State.debt, s.get_setNow_high t (by decide)]

theorem State.refTick_setNow (s : State) (t : Nat) : (s.setNow t).refTick = s.refTick := by
  rw [State.refTick, State.refTick, s.flag_setNow_high t (by decide), s.flag_setNow_high t (by decide)]

theorem State.refTick_setDebt (s : State) (v : Int) : (s.setDebt v).refTick = s.refTick := by
  have h : ∀ f : Fld, f.key 0 0 ≠ DMC_REF_STAT_DEBT.key 0 0 → (s.setDebt v).flag f = s.flag f :=
    fun f hf => congrArg (· == 1) (State.get_set_ne _ _ _ _ hf)
  rw [State.refTick, State.refTick, h _ (by decide), h _ (by decide)]

/-- What a refresh that starts leaves: it is active, a due ZQ calibration has been latched, every rank is awake and every row closed. -/
structure Refreshed (s u : State) : Prop where
  active : u.dmc.refActive = true
  zq : u.dmc.zqDue = false
  closed : ∀ k ∈ u.dmc.subs, k.pd = 0 ∧ ∀ e ∈ k.banks, e.2.row = none
  same : SameBut [.regs, .dmc, .out] s u
  debt : u.debt = s.debt

theorem Refreshed.set {s u : State} {f : Fld} {v : Nat} (h : Refreshed s u) (hf : DMC_REF_STAT_DEBT.key 0 0 ≠ f.key 0 0) : Refreshed s (u.set f v) :=
  ⟨h.active, h.zq, h.closed, h.same.set (by simp), (State.debt_set_ne u v hf).trans h.debt⟩

theorem Refreshed.emit {s u : State} {o : Out} (h : Refreshed s u) : Refreshed s (u.emit o) :=
  ⟨h.active, h.zq, h.closed, h.same.sent (by simp), h.debt⟩

theorem Refreshed.refab (s : State) : Refreshed s s.refab := by
  unfold State.refab
  extract_lets subs d s1 s2
  have h1 : Refreshed s s1 := by
    refine ⟨rfl, rfl, fun k hk => ?_, fun p hp => ?_, rfl⟩
    · obtain ⟨k0, -, rfl⟩ := List.mem_map.mp hk
      refine ⟨rfl, fun e he => ?_⟩
      obtain ⟨e0, -, rfl⟩ := List.mem_map.mp he
      rfl
    · cases p <;> simp at hp <;> rfl
  have h2 : Refreshed s s2 := by
    simp only [s2]
    split
    · exact h1.emit
    · exact h1
  exact (h2.set (by decide)).emit

theorem Refreshed.of_emit {s u : State} {o : Out} (h : Refreshed (s.emit o) u) : Refreshed s u :=
  ⟨h.active, h.zq, h.closed, ((SameBut.emit s o).mono (by simp)).trans h.same, h.debt⟩

theorem Refreshed.refStart (s : State) : Refreshed s s.refStart := (Refreshed.refab _).of_emit

theorem Refreshed.refHeld {s u : State} (h : Refreshed s u) : Refreshed s u.refHeld := h.set (by decide)

theorem Refreshed.refForce {s u : State} (h : Refreshed s u) : Refreshed s u.refForce := by
  unfold State.refForce
  split
  · exact h.refHeld
  · exact (h.refHeld.set (by decide)).set (by decide)

/-- What a refresh that waits leaves: registers alone, DEBT as it was. -/
structure Waits (s u : State) : Prop where
  same : SameBut [.regs] s u
  debt : u.debt = s.debt

theorem Waits.refl (s : State) : Waits s s := ⟨SameBut.refl _ s, rfl⟩

theorem Waits.set {s u : State} {f : Fld} {v : Nat} (h : Waits s u) (hf : DMC_REF_STAT_DEBT.key 0 0 ≠ f.key 0 0) : Waits s (u.set f v) :=
  ⟨h.same.set (by simp), (State.debt_set_ne u v hf).trans h.debt⟩

theorem Waits.refHeld {s u : State} (h : Waits s u) : Waits s u.refHeld := h.set (by decide)

section
variable {s : State} (hready : s.dmc.ready = true) (hsr : s.flag DMC_STAT_SR = false) (htr : s.dmc.training = 0)
include hready hsr htr

theorem refreshGo : ¬(!s.dmc.ready || s.flag DMC_STAT_SR || s.dmc.training != 0) = true := by
  rw [hready, hsr, htr]; decide

/-- While a refresh is active the demand only shows PENDING. -/
theorem State.refDemand_active (ha : s.dmc.refActive = true) : Waits s s.refDemand := by
  rw [State.refDemand, if_neg (refreshGo hready hsr htr), if_pos ha]
  exact (Waits.refl s).set (by decide)

/-- Under FIXED a refresh starts at once when one is owed, and else nothing but flags changes. -/
theorem State.refDemand_fixed (ha : s.dmc.refActive = false) (htick : s.refTick = false) :
    (1 ≤ s.debt → Refreshed s s.refDemand) ∧ (s.debt < 1 → Waits s s.refDemand) := by
  rw [State.refDemand, if_neg (refreshGo hready hsr htr), if_neg (by rw [ha]; decide), if_pos (by rw [htick]; rfl)]
  refine ⟨fun h => ?_, fun h => ?_⟩
  · rw [if_pos (show s.debtDue = true from decide_eq_true h)]
    exact (Refreshed.refStart s).refHeld
  · rw [if_neg (by simp [State.debtDue]; omega)]
    exact ((Waits.refl s).set (by decide)).refHeld

/-- Under TICK a refresh starts at once at the limit of four, and else it is requested. -/
theorem State.refDemand_tick (ha : s.dmc.refActive = false) (htick : s.refTick = true) :
    (s.debt = 4 → Refreshed s s.refDemand) ∧
      (s.debt ≠ 4 → Waits s s.refDemand ∧ s.refDemand.get DMC_REF_STAT_PENDING = b2n (decide (-4 < s.debt))) := by
  rw [State.refDemand, if_neg (refreshGo hready hsr htr), if_neg (by rw [ha]; decide), if_neg (by rw [htick]; decide)]
  refine ⟨fun h => ?_, fun h => ?_⟩
  · rw [if_pos (by simp [State.debtFull, h])]
    exact (Refreshed.refStart s).refForce
  · rw [if_neg (by simpa [State.debtFull] using h)]
    refine ⟨((Waits.refl s).set (by decide)).refHeld, ?_⟩
    refine (State.get_set_ne _ _ _ _ (by decide)).trans ((State.get_set_self _ _ _).trans ?_)
    simp only [State.debtOpen]
    cases decide (-4 < s.debt) <;> rfl

/-- The demand leaves DEBT as it is, and changes registers, the controller and the device alone. -/
theorem State.refDemand_frame : s.refDemand.debt = s.debt ∧ SameBut [.regs, .dmc, .out] s s.refDemand := by
  have waits {u : State} (h : Waits s u) : u.debt = s.debt ∧ SameBut [.regs, .dmc, .out] s u := ⟨h.debt, h.same.mono (by simp)⟩
  have starts {u : State} (h : Refreshed s u) : u.debt = s.debt ∧ SameBut [.regs, .dmc, .out] s u := ⟨h.debt, h.same⟩
  cases ha : s.dmc.refActive
  · cases htick : s.refTick
    · obtain ⟨h1, h2⟩ := State.refDemand_fixed hready hsr htr ha htick
      rcases Int.lt_or_le s.debt 1 with h | h
      exacts [waits (h2 h), starts (h1 h)]
    · obtain ⟨h1, h2⟩ := State.refDemand_tick hready hsr htr ha htick
      by_cases h : s.debt = 4
      exacts [starts (h1 h), waits (h2 h).1]
  · exact waits (State.refDemand_active hready hsr htr ha)

end

/-- The state whose demand a passed interval makes. -/
def State.refPassed (s : State) (t : Nat) : State :=
  ({ s.setNow t with dmc := { s.dmc with refAt := if timeGe t (s.dmc.refAt + s.refInterval + s.refInterval) then t else (s.dmc.refAt + s.refInterval) % 2 ^ 64 } }).setDebt
    (s.debt + 1)

theorem State.refInterval_setNow (s : State) (t : Nat) : (s.setNow t).refInterval = s.refInterval := by
  rw [State.refInterval, State.refInterval, s.get_setNow_high t (by decide), s.flag_setNow_high t (by decide)]

section
variable {s : State} (t : Nat) (hready : s.dmc.ready = true) (hsr : s.flag DMC_STAT_SR = false) (htr : s.dmc.training = 0)
include hready hsr htr

theorem exec_refreshInterval : exec (.refreshInterval t) s =
    .next (if timeGe t (s.dmc.refAt + s.refInterval) then (s.refPassed t).refDemand else s.setNow t) := by
  change execRefreshInterval t s = _
  rw [execRefreshInterval]
  have hcond : (!(s.setNow t).dmc.ready || (s.setNow t).flag DMC_STAT_SR || (s.setNow t).dmc.training != 0 ||
      !timeGe t ((s.setNow t).dmc.refAt + (s.setNow t).refInterval)) = !timeGe t (s.dmc.refAt + s.refInterval) := by
    rw [s.refInterval_setNow t, s.flag_setNow_high t (by decide), hsr, show (s.setNow t).dmc = s.dmc from rfl, hready, htr]
    rfl
  by_cases hge : timeGe t (s.dmc.refAt + s.refInterval) = true
  · refine (if_neg (by rw [hcond, hge]; decide)).trans ?_
    rw [if_pos hge, s.refInterval_setNow t, s.debt_setNow t]
    rfl
  · refine (if_pos (by rw [hcond]; simpa using hge)).trans ?_
    rw [if_neg hge]

theorem refPassed_spec : (s.refPassed t).dmc.ready = true ∧ (s.refPassed t).flag DMC_STAT_SR = false ∧ (s.refPassed t).dmc.training = 0 ∧
    (s.refPassed t).dmc.refActive = s.dmc.refActive ∧ (s.refPassed t).refTick = s.refTick ∧
    (s.refPassed t).debt = max (-4) (min 4 (s.debt + 1)) ∧ SameBut [.regs, .dmc, .out] s (s.refPassed t) := by
  refine ⟨hready, ?_, htr, rfl, ?_, State.debt_setDebt _ _, fun p hp => ?_⟩
  · exact (congrArg (· == 1) (State.get_set_ne _ _ _ _ (by decide))).trans ((s.flag_setNow_high t (by decide)).trans hsr)
  · exact (State.refTick_setDebt _ _).trans (s.refTick_setNow t)
  · cases p <;> simp at hp <;> rfl

omit hready hsr htr in
theorem exec_refreshStart (hready : s.dmc.ready = true) (hsr : s.flag DMC_STAT_SR = false) (htr : s.dmc.training = 0) (ha : s.dmc.refActive = false) :
    exec (.refreshStart t) s = .next (if !s.refTick then (if s.debtDue then (s.setNow t).refStart else s.setNow t)
      else if s.debtFull then (s.setNow t).refStart.refForce
      else if s.debtOpen && (s.setNow t).refAdmit then (s.setNow t).refStart.refHeld else s.setNow t) := by
  change execRefreshStart t s = _
  rw [execRefreshStart]
  have hgo : ¬(!(s.setNow t).dmc.ready || (s.setNow t).dmc.refActive || (s.setNow t).flag DMC_STAT_SR || (s.setNow t).dmc.training != 0) = true := by
    rw [s.flag_setNow_high t (by decide), hsr, show (s.setNow t).dmc = s.dmc from rfl, hready, htr, ha]
    decide
  have hdebt : (s.setNow t).debtDue = s.debtDue ∧ (s.setNow t).debtFull = s.debtFull ∧ (s.setNow t).debtOpen = s.debtOpen := by
    simp only [State.debtDue, State.debtFull, State.debtOpen, s.debt_setNow t, and_self]
  obtain ⟨hdue, hfull, hopen⟩ := hdebt
  refine (if_neg hgo).trans ?_
  rw [s.refTick_setNow t, hdue, hfull, hopen]
  split_ifs <;> rfl

end

/-- The state of a refresh that has ended, before the next is decided on. -/
def State.refEnded (s : State) (t : Nat) : State :=
  ({ s.setNow t with dmc := { s.dmc with refActive := false } }).setDebt (s.debt - 1)

theorem refEnded_spec (s : State) (t : Nat) : (s.refEnded t).debt = max (-4) (min 4 (s.debt - 1)) ∧ (s.refEnded t).refTick = s.refTick ∧
    (s.refEnded t).dmc.refActive = false ∧ SameBut [.regs, .dmc, .out] s (s.refEnded t) := by
  refine ⟨State.debt_setDebt _ _, (State.refTick_setDebt _ _).trans (s.refTick_setNow t), rfl, fun p hp => ?_⟩
  cases p <;> simp at hp <;> rfl

/-- After a refresh the next one starts at once or none is active; under FIXED the debt left decides. -/
theorem exec_refreshEnd {s : State} (t : Nat) (ha : s.dmc.refActive = true) : ∃ u, exec (.refreshEnd t) s = .next u ∧
    ((Waits (s.refEnded t) u ∧ ((s.refEnded t).refTick = true ∨ (s.refEnded t).debt < 1)) ∨
      (Refreshed (s.refEnded t) u ∧ ((s.refEnded t).refTick = true ∨ 1 ≤ (s.refEnded t).debt))) := by
  have hgo : exec (.refreshEnd t) s =
      if (!(s.refEnded t).refTick) = true then
        (if (s.refEnded t).debtDue then .next (s.refEnded t).refab else .next ((s.refEnded t).set DMC_REF_STAT_PENDING 0))
      else if ((s.setNow t).debtFull && (s.setNow t).flag DMC_REF_STAT_PENDING) = true then .next (s.refEnded t).refab.refForce
      else .next (((s.refEnded t).set DMC_REF_STAT_PENDING (b2n (s.refEnded t).debtOpen)).refHeld) := by
    rw [State.refEnded, ← s.debt_setNow t]
    exact if_neg (by rw [show (s.setNow t).dmc = s.dmc from rfl, ha]; decide)
  rw [hgo]
  cases htick : (s.refEnded t).refTick
  · by_cases hd : 1 ≤ (s.refEnded t).debt
    · rw [if_pos (by decide), if_pos (show (s.refEnded t).debtDue = true from decide_eq_true hd)]
      exact ⟨_, rfl, .inr ⟨Refreshed.refab _, .inr hd⟩⟩
    · rw [if_pos (by decide), if_neg (by simpa [State.debtDue] using hd)]
      exact ⟨_, rfl, .inl ⟨(Waits.refl _).set (by decide), .inr (by omega)⟩⟩
  · rw [if_neg (by decide)]
    split
    · exact ⟨_, rfl, .inr ⟨(Refreshed.refab _).refForce, .inl rfl⟩⟩
    · exact ⟨_, rfl, .inl ⟨((Waits.refl _).set (by decide)).refHeld, .inl rfl⟩⟩

end Sys2Proof.Machine

open Sys2Proof.Machine Sys2Proof.Machine.Reg

/-- Settles O16: a selected command writes one queued line at most, a page, a rank or a refresh changes the subchannels and the flags. -/
theorem dramSchedulingAndRefresh : Obligations.DramSchedulingAndRefresh := by
  unfold Obligations.DramSchedulingAndRefresh
  refine ⟨⟨?contents, ?write, ?held⟩, ⟨?page, ?noPage, ?down, ?noDown⟩, ?interval, ?start, ?refEnd, ?mr4, ?zq⟩
  case contents =>
    intro s sc t ce col ue hsc
    obtain ⟨u, hu, hsel⟩ := dmcCommandSelect_selected s t ce col ue hsc
    refine ⟨u, hu, ?_⟩
    rcases hsel with ⟨hsame, hdram⟩ | ⟨q, hq, k, rfl⟩
    · exact ⟨fun x _ => by rw [hdram], hsame⟩
    · obtain ⟨hcol, hdram⟩ := ((s.setNow t).setSub sc k).issueColumn_frame sc q t ce ue
      have hpump := Serves.dmcPump (((s.setNow t).setSub sc k).issueColumn sc q t ce ue)
      have hrel := SameBut.readRelease (((s.setNow t).setSub sc k).issueColumn sc q t ce ue).dmcPump
      refine ⟨fun x hx => ?_, ?_⟩
      · have hline : ((s.setNow t).setSub sc k).devLine q.line = s.devLine q.line := s.devLine_setNow t q.line
        rw [hrel .dram (by decide), hpump.same .dram (by decide), hdram, hline]
        split
        · exact State.get_setDevData_out _ _ _ (hx q hq)
        · rfl
      · exact (((((SameBut.setNow s t).mono (by simp)).step (SameBut.setSub _ sc k) (by simp)).trans (hcol.mono (by simp [columnParts]))).step hpump.same (by simp)).step hrel (by simp)
  case write =>
    intro s sc t ce ue q hsc hidle hsr htr hready hrq hwq hnr hw hrow hfault
    obtain ⟨k, hk⟩ := dmcCommandSelect_soleWrite t ce ue hsc hidle hsr htr hready hrq hwq hnr hrow
    refine ⟨_, hk, ?_⟩
    have hdram := (((s.setNow t).setSub sc k).issueColumn_frame sc q t ce ue).2
    have hfault' : bitB (((s.setNow t).setSub sc k).get DMC_STAT_FAULT) sc = false := by
      rw [show ((s.setNow t).setSub sc k).get DMC_STAT_FAULT = s.get DMC_STAT_FAULT from s.get_setNow_high t (by decide), hfault]
    have hline : ((s.setNow t).setSub sc k).devLine q.line = s.devLine q.line := s.devLine_setNow t q.line
    have hdata : ((s.setNow t).setSub sc k).devData = s.devData := rfl
    replace hdram := hdram.trans (if_pos (by rw [hw, hfault']; rfl))
    rw [hline, hdata] at hdram
    have hmem : (((s.setNow t).setSub sc k).issueColumn sc q t ce ue).dmcPump.readRelease.dram = _ :=
      (SameBut.readRelease _ .dram (by decide)).trans (((Serves.dmcPump _).same .dram (by decide)).trans hdram)
    show State.devData _ _ = _
    rw [State.devData, hmem]
    exact (State.devData_setDevData _ _ _).trans (Nat.mod_eq_of_lt (mergeBytes_lt _ _ _))
  case held =>
    intro s sc t ce col ue hsc hheld
    change execDmcCommandSelect sc t col ce ue s = _
    rw [execDmcCommandSelect, if_neg (by omega)]
    refine if_pos ?_
    rw [s.flag_setNow_high t (by decide), show (s.setNow t).dmc = s.dmc from rfl]
    rcases hheld with h | h | h | h <;> simp [h]
  case page =>
    intro s sc b t row hsc hb hlen hrow hdue
    have hlt : sc < (s.setNow t).dmc.subs.length := by rw [show (s.setNow t).dmc = s.dmc from rfl]; omega
    have hsub : (((s.setNow t).setSub sc ((s.sub sc).setBank b { (s.sub sc).bank b with row := none })).dev sc 1 b 0).sub sc =
      (s.sub sc).setBank b { (s.sub sc).bank b with row := none } := State.sub_setSub_self _ _ hlt
    refine ⟨_, exec_pageTimeout_closes hsc hb hrow hdue, ?_, fun b' hb' => ?_, ?_, ?_, ?_⟩
    · rw [hsub, SubSt.bank_setBank_self]
    · rw [hsub, SubSt.bank_setBank_ne _ _ hb']
    · rw [hsub]; rfl
    · rw [hsub]; rfl
    · exact (((SameBut.setNow s t).mono (by simp)).step (SameBut.setSub _ _ _) (by simp)).sent (by simp)
  case noPage => exact fun s sc b t hsc hb hno => exec_pageTimeout_stays hsc hb hno
  case down =>
    intro s sc k t hsc hk hlen hen hready hq hpd hdue
    have hidle : s.rankIdle sc k t = true := by simp only [State.rankIdle, hen, hready, hq, hpd, hdue]; rfl
    have hexec := exec_rankPowerDown (s := s) (t := t) hsc hk
    rw [if_pos hidle] at hexec
    have hlt : sc < (s.setNow t).dmc.subs.length := by rw [show (s.setNow t).dmc = s.dmc from rfl]; omega
    have hsub : (((s.setNow t).setSub sc ((s.sub sc).powerDown k)).dev sc 6 k 0).sub sc = (s.sub sc).powerDown k := State.sub_setSub_self _ _ hlt
    refine ⟨_, hexec, ?_, fun e he hek => ?_, ?_⟩
    · rw [hsub]
      exact (bitB_setBit _ _ _).trans (by simp)
    · rw [hsub] at he
      obtain ⟨e0, -, rfl⟩ := List.mem_map.mp he
      by_cases hrank : e0.1 / 32 = k
      · simp [hrank]
      · simp [hrank] at hek
    · exact (((SameBut.setNow s t).mono (by simp)).step (SameBut.setSub _ _ _) (by simp)).sent (by simp)
  case noDown =>
    intro s sc k t hsc hk hno
    rw [exec_rankPowerDown hsc hk, if_neg ?_]
    simp only [State.rankIdle]
    rcases hno with h | h | h | h | h <;> simp only [h, Bool.false_and, Bool.and_false, Bool.not_true] <;> decide
  case interval =>
    intro s t hready hsr htr
    obtain ⟨hr, hs, ht, ha, htick, hdebt, hsame⟩ := refPassed_spec t hready hsr htr
    have hgo := exec_refreshInterval t hready hsr htr
    refine ⟨fun hge => ?_, fun hno => by rw [hgo, if_neg (by rw [hno]; decide)]⟩
    rw [if_pos hge] at hgo
    refine ⟨_, hgo, ?_⟩
    rw [← ha, ← htick, ← hdebt]
    refine ⟨?debt, fun hf hn hd => ?fixed, fun hf hn hd => ?full, fun hf hn hd => ?waits, ?same⟩
    case fixed => exact ((State.refDemand_fixed hr hs ht hn hf).1 hd).active
    case full => exact ((State.refDemand_tick hr hs ht hn hf).1 (by omega)).active
    case waits =>
      obtain ⟨hw, hp⟩ := (State.refDemand_tick hr hs ht hn hf).2 (by omega)
      refine ⟨(congrArg DmcSt.refActive (hw.same .dmc (by simp))).trans hn, ?_⟩
      rw [hp, hdebt, show min 4 (s.debt + 1) = s.debt + 1 by omega]
    case debt => exact (State.refDemand_frame hr hs ht).1
    case same => exact hsame.trans (State.refDemand_frame hr hs ht).2
  case start =>
    intro s t hready hsr htr ha hwhy
    have hgo := exec_refreshStart t hready hsr htr ha
    have hnow : SameBut [.regs, .dmc, .out] s (s.setNow t) := (SameBut.setNow s t).mono (by simp)
    suffices h : ∃ u, exec (.refreshStart t) s = .next u ∧ Refreshed (s.setNow t) u by
      obtain ⟨u, hu, h⟩ := h
      exact ⟨u, hu, h.active, h.zq, h.debt.trans (s.debt_setNow t), h.closed, hnow.trans h.same⟩
    rcases hwhy with ⟨htick, hd⟩ | ⟨htick, hd⟩ | ⟨htick, hd, hadm⟩
    · rw [if_pos (by rw [htick]; rfl), if_pos (show s.debtDue = true from decide_eq_true hd)] at hgo
      exact ⟨_, hgo, Refreshed.refStart _⟩
    · rw [if_neg (by rw [htick]; decide), if_pos (show s.debtFull = true by simp [State.debtFull, hd])] at hgo
      exact ⟨_, hgo, (Refreshed.refStart _).refForce⟩
    · rw [if_neg (by rw [htick]; decide)] at hgo
      by_cases hfull : s.debtFull = true
      · rw [if_pos hfull] at hgo
        exact ⟨_, hgo, (Refreshed.refStart _).refForce⟩
      · rw [if_neg hfull, if_pos (by rw [hadm, show s.debtOpen = true from decide_eq_true hd]; rfl)] at hgo
        exact ⟨_, hgo, (Refreshed.refStart _).refHeld⟩
  case refEnd =>
    intro s t ha
    obtain ⟨u, hu, hnext⟩ := exec_refreshEnd t ha
    obtain ⟨hdebt, htick, hact, hsame⟩ := refEnded_spec s t
    refine ⟨u, hu, ?_⟩
    rw [← htick]
    rcases hnext with ⟨hw, hor⟩ | ⟨hr, hor⟩
    · refine ⟨hw.debt.trans hdebt, fun _ _ => (congrArg DmcSt.refActive (hw.same .dmc (by simp))).trans hact, fun hf hd => ?_,
        hsame.trans (hw.same.mono (by simp))⟩
      rcases hor with h | h
      · rw [hf] at h; simp at h
      · omega
    · refine ⟨hr.debt.trans hdebt, fun hf hd => ?_, fun _ _ => hr.active, hsame.trans hr.same⟩
      rcases hor with h | h
      · rw [hf] at h; simp at h
      · omega
  case mr4 =>
    intro s d hready
    have hgo : exec (.mr4Poll d) s = if (d && !s.flag DMC_STAT_REF2X) = true then .next ((s.set DMC_STAT_REF2X 1).ledger 0x0602 0)
        else .next (s.set DMC_STAT_REF2X (b2n d)) := if_neg (by rw [hready]; decide)
    by_cases hd : (d && !s.flag DMC_STAT_REF2X) = true
    · rw [if_pos hd] at hgo
      obtain ⟨rfl, hflag⟩ : d = true ∧ s.flag DMC_STAT_REF2X = false := by simpa using hd
      refine ⟨_, hgo, ?_, ((SameBut.refl _ s).set (by simp)).led (by simp), fun h => ?_, fun _ _ => rfl⟩
      · exact ((RegsBut.ledger _ _ _).get_single (by decide)).trans (State.get_set_self _ _ _)
      · simp [hflag] at h
    · rw [if_neg hd] at hgo
      refine ⟨_, hgo, ?_, (SameBut.refl _ s).set (by simp), fun _ => rfl, fun h1 h2 => ?_⟩
      · refine (State.get_set_self _ _ _).trans ?_
        cases d <;> rfl
      · simp [h1, h2] at hd
  case zq =>
    intro s hready
    refine ⟨_, if_neg (by rw [hready]; decide), rfl, rfl, fun p hp => ?_⟩
    cases p <;> simp at hp <;> rfl
end

section
/-! Commands of a ring by register and by RING_CMD (R253 to R255, R411): the refutation of Obligations.RingCommands. -/

namespace Sys2Proof.Machine

open Reg

/-! ### A counterexample to Obligations.RingCommands -/

/-- Firmware runs, and the command `c` is posted in mailbox 0. -/
def State.posting (s : State) (c : KmiCmd) : State :=
  let s1 := ((s.setMbx 0 ⟨some c, none, 0⟩).seti KMI_MBX_STATE 0 2).set KMI_CTRL_FW_READY 1
  { s1 with kmi := { s1.kmi with postQ := [0] } }

/-- A command without data in or a host buffer. -/
def plainCmd (op a0 a1 a2 a3 : Nat) : KmiCmd := ⟨op, 0, 0, 0, 0, 3840, 0, 0, a0, a1, a2, a3, []⟩

/-- RING_CMD with DISABLE for ring 0. -/
def disableCmd : KmiCmd := plainCmd 0x0506 0x40000 0 0 0

/-- The STATE of ring 0 holds 5, which two bits cannot. -/
def wideRing : State :=
  let s := State.reset.posting disableCmd
  { s with regs := Assoc.put (DRG_CTX_CTRL_STATE.key 0 0) 5 s.regs }

end Sys2Proof.Machine

open Sys2Proof.Machine Sys2Proof.Machine.Reg

/-- Refutes O21: a STATE is any number, and DISABLE of a ring whose STATE is 5 leaves it as it is, though 5 is 2 or more. -/
theorem not_ringCommands : ¬ Obligations.RingCommands := by
  unfold Obligations.RingCommands
  intro h
  obtain ⟨-, -, -, -, -, -, hdisable⟩ := h.2 wideRing 0 disableCmd (by decide +kernel)
  obtain ⟨-, hstate⟩ := (hdisable (by decide) (by decide +kernel)).nextOf
  exact absurd hstate (by decide +kernel)
end

section
/-! Room windows (R233, R234): the refutation of Obligations.RoomWindows. -/

namespace Sys2Proof.Machine

open Reg

/-! ### A counterexample to Obligations.RoomWindows -/

/-- Room 3 is active, with port 0 as its window port and the link up, and HLK_WIN_CNT_UNAVAIL has been written with its reset value. -/
def windowRoom : State :=
  let s := State.reset.seti CFG_ROOM_STAT_ACT_BANK 3 3
  { s with
    regs := Assoc.put (HLK_WIN_CNT_UNAVAIL.key 0 0) 0 s.regs
    boot := { s.boot with opened := true }
    hlk := { s.hlk with perstLow := false }
    cfg := { s.cfg with bankFr := (bankKey 3 0 0, 16 + 32 * 16 + 2 ^ 53) :: (List.range 8).map (fun k => (bankKey 3 0 (1 + k), allGroupsUsed)) } }

end Sys2Proof.Machine

open Sys2Proof.Machine Sys2Proof.Machine.Reg

/-- Refutes O25: an access of an available window adds 0 to HLK_WIN_CNT_UNAVAIL, and where that field stands in the register store with its reset
value, the write takes it out of the store. -/
theorem not_roomWindows : ¬ Obligations.RoomWindows := by
  unfold Obligations.RoomWindows
  intro h
  obtain ⟨-, hwaits, -⟩ := h.2.1 windowRoom (3 * 2 ^ 25) 4 7 3 0 [1, 2, 3, 4] (by decide +kernel) (by decide +kernel) (by decide +kernel)
    (by decide +kernel) (by decide) (by decide) (by decide) (by decide +kernel) (by decide) (by decide +kernel)
  obtain ⟨-, -, hsame⟩ := (hwaits 0 (by decide +kernel) (by decide +kernel)).nextOf
  have hregs : (nextOf (.windowRequest (3 * 2 ^ 25) 4 false [1, 2, 3, 4] 7) windowRoom).regs = windowRoom.regs := hsame .regs (by decide)
  exact absurd hregs (by decide +kernel)
end

section
/-! PIN_ASSIGN (R459 to R463): the refutation of Obligations.PinAssignment. -/

namespace Sys2Proof.Machine

open Reg

/-! ### A counterexample to Obligations.PinAssignment -/

/-- The command `c` is posted in mailbox 0 with its interrupt asked for, and the host has enabled and masked its vector. -/
def State.postingMasked (s : State) (c : KmiCmd) : State :=
  let s1 := s.posting { c with flags := 1 }
  { s1 with hlk := { s1.hlk with msixEn := 1, msixMask := [(0, true)] } }

/-- PIN_ASSIGN takes the function from pin 0. -/
def freePinCmd : KmiCmd := plainCmd 0x0C05 0 0 0 0

end Sys2Proof.Machine

open Sys2Proof.Machine Sys2Proof.Machine.Reg

/-- Refutes O29: the completion's interrupt, where its vector is masked, sets a bit of the pending array. -/
theorem not_pinAssignment : ¬ Obligations.PinAssignment := by
  unfold Obligations.PinAssignment
  intro h
  obtain ⟨hpin, -⟩ := h (State.reset.postingMasked freePinCmd) 0 0 0 { freePinCmd with flags := 1 } (by decide +kernel) (by decide) (by decide)
  obtain ⟨htakes, -⟩ := hpin (by decide) (by decide +kernel)
  obtain ⟨-, -, -, -, hsame⟩ := ((htakes (by decide +kernel) (.inl rfl)).1 (.inl (by decide))).nextOf
  have hpba : (nextOf (.pinAssign 0) (State.reset.postingMasked freePinCmd)).hlk.pba = (State.reset.postingMasked freePinCmd).hlk.pba :=
    hsame .pba (by decide)
  exact absurd hpba (by decide +kernel)
end

section
/-! Load sessions, staging, Room power and CONFIG_STATUS (R331 to R338, R413): the refutations of Obligations.LoadSessionsAndStaging and
Obligations.RoomsAndPower. -/

namespace Sys2Proof.Machine

open Reg

/-- LOAD_OPEN for no Room, with its interrupt asked for. -/
def openCmd : KmiCmd := { plainCmd 0x0701 0 0 0 0 with flags := 1 }

/-- LOAD_OPEN waits in mailbox 0 of a part in OPEN_DEV, and the mailbox's vector is masked. -/
def openingMasked : State := (State.reset.set TGT_LC_STATE 1).postingMasked openCmd

/-- CONFIG_STATUS of the device, with its interrupt asked for. -/
def statusCmd : KmiCmd := { plainCmd 0x0709 31 0 0 0 with flags := 1 }

end Sys2Proof.Machine

open Sys2Proof.Machine Sys2Proof.Machine.Reg

/-- Refutes O33: the interrupt of an opened session's completion, where its vector is masked, sets a bit of the pending array. -/
theorem not_loadSessionsAndStaging : ¬ Obligations.LoadSessionsAndStaging := by
  unfold Obligations.LoadSessionsAndStaging
  intro h
  obtain ⟨hopen, -⟩ := h.1.1 openingMasked 0 openCmd (by decide +kernel)
  obtain ⟨-, -, -, -, -, -, hsame⟩ := (hopen rfl).nextOf
  have hpba : (nextOf (.loadOpen 0) openingMasked).hlk.pba = openingMasked.hlk.pba := hsame .pba (by decide)
  exact absurd hpba (by decide +kernel)

/-- Refutes O35: the interrupt of CONFIG_STATUS, where its vector is masked, sets a bit of the pending array. -/
theorem not_roomsAndPower : ¬ Obligations.RoomsAndPower := by
  unfold Obligations.RoomsAndPower
  intro h
  obtain ⟨-, -, -, -, -, hstatus⟩ := h
  obtain ⟨-, hsame, -⟩ := ((hstatus (State.reset.postingMasked statusCmd) 0 statusCmd (by decide +kernel)).1 (by decide)).nextOf
  have hpba : (nextOf (.configStatus 0) (State.reset.postingMasked statusCmd)).hlk.pba = (State.reset.postingMasked statusCmd).hlk.pba :=
    hsame .pba (by decide)
  exact absurd hpba (by decide +kernel)
end

section
/-! Scrubbing (R358 to R369): the refutation of Obligations.ScrubbingAndMargin. -/

namespace Sys2Proof.Machine

open Reg

/-! ### A counterexample to Obligations.ScrubbingAndMargin -/

/-- Room 0 is active and scrubbed, and its CREDIT holds 513, which nine bits cannot. -/
def wideCredit : State :=
  let s := (State.reset.seti CFG_ROOM_STAT_ACT_BANK 0 3).set WCH_CTRL_EN 1
  { s with regs := Assoc.put (WCH_ROOM_STAT_CREDIT.key 0 0) 513 s.regs }

/-- A clean frame. -/
def cleanFrame : FrameFind := ⟨false, false, 0, 0, false⟩

end Sys2Proof.Machine

open Sys2Proof.Machine Sys2Proof.Machine.Reg

/-- Refutes O36: a CREDIT is any number, and 513 less one is kept to nine bits. -/
theorem not_scrubbingAndMargin : ¬ Obligations.ScrubbingAndMargin := by
  unfold Obligations.ScrubbingAndMargin
  intro h
  obtain ⟨hclean, -⟩ := h.1.1 wideCredit (wideCredit.setNow 0) 0 0 0 0 512 0 0 cleanFrame rfl (by decide) (by decide +kernel) (by decide +kernel)
    (by decide +kernel) (by decide +kernel) (by decide +kernel) (by decide +kernel) (by decide +kernel) (by decide +kernel) (by decide +kernel)
    (by decide +kernel) (by decide +kernel) (by decide +kernel)
  obtain ⟨hcredit, -⟩ := (hclean rfl rfl).nextOf
  exact absurd hcredit (by decide +kernel)
end

section
/-! Built-in self-test (R566): the refutation of Obligations.SelfTestAndEntry. -/

namespace Sys2Proof.Machine

open Reg

/-! ### A counterexample to Obligations.SelfTestAndEntry -/

/-- The number for which KMI_MBX_STATE would lie in BST_STAT, where STATE lies. -/
def bistMbx : Nat := 65539

/-- BST_STAT.STATE and the state of mailbox 65,539 are one entry of the register store. -/
theorem geti_bistMbx (s : State) : s.geti KMI_MBX_STATE bistMbx = s.get BST_STAT_STATE := by
  have hkey : KMI_MBX_STATE.key bistMbx 0 = BST_STAT_STATE.key 0 0 := by decide
  simp only [State.geti, State.get, State.get2, hkey]
  rfl

/-- BIST_RUN executes for mailbox 65,539. -/
def bistRunning : RunCmd := ⟨bistMbx, plainCmd 0x0828 0 0 0 0, false, false, 0⟩

/-- PD25 is on and BIST_RUN executes for mailbox 65,539. -/
def bistCollision : State :=
  { State.reset with kmi := { State.reset.kmi with running := [bistRunning], mbx := List.replicate (bistMbx + 1) ⟨none, none, 0⟩ } }

end Sys2Proof.Machine

open Sys2Proof.Machine Sys2Proof.Machine.Reg

/-- Refutes O43: a refused GO sets STATE to 0 and completes BIST_RUN of a mailbox whose state register would be BST_STAT. -/
theorem not_selfTestAndEntry : ¬ Obligations.SelfTestAndEntry := by
  unfold Obligations.SelfTestAndEntry
  intro h
  obtain ⟨-, hgo, -⟩ := h
  obtain ⟨-, hrefused⟩ := hgo bistCollision (by decide +kernel) (by decide +kernel) rfl
  obtain ⟨⟨hdone, -⟩, hidle, -⟩ := (hrefused bistRunning false true rfl rfl rfl
    (show bistMbx < (List.replicate (bistMbx + 1) (⟨none, none, 0⟩ : Mbx)).length by simp) (.inl rfl)).nextOf
  exact absurd ((geti_bistMbx _).symm.trans hdone) (by rw [show (nextOf _ _).get BST_STAT_STATE = 0 from hidle]; decide)
end

section
/-! Wakes (R487), calibration (R98) and the timer's events (R606): the refutations of Obligations.Wakes, Obligations.SyncChainLink and
Obligations.TickSources. -/

namespace Sys2Proof.Machine

open Reg

/-! ### Counterexamples -/

/-- The part is in SLEEP, and the FAILED of its Luggage holds 256, which eight bits cannot. -/
def wideFailed : State :=
  let s := (State.reset.set PWR_STATE_CUR 2).set PWR_WAKE_SRC 1
  { s with regs := Assoc.put (PWR_LUG_STAT_FAILED.key 0 0) 256 s.regs }

/-- The unit is the chain's master, and the delay of its hop holds 2^32, which 24 bits cannot. -/
def wideDelay : State :=
  let s := (State.reset.set SYC_CTRL_EN 1).set SYC_CTRL_ROLE 1
  { s with regs := Assoc.put (SYC_HOPDLY_D.key 0 0) (2 ^ 32) s.regs }

/-- The CAL message that it sends at time 0. -/
def wideCal : List Nat := downMsg 2 0 0 0 0 (leBytes 4 (2 ^ 32))

/-- The engine runs under TIMER since time 0, and a switch to ENCODER is pending. -/
def timerSwitching : State :=
  let s := ((State.reset.set TCK_CTRL_EN 1).set TCK_SRC_ACTIVE 2).set TCK_SRC_SWITCH 1
  { s with tick := { s.tick with timerAnchor := some 0 } }

end Sys2Proof.Machine

open Sys2Proof.Machine Sys2Proof.Machine.Reg

/-- Refutes O45: a wake keeps FAILED to eight bits, and the FAILED it found is any number. -/
theorem not_wakes : ¬ Obligations.Wakes := by
  unfold Obligations.Wakes
  intro h
  obtain ⟨-, hsleep, -⟩ := (h.1 wideFailed 0 0 0 rfl).1 rfl rfl (by decide +kernel)
  obtain ⟨-, -, -, hfailed⟩ := (hsleep (.inl (by decide +kernel))).nextOf
  exact absurd hfailed (by decide +kernel)

/-- Refutes O49: a CAL message has 32 bits for the delay of its hop, and HOPDLY is any number. -/
theorem not_syncChainLink : ¬ Obligations.SyncChainLink := by
  unfold Obligations.SyncChainLink
  intro h
  obtain ⟨-, -, -, hsend, -⟩ := h.2
  obtain ⟨-, ⟨r, hsent, -, -, -, -, hdelay, -⟩, -⟩ := ((hsend wideDelay false 0).1 (by decide +kernel)).nextOf
  have hout : (nextOf (.calSend false 0) wideDelay).out = [.sync false wideCal] := by decide +kernel
  have hmsg : r = wideCal := by simpa [hout] using hsent
  exact absurd (hmsg ▸ hdelay rfl) (by decide +kernel)

/-- Refutes O46: the boundary that opens the timer's tick switches to ENCODER, and the next event is timed no more. -/
theorem not_tickSources : ¬ Obligations.TickSources := by
  unfold Obligations.TickSources
  intro h
  obtain ⟨-, -, -, htimer, -⟩ := h
  obtain ⟨-, hdue, -⟩ := htimer timerSwitching 10000000000 0 0 _ rfl rfl
  obtain ⟨-, hanchor⟩ := ((hdue (by decide +kernel) (by decide +kernel) (by decide +kernel)).2 (by decide +kernel)).nextOf
  exact absurd hanchor (by decide +kernel)
end

section
/-! Rollback (R348) and Room power (R495): the refutations of Obligations.Changeovers and Obligations.PowerControl. -/

namespace Sys2Proof.Machine

open Reg

/-! ### A counterexample to Obligations.Changeovers -/

/-- ROLLBACK of Room 0 at once. -/
def rollbackCmd : KmiCmd := plainCmd 0x0707 1 0 0 0

/-- ROLLBACK waits in mailbox 0; Room 0 has an active bank and the previous version staged, and its staged bank names plane 2, which one bit cannot. -/
def widePlane : State :=
  let s := ((((State.reset.set TGT_LC_STATE 1).posting rollbackCmd).seti CFG_ROOM_STAT_ACT_BANK 0 3).seti CFG_ROOM_STAT_STG_BANK 0 2).seti CFG_ROOM_STAT_PREV 0 1
  { s with cfg := { s.cfg with bankSrc := [(1, 2)], bankFr := [(bankKey 0 1 0, 17 + 32 * 17)] } }

/-! ### A counterexample to Obligations.PowerControl -/

/-- PWR_ROOMS switches Room 2 off. -/
def roomOffCmd : KmiCmd := plainCmd 0x0904 4 0 0 0

/-- The number for which KMI_MBX_STATE would be PWR_DOM_ON. -/
def domMbx : Nat := 524301

/-- STAGE of no Room executes for mailbox 524,301, and PWR_ROOMS waits in mailbox 0. -/
def powerCollision : State :=
  let s := (State.reset.set TGT_LC_STATE 1).posting roomOffCmd
  { s with kmi := { s.kmi with running := [⟨domMbx, plainCmd 0x0705 0 0 0 0, true, false, 0⟩] } }

end Sys2Proof.Machine

open Sys2Proof.Machine Sys2Proof.Machine.Reg

/-- Refutes O34: a staged bank may name any plane, and the active plane of a Room is one bit. -/
theorem not_changeovers : ¬ Obligations.Changeovers := by
  unfold Obligations.Changeovers
  intro h
  obtain ⟨-, -, -, hrollback, -⟩ := h
  obtain ⟨-, -, hplane⟩ := (hrollback widePlane 0 rollbackCmd (by decide +kernel) (by decide +kernel) (by decide) (by decide) (by decide) (by decide)
    (by decide +kernel) rfl (by decide +kernel) (by decide +kernel)).nextOf
  exact absurd (hplane 0 (by decide)).2 (by decide +kernel)

/-- Refutes O39: the end of a staging in a mailbox whose state register would be PWR_DOM_ON switches Room 2 on again. -/
theorem not_powerControl : ¬ Obligations.PowerControl := by
  unfold Obligations.PowerControl
  intro h
  obtain ⟨-, -, -, -, -, -, hrooms, -⟩ := h
  obtain ⟨hoff, -⟩ := (hrooms powerCollision 0 roomOffCmd (by decide +kernel) (by decide) (by decide) (by decide)).1 (by decide +kernel)
  obtain ⟨-, hroom⟩ := (hoff rfl).nextOf
  exact absurd (hroom 2 (by decide)).1 (by decide +kernel)
end

section
/-! A read across lines (R237), received sensor words (R194) and a substituted event in SLEEP (R522): the refutations of
Obligations.CoherentMemory, Obligations.SensorPackets and Obligations.TwinLink. -/

namespace Sys2Proof.Machine

open Reg

/-! ### A wake whose saved banks all fail -/

/-- Where no saved bank has its signature, the banks lost do not depend on those that fail their check. -/
theorem State.luggageBad_of_sig {s : State} (bad : Nat)
    (h : ∀ b < 8, bitB (s.get PWR_LUG_STAT_SAVED) b = true →
      s.pwr.sig.getD b 0 ≠ luggageSig (s.get PWR_LUG_STAT_SAVE_SEQ) b (s.get PWR_STATE_CUR)) :
    s.luggageBad bad = s.luggageBad 0 := by
  unfold State.luggageBad
  congr 1
  refine List.filter_congr fun b hb => ?_
  cases hsaved : bitB (s.get PWR_LUG_STAT_SAVED) b
  case false => rfl
  case true => simp only [bne_iff_ne.mpr (h b (List.mem_range.mp hb) hsaved), Bool.or_true]

/-- The state whose Luggage a wake from SLEEP checks. -/
def State.wakePrep (s : State) (cause t : Nat) : State :=
  let st := s.get PWR_STATE_CUR
  let s1 := { s with pwr := { s.pwr with waking := some (cause, t, st), schedWake := none, repState := st, repTime := t, repFailed := 0, repCold := 0 } }
  let s2 := (s1.wakeCause cause).set PWR_DOM_ON (s1.get PWR_DOM_ON ||| 0x3F000000)
  if st = 3 then s2.areasLost else s2

/-- A wake depends on the banks that fail their check only by those it finds lost. -/
theorem State.wakeStart_of_luggageBad {s : State} {cause t bad : Nat}
    (h : (s.wakePrep cause t).luggageBad bad = (s.wakePrep cause t).luggageBad 0) : s.wakeStart cause t bad = s.wakeStart cause t 0 := by
  have hcheck : (s.wakePrep cause t).luggageCheck bad = (s.wakePrep cause t).luggageCheck 0 := by
    unfold State.luggageCheck
    rw [h]
  unfold State.wakePrep at hcheck
  unfold State.wakeStart
  simp only at hcheck ⊢
  rw [hcheck]

/-- An accepted event of another source than SYNC wakes a part in SLEEP (R488). -/
theorem State.wakeTick_asleep {s : State} {src t : Nat} (hvote : s.pwr.vote = none) (hentering : s.pwr.entering = none)
    (hwaking : s.pwr.waking = none) (hsleep : s.get PWR_STATE_CUR = 2) (hsrc : src ≠ 1) :
    s.wakeTick src t = s.fresh.2.wakeStart 35 t (s.fresh.1 % 256) := by
  simp [State.wakeTick, hvote, hentering, hwaking, hsleep, hsrc]

/-- A boundary up to the event that it has seen. -/
def State.boundaryWork (s : State) (tick tor master skew : Nat) : State :=
  let src := s.get TCK_SRC_ACTIVE
  let b := s.boundaryOf tick tor master
  let clamped := s.get TCK_CLAMPED_ROOMS
  let s0 := ((s.slot0Tick b skew).slot0Settings b).slot0Open b
  let s2 := (s0.slot1 b).slot2 b
  let s3 := s2.slot3
  let s5 := (s3.slot4 b (b.ovr ||| clamped) (s2.cfg.actBank ^^^ s3.cfg.actBank)).twinSlot5 b
  let s7 := (s5.slot6 b src).slot7 b
  ((s7.twinSwapArm).handReleaseAll).workOpen

/-- A boundary ends with the event that it has seen. -/
theorem State.boundary_eq (s : State) (tick tor master skew : Nat) :
    s.boundary tick tor master skew = (s.boundaryWork tick tor master skew).eventSeen (s.get TCK_SRC_ACTIVE) tor := rfl

/-! ### A counterexample to Obligations.TwinLink -/

/-- A Companion in SLEEP follows the twin, the deadline of tick 1 is time 0, and the saved bank of its interfaces has no signature. -/
def sleepingCompanion : State :=
  let s := ((((((((State.reset.seti MSU_ENC_STAT_STOPPED 0 0).set TWN_STAT_MODE 1).set TWN_STAT_ROLE 1).set TWN_STAT_SYNC_UP 1).set TCK_CTRL_EN 1).set TCK_SRC_ACTIVE 4).set
    MSU_DIV_CTRL_EN 1).set PWR_STATE_CUR 2).set PWR_LUG_STAT_SAVED 64
  { s with
    tick := { s.tick with firstDue := false }
    twn := { s.twn with deadline := some (1, 0) } }

/-- The state when a substituted event has been counted and recorded. -/
def State.substNoted (s : State) : State :=
  let s1 := (s.inc TWN_CNT_SUBST).ledger 0x0B01 (tickAdd s.tickno 1)
  { s1 with twn := { s1.twn with substRun := s.twn.substRun + 1, substNow := true, deadline := none } }

/-- The boundary of a substituted event (R522), and what follows it. -/
def State.substBoundary (s : State) (tick due skew : Nat) : State :=
  let u := s.boundary tick due (encodeInt 64 ((due : Int) - s.linkDelay true)) skew
  { u with twn := { u.twn with substNow := false } }

theorem State.get_substBoundary (s : State) (tick due skew : Nat) (f : Fld) :
    (s.substBoundary tick due skew).get f = (s.boundary tick due (encodeInt 64 ((due : Int) - s.linkDelay true)) skew).get f := by
  unfold State.substBoundary
  generalize s.boundary tick due (encodeInt 64 ((due : Int) - s.linkDelay true)) skew = u
  rfl

/-- A substituted event that does not lose the partner opens the next tick at the deadline (R522). -/
theorem execTwnSubst_opens {s : State} {t skew x due : Nat} (hdeadline : (s.setNow t).twn.deadline = some (x, due))
    (hgo : ((s.setNow t).isCompanion && (s.setNow t).linkRuns true && !(s.setNow t).tick.firstDue && (s.setNow t).flag MSU_DIV_CTRL_EN &&
      !(s.setNow t).flagi MSU_ENC_STAT_STOPPED (s.setNow t).divCh && tickGe x (tickAdd (s.setNow t).tickno 1) && timeGe t due) = true)
    (hkeep : (s.setNow t).substNoted.syncFailed ((s.setNow t).twn.substRun + 1) = false) (htake : (s.setNow t).substNoted.twn.takeDue = false) :
    execTwnSubst t skew s = .next ((s.setNow t).substNoted.substBoundary (tickAdd (s.setNow t).tickno 1) due skew) := by
  have hlost : ¬ (!(s.setNow t).substNoted.twn.takeDue && (s.setNow t).substNoted.syncFailed ((s.setNow t).twn.substRun + 1) &&
      (s.setNow t).substNoted.recOld (tickAdd (s.setNow t).tickno 1)) = true := by rw [hkeep]; simp
  have hend : ∀ u : State, u = (s.setNow t).substNoted →
      (if u.twn.takeDue && !u.flag TWN_CTRL_TAKEOVER then ok (u.substBoundary (tickAdd (s.setNow t).tickno 1) due skew).twinSrcLost
        else ok (u.substBoundary (tickAdd (s.setNow t).tickno 1) due skew)) =
      Host.Outcome.next ((s.setNow t).substNoted.substBoundary (tickAdd (s.setNow t).tickno 1) due skew) := by
    rintro u rfl
    simp [htake, ok]
  unfold execTwnSubst
  simp only [hdeadline]
  exact (if_pos hgo).trans (hend _ (if_neg hlost))

/-- The Companion at the substituted event of tick 1, counted and recorded. -/
def companionNoted : State := (sleepingCompanion.setNow 0).substNoted

/-- The Companion when its boundary has opened tick 1. -/
def companionOpened : State :=
  let s := companionNoted.boundaryWork 1 0 (encodeInt 64 (((0 : Nat) : Int) - companionNoted.linkDelay true)) 0
  { s with pwr := { s.pwr with evSince := 0 } }

/-- The opened tick's event finds the part in SLEEP. -/
theorem companionOpened_asleep : companionOpened.pwr.vote = none ∧ companionOpened.pwr.entering = none ∧
    companionOpened.pwr.waking = none ∧ companionOpened.get PWR_STATE_CUR = 2 := by decide +kernel

/-- The wake of the substituted event resets the Twin Link, whichever banks fail their check. -/
theorem companionOpened_wake (bad : Nat) : (companionOpened.fresh.2.wakeStart 35 0 bad).get TWN_CNT_SUBST = 0 := by
  rw [State.wakeStart_of_luggageBad (State.luggageBad_of_sig bad (by decide +kernel))]
  decide +kernel

/-- The substituted event of the Companion opens tick 1. -/
theorem exec_twnSubst_sleepingCompanion :
    exec (.twnSubst 0 0) sleepingCompanion = .next (companionNoted.substBoundary (tickAdd (sleepingCompanion.setNow 0).tickno 1) 0 0) :=
  execTwnSubst_opens (s := sleepingCompanion) (t := 0) (skew := 0) (x := 1) (due := 0) (by decide +kernel) (by decide +kernel) (by decide +kernel) (by decide +kernel)

/-- That boundary ends with the wake of the opened tick's event. -/
theorem companionNoted_boundary :
    companionNoted.boundary 1 0 (encodeInt 64 (((0 : Nat) : Int) - companionNoted.linkDelay true)) 0 = companionOpened.wakeTick 4 0 := by
  rw [State.boundary_eq, show companionNoted.get TCK_SRC_ACTIVE = 4 by decide +kernel]
  rfl

/-- The count of the substituted events is 0 after it. -/
theorem companionSubst_count : (nextOf (.twnSubst 0 0) sleepingCompanion).get TWN_CNT_SUBST = 0 := by
  obtain ⟨hvote, hentering, hwaking, hsleep⟩ := companionOpened_asleep
  have htick : tickAdd (sleepingCompanion.setNow 0).tickno 1 = 1 := by decide +kernel
  rw [nextOf_eq exec_twnSubst_sleepingCompanion, htick, State.get_substBoundary, companionNoted_boundary,
    State.wakeTick_asleep hvote hentering hwaking hsleep (by decide)]
  exact companionOpened_wake _

/-! ### A counterexample to Obligations.CoherentMemory -/

/-- The controller serves requests, the decoder is committed, its base is byte 1 of memory, and line 1 holds an uncorrectable error. -/
def oddBase : State :=
  let s := (((State.reset.set HLK_STAT_HDM_COMMITTED 1).set HLK_STAT_CXL_MEM 1).set DMC_CFG_EN 1).set DMC_STAT_TRAINED 1
  { s with
    regs := Assoc.put (HLK_HDM_DPA_BASE_LO.key 0 0) 1 s.regs
    hlk := { s.hlk with hdmSize := 2 ^ 28 }
    dramBad := [(1, true)] }

/-- The status of a host completion of a tag, where one was sent last. -/
def State.complStatus (s : State) (tag : Nat) : List Nat :=
  s.out.filterMap (fun o => match o with
    | .hostCompl n st _ => if n = tag then some st else none
    | _ => none)

theorem State.mem_complStatus {s : State} {tag st : Nat} {d : List Nat} (h : Out.hostCompl tag st d ∈ s.out) : st ∈ s.complStatus tag :=
  List.mem_filterMap.mpr ⟨_, h, by simp⟩

/-! ### A counterexample to Obligations.SensorPackets -/

/-- Line Assembler 0 is ready on raw lane 0, with side packets for the KMI, and the lane's SYNC holds 2^32, which no word is. -/
def wideSync : State :=
  let s := ((((((State.reset.seti LAS_CTRL_EN 0 1).seti LAS_STAT_ALIGNED 0 1).seti ING_LANE_CTRL_PCS 0 1).seti ING_LANE_STAT_CDR_LOCK 0 1).seti
    ING_LANE_STAT_WORD_LOCK 0 1).seti LAS_STAT_KMI_SIDE 0 1).seti LAS_LINE_LINE_PIX 0 0
  { s.seti LAS_HDR_HDR_LEN 0 4 with regs := Assoc.put (ING_LANE_SYNC.key 0 0) (2 ^ 32) (s.seti LAS_HDR_HDR_LEN 0 4).regs }

end Sys2Proof.Machine

open Sys2Proof.Machine Sys2Proof.Machine.Reg

/-- Refutes O51: the substituted event wakes a Companion in SLEEP, and a lost saved bank resets the count of the substituted events. -/
theorem not_twinLink : ¬ Obligations.TwinLink := by
  unfold Obligations.TwinLink
  intro h
  obtain ⟨-, -, -, -, -, -, hsubst, -⟩ := h
  obtain ⟨-, -, hcounts⟩ := ((hsubst sleepingCompanion 0 0 1 0 rfl).1 (by decide +kernel) (by decide +kernel) rfl (by decide +kernel)
    (by decide +kernel) (by decide +kernel) (by decide +kernel)).nextOf
  exact absurd (companionSubst_count.symm.trans hcounts) (by decide +kernel)

/-- Refutes O38: DPA_BASE holds any byte here, and 64 bytes from an odd one reach into a second line, which may be uncorrectable. -/
theorem not_coherentMemory : ¬ Obligations.CoherentMemory := by
  unfold Obligations.CoherentMemory
  intro h
  obtain ⟨-, hread, -⟩ := h
  obtain ⟨-, hgood⟩ := hread oddBase 0 5 0 1 [] false (by decide +kernel) (by decide +kernel) (by decide +kernel) (by decide +kernel) (by decide)
    (by decide +kernel) (by decide +kernel) (by decide +kernel)
  obtain ⟨hsent, -⟩ := ((hgood (by decide +kernel)).1 rfl (by decide +kernel)).nextOf
  exact absurd (State.mem_complStatus hsent) (by decide +kernel)

/-- Refutes O27: a packet behind a SYNC of more than 32 bits is not one that the lane receives. -/
theorem not_sensorPackets : ¬ Obligations.SensorPackets := by
  unfold Obligations.SensorPackets
  intro h
  obtain ⟨-, hraw, -⟩ := h
  obtain ⟨-, -, hside⟩ := hraw wideSync 0 0 0 0 4 [0] [0, 0, 0, 0] (by decide +kernel) (by decide +kernel) (by decide) (by decide) (by decide)
    (by decide) (by decide)
  obtain ⟨hbuf, -⟩ := (hside (by decide +kernel) (by decide) (by decide +kernel) (by decide +kernel)).nextOf
  exact absurd hbuf (by decide +kernel)
end

section
/-! The time base (R82 to R84): the proof of Obligations.TimeBase. -/

namespace Sys2Proof.Machine

open Reg

/-! ### The time counter -/

theorem State.get_setNow (s : State) (t : Nat) {f : Fld} (h : f.key 0 0 ≠ MSU_TIME_LO.key 0 0 ∧ f.key 0 0 ≠ MSU_TIME_HI.key 0 0) :
    (s.setNow t).get f = s.get f := State.get_setNow_ne s f t h.1 h.2

theorem State.flag_setNow (s : State) (t : Nat) {f : Fld} (h : f.key 0 0 ≠ MSU_TIME_LO.key 0 0 ∧ f.key 0 0 ≠ MSU_TIME_HI.key 0 0) :
    (s.setNow t).flag f = s.flag f := congrArg (· == 1) (State.get_setNow s t h)

theorem State.flag_set_ne (s : State) (f g : Fld) (v : Nat) (h : g.key 0 0 ≠ f.key 0 0) : (s.set f v).flag g = s.flag g :=
  congrArg (· == 1) (State.get_set_ne s f g v h)

theorem State.now_setNow (s : State) (t : Nat) : (s.setNow t).now = t % 2 ^ 64 := by
  simp (disch := decide) only [State.now, State.setNow, State.get_set_ne, State.get_set_self]
  simp only [MSU_TIME_LO, MSU_TIME_HI]
  omega

theorem State.now_set (s : State) (f : Fld) (v : Nat) (h : MSU_TIME_LO.key 0 0 ≠ f.key 0 0 ∧ MSU_TIME_HI.key 0 0 ≠ f.key 0 0) :
    (s.set f v).now = s.now := by
  simp only [State.now, State.get_set_ne s f _ v h.1, State.get_set_ne s f _ v h.2]

theorem State.now_congr {s t : State} (h : t.regs = s.regs) : t.now = s.now := by simp only [State.now, State.get_congr h]

theorem RegsBut.now {l : List Fld} {s t : State} (h : RegsBut l s t)
    (hl : ∀ g ∈ l, g.s1 = 0 ∧ g.s2 = 0 ∧ MSU_TIME_LO.key 0 0 ≠ g.key 0 0 ∧ MSU_TIME_HI.key 0 0 ≠ g.key 0 0) : t.now = s.now := by
  have hlo := h.get_single fun g hg => ⟨(hl g hg).1, (hl g hg).2.1, (hl g hg).2.2.1⟩
  have hhi := h.get_single fun g hg => ⟨(hl g hg).1, (hl g hg).2.1, (hl g hg).2.2.2⟩
  rw [State.now, hlo, hhi, State.now]

theorem SameBut.withMsu {l : List Part} {s t : State} (h : SameBut l s t) (m : MsuSt) (hl : .msu ∈ l) : SameBut l s { t with msu := m } :=
  h.step (l' := [.msu]) (fun p hp => by cases p <;> simp at hp <;> rfl) (by simpa using hl)

/-! ### The discipline -/

theorem State.tbSrc_setNow (s : State) (t : Nat) : (s.setNow t).tbSrc = s.tbSrc := by
  simp (disch := decide) only [State.tbSrc, State.get_setNow]

theorem State.tbCriterion_setNow (s : State) (t x : Nat) : (s.setNow t).tbCriterion x = s.tbCriterion x := by
  simp only [State.tbCriterion, State.tbSrc_setNow, State.setNow_msu]

theorem State.ppsAlign_setNow (s : State) (t x v : Nat) : (s.setNow t).ppsAlign x v = s.ppsAlign x v := by
  simp only [State.ppsAlign, State.tbSrc_setNow, State.setNow_msu]

theorem State.ppsAlign_of_ne {s : State} (h : s.tbSrc ≠ 2) (t v : Nat) : s.ppsAlign t v = v := if_neg h

theorem State.tbCriterion_of_lt {s : State} (h : s.tbSrc < 2) (t : Nat) : s.tbCriterion t = true := by
  rw [State.tbCriterion, if_neg (by omega), if_neg (by omega)]

theorem State.tbCriterion_pps {s : State} (h : s.tbSrc = 2) {x : Nat} (hx : s.msu.ppsSince = some x) (t : Nat) :
    s.tbCriterion t = timeGe t (x + nsUnits 3000000000) := by
  rw [State.tbCriterion, if_pos h, hx]

theorem State.tbCriterion_chain {s : State} (h : 3 ≤ s.tbSrc) {x : Nat} (hx : s.msu.critSince = some x) (t : Nat) :
    s.tbCriterion t = timeGe t (x + nsUnits 10000000) := by
  rw [State.tbCriterion, if_neg (by omega), if_pos h, hx]

/-! ### Lock (R82, R84) -/

/-- The time base as locked, before the counter is stepped. -/
def State.tbLocked (s : State) : State :=
  let s1 := (s.set MSU_TB_STAT_LOCKED 1).set MSU_TB_STAT_HOLDOVER 0
  { s1 with msu := { s1.msu with everLocked := true } }

/-- The counter at the first lock under a source that carries the time. -/
def State.tbStepped (s : State) (t v : Nat) : State :=
  if 2 ≤ s.tbSrc ∧ !s.msu.everLocked ∧ !s.flag TCK_CTRL_EN then s.tbLocked.setNow (s.ppsAlign t v) else s.tbLocked

/-- What a lock measures as MSU_TB_FREQ. -/
def State.tbFreq (s u : State) : State := if s.tbSrc = 0 then u.set MSU_TB_FREQ 0 else u.fresh.2.set MSU_TB_FREQ u.fresh.1

theorem execTbLock_met {s : State} {t : Nat} (v : Nat) (h : s.tbCriterion t = true) :
    execTbLock t v s = .next ((s.setNow t).tbFreq ((s.setNow t).tbStepped t v)) := by
  rw [← State.tbCriterion_setNow s t] at h
  refine (if_pos h).trans ?_
  unfold State.tbFreq
  split <;> rfl

theorem State.tbLocked_spec (s : State) : s.tbLocked.get MSU_TB_STAT_LOCKED = 1 ∧ s.tbLocked.get MSU_TB_STAT_HOLDOVER = 0 ∧
    s.tbLocked.msu.everLocked = true ∧ SameBut [.regs, .msu] s s.tbLocked ∧ RegsBut [MSU_TB_STAT_LOCKED, MSU_TB_STAT_HOLDOVER] s s.tbLocked := by
  have hgets : ((s.set MSU_TB_STAT_LOCKED 1).set MSU_TB_STAT_HOLDOVER 0).get MSU_TB_STAT_LOCKED = 1 ∧
      ((s.set MSU_TB_STAT_LOCKED 1).set MSU_TB_STAT_HOLDOVER 0).get MSU_TB_STAT_HOLDOVER = 0 := by
    constructor
    · rw [State.get_set_ne _ _ _ _ (by decide), State.get_set_self]; rfl
    · rw [State.get_set_self]; rfl
  exact ⟨hgets.1, hgets.2, rfl, (((SameBut.refl [.regs, .msu] s).set (by simp)).set (by simp)).withMsu _ (by simp),
    (((RegsBut.refl _ s).set (f := MSU_TB_STAT_LOCKED) (v := 1) (by simp)).set (f := MSU_TB_STAT_HOLDOVER) (v := 0) (by simp)).upd rfl⟩

theorem State.tbStepped_spec (s : State) (t v : Nat) : (s.tbStepped t v).get MSU_TB_STAT_LOCKED = 1 ∧ (s.tbStepped t v).get MSU_TB_STAT_HOLDOVER = 0 ∧
    (s.tbStepped t v).msu.everLocked = true ∧ SameBut [.regs, .msu] s (s.tbStepped t v) ∧
    RegsBut [MSU_TB_STAT_LOCKED, MSU_TB_STAT_HOLDOVER, MSU_TIME_LO, MSU_TIME_HI] s (s.tbStepped t v) := by
  obtain ⟨hlocked, hholdover, hever, hsame, hregs⟩ := s.tbLocked_spec
  have hregs' := hregs.mono (l' := [MSU_TB_STAT_LOCKED, MSU_TB_STAT_HOLDOVER, MSU_TIME_LO, MSU_TIME_HI]) (by simp)
  unfold State.tbStepped
  split
  · exact ⟨(State.get_setNow _ _ (by decide)).trans hlocked, (State.get_setNow _ _ (by decide)).trans hholdover, hever,
      hsame.now (by simp), hregs'.setNow (by simp) (by simp)⟩
  · exact ⟨hlocked, hholdover, hever, hsame, hregs'⟩

theorem State.now_tbStepped (s : State) (t v : Nat) : (s.tbStepped t v).now =
    if 2 ≤ s.tbSrc ∧ s.msu.everLocked = false ∧ s.flag TCK_CTRL_EN = false then (s.ppsAlign t v) % 2 ^ 64 else s.now := by
  have hkept : s.tbLocked.now = s.now := s.tbLocked_spec.2.2.2.2.now (by decide)
  unfold State.tbStepped
  simp only [Bool.not_eq_true']
  split
  · exact State.now_setNow _ _
  · exact hkept

theorem State.tbFreq_spec (s u : State) : SameBut [.regs, .freeCount] u (s.tbFreq u) ∧ RegsBut [MSU_TB_FREQ] u (s.tbFreq u) ∧
    (s.tbSrc = 0 → (s.tbFreq u).get MSU_TB_FREQ = 0) := by
  unfold State.tbFreq
  split
  · exact ⟨(SameBut.refl _ u).set (by simp), (RegsBut.refl _ u).set (by simp), fun _ => (State.get_set_self _ _ _).trans rfl⟩
  next h =>
    exact ⟨((SameBut.fresh u).mono (by simp)).set (by simp), ((RegsBut.refl _ u).upd (u := u.fresh.2) rfl).set (by simp), fun h0 => absurd h0 h⟩

theorem tbLock_locks {s : State} {t : Nat} (v : Nat) (h : s.tbCriterion t = true) :
    Answers (.tbLock t v) s (fun u => u.flag MSU_TB_STAT_LOCKED = true ∧ u.flag MSU_TB_STAT_HOLDOVER = false ∧
      u.msu.everLocked = true ∧ (s.tbSrc = 0 → u.get MSU_TB_FREQ = 0) ∧
      (2 ≤ s.tbSrc → s.msu.everLocked = false → s.flag TCK_CTRL_EN = false → u.now = (s.ppsAlign t v) % 2 ^ 64) ∧
      ((s.tbSrc < 2 ∨ s.msu.everLocked = true ∨ s.flag TCK_CTRL_EN = true) → u.now = t % 2 ^ 64) ∧
      SameBut [.regs, .msu, .freeCount] s u ∧
      RegsBut [MSU_TB_STAT_LOCKED, MSU_TB_STAT_HOLDOVER, MSU_TB_FREQ, MSU_TIME_LO, MSU_TIME_HI] s u) := by
  obtain ⟨hlocked, hholdover, hever, hsame, hregs⟩ := (s.setNow t).tbStepped_spec t v
  obtain ⟨fsame, fregs, ffreq⟩ := (s.setNow t).tbFreq_spec ((s.setNow t).tbStepped t v)
  have hmsu := fsame .msu (by decide)
  have hnow := (fregs.now (by decide)).trans ((s.setNow t).now_tbStepped t v)
  rw [State.tbSrc_setNow, State.setNow_msu, State.flag_setNow _ _ (by decide), State.ppsAlign_setNow, State.now_setNow] at hnow
  rw [State.tbSrc_setNow] at ffreq
  refine ⟨_, execTbLock_met v h, ?_, ?_, (congrArg MsuSt.everLocked hmsu).trans hever, ffreq, ?_, ?_, ?_, ?_⟩
  · rw [State.flag, fregs.get_single (by decide), hlocked]; rfl
  · rw [State.flag, fregs.get_single (by decide), hholdover]; rfl
  · exact fun hsrc hnever hoff => hnow.trans (if_pos ⟨hsrc, hnever, hoff⟩)
  · refine fun hno => hnow.trans (if_neg fun ⟨hsrc, hnever, hoff⟩ => ?_)
    simp only [hnever, hoff, Bool.false_eq_true, or_false] at hno
    omega
  · exact (((SameBut.refl _ s).now (by simp)).step hsame (by simp)).step fsame (by simp)
  · exact (((RegsBut.refl _ s).setNow (by simp) (by simp)).trans (hregs.mono (by simp))).trans (fregs.mono (by simp))

theorem tbLock_unmet {s : State} {t : Nat} (v : Nat) (h : s.tbCriterion t = false) : exec (.tbLock t v) s = .next (s.setNow t) := by
  refine if_neg ?_
  rw [State.tbCriterion_setNow, h]
  exact Bool.false_ne_true

/-! ### A lost reference (R83) -/

theorem State.tbLost_held {s : State} (h : s.flag MSU_TB_STAT_HOLDOVER = true) : s.tbLost = s := if_pos h

theorem State.tbLost_spec {s : State} (h : s.flag MSU_TB_STAT_HOLDOVER = false) : s.tbLost.flag MSU_TB_STAT_REF_LOST = true ∧
    s.tbLost.flag MSU_TB_STAT_HOLDOVER = true ∧ s.tbLost.flag MSU_TB_STAT_LOCKED = false ∧
    s.tbLost.get MSU_TB_STAT_PPS_LOST = s.get MSU_TB_STAT_PPS_LOST ∧
    s.tbLost.msu = { s.msu with critSince := none, ppsSince := none } ∧ SameBut [.regs, .msu, .kmi, .ldg, .out, .pba] s s.tbLost := by
  unfold State.tbLost
  rw [if_neg (by simp [h])]
  generalize hw : ({ s with msu := { s.msu with critSince := none, ppsSince := none } } : State) = w
  have hregs : RegsBut ledgerFlds (((w.set MSU_TB_STAT_REF_LOST 1).set MSU_TB_STAT_HOLDOVER 1).set MSU_TB_STAT_LOCKED 0)
      ((((w.set MSU_TB_STAT_REF_LOST 1).set MSU_TB_STAT_HOLDOVER 1).set MSU_TB_STAT_LOCKED 0).ledger 0x0305 s.tbSrc) := RegsBut.ledger _ _ _
  refine ⟨?_, ?_, ?_, ?_, ?_, ?_⟩
  · rw [State.flag, hregs.get_single (by decide), State.get_set_ne _ _ _ _ (by decide), State.get_set_ne _ _ _ _ (by decide), State.get_set_self]; rfl
  · rw [State.flag, hregs.get_single (by decide), State.get_set_ne _ _ _ _ (by decide), State.get_set_self]; rfl
  · rw [State.flag, hregs.get_single (by decide), State.get_set_self]; rfl
  · rw [hregs.get_single (by decide), State.get_set_ne _ _ _ _ (by decide), State.get_set_ne _ _ _ _ (by decide),
      State.get_set_ne _ _ _ _ (by decide), ← hw]
    rfl
  · rw [(SameBut.ledger _ _ _) .msu (by decide), ← hw]; rfl
  · have hmsu : SameBut [.regs, .msu, .kmi, .ldg, .out, .pba] s w := hw ▸ (SameBut.refl _ s).withMsu _ (by simp)
    exact (((hmsu.set (by simp)).set (by simp)).set (by simp)).led (by simp)

/-- What the loss of the selected reference leaves (R83). -/
theorem State.tbLost_of_kept {s w : State} (h : s.flag MSU_TB_STAT_HOLDOVER = false) (hregs : RegsBut [MSU_TB_STAT_PPS_LOST, MSU_TIME_LO, MSU_TIME_HI] s w)
    (hsame : SameBut [.regs] s w) : w.tbLost.flag MSU_TB_STAT_REF_LOST = true ∧ w.tbLost.flag MSU_TB_STAT_HOLDOVER = true ∧
      w.tbLost.flag MSU_TB_STAT_LOCKED = false ∧ (w.flag MSU_TB_STAT_PPS_LOST = true → w.tbLost.flag MSU_TB_STAT_PPS_LOST = true) ∧
      w.tbLost.msu = { s.msu with critSince := none, ppsSince := none } ∧ SameBut [.regs, .msu, .kmi, .ldg, .out, .pba] s w.tbLost := by
  have hhold : w.flag MSU_TB_STAT_HOLDOVER = false := by rw [State.flag, hregs.get_single (by decide)]; exact h
  obtain ⟨href, hho, hlo, hpps, hmsu, hlost⟩ := State.tbLost_spec hhold
  refine ⟨href, hho, hlo, fun hp => ?_, ?_, (hsame.mono (by simp)).trans hlost⟩
  · rw [State.flag, hpps]; exact hp
  · rw [hmsu, hsame .msu (by decide)]

/-- The loss of the selected reference is noted, of a missing PPS edge also as such. -/
theorem tbRefLost_selected {s : State} {cause : RefLoss} (t : Nat) (h : s.flag MSU_TB_STAT_HOLDOVER = false)
    (hc : (cause = .timeref ∧ (s.tbSrc = 1 ∨ s.tbSrc = 2)) ∨ (cause = .pps ∧ s.tbSrc = 2) ∨ (cause = .chain ∧ s.tbSrc = 3) ∨ (cause = .twin ∧ s.tbSrc = 4)) :
    Answers (.tbRefLost cause t) s (fun u => u.flag MSU_TB_STAT_REF_LOST = true ∧ u.flag MSU_TB_STAT_HOLDOVER = true ∧
      u.flag MSU_TB_STAT_LOCKED = false ∧ (cause = .pps → u.flag MSU_TB_STAT_PPS_LOST = true) ∧
      u.msu = { s.msu with critSince := none, ppsSince := none } ∧ SameBut [.regs, .msu, .kmi, .ldg, .out, .pba] s u) := by
  have hnow : RegsBut [MSU_TB_STAT_PPS_LOST, MSU_TIME_LO, MSU_TIME_HI] s (s.setNow t) := (RegsBut.refl _ s).setNow (by simp) (by simp)
  have hsame : SameBut [.regs] s (s.setNow t) := (SameBut.refl _ s).now (by simp)
  have hplain := State.tbLost_of_kept h hnow hsame
  have hpps := State.tbLost_of_kept h (hnow.set (f := MSU_TB_STAT_PPS_LOST) (v := 1) (by simp)) (hsame.set (by simp))
  have hset : ((s.setNow t).set MSU_TB_STAT_PPS_LOST 1).flag MSU_TB_STAT_PPS_LOST = true := by rw [State.flag, State.get_set_self]; rfl
  rcases hc with ⟨rfl, hs⟩ | ⟨rfl, hs⟩ | ⟨rfl, hs⟩ | ⟨rfl, hs⟩ <;> rw [← State.tbSrc_setNow s t] at hs
  · obtain ⟨href, hho, hlo, -, hmsu, hrest⟩ := hplain
    exact ⟨_, if_pos hs, href, hho, hlo, nofun, hmsu, hrest⟩
  · obtain ⟨href, hho, hlo, hp, hmsu, hrest⟩ := hpps
    exact ⟨_, (if_neg (by omega)).trans (if_pos hs), href, hho, hlo, fun _ => hp hset, hmsu, hrest⟩
  · obtain ⟨href, hho, hlo, -, hmsu, hrest⟩ := hplain
    exact ⟨_, if_pos hs, href, hho, hlo, nofun, hmsu, hrest⟩
  · obtain ⟨href, hho, hlo, -, hmsu, hrest⟩ := hplain
    exact ⟨_, if_pos hs, href, hho, hlo, nofun, hmsu, hrest⟩

theorem ok_tbLost_held {s : State} {t : Nat} (h : s.flag MSU_TB_STAT_HOLDOVER = true) :
    Host.Outcome.next (σ := State) (φ := Fault) (ρ := Refusal) (s.setNow t).tbLost = .next (s.setNow t) := by
  rw [State.tbLost_held ((State.flag_setNow s t (by decide)).trans h)]

/-- The loss of a reference that is not selected, or in holdover, is none. -/
theorem tbRefLost_other {s : State} {cause : RefLoss} (t : Nat)
    (hc : (cause = .timeref ∧ s.tbSrc ≠ 1 ∧ s.tbSrc ≠ 2) ∨ (cause = .pps ∧ s.tbSrc ≠ 1 ∧ s.tbSrc ≠ 2) ∨ (cause = .chain ∧ s.tbSrc ≠ 3) ∨
      (cause = .twin ∧ s.tbSrc ≠ 4) ∨ (cause ≠ .pps ∧ s.flag MSU_TB_STAT_HOLDOVER = true)) :
    exec (.tbRefLost cause t) s = .next (s.setNow t) := by
  have hsrc := State.tbSrc_setNow s t
  rcases hc with ⟨rfl, h1, h2⟩ | ⟨rfl, h1, h2⟩ | ⟨rfl, h⟩ | ⟨rfl, h⟩ | ⟨hp, h⟩
  · exact if_neg (by omega)
  · exact (if_neg (by omega)).trans (if_neg (by omega))
  · exact if_neg (by omega)
  · exact if_neg (by omega)
  · have hheld := ok_tbLost_held (t := t) h
    cases cause with
    | pps => exact absurd rfl hp
    | timeref => exact (ite_congr rfl (fun _ => hheld) fun _ => rfl).trans (ite_self _)
    | chain => exact (ite_congr rfl (fun _ => hheld) fun _ => rfl).trans (ite_self _)
    | twin => exact (ite_congr rfl (fun _ => hheld) fun _ => rfl).trans (ite_self _)

/-- A missing PPS edge under REF10, or in holdover, is only noted. -/
theorem tbRefLost_ppsNoted {s : State} (t : Nat) (h : s.tbSrc = 1 ∨ (s.tbSrc = 2 ∧ s.flag MSU_TB_STAT_HOLDOVER = true)) :
    exec (.tbRefLost .pps t) s = .next ((s.setNow t).set MSU_TB_STAT_PPS_LOST 1) := by
  have hsrc := State.tbSrc_setNow s t
  rcases h with h | ⟨h, hhold⟩
  · exact if_pos (hsrc.trans h)
  · refine (if_neg (by omega)).trans ((if_pos (hsrc.trans h)).trans (congrArg ok (State.tbLost_held ?_)))
    rw [State.flag_set_ne _ _ _ _ (by decide), State.flag_setNow _ _ (by decide)]
    exact hhold

/-! ### Steps of the counter (R84) -/

/-- The value of MSU_TIME_SET. -/
def State.timeSet (s : State) : Nat := s.get MSU_TIME_SET_LO + 2 ^ 32 * s.get MSU_TIME_SET_HI

theorem State.timeSet_setNow (s : State) (t : Nat) : (s.setNow t).timeSet = s.timeSet := by
  simp (disch := decide) only [State.timeSet, State.get_setNow]

theorem State.now_tbStep (s : State) : s.tbStep.now = s.timeSet % 2 ^ 64 := State.now_setNow _ _

theorem tbSet_enabled {s : State} (t : Nat) (h : s.flag TCK_CTRL_EN = true) : exec (.tbSet t) s = .next (s.setNow t) :=
  if_pos ((State.flag_setNow s t (by decide)).trans h)

theorem tbSet_now {s : State} (t : Nat) (hoff : s.flag TCK_CTRL_EN = false) (hpps : s.flag MSU_TB_CTRL_SET_AT_PPS = false) :
    exec (.tbSet t) s = .next (s.setNow t).tbStep := by
  refine (if_neg ?_).trans (if_neg ?_)
  · rw [State.flag_setNow s t (by decide), hoff]; exact Bool.false_ne_true
  · rw [State.flag_setNow s t (by decide), hpps]; exact Bool.false_ne_true

theorem tbSet_atPps {s : State} (t : Nat) (hoff : s.flag TCK_CTRL_EN = false) (hpps : s.flag MSU_TB_CTRL_SET_AT_PPS = true) :
    exec (.tbSet t) s = .next { s.setNow t with msu := { s.msu with setAtPps := true } } := by
  refine (if_neg ?_).trans (if_pos ((State.flag_setNow s t (by decide)).trans hpps))
  rw [State.flag_setNow s t (by decide), hoff]; exact Bool.false_ne_true

/-! ### A PPS edge (R82, R84) -/

/-- The edge meets the whole second, as far as it is compared. -/
def State.ppsGood (s : State) (t : Nat) (w : Bool) : Bool := w && (!s.msu.everLocked || s.msu.setAtPps || ppsWhole t)

/-- The edge noted at its time. -/
def State.ppsNoted (s : State) (t : Nat) (w : Bool) : State :=
  { s.setNow t with msu := { s.msu with
    setAtPps := false, ppsAt := t, ppsSince := if s.ppsGood t w then (match s.msu.ppsSince with
      | some x => some x
      | none => some t) else none } }

/-- The edge noted, and a value that waited for it loaded. -/
def State.ppsLoaded (s : State) (t : Nat) (w : Bool) : State :=
  if s.msu.setAtPps && !s.flag TCK_CTRL_EN then
    let u := (s.ppsNoted t w).tbStep
    { u with msu := { u.msu with ppsAt := u.now, ppsSince := some u.now } }
  else s.ppsNoted t w

theorem exec_ppsEdge (s : State) (t : Nat) (w : Bool) : exec (.ppsEdge t w) s =
    .next (if s.tbSrc == 2 && !s.ppsGood t w then (s.ppsLoaded t w).set MSU_TB_STAT_LOCKED 0 else s.ppsLoaded t w) := by
  rw [← State.tbSrc_setNow s t, State.ppsLoaded, ← State.flag_setNow s t (f := TCK_CTRL_EN) (by decide)]
  rfl

theorem State.ppsNoted_spec (s : State) (t : Nat) (w : Bool) : (s.ppsNoted t w).msu.setAtPps = false ∧ (s.ppsNoted t w).now = t % 2 ^ 64 ∧
    (s.ppsNoted t w).timeSet = s.timeSet ∧ SameBut [.regs, .msu] s (s.ppsNoted t w) ∧ RegsBut [MSU_TIME_LO, MSU_TIME_HI] s (s.ppsNoted t w) :=
  ⟨rfl, (State.now_congr rfl).trans (s.now_setNow t), s.timeSet_setNow t, ((SameBut.refl _ s).now (by simp)).withMsu _ (by simp),
    ((RegsBut.refl _ s).setNow (by simp) (by simp)).upd rfl⟩

theorem State.ppsLoaded_spec (s : State) (t : Nat) (w : Bool) : (s.ppsLoaded t w).msu.setAtPps = false ∧
    (s.msu.setAtPps = true → s.flag TCK_CTRL_EN = false → (s.ppsLoaded t w).now = s.timeSet % 2 ^ 64) ∧
    (s.msu.setAtPps = false ∨ s.flag TCK_CTRL_EN = true → (s.ppsLoaded t w).now = t % 2 ^ 64) ∧
    SameBut [.regs, .msu] s (s.ppsLoaded t w) ∧ RegsBut [MSU_TIME_LO, MSU_TIME_HI] s (s.ppsLoaded t w) := by
  obtain ⟨hset, hnow, htime, hsame, hregs⟩ := s.ppsNoted_spec t w
  unfold State.ppsLoaded
  split
  next h =>
    rw [Bool.and_eq_true, Bool.not_eq_true'] at h
    refine ⟨hset, fun _ _ => ?_, fun hno => ?_, (hsame.now (by simp)).withMsu _ (by simp), (hregs.setNow (by simp) (by simp)).upd rfl⟩
    · exact (State.now_congr rfl).trans ((State.now_tbStep _).trans (by rw [htime]))
    · simp [h.1, h.2] at hno
  next h =>
    refine ⟨hset, fun h1 h2 => absurd ?_ h, fun _ => hnow, hsame, hregs⟩
    simp [h1, h2]

/-- What a PPS edge leaves (R82, R84). -/
theorem ppsEdge_spec (s : State) (t : Nat) (w : Bool) : Answers (.ppsEdge t w) s (fun u => u.msu.setAtPps = false ∧
    (s.msu.setAtPps = true → s.flag TCK_CTRL_EN = false → u.now = s.timeSet % 2 ^ 64) ∧
    (s.msu.setAtPps = false ∨ s.flag TCK_CTRL_EN = true → u.now = t % 2 ^ 64) ∧
    (s.tbSrc = 2 → s.ppsGood t w = false → u.flag MSU_TB_STAT_LOCKED = false) ∧
    (s.tbSrc ≠ 2 ∨ s.ppsGood t w = true → u.get MSU_TB_STAT_LOCKED = s.get MSU_TB_STAT_LOCKED) ∧
    SameBut [.regs, .msu] s u ∧ RegsBut [MSU_TB_STAT_LOCKED, MSU_TIME_LO, MSU_TIME_HI] s u) := by
  refine ⟨_, exec_ppsEdge s t w, ?_⟩
  obtain ⟨hset, hload, hkeep, hsame, hregs⟩ := s.ppsLoaded_spec t w
  have hregs' := hregs.mono (l' := [MSU_TB_STAT_LOCKED, MSU_TIME_LO, MSU_TIME_HI]) (by simp)
  split
  next h =>
    rw [Bool.and_eq_true, beq_iff_eq, Bool.not_eq_true'] at h
    have hnow := State.now_set (s.ppsLoaded t w) MSU_TB_STAT_LOCKED 0 (by decide)
    refine ⟨hset, fun h1 h2 => hnow.trans (hload h1 h2), fun h1 => hnow.trans (hkeep h1), fun _ _ => ?_, fun hno => ?_,
      hsame.set (by simp), hregs'.set (by simp)⟩
    · rw [State.flag, State.get_set_self]; rfl
    · simp [h.1, h.2] at hno
  next h =>
    refine ⟨hset, hload, hkeep, fun h1 h2 => absurd ?_ h, fun _ => hregs.get_single (by decide), hsame, hregs'⟩
    simp [h1, h2]

end Sys2Proof.Machine

open Sys2Proof.Machine Sys2Proof.Machine.Reg

/-- Settles O32: one rule for lock, for a lost reference, for SET and for a PPS edge. -/
theorem timeBase : Obligations.TimeBase := by
  unfold Obligations.TimeBase
  refine ⟨fun s t v => ⟨tbLock_locks v, tbLock_unmet v, fun h => State.ppsAlign_of_ne h t v, fun h => State.tbCriterion_of_lt h t,
      fun x h hx => State.tbCriterion_pps h hx t, fun x h hx => State.tbCriterion_chain h hx t⟩,
    fun s cause t => ⟨fun h hc => tbRefLost_selected t h hc, tbRefLost_other t⟩,
    fun s t h => ⟨_, tbRefLost_ppsNoted t h, ?_, ((SameBut.refl _ s).now (by simp)).set (by simp),
      ((RegsBut.refl _ s).setNow (by simp) (by simp)).set (by simp)⟩,
    fun s t => ⟨tbSet_enabled t, fun hoff hpps => ⟨_, tbSet_now t hoff hpps, ?_, ((SameBut.refl _ s).now (by simp)).now (by simp),
        ((RegsBut.refl _ s).setNow (by simp) (by simp)).setNow (by simp) (by simp)⟩,
      fun hoff hpps => ⟨_, tbSet_atPps t hoff hpps, rfl, (State.now_congr rfl).trans (s.now_setNow t),
        ((SameBut.refl _ s).now (by simp)).withMsu _ (by simp), ((RegsBut.refl _ s).setNow (by simp) (by simp)).upd rfl⟩⟩,
    fun s t w => ?_⟩
  · rw [State.flag, State.get_set_self]; rfl
  · rw [State.now_tbStep, State.timeSet_setNow]; rfl
  · obtain ⟨u, hu, hset, hload, hkeep, hbad, hgood, hrest⟩ := ppsEdge_spec s t w
    refine ⟨u, hu, hset, hload, hkeep, fun hsrc hw => hbad hsrc ?_, fun hw => hgood (hw.imp id ?_), hrest⟩
    · rcases hw with rfl | ⟨h1, h2, h3⟩ <;> simp [State.ppsGood, *]
    · rintro ⟨rfl, h | h | h⟩ <;> simp [State.ppsGood, h]
end

section
/-! The tick engine (R34 to R65): the proof of Obligations.TickEngine. -/

namespace Sys2Proof.Machine

open Reg

/-! ### Register frames -/

theorem Fld.key_zero_le (f : Fld) (i j : Nat) : f.key 0 0 ≤ f.key i j := by
  unfold Fld.key
  have : f.addr + f.s1 * 0 + f.s2 * 0 ≤ f.addr + f.s1 * i + f.s2 * j := by simp only [Nat.mul_zero]; omega
  omega

/-- A register that is none of those written, which are single registers or above it, is as before. -/
theorem RegsBut.get_apart {l : List Fld} {s t : State} {f : Fld} (h : RegsBut l s t)
    (hf : ∀ g ∈ l, (g.s1 = 0 ∧ g.s2 = 0 ∧ f.key 0 0 ≠ g.key 0 0) ∨ f.key 0 0 < g.key 0 0) : t.get f = s.get f :=
  h.get fun g hg a b => by
    rcases hf g hg with ⟨h1, h2, hne⟩ | hlt
    · simpa [Fld.key, h1, h2] using hne
    · exact Nat.ne_of_lt (Nat.lt_of_lt_of_le hlt (g.key_zero_le a b))

theorem State.flag_eq_of_get {s t : State} {f : Fld} (h : t.get f = s.get f) : t.flag f = s.flag f := congrArg (· == 1) h

/-! ### The rest window (R45) -/

theorem State.refHeld_frame (s : State) : SameBut [.regs] s s.refHeld ∧ RegsBut [TCK_STATUS_REF_HELD] s s.refHeld :=
  ⟨(SameBut.refl _ s).set (by simp), (RegsBut.refl _ s).set (by simp)⟩

theorem SameBut.touchIdle (s : State) : SameBut [.pwr] s s.touchIdle := by
  intro p hp; cases p <;> simp at hp <;> rfl

/-- The rest window is open in the state; STATE has not changed yet. -/
def State.resting (s : State) : State := { s with tick := { s.tick with rest := true } }

theorem State.restOpen_spec (s : State) : s.restOpen.tick = { s.tick with rest := true } ∧
    s.restOpen.get TCK_STATUS_STATE = (if s.get TCK_STATUS_STATE = 2 then 3 else s.get TCK_STATUS_STATE) ∧
    SameBut [.tick, .regs, .pwr] s s.restOpen ∧ RegsBut [TCK_STATUS_STATE, TCK_STATUS_REF_HELD] s s.restOpen := by
  have hopen : SameBut [.tick, .regs, .pwr] s s.resting := by intro p hp; cases p <;> simp at hp <;> rfl
  have hregs : RegsBut [TCK_STATUS_STATE, TCK_STATUS_REF_HELD] s s.resting := (RegsBut.refl _ s).upd rfl
  unfold State.restOpen
  split
  · refine ⟨rfl, ?_, ?_, ?_⟩
    · refine (State.get_set_ne _ _ _ _ (by decide)).trans ?_
      exact (State.get_congr (State.touchIdle_regs _) _).trans ((State.get_set_self _ _ _).trans rfl)
    · exact (((hopen.set (by simp)).step (SameBut.touchIdle _) (by simp)).set (by simp))
    · exact ((hregs.set (f := TCK_STATUS_STATE) (v := 3) (by simp)).upd (State.touchIdle_regs _)).set (by simp)
  · refine ⟨rfl, (State.get_set_ne _ _ _ _ (by decide)).trans (State.get_congr (State.touchIdle_regs _) _), ?_, ?_⟩
    · exact ((hopen.step (SameBut.touchIdle _) (by simp)).set (by simp))
    · exact (hregs.upd (State.touchIdle_regs _)).set (by simp)

/-! ### Curfew (R39, R45) -/

theorem State.inForce_setNow (s : State) (t : Nat) {f : Fld} (h : f.key 0 0 ≠ MSU_TIME_LO.key 0 0 ∧ f.key 0 0 ≠ MSU_TIME_HI.key 0 0) :
    (s.setNow t).inForce f = s.inForce f := by
  have hget := State.get_setNow s t h
  unfold State.get at hget
  unfold State.inForce State.inForcei
  simp only [State.setNow_held, State.geti, hget]

theorem State.curfewOn_setNow (s : State) (t : Nat) : (s.setNow t).curfewOn = s.curfewOn :=
  congrArg (· == 1) (s.inForce_setNow t (by decide))

/-- The Curfew offset of the open tick has passed, and the rest window is not open. -/
def State.curfewPassed (s : State) (t : Nat) : Bool :=
  s.tick.tickOpen && !s.tick.rest && s.curfewOn && timeGe t (s.tick.b + nsUnits s.tick.curfew)

theorem exec_curfew (s : State) (t : Nat) :
    exec (.curfew t) s = .next (if s.curfewPassed t then (s.setNow t).restOpen else s.setNow t) := by
  rw [State.curfewPassed, ← s.curfewOn_setNow t, apply_ite Host.Outcome.next]
  rfl

theorem curfew_opens {s : State} {t : Nat} (h : s.curfewPassed t = true) : Answers (.curfew t) s (fun u => u.tick = { s.tick with rest := true } ∧
    (s.get TCK_STATUS_STATE = 2 → u.get TCK_STATUS_STATE = 3) ∧ SameBut [.tick, .regs, .pwr] s u) := by
  obtain ⟨htick, hstate, hsame, -⟩ := (s.setNow t).restOpen_spec
  rw [State.get_setNow _ _ (by decide)] at hstate
  exact ⟨_, (exec_curfew s t).trans (congrArg _ (if_pos h)), htick, fun h2 => hstate.trans (if_pos h2),
    ((SameBut.refl _ s).now (by simp)).trans hsame⟩

theorem curfew_waits {s : State} {t : Nat} (h : s.curfewPassed t = false) : exec (.curfew t) s = .next (s.setNow t) :=
  (exec_curfew s t).trans (congrArg _ (if_neg (by rw [h]; exact Bool.false_ne_true)))

/-! ### RDONE (R42, R44) -/

theorem State.roomOn_setNow (s : State) (t r : Nat) : (s.setNow t).roomOn r = s.roomOn r := by
  simp only [State.roomOn, State.domOn, s.get_setNow_high t (f := PWR_DOM_ON) (by decide)]

theorem State.roomActive_setNow (s : State) (t r : Nat) : (s.setNow t).roomActive r = s.roomActive r := by
  simp only [State.roomActive, State.geti, s.get2_setNow_high t (f := CFG_ROOM_STAT_ACT_BANK) r 0 (by decide)]

theorem State.treeRuns_setNow (s : State) (t r k : Nat) : (s.setNow t).treeRuns r k = s.treeRuns r k := by
  simp only [State.treeRuns, State.roomOn_setNow, State.roomActive_setNow, s.get_setNow_high t (f := PWR_STATE_CUR) (by decide)]
  rfl

/-- A pulse on RDONE of the Room counts. -/
def State.rdoneCounts (s : State) (r : Nat) : Bool :=
  s.tick.tickOpen && s.roomOn r && s.roomActive r && s.treeRuns r 0 && !bitB (s.get TCK_DONE_ROOMS) r

/-- The Room is done in the open tick, late or not. -/
def State.roomDone (s : State) (r t : Nat) : State :=
  let s1 := s.orBit TCK_DONE_ROOMS r
  if s.curfewOn && timeGe t (s.tick.b + nsUnits s.tick.curfew) then { s1 with tick := { s1.tick with lateDone := setBit s1.tick.lateDone r } } else s1

/-- The rest window opens where the last Room is done without Curfew. -/
def State.restAfter (s u : State) : State := if !s.curfewOn && !u.tick.rest && u.allRoomsDone then u.restOpen else u.touchIdle.refHeld

theorem exec_rdone {s : State} {r : Nat} (t : Nat) (hr : r < 24) : exec (.rdone r t) s =
    .next (if s.rdoneCounts r then (s.setNow t).restAfter ((s.setNow t).roomDone r t) else s.setNow t) := by
  refine (if_pos hr).trans ?_
  rw [State.rdoneCounts, ← s.roomOn_setNow t, ← s.roomActive_setNow t, ← s.treeRuns_setNow t, ← State.get_setNow s t (f := TCK_DONE_ROOMS) (by decide),
    apply_ite Host.Outcome.next]
  refine ite_congr rfl (fun _ => ?_) fun _ => rfl
  rw [State.restAfter, apply_ite Host.Outcome.next]
  rfl

theorem bitB_mod_two_pow (v w k : Nat) : bitB (v % 2 ^ w) k = (decide (k < w) && bitB v k) := by
  rw [bitB_eq_testBit, bitB_eq_testBit, Nat.testBit_mod_two_pow]

theorem State.roomDone_spec (s : State) (r t : Nat) :
    (∀ k < 24, bitB ((s.roomDone r t).get TCK_DONE_ROOMS) k = (bitB (s.get TCK_DONE_ROOMS) k || decide (r = k))) ∧
    bitB (s.roomDone r t).tick.lateDone r = (bitB s.tick.lateDone r || (s.curfewOn && timeGe t (s.tick.b + nsUnits s.tick.curfew))) ∧
    (s.roomDone r t).tick.rest = s.tick.rest ∧ SameBut [.tick, .regs] s (s.roomDone r t) := by
  have hdone (k : Nat) (hk : k < 24) : bitB ((s.orBit TCK_DONE_ROOMS r).get TCK_DONE_ROOMS) k = (bitB (s.get TCK_DONE_ROOMS) k || decide (r = k)) := by
    rw [State.orBit, State.get_set_self, show TCK_DONE_ROOMS.width = 24 from rfl, bitB_mod_two_pow, bitB_setBit, decide_eq_true hk, Bool.true_and]
  have hsame : SameBut [.tick, .regs] s (s.orBit TCK_DONE_ROOMS r) := (SameBut.refl _ s).set (by simp)
  unfold State.roomDone
  split
  next h =>
    refine ⟨hdone, ?_, rfl, hsame.step (l' := [.tick]) (fun p hp => ?_) (by simp)⟩
    · rw [h, Bool.or_true]
      exact (bitB_setBit _ _ _).trans (by simp)
    · cases p <;> simp at hp <;> rfl
  next h =>
    refine ⟨hdone, ?_, rfl, hsame⟩
    rw [Bool.eq_false_iff.mpr h, Bool.or_false]
    rfl

theorem State.restAfter_spec (s u : State) : (s.restAfter u).tick.lateDone = u.tick.lateDone ∧ (s.restAfter u).tick.part = u.tick.part ∧
    (s.curfewOn = true → (s.restAfter u).tick.rest = u.tick.rest) ∧
    (s.curfewOn = false → (s.restAfter u).tick.rest = (u.tick.rest || u.allRoomsDone)) ∧
    (s.restAfter u).get TCK_DONE_ROOMS = u.get TCK_DONE_ROOMS ∧ SameBut [.tick, .regs, .pwr] u (s.restAfter u) := by
  unfold State.restAfter
  split
  next h =>
    simp only [Bool.and_eq_true, Bool.not_eq_true'] at h
    obtain ⟨⟨hon, hrest⟩, hall⟩ := h
    obtain ⟨htick, -, hsame, hregs⟩ := u.restOpen_spec
    refine ⟨by rw [htick], by rw [htick], fun h1 => ?_, fun _ => ?_, hregs.get_single (by decide), hsame⟩
    · rw [h1] at hon; cases hon
    · rw [htick, hall, Bool.or_true]
  next h =>
    have hregs : RegsBut [TCK_STATUS_REF_HELD] u u.touchIdle.refHeld := ((RegsBut.refl _ u).upd (State.touchIdle_regs u)).set (by simp)
    refine ⟨rfl, rfl, fun _ => rfl, fun h1 => ?_, hregs.get_single (by decide),
      (((SameBut.refl _ u).step (SameBut.touchIdle u) (by simp)).set (by simp))⟩
    change u.tick.rest = _
    simp only [h1, Bool.not_false, Bool.true_and, Bool.and_eq_true, Bool.not_eq_true', not_and, Bool.not_eq_true] at h
    cases hrest : u.tick.rest
    · rw [h hrest]; rfl
    · rfl

theorem State.allRoomsDone_congr {s t : State} (hpart : t.tick.part = s.tick.part) (hdone : t.get TCK_DONE_ROOMS = s.get TCK_DONE_ROOMS) :
    t.allRoomsDone = s.allRoomsDone := by rw [State.allRoomsDone, State.allRoomsDone, hpart, hdone]

/-- The first RDONE of a Room in the open tick (R42). -/
theorem rdone_first {s : State} {r : Nat} (t : Nat) (hr : r < 24) (h : s.rdoneCounts r = true) :
    Answers (.rdone r t) s (fun u => bitB (u.get TCK_DONE_ROOMS) r = true ∧
      (∀ k, k < 24 → k ≠ r → bitB (u.get TCK_DONE_ROOMS) k = bitB (s.get TCK_DONE_ROOMS) k) ∧
      bitB u.tick.lateDone r = (bitB s.tick.lateDone r || (s.curfewOn && timeGe t (s.tick.b + nsUnits s.tick.curfew))) ∧
      (s.curfewOn = true → u.tick.rest = s.tick.rest) ∧
      (s.curfewOn = false → u.tick.rest = (s.tick.rest || u.allRoomsDone)) ∧ SameBut [.tick, .regs, .pwr] s u) := by
  obtain ⟨hdone, hlate, hrest, hsame⟩ := (s.setNow t).roomDone_spec r t
  obtain ⟨hlate', hpart, hon, hoff, hdone', hsame'⟩ := (s.setNow t).restAfter_spec ((s.setNow t).roomDone r t)
  rw [State.get_setNow _ _ (by decide)] at hdone
  rw [s.curfewOn_setNow t] at hlate hon hoff
  refine ⟨_, (exec_rdone t hr).trans (congrArg _ (if_pos h)), ?_, fun k hk hne => ?_, ?_, fun h1 => (hon h1).trans hrest, fun h0 => ?_, ?_⟩
  · rw [hdone', hdone r hr, decide_eq_true rfl, Bool.or_true]
  · rw [hdone', hdone k hk, decide_eq_false hne.symm, Bool.or_false]
  · rw [hlate', hlate]; rfl
  · rw [hoff h0, hrest, State.allRoomsDone_congr hpart hdone']; rfl
  · exact (((SameBut.refl _ s).now (by simp)).step hsame (by simp)).trans hsame'

theorem rdone_other {s : State} {r : Nat} (t : Nat) (hr : r < 24) (h : s.rdoneCounts r = false) : exec (.rdone r t) s = .next (s.setNow t) :=
  (exec_rdone t hr).trans (congrArg _ (if_neg (by rw [h]; exact Bool.false_ne_true)))

/-! ### A stopped line (R65) -/

theorem SameBut.sendDown (s : State) (tw : Bool) (msg : List Nat) : SameBut [.out] s (s.sendDown tw msg) := by
  unfold State.sendDown
  split
  · exact SameBut.emit _ _
  · exact SameBut.refl _ s

/-- A message other than those of ticks is only sent. -/
theorem SameBut.masterMsg (s : State) (tw : Bool) {type : Nat} (restart : Bool) (tick time : Nat) (h : 2 ≤ type) :
    SameBut [.out] s (s.masterMsg tw type restart tick time) := by
  unfold State.masterMsg
  split
  · simp only [if_neg (Nat.not_lt.mpr h)]
    exact SameBut.sendDown _ _ _
  · exact SameBut.refl _ s

/-- 1.0 s has passed since the last event. -/
def State.lineStopped (s : State) (t : Nat) : Bool :=
  s.flag TCK_CTRL_EN && s.tick.tickOpen && !s.tick.firstDue && s.get TCK_STATUS_STATE != 4 && timeGe t (s.tick.lastAccepted + nsUnits 1000000000)

/-- The engine as STOPPED shows it. -/
def State.stoppedShow (s : State) : State := ((s.set TCK_STATUS_STATE 4).set TCK_EVENTS_STOPPED 1).set TCK_PRED_PERIOD_NS 0x3FFFFFFF

theorem exec_tickStopped (s : State) (t : Nat) : exec (.tickStopped t) s = .next (if s.lineStopped t then
    (((((s.setNow t).stoppedShow).ledger 0x0303 0).masterMsg false 4 false (s.setNow t).tickno t).masterMsg true 4 false (s.setNow t).tickno t)
      else s.setNow t) := by
  rw [State.lineStopped, ← State.flag_setNow s t (f := TCK_CTRL_EN) (by decide), ← State.get_setNow s t (f := TCK_STATUS_STATE) (by decide),
    apply_ite Host.Outcome.next]
  rfl

theorem State.stoppedShow_spec (s : State) : s.stoppedShow.get TCK_STATUS_STATE = 4 ∧ s.stoppedShow.get TCK_EVENTS_STOPPED = 1 ∧
    s.stoppedShow.get TCK_PRED_PERIOD_NS = 0x3FFFFFFF ∧ SameBut [.regs] s s.stoppedShow ∧
    RegsBut [TCK_STATUS_STATE, TCK_EVENTS_STOPPED, TCK_PRED_PERIOD_NS] s s.stoppedShow := by
  refine ⟨?_, ?_, ?_, (((SameBut.refl _ s).set (by simp)).set (by simp)).set (by simp), (((RegsBut.refl _ s).set (by simp)).set (by simp)).set (by simp)⟩
  · refine (State.get_set_ne _ _ _ _ (by decide)).trans ((State.get_set_ne _ _ _ _ (by decide)).trans ((State.get_set_self _ _ _).trans rfl))
  · exact (State.get_set_ne _ _ _ _ (by decide)).trans ((State.get_set_self _ _ _).trans rfl)
  · exact (State.get_set_self _ _ _).trans rfl

theorem LedgerBut.of_show {l : List Fld} {s w u : State} (hsame : SameBut [.regs] s w) (hregs : RegsBut l s w) (c d : Nat)
    (hout : SameBut [.out] (w.ledger c d) u) : LedgerBut l s u :=
  ⟨((hsame.mono (by simp)).led (by simp)).step hout (by simp),
    ((hregs.mono (by simp +contextual)).led (fun f hf => List.mem_append_right _ hf)).trans (RegsBut.of_eq _ (hout .regs (by decide)))⟩

/-- STOPPED with its flag, its entry and no prediction (R65). -/
theorem tickStopped_stops {s : State} {t : Nat} (h : s.lineStopped t = true) : Answers (.tickStopped t) s (fun u => u.get TCK_STATUS_STATE = 4 ∧
    u.get TCK_EVENTS_STOPPED = 1 ∧ u.get TCK_PRED_PERIOD_NS = 0x3FFFFFFF ∧ u.tick = s.tick ∧
    LedgerBut [MSU_TIME_LO, MSU_TIME_HI, TCK_STATUS_STATE, TCK_EVENTS_STOPPED, TCK_PRED_PERIOD_NS] s u) := by
  obtain ⟨hstate, hevent, hpred, hsame, hregs⟩ := (s.setNow t).stoppedShow_spec
  have hsent := (SameBut.masterMsg (((s.setNow t).stoppedShow).ledger 0x0303 0) false (type := 4) false (s.setNow t).tickno t (by decide)).trans
    (SameBut.masterMsg _ true (type := 4) false (s.setNow t).tickno t (by decide))
  have hget {f : Fld} (hf : ∀ g ∈ ledgerFlds, g.s1 = 0 ∧ g.s2 = 0 ∧ f.key 0 0 ≠ g.key 0 0) :=
    (State.get_congr (hsent .regs (by decide)) f).trans ((RegsBut.ledger (s.setNow t).stoppedShow 0x0303 0).get_single hf)
  refine ⟨_, (exec_tickStopped s t).trans (congrArg _ (if_pos h)), (hget (by decide)).trans hstate, (hget (by decide)).trans hevent,
    (hget (by decide)).trans hpred, ?_, ?_⟩
  · exact (hsent .tick (by decide)).trans (((SameBut.ledger _ _ _) .tick (by decide)).trans (hsame .tick (by decide)))
  · exact LedgerBut.of_show (((SameBut.refl _ s).now (by simp)).trans hsame)
      (((RegsBut.refl _ s).setNow (by simp) (by simp)).trans (hregs.mono (by simp))) _ _ hsent

theorem tickStopped_waits {s : State} {t : Nat} (h : s.lineStopped t = false) : exec (.tickStopped t) s = .next (s.setNow t) :=
  (exec_tickStopped s t).trans (congrArg _ (if_neg (by rw [h]; exact Bool.false_ne_true)))

/-! ### The source (R36) -/

theorem State.srcTo_spec (s : State) (v t : Nat) : (s.srcTo v t).get TCK_SRC_ACTIVE = v % 2 ^ TCK_SRC_ACTIVE.width ∧
    (s.srcTo v t).get TCK_EVENTS_SRC_SWITCHED = 1 ∧ (s.srcTo v t).tick.timerAnchor = (if v = 2 then some t else none) ∧
    (s.srcTo v t).tick.tickOpen = s.tick.tickOpen ∧ (s.srcTo v t).tick.opened = s.tick.opened ∧ SameBut [.regs, .tick] s (s.srcTo v t) ∧
    RegsBut [TCK_SRC_ACTIVE, TCK_EVENTS_SRC_SWITCHED, TCK_CTRL_TICKNO_LOAD] s (s.srcTo v t) := by
  have hactive : ((s.set TCK_SRC_ACTIVE v).set TCK_EVENTS_SRC_SWITCHED 1).get TCK_SRC_ACTIVE = v % 2 ^ TCK_SRC_ACTIVE.width :=
    (State.get_set_ne _ _ _ _ (by decide)).trans (State.get_set_self _ _ _)
  have hswitched : ((s.set TCK_SRC_ACTIVE v).set TCK_EVENTS_SRC_SWITCHED 1).get TCK_EVENTS_SRC_SWITCHED = 1 := (State.get_set_self _ _ _).trans rfl
  have hsame : SameBut [.regs, .tick] s ((s.set TCK_SRC_ACTIVE v).set TCK_EVENTS_SRC_SWITCHED 1) :=
    ((SameBut.refl _ s).set (by simp)).set (by simp)
  have hregs : RegsBut [TCK_SRC_ACTIVE, TCK_EVENTS_SRC_SWITCHED, TCK_CTRL_TICKNO_LOAD] s ((s.set TCK_SRC_ACTIVE v).set TCK_EVENTS_SRC_SWITCHED 1) :=
    ((RegsBut.refl _ s).set (by simp)).set (by simp)
  have htick {w : State} (hw : SameBut [.regs, .tick] s w) (k : TickSt) : SameBut [.regs, .tick] s { w with tick := k } :=
    hw.step (l' := [.tick]) (fun p hp => by cases p <;> simp at hp <;> rfl) (by simp)
  unfold State.srcTo
  split
  · exact ⟨(State.get_set_ne _ TCK_CTRL_TICKNO_LOAD _ 0 (by decide)).trans hactive,
      (State.get_set_ne _ TCK_CTRL_TICKNO_LOAD _ 0 (by decide)).trans hswitched, rfl, rfl, rfl,
      htick (hsame.set (by simp)) _, (hregs.set (f := TCK_CTRL_TICKNO_LOAD) (v := 0) (by simp)).upd rfl⟩
  · exact ⟨hactive, hswitched, rfl, rfl, rfl, htick hsame _, hregs.upd rfl⟩

theorem sourceSwitch_held {s : State} (t : Nat) (h : s.flag TCK_CTRL_EN = true) :
    exec (.sourceSwitch t) s = .next ((s.setNow t).set TCK_SRC_SWITCH 1) := if_pos ((State.flag_setNow s t (by decide)).trans h)

theorem sourceSwitch_now {s : State} (t : Nat) (h : s.flag TCK_CTRL_EN = false) :
    exec (.sourceSwitch t) s = .next ((s.setNow t).srcTo (s.get TCK_SRC_NEXT) t) := by
  rw [← State.get_setNow s t (f := TCK_SRC_NEXT) (by decide)]
  exact if_neg (by rw [State.flag_setNow _ _ (by decide), h]; exact Bool.false_ne_true)

/-! ### The demand for refreshes, as the engine sees it -/

/-- The registers that a demand for refreshes writes. -/
def refDemandFlds : List Fld := [DMC_REF_STAT_PENDING, TCK_STATUS_REF_HELD, TCK_EVENTS_REFRESH_IN_WORK, TCK_REF_CNT_IN_WORK_CNT]

theorem State.refStart_regs (s : State) : RegsBut refDemandFlds s s.refStart := by
  unfold State.refStart State.refab
  extract_lets subs d s1 s2
  have h1 : s1.regs = s.regs := rfl
  have h2 : s2.regs = s.regs := by
    simp only [s2]
    split <;> exact h1
  exact ((RegsBut.of_eq refDemandFlds h2).set (f := DMC_REF_STAT_PENDING) (v := 0) (by decide)).upd rfl

theorem RegsBut.refHeld {s u : State} (h : RegsBut refDemandFlds s u) : RegsBut refDemandFlds s u.refHeld := h.set (by decide)

theorem State.refDemand_regs (s : State) : RegsBut refDemandFlds s s.refDemand := by
  unfold State.refDemand
  split
  · exact RegsBut.refl _ s
  · split
    · exact (RegsBut.refl _ s).set (by decide)
    · split
      · split
        · exact s.refStart_regs.refHeld
        · exact ((RegsBut.refl _ s).set (by decide)).refHeld
      · split
        · unfold State.refForce
          split
          · exact s.refStart_regs.refHeld
          · exact (s.refStart_regs.refHeld.set (by decide)).inc (by decide)
        · exact ((RegsBut.refl _ s).set (by decide)).refHeld

theorem State.refDemand_same (s : State) : SameBut [.regs, .dmc, .out] s s.refDemand := by
  by_cases h : (!s.dmc.ready || s.flag DMC_STAT_SR || s.dmc.training != 0) = true
  · rw [State.refDemand, if_pos h]
    exact SameBut.refl _ s
  · simp only [Bool.or_eq_true, Bool.not_eq_true', bne_iff_ne, ne_eq, not_or, Bool.not_eq_false, Bool.not_eq_true, not_not] at h
    obtain ⟨⟨hready, hsr⟩, htr⟩ := h
    exact (State.refDemand_frame hready hsr htr).2

/-! ### Pins that switch, as the engine sees them -/

/-- The registers that a pin's switch writes. -/
def pinFlds : List Fld := ledgerFlds ++ [GPIO_P_IN_LO_IN, GPIO_P_IN_HI_IN, GPIO_RES_TIM_HELD, GPIO_RES_BUF_USED, GPIO_PIN_FUNC, GPIO_PIN_OWNER,
  IOB_CONFLICT_PINS, GPIO_PIN_PENDING, GPIO_PIN_PEND_FUNC]

/-- What a pin's switch changes. -/
structure PinFrame (s u : State) : Prop where
  same : SameBut [.regs, .io, .out, .kmi, .ldg, .pba] s u
  regs : RegsBut pinFlds s u

theorem PinFrame.refl (s : State) : PinFrame s s := ⟨SameBut.refl _ s, RegsBut.refl _ s⟩

theorem PinFrame.seti {s u : State} (h : PinFrame s u) (f : Fld) (i v : Nat) (hf : f ∈ pinFlds) : PinFrame s (u.seti f i v) :=
  ⟨h.same.seti (by simp), h.regs.seti hf⟩

theorem PinFrame.set {s u : State} (h : PinFrame s u) (f : Fld) (v : Nat) (hf : f ∈ pinFlds) : PinFrame s (u.set f v) :=
  ⟨h.same.set (by simp), h.regs.set hf⟩

theorem PinFrame.io {s u : State} (h : PinFrame s u) (k : IoSt) : PinFrame s { u with io := k } :=
  ⟨h.same.step (l' := [.io]) (fun p hp => by cases p <;> simp at hp <;> rfl) (by simp), h.regs.upd rfl⟩

theorem PinFrame.sent {s u : State} (h : PinFrame s u) (o : Out) : PinFrame s (u.emit o) := ⟨h.same.sent (by simp), h.regs.upd rfl⟩

theorem PinFrame.funcRelease {s u : State} (h : PinFrame s u) (key f : Nat) : PinFrame s (u.funcRelease key f) := by
  have h1 : PinFrame s (match funcTimer f with
      | some t => u.set GPIO_RES_TIM_HELD (clrBit (u.get GPIO_RES_TIM_HELD) t)
      | none => u) := by
    split
    · exact h.set _ _ (by decide)
    · exact h
  unfold State.funcRelease
  extract_lets s1
  split
  · split
    · exact (h1.io _).set _ _ (by decide)
    · exact h1
  · exact h1

theorem PinFrame.pinUpdate {s u : State} (h : PinFrame s u) (n : Nat) : PinFrame s (u.pinUpdate n) := by
  unfold State.pinUpdate
  extract_lets s1 was now conflict s2
  have h2 : PinFrame s s2 := (h.seti GPIO_PIN_OWNER n _ (by decide)).io _
  split
  · exact ⟨((h2.same.seti (by simp)).led (by simp)), ((h2.regs.seti (by decide)).led (fun f hf => List.mem_append_left _ hf))⟩
  · exact h2

theorem PinFrame.pinSwitch {s u : State} (h : PinFrame s u) (n f key : Nat) : PinFrame s (u.pinSwitch n f key) := by
  unfold State.pinSwitch
  extract_lets s0 s1 k s2
  have h0 : PinFrame s s0 := by
    refine PinFrame.sent ?_ _
    exact (h.seti GPIO_P_IN_LO_IN _ _ (by decide)).seti GPIO_P_IN_HI_IN _ _ (by decide)
  have h1 : PinFrame s s1 := h0.funcRelease _ _
  have h2 : PinFrame s s2 := by
    simp only [s2]
    split
    · exact h1.io _
    · exact h1
  exact (h2.seti GPIO_PIN_FUNC n f (by decide)).pinUpdate n

theorem PinFrame.foldl {β : Type} {g : State → β → State} (hg : ∀ u b, PinFrame u (g u b)) (l : List β) (s : State) : PinFrame s (l.foldl g s) :=
  ⟨SameBut.foldl g (fun u b => (hg u b).same) l s, RegsBut.fold (fun u b => (hg u b).regs) l (RegsBut.refl _ s)⟩

theorem PinFrame.pinsBoundary (s : State) : PinFrame s s.pinsBoundary :=
  PinFrame.foldl (fun u n => (((PinFrame.refl u).pinSwitch n _ _).seti GPIO_PIN_PENDING n 0 (by decide)).seti GPIO_PIN_PEND_FUNC n 0 (by decide)) _ s

/-! ### Enable (R34, R60, R606) -/

/-- The engine enabled, before its demand for refreshes. -/
def State.engineSet (s : State) (t : Nat) : State :=
  { (s.set TCK_CTRL_EN 1) with tick := { s.tick with
      firstDue := true, timerAnchor := if s.get TCK_SRC_ACTIVE = 2 then some t else none, timerWrite := none } }

theorem State.engineSet_spec (s : State) (t : Nat) : (s.engineSet t).get TCK_CTRL_EN = 1 ∧ SameBut [.regs, .tick] s (s.engineSet t) ∧
    RegsBut [TCK_CTRL_EN] s (s.engineSet t) := by
  refine ⟨?_, ?_, ((RegsBut.refl _ s).set (f := TCK_CTRL_EN) (v := 1) (by simp)).upd rfl⟩
  · exact (State.get_set_self s TCK_CTRL_EN 1).trans rfl
  · exact ((SameBut.refl _ s).set (f := TCK_CTRL_EN) (v := 1) (by simp)).step (l' := [.tick]) (fun p hp => by cases p <;> simp at hp <;> rfl) (by simp)

theorem State.engineOn_on {s : State} (t : Nat) (h : s.flag TCK_CTRL_EN = true) : s.engineOn t = s := if_pos h

theorem State.engineOn_off {s : State} (t : Nat) (h : s.flag TCK_CTRL_EN = false) : s.engineOn t = (s.engineSet t).refDemand :=
  if_neg (by rw [h]; exact Bool.false_ne_true)

theorem tickEngineEnable_on {s : State} (t : Nat) (h : s.flag TCK_CTRL_EN = true) : exec (.tickEngineEnable t) s = .next (s.setNow t) :=
  congrArg Host.Outcome.next (State.engineOn_on t ((State.flag_setNow s t (by decide)).trans h))

theorem State.refDemand_notReady {s : State} (h : s.dmc.ready = false) : s.refDemand = s := if_pos (by simp [h])

/-- Enabling the engine (R34, R60). -/
theorem tickEngineEnable_off {s : State} (t : Nat) (h : s.flag TCK_CTRL_EN = false) :
    Answers (.tickEngineEnable t) s (fun u => u.get TCK_CTRL_EN = 1 ∧ u.tick.firstDue = true ∧
      u.tick.tickOpen = s.tick.tickOpen ∧ u.tick.timerAnchor = (if s.get TCK_SRC_ACTIVE = 2 then some t else none) ∧
      (s.dmc.ready = false → SameBut [.regs, .tick] s u ∧ RegsBut [MSU_TIME_LO, MSU_TIME_HI, TCK_CTRL_EN] s u)) := by
  have hexec : exec (.tickEngineEnable t) s = .next ((s.setNow t).engineSet t).refDemand :=
    congrArg Host.Outcome.next (State.engineOn_off t ((State.flag_setNow s t (by decide)).trans h))
  obtain ⟨hen, hsame, hregs⟩ := (s.setNow t).engineSet_spec t
  have htick : ((s.setNow t).engineSet t).refDemand.tick = ((s.setNow t).engineSet t).tick := (State.refDemand_same _) .tick (by decide)
  refine ⟨_, hexec, ((State.refDemand_regs _).get_apart (by decide)).trans hen, by rw [htick]; rfl, by rw [htick]; rfl, ?_, fun hready => ?_⟩
  · rw [htick, ← State.get_setNow s t (f := TCK_SRC_ACTIVE) (by decide)]; rfl
  · have hdmc : ((s.setNow t).engineSet t).dmc.ready = false := hready
    rw [State.refDemand_notReady hdmc]
    exact ⟨((SameBut.refl _ s).now (by simp)).trans hsame, ((RegsBut.refl _ s).setNow (by simp) (by simp)).trans (hregs.mono (by simp))⟩

/-! ### Disable (R36, R54, R60) -/

/-- The registers of the engine that its disable speaks of. -/
def engineFlds : List Fld := [TCK_CTRL_EN, TCK_STATUS_STATE, TCK_SRC_ACTIVE, TCK_SRC_SWITCH, TCK_SRC_NEXT]

/-- The engine's settings, its open tick and its held settings are the same. -/
structure EngineKept (s u : State) : Prop where
  tickOpen : u.tick.tickOpen = s.tick.tickOpen
  opened : u.tick.opened = s.tick.opened
  held : u.held = s.held
  regs : ∀ f ∈ engineFlds, u.get f = s.get f

theorem EngineKept.trans {s t u : State} (h : EngineKept s t) (k : EngineKept t u) : EngineKept s u :=
  ⟨k.tickOpen.trans h.tickOpen, k.opened.trans h.opened, k.held.trans h.held, fun f hf => (k.regs f hf).trans (h.regs f hf)⟩

theorem EngineKept.of_frame {l : List Fld} {s u : State} (hsame : SameBut [.regs, .msu, .io, .out, .kmi, .ldg, .pba, .dmc, .pwr] s u)
    (hregs : RegsBut l s u) (hl : ∀ f ∈ engineFlds, ∀ g ∈ l, (g.s1 = 0 ∧ g.s2 = 0 ∧ f.key 0 0 ≠ g.key 0 0) ∨ f.key 0 0 < g.key 0 0) :
    EngineKept s u :=
  ⟨congrArg TickSt.tickOpen (hsame .tick (by decide)), congrArg TickSt.opened (hsame .tick (by decide)), hsame .held (by decide),
    fun f hf => hregs.get_apart (hl f hf)⟩

theorem State.setTheta_frame (s : State) (v : Int) : SameBut [.regs] s (s.setTheta v) ∧ RegsBut [MSU_DIV_NEXT_LO, MSU_DIV_NEXT_HI] s (s.setTheta v) :=
  ⟨((SameBut.refl _ s).set (by simp)).set (by simp), ((RegsBut.refl _ s).set (by simp)).set (by simp)⟩

theorem State.divSched_frame (s : State) : SameBut [.msu] s s.divSched ∧ s.divSched.regs = s.regs := by
  unfold State.divSched
  split
  · exact ⟨SameBut.refl _ s, rfl⟩
  · exact ⟨(SameBut.refl _ s).withMsu _ (by simp), rfl⟩

theorem EngineKept.rePitch (s : State) (old : Nat) : EngineKept s (s.rePitch old) := by
  unfold State.rePitch
  split
  · obtain ⟨hsame, hregs⟩ := s.setTheta_frame ((s.theta : Int) - old + s.pitch)
    obtain ⟨hsame', hregs'⟩ := (s.setTheta ((s.theta : Int) - old + s.pitch)).divSched_frame
    exact EngineKept.of_frame (l := [MSU_DIV_NEXT_LO, MSU_DIV_NEXT_HI]) ((hsame.mono (by simp)).step hsame' (by simp)) (hregs.upd hregs') (by decide)
  · exact ⟨rfl, rfl, rfl, fun f _ => rfl⟩

theorem EngineKept.pinsBoundary (s : State) : EngineKept s s.pinsBoundary :=
  EngineKept.of_frame ((PinFrame.pinsBoundary s).same.mono (by simp)) (PinFrame.pinsBoundary s).regs (by decide)

theorem EngineKept.refDemand (s : State) : EngineKept s s.refDemand :=
  EngineKept.of_frame (s.refDemand_same.mono (by simp)) s.refDemand_regs (by decide)

theorem EngineKept.restOpen {s : State} (h : s.get TCK_STATUS_STATE ≠ 2) : EngineKept s s.restOpen := by
  obtain ⟨htick, hstate, hsame, hregs⟩ := s.restOpen_spec
  refine ⟨by rw [htick], by rw [htick], hsame .held (by decide), fun f hf => ?_⟩
  by_cases hf2 : f = TCK_STATUS_STATE
  · rw [hf2, hstate, if_neg h]
  · refine hregs.get_single ?_
    simp only [engineFlds, List.mem_cons, List.not_mem_nil, or_false] at hf
    rcases hf with rfl | rfl | rfl | rfl | rfl
    exacts [by decide, absurd rfl hf2, by decide, by decide, by decide]

theorem EngineKept.curfewChange {s : State} (h : s.get TCK_STATUS_STATE ≠ 2) : EngineKept s s.curfewChange := by
  have hshow : EngineKept s s.curfewShow :=
    EngineKept.of_frame ((SameBut.refl _ s).set (by simp)) ((RegsBut.refl [TCK_CURFEW_CUR_OFFSET_NS] s).set (by simp)) (by decide)
  unfold State.curfewChange
  extract_lets s1
  split
  · exact hshow.trans (EngineKept.restOpen (by rw [hshow.regs _ (by decide)]; exact h))
  · exact hshow

theorem State.switchNow_spec (s : State) (t : Nat) : (s.switchNow t).tick.tickOpen = s.tick.tickOpen ∧
    (s.switchNow t).tick.opened = s.tick.opened ∧ (s.switchNow t).held = s.held ∧ (s.switchNow t).get TCK_CTRL_EN = s.get TCK_CTRL_EN ∧
    (s.get TCK_SRC_SWITCH = 1 → (s.switchNow t).get TCK_SRC_ACTIVE = s.get TCK_SRC_NEXT % 2 ^ TCK_SRC_ACTIVE.width ∧
      (s.switchNow t).get TCK_SRC_SWITCH = 0) := by
  obtain ⟨hactive, -, -, hopen, hopened, hsame, hregs⟩ := s.srcTo_spec (s.get TCK_SRC_NEXT) t
  unfold State.switchNow
  split
  · refine ⟨hopen, hopened, hsame .held (by decide), ?_, fun _ => ⟨?_, (State.get_set_self _ _ _).trans rfl⟩⟩
    · exact (State.get_set_ne _ _ _ _ (by decide)).trans (hregs.get_single (by decide))
    · exact (State.get_set_ne _ _ _ _ (by decide)).trans hactive
  next h => exact ⟨rfl, rfl, rfl, rfl, fun h1 => absurd (by rw [State.flag, h1]; rfl) h⟩

/-- The engine disabled, with the settings and the source that waited in force. -/
def State.engineStop (s : State) (t : Nat) : State := ((s.set TCK_CTRL_EN 0).boundaryCommit).switchNow t

/-- The engine after its disable: the next event starts the first boundary again. -/
def State.engineRest (s : State) : State := { s with tick := { s.tick with firstDue := true, prevStamp := none } }

theorem State.engineOff_eq {s : State} (t : Nat) (h : s.flag TCK_CTRL_EN = true) : s.engineOff t =
    ((((((s.engineStop t).rePitch s.pitch).pinsBoundary).set TCK_STATUS_STATE 0).curfewChange).engineRest).refDemand := by
  unfold State.engineOff State.engineStop State.engineRest
  rw [if_pos h]

theorem State.engineOff_spec {s : State} (t : Nat) (h : s.flag TCK_CTRL_EN = true) : (s.engineOff t).get TCK_CTRL_EN = 0 ∧
    (s.engineOff t).held = [] ∧ (s.engineOff t).get TCK_STATUS_STATE = 0 ∧ (s.engineOff t).tick.tickOpen = s.tick.tickOpen ∧
    (s.engineOff t).tick.opened = s.tick.opened ∧
    (s.get TCK_SRC_SWITCH = 1 → (s.engineOff t).get TCK_SRC_ACTIVE = s.get TCK_SRC_NEXT % 2 ^ TCK_SRC_ACTIVE.width ∧
      (s.engineOff t).get TCK_SRC_SWITCH = 0) := by
  obtain ⟨hopen, hopened, hheld, hen, hswitch⟩ := ((s.set TCK_CTRL_EN 0).boundaryCommit).switchNow_spec t
  have hstop : ∀ f, ((s.set TCK_CTRL_EN 0).boundaryCommit).get f = (s.set TCK_CTRL_EN 0).get f := fun f => State.get_congr rfl f
  rw [hstop, hstop, State.get_set_ne _ _ _ _ (by decide), State.get_set_ne _ _ _ _ (by decide)] at hswitch
  rw [hstop, State.get_set_self] at hen
  rw [State.engineOff_eq t h]
  have hpins : EngineKept (s.engineStop t) (((s.engineStop t).rePitch s.pitch).pinsBoundary) := (EngineKept.rePitch _ _).trans (EngineKept.pinsBoundary _)
  generalize ((s.engineStop t).rePitch s.pitch).pinsBoundary = v at hpins
  have hzero : (v.set TCK_STATUS_STATE 0).get TCK_STATUS_STATE = 0 := (State.get_set_self _ _ _).trans rfl
  have hchange := EngineKept.curfewChange (s := v.set TCK_STATUS_STATE 0) (by rw [hzero]; decide)
  generalize (v.set TCK_STATUS_STATE 0).curfewChange = w at hchange
  have hdemand := EngineKept.refDemand w.engineRest
  have hw (f : Fld) : w.engineRest.get f = w.get f := State.get_congr rfl f
  have hget {f : Fld} (hf : f ∈ engineFlds) (hne : f.key 0 0 ≠ TCK_STATUS_STATE.key 0 0) := (hdemand.regs f hf).trans
    ((hw f).trans ((hchange.regs f hf).trans ((State.get_set_ne v TCK_STATUS_STATE f 0 hne).trans (hpins.regs f hf))))
  refine ⟨(hget (by decide) (by decide)).trans (hen.trans rfl), hdemand.held.trans (hchange.held.trans (hpins.held.trans (hheld.trans rfl))),
    (hdemand.regs _ (by decide)).trans ((hw _).trans ((hchange.regs _ (by decide)).trans hzero)),
    hdemand.tickOpen.trans (hchange.tickOpen.trans (hpins.tickOpen.trans hopen)),
    hdemand.opened.trans (hchange.opened.trans (hpins.opened.trans hopened)), fun h1 => ?_⟩
  exact ⟨(hget (by decide) (by decide)).trans (hswitch h1).1, (hget (by decide) (by decide)).trans (hswitch h1).2⟩

end Sys2Proof.Machine

open Sys2Proof.Machine Sys2Proof.Machine.Reg

/-- Settles O48: one rule for Curfew, RDONE, a stopped line, a source switch, and the engine's enable and disable. -/
theorem tickEngine : Obligations.TickEngine := by
  unfold Obligations.TickEngine
  refine ⟨fun s t => ⟨fun h1 h2 h3 h4 => curfew_opens (by simp [State.curfewPassed, h1, h2, h3, h4]), fun h => curfew_waits ?_⟩,
    fun s r t hr h1 h2 h3 h4 h5 => rdone_first t hr (by simp [State.rdoneCounts, h1, h2, h3, h4, h5]), fun s r t hr h => rdone_other t hr ?_,
    fun s t h1 h2 h3 h4 => ⟨fun h5 => tickStopped_stops ?_, fun h5 => tickStopped_waits ?_⟩, fun s t h => tickStopped_waits ?_,
    fun s t => ⟨fun h => ⟨_, sourceSwitch_held t h, ?_, ?_, ?_, ?_⟩, fun h => ⟨_, sourceSwitch_now t h, ?_⟩⟩,
    fun s t => ⟨tickEngineEnable_on t, tickEngineEnable_off t, fun h => ?_, fun h => ⟨_, rfl, ?_⟩⟩⟩
  · rcases h with h | h | h | h <;> simp [State.curfewPassed, h]
  · rcases h with h | h | h | h | h <;> simp [State.rdoneCounts, h]
  · simp [State.lineStopped, h1, h2, h3, h4, h5]
  · simp [State.lineStopped, h5]
  · rcases h with h | h | h | h <;> simp [State.lineStopped, h]
  · exact (State.get_set_self _ _ _).trans rfl
  · exact (State.get_set_ne _ _ _ _ (by decide)).trans (State.get_setNow _ _ (by decide))
  · exact ((SameBut.refl _ s).now (by simp)).set (by simp)
  · exact ((RegsBut.refl _ s).setNow (by simp) (by simp)).set (by simp)
  · obtain ⟨hactive, hswitched, hanchor, -, -, hsame, -⟩ := (s.setNow t).srcTo_spec (s.get TCK_SRC_NEXT) t
    exact ⟨hactive, hswitched, hanchor, ((SameBut.refl _ s).now (by simp)).trans hsame⟩
  · exact congrArg Host.Outcome.next (if_neg (by rw [State.flag_setNow _ _ (by decide), h]; exact Bool.false_ne_true))
  · have hoff := (s.setNow t).engineOff_spec t ((State.flag_setNow s t (by decide)).trans h)
    rw [State.get_setNow _ _ (by decide), State.get_setNow _ _ (by decide)] at hoff
    exact hoff
end

section
/-! Mode changes of the chain and of the twin (R101, R102, R108, R535): what arming, disarming and proposing leave, and the proof of
Obligations.ModeChangeCommands. -/

namespace Sys2Proof.Machine

open Reg

/-! ### Register frames -/

/-- An indexed register below all those written is as before. -/
theorem RegsBut.geti_below {l : List Fld} {s t : State} {f : Fld} {i : Nat} (h : RegsBut l s t) (hf : ∀ g ∈ l, f.key i 0 < g.key 0 0) :
    t.geti f i = s.geti f i :=
  h.geti fun g hg a b => Nat.ne_of_lt (Nat.lt_of_lt_of_le (hf g hg) (g.key_zero_le a b))

/-- An indexed register at another position of its word than all those written is as before. -/
theorem RegsBut.geti_lo {l : List Fld} {s t : State} {f : Fld} {i : Nat} (h : RegsBut l s t) (hlo : f.lo < 32)
    (hf : ∀ g ∈ l, f.lo ≠ g.lo ∧ g.lo < 32) : t.geti f i = s.geti f i :=
  h.geti fun g hg _ _ => Fld.key_ne_of_lo (hf g hg).1 hlo (hf g hg).2 _ _ _ _

theorem SameBut.withCfg {l : List Part} {s t : State} (h : SameBut l s t) (k : CfgSt) (hl : .cfg ∈ l) : SameBut l s { t with cfg := k } :=
  h.step (l' := [.cfg]) (fun p hp => by cases p <;> simp at hp <;> rfl) (by simpa using hl)

theorem SameBut.withTwn {l : List Part} {s t : State} (h : SameBut l s t) (k : TwnSt) (hl : .twn ∈ l) : SameBut l s { t with twn := k } :=
  h.step (l' := [.twn]) (fun p hp => by cases p <;> simp at hp <;> rfl) (by simpa using hl)

/-! ### Changeover slots (R101, R345) -/

/-- The fields that name a slot in its Rooms. -/
def coMarkFlds : List Fld := [CFG_ROOM_STAT_CO_PENDING, CFG_ROOM_STAT_CO_SLOT]

theorem State.coMark_frame (s : State) (m j : Nat) (on : Bool) : SameBut [.regs] s (s.coMark m j on) ∧ RegsBut coMarkFlds s (s.coMark m j on) :=
  ⟨SameBut.foldl _ (fun u _ => ((SameBut.refl _ u).seti (by simp)).seti (by simp)) _ s,
    RegsBut.fold (fun u _ => ((RegsBut.refl _ u).seti (by decide)).seti (by decide)) _ (RegsBut.refl _ s)⟩

/-- The fields of a slot that taking it writes. -/
def coTakeFlds : List Fld := [CFG_CO_MASK_ROOMS, CFG_CO_MASK_ROLLBACK, CFG_CO_MASK_CHAIN, CFG_CO_TICK_LO_T_LO, CFG_CO_TICK_HI_T_HI, CFG_CO_ITIN_ITIN_ID,
  CFG_CO_STAT_STATE, CFG_CO_STAT_CAUSE]

/-- The slot with its request, not yet named in its Rooms. -/
def State.coFill (s : State) (j own m t itin : Nat) (rb : Bool) : State :=
  let s1 := ((((((s.seti CFG_CO_MASK_ROOMS j m).seti CFG_CO_MASK_ROLLBACK j (b2n rb)).seti CFG_CO_MASK_CHAIN j (b2n (decide (2 ≤ own)))).seti
    CFG_CO_TICK_LO_T_LO j t).seti CFG_CO_TICK_HI_T_HI j (t / 2 ^ 32)).seti CFG_CO_ITIN_ITIN_ID j itin)
  (s1.seti CFG_CO_STAT_STATE j 1).seti CFG_CO_STAT_CAUSE j 0

theorem State.coFill_frame (s : State) (j own m t itin : Nat) (rb : Bool) :
    SameBut [.regs] s (s.coFill j own m t itin rb) ∧ RegsBut coTakeFlds s (s.coFill j own m t itin rb) :=
  ⟨((((((((SameBut.refl _ s).seti (by simp)).seti (by simp)).seti (by simp)).seti (by simp)).seti (by simp)).seti (by simp)).seti (by simp)).seti (by simp),
    ((((((((RegsBut.refl _ s).seti (by decide)).seti (by decide)).seti (by decide)).seti (by decide)).seti (by decide)).seti (by decide)).seti (by decide)).seti
      (by decide)⟩

theorem State.coFill_spec (s : State) (j own m t itin : Nat) (rb : Bool) : (s.coFill j own m t itin rb).geti CFG_CO_STAT_STATE j = 1 ∧
    (s.coFill j own m t itin rb).geti CFG_CO_MASK_ROOMS j = m % 2 ^ 24 := by
  have key (f g : Fld) (h : f.addr ≠ g.addr ∨ f.lo ≠ g.lo) (h1 : f.s1 = 32) (h2 : g.s1 = 32) (hf : f.lo < 32) (hg : g.lo < 32) : f.key j 0 ≠ g.key j 0 := by
    simp only [Fld.key, h1, h2]; omega
  have ne (u : State) (f g : Fld) (v : Nat) (h : (g.addr ≠ f.addr ∨ g.lo ≠ f.lo) ∧ g.s1 = 32 ∧ f.s1 = 32 ∧ g.lo < 32 ∧ f.lo < 32) :
      (u.seti f j v).geti g j = u.geti g j := State.geti_seti_ne u f g j j v (key g f h.1 h.2.1 h.2.2.1 h.2.2.2.1 h.2.2.2.2)
  unfold State.coFill
  constructor
  · rw [ne _ _ _ _ (by decide), State.geti_seti_self]; rfl
  · iterate 7 rw [ne _ _ _ _ (by decide)]
    rw [State.geti_seti_self]
    rfl

theorem State.coTake_eq (s : State) (j own m t itin : Nat) (rb : Bool) : s.coTake j own m t itin rb =
    ({ s.coFill j own m t itin rb with cfg := { (s.coFill j own m t itin rb).cfg with
      coOwner := setAt (s.coFill j own m t itin rb).cfg.coOwner j own } } : State).coMark m j true := rfl

/-- A slot taken is PENDING for its Rooms. -/
theorem State.coTake_spec (s : State) (j own m t itin : Nat) (rb : Bool) : (s.coTake j own m t itin rb).geti CFG_CO_STAT_STATE j = 1 ∧
    (s.coTake j own m t itin rb).geti CFG_CO_MASK_ROOMS j = m % 2 ^ 24 ∧ SameBut [.regs, .cfg] s (s.coTake j own m t itin rb) ∧
    RegsBut (coTakeFlds ++ coMarkFlds) s (s.coTake j own m t itin rb) := by
  obtain ⟨hsame, hregs⟩ := s.coFill_frame j own m t itin rb
  obtain ⟨hstate, hrooms⟩ := s.coFill_spec j own m t itin rb
  rw [s.coTake_eq j own m t itin rb]
  generalize s.coFill j own m t itin rb = u at hsame hregs hstate hrooms
  obtain ⟨hsame', hregs'⟩ := ({ u with cfg := { u.cfg with coOwner := setAt u.cfg.coOwner j own } } : State).coMark_frame m j true
  refine ⟨(hregs'.geti_lo (by decide) (by decide)).trans ((State.geti_congr rfl _ _).trans hstate),
    (hregs'.geti_lo (by decide) (by decide)).trans ((State.geti_congr rfl _ _).trans hrooms), ?_, ?_⟩
  · exact ((hsame.mono (by simp)).withCfg _ (by simp)).step hsame' (by simp)
  · exact ((hregs.mono fun f hf => List.mem_append_left _ hf).upd rfl).trans (hregs'.mono fun f hf => List.mem_append_right _ hf)

theorem State.coRelease_spec (s : State) (j : Nat) : (s.coRelease j).geti CFG_CO_STAT_STATE j = 0 ∧ SameBut [.regs, .cfg] s (s.coRelease j) ∧
    RegsBut (CFG_CO_STAT_STATE :: CFG_CO_MASK_CHAIN :: coMarkFlds) s (s.coRelease j) := by
  obtain ⟨hsame, hregs⟩ := s.coMark_frame (s.geti CFG_CO_MASK_ROOMS j) j false
  unfold State.coRelease
  generalize s.coMark (s.geti CFG_CO_MASK_ROOMS j) j false = u at hsame hregs
  have hstate : ((u.seti CFG_CO_STAT_STATE j 0).seti CFG_CO_MASK_CHAIN j 0).geti CFG_CO_STAT_STATE j = 0 :=
    (State.geti_seti_ne _ _ _ _ _ _ (Fld.key_ne_of_lo (by decide) (by decide) (by decide) _ _ _ _)).trans (State.geti_seti_self _ _ _ _)
  refine ⟨(State.geti_congr rfl _ _).trans hstate, ?_, ?_⟩
  · exact (((hsame.mono (by simp)).seti (by simp)).seti (by simp)).withCfg _ (by simp)
  · exact (((hregs.mono (by simp +contextual [coMarkFlds])).seti (f := CFG_CO_STAT_STATE) (i := j) (v := 0) (by simp)).seti (f := CFG_CO_MASK_CHAIN) (i := j) (v := 0) (by simp)).upd rfl

theorem State.coFree_lt {s : State} {j : Nat} (h : s.coFree = some j) : j < 4 := List.mem_range.mp (List.mem_of_find?_eq_some h)

/-! ### The mode-change record of the chain or of the twin -/

/-- The component that holds the record. -/
def mcPart (tw : Bool) : Part := if tw then .twn else .syc

theorem State.mc_setMc (s : State) (tw : Bool) (k : McSt) : (s.setMc tw k).mc tw = k := by cases tw <;> rfl

theorem State.setMc_regs (s : State) (tw : Bool) (k : McSt) : (s.setMc tw k).regs = s.regs := by cases tw <;> rfl

theorem SameBut.setMc {l : List Part} {s t : State} (h : SameBut l s t) (tw : Bool) (k : McSt) (hl : mcPart tw ∈ l) : SameBut l s (t.setMc tw k) := by
  refine h.step (l' := [mcPart tw]) (fun p hp => ?_) (by simpa using hl)
  cases tw <;> cases p <;> simp [mcPart] at hp <;> rfl

theorem State.mc_congr {s t : State} {tw : Bool} (h : (mcPart tw).same s t) : t.mc tw = s.mc tw := by
  cases tw
  · exact congrArg SycSt.mc h
  · exact congrArg TwnSt.mc h

/-- The record's changes leave the rest of the twin. -/
theorem State.setMc_twn (s : State) (k : McSt) : (s.setMc true k).twn = { s.twn with mc := k } := rfl

/-! ### Disarming (R101, R109) -/

/-- A record with nothing armed. -/
def McSt.disarmed (k : McSt) : McSt := { k with armMask := 0, armSwitch := false, armSlot := none, armMode := 0 }

/-- The slot that the record holds is free. -/
def State.mcRelease (s : State) (tw : Bool) : State :=
  match (s.mc tw).armSlot with
  | some j => s.coRelease j
  | none => s

/-- The registers that disarming writes. -/
def disarmFlds : List Fld := SYC_MC_ARM_VALID :: CFG_CO_STAT_STATE :: CFG_CO_MASK_CHAIN :: coMarkFlds

theorem State.mcRelease_frame (s : State) (tw : Bool) : SameBut [.regs, .cfg] s (s.mcRelease tw) ∧ RegsBut disarmFlds s (s.mcRelease tw) := by
  unfold State.mcRelease
  split
  next j _ => exact ⟨(s.coRelease_spec j).2.1, (s.coRelease_spec j).2.2.mono fun f hf => List.mem_cons_of_mem _ hf⟩
  · exact ⟨SameBut.refl _ s, RegsBut.refl _ s⟩

theorem State.mcRelease_slot {s : State} {tw : Bool} {j : Nat} (h : (s.mc tw).armSlot = some j) : (s.mcRelease tw).geti CFG_CO_STAT_STATE j = 0 := by
  unfold State.mcRelease
  rw [h]
  exact (s.coRelease_spec j).1

theorem State.mcDisarm_eq (s : State) (tw : Bool) : s.mcDisarm tw =
    if tw then (s.mcRelease tw).setMc tw (s.mc tw).disarmed else ((s.mcRelease tw).setMc tw (s.mc tw).disarmed).set SYC_MC_ARM_VALID 0 := rfl

/-- Disarming frees the slot held, and leaves the proposal's record otherwise. -/
theorem State.mcDisarm_spec (s : State) (tw : Bool) : (s.mcDisarm tw).mc tw = (s.mc tw).disarmed ∧
    SameBut [.regs, .cfg, mcPart tw] s (s.mcDisarm tw) ∧ RegsBut disarmFlds s (s.mcDisarm tw) ∧
    (∀ j, (s.mc tw).armSlot = some j → (s.mcDisarm tw).geti CFG_CO_STAT_STATE j = 0) := by
  obtain ⟨hsame, hregs⟩ := s.mcRelease_frame tw
  have hsame' : SameBut [.regs, .cfg, mcPart tw] s ((s.mcRelease tw).setMc tw (s.mc tw).disarmed) := (hsame.mono (by simp)).setMc _ _ (by simp)
  have hregs' : RegsBut disarmFlds s ((s.mcRelease tw).setMc tw (s.mc tw).disarmed) := hregs.upd (State.setMc_regs _ _ _)
  have hslot (j : Nat) (h : (s.mc tw).armSlot = some j) : ((s.mcRelease tw).setMc tw (s.mc tw).disarmed).geti CFG_CO_STAT_STATE j = 0 :=
    (State.geti_congr (State.setMc_regs _ _ _) _ _).trans (State.mcRelease_slot h)
  rw [s.mcDisarm_eq tw]
  split
  · exact ⟨State.mc_setMc _ _ _, hsame', hregs', hslot⟩
  next h =>
    obtain rfl := Bool.eq_false_iff.mpr h
    refine ⟨State.mc_setMc _ _ _, hsame'.set (by simp), hregs'.set (by decide), fun j hj => ?_⟩
    refine (State.geti_set_ne _ _ _ _ _ ?_).trans (hslot j hj)
    exact Nat.ne_of_gt (Nat.lt_of_lt_of_le (by decide : SYC_MC_ARM_VALID.key 0 0 < CFG_CO_STAT_STATE.key 0 0) (Fld.key_zero_le _ _ _))

theorem State.mcDisarm_valid (s : State) : (s.mcDisarm false).get SYC_MC_ARM_VALID = 0 := (State.get_set_self _ _ _).trans rfl

theorem State.kmi_mcDisarm (s : State) (tw : Bool) : (s.mcDisarm tw).kmi = s.kmi := (s.mcDisarm_spec tw).2.1 .kmi (by cases tw <;> decide)

/-! ### Proposing (R102) -/

/-- The record of a proposal that opens. -/
def McSt.opened (k : McSt) (seq mode t phase : Nat) : McSt :=
  { k with
    isOpen := true, t := t, mode := mode, seq := seq, committed := false, acted := false, switched := false, flipped := false
    recommitted := false, decision := 0, decTarget := 0, atTick := none, phase := phase }

/-- The record while PROPOSE is being sent. -/
def McSt.sending (k : McSt) (t : Nat) : McSt := { k with op := 1, opTarget := t, opUntil := tickAdd t (tickMod - 2), watch := none }

/-- The record of a master's proposal. -/
def McSt.proposed (k : McSt) (mode t : Nat) : McSt := (k.opened ((k.seq + 1) % 16) mode t 1).sending t

/-- The registers that a proposal writes. -/
def mcOpenFlds : List Fld := [CFG_CO_TICK_LO_T_LO, CFG_CO_TICK_HI_T_HI, SYC_MC_STAT_SEQ, SYC_MC_STAT_STATE, TWN_MC_STAT_STATE]

theorem State.setMcCode_frame (s : State) (tw : Bool) (c : Nat) : SameBut [.regs] s (s.setMcCode tw c) ∧ RegsBut mcOpenFlds s (s.setMcCode tw c) := by
  cases tw
  · exact ⟨(SameBut.refl _ s).set (by simp), (RegsBut.refl _ s).set (by decide)⟩
  · exact ⟨(SameBut.refl _ s).set (by simp), (RegsBut.refl _ s).set (by decide)⟩

/-- The state with a proposal's record, its slot showing T. -/
def State.mcShow (s : State) (tw : Bool) (seq mode t phase : Nat) : State :=
  match (s.mc tw).armSlot with
  | some j => ((s.setMc tw ((s.mc tw).opened seq mode t phase)).seti CFG_CO_TICK_LO_T_LO j t).seti CFG_CO_TICK_HI_T_HI j (t / 2 ^ 32)
  | none => s.setMc tw ((s.mc tw).opened seq mode t phase)

theorem State.mcShow_frame (s : State) (tw : Bool) (seq mode t phase : Nat) :
    SameBut [.regs] (s.setMc tw ((s.mc tw).opened seq mode t phase)) (s.mcShow tw seq mode t phase) ∧
    RegsBut mcOpenFlds (s.setMc tw ((s.mc tw).opened seq mode t phase)) (s.mcShow tw seq mode t phase) := by
  unfold State.mcShow
  split
  · exact ⟨((SameBut.refl _ _).seti (by simp)).seti (by simp), ((RegsBut.refl _ _).seti (by decide)).seti (by decide)⟩
  · exact ⟨SameBut.refl _ _, RegsBut.refl _ _⟩

theorem State.mcOpen_eq (s : State) (tw : Bool) (seq mode t phase : Nat) : s.mcOpen tw seq mode t phase =
    (if tw then s.mcShow tw seq mode t phase else (s.mcShow tw seq mode t phase).set SYC_MC_STAT_SEQ seq).setMcCode tw
      ((s.mcShow tw seq mode t phase).mcReady tw mode) := rfl

theorem State.mcOpen_frame (s : State) (tw : Bool) (seq mode t phase : Nat) :
    SameBut [.regs] (s.setMc tw ((s.mc tw).opened seq mode t phase)) (s.mcOpen tw seq mode t phase) ∧
    RegsBut mcOpenFlds (s.setMc tw ((s.mc tw).opened seq mode t phase)) (s.mcOpen tw seq mode t phase) := by
  obtain ⟨hsame, hregs⟩ := s.mcShow_frame tw seq mode t phase
  rw [s.mcOpen_eq]
  generalize s.mcShow tw seq mode t phase = u at hsame hregs
  split
  · obtain ⟨hsame', hregs'⟩ := u.setMcCode_frame tw (u.mcReady tw mode)
    exact ⟨hsame.trans hsame', hregs.trans hregs'⟩
  · obtain ⟨hsame', hregs'⟩ := (u.set SYC_MC_STAT_SEQ seq).setMcCode_frame tw (u.mcReady tw mode)
    exact ⟨(hsame.set (by simp)).trans hsame', (hregs.set (by decide)).trans hregs'⟩

/-- The registers that a master's proposal writes. -/
def mcProposeFlds : List Fld := mcOpenFlds ++ [TWN_MC_STAT_OUTCOME, SYC_MC_STAT_OUTCOME, SYC_MC_TICK_LO_T_LO, SYC_MC_TICK_HI_T_HI]

/-- The master's registers show a proposal. -/
def State.mcAnnounce (s : State) (tw : Bool) (t : Nat) : State :=
  if tw then s.set TWN_MC_STAT_OUTCOME 0 else
    ((s.set SYC_MC_STAT_OUTCOME 0).set SYC_MC_TICK_LO_T_LO t).set SYC_MC_TICK_HI_T_HI (t / 2 ^ 32)

theorem State.mcPropose_eq (s : State) (tw : Bool) (mode t : Nat) : s.mcPropose tw mode t =
    ((s.mcOpen tw (((s.mc tw).seq + 1) % 16) mode t 1).setMc tw
      (((s.mcOpen tw (((s.mc tw).seq + 1) % 16) mode t 1).mc tw).sending t)).mcAnnounce tw t := rfl

theorem State.mcAnnounce_frame (s : State) (tw : Bool) (t : Nat) : SameBut [.regs] s (s.mcAnnounce tw t) ∧ RegsBut mcProposeFlds s (s.mcAnnounce tw t) := by
  unfold State.mcAnnounce
  split
  · exact ⟨(SameBut.refl _ s).set (by simp), (RegsBut.refl _ s).set (by decide)⟩
  · exact ⟨(((SameBut.refl _ s).set (by simp)).set (by simp)).set (by simp), (((RegsBut.refl _ s).set (by decide)).set (by decide)).set (by decide)⟩

/-- A record written over another. -/
theorem SameBut.setMc_setMc {s u : State} {tw : Bool} {k : McSt} (h : SameBut [.regs] (s.setMc tw k) u) (k' : McSt) :
    SameBut [.regs] (s.setMc tw k') (u.setMc tw k') := by
  intro p hp
  have hpart := h p hp
  cases tw
  · cases p
    case syc => exact congrArg (fun x : SycSt => { x with mc := k' }) hpart
    case regs => simp at hp
    all_goals exact hpart
  · cases p
    case twn => exact congrArg (fun x : TwnSt => { x with mc := k' }) hpart
    case regs => simp at hp
    all_goals exact hpart

/-- A master's proposal changes its record and registers that show it. -/
theorem State.mcPropose_frame (s : State) (tw : Bool) (mode t : Nat) :
    SameBut [.regs] (s.setMc tw ((s.mc tw).proposed mode t)) (s.mcPropose tw mode t) ∧ RegsBut mcProposeFlds s (s.mcPropose tw mode t) := by
  obtain ⟨hsame, hregs⟩ := s.mcOpen_frame tw (((s.mc tw).seq + 1) % 16) mode t 1
  have hmc : (s.mcOpen tw (((s.mc tw).seq + 1) % 16) mode t 1).mc tw = (s.mc tw).opened (((s.mc tw).seq + 1) % 16) mode t 1 :=
    (State.mc_congr (hsame _ (by cases tw <;> decide))).trans (State.mc_setMc _ _ _)
  rw [s.mcPropose_eq, hmc]
  generalize s.mcOpen tw (((s.mc tw).seq + 1) % 16) mode t 1 = u at hsame hregs
  obtain ⟨hsame', hregs'⟩ := (u.setMc tw ((s.mc tw).proposed mode t)).mcAnnounce_frame tw t
  refine ⟨(hsame.setMc_setMc _).trans hsame', RegsBut.trans ?_ hregs'⟩
  exact ((RegsBut.of_eq _ (State.setMc_regs _ _ _)).trans (hregs.mono fun f hf => List.mem_append_left _ hf)).upd (State.setMc_regs _ _ _)

/-- The record after a master's proposal. -/
theorem State.mc_mcPropose (s : State) (tw : Bool) (mode t : Nat) : (s.mcPropose tw mode t).mc tw = (s.mc tw).proposed mode t :=
  (State.mc_congr ((s.mcPropose_frame tw mode t).1 _ (by cases tw <;> decide))).trans (State.mc_setMc _ _ _)

/-! ### The host's commands (R409) -/

/-- Taking a command off its queue and disarming do not meet. -/
theorem State.mcDisarm_kmiUnpost (s : State) (m : Nat) (tw : Bool) : (s.kmiUnpost m).mcDisarm tw = (s.mcDisarm tw).kmiUnpost m := by
  have hmark (a j : Nat) : (s.kmiUnpost m).coMark a j false = (s.coMark a j false).kmiUnpost m :=
    List.foldl_hom (fun u : State => u.kmiUnpost m) (fun _ _ => rfl)
  have hrelease : (s.kmiUnpost m).mcRelease tw = (s.mcRelease tw).kmiUnpost m := by
    unfold State.mcRelease
    rw [show (s.kmiUnpost m).mc tw = s.mc tw by cases tw <;> rfl]
    cases (s.mc tw).armSlot with
    | none => rfl
    | some j =>
      simp only [State.coRelease]
      rw [show (s.kmiUnpost m).geti CFG_CO_MASK_ROOMS j = s.geti CFG_CO_MASK_ROOMS j from rfl, hmark]
      rfl
  rw [State.mcDisarm_eq, State.mcDisarm_eq, hrelease]
  cases tw <;> rfl

theorem State.mbx_mcDisarm (s : State) (m : Nat) (tw : Bool) : ((s.mcDisarm tw).kmiUnpost m).kmi.mbx.length = s.kmi.mbx.length := by
  change (s.mcDisarm tw).kmi.mbx.length = _
  rw [s.kmi_mcDisarm tw]

/-- A changeover is set or armed for a Room of the mask (R101). -/
def State.roomsTaken (s : State) (mask : Nat) : Bool :=
  (bitList mask 24).any (fun r => s.geti CFG_ROOM_STAT_CO_PENDING r == 1 || bitB s.armedRooms r)

theorem State.roomsTaken_true {s : State} {mask : Nat}
    (h : ∃ r ∈ List.range 24, bitB mask r = true ∧ (s.geti CFG_ROOM_STAT_CO_PENDING r = 1 ∨ bitB s.armedRooms r = true)) : s.roomsTaken mask = true := by
  obtain ⟨r, hr, hbit, hroom⟩ := h
  exact List.any_eq_true.mpr ⟨r, List.mem_filter.mpr ⟨hr, hbit⟩, by simpa using hroom⟩

theorem State.roomsTaken_false {s : State} {mask : Nat}
    (h : ∀ r, r < 24 → bitB mask r = true → s.geti CFG_ROOM_STAT_CO_PENDING r ≠ 1 ∧ bitB s.armedRooms r = false) : s.roomsTaken mask = false := by
  refine List.any_eq_false.mpr fun r hr => ?_
  obtain ⟨hr, hbit⟩ := List.mem_filter.mp hr
  obtain ⟨hp, ha⟩ := h r (List.mem_range.mp hr) hbit
  simp [hp, ha]

/-- The chain's record armed with an identifier, Rooms and a slot. -/
def State.syncArmed (s : State) (a0 mask : Nat) (slot : Option Nat) : State :=
  ((s.setMc false { s.mc false with armMask := mask, armSwitch := bitB a0 16, armSlot := slot, armMode := bits a0 15 0 }).set
    SYC_MC_ARM_MODE (bits a0 15 0)).set SYC_MC_ARM_VALID 1

theorem State.syncArmed_spec (s : State) (a0 mask : Nat) (slot : Option Nat) : (s.syncArmed a0 mask slot).get SYC_MC_ARM_VALID = 1 ∧
    (s.syncArmed a0 mask slot).get SYC_MC_ARM_MODE = bits a0 15 0 % 2 ^ 16 ∧ (s.syncArmed a0 mask slot).syc.mc.armMask = mask ∧
    (s.syncArmed a0 mask slot).syc.mc.armSlot = slot ∧ (s.syncArmed a0 mask slot).syc.mc.armSwitch = bitB a0 16 ∧
    SameBut [.regs, .syc] s (s.syncArmed a0 mask slot) ∧ RegsBut [SYC_MC_ARM_MODE, SYC_MC_ARM_VALID] s (s.syncArmed a0 mask slot) := by
  refine ⟨(State.get_set_self _ _ _).trans rfl, (State.get_set_ne _ _ _ _ (by decide)).trans (State.get_set_self _ _ _), rfl, rfl, rfl, ?_, ?_⟩
  · exact ((((SameBut.refl _ s).setMc false _ (by decide)).set (by simp)).set (by simp))
  · exact ((RegsBut.of_eq _ (State.setMc_regs s false _)).set (by simp)).set (by simp)

/-- What SYNC_ARM comes to (R101). -/
def State.syncArm (s : State) (a0 mask : Nat) : KmiRes :=
  if decide (2 ^ 17 ≤ a0) || decide (2 ^ 24 ≤ mask) then .fin s stBadArg 0 [] []
  else if s.syc.mc.isOpen then .fin s stBadState 0 [] []
  else if (s.mcDisarm false).roomsTaken mask then .fin s stBadState 0 [] []
  else if mask = 0 then .fin ((s.mcDisarm false).syncArmed a0 mask none) stOk 0 [] []
  else match (s.mcDisarm false).coFree with
    | none => .fin s stHeld 0 [] []
    | some j => .fin (((s.mcDisarm false).coTake j 2 mask 0 0 false).syncArmed a0 mask (some j)) stOk 0 [j] []

theorem execSyncArm_eq (m : Nat) (s : State) : exec (.syncArm m) s = kmiCommand 0x0322 m (fun c st => st.syncArm c.a0 c.a1) s := rfl

section
variable {s : State} {m : Nat} {c : KmiCmd} (hready : KmiReady s 0x0322 m c)
include hready

/-- A refused SYNC_ARM changes nothing. -/
theorem syncArm_refused {st : Nat} (h : (s.kmiUnpost m).syncArm c.a0 c.a1 = .fin (s.kmiUnpost m) st 0 [] []) :
    Answers (.syncArm m) s (fun t => KmiDone t m st [] 0 ∧ t.syc = s.syc ∧ t.cfg = s.cfg) :=
  answers_reads rfl (execSyncArm_eq m s) hready h fun _ hdone _ hsame _ => ⟨hdone, hsame .syc (by decide), hsame .cfg (by decide)⟩

theorem syncArm_badArg (h : 2 ^ 17 ≤ c.a0 ∨ 2 ^ 24 ≤ c.a1) :
    Answers (.syncArm m) s (fun t => KmiDone t m stBadArg [] 0 ∧ t.syc = s.syc ∧ t.cfg = s.cfg) :=
  syncArm_refused hready (if_pos (by simpa using h))

variable (h0 : c.a0 < 2 ^ 17) (h1 : c.a1 < 2 ^ 24)
include h0 h1

omit hready in
theorem syncArm_args : ¬(decide (2 ^ 17 ≤ c.a0) || decide (2 ^ 24 ≤ c.a1)) = true := by
  simp only [Bool.or_eq_true, decide_eq_true_eq]; omega

theorem syncArm_open (h : s.syc.mc.isOpen = true) :
    Answers (.syncArm m) s (fun t => KmiDone t m stBadState [] 0 ∧ t.syc = s.syc ∧ t.cfg = s.cfg) :=
  syncArm_refused hready ((if_neg (syncArm_args h0 h1)).trans (if_pos h))

variable (hclosed : s.syc.mc.isOpen = false)
include hclosed

omit hready in
theorem syncArm_closed : (s.kmiUnpost m).syncArm c.a0 c.a1 =
    if (s.mcDisarm false).roomsTaken c.a1 then .fin (s.kmiUnpost m) stBadState 0 [] []
    else if c.a1 = 0 then .fin (((s.mcDisarm false).kmiUnpost m).syncArmed c.a0 c.a1 none) stOk 0 [] []
    else match (s.mcDisarm false).coFree with
      | none => .fin (s.kmiUnpost m) stHeld 0 [] []
      | some j => .fin ((((s.mcDisarm false).kmiUnpost m).coTake j 2 c.a1 0 0 false).syncArmed c.a0 c.a1 (some j)) stOk 0 [j] [] := by
  rw [← State.mcDisarm_kmiUnpost]
  refine (if_neg (syncArm_args h0 h1)).trans ((if_neg (by rw [show (s.kmiUnpost m).syc = s.syc from rfl, hclosed]; decide)).trans ?_)
  rw [State.mcDisarm_kmiUnpost]
  rfl

theorem syncArm_taken (h : (s.mcDisarm false).roomsTaken c.a1 = true) :
    Answers (.syncArm m) s (fun t => KmiDone t m stBadState [] 0 ∧ t.syc = s.syc ∧ t.cfg = s.cfg) :=
  syncArm_refused hready ((syncArm_closed h0 h1 hclosed).trans (if_pos h))

theorem syncArm_noSlot (h : (s.mcDisarm false).roomsTaken c.a1 = false) (hmask : c.a1 ≠ 0) (hfree : (s.mcDisarm false).coFree = none) :
    Answers (.syncArm m) s (fun t => KmiDone t m stHeld [] 0 ∧ t.syc = s.syc ∧ t.cfg = s.cfg) := by
  refine syncArm_refused hready ((syncArm_closed h0 h1 hclosed).trans ((if_neg (by rw [h]; decide)).trans ((if_neg hmask).trans ?_)))
  rw [hfree]

omit hready h0 h1 hclosed in
theorem kmi_syncArmed (u : State) (a0 mask : Nat) (slot : Option Nat) : (u.syncArmed a0 mask slot).kmi = u.kmi := rfl

/-- SYNC_ARM without Rooms takes no slot. -/
theorem syncArm_noRooms (hmask : c.a1 = 0) : Answers (.syncArm m) s (fun t => KmiDone t m stOk [] 0 ∧
    t.get SYC_MC_ARM_VALID = 1 ∧ t.get SYC_MC_ARM_MODE = c.a0 % 2 ^ 16 ∧ t.syc.mc.armMask = 0 ∧ t.syc.mc.armSlot = none ∧
    t.syc.mc.armSwitch = bitB c.a0 16) := by
  have htaken : (s.mcDisarm false).roomsTaken c.a1 = false := by rw [hmask]; rfl
  refine answers_delivers rfl (execSyncArm_eq m s) hready
    ((syncArm_closed h0 h1 hclosed).trans ((if_neg (by rw [htaken]; decide)).trans (if_pos hmask))) ?_ fun t hdone _ hsame hregs => ?_
  · rw [kmi_syncArmed]
    exact s.mbx_mcDisarm m false
  · obtain ⟨hvalid, hmode, hrooms, hslot, hswitch, -, -⟩ := ((s.mcDisarm false).kmiUnpost m).syncArmed_spec c.a0 c.a1 none
    have hsyc := hsame .syc (by decide)
    refine ⟨hdone, (hregs.get_apart (by decide)).trans hvalid, (hregs.get_apart (by decide)).trans (hmode.trans ?_), ?_, ?_, ?_⟩
    · simp [bits]
    · rw [hsyc, hrooms, hmask]
    · rw [hsyc, hslot]
    · rw [hsyc, hswitch]

/-- SYNC_ARM takes a free slot for its Rooms. -/
theorem syncArm_slot (h : (s.mcDisarm false).roomsTaken c.a1 = false) (hmask : c.a1 ≠ 0) {j : Nat} (hfree : (s.mcDisarm false).coFree = some j) :
    Answers (.syncArm m) s (fun t => KmiDone t m stOk [j] 0 ∧ t.get SYC_MC_ARM_VALID = 1 ∧
      t.get SYC_MC_ARM_MODE = c.a0 % 2 ^ 16 ∧ t.syc.mc.armSwitch = bitB c.a0 16 ∧
      t.syc.mc.armMask = c.a1 ∧ t.syc.mc.armSlot = some j ∧ t.geti CFG_CO_STAT_STATE j = 1 ∧ t.geti CFG_CO_MASK_ROOMS j = c.a1) := by
  obtain ⟨hstate, hco, htake, -⟩ := ((s.mcDisarm false).kmiUnpost m).coTake_spec j 2 c.a1 0 0 false
  have hj := State.coFree_lt hfree
  refine answers_delivers rfl (execSyncArm_eq m s) hready
    (u := (((s.mcDisarm false).kmiUnpost m).coTake j 2 c.a1 0 0 false).syncArmed c.a0 c.a1 (some j)) (st := stOk) (d := 0) (r := [j]) (data := [])
    ((syncArm_closed h0 h1 hclosed).trans ((if_neg (by rw [h]; decide)).trans ((if_neg hmask).trans (by rw [hfree])))) ?_ fun t hdone _ hsame hregs => ?_
  · rw [kmi_syncArmed, htake .kmi (by decide)]
    exact s.mbx_mcDisarm m false
  · generalize ((s.mcDisarm false).kmiUnpost m).coTake j 2 c.a1 0 0 false = u at hstate hco hsame hregs
    obtain ⟨hvalid, hmode, hrooms, hslot, hswitch, -, harm⟩ := u.syncArmed_spec c.a0 c.a1 (some j)
    have hsyc := hsame .syc (by decide)
    have hslotKept {f : Fld} (hf : f.addr = 0x500050 ∨ f.addr = 0x500040) (hlo : f.lo = 0) (hs1 : f.s1 = 32) : t.geti f j = u.geti f j := by
      refine (hregs.geti_below fun g hg => ?_).trans (harm.geti fun g hg a b => ?_)
      · rw [List.mem_singleton.mp hg]
        simp only [Fld.key, KMI_MBX_STATE, hlo, hs1]; omega
      · simp only [List.mem_cons, List.not_mem_nil, or_false] at hg
        rcases hg with rfl | rfl <;> (simp only [Fld.key, SYC_MC_ARM_MODE, SYC_MC_ARM_VALID, hlo, hs1]; omega)
    refine ⟨hdone, (hregs.get_apart (by decide)).trans hvalid, (hregs.get_apart (by decide)).trans (hmode.trans ?_), ?_, ?_, ?_, ?_, ?_⟩
    · simp [bits]
    · rw [hsyc, hswitch]
    · rw [hsyc, hrooms]
    · rw [hsyc, hslot]
    · rw [hslotKept (.inl rfl) rfl rfl, hstate]
    · rw [hslotKept (.inr rfl) rfl rfl, hco, Nat.mod_eq_of_lt h1]

end

/-- SYNC_DISARM while a proposal is open changes nothing. -/
theorem syncDisarm_open {s : State} {m : Nat} {c : KmiCmd} (hready : KmiReady s 0x0323 m c) (h : s.syc.mc.isOpen = true) :
    Answers (.syncDisarm m) s (fun t => KmiDone t m stBadState [] 0 ∧ t.syc = s.syc) :=
  answers_reads (x := execSyncDisarm m s) rfl rfl hready (if_pos h) fun _ hdone _ hsame _ => ⟨hdone, hsame .syc (by decide)⟩

/-- SYNC_DISARM frees the slot held. -/
theorem syncDisarm_frees {s : State} {m : Nat} {c : KmiCmd} (hready : KmiReady s 0x0323 m c) (h : s.syc.mc.isOpen = false) :
    Answers (.syncDisarm m) s (fun t => KmiDone t m stOk [] 0 ∧ t.get SYC_MC_ARM_VALID = 0 ∧
      t.syc.mc.armMask = 0 ∧ t.syc.mc.armSlot = none ∧ ∀ j, j < 4 → s.syc.mc.armSlot = some j → t.geti CFG_CO_STAT_STATE j = 0) := by
  have hbody : (if (s.kmiUnpost m).syc.mc.isOpen = true then KmiRes.fin (s.kmiUnpost m) stBadState 0 [] []
      else KmiRes.fin ((s.kmiUnpost m).mcDisarm false) stOk 0 [] []) = .fin ((s.mcDisarm false).kmiUnpost m) stOk 0 [] [] := by
    rw [State.mcDisarm_kmiUnpost]
    exact if_neg (by rw [show (s.kmiUnpost m).syc = s.syc from rfl, h]; decide)
  obtain ⟨hmc, -, -, hslot⟩ := s.mcDisarm_spec false
  refine answers_delivers (x := execSyncDisarm m s) rfl rfl hready hbody (s.mbx_mcDisarm m false) fun t hdone _ hsame hregs => ?_
  have hsyc : t.syc.mc = s.syc.mc.disarmed := (congrArg SycSt.mc (hsame .syc (by decide))).trans hmc
  refine ⟨hdone, (hregs.get_apart (by decide)).trans s.mcDisarm_valid, by rw [hsyc]; rfl, by rw [hsyc]; rfl, fun j hj ha => ?_⟩
  refine (hregs.geti_below fun g hg => ?_).trans (hslot j ha)
  rw [List.mem_singleton.mp hg]
  simp only [Fld.key, CFG_CO_STAT_STATE, KMI_MBX_STATE]; omega

/-- What SYNC_PROPOSE comes to (R102). -/
def State.syncPropose (s : State) (a0 a1 : Nat) : KmiRes :=
  if decide (2 ^ 16 ≤ a0) || decide (2 ^ 48 ≤ a1) then .fin s stBadArg 0 [] []
  else if !s.mcMaster false || s.syc.mc.isOpen then .fin s stBadState 0 [] []
  else if !tickGe a1 (tickAdd s.tickno (3 + s.mcLag false)) then .fin s stDeadline 0 [] []
  else .run (s.mcPropose false a0 a1) true 0

theorem execSyncPropose_eq (m : Nat) (s : State) : exec (.syncPropose m) s = kmiCommand 0x0324 m (fun c st => st.syncPropose c.a0 c.a1) s := rfl

section
variable {s : State} {m : Nat} {c : KmiCmd} (hready : KmiReady s 0x0324 m c)
include hready

theorem syncPropose_refused {st : Nat} (h : (s.kmiUnpost m).syncPropose c.a0 c.a1 = .fin (s.kmiUnpost m) st 0 [] []) :
    Answers (.syncPropose m) s (fun t => KmiDone t m st [] 0 ∧ t.syc = s.syc) :=
  answers_reads rfl (execSyncPropose_eq m s) hready h fun _ hdone _ hsame _ => ⟨hdone, hsame .syc (by decide)⟩

theorem syncPropose_badArg (h : 2 ^ 16 ≤ c.a0 ∨ 2 ^ 48 ≤ c.a1) : Answers (.syncPropose m) s (fun t => KmiDone t m stBadArg [] 0 ∧ t.syc = s.syc) :=
  syncPropose_refused hready (if_pos (by simpa using h))

variable (h0 : c.a0 < 2 ^ 16) (h1 : c.a1 < 2 ^ 48)
include h0 h1

omit hready in
theorem syncPropose_args : ¬(decide (2 ^ 16 ≤ c.a0) || decide (2 ^ 48 ≤ c.a1)) = true := by
  simp only [Bool.or_eq_true, decide_eq_true_eq]; omega

theorem syncPropose_badState (h : s.mcMaster false = false ∨ s.syc.mc.isOpen = true) :
    Answers (.syncPropose m) s (fun t => KmiDone t m stBadState [] 0 ∧ t.syc = s.syc) := by
  refine syncPropose_refused hready ((if_neg (syncPropose_args h0 h1)).trans (if_pos ?_))
  rw [show (s.kmiUnpost m).mcMaster false = s.mcMaster false from rfl, show (s.kmiUnpost m).syc = s.syc from rfl]
  simpa using h

variable (hmaster : s.mcMaster false = true) (hclosed : s.syc.mc.isOpen = false)
include hmaster hclosed

omit hready h0 h1 in
theorem syncPropose_may : ¬(!(s.kmiUnpost m).mcMaster false || (s.kmiUnpost m).syc.mc.isOpen) = true := by
  rw [show (s.kmiUnpost m).mcMaster false = s.mcMaster false from rfl, show (s.kmiUnpost m).syc = s.syc from rfl, hmaster, hclosed]
  decide

theorem syncPropose_late (h : tickGe c.a1 (tickAdd s.tickno (3 + s.mcLag false)) = false) :
    Answers (.syncPropose m) s (fun t => KmiDone t m stDeadline [] 0 ∧ t.syc = s.syc) := by
  refine syncPropose_refused hready ((if_neg (syncPropose_args h0 h1)).trans ((if_neg (syncPropose_may hmaster hclosed)).trans (if_pos ?_)))
  rw [show (s.kmiUnpost m).tickno = s.tickno from rfl, show (s.kmiUnpost m).mcLag false = s.mcLag false from rfl, h]
  rfl

/-- SYNC_PROPOSE opens a proposal that goes into the master's messages. -/
theorem syncPropose_proposes (h : tickGe c.a1 (tickAdd s.tickno (3 + s.mcLag false)) = true) :
    Answers (.syncPropose m) s (fun t => KmiRuns t m c ∧ t.syc.mc = s.syc.mc.proposed c.a0 c.a1) := by
  refine answers_executes rfl (execSyncPropose_eq m s) hready
    ((if_neg (syncPropose_args h0 h1)).trans ((if_neg (syncPropose_may hmaster hclosed)).trans (if_neg ?_))) fun t hruns hsame _ _ _ => ⟨hruns, ?_⟩
  · rw [show (s.kmiUnpost m).tickno = s.tickno from rfl, show (s.kmiUnpost m).mcLag false = s.mcLag false from rfl, h]
    decide
  · exact (congrArg SycSt.mc (hsame .syc (by decide))).trans ((s.kmiUnpost m).mc_mcPropose false c.a0 c.a1)

end

/-- What SYNC_LOCAL comes to (R108). -/
def State.syncLocal (s : State) (a0 : Nat) : KmiRes :=
  if decide (2 ≤ a0) then .fin s stBadArg 0 [] []
  else if s.mcCode (s.mcCode false != 8) != 8 then .fin s stBadState 0 [] []
  else .run (s.setMc (s.mcCode false != 8) { s.mc (s.mcCode false != 8) with localReq := 1 + a0 }) true 0

theorem execSyncLocal_eq (m : Nat) (s : State) : exec (.syncLocal m) s = kmiCommand 0x0325 m (fun c st => st.syncLocal c.a0) s := rfl

section
variable {s : State} {m : Nat} {c : KmiCmd} (hready : KmiReady s 0x0325 m c)
include hready

theorem syncLocal_refused {st : Nat} (h : (s.kmiUnpost m).syncLocal c.a0 = .fin (s.kmiUnpost m) st 0 [] []) :
    Answers (.syncLocal m) s (fun t => KmiDone t m st [] 0 ∧ t.syc = s.syc ∧ t.twn = s.twn) :=
  answers_reads rfl (execSyncLocal_eq m s) hready h fun _ hdone _ hsame _ => ⟨hdone, hsame .syc (by decide), hsame .twn (by decide)⟩

theorem syncLocal_badArg (h : 2 ≤ c.a0) : Answers (.syncLocal m) s (fun t => KmiDone t m stBadArg [] 0 ∧ t.syc = s.syc ∧ t.twn = s.twn) :=
  syncLocal_refused hready (if_pos (decide_eq_true h))

theorem syncLocal_badState (h0 : c.a0 < 2) (hc : s.mcCode false ≠ 8) (ht : s.mcCode true ≠ 8) :
    Answers (.syncLocal m) s (fun t => KmiDone t m stBadState [] 0 ∧ t.syc = s.syc ∧ t.twn = s.twn) := by
  refine syncLocal_refused hready ((if_neg (by simpa using h0)).trans (if_pos ?_))
  rw [show (s.kmiUnpost m).mcCode = s.mcCode from rfl, bne_iff_ne.mpr hc]
  exact bne_iff_ne.mpr ht

/-- SYNC_LOCAL is kept for the next boundary by the chain's record where the chain is UNRESOLVED. -/
theorem syncLocal_chain (h0 : c.a0 < 2) (hc : s.mcCode false = 8) :
    Answers (.syncLocal m) s (fun t => KmiRuns t m c ∧ t.syc.mc.localReq = 1 + c.a0 ∧ t.twn = s.twn) := by
  have htw : ((s.kmiUnpost m).mcCode false != 8) = false := by rw [show (s.kmiUnpost m).mcCode = s.mcCode from rfl, hc]; rfl
  refine answers_executes rfl (execSyncLocal_eq m s) hready (u := (s.kmiUnpost m).setMc false { s.mc false with localReq := 1 + c.a0 }) (w := true) (k := 0)
    ((if_neg (by simpa using h0)).trans ?_) fun t hruns hsame _ _ _ => ⟨hruns, ?_, hsame .twn (by decide)⟩
  · rw [htw, show (s.kmiUnpost m).mcCode = s.mcCode from rfl, hc]
    rfl
  · rw [hsame .syc (by decide)]; rfl

/-- And by the twin's where only the twin is. -/
theorem syncLocal_twin (h0 : c.a0 < 2) (hc : s.mcCode false ≠ 8) (ht : s.mcCode true = 8) :
    Answers (.syncLocal m) s (fun t => KmiRuns t m c ∧ t.twn.mc.localReq = 1 + c.a0 ∧ t.syc = s.syc) := by
  have htw : ((s.kmiUnpost m).mcCode false != 8) = true := by rw [show (s.kmiUnpost m).mcCode = s.mcCode from rfl]; exact bne_iff_ne.mpr hc
  refine answers_executes rfl (execSyncLocal_eq m s) hready (u := (s.kmiUnpost m).setMc true { s.mc true with localReq := 1 + c.a0 }) (w := true) (k := 0)
    ((if_neg (by simpa using h0)).trans ?_) fun t hruns hsame _ _ _ => ⟨hruns, ?_, hsame .syc (by decide)⟩
  · rw [htw, show (s.kmiUnpost m).mcCode = s.mcCode from rfl, ht]
    rfl
  · rw [hsame .twn (by decide)]; rfl

end

end Sys2Proof.Machine

open Sys2Proof.Machine Sys2Proof.Machine.Reg

/-- Settles O50: each command's body takes one branch; arming, disarming and proposing have one rule each. -/
theorem modeChangeCommands : Obligations.ModeChangeCommands := by
  unfold Obligations.ModeChangeCommands
  refine ⟨fun s m c hready => ⟨fun h => ?_, fun h0 h1 hopen => ?_, fun h0 hmask hclosed => ?_, fun h0 h1 hclosed d hd => ⟨fun h => ?_, fun h hmask =>
      ⟨fun j hfree => ?_, fun hfree => ?_⟩⟩⟩,
    fun s m c hready => ⟨syncDisarm_open hready, syncDisarm_frees hready⟩,
    fun s m c hready => ⟨syncPropose_badArg hready, fun h0 h1 => ⟨syncPropose_badState hready h0 h1, fun hmaster hclosed =>
      ⟨syncPropose_late hready h0 h1 hmaster hclosed, fun h => ?_⟩⟩⟩,
    fun s m c hready => ⟨syncLocal_badArg hready, syncLocal_badState hready, syncLocal_chain hready, syncLocal_twin hready⟩⟩
  · obtain ⟨t, ht, hdone, hsyc, -⟩ := syncArm_badArg hready h
    exact ⟨t, ht, hdone, hsyc⟩
  · obtain ⟨t, ht, hdone, hsyc, -⟩ := syncArm_open hready h0 h1 hopen
    exact ⟨t, ht, hdone, hsyc⟩
  · exact syncArm_noRooms hready h0 (by omega) hclosed hmask
  · subst hd
    exact syncArm_taken hready h0 h1 hclosed (State.roomsTaken_true h)
  · subst hd
    exact syncArm_slot hready h0 h1 hclosed (State.roomsTaken_false h) hmask hfree
  · subst hd
    exact syncArm_noSlot hready h0 h1 hclosed (State.roomsTaken_false h) hmask hfree
  · obtain ⟨t, ht, hruns, hmc⟩ := syncPropose_proposes hready h0 h1 hmaster hclosed h
    refine ⟨t, ht, hruns, ?_⟩
    rw [hmc]
    exact ⟨rfl, rfl, rfl, rfl, rfl, rfl⟩
end

section
/-! Checkpoints, catch-up and the twin's commands (R527 to R530, R535 to R537): the proof of Obligations.TwinCommands. -/

namespace Sys2Proof.Machine

open Reg

/-! ### Checkpoints (R527, R528) -/

theorem State.headerPage_same (s : State) : SameBut [.dmc, .fab, .out] s s.headerPage := by
  unfold State.headerPage
  extract_lets role page
  split
  · exact (Serves.dramWrite _ _ _ _ _).same
  · exact SameBut.refl _ s

/-- A complete checkpoint shows its tick, and writes memory at most. -/
theorem State.ckptComplete_spec (s : State) (tick : Nat) : (s.ckptComplete tick).get TWN_CKPT_TICK_LO_TICK = tick % 2 ^ 32 ∧
    (s.ckptComplete tick).get TWN_CKPT_TICK_HI_TICK = tick / 2 ^ 32 % 2 ^ 16 ∧ SameBut [.regs, .dmc, .fab, .out] s (s.ckptComplete tick) := by
  have hpage := State.headerPage_same ((s.set TWN_CKPT_TICK_LO_TICK tick).set TWN_CKPT_TICK_HI_TICK (tick / 2 ^ 32))
  have hregs := hpage .regs (by decide)
  refine ⟨?_, ?_, (((SameBut.refl _ s).set (by simp)).set (by simp)).step hpage (by simp)⟩
  · exact (State.get_congr hregs _).trans ((State.get_set_ne _ _ _ _ (by decide)).trans (State.get_set_self _ _ _))
  · exact (State.get_congr hregs _).trans (State.get_set_self _ _ _)

/-- The registers that reading a checkpoint's lines writes. -/
def ckptFlds : List Fld := TWN_CNT2_CKPT_UE :: ueFlds

/-- One line of a checkpoint is read on the Lead: an uncorrectable one is counted and recorded. -/
def ckptRead (base : Nat) (p : List Nat × State) (i : Nat) : List Nat × State :=
  let r := p.2.dramRead 210 (base + 64 * i) 64
  (p.1 ++ r.1, match r.2.1 with
    | some l => (r.2.2.inc TWN_CNT2_CKPT_UE).ledger 0x0B03 (64 * l)
    | none => r.2.2)

theorem ckptRead_spec (base : Nat) (p : List Nat × State) (i : Nat) :
    (ckptRead base p i).2.twn = p.2.twn ∧ RegsBut ckptFlds p.2 (ckptRead base p i).2 := by
  have hsame := SameBut.dramRead p.2 210 (base + 64 * i) 64
  have hregs := (RegsBut.dramRead p.2 210 (base + 64 * i) 64).mono (l' := ckptFlds) fun f hf => List.mem_cons_of_mem _ hf
  unfold ckptRead
  extract_lets r
  simp only
  split
  · refine ⟨?_, (hregs.inc (by decide)).led (by decide)⟩
    exact ((SameBut.ledger _ _ _) .twn (by decide)).trans (hsame .twn (by decide))
  · exact ⟨hsame .twn (by decide), hregs⟩

theorem foldl_ckptRead_spec (base : Nat) (l : List Nat) (p : List Nat × State) :
    (l.foldl (ckptRead base) p).2.twn = p.2.twn ∧ RegsBut ckptFlds p.2 (l.foldl (ckptRead base) p).2 := by
  induction l generalizing p with
  | nil => exact ⟨rfl, RegsBut.refl _ _⟩
  | cons i l ih =>
    obtain ⟨htwn, hregs⟩ := ckptRead_spec base p i
    obtain ⟨htwn', hregs'⟩ := ih (ckptRead base p i)
    exact ⟨htwn'.trans htwn, hregs.trans hregs'⟩

theorem State.ckptStart_eq (s : State) (n : Nat) : s.ckptStart n =
    (let p := (List.range (s.get TWN_CKPT_GEOM_LINES)).foldl (ckptRead (s.ckptSlot n)) ([], s)
     { p.2.emit (.twin 3 p.1) with twn := { p.2.twn with ckpt := some n } }) := by
  unfold State.ckptStart
  simp only
  rfl

/-- Starting a checkpoint reads its lines, counting the uncorrectable ones. -/
theorem State.ckptStart_spec (s : State) (n : Nat) : (s.ckptStart n).twn = { s.twn with ckpt := some n } ∧ RegsBut ckptFlds s (s.ckptStart n) := by
  obtain ⟨htwn, hregs⟩ := foldl_ckptRead_spec (s.ckptSlot n) (List.range (s.get TWN_CKPT_GEOM_LINES)) ([], s)
  rw [s.ckptStart_eq n]
  generalize (List.range (s.get TWN_CKPT_GEOM_LINES)).foldl (ckptRead (s.ckptSlot n)) ([], s) = p at htwn hregs
  exact ⟨congrArg (fun k : TwnSt => { k with ckpt := some n }) htwn, hregs.upd rfl⟩

theorem State.get_setNow_high' (s : State) (t : Nat) : (s.setNow t).get TWN_STAT_MODE = s.get TWN_STAT_MODE ∧
    (s.setNow t).isCompanion = s.isCompanion := by
  refine ⟨s.get_setNow_high t (by decide), ?_⟩
  rw [State.isCompanion, s.get_setNow_high t (by decide), s.flag_setNow_high t (by decide), State.isCompanion]

/-- A checkpoint that is done late is counted (R528). -/
def State.ckptLate (s : State) (n : Nat) : State := if tickGe s.tick.opened (tickAdd n 2) then s.inc TWN_CNT2_CKPT_LATE else s

/-- The Lead has no checkpoint under way any more. -/
def State.leadEnd (s : State) (n : Nat) : State := State.ckptComplete { s with twn := { s.twn with ckpt := none } } n

/-- The Lead's checkpoint `n` done, before one that waits starts. -/
def State.leadCkpt (s : State) (n : Nat) : State := (s.ckptLate n).leadEnd n

theorem State.leadCkpt_spec (s : State) (n : Nat) : (s.leadCkpt n).get TWN_CKPT_TICK_LO_TICK = n % 2 ^ 32 ∧
    (s.leadCkpt n).get TWN_CKPT_TICK_HI_TICK = n / 2 ^ 32 % 2 ^ 16 ∧ (s.leadCkpt n).twn = { s.twn with ckpt := none } := by
  have h1 : (s.ckptLate n).twn = s.twn := by
    unfold State.ckptLate
    split <;> rfl
  unfold State.leadCkpt State.leadEnd
  generalize s.ckptLate n = s1 at h1
  obtain ⟨hlo, hhi, hsame⟩ := State.ckptComplete_spec { s1 with twn := { s1.twn with ckpt := none } } n
  exact ⟨hlo, hhi, (hsame .twn (by decide)).trans (by rw [h1])⟩

/-- The lines of a checkpoint written on the Companion. -/
def State.ckptLines (s : State) (tick : Nat) (data ue failed : List Nat) : State :=
  (List.range (s.get TWN_CKPT_GEOM_LINES)).foldl (fun st i => st.ckptLine (s.ckptSlot tick) i data (ue.contains i) (failed.contains i)) s

/-- A checkpoint of the Companion (R527). -/
theorem checkpointDone_companion {s : State} (tick t : Nat) (data ue failed : List Nat) (h : (s.isCompanion && s.get TWN_STAT_MODE == 2) = true) :
    Answers (.checkpointDone tick data ue failed t) s (fun u =>
      u.get TWN_CKPT_TICK_LO_TICK = tick % 2 ^ 32 ∧ u.get TWN_CKPT_TICK_HI_TICK = tick / 2 ^ 32 % 2 ^ 16) := by
  obtain ⟨hmode, hcomp⟩ := s.get_setNow_high' t
  rw [← hmode, ← hcomp] at h
  have hexec : exec (.checkpointDone tick data ue failed t) s = .next (((s.setNow t).ckptLines tick data ue failed).ckptComplete tick) := if_pos h
  obtain ⟨hlo, hhi, -⟩ := ((s.setNow t).ckptLines tick data ue failed).ckptComplete_spec tick
  exact ⟨_, hexec, hlo, hhi⟩

/-- The next checkpoint that waits is started by `start`. -/
def State.nextCkpt (start : State → Nat → State) (s : State) : State :=
  match s.twn.ckptWait with
  | [] => s
  | k :: rest => start { s with twn := { s.twn with ckptWait := rest } } k

theorem State.nextCkpt_spec {start : State → Nat → State}
    (hstart : ∀ v k, (start v k).twn = { v.twn with ckpt := some k } ∧ RegsBut ckptFlds v (start v k)) {u : State} (hnone : u.twn.ckpt = none) :
    RegsBut ckptFlds u (u.nextCkpt start) ∧ (u.nextCkpt start).twn.ckpt = u.twn.ckptWait.head? ∧
      (u.nextCkpt start).twn.ckptWait = u.twn.ckptWait.tail := by
  unfold State.nextCkpt
  split
  next hwait => rw [hwait]; exact ⟨RegsBut.refl _ u, hnone, rfl⟩
  next k rest hwait =>
    obtain ⟨htwn, hregs⟩ := hstart { u with twn := { u.twn with ckptWait := rest } } k
    rw [hwait, htwn]
    exact ⟨(RegsBut.of_eq _ rfl).trans hregs, rfl, rfl⟩

/-- What a checkpoint of the Lead comes to, whatever completing and starting one do. -/
theorem leadCkpt_next (comp start : State → Nat → State) {s : State} {n : Nat} (hn : s.twn.ckpt = some n) : (match s.twn.ckpt with
    | none => ok s
    | some n =>
      let s1 := if tickGe s.tick.opened (tickAdd n 2) then s.inc TWN_CNT2_CKPT_LATE else s
      let s2 := comp { s1 with twn := { s1.twn with ckpt := none } } n
      match s2.twn.ckptWait with
      | [] => ok s2
      | k :: rest => ok (start { s2 with twn := { s2.twn with ckptWait := rest } } k)) =
    (.next ((comp { s.ckptLate n with twn := { (s.ckptLate n).twn with ckpt := none } } n).nextCkpt start) : Host.Outcome State Fault Refusal) := by
  rw [hn]
  unfold State.nextCkpt State.ckptLate
  dsimp only
  generalize comp _ n = u
  cases u.twn.ckptWait <;> rfl

theorem execCheckpointDone_lead {s : State} (tick t : Nat) (data ue failed : List Nat)
    (h : ((s.setNow t).isCompanion && (s.setNow t).get TWN_STAT_MODE == 2) = false) {n : Nat} (hn : s.twn.ckpt = some n) :
    exec (.checkpointDone tick data ue failed t) s = .next (((s.setNow t).leadCkpt n).nextCkpt State.ckptStart) := by
  have hn' : (s.setNow t).twn.ckpt = some n := hn
  exact (if_neg (by rw [h]; exact Bool.false_ne_true)).trans (leadCkpt_next State.ckptComplete State.ckptStart hn')

/-- A checkpoint of the Lead, done: the one that waited starts (R528). -/
theorem checkpointDone_lead {s : State} (tick t : Nat) (data ue failed : List Nat) (h : (s.isCompanion && s.get TWN_STAT_MODE == 2) = false) {n : Nat}
    (hn : s.twn.ckpt = some n) : Answers (.checkpointDone tick data ue failed t) s (fun u =>
      u.get TWN_CKPT_TICK_LO_TICK = n % 2 ^ 32 ∧ u.get TWN_CKPT_TICK_HI_TICK = n / 2 ^ 32 % 2 ^ 16 ∧ u.twn.ckpt = s.twn.ckptWait.head? ∧
      u.twn.ckptWait = s.twn.ckptWait.tail) := by
  obtain ⟨hmode, hcomp⟩ := s.get_setNow_high' t
  rw [← hmode, ← hcomp] at h
  obtain ⟨hlo, hhi, htwn⟩ := (s.setNow t).leadCkpt_spec n
  obtain ⟨hregs, hckpt, hwait⟩ := State.nextCkpt_spec State.ckptStart_spec (u := (s.setNow t).leadCkpt n) (by rw [htwn])
  rw [htwn] at hckpt hwait
  exact ⟨_, execCheckpointDone_lead tick t data ue failed h hn, (hregs.get_single (by decide)).trans hlo, (hregs.get_single (by decide)).trans hhi,
    hckpt, hwait⟩

/-- Without a checkpoint under way nothing is done. -/
theorem checkpointDone_none {s : State} (tick t : Nat) (data ue failed : List Nat) (h : (s.isCompanion && s.get TWN_STAT_MODE == 2) = false)
    (hn : s.twn.ckpt = none) : exec (.checkpointDone tick data ue failed t) s = .next (s.setNow t) := by
  obtain ⟨hmode, hcomp⟩ := s.get_setNow_high' t
  rw [← hmode, ← hcomp] at h
  refine (if_neg (by rw [h]; exact Bool.false_ne_true)).trans ?_
  simp only [State.setNow_twn, hn, ok]

theorem not_standbyCompanion {s : State} (h : s.isCompanion = false ∨ s.get TWN_STAT_MODE ≠ 2) :
    (s.isCompanion && s.get TWN_STAT_MODE == 2) = false := by
  rcases h with h | h
  · rw [h, Bool.false_and]
  · rw [beq_eq_false_iff_ne.mpr h, Bool.and_false]

/-! ### Catch-up (R530) -/

/-- The region of the Lead written where the unit joins. -/
def State.catchupWrite (s : State) (data : List Nat) : State :=
  if s.twinCompanion && s.dpaOk (s.ckptBase + 4096) (s.ckptSize - 4096) then
    s.dramWrite 210 (s.ckptBase + 4096) (sliceBytes data 0 (s.ckptSize - 4096)) false else s

theorem catchupDone_done {s : State} (data : List Nat) (t : Nat) (h : s.flag TWN_STAT_CATCHUP = true) :
    Answers (.catchupDone data t) s (fun u => u.get TWN_STAT_CATCHUP = 0 ∧ u.twn = { s.twn with pairReady := true }) := by
  have hwrite : ((s.setNow t).catchupWrite data).twn = (s.setNow t).twn := by
    unfold State.catchupWrite
    split
    · exact (Serves.dramWrite _ _ _ _ _).same .twn (by decide)
    · rfl
  have hexec : exec (.catchupDone data t) s = .next { ((s.setNow t).catchupWrite data).set TWN_STAT_CATCHUP 0 with
      twn := { ((s.setNow t).catchupWrite data).twn with pairReady := true } } := if_pos ((s.flag_setNow_high t (by decide)).trans h)
  refine ⟨_, hexec, (State.get_set_self ((s.setNow t).catchupWrite data) TWN_STAT_CATCHUP 0).trans rfl, ?_⟩
  rw [hwrite]
  rfl

theorem catchupDone_none {s : State} (data : List Nat) (t : Nat) (h : s.flag TWN_STAT_CATCHUP = false) :
    exec (.catchupDone data t) s = .next (s.setNow t) :=
  if_neg (by rw [s.flag_setNow_high t (by decide), h]; exact Bool.false_ne_true)

/-! ### Proposals of the Lead (R102, R535) -/

section
variable {i : Instr} {op m : Nat} {body : KmiCmd → State → KmiRes} {s : State} {c : KmiCmd} {x : Host.Outcome State Fault Refusal}
  (hx : exec i s = x) (hexec : x = kmiCommand op m body s) (hready : KmiReady s op m c)
include hx hexec hready

/-- A refused command leaves the twin and the configuration as they are. -/
theorem twin_refused {st : Nat} {r : List Nat} (hb : body c (s.kmiUnpost m) = .fin (s.kmiUnpost m) st 0 r []) :
    Answers i s (fun t => KmiDone t m st r 0 ∧ t.twn = s.twn ∧ t.cfg = s.cfg) :=
  answers_reads hx hexec hready hb fun _ hdone _ hsame _ => ⟨hdone, hsame .twn (by decide), hsame .cfg (by decide)⟩

variable {mode t : Nat} (hb : body c (s.kmiUnpost m) = (s.kmiUnpost m).twinPropose mode t)
include hb

theorem twinPropose_open (h : s.twn.mc.isOpen = true) : Answers i s (fun t => KmiDone t m stBadState [] 0 ∧ t.twn = s.twn ∧ t.cfg = s.cfg) :=
  twin_refused hx hexec hready (hb.trans (if_pos h))

variable (hclosed : s.twn.mc.isOpen = false)
include hclosed

omit hx hexec hready hb in
theorem twinPropose_closed : ¬ (s.kmiUnpost m).twn.mc.isOpen = true := by
  rw [show (s.kmiUnpost m).twn = s.twn from rfl, hclosed]; decide

theorem twinPropose_late (h : tickGe t (tickAdd s.tickno (3 + s.mcLag true)) = false) :
    Answers i s (fun t => KmiDone t m stDeadline [] 0 ∧ t.twn = s.twn ∧ t.cfg = s.cfg) := by
  refine twin_refused hx hexec hready (hb.trans ((if_neg (twinPropose_closed hclosed)).trans (if_pos ?_)))
  rw [show (s.kmiUnpost m).tickno = s.tickno from rfl, show (s.kmiUnpost m).mcLag true = s.mcLag true from rfl, h]
  rfl

theorem twinPropose_proposes (h : tickGe t (tickAdd s.tickno (3 + s.mcLag true)) = true) :
    Answers i s (fun u => KmiRuns u m c ∧ u.twn = { s.twn with mc := s.twn.mc.proposed mode t }) := by
  refine answers_executes hx hexec hready (hb.trans ((if_neg (twinPropose_closed hclosed)).trans (if_neg ?_))) fun u hruns hsame _ _ _ => ⟨hruns, ?_⟩
  · rw [show (s.kmiUnpost m).tickno = s.tickno from rfl, show (s.kmiUnpost m).mcLag true = s.mcLag true from rfl, h]
    decide
  · exact (hsame .twn (by decide)).trans (((s.kmiUnpost m).mcPropose_frame true mode t).1 .twn (by decide))

end

section
variable {s : State} {m : Nat} {c : KmiCmd}

/-- A unit that is not the Lead of a pair detaches nothing. -/
theorem State.twinDetach_alone {s : State} {t : Nat} (h : s.get TWN_STAT_MODE = 0 ∨ s.mcMaster true = false) : s.twinDetach t = .fin s stBadState 0 [] [] :=
  if_pos h

theorem State.twinDetach_lead {s : State} {t : Nat} (hmode : s.get TWN_STAT_MODE ≠ 0) (hmaster : s.mcMaster true = true) :
    s.twinDetach t = s.twinPropose 0xFF00 t := if_neg (by simp [hmode, hmaster])

section
variable {i : Instr} {op : Nat} {body : KmiCmd → State → KmiRes} {x : Host.Outcome State Fault Refusal} (hx : exec i s = x)
  (hexec : x = kmiCommand op m body s) (hready : KmiReady s op m c) (hb : body c (s.kmiUnpost m) = (s.kmiUnpost m).twinDetach c.a1)
include hx hexec hready hb

/-- What a command that detaches comes to (R535). -/
theorem twinDetach_outcomes :
    (s.get TWN_STAT_MODE = 0 ∨ s.mcMaster true = false ∨ s.twn.mc.isOpen = true → Answers i s (fun t => KmiDone t m stBadState [] 0 ∧ t.twn = s.twn)) ∧
    (s.get TWN_STAT_MODE ≠ 0 → s.mcMaster true = true → s.twn.mc.isOpen = false →
      (tickGe c.a1 (tickAdd s.tickno (3 + s.mcLag true)) = false → Answers i s (fun t => KmiDone t m stDeadline [] 0 ∧ t.twn = s.twn)) ∧
      (tickGe c.a1 (tickAdd s.tickno (3 + s.mcLag true)) = true → Answers i s (fun t => KmiRuns t m c ∧ t.twn.mc.isOpen = true ∧
        t.twn.mc.mode = 0xFF00 ∧ t.twn.mc.t = c.a1 ∧ t.twn.mc.op = 1))) := by
  refine ⟨fun h => ?_, fun hmode hmaster hclosed => ?_⟩
  · by_cases halone : s.get TWN_STAT_MODE = 0 ∨ s.mcMaster true = false
    · obtain ⟨t, ht, hdone, htwn, -⟩ := twin_refused hx hexec hready (hb.trans (State.twinDetach_alone halone))
      exact ⟨t, ht, hdone, htwn⟩
    · have hopen : s.twn.mc.isOpen = true := h.resolve_left (fun h0 => halone (.inl h0)) |>.resolve_left fun h1 => halone (.inr h1)
      simp only [not_or, Bool.not_eq_false] at halone
      obtain ⟨t, ht, hdone, htwn, -⟩ := twinPropose_open hx hexec hready (hb.trans (State.twinDetach_lead halone.1 halone.2)) hopen
      exact ⟨t, ht, hdone, htwn⟩
  · have hb' := hb.trans (State.twinDetach_lead hmode hmaster)
    refine ⟨fun h => ?_, fun h => ?_⟩
    · obtain ⟨t, ht, hdone, htwn, -⟩ := twinPropose_late hx hexec hready hb' hclosed h
      exact ⟨t, ht, hdone, htwn⟩
    · obtain ⟨t, ht, hruns, htwn⟩ := twinPropose_proposes hx hexec hready hb' hclosed h
      exact ⟨t, ht, hruns, by rw [htwn]; exact ⟨rfl, rfl, rfl, rfl⟩⟩

end

/-! ### TWIN_ROLE (R537) -/

theorem execTwinRole_eq (m : Nat) (s : State) : exec (.twinRole m) s = kmiCommand 0x0B05 m (fun c st =>
    if decide (2 ≤ c.a0) || decide (2 ^ 48 ≤ c.a1) then .fin st stBadArg 0 [] []
    else if st.get TWN_STAT_MODE = 0 ∨ st.mcMaster true = false then .fin st stBadState 0 [] []
    else if c.a0 = 0 then .fin st stOk 0 [st.tickno] []
    else st.twinPropose 0xFF03 c.a1) s := rfl

section
variable (hready : KmiReady s 0x0B05 m c)
include hready

theorem twinRole_badArg (h : 2 ≤ c.a0 ∨ 2 ^ 48 ≤ c.a1) : Answers (.twinRole m) s (fun t => KmiDone t m stBadArg [] 0 ∧ t.twn = s.twn ∧ t.cfg = s.cfg) :=
  twin_refused rfl (execTwinRole_eq m s) hready (if_pos (by simpa using h))

variable (h0 : c.a0 < 2) (h1 : c.a1 < 2 ^ 48)
include h0 h1

omit hready in
theorem twinRole_args : ¬(decide (2 ≤ c.a0) || decide (2 ^ 48 ≤ c.a1)) = true := by simp only [Bool.or_eq_true, decide_eq_true_eq]; omega

theorem twinRole_alone (h : s.get TWN_STAT_MODE = 0 ∨ s.mcMaster true = false) :
    Answers (.twinRole m) s (fun t => KmiDone t m stBadState [] 0 ∧ t.twn = s.twn ∧ t.cfg = s.cfg) :=
  twin_refused rfl (execTwinRole_eq m s) hready ((if_neg (twinRole_args h0 h1)).trans (if_pos h))

variable (hmode : s.get TWN_STAT_MODE ≠ 0) (hmaster : s.mcMaster true = true)
include hmode hmaster

omit hready h0 h1 in
theorem twinRole_lead : ¬((s.kmiUnpost m).get TWN_STAT_MODE = 0 ∨ (s.kmiUnpost m).mcMaster true = false) := by
  rw [show (s.kmiUnpost m).get TWN_STAT_MODE = s.get TWN_STAT_MODE from rfl, show (s.kmiUnpost m).mcMaster true = s.mcMaster true from rfl]
  simp [hmode, hmaster]

theorem twinRole_held (h : c.a0 = 0) : Answers (.twinRole m) s (fun t => KmiDone t m stOk [s.tickno] 0 ∧ t.twn = s.twn ∧ t.cfg = s.cfg) :=
  twin_refused rfl (execTwinRole_eq m s) hready ((if_neg (twinRole_args h0 h1)).trans ((if_neg (twinRole_lead hmode hmaster)).trans (if_pos h)))

omit hready in
/-- The role Companion asked of the Lead proposes a swap. -/
theorem twinRole_swap (h : c.a0 = 1) : (fun (c : KmiCmd) (st : State) =>
    if decide (2 ≤ c.a0) || decide (2 ^ 48 ≤ c.a1) then KmiRes.fin st stBadArg 0 [] []
    else if st.get TWN_STAT_MODE = 0 ∨ st.mcMaster true = false then .fin st stBadState 0 [] []
    else if c.a0 = 0 then .fin st stOk 0 [st.tickno] []
    else st.twinPropose 0xFF03 c.a1) c (s.kmiUnpost m) = (s.kmiUnpost m).twinPropose 0xFF03 c.a1 :=
  (if_neg (twinRole_args h0 h1)).trans ((if_neg (twinRole_lead hmode hmaster)).trans (if_neg (by omega)))

end

/-! ### TWN_MC_CTRL.GO (R535) -/

/-- The conditions of GO on the Lead for tick `t`. -/
def State.mcGoes (s : State) (t : Nat) : Bool :=
  s.mcMaster true && s.get TWN_STAT_MODE != 0 && !s.twn.mc.isOpen && tickGe t (tickAdd s.tickno (3 + s.mcLag true))

/-- T of TWN_MC_TICK. -/
def State.mcGoTick (s : State) : Nat := s.get TWN_MC_TICK_LO_T_LO + 2 ^ 32 * s.get TWN_MC_TICK_HI_T_HI

theorem exec_twinMcGo (s : State) : exec .twinMcGo s =
    if s.mcGoes s.mcGoTick then .next (s.mcPropose true s.twn.mc.armMode s.mcGoTick) else .next s := rfl

theorem twinMcGo_proposes {s : State} (h : s.mcGoes s.mcGoTick = true) : Answers .twinMcGo s (fun u =>
    u.twn.mc.isOpen = true ∧ u.twn.mc.t = s.mcGoTick ∧ u.twn.mc.mode = s.twn.mc.armMode ∧ u.twn.mc.op = 1) := by
  refine ⟨_, (exec_twinMcGo s).trans (if_pos h), ?_⟩
  dsimp only
  rw [show (s.mcPropose true s.twn.mc.armMode s.mcGoTick).twn.mc = s.twn.mc.proposed s.twn.mc.armMode s.mcGoTick from s.mc_mcPropose true _ _]
  exact ⟨rfl, rfl, rfl, rfl⟩

theorem twinMcGo_none {s : State} (h : s.mcGoes s.mcGoTick = false) : exec .twinMcGo s = .next s :=
  (exec_twinMcGo s).trans (if_neg (by rw [h]; exact Bool.false_ne_true))

end

/-! ### TWIN_PAIR (R536, Table 17-7) -/

/-- The unit with an accepted pairing, its catch-up owed where there is a region. -/
def State.pairing (s : State) (mode : Nat) : State :=
  let s1 : State := { s with twn := { s.twn with pairMode := 0xFF00 + mode, pairReady := s.get TWN_CKPT_GEOM_LINES == 0 } }
  if s.get TWN_CKPT_GEOM_LINES == 0 then s1 else s1.set TWN_STAT_CATCHUP 1

theorem State.pairing_spec (s : State) (mode : Nat) :
    (s.pairing mode).twn = { s.twn with pairMode := 0xFF00 + mode, pairReady := s.get TWN_CKPT_GEOM_LINES == 0 } ∧
    RegsBut [TWN_STAT_CATCHUP] s (s.pairing mode) ∧ (s.get TWN_CKPT_GEOM_LINES ≠ 0 → (s.pairing mode).get TWN_STAT_CATCHUP = 1) := by
  unfold State.pairing
  extract_lets d s1
  split
  next h => exact ⟨rfl, RegsBut.of_eq _ rfl, fun h0 => absurd (beq_iff_eq.mp h) h0⟩
  · exact ⟨rfl, (RegsBut.of_eq [TWN_STAT_CATCHUP] (show s1.regs = s.regs from rfl)).set (by simp), fun _ => (State.get_set_self _ _ _).trans rfl⟩

theorem State.pairing_mcMaster (s : State) (mode : Nat) : (s.pairing mode).mcMaster true = s.mcMaster true := by
  obtain ⟨htwn, hregs, -⟩ := s.pairing_spec mode
  have hget {f : Fld} (hf : f.key 0 0 ≠ TWN_STAT_CATCHUP.key 0 0) : (s.pairing mode).get f = s.get f :=
    hregs.get_single fun g hg => by rw [List.mem_singleton.mp hg]; exact ⟨rfl, rfl, hf⟩
  simp only [State.mcMaster, State.twinCompanion, State.flag, hget (f := TWN_CTRL_EN) (by decide), hget (f := TWN_STAT_MODE) (by decide),
    hget (f := TWN_CTRL_ROLE_REQ) (by decide), hget (f := TWN_STAT_ROLE) (by decide), htwn]
  rfl

/-- The pairing of the Lead is proposed. -/
def State.pairStart (s : State) (mode t : Nat) : State :=
  if (s.pairing mode).mcMaster true then (s.pairing mode).mcPropose true (0xFF00 + mode) t else s.pairing mode

theorem State.pairStart_spec (s : State) (mode t : Nat) : (s.pairStart mode t).twn.pairMode = 0xFF00 + mode ∧
    (s.pairStart mode t).twn.pairReady = (s.get TWN_CKPT_GEOM_LINES == 0) ∧
    (s.get TWN_CKPT_GEOM_LINES ≠ 0 → (s.pairStart mode t).get TWN_STAT_CATCHUP = 1) ∧
    (s.mcMaster true = true → (s.pairStart mode t).twn.mc.isOpen = true ∧ (s.pairStart mode t).twn.mc.mode = 0xFF00 + mode ∧
      (s.pairStart mode t).twn.mc.t = t) := by
  obtain ⟨htwn, -, hcatch⟩ := s.pairing_spec mode
  unfold State.pairStart
  split
  next h =>
    obtain ⟨hsame, hregs⟩ := (s.pairing mode).mcPropose_frame true (0xFF00 + mode) t
    have htwn' := hsame .twn (by decide)
    refine ⟨?_, ?_, fun h0 => ?_, fun _ => ?_⟩
    · rw [htwn', State.setMc_twn, htwn]
    · rw [htwn', State.setMc_twn, htwn]
    · exact (hregs.geti_lo (f := TWN_STAT_CATCHUP) (i := 0) (by decide) (by decide)).trans (hcatch h0)
    · rw [htwn']
      exact ⟨rfl, rfl, rfl⟩
  next h =>
    rw [State.pairing_mcMaster] at h
    exact ⟨by rw [htwn], by rw [htwn], hcatch, fun hm => absurd hm h⟩

theorem State.twinPair_eq (s : State) (mode t : Nat) (auth peer : Bool) : s.twinPair mode t auth peer =
    if !s.flag TWN_CTRL_EN || !s.flag TWN_STAT_LANES_UP || !s.flag TWN_STAT_CAL_DONE || s.twn.mc.isOpen then .fin s stBadState 0 [] []
    else if !(s.slotHolds (s.get TWN_AUTH_CA_SLOT) 2 && s.lcStates.all (slotCa (s.get TWN_AUTH_CA_SLOT))) then .fin s stRefusedLc 0 [] []
    else if s.mcMaster true && !tickGe t (tickAdd s.tickno (3 + s.mcLag true)) then .fin s stDeadline 0 [] []
    else if !auth then .fin ((s.set TWN_STAT_AUTH_FAIL 1).ledger 0x0B07 0) stAuthFail 0 [] []
    else if !peer || !s.pairChecks then .fin s stBadState 0 [] []
    else .run (s.pairStart mode t) true 0 := rfl

theorem execTwinPair_eq (m : Nat) (auth peer : Bool) (s : State) : exec (.twinPair m auth peer) s = kmiCommand 0x0B03 m (fun c st =>
    if decide (3 ≤ c.a0) || decide (2 ^ 48 ≤ c.a1) then .fin st stBadArg 0 [] []
    else if c.a0 = 0 then st.twinDetach c.a1
    else st.twinPair c.a0 c.a1 auth peer) s := rfl

section
variable {s : State} {m : Nat} {c : KmiCmd} (auth peer : Bool) (hready : KmiReady s 0x0B03 m c)
include hready

theorem twinPair_badArg (h : 3 ≤ c.a0 ∨ 2 ^ 48 ≤ c.a1) :
    Answers (.twinPair m auth peer) s (fun t => KmiDone t m stBadArg [] 0 ∧ t.twn = s.twn ∧ t.cfg = s.cfg) :=
  twin_refused rfl (execTwinPair_eq m auth peer s) hready (if_pos (by simpa using h))

variable (h3 : c.a0 < 3) (h1 : c.a1 < 2 ^ 48)
include h3 h1

omit hready in
theorem twinPair_args : ¬(decide (3 ≤ c.a0) || decide (2 ^ 48 ≤ c.a1)) = true := by simp only [Bool.or_eq_true, decide_eq_true_eq]; omega

variable (h0 : 1 ≤ c.a0)
include h0

omit hready in
/-- With a mode other than ALONE the body takes the steps of Table 17-7, of the state as it is before the command. -/
theorem twinPair_steps : (if decide (3 ≤ c.a0) || decide (2 ^ 48 ≤ c.a1) then KmiRes.fin (s.kmiUnpost m) stBadArg 0 [] []
      else if c.a0 = 0 then (s.kmiUnpost m).twinDetach c.a1 else (s.kmiUnpost m).twinPair c.a0 c.a1 auth peer) =
    if !s.flag TWN_CTRL_EN || !s.flag TWN_STAT_LANES_UP || !s.flag TWN_STAT_CAL_DONE || s.twn.mc.isOpen then .fin (s.kmiUnpost m) stBadState 0 [] []
    else if !(s.slotHolds (s.get TWN_AUTH_CA_SLOT) 2 && s.lcStates.all (slotCa (s.get TWN_AUTH_CA_SLOT))) then .fin (s.kmiUnpost m) stRefusedLc 0 [] []
    else if s.mcMaster true && !tickGe c.a1 (tickAdd s.tickno (3 + s.mcLag true)) then .fin (s.kmiUnpost m) stDeadline 0 [] []
    else if !auth then .fin (((s.kmiUnpost m).set TWN_STAT_AUTH_FAIL 1).ledger 0x0B07 0) stAuthFail 0 [] []
    else if !peer || !s.pairChecks then .fin (s.kmiUnpost m) stBadState 0 [] []
    else .run ((s.kmiUnpost m).pairStart c.a0 c.a1) true 0 :=
  (if_neg (twinPair_args h3 h1)).trans ((if_neg (by omega)).trans ((s.kmiUnpost m).twinPair_eq c.a0 c.a1 auth peer))

theorem twinPair_down (h : s.flag TWN_CTRL_EN = false ∨ s.flag TWN_STAT_LANES_UP = false ∨ s.flag TWN_STAT_CAL_DONE = false ∨ s.twn.mc.isOpen = true) :
    Answers (.twinPair m auth peer) s (fun t => KmiDone t m stBadState [] 0 ∧ t.twn = s.twn ∧ t.cfg = s.cfg) := by
  refine twin_refused rfl (execTwinPair_eq m auth peer s) hready ((twinPair_steps auth peer h3 h1 h0).trans (if_pos ?_))
  rcases h with h | h | h | h <;> simp [h]

variable (hup : s.flag TWN_CTRL_EN = true ∧ s.flag TWN_STAT_LANES_UP = true ∧ s.flag TWN_STAT_CAL_DONE = true ∧ s.twn.mc.isOpen = false)
include hup

omit hready h3 h1 h0 in
theorem twinPair_up : ¬(!s.flag TWN_CTRL_EN || !s.flag TWN_STAT_LANES_UP || !s.flag TWN_STAT_CAL_DONE || s.twn.mc.isOpen) = true := by
  obtain ⟨hen, hlanes, hcal, hclosed⟩ := hup
  rw [hen, hlanes, hcal, hclosed]; decide

theorem twinPair_noCa (h : s.slotHolds (s.get TWN_AUTH_CA_SLOT) 2 = false ∨ s.lcStates.all (slotCa (s.get TWN_AUTH_CA_SLOT)) = false) :
    Answers (.twinPair m auth peer) s (fun t => KmiDone t m stRefusedLc [] 0 ∧ t.twn = s.twn ∧ t.cfg = s.cfg) := by
  refine twin_refused rfl (execTwinPair_eq m auth peer s) hready ((twinPair_steps auth peer h3 h1 h0).trans ((if_neg (twinPair_up hup)).trans (if_pos ?_)))
  rcases h with h | h <;> rw [h] <;> simp

variable (hca : s.slotHolds (s.get TWN_AUTH_CA_SLOT) 2 = true ∧ s.lcStates.all (slotCa (s.get TWN_AUTH_CA_SLOT)) = true)
include hca

omit hready h3 h1 h0 hup in
theorem twinPair_ca : ¬(!(s.slotHolds (s.get TWN_AUTH_CA_SLOT) 2 && s.lcStates.all (slotCa (s.get TWN_AUTH_CA_SLOT)))) = true := by
  rw [hca.1, hca.2]; decide

theorem twinPair_late (hmaster : s.mcMaster true = true) (h : tickGe c.a1 (tickAdd s.tickno (3 + s.mcLag true)) = false) :
    Answers (.twinPair m auth peer) s (fun t => KmiDone t m stDeadline [] 0 ∧ t.twn = s.twn ∧ t.cfg = s.cfg) := by
  refine twin_refused rfl (execTwinPair_eq m auth peer s) hready ((twinPair_steps auth peer h3 h1 h0).trans
    ((if_neg (twinPair_up hup)).trans ((if_neg (twinPair_ca hca)).trans (if_pos ?_))))
  rw [hmaster, h]; rfl

variable (hfar : s.mcMaster true = true → tickGe c.a1 (tickAdd s.tickno (3 + s.mcLag true)) = true)
include hfar

omit hready h3 h1 h0 hup hca in
theorem twinPair_far : ¬(s.mcMaster true && !tickGe c.a1 (tickAdd s.tickno (3 + s.mcLag true))) = true := by
  cases hm : s.mcMaster true
  · rw [Bool.false_and]; decide
  · rw [hfar hm]; decide

/-- The steps behind those of the unit's own state. -/
theorem twinPair_authFail (ha : auth = false) :
    Answers (.twinPair m auth peer) s (fun t => KmiDone t m stAuthFail [] 0 ∧ t.twn = s.twn ∧ t.get TWN_STAT_AUTH_FAIL = 1) := by
  have hled := RegsBut.ledger ((s.kmiUnpost m).set TWN_STAT_AUTH_FAIL 1) 0x0B07 0
  refine answers_delivers rfl (execTwinPair_eq m auth peer s) hready ((twinPair_steps auth peer h3 h1 h0).trans ((if_neg (twinPair_up hup)).trans
    ((if_neg (twinPair_ca hca)).trans ((if_neg (twinPair_far hfar)).trans (if_pos (by rw [ha]; rfl)))))) ?_ fun t hdone _ hsame hregs => ⟨hdone, ?_, ?_⟩
  · exact State.mbx_length_of_kept ((State.ledger_kept _ _ _).trans (State.set_kept _ _ _))
  · exact (hsame .twn (by decide)).trans ((SameBut.ledger _ _ _) .twn (by decide))
  · refine (hregs.geti_lo (f := TWN_STAT_AUTH_FAIL) (i := 0) (by decide) (by decide)).trans ((hled.get_single (by decide)).trans ?_)
    exact (State.get_set_self _ _ _).trans rfl

theorem twinPair_unfit (ha : auth = true) (h : peer = false ∨ s.pairChecks = false) :
    Answers (.twinPair m auth peer) s (fun t => KmiDone t m stBadState [] 0 ∧ t.twn = s.twn ∧ t.cfg = s.cfg) := by
  refine twin_refused rfl (execTwinPair_eq m auth peer s) hready ((twinPair_steps auth peer h3 h1 h0).trans ((if_neg (twinPair_up hup)).trans
    ((if_neg (twinPair_ca hca)).trans ((if_neg (twinPair_far hfar)).trans ((if_neg (by rw [ha]; decide)).trans (if_pos ?_))))))
  rcases h with h | h <;> rw [h] <;> simp

theorem twinPair_pairs (ha : auth = true) (hp : peer = true) (hchecks : s.pairChecks = true) :
    Answers (.twinPair m auth peer) s (fun t => KmiRuns t m c ∧
      t.twn.pairMode = 0xFF00 + c.a0 ∧ t.twn.pairReady = (s.get TWN_CKPT_GEOM_LINES == 0) ∧
      (s.get TWN_CKPT_GEOM_LINES ≠ 0 → t.get TWN_STAT_CATCHUP = 1) ∧
      (s.mcMaster true = true → t.twn.mc.isOpen = true ∧ t.twn.mc.mode = 0xFF00 + c.a0 ∧ t.twn.mc.t = c.a1)) := by
  obtain ⟨hmode, hreadyTo, hcatch, hopen⟩ := (s.kmiUnpost m).pairStart_spec c.a0 c.a1
  refine answers_executes rfl (execTwinPair_eq m auth peer s) hready ((twinPair_steps auth peer h3 h1 h0).trans ((if_neg (twinPair_up hup)).trans
    ((if_neg (twinPair_ca hca)).trans ((if_neg (twinPair_far hfar)).trans ((if_neg (by rw [ha]; decide)).trans
      (if_neg (by rw [hp, hchecks]; decide))))))) fun t hruns hsame hregs _ _ => ?_
  rw [hsame .twn (by decide)]
  exact ⟨hruns, hmode, hreadyTo, fun h => (hregs.geti_lo (f := TWN_STAT_CATCHUP) (i := 0) (by decide) (by decide)).trans (hcatch h), hopen⟩

end

/-! ### TWIN_ARM (R535) -/

/-- The identifiers of the inactive planes of a mask's Rooms. -/
def State.armIds (s : State) (mask : Nat) : List Nat := (bitList mask 24).map (fun r => s.planeItin r (s.inactPlane r) % 65536)

/-- The twin's record armed with Rooms, a slot and an identifier. -/
def State.twinArmed (s : State) (mask j mode : Nat) : State := s.setMc true { s.mc true with armMask := mask, armSlot := some j, armMode := mode }

/-- What TWIN_ARM comes to. -/
def State.twinArm (s : State) (mask : Nat) : KmiRes :=
  if decide (2 ^ 24 ≤ mask) || (s.armIds mask).any (fun i => decide (0xFF00 ≤ i)) || (s.armIds mask).any (fun i => i != (s.armIds mask).headD 0) then
    .fin s stBadArg 0 [] []
  else if s.twn.mc.isOpen then .fin s stBadState 0 [] []
  else if (s.mcDisarm true).roomsTaken mask then .fin s stBadState 0 [] []
  else if mask = 0 then .fin (s.mcDisarm true) stOk 0 [] []
  else match (s.mcDisarm true).coFree with
    | none => .fin s stHeld 0 [] []
    | some j => .fin (((s.mcDisarm true).coTake j 3 mask 0 (s.planeItin ((bitList mask 24).headD 0) (s.inactPlane ((bitList mask 24).headD 0)))
        false).twinArmed mask j ((s.armIds mask).headD 0)) stOk 0 [j] []

theorem execTwinArm_eq (m : Nat) (s : State) : exec (.twinArm m) s = kmiCommand 0x0B06 m (fun c st => st.twinArm c.a0) s := rfl

section
variable {s : State} {m : Nat} {c : KmiCmd} (hready : KmiReady s 0x0B06 m c)
include hready

theorem twinArm_badArg (h : 2 ^ 24 ≤ c.a0 ∨ (∃ i ∈ s.armIds c.a0, 0xFF00 ≤ i) ∨ (∃ i ∈ s.armIds c.a0, i ≠ (s.armIds c.a0).headD 0)) :
    Answers (.twinArm m) s (fun t => KmiDone t m stBadArg [] 0 ∧ t.twn = s.twn ∧ t.cfg = s.cfg) := by
  refine twin_refused rfl (execTwinArm_eq m s) hready (if_pos ?_)
  rw [show (s.kmiUnpost m).armIds c.a0 = s.armIds c.a0 from rfl]
  simpa [or_assoc] using h

variable (h0 : c.a0 < 2 ^ 24) (hids : ∀ i ∈ s.armIds c.a0, i < 0xFF00 ∧ i = (s.armIds c.a0).headD 0)
include h0 hids

omit hready in
theorem twinArm_args : ¬(decide (2 ^ 24 ≤ c.a0) || (s.armIds c.a0).any (fun i => decide (0xFF00 ≤ i)) ||
    (s.armIds c.a0).any (fun i => i != (s.armIds c.a0).headD 0)) = true := by
  simp only [Bool.or_eq_true, decide_eq_true_eq, List.any_eq_true, bne_iff_ne, not_or, not_exists, not_and, not_le, not_not]
  exact ⟨⟨h0, fun i hi => (hids i hi).1⟩, fun i hi => (hids i hi).2⟩

theorem twinArm_open (h : s.twn.mc.isOpen = true) : Answers (.twinArm m) s (fun t => KmiDone t m stBadState [] 0 ∧ t.twn = s.twn ∧ t.cfg = s.cfg) :=
  twin_refused rfl (execTwinArm_eq m s) hready ((if_neg (twinArm_args h0 hids)).trans (if_pos h))

variable (hclosed : s.twn.mc.isOpen = false)
include hclosed

omit hready in
theorem twinArm_closed : (s.kmiUnpost m).twinArm c.a0 =
    if (s.mcDisarm true).roomsTaken c.a0 then .fin (s.kmiUnpost m) stBadState 0 [] []
    else if c.a0 = 0 then .fin ((s.mcDisarm true).kmiUnpost m) stOk 0 [] []
    else match (s.mcDisarm true).coFree with
      | none => .fin (s.kmiUnpost m) stHeld 0 [] []
      | some j => .fin ((((s.mcDisarm true).kmiUnpost m).coTake j 3 c.a0 0 (s.planeItin ((bitList c.a0 24).headD 0)
          (s.inactPlane ((bitList c.a0 24).headD 0))) false).twinArmed c.a0 j ((s.armIds c.a0).headD 0)) stOk 0 [j] [] := by
  rw [← State.mcDisarm_kmiUnpost]
  refine (if_neg (twinArm_args h0 hids)).trans ((if_neg (by rw [show (s.kmiUnpost m).twn = s.twn from rfl, hclosed]; decide)).trans ?_)
  rw [State.mcDisarm_kmiUnpost]
  rfl

theorem twinArm_taken (h : (s.mcDisarm true).roomsTaken c.a0 = true) :
    Answers (.twinArm m) s (fun t => KmiDone t m stBadState [] 0 ∧ t.twn = s.twn ∧ t.cfg = s.cfg) :=
  twin_refused rfl (execTwinArm_eq m s) hready ((twinArm_closed h0 hids hclosed).trans (if_pos h))

theorem twinArm_noSlot (h : (s.mcDisarm true).roomsTaken c.a0 = false) (hmask : c.a0 ≠ 0) (hfree : (s.mcDisarm true).coFree = none) :
    Answers (.twinArm m) s (fun t => KmiDone t m stHeld [] 0 ∧ t.twn = s.twn ∧ t.cfg = s.cfg) := by
  refine twin_refused rfl (execTwinArm_eq m s) hready ((twinArm_closed h0 hids hclosed).trans ((if_neg (by rw [h]; decide)).trans ((if_neg hmask).trans ?_)))
  rw [hfree]

/-- An empty mask disarms. -/
theorem twinArm_disarms (hmask : c.a0 = 0) :
    Answers (.twinArm m) s (fun t => KmiDone t m stOk [] 0 ∧ t.twn.mc.armMask = 0 ∧ t.twn.mc.armSlot = none) := by
  have htaken : (s.mcDisarm true).roomsTaken c.a0 = false := by rw [hmask]; rfl
  obtain ⟨hmc, -⟩ := s.mcDisarm_spec true
  refine answers_delivers rfl (execTwinArm_eq m s) hready ((twinArm_closed h0 hids hclosed).trans ((if_neg (by rw [htaken]; decide)).trans (if_pos hmask)))
    (s.mbx_mcDisarm m true) fun t hdone _ hsame _ => ?_
  have htwn : t.twn.mc = s.twn.mc.disarmed := (congrArg TwnSt.mc (hsame .twn (by decide))).trans hmc
  rw [htwn]
  exact ⟨hdone, rfl, rfl⟩

/-- TWIN_ARM takes a free slot for its Rooms. -/
theorem twinArm_slot (h : (s.mcDisarm true).roomsTaken c.a0 = false) (hmask : c.a0 ≠ 0) {j : Nat} (hfree : (s.mcDisarm true).coFree = some j) :
    Answers (.twinArm m) s (fun t => KmiDone t m stOk [j] 0 ∧ t.twn.mc.armMask = c.a0 ∧
      t.twn.mc.armSlot = some j ∧ t.twn.mc.armMode = (s.armIds c.a0).headD 0 ∧ t.geti CFG_CO_STAT_STATE j = 1 ∧ t.geti CFG_CO_MASK_ROOMS j = c.a0) := by
  have hbody := (twinArm_closed (m := m) h0 hids hclosed).trans ((if_neg (by rw [h]; decide)).trans (if_neg hmask))
  rw [hfree] at hbody
  generalize s.planeItin ((bitList c.a0 24).headD 0) (s.inactPlane ((bitList c.a0 24).headD 0)) = itin at hbody
  obtain ⟨hstate, hco, htake, -⟩ := ((s.mcDisarm true).kmiUnpost m).coTake_spec j 3 c.a0 0 itin false
  have hj := State.coFree_lt hfree
  refine answers_delivers rfl (execTwinArm_eq m s) hready hbody ?_ fun t hdone _ hsame hregs => ?_
  · change (((s.mcDisarm true).kmiUnpost m).coTake j 3 c.a0 0 itin false).kmi.mbx.length = _
    rw [htake .kmi (by decide)]
    exact s.mbx_mcDisarm m true
  · generalize ((s.mcDisarm true).kmiUnpost m).coTake j 3 c.a0 0 itin false = u at hstate hco hsame hregs
    have htwn := hsame .twn (by decide)
    have hslotKept {f : Fld} (hf : f.addr = 0x500050 ∨ f.addr = 0x500040) (hlo : f.lo = 0) (hs1 : f.s1 = 32) : t.geti f j = u.geti f j := by
      refine (hregs.geti_below fun g hg => ?_).trans rfl
      rw [List.mem_singleton.mp hg]
      simp only [Fld.key, KMI_MBX_STATE, hlo, hs1]; omega
    rw [htwn]
    exact ⟨hdone, rfl, rfl, rfl, (hslotKept (.inl rfl) rfl rfl).trans hstate,
      (hslotKept (.inr rfl) rfl rfl).trans (hco.trans (Nat.mod_eq_of_lt h0))⟩

end

/-- A command that keeps the twin and the changeover slots keeps the twin. -/
theorem Answers.twn {i : Instr} {s : State} {p : State → Prop} (h : Answers i s (fun t => p t ∧ t.twn = s.twn ∧ t.cfg = s.cfg)) :
    Answers i s (fun t => p t ∧ t.twn = s.twn) := by
  obtain ⟨t, ht, hp, htwn, -⟩ := h
  exact ⟨t, ht, hp, htwn⟩

end Sys2Proof.Machine

open Sys2Proof.Machine Sys2Proof.Machine.Reg

/-- Settles O52: checkpoints and catch-up have one rule each; each command's body takes one branch, and proposing and arming have one rule each. -/
theorem twinCommands : Obligations.TwinCommands := by
  unfold Obligations.TwinCommands
  refine ⟨?checkpoint, ?detach, ?role, ?go, ?noGo, ?pair, ?arm⟩
  case checkpoint =>
    exact fun s tick t data ue failed => ⟨fun h1 h2 => checkpointDone_companion tick t data ue failed (by simp [h1, h2]),
      fun h hn => checkpointDone_none tick t data ue failed (not_standbyCompanion h) hn,
      fun n h hn => checkpointDone_lead tick t data ue failed (not_standbyCompanion h) hn, catchupDone_done data t, catchupDone_none data t⟩
  case detach =>
    intro s m c hready
    have hgo (h1 : c.a1 < 2 ^ 48) := twinDetach_outcomes (i := .twinDetach m) (x := execTwinDetach m s) rfl rfl hready (if_neg (by simpa using h1))
    exact ⟨fun h => Answers.twn (twin_refused (i := .twinDetach m) (x := execTwinDetach m s) rfl rfl hready (if_pos (decide_eq_true h))), fun h1 => (hgo h1).1, fun h1 => (hgo h1).2⟩
  case role =>
    intro s m c hready
    refine ⟨fun h => Answers.twn (twinRole_badArg hready h), fun h0 h1 => ⟨fun h => Answers.twn (twinRole_alone hready h0 h1 h), fun hmode hmaster => ⟨fun h =>
      Answers.twn (twinRole_held hready h0 h1 hmode hmaster h), fun h hopen => ?_, fun h hclosed => ⟨fun hlate => ?_, fun hfar => ?_⟩⟩⟩⟩
    · exact Answers.twn (twinPropose_open rfl (execTwinRole_eq m s) hready (twinRole_swap h0 h1 hmode hmaster h) hopen)
    · exact Answers.twn (twinPropose_late rfl (execTwinRole_eq m s) hready (twinRole_swap h0 h1 hmode hmaster h) hclosed hlate)
    · obtain ⟨t, ht, hruns, htwn⟩ := twinPropose_proposes rfl (execTwinRole_eq m s) hready (twinRole_swap h0 h1 hmode hmaster h) hclosed hfar
      exact ⟨t, ht, hruns, by rw [htwn]; exact ⟨rfl, rfl, rfl⟩⟩
  case go =>
    rintro s t rfl
    refine ⟨fun hmaster hmode hclosed hfar => twinMcGo_proposes ?_, fun hlate => twinMcGo_none ?_⟩
    · rw [State.mcGoes, hmaster, bne_iff_ne.mpr hmode, hclosed]
      exact hfar
    · rw [State.mcGoes, State.mcGoTick, hlate, Bool.and_false]
  case noGo =>
    refine fun s h => twinMcGo_none ?_
    rcases h with h | h | h <;> simp [State.mcGoes, h]
  case pair =>
    intro s m c auth peer hready
    refine ⟨fun h => Answers.twn (twinPair_badArg auth peer hready h), fun h0 h1 => ?_, fun h0 h3 h1 => ⟨fun h => Answers.twn (twinPair_down auth peer hready h3 h1 h0 h),
      fun hen hlanes hcal hclosed => ?_⟩⟩
    · have hgo := twinDetach_outcomes rfl (execTwinPair_eq m auth peer s) hready ((if_neg (twinPair_args (by omega) h1)).trans (if_pos h0))
      refine ⟨hgo.1, fun hmode hmaster hclosed => ⟨(hgo.2 hmode hmaster hclosed).1, fun hfar => ?_⟩⟩
      obtain ⟨t, ht, hruns, hopen, hmode', ht', -⟩ := (hgo.2 hmode hmaster hclosed).2 hfar
      exact ⟨t, ht, hruns, hopen, hmode', ht'⟩
    · have hup := And.intro hen (And.intro hlanes (And.intro hcal hclosed))
      exact ⟨fun h => Answers.twn (twinPair_noCa auth peer hready h3 h1 h0 hup h),
        fun hslot hall hmaster hlate => Answers.twn (twinPair_late auth peer hready h3 h1 h0 hup ⟨hslot, hall⟩ hmaster hlate),
        fun hslot hall hfar => ⟨twinPair_authFail auth peer hready h3 h1 h0 hup ⟨hslot, hall⟩ hfar,
          fun ha h => Answers.twn (twinPair_unfit auth peer hready h3 h1 h0 hup ⟨hslot, hall⟩ hfar ha h),
          twinPair_pairs auth peer hready h3 h1 h0 hup ⟨hslot, hall⟩ hfar⟩⟩
  case arm =>
    rintro s m c hready d rfl ids rfl
    exact ⟨fun h => Answers.twn (twinArm_badArg hready h), fun h0 hids => ⟨fun h => Answers.twn (twinArm_open hready h0 hids h), fun hclosed =>
      ⟨twinArm_disarms hready h0 hids hclosed, fun h => twinArm_taken hready h0 hids hclosed (State.roomsTaken_true h), fun h hmask =>
        ⟨fun j hfree => twinArm_slot hready h0 hids hclosed (State.roomsTaken_false h) hmask hfree,
          fun hfree => twinArm_noSlot hready h0 hids hclosed (State.roomsTaken_false h) hmask hfree⟩⟩⟩⟩
end

section
/-! Debug levels and the JTAG port (R551, R552, R556, R559, R560): what a challenge, an unlock and an instruction leave, and the proof of
Obligations.DebugLevelsAndJtag. -/

namespace Sys2Proof.Machine

open Reg

theorem SameBut.withLc {l : List Part} {s t : State} (h : SameBut l s t) (k : LcSt) (hl : .lc ∈ l) : SameBut l s { t with lc := k } :=
  h.step (l' := [.lc]) (fun p hp => by cases p <;> simp at hp <;> rfl) (by simpa using hl)

/-! ### Halting (R558) -/

theorem State.unhalt_frame (s : State) : SameBut [.kmi, .regs] s s.unhalt ∧ RegsBut [TGT_DBG_HALTED] s s.unhalt ∧ s.unhalt.flag TGT_DBG_HALTED = false := by
  by_cases h : s.flag TGT_DBG_HALTED = true
  · rw [State.unhalt, if_pos h]
    exact ⟨(SameBut.step (l' := [.kmi]) (SameBut.refl _ s) (fun p hp => by cases p <;> simp at hp <;> rfl) (by simp)).set (by simp),
      ((RegsBut.refl _ s).upd rfl).set (by simp), congrArg (· == 1) (State.get_set_self _ _ _)⟩
  · rw [State.unhalt, if_neg h]
    exact ⟨SameBut.refl _ s, RegsBut.refl _ s, Bool.not_eq_true _ ▸ h⟩

theorem State.halt_frame (s : State) : SameBut [.lc, .regs] s s.halt ∧ RegsBut [TGT_DBG_HALTED] s s.halt ∧ s.halt.flag TGT_DBG_HALTED = true := by
  by_cases h : s.flag TGT_DBG_HALTED = true
  · rw [State.halt, if_pos h]
    exact ⟨SameBut.refl _ s, RegsBut.refl _ s, h⟩
  · rw [State.halt, if_neg h]
    exact ⟨((SameBut.refl _ s).withLc _ (by simp)).set (by simp), ((RegsBut.refl _ s).upd rfl).set (by simp), congrArg (· == 1) (State.get_set_self _ _ _)⟩

/-! ### Challenges (R552) -/

/-- Some authority may open the level, level 0 needing none. -/
def State.levelOffered (s : State) (level : Nat) : Prop := level = 0 ∨ s.debugAuth level ≠ []

/-- No back-off is under way. -/
def State.backedOff (s : State) : Prop := s.lc.backoff = 0 ∨ timeGe s.now s.lc.backoff = true

/-- The 48 bytes of a challenge. -/
def State.challengeBytes (s : State) (level : Nat) : List Nat :=
  (s.freshBytes 32).1 ++ leBytes 4 (s.get CFG_ITIN_ITIN_ID) ++ [level, s.get TGT_LC_STATE] ++ List.replicate 10 0

/-- The challenge is outstanding from now on. -/
def State.challenged (s : State) (level : Nat) : State :=
  { (s.freshBytes 32).2 with lc := { s.lc with chal := some (s.challengeBytes level), chalAt := s.now } }.set TGT_DBG_CHAL_VALID 1

theorem State.length_challengeBytes (s : State) (level : Nat) : (s.challengeBytes level).length = 48 := by
  simp [State.challengeBytes, State.freshBytes]

/-- Byte 36 of a challenge is its level. -/
theorem State.challengeBytes_level (s : State) (level : Nat) : (s.challengeBytes level).getD 36 0 = level := by
  simp [State.challengeBytes, State.freshBytes]

theorem State.challenge_issued {s : State} {level : Nat} (h : s.levelOffered level) (hb : s.backedOff) :
    s.challenge level = (stOk, s.challengeBytes level, s.challenged level) := by
  have hauth : ¬(level ≠ 0 ∧ s.debugAuth level = []) := fun ⟨h0, hnone⟩ => h.elim h0 fun hsome => hsome hnone
  have hwait : ¬(s.lc.backoff ≠ 0 ∧ timeGe s.now s.lc.backoff = false) := fun ⟨h0, hearly⟩ => hb.elim h0 fun hlate => by simp [hlate] at hearly
  rw [State.challenge, if_neg hauth, if_neg hwait]
  rfl

theorem State.challenge_refused {s : State} {level : Nat} (h0 : level ≠ 0) (h : s.debugAuth level = []) : s.challenge level = (stRefusedLc, [], s) :=
  if_pos ⟨h0, h⟩

theorem State.challenge_busy {s : State} {level : Nat} (h : s.levelOffered level) (h0 : s.lc.backoff ≠ 0) (hearly : timeGe s.now s.lc.backoff = false) :
    s.challenge level = (stBusy, [], s) :=
  (if_neg fun ⟨h0, hnone⟩ => h.elim h0 fun hsome => hsome hnone).trans (if_pos ⟨h0, hearly⟩)

/-- A refused challenge leaves no trace. -/
theorem State.challenge_closed {s : State} {level : Nat}
    (h : (level ≠ 0 ∧ s.debugAuth level = []) ∨ (s.lc.backoff ≠ 0 ∧ timeGe s.now s.lc.backoff = false)) : (s.challenge level).2 = ([], s) := by
  by_cases hauth : level ≠ 0 ∧ s.debugAuth level = []
  · rw [State.challenge_refused hauth.1 hauth.2]
  · obtain ⟨h0, hearly⟩ := h.resolve_left hauth
    have hoffered : s.levelOffered level := (Decidable.em (level = 0)).imp_right fun hne hnone => hauth ⟨hne, hnone⟩
    rw [State.challenge_busy hoffered h0 hearly]

/-! ### Unlocking (R551, R552, R556) -/

/-- The fields that opening a level writes. -/
def levelFlds : List Fld :=
  [TGT_DBG_HALTED, TGT_DBG_LEVEL, TGT_DBG_AUTH, TGT_DBG_ITIN_ITIN_ID, TGT_CHAL_FAILS, TGT_CNT_UNLOCKS, TGT_DBG_CHAL_VALID]

/-- What an opened level leaves: its number and authority, no failures, no challenge and no back-off. -/
theorem State.levelOpen_spec (s : State) (level auth itin : Nat) :
    (s.levelOpen level auth itin).get TGT_DBG_LEVEL = level % 2 ^ 2 ∧ (s.levelOpen level auth itin).get TGT_DBG_AUTH = auth % 2 ^ 2 ∧
      (s.levelOpen level auth itin).get TGT_CHAL_FAILS = 0 ∧ (s.levelOpen level auth itin).lc.chal = none ∧
      (s.levelOpen level auth itin).lc.backoff = 0 ∧ (s.levelOpen level auth itin).get TGT_DBG_CHAL_VALID = 0 := by
  unfold State.levelOpen
  extract_lets u s1 s2
  have keep {f : Fld} (hv : f.key 0 0 ≠ TGT_DBG_CHAL_VALID.key 0 0) (hc : f.key 0 0 ≠ TGT_CNT_UNLOCKS.key 0 0) :
      ({ s2 with lc := { s2.lc with chal := none, backoff := 0 } }.set TGT_DBG_CHAL_VALID 0).get f = (s1.set TGT_CHAL_FAILS 0).get f :=
    (State.get_set_ne _ _ _ _ hv).trans ((State.get_congr rfl _).trans (State.get_set_ne _ _ _ _ hc))
  refine ⟨?_, ?_, ?_, rfl, rfl, State.get_set_self _ _ _⟩
  · rw [keep (by decide) (by decide), State.get_set_ne _ _ _ _ (by decide), State.get_set_ne _ _ _ _ (by decide), State.get_set_ne _ _ _ _ (by decide)]
    exact State.get_set_self _ _ _
  · rw [keep (by decide) (by decide), State.get_set_ne _ _ _ _ (by decide), State.get_set_ne _ _ _ _ (by decide)]
    exact State.get_set_self _ _ _
  · rw [keep (by decide) (by decide)]
    exact State.get_set_self _ _ _

/-- The authorities whose token verifies over the challenge. -/
def State.vouchers (s : State) (level : Nat) (resp : List Nat) : List Nat :=
  (s.debugAuth level).filter (fun a => s.tokenOk a (s.lc.chal.getD [] ++ s.serial) resp)

/-- The challenge that a response would meet does not stand for the level, or nobody vouches. -/
def State.unlockFails (s : State) (level : Nat) (resp : List Nat) : Prop :=
  s.lc.chal = none ∨ (s.lc.chal.getD []).getD 36 0 ≠ level ∨ timeGe s.now s.chalEnd = true ∨ s.vouchers level resp = []

/-- The state after a failed unlock. -/
def State.unlockFailed (s : State) (op : Nat) : State :=
  let s1 := ((s.authFail op).inc TGT_CHAL_FAILS).set TGT_DBG_CHAL_VALID 0
  let until_ := if s.get TGT_CHAL_FAILS + 1 < 8 then s.lc.backoff
    else (s.now + nsUnits (1000000000 * 2 ^ min 10 (s.get TGT_CHAL_FAILS + 1 - 8))) % 2 ^ 64
  { s1 with lc := { s1.lc with chal := none, backoff := until_ } }

section
variable {s : State} {level : Nat} (resp : List Nat) (op : Nat)

theorem State.unlock_zero (s : State) : s.unlock 0 resp op = (stOk, (s.unhalt.set TGT_DBG_LEVEL 0).set TGT_DBG_AUTH 0) := rfl

theorem State.unlock_none (h0 : level ≠ 0) (h : s.debugAuth level = []) : s.unlock level resp op = (stRefusedLc, s) :=
  (if_neg h0).trans (if_pos h)

theorem State.unlock_free (h0 : level ≠ 0) (h : 3 ∈ s.debugAuth level) :
    s.unlock level resp op = (stOk, s.levelOpen level 3 (leField (s.lc.chal.getD []) 32 4)) :=
  (if_neg h0).trans ((if_neg (List.ne_nil_of_mem h)).trans (if_pos (List.contains_iff_mem.mpr h)))

theorem State.unlock_token (h0 : level ≠ 0) (h3 : 3 ∉ s.debugAuth level) (h : s.debugAuth level ≠ []) :
    s.unlock level resp op = if s.lc.chal.isSome && !timeGe s.now s.chalEnd && (s.lc.chal.getD []).getD 36 0 == level && !(s.vouchers level resp).isEmpty
      then (stOk, s.levelOpen level ((s.vouchers level resp).headD 1) (leField (s.lc.chal.getD []) 32 4)) else (stAuthFail, s.unlockFailed op) :=
  (if_neg h0).trans ((if_neg h).trans (if_neg fun hc => h3 (List.contains_iff_mem.mp hc)))

theorem State.unlock_opens {d : List Nat} {a : Nat} {l : List Nat} (h0 : level ≠ 0) (h3 : 3 ∉ s.debugAuth level) (hd : s.lc.chal = some d)
    (hlevel : d.getD 36 0 = level) (htime : timeGe s.now s.chalEnd = false) (ha : s.vouchers level resp = a :: l) :
    s.unlock level resp op = (stOk, s.levelOpen level a (leField d 32 4)) := by
  have hne : s.debugAuth level ≠ [] := fun hnil => by simp [State.vouchers, hnil] at ha
  rw [State.unlock_token resp op h0 h3 hne, if_pos (by simp only [hd, Option.getD_some, hlevel, htime, ha]; simp), ha, hd]
  rfl

theorem State.unlock_fails (h0 : level ≠ 0) (h3 : 3 ∉ s.debugAuth level) (h : s.debugAuth level ≠ []) (hfail : s.unlockFails level resp) :
    s.unlock level resp op = (stAuthFail, s.unlockFailed op) := by
  rw [State.unlock_token resp op h0 h3 h]
  refine if_neg fun hall => ?_
  simp only [Bool.and_eq_true, Bool.not_eq_true', beq_iff_eq, List.isEmpty_eq_false_iff] at hall
  obtain ⟨⟨⟨hsome, htime⟩, hlevel⟩, hvouch⟩ := hall
  rcases hfail with hnone | hne | hlate | hnil
  · simp [hnone] at hsome
  · exact hne hlevel
  · simp [hlate] at htime
  · exact hvouch hnil

end

/-- The fields that a failed unlock writes. -/
def unlockFailFlds : List Fld := [TGT_CNT_AUTH_FAIL, TGT_CHAL_FAILS, TGT_DBG_CHAL_VALID] ++ ledgerFlds

/-- What a failed unlock leaves: it counts and spends the challenge. -/
theorem State.unlockFailed_spec (s : State) (op : Nat) : (s.unlockFailed op).get TGT_DBG_LEVEL = s.get TGT_DBG_LEVEL ∧
    Counts s (s.unlockFailed op) TGT_CNT_AUTH_FAIL 0 ∧ Counts s (s.unlockFailed op) TGT_CHAL_FAILS 0 ∧ (s.unlockFailed op).lc.chal = none ∧
      (s.unlockFailed op).get TGT_DBG_CHAL_VALID = 0 ∧ (s.get TGT_CHAL_FAILS < 7 → (s.unlockFailed op).lc.backoff = s.lc.backoff) ∧
      (7 ≤ s.get TGT_CHAL_FAILS →
        (s.unlockFailed op).lc.backoff = (s.now + nsUnits (1000000000 * 2 ^ min 10 (s.get TGT_CHAL_FAILS - 7))) % 2 ^ 64) := by
  have keep {f : Fld} (hl : ∀ g ∈ ledgerFlds, f.key 0 0 ≠ g.key 0 0) : (s.authFail op).get f = (s.inc TGT_CNT_AUTH_FAIL).get f := State.get2_ledger _ _ _ hl
  have get (f : Fld) : (s.unlockFailed op).get f = (((s.authFail op).inc TGT_CHAL_FAILS).set TGT_DBG_CHAL_VALID 0).get f := State.get_congr rfl _
  refine ⟨?_, ?_, ?_, rfl, ?_, fun h => if_pos (by omega), fun h => (if_neg (by omega)).trans (by
    rw [show s.get TGT_CHAL_FAILS + 1 - 8 = s.get TGT_CHAL_FAILS - 7 by omega])⟩
  · refine (get _).trans ((State.get_set_ne _ _ _ _ (by decide)).trans ((State.get_set_ne _ TGT_CHAL_FAILS _ _ (by decide)).trans ((keep (by decide)).trans ?_)))
    exact State.get_set_ne _ TGT_CNT_AUTH_FAIL _ _ (by decide)
  · refine (get _).trans ((State.get_set_ne _ _ _ _ (by decide)).trans ((State.get_set_ne _ TGT_CHAL_FAILS _ _ (by decide)).trans ((keep (by decide)).trans ?_)))
    exact State.get_set_self _ _ _
  · refine (get _).trans ((State.get_set_ne _ _ _ _ (by decide)).trans ((State.get_set_self _ TGT_CHAL_FAILS _).trans ?_))
    exact congrArg (fun v => satInc TGT_CHAL_FAILS.top v % 2 ^ TGT_CHAL_FAILS.width) ((keep (by decide)).trans (State.get_set_ne _ TGT_CNT_AUTH_FAIL _ _ (by decide)))
  · rw [get]
    exact State.get_set_self _ _ _

/-- The authorities of Table 18-6 fit AUTH. -/
theorem State.debugAuth_lt {s : State} {level a : Nat} (h : a ∈ s.debugAuth level) : a < 4 := by
  have hmem := (List.mem_filter.mp h).1
  simp only [List.mem_cons, List.not_mem_nil, or_false] at hmem
  omega

/-! ### DEBUG_CHALLENGE, DEBUG_UNLOCK and DEBUG_LOCK (R416) -/

theorem execDebugChallenge_eq (m : Nat) (s : State) : execDebugChallenge m s = kmiCommand 0x0A03 m (fun cmd st =>
    .fin (st.challenge (bits cmd.a0 1 0)).2.2 (st.challenge (bits cmd.a0 1 0)).1 0 (if (st.challenge (bits cmd.a0 1 0)).1 = stOk then
      (List.range 6).map (fun i => leField (st.challenge (bits cmd.a0 1 0)).2.1 (8 * i) 8) else []) []) s := rfl

theorem execDebugUnlock_eq (m : Nat) (s : State) : execDebugUnlock m s = kmiCommand 0x0A04 m (fun cmd st =>
    if cmd.dataIn.length ≠ 96 then .fin st stBadArg 0 [] []
    else .fin (st.unlock (bits cmd.a0 1 0) cmd.dataIn 0x0A04).2 (st.unlock (bits cmd.a0 1 0) cmd.dataIn 0x0A04).1 0 [] []) s := rfl

section
variable {s : State} {m : Nat} {c : KmiCmd}

/-- The states that a command's completion leaves of the state `u` it was delivered from: the life cycle and the fields outside the mailboxes stay. -/
structure DeliveredFrom (u t : State) : Prop where
  lc : t.lc = u.lc
  get : ∀ f : Fld, 0x600040 ≤ f.addr → t.get f = u.get f
  same : SameBut [.kmi, .regs, .out, .pba] u t
  regs : RegsBut [KMI_MBX_STATE] u t

theorem deliveredFrom_kmiFinish (u : State) (hm : m < 15) (st fl d : Nat) (r data : List Nat) : DeliveredFrom u (u.kmiFinish m c st fl d r data) where
  lc := SameBut.kmiFinish u m c st fl d r data .lc (by decide)
  get f hf := State.get2_kmiFinish _ _ _ _ _ _ _ _ (key_ne_mbxState 0 0 hm (.inl hf))
  same := SameBut.kmiFinish u m c st fl d r data
  regs := RegsBut.kmiFinish u m c st fl d r data

/-- DEBUG_CHALLENGE answers with the challenge's status and words. -/
theorem debugChallenge_answers {st : Nat} {bs : List Nat} {u : State} {p : State → Prop} (hready : KmiReady s 0x0A03 m c)
    (hc : (s.kmiUnpost m).challenge (bits c.a0 1 0) = (st, bs, u))
    (hp : ∀ t, KmiDone t m st (if st = stOk then (List.range 6).map (fun i => leField bs (8 * i) 8) else []) 0 → DeliveredFrom u t → p t) :
    Answers (.debugChallenge m) s p := by
  have hkept : u.kept = (s.kmiUnpost m).kept := by rw [← (s.kmiUnpost m).challenge_kept (bits c.a0 1 0), hc]
  exact answers_fin rfl (execDebugChallenge_eq m s) hready (by rw [hc]) (State.mbx_length_of_kept hkept)
    fun hdone _ => hp _ hdone (deliveredFrom_kmiFinish u hready.1 _ _ _ _ _)

/-- DEBUG_UNLOCK with a response of the right length answers with the unlock's status. -/
theorem debugUnlock_answers {st : Nat} {u : State} {p : State → Prop} (hready : KmiReady s 0x0A04 m c) (hlen : c.dataIn.length = 96)
    (hu : (s.kmiUnpost m).unlock (bits c.a0 1 0) c.dataIn 0x0A04 = (st, u))
    (hp : ∀ t, KmiDone t m st [] 0 → DeliveredFrom u t → p t) : Answers (.debugUnlock m) s p := by
  have hkept : u.kept = (s.kmiUnpost m).kept := by rw [← (s.kmiUnpost m).unlock_kept (bits c.a0 1 0) c.dataIn 0x0A04, hu]
  exact answers_fin rfl (execDebugUnlock_eq m s) hready ((if_neg (not_not.mpr hlen)).trans (by rw [hu])) (State.mbx_length_of_kept hkept)
    fun hdone _ => hp _ hdone (deliveredFrom_kmiFinish u hready.1 _ _ _ _ _)

/-- What DEBUG_LOCK leaves. -/
theorem State.debugLock_spec (s : State) : s.debugLock.get TGT_DBG_LEVEL = 0 ∧ s.debugLock.get TGT_DBG_AUTH = 0 ∧
    s.debugLock.flag TGT_DBG_HALTED = false ∧ SameBut [.kmi, .regs] s s.debugLock := by
  obtain ⟨hsame, -, hrun⟩ := s.unhalt_frame
  unfold State.debugLock
  generalize s.unhalt = u at hsame hrun
  refine ⟨?_, ?_, ?_, ((hsame.set (by simp)).set (by simp)).set (by simp)⟩
  · rw [State.get_set_ne _ _ _ _ (by decide), State.get_set_ne _ _ _ _ (by decide)]
    exact State.get_set_self _ _ _
  · rw [State.get_set_ne _ _ _ _ (by decide)]
    exact State.get_set_self _ _ _
  · rwa [State.flag_set_ne _ _ _ _ (by decide), State.flag_set_ne _ _ _ _ (by decide), State.flag_set_ne _ _ _ _ (by decide)]

theorem debugLock_answers (hready : KmiReady s 0x0A05 m c) : Answers (.debugLock m) s (fun t => KmiDone t m stOk [] 0 ∧
    t.get TGT_DBG_LEVEL = 0 ∧ t.get TGT_DBG_AUTH = 0 ∧ t.flag TGT_DBG_HALTED = false ∧ SameBut [.kmi, .regs, .out, .pba] s t) := by
  obtain ⟨hlevel, hauth, hrun, hsame⟩ := (s.kmiUnpost m).debugLock_spec
  refine answers_fin (body := fun _ st => .fin st.debugLock stOk 0 [] []) (i := .debugLock m) rfl rfl hready rfl
    (State.mbx_length_of_kept ((s.kmiUnpost m).debugLock_kept)) fun hdone _ => ?_
  have hfrom := deliveredFrom_kmiFinish (m := m) (c := c) (s.kmiUnpost m).debugLock hready.1 stOk 0 0 [] []
  refine ⟨hdone, (hfrom.get _ (by decide)).trans hlevel, (hfrom.get _ (by decide)).trans hauth, ?_, ?_⟩
  · rwa [State.flag, hfrom.get _ (by decide)]
  · exact ((SameBut.kmiUnpost s m).mono (by simp)).trans ((hsame.mono (by simp)).trans hfrom.same)

end

/-- A challenge expires TMO_S after it was issued. -/
theorem challengeExpiry_spec {s : State} (h : s.lc.chal ≠ none) : Answers .challengeExpiry s (fun t => t.lc.chal = none ∧
    t.flag TGT_DBG_CHAL_VALID = false ∧ (timeGe s.chalEnd s.now = true → t.now = s.chalEnd) ∧ SameBut [.lc, .regs] s t ∧
    RegsBut [TGT_DBG_CHAL_VALID, MSU_TIME_LO, MSU_TIME_HI] s t) := by
  have hexec : exec .challengeExpiry s = .next ((({ s with lc := { s.lc with chal := none } } : State).set TGT_DBG_CHAL_VALID 0).reach s.chalEnd) :=
    if_neg (by simpa using h)
  refine ⟨_, hexec, ?_⟩
  have hsame : SameBut [.lc, .regs] s (({ s with lc := { s.lc with chal := none } } : State).set TGT_DBG_CHAL_VALID 0) :=
    ((SameBut.refl _ s).withLc _ (by simp)).set (by simp)
  have hregs : RegsBut [TGT_DBG_CHAL_VALID, MSU_TIME_LO, MSU_TIME_HI] s (({ s with lc := { s.lc with chal := none } } : State).set TGT_DBG_CHAL_VALID 0) :=
    ((RegsBut.refl _ s).upd rfl).set (by simp)
  have hvalid : (({ s with lc := { s.lc with chal := none } } : State).set TGT_DBG_CHAL_VALID 0).flag TGT_DBG_CHAL_VALID = false :=
    congrArg (· == 1) (State.get_set_self _ _ _)
  have hnow : (({ s with lc := { s.lc with chal := none } } : State).set TGT_DBG_CHAL_VALID 0).now = s.now :=
    (State.now_set _ TGT_DBG_CHAL_VALID _ (by decide)).trans (State.now_congr rfl)
  have hchal : (({ s with lc := { s.lc with chal := none } } : State).set TGT_DBG_CHAL_VALID 0).lc.chal = none := rfl
  generalize ({ s with lc := { s.lc with chal := none } } : State).set TGT_DBG_CHAL_VALID 0 = u at hsame hregs hvalid hnow hchal
  by_cases hge : timeGe s.chalEnd s.now = true
  · rw [State.reach, hnow, if_pos hge]
    refine ⟨hchal, ?_, fun _ => ?_, hsame.now (by simp), hregs.setNow (by simp) (by simp)⟩
    · rwa [State.flag_setNow _ _ (by decide)]
    · rw [State.now_setNow]
      exact Nat.mod_eq_of_lt (Nat.mod_lt _ (by decide))
  · rw [State.reach, hnow, if_neg hge]
    exact ⟨hchal, hvalid, fun h => absurd h hge, hsame, hregs⟩

/-! ### FF_CAPTURE (R559) -/

section
variable {s : State} {m : Nat} {c : KmiCmd}

theorem execFfCapture_eq (m : Nat) (s : State) : execFfCapture m s = kmiCommand 0x0A08 m (fun cmd st =>
    if 24 ≤ bits cmd.a0 4 0 ∨ bits cmd.a2 16 0 = 0 ∨ 3200 < bits cmd.a1 16 0 + bits cmd.a2 16 0 then .fin st stBadArg 0 [] []
    else if !st.roomActive (bits cmd.a0 4 0) then .fin st stBadState 0 [] []
    else if !st.ffAllowed (bits cmd.a0 4 0) then .fin st stRefusedDebug 0 [] []
    else .run { st with lc := { st.lc with captures := st.lc.captures ++ [(m, bits cmd.a0 4 0, bits cmd.a1 16 0, bits cmd.a2 16 0)] } } false m) s := rfl

variable (hready : KmiReady s 0x0A08 m c)
include hready

theorem ffCapture_badArg (h : 24 ≤ bits c.a0 4 0 ∨ bits c.a2 16 0 = 0 ∨ 3200 < bits c.a1 16 0 + bits c.a2 16 0) :
    Answers (.ffCapture m) s (fun t => KmiDone t m stBadArg [] 0 ∧ t.lc = s.lc) :=
  answers_reads rfl (execFfCapture_eq m s) hready (if_pos h) fun _ hdone _ hsame _ => ⟨hdone, hsame .lc (by decide)⟩

variable (h : ¬(24 ≤ bits c.a0 4 0 ∨ bits c.a2 16 0 = 0 ∨ 3200 < bits c.a1 16 0 + bits c.a2 16 0))
include h

theorem ffCapture_badState (hroom : s.roomActive (bits c.a0 4 0) = false) :
    Answers (.ffCapture m) s (fun t => KmiDone t m stBadState [] 0 ∧ t.lc = s.lc) := by
  have hroom' : (s.kmiUnpost m).roomActive (bits c.a0 4 0) = false := hroom
  exact answers_reads rfl (execFfCapture_eq m s) hready ((if_neg h).trans (if_pos (by rw [hroom']; rfl))) fun _ hdone _ hsame _ =>
    ⟨hdone, hsame .lc (by decide)⟩

theorem ffCapture_refused (hroom : s.roomActive (bits c.a0 4 0) = true) (hff : s.ffAllowed (bits c.a0 4 0) = false) :
    Answers (.ffCapture m) s (fun t => KmiDone t m stRefusedDebug [] 0 ∧ t.lc = s.lc) := by
  have hroom' : (s.kmiUnpost m).roomActive (bits c.a0 4 0) = true := hroom
  have hff' : (s.kmiUnpost m).ffAllowed (bits c.a0 4 0) = false := hff
  exact answers_reads rfl (execFfCapture_eq m s) hready ((if_neg h).trans ((if_neg (by rw [hroom']; decide)).trans (if_pos (by rw [hff']; rfl))))
    fun _ hdone _ hsame _ => ⟨hdone, hsame .lc (by decide)⟩

theorem ffCapture_waits (hroom : s.roomActive (bits c.a0 4 0) = true) (hff : s.ffAllowed (bits c.a0 4 0) = true) :
    Answers (.ffCapture m) s (fun t => KmiRuns t m c ∧
      t.lc.captures = s.lc.captures ++ [(m, bits c.a0 4 0, bits c.a1 16 0, bits c.a2 16 0)]) := by
  have hroom' : (s.kmiUnpost m).roomActive (bits c.a0 4 0) = true := hroom
  have hff' : (s.kmiUnpost m).ffAllowed (bits c.a0 4 0) = true := hff
  exact answers_executes rfl (execFfCapture_eq m s) hready ((if_neg h).trans ((if_neg (by rw [hroom']; decide)).trans (if_neg (by rw [hff']; decide))))
    fun _ hruns hsame _ _ _ => ⟨hruns, congrArg LcSt.captures (hsame .lc (by decide))⟩

end

/-! ### The JTAG port (R560) -/

theorem State.jtag_frame (s : State) (ir dr : Nat) : SameBut [.lc, .out] s (s.jtag ir dr) := ((SameBut.refl _ s).withLc _ (by simp)).sent (by simp)

/-- An instruction that is only loaded. -/
theorem jtag_loads {i : Instr} {s : State} (ir dr : Nat) (h : exec i s = .next (s.jtag ir dr)) :
    Answers i s (fun t => t.lc.ir = ir ∧ t.lc.dr = dr ∧ t.lc.bsr = s.lc.bsr ∧ t.regs = s.regs ∧ SameBut [.lc, .out] s t) :=
  ⟨_, h, rfl, rfl, rfl, rfl, s.jtag_frame ir dr⟩

/-- An instruction that is loaded with a Ledger entry. -/
theorem jtag_recorded {i : Instr} {s : State} (ir dr k : Nat) (h : exec i s = .next ((s.jtag ir dr).ledger 0x0A04 k)) :
    Answers i s (fun t => t.lc.ir = ir ∧ t.lc.dr = dr ∧ t.lc.bsr = s.lc.bsr ∧ SameBut [.lc, .out, .ldg, .regs, .kmi, .pba] s t) := by
  have hlc := SameBut.ledger (s.jtag ir dr) 0x0A04 k .lc (by decide)
  exact ⟨_, h, congrArg LcSt.ir hlc, congrArg LcSt.dr hlc, (congrArg LcSt.bsr hlc).trans rfl, ((s.jtag_frame ir dr).mono (by simp)).led (by simp)⟩

/-- An instruction whose level is not open selects BYPASS. -/
theorem jtag_bypass {i : Instr} {s : State} (h : exec i s = .next (s.jtag 0xFF 0)) : Answers i s (fun t => t.lc.ir = 0xFF ∧ SameBut [.lc, .out] s t) :=
  ⟨_, h, rfl, s.jtag_frame _ _⟩

/-- DBG_HALT at D2. -/
theorem dbgHalt_d2 {s : State} (on : s.jtagOn = true) (hd2 : s.d2 = true) (h : Bool) : Answers (.dbgHalt h) s (fun t => t.lc.ir = 0x21 ∧
    t.flag TGT_DBG_HALTED = h ∧ SameBut [.lc, .out, .regs, .kmi] s t ∧ RegsBut [TGT_DBG_HALTED] s t) := by
  have hexec : exec (.dbgHalt h) s = .next ((if h then s.halt else s.unhalt).jtag 0x21 (b2n h)) :=
    (if_neg (by rw [on]; decide)).trans (if_pos hd2)
  refine ⟨_, hexec, rfl, ?_⟩
  have hspec : (if h then s.halt else s.unhalt).flag TGT_DBG_HALTED = h ∧ SameBut [.lc, .out, .regs, .kmi] s (if h then s.halt else s.unhalt) ∧
      RegsBut [TGT_DBG_HALTED] s (if h then s.halt else s.unhalt) := by
    cases h
    · obtain ⟨hsame, hregs, hflag⟩ := s.unhalt_frame
      exact ⟨hflag, hsame.mono (by simp), hregs⟩
    · obtain ⟨hsame, hregs, hflag⟩ := s.halt_frame
      exact ⟨hflag, hsame.mono (by simp), hregs⟩
  generalize (if h then s.halt else s.unhalt) = u at hspec
  exact ⟨hspec.1, hspec.2.1.step (u.jtag_frame _ _) (by simp), hspec.2.2.upd rfl⟩

section
variable {s : State} (hon : s.jtagOn = false)
include hon

/-- The port is out of reach, whatever it would load. -/
theorem not_jtagOn : (!s.jtagOn) = true := by rw [hon]; rfl

theorem not_jtagOn_if (t : State) : (Host.Outcome.next (if s.jtagOn then t else s) : Host.Outcome State Fault Refusal) = .next s := by
  rw [if_neg (by rw [hon]; decide)]

end

/-! ### TGT_CHALLENGE and TGT_RESPONSE (R560) -/

section
variable {s : State} (on : s.jtagOn = true) (dom : s.domOn 25 = true)
include on dom

theorem exec_tgtChallenge (n : Nat) : exec (.tgtChallenge n) s = .next ((s.challenge (n % 4)).2.2.jtag 0x11 (leNat (s.challenge (n % 4)).2.1)) :=
  if_neg (by rw [on, dom]; decide)

theorem tgtChallenge_issued {n : Nat} (h : s.levelOffered (n % 4)) (hb : s.backedOff) :
    Answers (.tgtChallenge n) s (fun t => t.lc.ir = 0x11 ∧ ∃ d, t.lc.chal = some d ∧ t.lc.dr = leNat d) :=
  ⟨_, (exec_tgtChallenge on dom n).trans (by rw [State.challenge_issued h hb]), rfl, _, rfl, rfl⟩

theorem tgtChallenge_closed {n : Nat} (h : (n % 4 ≠ 0 ∧ s.debugAuth (n % 4) = []) ∨ (s.lc.backoff ≠ 0 ∧ timeGe s.now s.lc.backoff = false)) :
    Answers (.tgtChallenge n) s (fun t => t.lc.ir = 0x11 ∧ t.lc.dr = 0 ∧ t.lc.chal = s.lc.chal ∧ SameBut [.lc, .out] s t) :=
  ⟨s.jtag 0x11 0, (exec_tgtChallenge on dom n).trans (by rw [State.challenge_closed h]; rfl), rfl, rfl, rfl, s.jtag_frame _ _⟩

theorem tgtResponse_unlocks (n : Nat) (r : List Nat) : Answers (.tgtResponse n r) s (fun t => t.lc.ir = 0x12 ∧
    t.regs = (s.unlock (n % 4) r 0x12).2.regs ∧ t.lc.chal = (s.unlock (n % 4) r 0x12).2.lc.chal ∧
    t.lc.backoff = (s.unlock (n % 4) r 0x12).2.lc.backoff) :=
  ⟨_, if_neg (by rw [on, dom]; decide), rfl, rfl, rfl, rfl⟩

end

end Sys2Proof.Machine

open Sys2Proof.Machine Sys2Proof.Machine.Reg

/-- Settles O41: challenges and unlocks have one rule per outcome, and an instruction of the port loads its register or selects BYPASS. -/
theorem debugLevelsAndJtag : Obligations.DebugLevelsAndJtag := by
  unfold Obligations.DebugLevelsAndJtag
  refine ⟨⟨?challenge, ?unlock, fun s m c hready => debugLock_answers hready, fun s => ⟨challengeExpiry_spec, fun h => if_pos (by rw [h]; rfl)⟩, ?capture, ?tgt⟩,
    ?port, fun s => ⟨_, rfl, rfl, rfl, rfl, (SameBut.refl _ s).withLc _ (by simp)⟩, ?off⟩
  case challenge =>
    intro s m c hready
    refine ⟨fun h0 hnone => debugChallenge_answers hready (State.challenge_refused h0 hnone) fun t hdone hfrom => ⟨hdone, hfrom.lc⟩, fun hoff hback => ?_,
      fun hoff h0 hearly => debugChallenge_answers hready (State.challenge_busy hoff h0 hearly) fun t hdone hfrom => ⟨hdone, hfrom.lc⟩⟩
    refine debugChallenge_answers hready (State.challenge_issued hoff hback) fun t hdone hfrom => ⟨⟨_, ?_, hdone⟩, ?_, ?_, hfrom.same .freeCount (by decide)⟩
    · simp
    · exact ⟨_, congrArg LcSt.chal hfrom.lc, State.length_challengeBytes _ _, State.challengeBytes_level _ _⟩
    · rw [State.flag, hfrom.get _ (by decide)]
      exact congrArg (· == 1) (State.get_set_self _ _ _)
  case unlock =>
    rintro s m n c hready rfl
    have h3 : bits c.a0 1 0 < 2 ^ 2 := Nat.mod_lt _ (by decide)
    refine ⟨fun h => answers_reads rfl (execDebugUnlock_eq m s) hready (if_pos h) fun t hdone _ hsame _ => ⟨hdone, hsame .lc (by decide)⟩, fun hlen =>
      ⟨fun h0 => ?_, fun h0 hnone => ?_, fun h0 hfree => ?_, fun h0 hfree d hd hlevel htime a l ha => ?_, fun h0 hfree hsome hfail => ?_⟩⟩
    · refine debugUnlock_answers hready hlen (by rw [h0]; exact State.unlock_zero _ _ _) fun t hdone hfrom => ⟨hdone, (hfrom.get _ (by decide)).trans ?_⟩
      rw [State.get_set_ne _ _ _ _ (by decide)]
      exact State.get_set_self _ _ _
    · exact debugUnlock_answers hready hlen (State.unlock_none _ _ h0 hnone) fun t hdone hfrom => ⟨hdone, hfrom.lc, hfrom.regs⟩
    · obtain ⟨hl, hauth, -⟩ := (s.kmiUnpost m).levelOpen_spec (bits c.a0 1 0) 3 (leField (s.lc.chal.getD []) 32 4)
      exact debugUnlock_answers hready hlen (State.unlock_free _ _ h0 hfree) fun t hdone hfrom =>
        ⟨hdone, (hfrom.get _ (by decide)).trans (hl.trans (Nat.mod_eq_of_lt h3)), (hfrom.get _ (by decide)).trans hauth⟩
    · obtain ⟨hl, hauth, hfails, hchal, hback, hvalid⟩ := (s.kmiUnpost m).levelOpen_spec (bits c.a0 1 0) a (leField d 32 4)
      have ha4 : a < 2 ^ 2 := State.debugAuth_lt (List.mem_filter.mp (ha ▸ List.mem_cons_self)).1
      have hvouch : (s.kmiUnpost m).vouchers (bits c.a0 1 0) c.dataIn = a :: l := by
        rw [← ha, show d = s.lc.chal.getD [] by rw [hd]; rfl]
        rfl
      refine debugUnlock_answers hready hlen (State.unlock_opens _ _ h0 hfree hd hlevel htime hvouch) fun t hdone hfrom =>
        ⟨hdone, (hfrom.get _ (by decide)).trans (hl.trans (Nat.mod_eq_of_lt h3)), (hfrom.get _ (by decide)).trans (hauth.trans (Nat.mod_eq_of_lt ha4)),
          (hfrom.get _ (by decide)).trans hfails, (congrArg LcSt.chal hfrom.lc).trans hchal, (congrArg LcSt.backoff hfrom.lc).trans hback, ?_⟩
      rw [State.flag, hfrom.get _ (by decide), hvalid]
      rfl
    · obtain ⟨hl, hcnt, hfails, hchal, hvalid, hshort, hlong⟩ := (s.kmiUnpost m).unlockFailed_spec 0x0A04
      refine debugUnlock_answers hready hlen (State.unlock_fails _ _ h0 hfree hsome hfail) fun t hdone hfrom =>
        ⟨hdone, (hfrom.get _ (by decide)).trans hl, (hfrom.get _ (by decide)).trans hcnt, (hfrom.get _ (by decide)).trans hfails,
          (congrArg LcSt.chal hfrom.lc).trans hchal, ?_, fun h => (congrArg LcSt.backoff hfrom.lc).trans (hshort h),
          fun h => (congrArg LcSt.backoff hfrom.lc).trans (hlong h)⟩
      rw [State.flag, hfrom.get _ (by decide), hvalid]
      rfl
  case capture =>
    intro s m c hready
    refine ⟨fun h1 h2 h3 => ?_, ffCapture_badArg hready⟩
    have h : ¬(24 ≤ bits c.a0 4 0 ∨ bits c.a2 16 0 = 0 ∨ 3200 < bits c.a1 16 0 + bits c.a2 16 0) := by omega
    exact ⟨ffCapture_waits hready h, ffCapture_refused hready h, ffCapture_badState hready h⟩
  case tgt =>
    refine fun s n r => ⟨fun on dom => ⟨tgtChallenge_issued on dom, tgtChallenge_closed on dom, tgtResponse_unlocks on dom n r⟩, fun h => ?_⟩
    have hoff : (!s.jtagOn || !s.domOn 25) = true := by rcases h with h | h <;> simp [h]
    exact ⟨if_pos hoff, if_pos hoff⟩
  case port =>
    intro s on
    have hon : ¬(!s.jtagOn) = true := by rw [on]; decide
    have hload (u : State) : (Host.Outcome.next (if s.jtagOn then u else s) : Host.Outcome State Fault Refusal) = .next u := by rw [if_pos on]
    refine ⟨⟨_, hload _, rfl, rfl, s.jtag_frame _ _⟩, fun p => ⟨_, hload _, rfl, rfl, rfl, ?_⟩, fun n => ⟨_, hload _, rfl, rfl, s.jtag_frame _ _⟩,
      ⟨_, hload _, rfl, rfl, rfl, s.jtag_frame _ _⟩, fun hd2 => ?_, fun hd2 => ?_, fun room tile hroom htile => ?_, fun n hlo hhi => ?_⟩
    · exact ((SameBut.refl _ s).withLc _ (by simp)).step (State.jtag_frame _ _ _) (by simp)
    · obtain ⟨t, ht, hir, -, hbsr, hsame⟩ := jtag_recorded (i := .jtagClamp) (s := s) 3 0 3 ((if_neg hon).trans (if_pos hd2))
      obtain ⟨t', ht', hir', -, hbsr', hsame'⟩ := jtag_recorded (i := .highz) (s := s) 4 0 4 ((if_neg hon).trans (if_pos hd2))
      exact ⟨jtag_recorded 0 s.lc.bsr 0 ((if_neg hon).trans (if_pos hd2)), ⟨t, ht, hir, hbsr, hsame⟩, ⟨t', ht', hir', hbsr', hsame'⟩, dbgHalt_d2 on hd2⟩
    · have hd2' : ¬s.d2 = true := by rw [hd2]; decide
      exact ⟨⟨_, (if_neg hon).trans (if_neg hd2'), rfl, rfl, s.jtag_frame _ _⟩, jtag_bypass ((if_neg hon).trans (if_neg hd2')),
        jtag_bypass ((if_neg hon).trans (if_neg hd2')), fun h => jtag_bypass ((if_neg hon).trans (if_neg hd2'))⟩
    · have hunit : ¬(24 ≤ room ∨ 3200 ≤ tile) := by omega
      refine ⟨fun hact hff => ⟨_, (if_neg hunit).trans ((if_neg hon).trans (if_pos (by rw [hact, hff]; rfl))), rfl, rfl, s.jtag_frame _ _⟩, fun h => ?_⟩
      exact jtag_bypass ((if_neg hunit).trans ((if_neg hon).trans (if_neg (by rcases h with h | h <;> rw [h] <;> simp))))
    · have hunit : ¬(n < 0x30 ∨ 0x3F < n) := by omega
      refine ⟨fun h3 => ⟨_, (if_neg hunit).trans ((if_neg hon).trans (if_pos h3)), rfl, rfl, ?_⟩, fun h3 => jtag_bypass ((if_neg hunit).trans ((if_neg hon).trans (if_neg h3)))⟩
      exact (((SameBut.fresh s).mono (by simp)).step (State.jtag_frame _ _ _) (by simp))
  case off =>
    intro s hoff
    have hno := not_jtagOn hoff
    refine ⟨not_jtagOn_if hoff _, if_pos hno, if_pos hno, if_pos hno, not_jtagOn_if hoff _, fun h => if_pos hno, fun p => not_jtagOn_if hoff _,
      fun n => not_jtagOn_if hoff _, fun r k hr hk => (if_neg (by omega)).trans (if_pos hno), fun n hlo hhi => (if_neg (by omega)).trans (if_pos hno)⟩
end

section
/-! Life-cycle transitions (R541, R542, R546, R553): what a transition's start and a wrong token leave, and the proof of
Obligations.LifeCycleTransitions. -/

namespace Sys2Proof.Machine

open Reg

/-- What a field's programming starts from: debug closed, no self-test armed (R546). -/
def State.fieldStarted (s : State) (m n : Nat) : State := ((s.debugClose).set BST_ARM_SCOPE 0).fieldStart m n

theorem State.debugClose_spec (s : State) : SameBut [.kmi, .regs, .lc] s s.debugClose ∧ s.debugClose.get TGT_DBG_LEVEL = 0 := by
  obtain ⟨hsame, -, -⟩ := s.unhalt_frame
  unfold State.debugClose
  generalize s.unhalt = u at hsame
  extract_lets s1
  have hlevel : s1.get TGT_DBG_LEVEL = 0 := by
    simp (disch := decide) only [s1, State.get_set_ne, State.get_set_self, Nat.zero_mod]
  have hs1 : SameBut [.kmi, .regs, .lc] s s1 := ((((hsame.mono (by simp)).set (by simp)).set (by simp)).set (by simp)).set (by simp)
  exact ⟨hs1.withLc _ (by simp), (State.get_congr rfl _).trans hlevel⟩

theorem State.fieldStart_spec (s : State) (m n : Nat) : SameBut [.regs, .pnt] s (s.fieldStart m n) ∧
    RegsBut [OTP_STAT_BUSY] s (s.fieldStart m n) ∧ (s.fieldStart m n).pnt.otp = some (2, lcFieldData n, m + 1) ∧ (s.fieldStart m n).get OTP_STAT_BUSY = 1 :=
  ⟨(SameBut.step (l' := [.pnt]) (SameBut.refl _ s) (fun p hp => by cases p <;> simp at hp <;> rfl) (by simp)).set (by simp),
    ((RegsBut.refl _ s).upd rfl).set (by simp), rfl, State.get_set_self _ _ _⟩

theorem State.fieldStarted_spec (s : State) (m n : Nat) : SameBut [.kmi, .regs, .lc, .pnt] s (s.fieldStarted m n) ∧
    (s.fieldStarted m n).pnt.otp = some (2, lcFieldData n, m + 1) ∧ (s.fieldStarted m n).get TGT_DBG_LEVEL = 0 ∧
    (s.fieldStarted m n).get BST_ARM_SCOPE = 0 ∧ (s.fieldStarted m n).get OTP_STAT_BUSY = 1 := by
  obtain ⟨hsame, hlevel⟩ := s.debugClose_spec
  obtain ⟨hstart, hregs, hotp, hbusy⟩ := (s.debugClose.set BST_ARM_SCOPE 0).fieldStart_spec m n
  refine ⟨((hsame.mono (by simp)).set (by simp)).step hstart (by simp), hotp, ?_, ?_, hbusy⟩
  · exact (hregs.get_single (by decide)).trans ((State.get_set_ne _ _ _ _ (by decide)).trans hlevel)
  · exact (hregs.get_single (by decide)).trans (State.get_set_self _ _ _)

/-- A wrong token is counted (R551). -/
theorem State.authFail_spec (s : State) (op : Nat) : Counts s (s.authFail op) TGT_CNT_AUTH_FAIL 0 ∧ (s.authFail op).get TGT_LC_STATE = s.get TGT_LC_STATE ∧
    (s.authFail op).pnt = s.pnt :=
  ⟨(State.get2_ledger _ _ _ (by decide)).trans (State.get_set_self _ _ _),
    (State.get2_ledger _ _ _ (by decide)).trans (State.get_set_ne _ TGT_CNT_AUTH_FAIL _ _ (by decide)),
    SameBut.ledger _ _ _ .pnt (by decide)⟩

section
variable {s : State} {i : Instr} {op m : Nat} {c : KmiCmd} {body : KmiCmd → State → KmiRes}
  (hx : exec i s = kmiCommand op m body s) (hready : KmiReady s op m c)
include hx hready

/-- A transition command that starts to program its field. -/
theorem transition_starts {n key : Nat} (hb : body c (s.kmiUnpost m) = .run ((s.kmiUnpost m).fieldStarted m n) false key) :
    Answers i s (fun t => KmiRuns t m c ∧ t.pnt.otp = some (2, lcFieldData n, m + 1) ∧ t.get TGT_DBG_LEVEL = 0 ∧ t.get BST_ARM_SCOPE = 0 ∧
      t.flag OTP_STAT_BUSY = true ∧ t.otp = s.otp) := by
  obtain ⟨hsame, hotp, hlevel, harm, hbusy⟩ := (s.kmiUnpost m).fieldStarted_spec m n
  refine answers_run hx rfl hready hb fun hruns => ?_
  have hrun := SameBut.kmiRunning ((s.kmiUnpost m).fieldStarted m n) m c false key
  have hget (f : Fld) (hf : 0x600040 ≤ f.addr) : (((s.kmiUnpost m).fieldStarted m n).kmiRunning m c false key).get f =
      ((s.kmiUnpost m).fieldStarted m n).get f := State.get2_kmiRunning _ _ _ _ _ (key_ne_mbxState 0 0 hready.1 (.inl hf))
  refine ⟨hruns, (congrArg PntSt.otp (hrun .pnt (by decide))).trans hotp, (hget _ (by decide)).trans hlevel, (hget _ (by decide)).trans harm, ?_,
    (hrun .otp (by decide)).trans (hsame .otp (by decide))⟩
  rw [State.flag, hget _ (by decide), hbusy]
  rfl

/-- A transition command whose token is wrong. -/
theorem transition_authFail {k : Nat} (hb : body c (s.kmiUnpost m) = .fin ((s.kmiUnpost m).authFail k) stAuthFail 0 [] []) :
    Answers i s (fun t => KmiDone t m stAuthFail [] 0 ∧ Counts s t TGT_CNT_AUTH_FAIL 0 ∧ t.pnt = s.pnt ∧ t.get TGT_LC_STATE = s.get TGT_LC_STATE) := by
  obtain ⟨hcnt, hstate, hpnt⟩ := (s.kmiUnpost m).authFail_spec k
  refine answers_fin hx rfl hready hb (State.mbx_length_of_kept (State.authFail_kept _ k)) fun hdone _ => ?_
  have hfrom := deliveredFrom_kmiFinish (m := m) (c := c) ((s.kmiUnpost m).authFail k) hready.1 stAuthFail 0 0 [] []
  exact ⟨hdone, (hfrom.get _ (by decide)).trans hcnt, (hfrom.same .pnt (by decide)).trans hpnt, (hfrom.get _ (by decide)).trans hstate⟩

/-- A transition command that is refused. -/
theorem transition_refused {st : Nat} (hb : body c (s.kmiUnpost m) = .fin (s.kmiUnpost m) st 0 [] []) :
    Answers i s (fun t => KmiDone t m st [] 0 ∧ t.pnt = s.pnt ∧ RegsBut [KMI_MBX_STATE] s t) :=
  answers_reads hx rfl hready hb fun _ hdone _ hsame hregs => ⟨hdone, hsame .pnt (by decide), hregs⟩

end

/-! ### LC_ADVANCE, SCRAP and KEY_PROVISION (R416) -/

/-- The body of LC_ADVANCE. -/
def State.advanceBody (m : Nat) (c : KmiCmd) (s : State) : KmiRes :=
  let t := bits c.a0 2 0
  let k := s.get TGT_LC_STATE
  if t = 5 ∨ c.dataIn.length ≠ 96 then .fin s stBadArg 0 [] []
  else if t ≠ k + 1 ∨ 3 < k ∨ s.flag TGT_LC_INCOMPLETE = true ∨ s.flag TGT_LC_LC_BAD = true then .fin s stRefusedLc 0 [] []
  else if !s.tokenOk (if k ≤ 1 then 1 else 2) (s.serial ++ [k, t]) c.dataIn then .fin (s.authFail 0x0A02) stAuthFail 0 [] []
  else if !s.advanceOk k then .fin s stRefusedLc 0 [] []
  else .run (s.fieldStarted m t) false t

theorem execLcAdvance_eq (m : Nat) (s : State) : execLcAdvance m s = kmiCommand 0x0A02 m (fun c st => st.advanceBody m c) s := rfl

section
variable {s : State} {m : Nat} {c : KmiCmd}

theorem advance_badArg (h : bits c.a0 2 0 = 5 ∨ c.dataIn.length ≠ 96) : s.advanceBody m c = .fin s stBadArg 0 [] [] := if_pos h

theorem advance_refused (h5 : bits c.a0 2 0 ≠ 5) (hlen : c.dataIn.length = 96) (h : bits c.a0 2 0 ≠ s.get TGT_LC_STATE + 1 ∨ 3 < s.get TGT_LC_STATE ∨
    s.flag TGT_LC_INCOMPLETE = true ∨ s.flag TGT_LC_LC_BAD = true) : s.advanceBody m c = .fin s stRefusedLc 0 [] [] :=
  (if_neg (by simp [h5, hlen])).trans (if_pos h)

theorem advance_allowed {k : Nat} (hk : s.get TGT_LC_STATE = k) (ht : bits c.a0 2 0 = k + 1) (h3 : k ≤ 3) (hlen : c.dataIn.length = 96)
    (hinc : s.flag TGT_LC_INCOMPLETE = false) (hbad : s.flag TGT_LC_LC_BAD = false) : s.advanceBody m c =
      if !s.tokenOk (if k ≤ 1 then 1 else 2) (s.serial ++ [k, k + 1]) c.dataIn then .fin (s.authFail 0x0A02) stAuthFail 0 [] []
      else if !s.advanceOk k then .fin s stRefusedLc 0 [] [] else .run (s.fieldStarted m (k + 1)) false (k + 1) := by
  have harg : ¬(bits c.a0 2 0 = 5 ∨ c.dataIn.length ≠ 96) := fun h => h.elim (fun h5 => by omega) fun hne => hne hlen
  have hopen : ¬(bits c.a0 2 0 ≠ s.get TGT_LC_STATE + 1 ∨ 3 < s.get TGT_LC_STATE ∨ s.flag TGT_LC_INCOMPLETE = true ∨ s.flag TGT_LC_LC_BAD = true) := by
    rw [hinc, hbad, hk]
    simp only [Bool.false_eq_true, or_false]
    omega
  refine (if_neg harg).trans ((if_neg hopen).trans ?_)
  rw [hk, ht]

section
variable {k : Nat} (hk : s.get TGT_LC_STATE = k) (ht : bits c.a0 2 0 = k + 1) (h3 : k ≤ 3) (hlen : c.dataIn.length = 96)
  (hinc : s.flag TGT_LC_INCOMPLETE = false) (hbad : s.flag TGT_LC_LC_BAD = false)
include hk ht h3 hlen hinc hbad

theorem advance_authFail (h : s.tokenOk (if k ≤ 1 then 1 else 2) (s.serial ++ [k, k + 1]) c.dataIn = false) :
    s.advanceBody m c = .fin (s.authFail 0x0A02) stAuthFail 0 [] [] :=
  (advance_allowed hk ht h3 hlen hinc hbad).trans (if_pos (by rw [h]; rfl))

variable (h : s.tokenOk (if k ≤ 1 then 1 else 2) (s.serial ++ [k, k + 1]) c.dataIn = true)
include h

theorem advance_unmet (hpre : s.advanceOk k = false) : s.advanceBody m c = .fin s stRefusedLc 0 [] [] :=
  (advance_allowed hk ht h3 hlen hinc hbad).trans ((if_neg (by rw [h]; decide)).trans (if_pos (by rw [hpre]; rfl)))

theorem advance_starts (hpre : s.advanceOk k = true) : s.advanceBody m c = .run (s.fieldStarted m (k + 1)) false (k + 1) :=
  (advance_allowed hk ht h3 hlen hinc hbad).trans ((if_neg (by rw [h]; decide)).trans (if_neg (by rw [hpre]; decide)))

end

end

/-- The tokens that SCRAP asks for (R542). -/
def State.scrapTokens (s : State) (k : Nat) (data : List Nat) : Bool :=
  let msg := s.serial ++ [k, 5]
  let both := k == 2 && rowValid (s.otpRow 11)
  match k with
  | 0 => true
  | 3 => s.tokenOk 2 msg data
  | _ => s.tokenOk 1 msg (data.take 96) && (!both || s.tokenOk 2 msg (data.drop 96))

/-- A length of tokens that SCRAP does not take. -/
def State.scrapLength (s : State) (k n : Nat) : Bool :=
  if k == 2 && rowValid (s.otpRow 11) then n != 192 else if k = 0 then n != 0 && n != 96 else n != 96

/-- The body of SCRAP. -/
def State.scrapBody (m : Nat) (c : KmiCmd) (s : State) : KmiRes :=
  let k := s.get TGT_LC_STATE
  if s.flag TGT_LC_INCOMPLETE || decide (5 ≤ k) then .fin s stRefusedLc 0 [] []
  else if s.scrapLength k c.dataIn.length then .fin s stBadArg 0 [] []
  else if !s.scrapTokens k c.dataIn then .fin (s.authFail 0x0A07) stAuthFail 0 [] []
  else .run (s.fieldStarted m 5) false (5 + 8 * k)

theorem execScrap_eq (m : Nat) (s : State) : execScrap m s = kmiCommand 0x0A07 m (fun c st => st.scrapBody m c) s := rfl

section
variable {s : State} {m : Nat} {c : KmiCmd}

theorem scrap_refused (h : s.flag TGT_LC_INCOMPLETE = true ∨ 5 ≤ s.get TGT_LC_STATE) : s.scrapBody m c = .fin s stRefusedLc 0 [] [] :=
  if_pos (by simpa using h)

variable (hinc : s.flag TGT_LC_INCOMPLETE = false) {k : Nat} (hk : s.get TGT_LC_STATE = k) (h5 : k < 5)
include hinc hk h5

theorem scrap_allowed : s.scrapBody m c = if s.scrapLength k c.dataIn.length then .fin s stBadArg 0 [] []
    else if !s.scrapTokens k c.dataIn then .fin (s.authFail 0x0A07) stAuthFail 0 [] [] else .run (s.fieldStarted m 5) false (5 + 8 * k) := by
  subst hk
  exact if_neg (by simp [hinc, h5])

theorem scrap_badArg (h : s.scrapLength k c.dataIn.length = true) : s.scrapBody m c = .fin s stBadArg 0 [] [] :=
  (scrap_allowed hinc hk h5).trans (if_pos h)

variable (hlen : s.scrapLength k c.dataIn.length = false)
include hlen

theorem scrap_authFail (h : s.scrapTokens k c.dataIn = false) : s.scrapBody m c = .fin (s.authFail 0x0A07) stAuthFail 0 [] [] :=
  (scrap_allowed hinc hk h5).trans ((if_neg (by rw [hlen]; decide)).trans (if_pos (by rw [h]; rfl)))

theorem scrap_starts (h : s.scrapTokens k c.dataIn = true) : s.scrapBody m c = .run (s.fieldStarted m 5) false (5 + 8 * k) :=
  (scrap_allowed hinc hk h5).trans ((if_neg (by rw [hlen]; decide)).trans (if_neg (by rw [h]; decide)))

end

/-- Where one token of authority 1 is asked for, the data are it. -/
theorem State.scrapTokens_one {s : State} {k : Nat} {data : List Nat} (h : k = 1 ∨ k = 4 ∨ (k = 2 ∧ rowValid (s.otpRow 11) = false))
    (hlen : data.length = 96) : s.scrapTokens k data = s.tokenOk 1 (s.serial ++ [k, 5]) data := by
  have htake : data.take 96 = data := List.take_of_length_le (by omega)
  rcases h with rfl | rfl | ⟨rfl, hrow⟩ <;> simp [State.scrapTokens, *]

theorem State.scrapTokens_both {s : State} {data : List Nat} (h : rowValid (s.otpRow 11) = true) :
    s.scrapTokens 2 data = (s.tokenOk 1 (s.serial ++ [2, 5]) (data.take 96) && s.tokenOk 2 (s.serial ++ [2, 5]) (data.drop 96)) := by
  simp [State.scrapTokens, h]

/-- The row that KEY_PROVISION programs. -/
def keyRow (data : List Nat) : List Nat :=
  let row := [if data.length = 32 then 1 else 2, 0, 0, 0] ++ data ++ List.replicate (120 - data.length) 0
  row ++ leBytes 4 (crc32 row)

/-- A key row holds the key after its kind. -/
theorem keyRow_spec {data : List Nat} (h : data.length = 32 ∨ data.length = 96) :
    ((keyRow data).drop 4).take data.length = data ∧ (keyRow data).length = 128 := by
  constructor
  · simp [keyRow, List.append_assoc]
  · simp only [keyRow, List.length_append, List.length_replicate, length_leBytes, List.length_cons, List.length_nil]
    omega

/-- The programming of a key slot is under way. -/
def State.keyStarted (s : State) (m slot : Nat) (data : List Nat) : State :=
  { s with pnt := { s.pnt with otp := some (16 + slot, keyRow data, m + 1) } }.set OTP_STAT_BUSY 1

/-- The body of KEY_PROVISION. -/
def State.keyBody (m : Nat) (c : KmiCmd) (s : State) : KmiRes :=
  if 16 ≤ bits c.a0 7 0 ∨ (c.dataIn.length ≠ 32 ∧ c.dataIn.length ≠ 96) then .fin s stBadArg 0 [] []
  else if !((s.otpRow (16 + bits c.a0 7 0)).all (· == 0)) then .fin s stBadState 0 [] []
  else if s.flag OTP_STAT_BUSY then .fin s stBusy 0 [] []
  else .run (s.keyStarted m (bits c.a0 7 0) c.dataIn) false m

theorem execKeyProvision_eq (m : Nat) (s : State) : execKeyProvision m s = kmiCommand 0x0A06 m (fun c st => st.keyBody m c) s := rfl

section
variable {s : State} {m : Nat} {c : KmiCmd} (hslot : bits c.a0 7 0 < 16) (hlen : c.dataIn.length = 32 ∨ c.dataIn.length = 96)
include hslot hlen

theorem keyBody_args : ¬(16 ≤ bits c.a0 7 0 ∨ (c.dataIn.length ≠ 32 ∧ c.dataIn.length ≠ 96)) := by
  rintro (h | ⟨h32, h96⟩)
  · omega
  · exact hlen.elim h32 h96

theorem keyBody_badState (h : (s.otpRow (16 + bits c.a0 7 0)).all (· == 0) = false) : s.keyBody m c = .fin s stBadState 0 [] [] :=
  (if_neg (keyBody_args hslot hlen)).trans (if_pos (by rw [h]; rfl))

variable (h : (s.otpRow (16 + bits c.a0 7 0)).all (· == 0) = true)
include h

theorem keyBody_busy (hbusy : s.flag OTP_STAT_BUSY = true) : s.keyBody m c = .fin s stBusy 0 [] [] :=
  (if_neg (keyBody_args hslot hlen)).trans ((if_neg (by rw [h]; decide)).trans (if_pos hbusy))

theorem keyBody_starts (hbusy : s.flag OTP_STAT_BUSY = false) : s.keyBody m c = .run (s.keyStarted m (bits c.a0 7 0) c.dataIn) false m :=
  (if_neg (keyBody_args hslot hlen)).trans ((if_neg (by rw [h]; decide)).trans (if_neg (by rw [hbusy]; decide)))

end

/-- KEY_PROVISION that starts to program its slot. -/
theorem keyProvision_starts {s : State} {m : Nat} {c : KmiCmd} (hready : KmiReady s 0x0A06 m c) (hslot : bits c.a0 7 0 < 16)
    (hlen : c.dataIn.length = 32 ∨ c.dataIn.length = 96) (h : (s.otpRow (16 + bits c.a0 7 0)).all (· == 0) = true)
    (hbusy : s.flag OTP_STAT_BUSY = false) : Answers (.keyProvision m) s (fun t => KmiRuns t m c ∧
      (∃ d, t.pnt.otp = some (16 + bits c.a0 7 0, d, m + 1) ∧ (d.drop 4).take c.dataIn.length = c.dataIn ∧ d.length = 128) ∧
      t.flag OTP_STAT_BUSY = true ∧ t.otp = s.otp) := by
  refine answers_run rfl (execKeyProvision_eq m s) hready (keyBody_starts (s := s.kmiUnpost m) hslot hlen h hbusy) fun hruns =>
    ⟨hruns, ⟨_, rfl, keyRow_spec hlen⟩, ?_, rfl⟩
  have hget := ((s.kmiUnpost m).keyStarted m (bits c.a0 7 0) c.dataIn).get2_kmiRunning m c false m (f := OTP_STAT_BUSY) (i := 0) (j := 0)
    (key_ne_mbxState 0 0 hready.1 (.inl (by decide)))
  exact congrArg (· == 1) (hget.trans (State.get_set_self _ _ _))

end Sys2Proof.Machine

open Sys2Proof.Machine Sys2Proof.Machine.Reg

/-- Settles O40: each command's body takes one branch; a transition starts its field, refuses, or counts a wrong token. -/
theorem lifeCycleTransitions : Obligations.LifeCycleTransitions := by
  unfold Obligations.LifeCycleTransitions
  refine ⟨fun s m c hready => ?_, ?advance, ?scrap, ?key⟩
  · exact answers_reads (i := .lcStatus m) (op := 0x0A01) (body := fun _ st => .fin st stOk 0
      [(if st.flag TGT_LC_INCOMPLETE ∧ st.get TGT_LC_STATE < 4 then st.get TGT_LC_STATE + 1 else st.get TGT_LC_STATE) + 2 ^ 4 * st.get TGT_DBG_LEVEL +
        2 ^ 6 * b2n (st.flag TGT_LC_INCOMPLETE)] []) rfl rfl hready rfl fun t hdone _ hsame hregs => ⟨hdone, hsame, hregs⟩
  case advance =>
    intro s m k c hready hk
    have hx := execLcAdvance_eq m s
    refine ⟨fun h => ?_, fun h5 hlen h => ?_, fun ht h3 hlen hinc hbad => ?_⟩
    · obtain ⟨t, hnext, hdone, -, hregs⟩ := transition_refused (i := .lcAdvance m) hx hready (advance_badArg h)
      exact ⟨t, hnext, hdone, hregs⟩
    · obtain ⟨t, hnext, hdone, -, hregs⟩ := transition_refused (i := .lcAdvance m) hx hready (advance_refused h5 hlen (hk ▸ h))
      exact ⟨t, hnext, hdone, hregs⟩
    · refine ⟨fun htok => ?_, fun htok => ⟨fun hpre => ?_, fun hpre => ?_⟩⟩
      · rw [← hk]
        exact transition_authFail hx hready (advance_authFail (s := s.kmiUnpost m) hk ht h3 hlen hinc hbad htok)
      · obtain ⟨t, hnext, hdone, hpnt, -⟩ := transition_refused (i := .lcAdvance m) hx hready
          (advance_unmet (s := s.kmiUnpost m) hk ht h3 hlen hinc hbad htok hpre)
        exact ⟨t, hnext, hdone, hpnt⟩
      · exact transition_starts (i := .lcAdvance m) hx hready (advance_starts (s := s.kmiUnpost m) hk ht h3 hlen hinc hbad htok hpre)
  case scrap =>
    intro s m k c hready hk
    have hx := execScrap_eq m s
    have refused {st : Nat} (hb : (s.kmiUnpost m).scrapBody m c = .fin (s.kmiUnpost m) st 0 [] []) :
        ∃ t, execScrap m s = .next t ∧ KmiDone t m st [] 0 ∧ t.pnt = s.pnt := by
      obtain ⟨t, hnext, hdone, hpnt, -⟩ := transition_refused (i := .scrap m) hx hready hb
      exact ⟨t, hnext, hdone, hpnt⟩
    have fails (hinc : s.flag TGT_LC_INCOMPLETE = false) (h5 : k < 5) (hlen : s.scrapLength k c.dataIn.length = false)
        (htok : s.scrapTokens k c.dataIn = false) :
        ∃ t, execScrap m s = .next t ∧ KmiDone t m stAuthFail [] 0 ∧ Counts s t TGT_CNT_AUTH_FAIL 0 ∧ t.pnt = s.pnt := by
      obtain ⟨t, hnext, hdone, hcnt, hpnt, -⟩ := transition_authFail (i := .scrap m) hx hready (scrap_authFail hinc hk h5 hlen htok)
      exact ⟨t, hnext, hdone, hcnt, hpnt⟩
    have starts (hinc : s.flag TGT_LC_INCOMPLETE = false) (h5 : k < 5) (hlen : s.scrapLength k c.dataIn.length = false)
        (htok : s.scrapTokens k c.dataIn = true) := transition_starts (i := .scrap m) (n := 5) hx hready (scrap_starts (s := s.kmiUnpost m) hinc hk h5 hlen htok)
    have runs (hinc : s.flag TGT_LC_INCOMPLETE = false) (h5 : k < 5) (hlen : s.scrapLength k c.dataIn.length = false)
        (htok : s.scrapTokens k c.dataIn = true) :
        ∃ t, execScrap m s = .next t ∧ KmiRuns t m c ∧ t.pnt.otp = some (2, lcFieldData 5, m + 1) := by
      obtain ⟨t, hnext, hruns, hotp, -⟩ := starts hinc h5 hlen htok
      exact ⟨t, hnext, hruns, hotp⟩
    refine ⟨fun h => refused (scrap_refused (hk.symm ▸ h)), fun hinc h5 h96 h0 h192 => refused (scrap_badArg hinc hk h5 ?_), fun hinc h0 hlen => ?_,
      fun hinc h hlen => ?_, fun hinc h2 hrow hlen => ?_, fun hinc h3 hlen => ?_⟩
    · change s.scrapLength k c.dataIn.length = true
      unfold State.scrapLength
      split
      next hboth =>
        rw [Bool.and_eq_true, beq_iff_eq] at hboth
        exact bne_iff_ne.mpr (h192 hboth.1 hboth.2)
      next =>
        split
        next hz => simpa [h96] using h0 hz
        next => exact bne_iff_ne.mpr h96
    · subst h0
      obtain ⟨t, hnext, hruns, hotp, hlevel, -, -, hsame⟩ := starts hinc (by decide)
        (by rcases hlen with h | h <;> simp [State.scrapLength, h]) rfl
      exact ⟨t, hnext, hruns, hotp, hlevel, hsame⟩
    · have hlen' : s.scrapLength k c.dataIn.length = false := by
        rcases h with rfl | rfl | ⟨rfl, hrow⟩ <;> simp [State.scrapLength, *]
      have htok := State.scrapTokens_one h hlen
      exact ⟨fun hf => fails hinc (by omega) hlen' (htok.trans hf), fun ht => runs hinc (by omega) hlen' (htok.trans ht)⟩
    · subst h2
      have hlen' : s.scrapLength 2 c.dataIn.length = false := by simp [State.scrapLength, hrow, hlen]
      have htok := State.scrapTokens_both (data := c.dataIn) hrow
      exact ⟨fun h1 h2 => runs hinc (by decide) hlen' (htok.trans (by rw [h1, h2]; rfl)), fun h => fails hinc (by decide) hlen' (htok.trans
        (by rcases h with h | h <;> simp [h]))⟩
    · subst h3
      have hlen' : s.scrapLength 3 c.dataIn.length = false := by simp [State.scrapLength, hlen]
      exact ⟨fails hinc (by decide) hlen', runs hinc (by decide) hlen'⟩
  case key =>
    intro s m c hready
    have refused {st : Nat} (hb : (s.kmiUnpost m).keyBody m c = .fin (s.kmiUnpost m) st 0 [] []) :
        ∃ t, execKeyProvision m s = .next t ∧ KmiDone t m st [] 0 ∧ t.pnt = s.pnt := by
      obtain ⟨t, hnext, hdone, hpnt, -⟩ := transition_refused (i := .keyProvision m) (execKeyProvision_eq m s) hready hb
      exact ⟨t, hnext, hdone, hpnt⟩
    exact ⟨fun hslot hlen => ⟨keyProvision_starts hready hslot hlen, fun h => refused (keyBody_badState hslot hlen h), fun h hbusy =>
      refused (keyBody_busy hslot hlen h hbusy)⟩, fun h => refused (if_pos h)⟩
end
